-- ==== Sys2Proof/Word.lean ====
section
/-! DEFINITION. The two word types of the block: an octet, as every transport and memory of the part carries it (R11),
and the 32-bit word of an engine register (R522). -/
namespace Sys2Proof

/-- One octet. -/
abbrev Byte := BitVec 8

/-- One octet string, first byte first. -/
abbrev Bytes := List (BitVec 8)

/-- A Chaqua engine word. -/
abbrev Word32 := BitVec 32

end Sys2Proof
end

