-- ==== Sys2Proof/Syntax/Types.lean ====
section
/-! DEFINITION. The small types the operands of the commands use: who asks for a dictionary access, and over what. -/
namespace Sys2Proof

/-- Who makes a dictionary access, one per position of the access string H N E T F (00_scope.md): the host, network session
1 to 3, engine 0 to 7, the twin, a reader through the Hallmark field. -/
inductive Requester where
  | host
  | net (sid : Nat)
  | engine (n : Nat)
  | twin
  | field
deriving DecidableEq, Repr

/-- The transport a network message came over (R93): 10BASE-T1S, CAN 0 or CAN 1, with the sender's MAC and node address
(R62) where it has them; on CAN, whether the messages travel in CAN XL frames (R68). -/
inductive Transport where
  | t1s (mac : Bytes) (node : Nat)
  | can (ctrl : Nat) (xl : Bool)
deriving DecidableEq, Repr

/-- The carrier of a Zarique or transponder exchange (R156, R159): a BLE connection, an NFC port, an LF channel, or a message
that a worker relayed. -/
inductive Carrier where
  | ble (conn : Nat)
  | nfc (port : Nat)
  | lf (chan : Nat)
deriving DecidableEq, Repr

/-- A channel impulse response (07): taps above the noise floor, each with the time of its leading edge in units of 3.9125 ps
(TS42 scale, at the port) and its amplitude over the noise floor in dB. -/
abbrev Cir := List (Nat × Nat)

/-- What one UWB receive chain measured of a frame (R301 to R303, R307, R335): combined STS CIR, preamble CIR, for each STS
segment its correlation in percent and its CIR, the carrier phase at the first path in units of 2π/65,536, and the summed
correlation-peak energies of the two diversity dwells on each port, in units of 0.25 dB. -/
structure ChainRx where
  sts   : Cir
  pre   : Cir
  segs  : List (Nat × Cir)
  phase : Int
  eA    : Int
  eB    : Int
deriving DecidableEq, Repr

/-- What the antennas measured of one frame: chain 0 and chain 1, each none where it received nothing, the carrier offset of the sender
relative to this receiver in units of 2^-40 of the carrier (R306), and the received level at the ball in 0.25 dB (R346). -/
structure AirRx where
  c0  : Option ChainRx
  c1  : Option ChainRx
  cfo : Int
  level : Int
deriving DecidableEq, Repr

/-- An LF reply after its SYNC as judged half-cell by half-cell (R393): loaded, unloaded, or of unclear level. -/
abbrev Halves := List (Option Bool)

/-- The two transceivers of the RF domain (08). -/
inductive Xc where
  | uwb | ble
deriving DecidableEq, Repr

/-- One calibration of R327: kind 0 OSC, 1 FBW, 2 IRR, 3 DCO, and the channel, sub-band or chain. -/
structure CalJob where
  kind : Nat
  ix   : Nat
deriving DecidableEq, Repr

/-- The carrier phase of a card's answer in an activation (R413). -/
inductive CardStep where
  | atqA | atqB | select | ats | attrib | pps | app
deriving DecidableEq, Repr

/-- The sides of a dictionary access made by a command's requester, and what a write by the phone asks of ATT (R374). -/
inductive AttWrite where
  | request | command | prepare
deriving DecidableEq, Repr

/-- A CAN frame on the wire (R567): format 0 CLASSICAL, 1 FD, 2 FD with bit-rate switch, 3 XL; flags [2] SEC, [1] RTR; SDT, the
identifier with IDE in bit 31, AF, VCID and the data. -/
structure CanFrame where
  fmt   : Nat
  flags : Nat
  sdt   : Nat
  id    : Nat
  af    : Nat
  vcid  : Nat
  data  : Bytes
deriving DecidableEq, Repr

end Sys2Proof
end

