-- ==== Sys2Proof/Syntax.lean ====
section
/-! DEFINITION. The commands of the GZ4880: one constructor per row of spec/opcode_table.json, in its order, named after its mnemonic. The
first operand of each is the time of the command in units of 1/2496 microsecond (log entry 1); the others are what the sender or
the event brings. -/
namespace Sys2Proof

/-- A command. -/
inductive Instr where
  /-- SPI_STATUS (R53). -/
  | spiStatus (t : Nat)
  /-- SPI_WRITE_REQ (R55). -/
  | spiWriteReq (t : Nat) (pdu : Bytes)
  /-- SPI_READ_RSP (R57). -/
  | spiReadRsp (t : Nat) (n : Nat)
  /-- SPI_READ_NTF (R57). -/
  | spiReadNtf (t : Nat) (n : Nat)
  /-- SPI_UNDEFINED_COMMAND (R53). -/
  | spiUndefinedCommand (t : Nat) (cmd n : Nat)
  /-- DICT_RESPONSE_READY (R56). -/
  | dictResponseReady (t : Nat)
  /-- WRITE (R38). -/
  | write (t : Nat) (r : Requester) (idx sub : Nat) (data : Bytes)
  /-- PENDING_VALUE_APPLY (R39). -/
  | pendingValueApply (t : Nat) (idx sub : Nat)
  /-- SUBSCRIBE (R81). -/
  | subscribe (t : Nat) (r : Requester) (idx sub mode period gap : Nat)
  /-- UNSUBSCRIBE (R50). -/
  | unsubscribe (t : Nat) (r : Requester) (idx sub : Nat)
  /-- NOTIFY_PERIODIC (R81). -/
  | notifyPeriodic (t : Nat) (r : Requester) (idx sub : Nat)
  /-- LOGIN_HELLO (R69). -/
  | loginHello (t : Nat) (via : Transport) (seq : Nat) (d : Bytes)
  /-- LOGIN_PROOF (R69). -/
  | loginProof (t : Nat) (via : Transport) (seq : Nat) (d : Bytes)
  /-- LOGOUT (R76). -/
  | logout (t : Nat) (sid seq : Nat)
  /-- LOGIN_PROOF_TIMEOUT (R71). -/
  | loginProofTimeout (t : Nat) (sid : Nat)
  /-- SESSION_IDLE_TIMEOUT (R76). -/
  | sessionIdleTimeout (t : Nat) (sid : Nat)
  /-- REQUESTER_LOCKOUT_END (R73). -/
  | requesterLockoutEnd (t : Nat) (rid : Nat)
  /-- DICT_FRAME_T1S (R63). -/
  | dictFrameT1s (t : Nat) (da sa payload : Bytes)
  /-- CAN_FD_SEGMENT (R65). -/
  | canFdSegment (t : Nat) (c id : Nat) (d : Bytes)
  /-- CAN_FD_SEGMENT_TIMEOUT (R67). -/
  | canFdSegmentTimeout (t : Nat) (c : Nat)
  /-- CAN_XL_DICT_FRAME (R68). -/
  | canXlDictFrame (t : Nat) (c id sdt : Nat) (d : Bytes)
  /-- WAIRIL_FRAME (R78). -/
  | wairilFrame (t : Nat) (raw : Bytes) (fills : Nat)
  /-- V1_READ (R86). -/
  | v1Read (t : Nat) (f : Bytes)
  /-- V1_WRITE (R86). -/
  | v1Write (t : Nat) (f : Bytes)
  /-- UNLOCK_REQ (R85). -/
  | unlockReq (t : Nat) (f : Bytes)
  /-- UNLOCK_PROOF (R87). -/
  | unlockProof (t : Nat) (f : Bytes)
  /-- V1_UNLOCK_EXPIRY (R86). -/
  | v1UnlockExpiry (t : Nat)
  /-- V1_LOCKOUT_END (R87). -/
  | v1LockoutEnd (t : Nat)
  /-- DEV_COMMIT (R42). -/
  | devCommit (t : Nat) (r : Requester)
  /-- DEV_COMMIT_DONE (R42). -/
  | devCommitDone (t : Nat) (ok : Bool)
  /-- DEV_RESTORE_DEFAULTS (R96). -/
  | devRestoreDefaults (t : Nat) (r : Requester)
  /-- DEV_RESET_SYSTEM (R649). -/
  | devResetSystem (t : Nat) (r : Requester)
  /-- DEV_RESET_COLD (R649). -/
  | devResetCold (t : Nat) (r : Requester)
  /-- DEV_SELF_TEST (R95). -/
  | devSelfTest (t : Nat) (r : Requester)
  /-- DEV_SELF_TEST_DONE (R95). -/
  | devSelfTestDone (t : Nat) (fail : Nat) (sealBad : Bool)
  /-- CRED_CLOCK_CONFIRM (R124). -/
  | credClockConfirm (t : Nat) (r : Requester) (ceiling : Nat)
  /-- CRED_REVOKE (R131). -/
  | credRevoke (t : Nat) (r : Requester) (arg : Bytes)
  /-- VC_SECOND (R122). -/
  | vcSecond (t : Nat)
  /-- FLOOR_PERIOD (R125). -/
  | floorPeriod (t : Nat)
  /-- RESYNC_TIMEOUT (R138). -/
  | resyncTimeout (t : Nat)
  /-- JOURNAL_RECORD_DONE (R143). -/
  | journalRecordDone (t : Nat) (ok : Bool)
  /-- COMPACTION_START (R146). -/
  | compactionStart (t : Nat)
  /-- COMPACTION_PASS (R146). -/
  | compactionPass (t : Nat)
  /-- COMPACTION_SWITCH (R146). -/
  | compactionSwitch (t : Nat)
  /-- TOKEN_PROOF (R110). -/
  | tokenProof (t : Nat) (car : Carrier) (m : Bytes)
  /-- CRED_PROOF (R118). -/
  | credProof (t : Nat) (car : Carrier) (m : Bytes)
  /-- ATTEST (R129). -/
  | attest (t : Nat) (car : Carrier) (m : Bytes)
  /-- ENROL_CODE (R189). -/
  | enrolCode (t : Nat) (car : Carrier) (m : Bytes)
  /-- ENROL_REQUEST (R190). -/
  | enrolRequest (t : Nat) (car : Carrier) (m : Bytes)
  /-- REVOKE_REQUEST (R195). -/
  | revokeRequest (t : Nat) (car : Carrier) (m : Bytes)
  /-- END (R154). -/
  | endMessage (t : Nat) (car : Carrier) (m : Bytes)
  /-- ZARIQUE_DROP (R158). -/
  | zariqueDrop (t : Nat) (car : Carrier) (m : Bytes)
  /-- CHALLENGE (R166). -/
  | challenge (t : Nat) (conn : Nat)
  /-- PROMPT (R167). -/
  | prompt (t : Nat) (conn : Nat)
  /-- RANGING_SETUP (R163). -/
  | rangingSetup (t : Nat) (conn : Nat)
  /-- KEY_DELIVERY_ACK (R193). -/
  | keyDeliveryAck (t : Nat) (car : Carrier)
  /-- CHALLENGE_EXPIRY (R160). -/
  | challengeExpiry (t : Nat)
  /-- DOOR_OPEN_EDGE (R175). -/
  | doorOpenEdge (t : Nat) (n : Nat) (level : Bool) (held : Nat)
  /-- ENTRY_TIMEOUT (R176). -/
  | entryTimeout (t : Nat)
  /-- START_TIMEOUT (R176). -/
  | startTimeout (t : Nat)
  /-- IGN_IN_FALL (R179). -/
  | ignInFall (t : Nat)
  /-- IGN_IN_RISE (R178). -/
  | ignInRise (t : Nat)
  /-- LOCKOUT_END (R181). -/
  | lockoutEnd (t : Nat)
  /-- LOCKOUT_PERSIST (R185). -/
  | lockoutPersist (t : Nat)
  /-- LEARN_WINDOW_EXPIRY (R194). -/
  | learnWindowExpiry (t : Nat)
  /-- ACC_LEARN_CANCEL (R194). -/
  | accLearnCancel (t : Nat) (r : Requester)
  /-- ACC_REVOKE_TOKEN (R195). -/
  | accRevokeToken (t : Nat) (r : Requester) (tid : Nat)
  /-- ACC_LOCKOUT_CLEAR (R187). -/
  | accLockoutClear (t : Nat) (r : Requester) (arg : Bytes)
  /-- ACC_ENROL_IMPORT (R192). -/
  | accEnrolImport (t : Nat) (r : Requester) (arg : Bytes)
  /-- EVIDENCE_ITEM (R210). -/
  | evidenceItem (t : Nat) (item : Bytes) (own : Option Nat)
  /-- EVALUATION_DONE (R231). -/
  | evaluationDone (t : Nat)
  /-- REQUEST_WINDOW_END (R231). -/
  | requestWindowEnd (t : Nat) (tsh gate : Nat)
  /-- VETO_HOLD_END (R215). -/
  | vetoHoldEnd (t : Nat)
  /-- ROUND_GRACE_EXPIRY (R234). -/
  | roundGraceExpiry (t : Nat) (tsh gate : Nat)
  /-- VERDICT_EXPIRY (R235). -/
  | verdictExpiry (t : Nat) (tsh gate : Nat)
  /-- TS_APPLY (R222). -/
  | tsApply (t : Nat) (r : Requester)
  /-- SEAL_ISSUE (R26). -/
  | sealIssue (t : Nat) (tsh gate : Nat)
  /-- PULSE_END (R241). -/
  | pulseEnd (t : Nat) (isB : Bool) (n : Nat)
  /-- DEAD_TIME_END (R242). -/
  | deadTimeEnd (t : Nat) (grp : Nat)
  /-- GATE_LOCK (R241). -/
  | gateLock (t : Nat) (r : Requester)
  /-- GATE_RB_SAMPLE (R248). -/
  | gateRbSample (t : Nat) (gate : Nat) (level : Bool)
  /-- START_EN_LIMIT (R244). -/
  | startEnLimit (t : Nat)
  /-- GATE_FAULT_CLEAR (R249). -/
  | gateFaultClear (t : Nat) (r : Requester) (gate : Nat)
  /-- GATE_QUENCH (R269). -/
  | gateQuench (t : Nat) (r : Requester) (arg : Nat)
  /-- SEAL_PATH_FAULT (R266). -/
  | sealPathFault (t : Nat)
  /-- IMMO_CHALLENGE (R256). -/
  | immoChallenge (t : Nat) (f : Bytes)
  /-- IMMO_ACK (R257). -/
  | immoAck (t : Nat) (f : Bytes)
  /-- IMMO_RELEASE_PERIOD (R252). -/
  | immoReleasePeriod (t : Nat)
  /-- IMMO_WAIT_EXPIRY (R256). -/
  | immoWaitExpiry (t : Nat)
  /-- LIMITER_CUT (R262). -/
  | limiterCut (t : Nat) (lim ch : Nat)
  /-- GPIO_HOLD_EXPIRY (R263). -/
  | gpioHoldExpiry (t : Nat) (pin : Nat)
  /-- BLOCK_START (R291). -/
  | blockStart (t : Nat) (tsh : Nat)
  /-- OPPORTUNITY_START (R293). -/
  | opportunityStart (t : Nat)
  /-- UWB_FRAME_LAUNCH (R280). -/
  | uwbFrameLaunch (t : Nat) (slot onAir : Nat)
  /-- UWB_RESPONSE (R304). -/
  | uwbResponse (t : Nat) (psdu : Bytes) (air : AirRx)
  /-- UWB_REPORT (R305). -/
  | uwbReport (t : Nat) (psdu : Bytes)
  /-- BLINK (R309). -/
  | blink (t : Nat) (psdu : Bytes) (air : AirRx)
  /-- UWB_SYNC (R616). -/
  | uwbSync (t : Nat) (slot : Nat) (psdu : Bytes) (air : AirRx)
  /-- UWB_RX_WINDOW_END (R323). -/
  | uwbRxWindowEnd (t : Nat)
  /-- ROUND_CLOSE (R310). -/
  | roundClose (t : Nat)
  /-- UWB_AUX_TX (R312). -/
  | uwbAuxTx (t : Nat) (r : Requester) (arg : Bytes)
  /-- UWB_AUX_RX (R313). -/
  | uwbAuxRx (t : Nat) (r : Requester) (arg : Bytes)
  /-- UWB_AUX_DONE (R314). -/
  | uwbAuxDone (t : Nat) (onAir : Nat) (rx : Option (Bytes × AirRx))
  /-- TRANSCEIVER_REQUEST (R322). -/
  | transceiverRequest (t : Nat) (xc : Xc) (cls : Nat) (tx : Bool) (at_ fin : Option Nat) (chan : Nat) (lateOk : Bool) (who : Option Requester)
  /-- SYNTH_LOCKED (R318). -/
  | synthLocked (t : Nat) (xc : Xc)
  /-- SYNTH_LOCK_TIMEOUT (R326). -/
  | synthLockTimeout (t : Nat) (xc : Xc)
  /-- PACKET_END (R320). -/
  | packetEnd (t : Nat) (xc : Xc) (planned : Option Bool)
  /-- KEEP_READY_EXPIRY (R321). -/
  | keepReadyExpiry (t : Nat) (xc : Xc)
  /-- OFF_DELAY_EXPIRY (R321). -/
  | offDelayExpiry (t : Nat) (xc : Xc)
  /-- GAP_CALIBRATION_START (R330). -/
  | gapCalibrationStart (t : Nat) (xc : Xc)
  /-- FORCED_CALIBRATION_START (R331). -/
  | forcedCalibrationStart (t : Nat) (xc : Xc)
  /-- CALIBRATION_DONE (R328). -/
  | calibrationDone (t : Nat) (xc : Xc) (vals : List Int) (metric : Int)
  /-- RFC_CAL_RUN (R351). -/
  | rfcCalRun (t : Nat) (r : Requester) (arg : Nat)
  /-- ANNEAL_TICK (R670). -/
  | annealTick (t : Nat) (temp : Int)
  /-- ADVERTISING_EVENT (R361). -/
  | advertisingEvent (t : Nat) (onAir : Nat)
  /-- CONNECTION_OPEN (R356). -/
  | connectionOpen (t : Nat) (interval latency timeout phy : Nat) (update : Bool)
  /-- CONNECTION_CLOSE (R154). -/
  | connectionClose (t : Nat) (conn : Nat)
  /-- CONNECTION_EVENT (R369). -/
  | connectionEvent (t : Nat) (conn : Nat) (overlap : List Nat) (rssi : Option Int) (dwell : Int × Int) (onAir more : Nat)
  /-- MTU_EXCHANGE (R366). -/
  | mtuExchange (t : Nat) (conn mtu : Nat)
  /-- CCCD_WRITE (R166). -/
  | cccdWrite (t : Nat) (conn handle value : Nat)
  /-- SMP_PAIRING_REQUEST (R355). -/
  | smpPairingRequest (t : Nat) (conn : Nat)
  /-- LL_ENC_REQ (R355). -/
  | llEncReq (t : Nat) (conn : Nat)
  /-- PHY_UPDATE (R356). -/
  | phyUpdate (t : Nat) (conn phy : Nat)
  /-- CONNECTION_PARAM_REQUEST (R356). -/
  | connectionParamRequest (t : Nat) (conn interval latency timeout : Nat)
  /-- NO_SESSION_LIMIT (R363). -/
  | noSessionLimit (t : Nat) (conn : Nat)
  /-- BOOST_EXPIRY (R362). -/
  | boostExpiry (t : Nat)
  /-- BLE_ENG_PUBLISH (R372). -/
  | bleEngPublish (t : Nat) (r : Requester) (arg : Bytes)
  /-- BLE_ENG_NOTIFY (R375). -/
  | bleEngNotify (t : Nat) (r : Requester) (arg : Bytes)
  /-- BLE_ENG_RELEASE (R371). -/
  | bleEngRelease (t : Nat) (r : Requester) (arg : Bytes)
  /-- BLE_ENG_RX (R374). -/
  | bleEngRx (t : Nat) (r : Requester) (arg : Bytes)
  /-- ENGINE_CHAR_WRITE (R374). -/
  | engineCharWrite (t : Nat) (conn handle : Nat) (kind : AttWrite) (d : Bytes)
  /-- ATT_READ (R374). -/
  | attRead (t : Nat) (conn handle : Nat)
  /-- INDICATION_CONFIRM (R375). -/
  | indicationConfirm (t : Nat) (conn : Nat)
  /-- CAP_SCAN (R379). -/
  | capScan (t : Nat) (cs : List Nat)
  /-- CAP_CONFIRM_MEASURE (R381). -/
  | capConfirmMeasure (t : Nat) (n c : Nat)
  /-- CAP_STUCK (R384). -/
  | capStuck (t : Nat) (n : Nat)
  /-- TOUCH_HANDOFF (R385). -/
  | touchHandoff (t : Nat) (n : Nat)
  /-- LF_EXCHANGE_START (R389). -/
  | lfExchangeStart (t : Nat) (vlf : Nat)
  /-- LF_DRIVE_MEASURE (R390). -/
  | lfDriveMeasure (t : Nat) (peak : Nat) (phase : Int) (short hot : Bool)
  /-- LF_OVERCURRENT_CUT (R387). -/
  | lfOvercurrentCut (t : Nat)
  /-- LF_CARRIER_RETURN (R395). -/
  | lfCarrierReturn (t : Nat)
  /-- SEG1 (R399). -/
  | seg1 (t : Nat) (halves : Halves)
  /-- LF_NO_SYNC (R398). -/
  | lfNoSync (t : Nat)
  /-- SEG2 (R399). -/
  | seg2 (t : Nat) (halves : Halves) (snr : Nat)
  /-- REPLY (R399). -/
  | reply (t : Nat) (halves : Halves) (snr : Nat)
  /-- UID (R402). -/
  | uid (t : Nat) (halves : Halves)
  /-- CONFIRM (R403). -/
  | confirm (t : Nat) (halves : Halves)
  /-- LF_DIAG_RUN (R391). -/
  | lfDiagRun (t : Nat) (r : Requester) (ch peak : Nat) (phase : Int) (short hot ovr : Bool) (vlf : Nat)
  /-- VLF_RECOVER (R391). -/
  | vlfRecover (t : Nat) (vlf : Nat)
  /-- NFC_PING (R411). -/
  | nfcPing (t : Nat) (p ext : Nat) (amp phase : Int)
  /-- NFC_ACTIVATION (R413). -/
  | nfcActivation (t : Nat) (p ext vnfc cur : Nat) (phase : Int)
  /-- NFC_CARD_FRAME (R413). -/
  | nfcCardFrame (t : Nat) (p : Nat) (step : CardStep) (d : Bytes)
  /-- NFC_RESERVE_ATTEMPT (R414). -/
  | nfcReserveAttempt (t : Nat) (p ext vnfc cur : Nat) (phase : Int)
  /-- NFC_R_APDU (R415). -/
  | nfcRApdu (t : Nat) (p : Nat) (d : Bytes)
  /-- NFC_RESPONSE_TIMEOUT (R415). -/
  | nfcResponseTimeout (t : Nat) (p : Nat) (failed : Bool)
  /-- NFC_IDLE_END (R416). -/
  | nfcIdleEnd (t : Nat) (p : Nat)
  /-- NFC_EXCHANGE_MAX (R416). -/
  | nfcExchangeMax (t : Nat) (p : Nat)
  /-- NFC_REACTIVATE (R417). -/
  | nfcReactivate (t : Nat) (p ext vnfc cur : Nat) (phase : Int)
  /-- NFC_OVERCURRENT_CUT (R419). -/
  | nfcOvercurrentCut (t : Nat) (p : Nat)
  /-- NFC_FAULT_CLEAR (R419). -/
  | nfcFaultClear (t : Nat) (r : Requester) (arg : Bytes)
  /-- VNFC_RECOVER (R419). -/
  | vnfcRecover (t : Nat) (vnfc : Nat)
  /-- FIELD_POWER_UP (R434). -/
  | fieldPowerUp (t : Nat) (byField : Bool)
  /-- TEAR_RECOVERY_END (R434). -/
  | tearRecoveryEnd (t : Nat)
  /-- FIELD_LOSS (R422). -/
  | fieldLoss (t : Nat) (step : Nat)
  /-- REQA (R422). -/
  | reqa (t : Nat)
  /-- WUPA (R422). -/
  | wupa (t : Nat)
  /-- ANTICOLLISION (R423). -/
  | anticollision (t : Nat) (level : Nat) (select : Bool) (known : Bytes)
  /-- RATS (R436). -/
  | rats (t : Nat)
  /-- PPS_REQUEST (R423). -/
  | ppsRequest (t : Nat) (pps1 : Nat)
  /-- HLTA (R422). -/
  | hlta (t : Nat)
  /-- S_DESELECT (R422). -/
  | sDeselect (t : Nat)
  /-- SELECT_APPLICATION (R424). -/
  | selectApplication (t : Nat) (aid : Bytes)
  /-- SELECT_FILE (R425). -/
  | selectFile (t : Nat) (fid : Nat)
  /-- READ_BINARY (R425). -/
  | readBinary (t : Nat) (off le : Nat)
  /-- UPDATE_BINARY (R425). -/
  | updateBinary (t : Nat)
  /-- GET_INFO (R426). -/
  | getInfo (t : Nat)
  /-- AUTH_BEGIN (R427). -/
  | authBegin (t : Nat) (key : Nat)
  /-- AUTH_FINISH (R427). -/
  | authFinish (t : Nat) (key : Nat) (data : Bytes)
  /-- GET_RECORD_INFO (R426). -/
  | getRecordInfo (t : Nat) (n : Nat)
  /-- READ_RECORD (R428). -/
  | readRecord (t : Nat) (n : Nat) (data : Bytes)
  /-- WRITE_RECORD (R433). -/
  | writeRecord (t : Nat) (n : Nat) (data : Bytes)
  /-- TAG_BAD_APDU (R426). -/
  | tagBadApdu (t : Nat) (cla ins p1 : Nat)
  /-- TAG_WRITE_DONE (R433). -/
  | tagWriteDone (t : Nat)
  /-- TAG_REC_WRITE (R435). -/
  | tagRecWrite (t : Nat) (r : Requester) (n : Nat) (data : Bytes)
  /-- TAG_REC_ACL_WRITE (R433). -/
  | tagRecAclWrite (t : Nat) (r : Requester) (acl : Nat)
  /-- TAG_NDEF_STAGE (R439). -/
  | tagNdefStage (t : Nat) (r : Requester) (off : Nat) (data : Bytes)
  /-- TAG_NDEF_COMMIT (R439). -/
  | tagNdefCommit (t : Nat) (r : Requester) (nlen : Nat)
  /-- TAG_KEY_WRITE (R496). -/
  | tagKeyWrite (t : Nat) (r : Requester) (k : Nat) (blob : Bytes)
  /-- TAG_KEY_UNBLOCK (R430). -/
  | tagKeyUnblock (t : Nat) (r : Requester) (k : Nat)
  /-- CX_SUBMIT (R459). -/
  | cxSubmit (t : Nat) (r : Requester) (d : Bytes)
  /-- CX_TAKE_RESULT (R460). -/
  | cxTakeResult (t : Nat) (r : Requester)
  /-- CX_BLOCK_DONE (R445). -/
  | cxBlockDone (t : Nat) (core : Nat)
  /-- CX_REQUEST_DONE (R460). -/
  | cxRequestDone (t : Nat) (page : Nat)
  /-- KEY_IMPORT (R496). -/
  | keyImport (t : Nat) (r : Requester) (arg : Bytes)
  /-- KEY_GENERATE (R497). -/
  | keyGenerate (t : Nat) (r : Requester) (arg : Bytes)
  /-- KEY_DERIVE (R498). -/
  | keyDerive (t : Nat) (r : Requester) (arg : Bytes)
  /-- KEY_EXPORT (R499). -/
  | keyExport (t : Nat) (r : Requester) (arg : Bytes)
  /-- KEY_ERASE (R490). -/
  | keyErase (t : Nat) (r : Requester) (arg : Bytes)
  /-- KEY_ZEROIZE (R491). -/
  | keyZeroize (t : Nat) (r : Requester) (arg : Bytes)
  /-- KEY_ZEROIZE_ALL (R493). -/
  | keyZeroizeAll (t : Nat) (r : Requester) (arg : Bytes)
  /-- ZEROIZE_OVERWRITE_DONE (R491). -/
  | zeroizeOverwriteDone (t : Nat) (slot : Nat)
  /-- KEY_MIRROR (R501). -/
  | keyMirror (t : Nat) (p : Bytes) (wl : Bool)
  /-- KEY_MIRROR_ACK (R501). -/
  | keyMirrorAck (t : Nat) (p : Bytes) (wl : Bool)
  /-- KEY_MIRROR_TIMEOUT (R502). -/
  | keyMirrorTimeout (t : Nat)
  /-- SOURCE_SETTLED (R506). -/
  | sourceSettled (t : Nat) (src : Nat)
  /-- ASSAY_BLOCK (R505). -/
  | assayBlock (t : Nat) (src : Nat) (blk : Bytes)
  /-- SOURCE_RESTART_DONE (R507). -/
  | sourceRestartDone (t : Nat) (src : Nat)
  /-- DRBG_RESEED (R513). -/
  | drbgReseed (t : Nat)
  /-- RESEED_LIMIT (R513). -/
  | reseedLimit (t : Nat)
  /-- DRBG_GENERATE (R514). -/
  | drbgGenerate (t : Nat)
  /-- RNG_RANDOM (R515). -/
  | rngRandom (t : Nat) (r : Requester)
  /-- ADD (R529). -/
  | add (t : Nat) (e : Nat)
  /-- SUB (R529). -/
  | sub (t : Nat) (e : Nat)
  /-- AND (R529). -/
  | and_ (t : Nat) (e : Nat)
  /-- OR (R529). -/
  | or_ (t : Nat) (e : Nat)
  /-- XOR (R529). -/
  | xor_ (t : Nat) (e : Nat)
  /-- SHL (R529). -/
  | shl (t : Nat) (e : Nat)
  /-- SHR (R529). -/
  | shr (t : Nat) (e : Nat)
  /-- SAR (R529). -/
  | sar (t : Nat) (e : Nat)
  /-- ADDI (R529). -/
  | addi (t : Nat) (e : Nat)
  /-- ANDI (R529). -/
  | andi (t : Nat) (e : Nat)
  /-- ORI (R529). -/
  | ori (t : Nat) (e : Nat)
  /-- XORI (R529). -/
  | xori (t : Nat) (e : Nat)
  /-- SHLI (R529). -/
  | shli (t : Nat) (e : Nat)
  /-- SHRI (R529). -/
  | shri (t : Nat) (e : Nat)
  /-- SARI (R529). -/
  | sari (t : Nat) (e : Nat)
  /-- LDI (R529). -/
  | ldi (t : Nat) (e : Nat)
  /-- LUI (R529). -/
  | lui (t : Nat) (e : Nat)
  /-- MUL (R530). -/
  | mul (t : Nat) (e : Nat)
  /-- MULS (R530). -/
  | muls (t : Nat) (e : Nat)
  /-- MUL_RESULT (R530). -/
  | mulResult (t : Nat) (e : Nat)
  /-- MOV (R529). -/
  | mov (t : Nat) (e : Nat)
  /-- CLZ (R529). -/
  | clz (t : Nat) (e : Nat)
  /-- BSWAP (R529). -/
  | bswap (t : Nat) (e : Nat)
  /-- CMP (R529). -/
  | cmp (t : Nat) (e : Nat)
  /-- CMPI (R529). -/
  | cmpi (t : Nat) (e : Nat)
  /-- PLOG (R529). -/
  | plog (t : Nat) (e : Nat)
  /-- LDW (R525). -/
  | ldw (t : Nat) (e : Nat)
  /-- LDH (R525). -/
  | ldh (t : Nat) (e : Nat)
  /-- LDB (R525). -/
  | ldb (t : Nat) (e : Nat)
  /-- STW (R525). -/
  | stw (t : Nat) (e : Nat)
  /-- STH (R525). -/
  | sth (t : Nat) (e : Nat)
  /-- STB (R525). -/
  | stb (t : Nat) (e : Nat)
  /-- LDWP (R529). -/
  | ldwp (t : Nat) (e : Nat)
  /-- STWP (R529). -/
  | stwp (t : Nat) (e : Nat)
  /-- LDO (R539). -/
  | ldo (t : Nat) (e : Nat)
  /-- LDO_READ_RECORD (R539). -/
  | ldoReadRecord (t : Nat) (e : Nat)
  /-- STO (R539). -/
  | sto (t : Nat) (e : Nat)
  /-- STO_EXEC (R539). -/
  | stoExec (t : Nat) (e : Nat)
  /-- ENGINE_DICT_COMPLETE (R541). -/
  | engineDictComplete (t : Nat) (e : Nat)
  /-- BR (R529). -/
  | br (t : Nat) (e : Nat)
  /-- CALL (R533). -/
  | call (t : Nat) (e : Nat)
  /-- RET (R533). -/
  | ret (t : Nat) (e : Nat)
  /-- JR (R529). -/
  | jr (t : Nat) (e : Nat)
  /-- CALLR (R533). -/
  | callr (t : Nat) (e : Nat)
  /-- RPT (R531). -/
  | rpt (t : Nat) (e : Nat)
  /-- RPTR (R531). -/
  | rptr (t : Nat) (e : Nat)
  /-- MFS (R523). -/
  | mfs (t : Nat) (e : Nat)
  /-- MTS (R523). -/
  | mts (t : Nat) (e : Nat)
  /-- WFE (R535). -/
  | wfe (t : Nat) (e : Nat)
  /-- WAITT (R536). -/
  | waitt (t : Nat) (e : Nat)
  /-- ENGINE_EVENT_WAKE (R535). -/
  | engineEventWake (t : Nat) (e : Nat)
  /-- WAITT_DEADLINE (R536). -/
  | waittDeadline (t : Nat) (e : Nat)
  /-- SEV (R537). -/
  | sev (t : Nat) (e : Nat)
  /-- STOP (R529). -/
  | stop (t : Nat) (e : Nat)
  /-- NOP (R529). -/
  | nop (t : Nat) (e : Nat)
  /-- ILLEGAL_OP (R543). -/
  | illegalOp (t : Nat) (e : Nat)
  /-- ENGINE_WATCHDOG (R544). -/
  | engineWatchdog (t : Nat) (e : Nat)
  /-- TRAP_RESTART (R545). -/
  | trapRestart (t : Nat) (e : Nat)
  /-- BREAKPOINT_HIT (R557). -/
  | breakpointHit (t : Nat) (e : Nat)
  /-- ENG_CONTROL_START (R551). -/
  | engControlStart (t : Nat) (r : Requester) (e : Nat)
  /-- ENG_CONTROL_STOP (R551). -/
  | engControlStop (t : Nat) (r : Requester) (e : Nat)
  /-- ENG_CONTROL_RESTART (R551). -/
  | engControlRestart (t : Nat) (r : Requester) (e : Nat)
  /-- ENG_LOAD_BEGIN (R548). -/
  | engLoadBegin (t : Nat) (r : Requester) (e total : Nat)
  /-- ENG_LOAD_DATA (R548). -/
  | engLoadData (t : Nat) (r : Requester) (off : Nat) (data : Bytes)
  /-- ENG_LOAD_COMMIT (R549). -/
  | engLoadCommit (t : Nat) (r : Requester)
  /-- ENG_LOAD_COMMIT_DONE (R547). -/
  | engLoadCommitDone (t : Nat)
  /-- ENG_LOAD_ABORT (R548). -/
  | engLoadAbort (t : Nat) (r : Requester)
  /-- ENG_LOAD_TIMEOUT (R548). -/
  | engLoadTimeout (t : Nat)
  /-- ENG_DOORBELL (R554). -/
  | engDoorbell (t : Nat) (r : Requester) (e v : Nat)
  /-- ENG_DOORBELL_RX (R554). -/
  | engDoorbellRx (t : Nat) (r : Requester)
  /-- ENG_OBJ_WRITE_RX (R554). -/
  | engObjWriteRx (t : Nat) (r : Requester)
  /-- GPIO_EDGE (R555). -/
  | gpioEdge (t : Nat) (pin : Nat) (level : Bool)
  /-- ID (R556). -/
  | dbgIdent (t : Nat) (f : Bytes)
  /-- UNLOCK (R557). -/
  | dbgUnlock (t : Nat) (f : Bytes)
  /-- HALT (R556). -/
  | dbgHalt (t : Nat) (f : Bytes)
  /-- RUN (R556). -/
  | dbgRun (t : Nat) (f : Bytes)
  /-- STEP (R556). -/
  | dbgStep (t : Nat) (f : Bytes)
  /-- REG_READ (R556). -/
  | dbgRegRead (t : Nat) (f : Bytes)
  /-- REG_WRITE (R556). -/
  | dbgRegWrite (t : Nat) (f : Bytes)
  /-- MEM_READ (R556). -/
  | dbgMemRead (t : Nat) (f : Bytes)
  /-- MEM_WRITE (R557). -/
  | dbgMemWrite (t : Nat) (f : Bytes)
  /-- BREAK (R556). -/
  | dbgBreak (t : Nat) (f : Bytes)
  /-- CAN_FRAME_RX (R564). -/
  | canFrameRx (t : Nat) (c : Nat) (f : CanFrame) (sof : Nat)
  /-- NET_CAN_TX (R567). -/
  | netCanTx (t : Nat) (r : Requester) (arg : Bytes)
  /-- NET_CAN_RX (R566). -/
  | netCanRx (t : Nat) (r : Requester)
  /-- NET_CAN_RECOVER (R570). -/
  | netCanRecover (t : Nat) (r : Requester) (c : Nat)
  /-- CAN_BUS_OFF (R570). -/
  | canBusOff (t : Nat) (c : Nat)
  /-- CAN_BUS_OFF_RECOVERY (R570). -/
  | canBusOffRecovery (t : Nat) (c : Nat)
  /-- CAN_FRAME_TX_DONE (R579). -/
  | canFrameTxDone (t : Nat) (c : Nat) (sof won : Nat)
  /-- LAUNCH_TIME_REACHED (R577). -/
  | launchTimeReached (t : Nat)
  /-- NET_ETH_TX (R576). -/
  | netEthTx (t : Nat) (r : Requester) (arg : Bytes)
  /-- NET_ETH_RX (R575). -/
  | netEthRx (t : Nat) (r : Requester)
  /-- NET_TX_DONE (R579). -/
  | netTxDone (t : Nat) (r : Requester)
  /-- T1S_FRAME_RX (R575). -/
  | t1sFrameRx (t : Nat) (da sa : Bytes) (etype : Nat) (payload : Bytes) (fcsOk : Bool) (sfd : Nat)
  /-- T1S_FRAME_TX_DONE (R579). -/
  | t1sFrameTxDone (t : Nat) (sfd : Nat) (coll : Bool)
  /-- PLCA_BEACON_LOSS (R574). -/
  | plcaBeaconLoss (t : Nat)
  /-- WAIRIL_LINK_DOWN (R581). -/
  | wairilLinkDown (t : Nat) (viol : Bool) (fills : Nat)
  /-- WAIRIL_COMMA_ALIGN (R581). -/
  | wairilCommaAlign (t : Nat)
  /-- WAIRIL_LINK_UP (R581). -/
  | wairilLinkUp (t : Nat)
  /-- QS_OPERATION_DONE (R583). -/
  | qsOperationDone (t : Nat) (ok : Bool)
  /-- PPS (R595). -/
  | pps (t : Nat)
  /-- PPS_WIDTH_END (R595). -/
  | ppsWidthEnd (t : Nat)
  /-- TIME_STEP (R588). -/
  | timeStep (t : Nat) (r : Requester) (amount : Nat) (neg : Bool)
  /-- TIME_SET (R588). -/
  | timeSet (t : Nat) (r : Requester) (time : Nat)
  /-- TIME_SLEW (R588). -/
  | timeSlew (t : Nat) (r : Requester) (ns : Int)
  /-- TIME_STEP_CONFIRM (R588). -/
  | timeStepConfirm (t : Nat) (r : Requester) (ceiling : Nat)
  /-- TIME_ASYMMETRY_WRITE (R593). -/
  | timeAsymmetryWrite (t : Nat) (r : Requester) (v : Int)
  /-- SYNC (R587). -/
  | sync (t : Nat) (seq : Nat) (twoStep : Bool) (origin : Nat) (corr : Int)
  /-- FOLLOW_UP (R590). -/
  | followUp (t : Nat) (seq origin : Nat) (corr : Int)
  /-- PDELAY_REQ (R590). -/
  | pdelayReq (t : Nat) (seq : Nat) (src : Bytes)
  /-- PDELAY_RESP (R592). -/
  | pdelayResp (t : Nat) (follow : Bool) (seq ts : Nat)
  /-- ANNOUNCE (R590). -/
  | announce (t : Nat) (pv : Bytes)
  /-- SYNC_INTERVAL (R590). -/
  | syncInterval (t : Nat)
  /-- PDELAY_INTERVAL (R592). -/
  | pdelayInterval (t : Nat)
  /-- ANNOUNCE_INTERVAL (R590). -/
  | announceInterval (t : Nat)
  /-- TIME_SOURCE_LOSS (R587). -/
  | timeSourceLoss (t : Nat)
  /-- HOLDOVER_LIMIT (R587). -/
  | holdoverLimit (t : Nat)
  /-- TS_IN_EDGE (R594). -/
  | tsInEdge (t : Nat) (ch : Nat) (rising : Bool)
  /-- HEARTBEAT (R618). -/
  | heartbeat (t : Nat) (p : Bytes) (wl : Bool)
  /-- HEARTBEAT_PERIOD (R618). -/
  | heartbeatPeriod (t : Nat) (wl : Bool)
  /-- PRESENCE (R626). -/
  | presence (t : Nat) (p : Bytes)
  /-- PRESENCE_PERIOD (R607). -/
  | presencePeriod (t : Nat)
  /-- ROUND_PLAN (R610). -/
  | roundPlan (t : Nat) (p : Bytes)
  /-- REPORT (R614). -/
  | report (t : Nat) (p : Bytes)
  /-- LF_REQUEST (R613). -/
  | lfRequest (t : Nat) (p : Bytes)
  /-- JOIN (R605). -/
  | join (t : Nat) (p : Bytes)
  /-- JOIN_ACK (R605). -/
  | joinAck (t : Nat) (p : Bytes)
  /-- JOIN_REPEAT (R605). -/
  | joinRepeat (t : Nat)
  /-- WORKER_LOST (R606). -/
  | workerLost (t : Nat) (node : Nat)
  /-- MGR_LOSS (R607). -/
  | mgrLoss (t : Nat)
  /-- PEER_LOSS (R625). -/
  | peerLoss (t : Nat) (wl : Bool)
  /-- TWIN_RESOLUTION_TIMEOUT (R626). -/
  | twinResolutionTimeout (t : Nat)
  /-- ELECTION_TIMEOUT (R620). -/
  | electionTimeout (t : Nat)
  /-- MIRROR (R622). -/
  | mirror (t : Nat) (p : Bytes) (wl : Bool)
  /-- TIN_DIGEST (R621). -/
  | tinDigest (t : Nat) (p : Bytes) (wl : Bool)
  /-- TIN_PULL (R621). -/
  | tinPull (t : Nat) (p : Bytes) (wl : Bool)
  /-- TIN_DATA (R621). -/
  | tinData (t : Nat) (p : Bytes) (wl : Bool)
  /-- TIN_PERIOD (R621). -/
  | tinPeriod (t : Nat)
  /-- TWIN_TIN_RUN (R621). -/
  | twinTinRun (t : Nat) (r : Requester)
  /-- TWIN_TAKEOVER (R630). -/
  | twinTakeover (t : Nat) (r : Requester) (arg : Bytes)
  /-- COMMIT (R624). -/
  | commit (t : Nat) (p : Bytes) (wl : Bool)
  /-- COMMIT_ACK (R624). -/
  | commitAck (t : Nat) (p : Bytes) (wl : Bool)
  /-- COMMIT_RESEND (R624). -/
  | commitResend (t : Nat)
  /-- VAON_POR (R647). -/
  | vaonPor (t : Nat)
  /-- VAON_LOSS (R634). -/
  | vaonLoss (t : Nat) (step : Nat)
  /-- VSUP_BROWNOUT (R647). -/
  | vsupBrownout (t : Nat)
  /-- VIO_UNDERVOLTAGE (R696). -/
  | vioUndervoltage (t : Nat)
  /-- VIO_RETURN (R696). -/
  | vioReturn (t : Nat)
  /-- RESET_N (R647). -/
  | resetN (t : Nat)
  /-- RESET_RELEASE (R651). -/
  | resetRelease (t : Nat) (twinId : Bool) (qsType : Nat) (qsId : Bytes) (qsKb : Nat)
  /-- START_UP_SELF_TEST_DONE (R652). -/
  | startUpSelfTestDone (t : Nat) (fail : Nat) (sealBad deny : Bool)
  /-- AON_WATCHDOG (R650). -/
  | aonWatchdog (t : Nat)
  /-- WATCHDOG_RESTART (R650). -/
  | watchdogRestart (t : Nat)
  /-- PWR_SHUTDOWN (R639). -/
  | pwrShutdown (t : Nat) (r : Requester) (arg : Bytes)
  /-- SHUTDOWN_EXIT (R640). -/
  | shutdownExit (t : Nat) (src : Nat)
  /-- CORE_POWER_DOWN (R636). -/
  | corePowerDown (t : Nat)
  /-- CORE_WAKE (R641). -/
  | coreWake (t : Nat) (src : Nat)
  /-- SCHEDULED_WAKE (R662). -/
  | scheduledWake (t : Nat)
  /-- PLL_LOCK (R643). -/
  | pllLock (t : Nat)
  /-- PLL_LOCK_LOSS (R643). -/
  | pllLockLoss (t : Nat)
  /-- PLL_RELOCK_TIMEOUT (R643). -/
  | pllRelockTimeout (t : Nat)
  /-- REFERENCE_MONITOR_PASS (R644). -/
  | referenceMonitorPass (t : Nat)
  /-- REFERENCE_LOSS (R644). -/
  | referenceLoss (t : Nat)
  /-- SLOW_XTAL_SWITCH (R645). -/
  | slowXtalSwitch (t : Nat)
  /-- SLOW_XTAL_FAIL (R645). -/
  | slowXtalFail (t : Nat)
  /-- CLOCK_RATIO_MEASURE (R646). -/
  | clockRatioMeasure (t : Nat) (cycles : Nat)
  /-- TMR_CTRL_WRITE (R655). -/
  | tmrCtrlWrite (t : Nat) (r : Requester) (n v : Nat)
  /-- TMR_END_WRITE (R655). -/
  | tmrEndWrite (t : Nat) (r : Requester) (n v : Nat)
  /-- TMR_CMP_WRITE (R656). -/
  | tmrCmpWrite (t : Nat) (r : Requester) (n v : Nat)
  /-- TMR_STATUS_WRITE (R660). -/
  | tmrStatusWrite (t : Nat) (r : Requester) (n v : Nat)
  /-- TMR_CAPTURE_READ (R659). -/
  | tmrCaptureRead (t : Nat) (r : Requester) (n : Nat)
  /-- TMR_COUNT_END (R655). -/
  | tmrCountEnd (t : Nat) (n : Nat)
  /-- TMR_MATCH (R656). -/
  | tmrMatch (t : Nat) (n : Nat)
  /-- TMR_MATCH_B (R657). -/
  | tmrMatchB (t : Nat) (n : Nat)
  /-- TMR_ZERO_TURN (R657). -/
  | tmrZeroTurn (t : Nat) (n : Nat)
  /-- TMR_CAPTURE_EDGE (R659). -/
  | tmrCaptureEdge (t : Nat) (n src : Nat) (rising : Bool)
  /-- BURNISH_STEP (R667). -/
  | burnishStep (t : Nat) (err part word item : Nat)
  /-- BURNISH_SLOT_WAKE (R667). -/
  | burnishSlotWake (t : Nat)
  /-- LIMITER_SAMPLE (R672). -/
  | limiterSample (t : Nat) (power : Nat) (temp : Option Int)
  /-- LIMITER_STAGE_FALL (R673). -/
  | limiterStageFall (t : Nat)
  /-- CAN_TELEMETRY (R674). -/
  | canTelemetry (t : Nat)
  /-- LOG_HEAD_WRITE (R679). -/
  | logHeadWrite (t : Nat)
  /-- LOG_SECTOR_WRITE (R683). -/
  | logSectorWrite (t : Nat) (first : Bool)
  /-- CAN_BUS_ERROR (R562). -/
  | canBusError (t : Nat) (c : Nat) (tx : Bool)
  /-- PLCA_BEACON_RETURN (R574). -/
  | plcaBeaconReturn (t : Nat)
  /-- NOTIFY_GAP_EXPIRY (R81). -/
  | notifyGapExpiry (t : Nat) (r : Requester) (idx sub : Nat)
  /-- NFC_WUP_RETRY (R413). -/
  | nfcWupRetry (t : Nat) (p : Nat)
deriving DecidableEq, Repr

end Sys2Proof
end

