-- ==== Sys2Proof/Decode.lean ====
section
/-! DEFINITION. What a word spells: the command table gives no row any bits, so no word spells a command. -/
namespace Sys2Proof

/-- The command that a word of `nbits` bits spells by the bits of the command table: no row has bits, so none. -/
def decodeTableWord (_nbits _w : Nat) : Option Instr := none

end Sys2Proof
end

