-- ==== Sys2Proof/Config.lean ====
section
/-! DEFINITION. What the spec leaves open and the machine nevertheless uses: free values, opaque constants without a body, so
that no proof can see what they are. -/
namespace Sys2Proof

/-- Offset from launch to RMARKER by preamble length code and PRF, in units of 3.9125 ps (R276, R278: fixed, its value not
stated; log entry 10). -/
opaque Config.rmarkerOffset : Nat → Nat → Nat

/-- The octets of a raw RO sample read, by a counter of the reads (R517: noise; log entry 11). -/
opaque Config.rawSample : Nat → Nat → BitVec 8

/-- The correction the hardware servo sets from an offset, by a counter of its settings, in units of 2^-32 ns (R585: its law is not
stated; log entry 26). -/
opaque Config.servoCorr : Nat → Int

/-- t16 of a DS-TWR exchange whose four intervals add up to zero, by those intervals (R305: no result is stated; log entry 66). -/
opaque Config.noInterval : Int → Int → Int → Int → Int

/-- The stamp of an auxiliary frame of whose preamble no tap was measured, by its time (R313: not stated; log entry 67). -/
opaque Config.auxStamp : Nat → Nat

/-- The filtered path delay of the measurements since the filter restarted, newest first, in units of 0.1 ns (R592: the filter is not
stated; log entry 27). -/
opaque Config.pathFilter : List Nat → Nat

end Sys2Proof
end

