-- ==== Sys2Proof/Machine/Bits.lean ====
section
/-! DEFINITION. Octet order (R11), bit fields, two's complement and the three CRCs of R718. -/
namespace Sys2Proof.Machine

/-- The value of a little-endian octet string (R11). -/
def leNat : Bytes → Nat
  | [] => 0
  | b :: bs => b.toNat + 256 * leNat bs

/-- `n` octets of a value, least significant first (R11). -/
def toLe : Nat → Nat → Bytes
  | 0, _ => []
  | n + 1, v => BitVec.ofNat 8 v :: toLe n (v / 256)

/-- The value of a big-endian octet string. -/
def beNat (bs : Bytes) : Nat := bs.foldl (fun a b => a * 256 + b.toNat) 0

/-- `n` octets of a value, most significant first. -/
def toBe (n v : Nat) : Bytes := (toLe n v).reverse

/-- `n` zero octets. -/
def zeros (n : Nat) : Bytes := List.replicate n 0

/-- `bs` cut or filled with zeros on the right to `n` octets. -/
def fit (n : Nat) (bs : Bytes) : Bytes := (bs ++ zeros (n - bs.length)).take n

/-- Octets `i` to `i + n - 1`. -/
def slice (i n : Nat) (bs : Bytes) : Bytes := (bs.drop i).take n

/-- The octet at `i`, 0 outside. -/
def byteAt (i : Nat) (bs : Bytes) : Nat := (bs.getD i 0).toNat

/-- Little-endian field of `n` octets at offset `i`. -/
def leAt (i n : Nat) (bs : Bytes) : Nat := leNat (slice i n bs)

/-- `bs` with the octets of `xs` laid over it from offset `i`. -/
def overlay (i : Nat) (xs bs : Bytes) : Bytes := bs.take i ++ xs ++ bs.drop (i + xs.length)

/-- Bits `lo` to `lo + w - 1` of `v`. -/
def bits (v lo w : Nat) : Nat := v / 2 ^ lo % 2 ^ w

/-- Bit `i` of `v`. -/
def bit (v i : Nat) : Bool := v.testBit i

/-- `v` with bit `i` set. -/
def setBit (v i : Nat) : Nat := v ||| 2 ^ i

/-- `v` with bit `i` clear. -/
def clrBit (v i : Nat) : Nat := if v.testBit i then v - 2 ^ i else v

/-- `v` with bit `i` as `b` says. -/
def putBit (v i : Nat) (b : Bool) : Nat := if b then setBit v i else clrBit v i

/-- A Boolean as 0 or 1. -/
def b2n (b : Bool) : Nat := if b then 1 else 0

/-- The signed value of a `w`-bit two's complement number. -/
def sext (w v : Nat) : Int := if v % 2 ^ w < 2 ^ (w - 1) then (v % 2 ^ w : Nat) else (v % 2 ^ w : Nat) - (2 ^ w : Nat)

/-- A signed number as `w`-bit two's complement. -/
def toTwos (w : Nat) (i : Int) : Nat := (i % (2 ^ w : Nat)).toNat

/-- Addition that stops at `2 ^ w - 1` (saturating counters). -/
def satAdd (w v k : Nat) : Nat := min (v + k) (2 ^ w - 1)

/-- Exclusive or of two octet strings, over the shorter one. -/
def xorB (a b : Bytes) : Bytes := List.zipWith (· ^^^ ·) a b

/-- `l` with element `i` replaced by `x`; unchanged where there is none. -/
def putAt {α : Type} (l : List α) (i : Nat) (x : α) : List α := l.set i x

/-- `l` with element `i` changed by `f`. -/
def modAt {α : Type} (l : List α) (i : Nat) (f : α → α) : List α := l.modify i f

/-- One bit step of a most-significant-first CRC of width `w`. -/
def crcStep (w poly c : Nat) : Nat :=
  if c.testBit (w - 1) then (c * 2 % 2 ^ w) ^^^ poly else c * 2 % 2 ^ w

/-- A most-significant-first CRC of width `w` (R718): no reflection, no final exclusive or. -/
def crcMsb (w poly init : Nat) (bs : Bytes) : Nat :=
  bs.foldl (fun c b => Nat.repeat (crcStep w poly) 8 (c ^^^ (b.toNat * 2 ^ (w - 8)))) init

/-- CRC-8, polynomial 0x07 (R718), with the given initial value. -/
def crc8 (init : Nat) (bs : Bytes) : Nat := crcMsb 8 0x07 init bs

/-- CRC-16, polynomial 0x1021 (R718), initial value 0xFFFF. -/
def crc16 (bs : Bytes) : Nat := crcMsb 16 0x1021 0xFFFF bs

/-- The CRC of a flag copy or descriptor word of the tag area (R432): over the six octets of bits [63:16], most significant first, and
the octets that name its place. -/
def tagCrc (seq len acl : Nat) (place : Bytes) : Nat := crc16 (toBe 6 (seq * 2 ^ 24 + len * 2 ^ 8 + acl) ++ place)

/-- One bit step of the reflected CRC-32 of R718. -/
def crc32Step (c : Nat) : Nat := if c % 2 = 1 then (c / 2) ^^^ 0xEDB88320 else c / 2

/-- The IEEE 802.3 CRC-32 of R718. -/
def crc32 (bs : Bytes) : Nat :=
  (bs.foldl (fun c b => Nat.repeat crc32Step 8 (c ^^^ b.toNat)) 0xFFFFFFFF) ^^^ 0xFFFFFFFF

/-- One bit step of the reflected CRC-16 of IEEE 802.15.4. -/
def crc16rStep (c : Nat) : Nat := if c % 2 = 1 then (c / 2) ^^^ 0x8408 else c / 2

/-- The FCS of IEEE 802.15.4 (R297): the ITU-T CRC-16, least significant bit first, from zero (PRESUMED: the standard's, log entry 64). -/
def fcs154 (bs : Bytes) : Nat := bs.foldl (fun c b => Nat.repeat crc16rStep 8 (c ^^^ b.toNat)) 0

/-- A PSDU with its FCS (R297, R312). -/
def withFcs (bs : Bytes) : Bytes := bs ++ toLe 2 (fcs154 bs)

/-- The octets of a received PSDU before its FCS, where the FCS is good (R297, R313). -/
def fcsOk (psdu : Bytes) : Option Bytes :=
  let n := psdu.length - 2
  if 2 ≤ psdu.length && leAt n 2 psdu = fcs154 (psdu.take n) then some (psdu.take n) else none

/-- The octets of a Wairil frame between K27.7 and K29.7 (R78). -/
def wlFrame (typ : Nat) (body : Bytes) : Bytes :=
  let f := BitVec.ofNat 8 typ :: toLe 2 body.length ++ body
  f ++ toLe 4 (crc32 f)

end Sys2Proof.Machine
end

