-- ==== Sys2Proof/Machine/Lane.lean ====
section
/-! DEFINITION. The 8b/10b characters of a Wairil lane (R78, R580, R581). The spec names the code and its characters; the code tables are
those of the well-known code (PRESUMED, log entry 56). -/
namespace Sys2Proof.Machine

/-- The six-bit group of D0 to D31 at negative running disparity, bits abcdei. -/
def lane6 : List Nat :=
  [0b100111, 0b011101, 0b101101, 0b110001, 0b110101, 0b101001, 0b011001, 0b111000,
   0b111001, 0b100101, 0b010101, 0b110100, 0b001101, 0b101100, 0b011100, 0b010111,
   0b011011, 0b100011, 0b010011, 0b110010, 0b001011, 0b101010, 0b011010, 0b111010,
   0b110011, 0b100110, 0b010110, 0b110110, 0b001110, 0b101110, 0b011110, 0b101011]

/-- The four-bit group of y = 0 to 7 at negative running disparity, bits fghj. -/
def lane4 : List Nat := [0b1011, 0b1001, 0b0101, 0b1100, 0b1101, 0b1010, 0b0110, 0b1110]

/-- Ones among the low `n` bits. -/
def onesIn (n x : Nat) : Nat := ((List.range n).filter fun i => x.testBit i).length

/-- A group at running disparity `rd` (true for positive): one that is not balanced is complemented there, and `flip` says the same of a
balanced one. The disparity after it. -/
def laneGroup (n x : Nat) (flip rd : Bool) : Nat × Bool :=
  let odd := onesIn n x * 2 ≠ n
  (if rd && (odd || flip) then 2 ^ n - 1 - x else x, if odd then !rd else rd)

/-- One character, bits abcdeifghj, and the running disparity after it; `k` for the control characters. -/
def laneChar (rd k : Bool) (b : BitVec 8) : Nat × Bool :=
  let x := b.toNat % 32
  let y := b.toNat / 32
  let six := laneGroup 6 (if k && x = 28 then 0b001111 else lane6.getD x 0) (x = 7) rd
  let alt := y = 7 && (k || (!six.2 && (x = 17 || x = 18 || x = 20)) || (six.2 && (x = 11 || x = 13 || x = 14)))
  let y4 := if k && (y = 1 || y = 2 || y = 5 || y = 6) then 0b1111 - lane4.getD y 0 else if alt then 0b0111 else lane4.getD y 0
  let four := laneGroup 4 y4 (y = 3 || (k && (y = 1 || y = 2 || y = 5 || y = 6))) six.2
  (six.1 * 16 + four.1, four.2)

/-- K27.7, K29.7 and K28.5 (R78). -/
def kStart : BitVec 8 := 0xFB
def kEnd : BitVec 8 := 0xFD
def kComma : BitVec 8 := 0xBC

/-- The characters of a run of octets, each with its control mark. -/
def laneChars (rd : Bool) : List (Bool × BitVec 8) → List Nat × Bool
  | [] => ([], rd)
  | (k, b) :: l =>
    let c := laneChar rd k b
    let r := laneChars c.2 l
    (c.1 :: r.1, r.2)

/-- A frame on the lane (R78): K27.7, its octets, K29.7. -/
def laneFrame (rd : Bool) (f : Bytes) : List Nat × Bool :=
  laneChars rd ((true, kStart) :: (f.map fun b => (false, b)) ++ [(true, kEnd)])

/-- The fill pair (R581): K28.5 with D16.2 where the sender is aligned to its own received lane, with D5.6 where it is not. -/
def fillPair (aligned : Bool) : List (Bool × BitVec 8) := [(true, kComma), (false, if aligned then 0x50 else 0xC5)]

end Sys2Proof.Machine
end

