-- ==== Sys2Proof/Machine/Obj.lean ====
section
/-! DEFINITION. The shape of one row of the Kamzel object dictionary (R10 to R16, R38, R40, R41): type, access string,
Effect with the boundary it names, Persist, default and permitted set. -/
namespace Sys2Proof.Machine

/-- The data types of 00_scope.md; BITS and ENUM types are held by their width. -/
inductive ObjTy where
  | u8 | u16 | u32 | u64 | i16 | i32 | bool | time96 | command
  | octets (n : Nat)
deriving DecidableEq, Repr

/-- One letter of an access string. -/
inductive Letter where
  | r | w | b | x | no
deriving DecidableEq, Repr

/-- The access string: host, network, engine, twin, field. -/
structure Access5 where
  h : Letter
  n : Letter
  e : Letter
  t : Letter
  f : Letter
deriving DecidableEq, Repr

/-- The boundary a NEXT object names in its Effect column. -/
inductive Boundary where
  | bNextLogin | bNextV1Frame | bNextUNLOCKREQ | bNextCounterJudgement | bNextSession | bNextLockout
  | bNextNonce | bNextTsApply | bNextPulse | bNextUWBSession | bNextRound | bNextBlock | bNextFrame
  | bNextPacket | bNextConnectionEvent | bNextAdvertisingEvent | bNextConnection | bNextBleEngPublish
  | bNextScan | bNextExchange | bNextPing | bNextCarrier | bNextActivation | bNextDetection | bNextReset
  | bNextEngineStart | bNextBEACON | bNextStartup | bNextAnnounce | bNextMessage | bNextObservation
  | bNextColdReset | bNextPass | bNextSector
deriving DecidableEq, Repr

/-- The Effect column (R16). -/
inductive Eff where
  | imm | idle | none_
  | next (b : Boundary)
deriving DecidableEq, Repr

/-- The Persist column. -/
inductive Persist where
  | v | p | s | none_
deriving DecidableEq, Repr

/-- A default: one value, one per variant (GZ4880, GZ4860, GZ4840), one per subindex, or computed. -/
inductive Dflt where
  | const (v : Nat)
  | perVar (a b c : Nat)
  | list (vs : List Nat)
  | special
deriving DecidableEq, Repr

/-- The set of values check 8 of R38 permits. `handle` and `special` are checked by the object's own code. -/
inductive Permit where
  | any | bool | handle | special | canBase
  | range (lo hi : Nat)
  | srange (lo hi : Int)
  | rangeOr (lo hi v : Nat)
  | mask (m : Nat)
  | vals (vs : List Nat)
deriving DecidableEq, Repr

/-- One row of an object table. -/
structure ObjDef where
  idx   : Nat
  count : Nat
  sub0  : Nat
  sub1  : Nat
  ty    : ObjTy
  acc   : Access5
  dflt  : Dflt
  eff   : Eff
  per   : Persist
  perm  : Permit
deriving DecidableEq, Repr

end Sys2Proof.Machine
end

