-- ==== Sys2Proof/Machine/ObjTable.lean ====
section
/-! DEFINITION. The Kamzel object dictionary as a table, one row per row of the object tables of spec/ (R90 and each
chapter's objects): first index and how many indices follow it, first and last subindex, type, access string H N E T F,
default, Effect, Persist, and the values check 8 of R38 permits. A default or a permitted set the table cannot state in
one entry is `.special` and is computed in Sys2Proof/Machine/Read.lean or Sys2Proof/Machine/Dict.lean. -/
namespace Sys2Proof.Machine

/-- Rows 0 to 23 of the dictionary. -/
def objRows0 : List ObjDef :=
  [
    -- DevUnitPresence (R4)
    ⟨0x1008, 1, 0x00, 0x00, .u32, ⟨.r, .r, .r, .r, .no⟩, .special, .none_, .v, .any⟩,
    -- DevVendorId (R90)
    ⟨0x1000, 1, 0x00, 0x00, .u32, ⟨.r, .r, .r, .r, .r⟩, .const 0xD4E, .none_, .v, .any⟩,
    -- DevProductCode (R90)
    ⟨0x1001, 1, 0x00, 0x00, .u16, ⟨.r, .r, .r, .r, .r⟩, .perVar 18560 18528 18496, .none_, .v, .any⟩,
    -- DevSiliconRevision (R90)
    ⟨0x1002, 1, 0x00, 0x00, .u8, ⟨.r, .r, .r, .r, .no⟩, .special, .none_, .v, .any⟩,
    -- DevSerialNumber (R90)
    ⟨0x1003, 1, 0x00, 0x00, .octets 8, ⟨.r, .r, .r, .r, .r⟩, .special, .none_, .v, .any⟩,
    -- DevDictVersion (R90)
    ⟨0x1004, 1, 0x00, 0x00, .u8, ⟨.r, .r, .r, .r, .no⟩, .const 2, .none_, .v, .any⟩,
    -- DevCommit (R90)
    ⟨0x1010, 1, 0x00, 0x00, .command, ⟨.x, .x, .no, .x, .no⟩, .const 0, .none_, .none_, .any⟩,
    -- DevCommitCount (R90)
    ⟨0x1011, 1, 0x00, 0x00, .u32, ⟨.r, .r, .r, .r, .no⟩, .const 0, .none_, .p, .any⟩,
    -- DevCommitState (R90)
    ⟨0x1012, 1, 0x00, 0x00, .u8, ⟨.r, .r, .r, .r, .no⟩, .const 0, .none_, .v, .any⟩,
    -- DevRestoreDefaults (R90)
    ⟨0x1013, 1, 0x00, 0x00, .command, ⟨.x, .no, .no, .no, .no⟩, .const 0, .idle, .none_, .any⟩,
    -- DevReset (R90)
    ⟨0x1018, 1, 0x00, 0x00, .command, ⟨.x, .x, .no, .x, .no⟩, .const 0, .imm, .none_, .any⟩,
    -- DevSelfTest (R90)
    ⟨0x1020, 1, 0x00, 0x00, .command, ⟨.x, .x, .no, .no, .no⟩, .const 0, .idle, .none_, .any⟩,
    -- DevSelfTestResult (R90)
    ⟨0x1021, 1, 0x00, 0x00, .u32, ⟨.r, .r, .r, .r, .no⟩, .const 0, .none_, .v, .any⟩,
    -- DevErrorRegister (R90)
    ⟨0x1028, 1, 0x00, 0x00, .u16, ⟨.r, .r, .r, .r, .no⟩, .const 0, .none_, .v, .any⟩,
    -- DevErrorHistory (R90)
    ⟨0x1029, 1, 0x00, 0x00, .u8, ⟨.r, .r, .r, .r, .no⟩, .const 8, .none_, .v, .any⟩,
    -- DevErrorHistory (R90)
    ⟨0x1029, 1, 0x01, 0x08, .u32, ⟨.r, .r, .r, .r, .no⟩, .const 0, .none_, .v, .any⟩,
    -- DevNetRequester (R90)
    ⟨0x1040, 1, 0x00, 0x00, .u8, ⟨.r, .r, .no, .r, .no⟩, .const 8, .none_, .p, .any⟩,
    -- DevNetRequester (R90)
    ⟨0x1040, 1, 0x01, 0x08, .u32, ⟨.b, .r, .no, .b, .no⟩, .const 0, (.next .bNextLogin), .p, .mask 0x7FFFF⟩,
    -- DevNetSession (R90)
    ⟨0x1041, 1, 0x00, 0x00, .u8, ⟨.r, .r, .no, .r, .no⟩, .const 3, .none_, .v, .any⟩,
    -- DevNetSession (R90)
    ⟨0x1041, 1, 0x01, 0x03, .u32, ⟨.r, .r, .no, .r, .no⟩, .const 0, .none_, .v, .any⟩,
    -- DevNetIdleTimeout (R90)
    ⟨0x1042, 1, 0x00, 0x00, .u16, ⟨.b, .r, .no, .b, .no⟩, .const 0x3C, .imm, .p, .range 5 3600⟩,
    -- DevNetAuthFailCount (R90)
    ⟨0x1043, 1, 0x00, 0x00, .u32, ⟨.r, .r, .no, .r, .no⟩, .const 0, .none_, .v, .any⟩,
    -- DevV1Enable (R90)
    ⟨0x1048, 1, 0x00, 0x00, .bool, ⟨.b, .r, .no, .b, .no⟩, .const 0, (.next .bNextV1Frame), .p, .bool⟩,
    -- DevV1KeyHandle (R90)
    ⟨0x1049, 1, 0x00, 0x00, .u16, ⟨.b, .no, .no, .b, .no⟩, .const 0xFFFF, (.next .bNextUNLOCKREQ), .p, .handle⟩]

/-- Rows 24 to 47 of the dictionary. -/
def objRows1 : List ObjDef :=
  [
    -- DevCanDictPort (R90)
    ⟨0x1050, 1, 0x00, 0x00, .u8, ⟨.b, .r, .no, .b, .no⟩, .const 1, .idle, .p, .vals [0,1,2,3]⟩,
    -- DevCanDictReqBase (R90)
    ⟨0x1051, 1, 0x00, 0x00, .u16, ⟨.b, .r, .no, .b, .no⟩, .const 0x640, .idle, .p, .canBase⟩,
    -- DevCanDictRspBase (R90)
    ⟨0x1052, 1, 0x00, 0x00, .u16, ⟨.b, .r, .no, .b, .no⟩, .const 0x660, .idle, .p, .canBase⟩,
    -- TokEntry (R104)
    ⟨0x2040, 64, 0x00, 0x00, .u8, ⟨.r, .r, .no, .r, .no⟩, .const 8, .none_, .v, .any⟩,
    -- TokState (R104)
    ⟨0x2040, 64, 0x01, 0x01, .u8, ⟨.b, .r, .no, .r, .no⟩, .const 0, .imm, .p, .vals [0,1,2]⟩,
    -- TokClass (R104)
    ⟨0x2040, 64, 0x02, 0x02, .u8, ⟨.r, .r, .no, .r, .no⟩, .const 0, .none_, .p, .any⟩,
    -- TokId (R104)
    ⟨0x2040, 64, 0x03, 0x03, .u32, ⟨.r, .r, .no, .r, .no⟩, .const 0, .none_, .p, .any⟩,
    -- TokKeyHandle (R104)
    ⟨0x2040, 64, 0x04, 0x04, .u16, ⟨.r, .r, .no, .r, .no⟩, .const 0xFFFF, .none_, .p, .any⟩,
    -- TokRights (R104)
    ⟨0x2040, 64, 0x05, 0x05, .u32, ⟨.b, .r, .no, .b, .no⟩, .const 0, .imm, .p, .special⟩,
    -- TokZones (R104)
    ⟨0x2040, 64, 0x06, 0x06, .u16, ⟨.b, .r, .no, .b, .no⟩, .const 0, .imm, .p, .any⟩,
    -- TokNotAfter (R104)
    ⟨0x2040, 64, 0x07, 0x07, .u64, ⟨.b, .r, .no, .b, .no⟩, .const 0, .imm, .p, .range 0 0xFFFFFFFFFFFF⟩,
    -- TokCounter (R104)
    ⟨0x2040, 64, 0x08, 0x08, .u32, ⟨.r, .r, .no, .r, .no⟩, .const 0, .none_, .p, .any⟩,
    -- TokTableSize (R108)
    ⟨0x2000, 1, 0x00, 0x00, .u8, ⟨.r, .r, .r, .r, .no⟩, .const 0x40, .none_, .v, .any⟩,
    -- TokEnrolledCount (R108)
    ⟨0x2001, 1, 0x00, 0x00, .u8, ⟨.r, .r, .r, .r, .no⟩, .const 0, .none_, .p, .any⟩,
    -- TokAcceptWindow (R108)
    ⟨0x2002, 1, 0x00, 0x00, .u16, ⟨.b, .r, .no, .b, .no⟩, .const 0x10, (.next .bNextCounterJudgement), .p, .range 1 256⟩,
    -- TokResyncWindow (R108)
    ⟨0x2003, 1, 0x00, 0x00, .u16, ⟨.b, .r, .no, .b, .no⟩, .const 0x1000, (.next .bNextCounterJudgement), .p, .special⟩,
    -- TokResyncTimeout (R108)
    ⟨0x2004, 1, 0x00, 0x00, .u8, ⟨.b, .r, .no, .b, .no⟩, .const 0x1E, .imm, .p, .range 5 120⟩,
    -- CredAuthority (R111)
    ⟨0x2110, 8, 0x00, 0x00, .u8, ⟨.r, .r, .no, .r, .no⟩, .const 4, .none_, .v, .any⟩,
    -- CredAuthState (R111)
    ⟨0x2110, 8, 0x01, 0x01, .u8, ⟨.b, .r, .no, .b, .no⟩, .const 0, .imm, .p, .vals [0,1]⟩,
    -- CredAuthKey (R111)
    ⟨0x2110, 8, 0x02, 0x02, .u16, ⟨.b, .r, .no, .b, .no⟩, .const 0xFFFF, .imm, .p, .handle⟩,
    -- CredAuthPermits (R111)
    ⟨0x2110, 8, 0x03, 0x03, .u8, ⟨.b, .r, .no, .b, .no⟩, .const 1, .imm, .p, .mask 0x03⟩,
    -- CredAuthUses (R111)
    ⟨0x2110, 8, 0x04, 0x04, .u32, ⟨.r, .r, .no, .r, .no⟩, .const 0, .none_, .p, .any⟩,
    -- CredValidityClock (R130)
    ⟨0x2120, 1, 0x00, 0x00, .u64, ⟨.r, .r, .r, .r, .no⟩, .const 0, .none_, .v, .any⟩,
    -- CredClockState (R130)
    ⟨0x2121, 1, 0x00, 0x00, .u8, ⟨.r, .r, .r, .r, .no⟩, .const 0, .none_, .v, .any⟩]

/-- Rows 48 to 71 of the dictionary. -/
def objRows2 : List ObjDef :=
  [
    -- CredFloor (R130)
    ⟨0x2122, 1, 0x00, 0x00, .u64, ⟨.r, .r, .no, .r, .no⟩, .const 0, .none_, .p, .any⟩,
    -- CredFloorPeriod (R130)
    ⟨0x2123, 1, 0x00, 0x00, .u16, ⟨.b, .r, .no, .b, .no⟩, .const 0x258, .imm, .p, .range 60 3600⟩,
    -- CredJumpLimitTracking (R130)
    ⟨0x2124, 1, 0x00, 0x00, .u32, ⟨.b, .r, .no, .b, .no⟩, .const 0x12C, .imm, .p, .range 10 86400⟩,
    -- CredJumpLimitFloor (R130)
    ⟨0x2125, 1, 0x00, 0x00, .u32, ⟨.b, .r, .no, .b, .no⟩, .const 0x1E13380, .imm, .p, .range 3600 315360000⟩,
    -- CredHeldStep (R130)
    ⟨0x2126, 1, 0x00, 0x00, .u64, ⟨.r, .r, .r, .r, .no⟩, .const 0, .none_, .v, .any⟩,
    -- CredClockConfirm (R130)
    ⟨0x2127, 1, 0x00, 0x00, .command, ⟨.x, .no, .no, .no, .no⟩, .const 0, .imm, .none_, .any⟩,
    -- CredCacheSize (R136)
    ⟨0x2100, 1, 0x00, 0x00, .u16, ⟨.r, .r, .r, .r, .no⟩, .const 0x400, .none_, .v, .any⟩,
    -- CredCacheUsed (R136)
    ⟨0x2101, 1, 0x00, 0x00, .u16, ⟨.r, .r, .r, .r, .no⟩, .const 0, .none_, .v, .any⟩,
    -- CredVehicleGroup (R136)
    ⟨0x2102, 1, 0x00, 0x00, .octets 8, ⟨.b, .r, .no, .b, .no⟩, .const 0, .imm, .p, .any⟩,
    -- CredRevoke (R136)
    ⟨0x2103, 1, 0x00, 0x00, .command, ⟨.x, .x, .no, .x, .no⟩, .const 0, .imm, .none_, .any⟩,
    -- CredRevokedCount (R136)
    ⟨0x2104, 1, 0x00, 0x00, .u16, ⟨.r, .r, .r, .r, .no⟩, .const 0, .none_, .p, .any⟩,
    -- CredRevokedSelect (R136)
    ⟨0x2105, 1, 0x00, 0x00, .u16, ⟨.b, .r, .no, .b, .no⟩, .const 0, .imm, .v, .range 0 511⟩,
    -- CredRevokedWindow (R136)
    ⟨0x2106, 1, 0x00, 0x00, .octets 1024, ⟨.r, .r, .no, .r, .no⟩, .const 0, .none_, .v, .any⟩,
    -- CredCacheSelect (R136)
    ⟨0x2130, 1, 0x00, 0x00, .u16, ⟨.b, .r, .no, .b, .no⟩, .const 0, .imm, .v, .range 0 1023⟩,
    -- CredCacheEntry (R136)
    ⟨0x2131, 1, 0x00, 0x00, .u8, ⟨.r, .r, .no, .r, .no⟩, .const 5, .none_, .v, .any⟩,
    -- CredCacheId (R136)
    ⟨0x2131, 1, 0x01, 0x01, .u64, ⟨.r, .r, .no, .r, .no⟩, .const 0, .none_, .v, .any⟩,
    -- CredCacheAuthority (R136)
    ⟨0x2131, 1, 0x02, 0x02, .u8, ⟨.r, .r, .no, .r, .no⟩, .const 0, .none_, .v, .any⟩,
    -- CredCacheNotAfter (R136)
    ⟨0x2131, 1, 0x03, 0x03, .u64, ⟨.r, .r, .no, .r, .no⟩, .const 0, .none_, .v, .any⟩,
    -- CredCacheCounter (R136)
    ⟨0x2131, 1, 0x04, 0x04, .u32, ⟨.r, .r, .no, .r, .no⟩, .const 0, .none_, .v, .any⟩,
    -- CredCacheState (R136)
    ⟨0x2131, 1, 0x05, 0x05, .u8, ⟨.r, .r, .no, .r, .no⟩, .const 0, .none_, .v, .any⟩,
    -- TokJournalState (R151)
    ⟨0x2008, 1, 0x00, 0x00, .u8, ⟨.r, .r, .r, .r, .no⟩, .const 0, .none_, .v, .any⟩,
    -- TokJournalFill (R151)
    ⟨0x2009, 1, 0x00, 0x00, .u16, ⟨.r, .r, .r, .r, .no⟩, .const 0, .none_, .v, .any⟩,
    -- TokJournalCompactions (R151)
    ⟨0x200A, 1, 0x00, 0x00, .u32, ⟨.r, .r, .no, .r, .no⟩, .const 0, .none_, .p, .any⟩,
    -- TokCommitTime (R151)
    ⟨0x200B, 1, 0x00, 0x00, .u16, ⟨.r, .r, .no, .r, .no⟩, .const 0, .none_, .v, .any⟩]

/-- Rows 72 to 95 of the dictionary. -/
def objRows3 : List ObjDef :=
  [
    -- AccEntryTimeout (R201)
    ⟨0x2200, 1, 0x00, 0x00, .u16, ⟨.b, .r, .no, .b, .no⟩, .const 0x1E, (.next .bNextSession), .p, .range 5 300⟩,
    -- AccStartTimeout (R201)
    ⟨0x2201, 1, 0x00, 0x00, .u16, ⟨.b, .r, .no, .b, .no⟩, .const 0x78, (.next .bNextSession), .p, .range 10 600⟩,
    -- AccStartAckSource (R201)
    ⟨0x2203, 1, 0x00, 0x00, .u8, ⟨.b, .r, .no, .b, .no⟩, .const 2, (.next .bNextSession), .p, .vals [0,1,2]⟩,
    -- AccLockout (R201)
    ⟨0x2204, 1, 0x00, 0x00, .u8, ⟨.r, .r, .no, .r, .no⟩, .const 7, .none_, .v, .any⟩,
    -- AccLockoutLimit (R201)
    ⟨0x2204, 1, 0x01, 0x01, .u8, ⟨.r, .r, .no, .r, .no⟩, .const 5, .none_, .v, .any⟩,
    -- AccLockoutWindow (R201)
    ⟨0x2204, 1, 0x02, 0x02, .u8, ⟨.r, .r, .no, .r, .no⟩, .const 10, .none_, .v, .any⟩,
    -- AccLockoutMinutes (R201)
    ⟨0x2204, 1, 0x03, 0x03, .u8, ⟨.b, .b, .no, .b, .no⟩, .const 5, (.next .bNextLockout), .p, .range 1 60⟩,
    -- AccIfLimit (R201)
    ⟨0x2204, 1, 0x04, 0x04, .u8, ⟨.r, .r, .no, .r, .no⟩, .const 0x14, .none_, .v, .any⟩,
    -- AccIfMinutes (R201)
    ⟨0x2204, 1, 0x05, 0x05, .u8, ⟨.r, .r, .no, .r, .no⟩, .const 15, .none_, .v, .any⟩,
    -- AccCodeLimit (R201)
    ⟨0x2204, 1, 0x06, 0x06, .u8, ⟨.r, .r, .no, .r, .no⟩, .const 3, .none_, .v, .any⟩,
    -- AccCodeMinutes (R201)
    ⟨0x2204, 1, 0x07, 0x07, .u8, ⟨.r, .r, .no, .r, .no⟩, .const 0x3C, .none_, .v, .any⟩,
    -- AccChallengeLife (R201)
    ⟨0x2206, 1, 0x00, 0x00, .u16, ⟨.b, .r, .no, .b, .no⟩, .const 0x7D0, (.next .bNextNonce), .p, .range 100 10000⟩,
    -- AccEnrolCodeKey (R201)
    ⟨0x2207, 1, 0x00, 0x00, .u16, ⟨.b, .no, .no, .b, .no⟩, .const 0xFFFF, .imm, .p, .handle⟩,
    -- AccCodeRightsCap (R201)
    ⟨0x2208, 1, 0x00, 0x00, .u32, ⟨.b, .r, .no, .b, .no⟩, .const 0x10F, .imm, .p, .special⟩,
    -- AccLearnState (R201)
    ⟨0x2209, 1, 0x00, 0x00, .u8, ⟨.r, .r, .r, .r, .no⟩, .const 0, .none_, .v, .any⟩,
    -- AccEnrolImport (R201)
    ⟨0x220A, 1, 0x00, 0x00, .command, ⟨.x, .no, .no, .no, .no⟩, .const 0, .imm, .none_, .any⟩,
    -- AccLearnCancel (R201)
    ⟨0x220B, 1, 0x00, 0x00, .command, ⟨.x, .x, .no, .x, .no⟩, .const 0, .imm, .none_, .any⟩,
    -- AccTransportKey (R201)
    ⟨0x220C, 1, 0x00, 0x00, .u16, ⟨.b, .no, .no, .b, .no⟩, .const 0xFFFF, .imm, .p, .handle⟩,
    -- AccRevokeToken (R201)
    ⟨0x2210, 1, 0x00, 0x00, .command, ⟨.x, .x, .no, .no, .no⟩, .const 0, .imm, .none_, .any⟩,
    -- AccLockoutClear (R201)
    ⟨0x2211, 1, 0x00, 0x00, .command, ⟨.x, .no, .no, .no, .no⟩, .const 0, .imm, .none_, .any⟩,
    -- AccTouchGate (R201)
    ⟨0x2220, 1, 0x00, 0x00, .u8, ⟨.r, .r, .no, .r, .no⟩, .const 4, .none_, .v, .any⟩,
    -- AccTouchGate (R201)
    ⟨0x2220, 1, 0x01, 0x04, .u8, ⟨.b, .r, .no, .b, .no⟩, .list [0,1,1,2], .imm, .p, .rangeOr 0 2 0xFF⟩,
    -- AccTouchLf (R201)
    ⟨0x2221, 1, 0x00, 0x00, .u8, ⟨.r, .r, .no, .r, .no⟩, .const 4, .none_, .v, .any⟩,
    -- AccTouchLf (R201)
    ⟨0x2221, 1, 0x01, 0x04, .u8, ⟨.b, .r, .no, .b, .no⟩, .list [0,1,2,3], .imm, .p, .rangeOr 0 3 0xFF⟩]

/-- Rows 96 to 119 of the dictionary. -/
def objRows4 : List ObjDef :=
  [
    -- AccStartLf (R201)
    ⟨0x2222, 1, 0x00, 0x00, .u8, ⟨.b, .r, .no, .b, .no⟩, .const 0xFF, .imm, .p, .rangeOr 0 3 0xFF⟩,
    -- AccNfcGate (R201)
    ⟨0x2223, 1, 0x00, 0x00, .u8, ⟨.r, .r, .no, .r, .no⟩, .const 2, .none_, .v, .any⟩,
    -- AccNfcGate (R201)
    ⟨0x2223, 1, 0x01, 0x02, .u8, ⟨.b, .r, .no, .b, .no⟩, .list [0,3], .imm, .p, .range 0 3⟩,
    -- AccDoorPolarity (R201)
    ⟨0x2224, 1, 0x00, 0x00, .u8, ⟨.b, .r, .no, .b, .no⟩, .const 15, .imm, .p, .mask 0x0F⟩,
    -- AccDoorDebounce (R201)
    ⟨0x2225, 1, 0x00, 0x00, .u8, ⟨.b, .r, .no, .b, .no⟩, .const 10, .imm, .p, .range 2 50⟩,
    -- AccSessionSelect (R201)
    ⟨0x2230, 1, 0x00, 0x00, .u8, ⟨.b, .r, .no, .b, .no⟩, .const 0, .imm, .v, .range 0 15⟩,
    -- AccSession (R201)
    ⟨0x2231, 1, 0x00, 0x00, .u8, ⟨.r, .r, .r, .r, .no⟩, .const 6, .none_, .v, .any⟩,
    -- AccSessionTsh (R201)
    ⟨0x2231, 1, 0x01, 0x01, .u16, ⟨.r, .r, .r, .r, .no⟩, .const 0, .none_, .v, .any⟩,
    -- AccSessionIf (R201)
    ⟨0x2231, 1, 0x02, 0x02, .u8, ⟨.r, .r, .r, .r, .no⟩, .const 0, .none_, .v, .any⟩,
    -- AccSessionKey (R201)
    ⟨0x2231, 1, 0x03, 0x03, .u16, ⟨.r, .r, .r, .r, .no⟩, .const 0, .none_, .v, .any⟩,
    -- AccSessionKind (R201)
    ⟨0x2231, 1, 0x04, 0x04, .u8, ⟨.r, .r, .r, .r, .no⟩, .const 0, .none_, .v, .any⟩,
    -- AccSessionRemain (R201)
    ⟨0x2231, 1, 0x05, 0x05, .u32, ⟨.r, .r, .r, .r, .no⟩, .const 0, .none_, .v, .any⟩,
    -- AccSessionSeals (R201)
    ⟨0x2231, 1, 0x06, 0x06, .u8, ⟨.r, .r, .r, .r, .no⟩, .const 0, .none_, .v, .any⟩,
    -- AccIfLockout (R201)
    ⟨0x2232, 1, 0x00, 0x00, .u8, ⟨.r, .r, .no, .r, .no⟩, .const 7, .none_, .v, .any⟩,
    -- AccIfLockout (R201)
    ⟨0x2232, 1, 0x01, 0x07, .u16, ⟨.r, .r, .r, .r, .no⟩, .const 0, .none_, .v, .any⟩,
    -- AccFailCount (R201)
    ⟨0x2233, 1, 0x00, 0x00, .u32, ⟨.r, .r, .no, .r, .no⟩, .const 0, .none_, .v, .any⟩,
    -- AccMacDropCount (R201)
    ⟨0x2234, 1, 0x00, 0x00, .u32, ⟨.r, .r, .no, .r, .no⟩, .const 0, .none_, .v, .any⟩,
    -- TsState (R236)
    ⟨0x2300, 1, 0x00, 0x00, .u8, ⟨.r, .r, .r, .r, .no⟩, .special, .none_, .v, .any⟩,
    -- TsApply (R236)
    ⟨0x2301, 1, 0x00, 0x00, .command, ⟨.x, .x, .no, .x, .no⟩, .const 0, .imm, .none_, .any⟩,
    -- TsFreshness (R236)
    ⟨0x2302, 1, 0x00, 0x00, .u16, ⟨.b, .b, .no, .b, .no⟩, .const 0x96, (.next .bNextTsApply), .p, .range 20 500⟩,
    -- TsVetoHold (R236)
    ⟨0x2303, 1, 0x00, 0x00, .u16, ⟨.b, .b, .no, .b, .no⟩, .const 0x7D0, (.next .bNextTsApply), .p, .range 500 60000⟩,
    -- TsRoundGrace (R236)
    ⟨0x2304, 1, 0x00, 0x00, .u8, ⟨.b, .b, .no, .b, .no⟩, .const 0x14, (.next .bNextTsApply), .p, .range 5 100⟩,
    -- TsTableVersion (R236)
    ⟨0x2305, 1, 0x00, 0x00, .u32, ⟨.r, .r, .r, .r, .no⟩, .const 0, .none_, .v, .any⟩,
    -- TsApplyError (R236)
    ⟨0x2306, 1, 0x00, 0x00, .u16, ⟨.r, .r, .no, .r, .no⟩, .const 0, .none_, .v, .any⟩]

/-- Rows 120 to 143 of the dictionary. -/
def objRows5 : List ObjDef :=
  [
    -- TsPolicy (R236)
    ⟨0x2310, 4, 0x00, 0x00, .u8, ⟨.r, .r, .no, .r, .no⟩, .const 4, .none_, .v, .any⟩,
    -- TsPolicyZones (R236)
    ⟨0x2310, 4, 0x01, 0x01, .u16, ⟨.b, .b, .no, .b, .no⟩, .const 0, (.next .bNextTsApply), .p, .any⟩,
    -- TsPolicyWindow (R236)
    ⟨0x2310, 4, 0x02, 0x02, .u16, ⟨.b, .b, .no, .b, .no⟩, .const 0xFA, (.next .bNextTsApply), .p, .range 20 2000⟩,
    -- TsPolicyFlags (R236)
    ⟨0x2310, 4, 0x03, 0x03, .u8, ⟨.b, .b, .no, .b, .no⟩, .const 1, (.next .bNextTsApply), .p, .special⟩,
    -- TsPolicyRight (R236)
    ⟨0x2310, 4, 0x04, 0x04, .u32, ⟨.r, .r, .r, .r, .no⟩, .special, .none_, .v, .any⟩,
    -- TsZone (R236)
    ⟨0x2320, 16, 0x00, 0x00, .u8, ⟨.r, .r, .no, .r, .no⟩, .const 9, .none_, .v, .any⟩,
    -- TsZoneCtrl (R236)
    ⟨0x2320, 16, 0x01, 0x01, .u8, ⟨.b, .b, .no, .b, .no⟩, .const 0, (.next .bNextTsApply), .p, .mask 0x01⟩,
    -- TsConstraint (R236)
    ⟨0x2320, 16, 0x02, 0x09, .u64, ⟨.b, .b, .no, .b, .no⟩, .const 0, (.next .bNextTsApply), .p, .any⟩,
    -- TsVeto (R236)
    ⟨0x2340, 1, 0x00, 0x00, .u16, ⟨.r, .r, .r, .r, .no⟩, .const 0, .none_, .v, .any⟩,
    -- TsRejectCount (R236)
    ⟨0x2341, 1, 0x00, 0x00, .u8, ⟨.r, .r, .no, .r, .no⟩, .const 6, .none_, .v, .any⟩,
    -- TsRejectCount (R236)
    ⟨0x2341, 1, 0x01, 0x06, .u32, ⟨.r, .r, .no, .r, .no⟩, .const 0, .none_, .v, .any⟩,
    -- TsAdmitCount (R236)
    ⟨0x2342, 1, 0x00, 0x00, .u32, ⟨.r, .r, .no, .r, .no⟩, .const 0, .none_, .v, .any⟩,
    -- TsStoreUsed (R236)
    ⟨0x2343, 1, 0x00, 0x00, .u16, ⟨.r, .r, .no, .r, .no⟩, .const 0, .none_, .v, .any⟩,
    -- TsLastVerdict (R236)
    ⟨0x2350, 1, 0x00, 0x00, .u8, ⟨.r, .r, .r, .r, .no⟩, .const 8, .none_, .v, .any⟩,
    -- TsVerdictTsh (R236)
    ⟨0x2350, 1, 0x01, 0x01, .u16, ⟨.r, .r, .r, .r, .no⟩, .const 0, .none_, .v, .any⟩,
    -- TsVerdictGate (R236)
    ⟨0x2350, 1, 0x02, 0x02, .u8, ⟨.r, .r, .r, .r, .no⟩, .const 0xFF, .none_, .v, .any⟩,
    -- TsVerdictCode (R236)
    ⟨0x2350, 1, 0x03, 0x03, .u8, ⟨.r, .r, .r, .r, .no⟩, .const 0, .none_, .v, .any⟩,
    -- TsVerdictDetail (R236)
    ⟨0x2350, 1, 0x04, 0x04, .u8, ⟨.r, .r, .r, .r, .no⟩, .const 0, .none_, .v, .any⟩,
    -- TsVerdictMask (R236)
    ⟨0x2350, 1, 0x05, 0x05, .u16, ⟨.r, .r, .r, .r, .no⟩, .const 0, .none_, .v, .any⟩,
    -- TsVerdictZone (R236)
    ⟨0x2350, 1, 0x06, 0x06, .u8, ⟨.r, .r, .r, .r, .no⟩, .const 0xFF, .none_, .v, .any⟩,
    -- TsVerdictCon (R236)
    ⟨0x2350, 1, 0x07, 0x07, .u8, ⟨.r, .r, .r, .r, .no⟩, .const 15, .none_, .v, .any⟩,
    -- TsVerdictTable (R236)
    ⟨0x2350, 1, 0x08, 0x08, .u32, ⟨.r, .r, .r, .r, .no⟩, .const 0, .none_, .v, .any⟩,
    -- TsEvidenceSelect (R236)
    ⟨0x2360, 1, 0x00, 0x00, .u16, ⟨.b, .b, .no, .b, .no⟩, .const 0, .imm, .v, .mask 0xF3⟩,
    -- TsEvidenceWindow (R236)
    ⟨0x2361, 1, 0x00, 0x00, .octets 1024, ⟨.r, .r, .no, .r, .no⟩, .const 0, .none_, .v, .any⟩]

/-- Rows 144 to 167 of the dictionary. -/
def objRows6 : List ObjDef :=
  [
    -- GatePulse (R271)
    ⟨0x2401, 1, 0x00, 0x00, .u8, ⟨.r, .r, .no, .r, .no⟩, .const 3, .none_, .v, .any⟩,
    -- GatePulse (R271)
    ⟨0x2401, 1, 0x01, 0x03, .u16, ⟨.b, .r, .no, .b, .no⟩, .const 0x64, (.next .bNextPulse), .p, .range 20 500⟩,
    -- GateLockPulse (R271)
    ⟨0x2402, 1, 0x00, 0x00, .u16, ⟨.b, .r, .no, .b, .no⟩, .const 0x64, (.next .bNextPulse), .p, .range 20 500⟩,
    -- GateRbPolarity (R271)
    ⟨0x2403, 1, 0x00, 0x00, .u8, ⟨.b, .r, .no, .b, .no⟩, .const 15, .imm, .p, .mask 0x0F⟩,
    -- GateRbDelay (R271)
    ⟨0x2404, 1, 0x00, 0x00, .u8, ⟨.b, .r, .no, .b, .no⟩, .const 5, .imm, .p, .range 1 50⟩,
    -- GateRbEnable (R271)
    ⟨0x2405, 1, 0x00, 0x00, .u8, ⟨.b, .r, .no, .b, .no⟩, .const 0, .imm, .p, .mask 0x0F⟩,
    -- GateTrunkOnLock (R271)
    ⟨0x2406, 1, 0x00, 0x00, .bool, ⟨.b, .r, .no, .b, .no⟩, .const 0, .imm, .p, .bool⟩,
    -- GateLock (R271)
    ⟨0x2408, 1, 0x00, 0x00, .command, ⟨.x, .x, .no, .no, .no⟩, .const 0, .imm, .none_, .any⟩,
    -- GateFaultClear (R271)
    ⟨0x2409, 1, 0x00, 0x00, .command, ⟨.x, .no, .no, .no, .no⟩, .const 0, .imm, .none_, .any⟩,
    -- GateStateSummary (R271)
    ⟨0x2410, 1, 0x00, 0x00, .u8, ⟨.r, .r, .r, .r, .no⟩, .const 0, .none_, .v, .any⟩,
    -- GatePulseCount (R271)
    ⟨0x2411, 1, 0x00, 0x00, .u8, ⟨.r, .r, .no, .r, .no⟩, .const 3, .none_, .v, .any⟩,
    -- GatePulseCount (R271)
    ⟨0x2411, 1, 0x01, 0x03, .u32, ⟨.r, .r, .no, .r, .no⟩, .const 0, .none_, .v, .any⟩,
    -- GateRateUsed (R271)
    ⟨0x2412, 1, 0x00, 0x00, .u8, ⟨.r, .r, .no, .r, .no⟩, .const 3, .none_, .v, .any⟩,
    -- GateRateUsed (R271)
    ⟨0x2412, 1, 0x01, 0x03, .u8, ⟨.r, .r, .r, .r, .no⟩, .const 0, .none_, .v, .any⟩,
    -- GateFault (R271)
    ⟨0x2418, 1, 0x00, 0x00, .u8, ⟨.r, .r, .r, .r, .no⟩, .const 0, .none_, .v, .any⟩,
    -- GateImmoMode (R271)
    ⟨0x2420, 1, 0x00, 0x00, .u8, ⟨.b, .r, .no, .b, .no⟩, .const 0, .idle, .p, .vals [0,1,2]⟩,
    -- GateImmoPort (R271)
    ⟨0x2421, 1, 0x00, 0x00, .u8, ⟨.b, .r, .no, .b, .no⟩, .const 0, .idle, .p, .vals [0,1]⟩,
    -- GateImmoFormat (R271)
    ⟨0x2422, 1, 0x00, 0x00, .u8, ⟨.b, .r, .no, .b, .no⟩, .const 0, .idle, .p, .vals [0,1]⟩,
    -- GateImmoRxId (R271)
    ⟨0x2423, 1, 0x00, 0x00, .u16, ⟨.b, .r, .no, .b, .no⟩, .const 0xF0, .idle, .p, .range 0 0x7FF⟩,
    -- GateImmoTxId (R271)
    ⟨0x2424, 1, 0x00, 0x00, .u16, ⟨.b, .r, .no, .b, .no⟩, .const 0xF1, .idle, .p, .range 0 0x7FF⟩,
    -- GateImmoKey (R271)
    ⟨0x2425, 1, 0x00, 0x00, .u16, ⟨.b, .no, .no, .b, .no⟩, .const 0xFFFF, .idle, .p, .handle⟩,
    -- GateImmoPeriod (R271)
    ⟨0x2426, 1, 0x00, 0x00, .u16, ⟨.b, .r, .no, .b, .no⟩, .const 0x64, .idle, .p, .range 20 1000⟩,
    -- GateImmoWait (R271)
    ⟨0x2427, 1, 0x00, 0x00, .u16, ⟨.b, .r, .no, .b, .no⟩, .const 0x7D0, .idle, .p, .range 100 5000⟩,
    -- GateImmoSeq (R271)
    ⟨0x2428, 1, 0x00, 0x00, .u32, ⟨.r, .r, .no, .r, .no⟩, .const 0, .none_, .p, .any⟩]

/-- Rows 168 to 191 of the dictionary. -/
def objRows7 : List ObjDef :=
  [
    -- GateImmoRejectCount (R271)
    ⟨0x2429, 1, 0x00, 0x00, .u32, ⟨.r, .r, .no, .r, .no⟩, .const 0, .none_, .v, .any⟩,
    -- GateLastSeal (R271)
    ⟨0x2430, 1, 0x00, 0x00, .u8, ⟨.r, .r, .r, .r, .no⟩, .const 8, .none_, .v, .any⟩,
    -- GateLastSeal (R271)
    ⟨0x2430, 1, 0x01, 0x01, .u32, ⟨.r, .r, .r, .r, .no⟩, .const 0, .none_, .v, .any⟩,
    -- GateLastSeal (R271)
    ⟨0x2430, 1, 0x02, 0x02, .u8, ⟨.r, .r, .r, .r, .no⟩, .const 0, .none_, .v, .any⟩,
    -- GateLastSeal (R271)
    ⟨0x2430, 1, 0x03, 0x03, .u16, ⟨.r, .r, .r, .r, .no⟩, .const 0, .none_, .v, .any⟩,
    -- GateLastSeal (R271)
    ⟨0x2430, 1, 0x04, 0x04, .u16, ⟨.r, .r, .r, .r, .no⟩, .const 0, .none_, .v, .any⟩,
    -- GateLastSeal (R271)
    ⟨0x2430, 1, 0x05, 0x05, .u8, ⟨.r, .r, .r, .r, .no⟩, .const 0, .none_, .v, .any⟩,
    -- GateLastSeal (R271)
    ⟨0x2430, 1, 0x06, 0x06, .u32, ⟨.r, .r, .r, .r, .no⟩, .const 0, .none_, .v, .any⟩,
    -- GateLastSeal (R271)
    ⟨0x2430, 1, 0x07, 0x07, .u32, ⟨.r, .r, .r, .r, .no⟩, .const 0, .none_, .v, .any⟩,
    -- GateLastSeal (R271)
    ⟨0x2430, 1, 0x08, 0x08, .u64, ⟨.r, .r, .r, .r, .no⟩, .const 0, .none_, .v, .any⟩,
    -- GateLimitShare (R271)
    ⟨0x2440, 1, 0x00, 0x00, .u8, ⟨.r, .r, .no, .r, .no⟩, .const 4, .none_, .v, .any⟩,
    -- GateLimitShare (R271)
    ⟨0x2440, 1, 0x01, 0x04, .u8, ⟨.b, .r, .no, .b, .no⟩, .const 0x19, .imm, .p, .range 0 50⟩,
    -- GateLimitCutCount (R271)
    ⟨0x2441, 1, 0x00, 0x00, .u8, ⟨.r, .r, .no, .r, .no⟩, .const 4, .none_, .v, .any⟩,
    -- GateLimitCutCount (R271)
    ⟨0x2441, 1, 0x01, 0x04, .u32, ⟨.r, .r, .no, .r, .no⟩, .const 0, .none_, .v, .any⟩,
    -- GateGpioHold (R271)
    ⟨0x2442, 1, 0x00, 0x00, .u16, ⟨.b, .no, .no, .b, .no⟩, .const 0x3E8, .imm, .p, .range 1 60000⟩,
    -- GateQuenchCause (R271)
    ⟨0x2450, 1, 0x00, 0x00, .u8, ⟨.r, .r, .r, .r, .no⟩, .const 0, .none_, .v, .any⟩,
    -- GateQuench (R271)
    ⟨0x2451, 1, 0x00, 0x00, .command, ⟨.x, .no, .no, .no, .no⟩, .const 0, .imm, .none_, .any⟩,
    -- UwbState (R316)
    ⟨0x3000, 1, 0x00, 0x00, .u8, ⟨.r, .r, .r, .r, .no⟩, .const 1, .none_, .v, .any⟩,
    -- UwbChannel (R316)
    ⟨0x3001, 1, 0x00, 0x00, .u8, ⟨.b, .r, .no, .b, .no⟩, .const 9, (.next .bNextUWBSession), .p, .vals [5,9]⟩,
    -- UwbStsCfg (R316)
    ⟨0x3002, 1, 0x00, 0x00, .u8, ⟨.b, .r, .no, .b, .no⟩, .const 1, (.next .bNextUWBSession), .p, .range 1 3⟩,
    -- UwbPrf (R316)
    ⟨0x3003, 1, 0x00, 0x00, .u8, ⟨.b, .r, .no, .b, .no⟩, .const 0, (.next .bNextUWBSession), .p, .vals [0,1]⟩,
    -- UwbRate (R316)
    ⟨0x3004, 1, 0x00, 0x00, .u8, ⟨.b, .r, .no, .b, .no⟩, .const 1, (.next .bNextUWBSession), .p, .vals [0,1,2]⟩,
    -- UwbPreambleCode (R316)
    ⟨0x3005, 1, 0x00, 0x00, .u8, ⟨.b, .r, .no, .b, .no⟩, .const 10, (.next .bNextUWBSession), .p, .vals [9,10,11,12,25,26,27,28,29,30,31,32]⟩,
    -- UwbPreambleLen (R316)
    ⟨0x3006, 1, 0x00, 0x00, .u8, ⟨.b, .r, .no, .b, .no⟩, .const 1, (.next .bNextUWBSession), .p, .special⟩]

/-- Rows 192 to 215 of the dictionary. -/
def objRows8 : List ObjDef :=
  [
    -- UwbRoundAnchors (R316)
    ⟨0x3007, 1, 0x00, 0x00, .u8, ⟨.b, .r, .no, .b, .no⟩, .const 4, (.next .bNextUWBSession), .p, .range 1 8⟩,
    -- UwbBlockMs (R316)
    ⟨0x3008, 1, 0x00, 0x00, .u16, ⟨.b, .r, .no, .b, .no⟩, .const 0x30, (.next .bNextUWBSession), .p, .special⟩,
    -- UwbStartDelayMs (R316)
    ⟨0x3009, 1, 0x00, 0x00, .u16, ⟨.b, .r, .no, .b, .no⟩, .const 0x96, (.next .bNextUWBSession), .p, .range 20 1000⟩,
    -- UwbTwrMode (R316)
    ⟨0x300A, 1, 0x00, 0x00, .u8, ⟨.b, .r, .no, .b, .no⟩, .const 0, (.next .bNextRound), .p, .vals [0,1]⟩,
    -- UwbBlockAnchors (R316)
    ⟨0x300B, 1, 0x00, 0x00, .u16, ⟨.b, .r, .no, .b, .no⟩, .const 15, (.next .bNextBlock), .p, .any⟩,
    -- UwbMissLimit (R316)
    ⟨0x300C, 1, 0x00, 0x00, .u8, ⟨.b, .r, .no, .b, .no⟩, .const 0x10, .imm, .p, .range 1 255⟩,
    -- UwbPlanLead (R316)
    ⟨0x300D, 1, 0x00, 0x00, .u16, ⟨.b, .no, .no, .b, .no⟩, .const 0x3E8, .imm, .p, .range 500 4000⟩,
    -- UwbTxPower (R316)
    ⟨0x300E, 1, 0x00, 0x00, .u8, ⟨.b, .r, .no, .b, .no⟩, .const 0x3C, (.next .bNextFrame), .p, .range 0 84⟩,
    -- UwbTxPort (R316)
    ⟨0x300F, 1, 0x00, 0x00, .u8, ⟨.b, .r, .no, .b, .no⟩, .const 0, .idle, .p, .range 0 3⟩,
    -- UwbFpThreshold (R316)
    ⟨0x3010, 1, 0x00, 0x00, .u8, ⟨.b, .no, .no, .b, .no⟩, .const 12, (.next .bNextFrame), .p, .range 6 30⟩,
    -- UwbFpAgreeTol (R316)
    ⟨0x3011, 1, 0x00, 0x00, .u16, ⟨.b, .no, .no, .b, .no⟩, .const 0x40, (.next .bNextFrame), .p, .range 8 256⟩,
    -- UwbStsQualMin (R316)
    ⟨0x3012, 1, 0x00, 0x00, .u8, ⟨.b, .no, .no, .b, .no⟩, .const 0x3C, (.next .bNextFrame), .p, .range 30 95⟩,
    -- UwbEarlyWindow (R316)
    ⟨0x3013, 1, 0x00, 0x00, .u8, ⟨.b, .no, .no, .b, .no⟩, .const 0x28, (.next .bNextFrame), .p, .range 8 200⟩,
    -- UwbEarlyThreshold (R316)
    ⟨0x3014, 1, 0x00, 0x00, .u8, ⟨.b, .no, .no, .b, .no⟩, .const 9, (.next .bNextFrame), .p, .range 3 20⟩,
    -- UwbSyncPeriod (R316)
    ⟨0x3018, 1, 0x00, 0x00, .u16, ⟨.b, .r, .no, .b, .no⟩, .const 0x3E8, .imm, .p, .range 100 10000⟩,
    -- UwbAntDelay (R316)
    ⟨0x3020, 4, 0x00, 0x00, .u8, ⟨.r, .r, .no, .r, .no⟩, .const 4, .none_, .v, .any⟩,
    -- UwbAntDelay (R316)
    ⟨0x3020, 4, 0x01, 0x04, .u16, ⟨.b, .r, .no, .b, .no⟩, .const 0x4000, .idle, .p, .any⟩,
    -- UwbAoaPair (R316)
    ⟨0x3030, 1, 0x00, 0x00, .u8, ⟨.b, .r, .no, .b, .no⟩, .const 0, .idle, .p, .vals [0,1,0xFF]⟩,
    -- UwbAoaSpacing (R316)
    ⟨0x3031, 1, 0x00, 0x00, .u16, ⟨.b, .r, .no, .b, .no⟩, .const 0x755, .idle, .p, .range 500 2310⟩,
    -- UwbPdoaOffset (R316)
    ⟨0x3032, 1, 0x00, 0x00, .u8, ⟨.r, .r, .no, .r, .no⟩, .const 2, .none_, .v, .any⟩,
    -- UwbPdoaOffset (R316)
    ⟨0x3032, 1, 0x01, 0x02, .i16, ⟨.b, .r, .no, .b, .no⟩, .const 0, .idle, .p, .any⟩,
    -- UwbStats (R316)
    ⟨0x3040, 1, 0x00, 0x00, .u8, ⟨.r, .r, .no, .r, .no⟩, .const 6, .none_, .v, .any⟩,
    -- UwbStats (R316)
    ⟨0x3040, 1, 0x01, 0x06, .u32, ⟨.r, .r, .no, .r, .no⟩, .const 0, .none_, .v, .any⟩,
    -- UwbLastTwr (R316)
    ⟨0x3050, 1, 0x00, 0x00, .u8, ⟨.r, .r, .r, .r, .no⟩, .const 5, .none_, .v, .any⟩]

/-- Rows 216 to 239 of the dictionary. -/
def objRows9 : List ObjDef :=
  [
    -- UwbLastTwrTsh (R316)
    ⟨0x3050, 1, 0x01, 0x01, .u16, ⟨.r, .r, .r, .r, .no⟩, .const 0, .none_, .v, .any⟩,
    -- UwbLastTwrRound (R316)
    ⟨0x3050, 1, 0x02, 0x02, .u16, ⟨.r, .r, .r, .r, .no⟩, .const 0, .none_, .v, .any⟩,
    -- UwbLastTwrValue (R316)
    ⟨0x3050, 1, 0x03, 0x03, .i32, ⟨.r, .r, .r, .r, .no⟩, .const 0, .none_, .v, .any⟩,
    -- UwbLastTwrTof (R316)
    ⟨0x3050, 1, 0x04, 0x04, .i32, ⟨.r, .r, .r, .r, .no⟩, .const 0, .none_, .v, .any⟩,
    -- UwbLastTwrFlags (R316)
    ⟨0x3050, 1, 0x05, 0x05, .u8, ⟨.r, .r, .r, .r, .no⟩, .const 0, .none_, .v, .any⟩,
    -- UwbAuxTx (R316)
    ⟨0x3060, 1, 0x00, 0x00, .command, ⟨.x, .no, .x, .no, .no⟩, .const 0, .imm, .none_, .any⟩,
    -- UwbAuxRx (R316)
    ⟨0x3061, 1, 0x00, 0x00, .command, ⟨.x, .no, .x, .no, .no⟩, .const 0, .imm, .none_, .any⟩,
    -- UwbRcnt (R316)
    ⟨0x3070, 1, 0x00, 0x00, .u64, ⟨.r, .r, .r, .r, .no⟩, .const 0, .none_, .v, .any⟩,
    -- RfcUwbState (R352)
    ⟨0x3200, 1, 0x00, 0x00, .u8, ⟨.r, .r, .r, .r, .no⟩, .const 0, .none_, .v, .any⟩,
    -- RfcBleState (R352)
    ⟨0x3201, 1, 0x00, 0x00, .u8, ⟨.r, .r, .r, .r, .no⟩, .const 0, .none_, .v, .any⟩,
    -- RfcAutoReturn (R352)
    ⟨0x3202, 1, 0x00, 0x00, .u8, ⟨.r, .r, .no, .r, .no⟩, .const 2, .none_, .v, .any⟩,
    -- RfcAutoReturn (R352)
    ⟨0x3202, 1, 0x01, 0x02, .u8, ⟨.b, .r, .no, .b, .no⟩, .const 0, (.next .bNextPacket), .p, .vals [0,1,2]⟩,
    -- RfcKeepReady (R352)
    ⟨0x3203, 1, 0x00, 0x00, .u16, ⟨.b, .r, .no, .b, .no⟩, .const 0x12C, .imm, .p, .range 50 5000⟩,
    -- RfcOffDelay (R352)
    ⟨0x3204, 1, 0x00, 0x00, .u16, ⟨.b, .r, .no, .b, .no⟩, .const 0x7D0, .imm, .p, .range 100 50000⟩,
    -- RfcLateCount (R352)
    ⟨0x3205, 1, 0x00, 0x00, .u8, ⟨.r, .r, .no, .r, .no⟩, .const 2, .none_, .v, .any⟩,
    -- RfcLateCount (R352)
    ⟨0x3205, 1, 0x01, 0x02, .u32, ⟨.r, .r, .no, .r, .no⟩, .const 0, .none_, .v, .any⟩,
    -- RfcLockFailCount (R352)
    ⟨0x3206, 1, 0x00, 0x00, .u32, ⟨.r, .r, .no, .r, .no⟩, .const 0, .none_, .v, .any⟩,
    -- RfcCalRun (R352)
    ⟨0x3210, 1, 0x00, 0x00, .command, ⟨.x, .no, .no, .no, .no⟩, .const 0, .imm, .none_, .any⟩,
    -- RfcCalTempStep (R352)
    ⟨0x3211, 1, 0x00, 0x00, .u8, ⟨.b, .r, .no, .b, .no⟩, .const 8, .imm, .p, .range 2 30⟩,
    -- RfcCalTempForce (R352)
    ⟨0x3212, 1, 0x00, 0x00, .u8, ⟨.b, .r, .no, .b, .no⟩, .const 0x14, .imm, .p, .range 5 40⟩,
    -- RfcAnnealPeriod (R352)
    ⟨0x3213, 1, 0x00, 0x00, .u16, ⟨.b, .r, .no, .b, .no⟩, .const 0x3C, .imm, .p, .range 10 3600⟩,
    -- RfcDieTemp (R352)
    ⟨0x3214, 1, 0x00, 0x00, .i16, ⟨.r, .r, .r, .r, .no⟩, .const 0, .none_, .v, .any⟩,
    -- RfcCalStatus (R352)
    ⟨0x3215, 1, 0x00, 0x00, .u8, ⟨.r, .r, .no, .r, .no⟩, .const 5, .none_, .v, .any⟩,
    -- RfcCalValid (R352)
    ⟨0x3215, 1, 0x01, 0x01, .u8, ⟨.r, .r, .no, .r, .no⟩, .const 0, .none_, .v, .any⟩]

/-- Rows 240 to 263 of the dictionary. -/
def objRows10 : List ObjDef :=
  [
    -- RfcCalFailed (R352)
    ⟨0x3215, 1, 0x02, 0x02, .u8, ⟨.r, .r, .no, .r, .no⟩, .const 0, .none_, .v, .any⟩,
    -- RfcCalTempUwb (R352)
    ⟨0x3215, 1, 0x03, 0x03, .i16, ⟨.r, .r, .no, .r, .no⟩, .const 0, .none_, .v, .any⟩,
    -- RfcCalTempBle (R352)
    ⟨0x3215, 1, 0x04, 0x04, .i16, ⟨.r, .r, .no, .r, .no⟩, .const 0, .none_, .v, .any⟩,
    -- RfcCalRuns (R352)
    ⟨0x3215, 1, 0x05, 0x05, .u32, ⟨.r, .r, .no, .r, .no⟩, .const 0, .none_, .v, .any⟩,
    -- RfcUwbOsc (R352)
    ⟨0x3220, 1, 0x00, 0x00, .u8, ⟨.r, .r, .no, .r, .no⟩, .const 2, .none_, .v, .any⟩,
    -- RfcUwbOsc (R352)
    ⟨0x3220, 1, 0x01, 0x02, .u16, ⟨.r, .r, .no, .r, .no⟩, .special, .none_, .v, .any⟩,
    -- RfcUwbFbw (R352)
    ⟨0x3221, 1, 0x00, 0x00, .u8, ⟨.r, .r, .no, .r, .no⟩, .special, .none_, .v, .any⟩,
    -- RfcUwbDco (R352)
    ⟨0x3222, 1, 0x00, 0x00, .u8, ⟨.r, .r, .no, .r, .no⟩, .const 4, .none_, .v, .any⟩,
    -- RfcUwbDco (R352)
    ⟨0x3222, 1, 0x01, 0x04, .i16, ⟨.r, .r, .no, .r, .no⟩, .const 0, .none_, .v, .any⟩,
    -- RfcBleOsc (R352)
    ⟨0x3230, 1, 0x00, 0x00, .u8, ⟨.r, .r, .no, .r, .no⟩, .const 4, .none_, .v, .any⟩,
    -- RfcBleOsc (R352)
    ⟨0x3230, 1, 0x01, 0x04, .u16, ⟨.r, .r, .no, .r, .no⟩, .special, .none_, .v, .any⟩,
    -- RfcBleFbw (R352)
    ⟨0x3231, 1, 0x00, 0x00, .u8, ⟨.r, .r, .no, .r, .no⟩, .special, .none_, .v, .any⟩,
    -- RfcBleIrr (R352)
    ⟨0x3232, 1, 0x00, 0x00, .u8, ⟨.r, .r, .no, .r, .no⟩, .const 4, .none_, .v, .any⟩,
    -- RfcBleIrr (R352)
    ⟨0x3232, 1, 0x01, 0x04, .u32, ⟨.r, .r, .no, .r, .no⟩, .const 0, .none_, .v, .any⟩,
    -- RfcBleIrrDb (R352)
    ⟨0x3233, 1, 0x00, 0x00, .u8, ⟨.r, .r, .no, .r, .no⟩, .const 0, .none_, .v, .any⟩,
    -- RfcBleDco (R352)
    ⟨0x3234, 1, 0x00, 0x00, .u8, ⟨.r, .r, .no, .r, .no⟩, .const 2, .none_, .v, .any⟩,
    -- RfcBleDco (R352)
    ⟨0x3234, 1, 0x01, 0x02, .i16, ⟨.r, .r, .no, .r, .no⟩, .const 0, .none_, .v, .any⟩,
    -- RfcUwbDivMode (R352)
    ⟨0x3240, 1, 0x00, 0x00, .u8, ⟨.r, .r, .no, .r, .no⟩, .const 2, .none_, .v, .any⟩,
    -- RfcUwbDivMode (R352)
    ⟨0x3240, 1, 0x01, 0x02, .u8, ⟨.b, .r, .no, .b, .no⟩, .const 0, (.next .bNextFrame), .p, .vals [0,1,2]⟩,
    -- RfcUwbDivHyst (R352)
    ⟨0x3241, 1, 0x00, 0x00, .u8, ⟨.b, .r, .no, .b, .no⟩, .const 4, (.next .bNextFrame), .p, .range 0 24⟩,
    -- RfcBleDivMode (R352)
    ⟨0x3242, 1, 0x00, 0x00, .u8, ⟨.b, .r, .no, .b, .no⟩, .const 0, (.next .bNextConnectionEvent), .p, .vals [0,1,2]⟩,
    -- RfcBleDivProbe (R352)
    ⟨0x3243, 1, 0x00, 0x00, .u8, ⟨.b, .r, .no, .b, .no⟩, .const 8, (.next .bNextConnectionEvent), .p, .range 2 64⟩,
    -- RfcFemUCfg (R352)
    ⟨0x3250, 1, 0x00, 0x00, .u16, ⟨.b, .no, .no, .b, .no⟩, .const 0, .idle, .p, .special⟩,
    -- RfcFemUTiming (R352)
    ⟨0x3251, 1, 0x00, 0x00, .u8, ⟨.r, .r, .no, .r, .no⟩, .const 4, .none_, .v, .any⟩]

/-- Rows 264 to 287 of the dictionary. -/
def objRows11 : List ObjDef :=
  [
    -- RfcFemUTiming (R352)
    ⟨0x3251, 1, 0x01, 0x04, .u16, ⟨.b, .no, .no, .b, .no⟩, .list [1000,300,1000,500], .idle, .p, .special⟩,
    -- RfcFemUGain (R352)
    ⟨0x3252, 1, 0x00, 0x00, .u8, ⟨.r, .r, .no, .r, .no⟩, .const 3, .none_, .v, .any⟩,
    -- RfcFemUGain (R352)
    ⟨0x3252, 1, 0x01, 0x03, .u8, ⟨.b, .no, .no, .b, .no⟩, .const 0, .idle, .p, .range 0 80⟩,
    -- RfcFemUBypLevel (R352)
    ⟨0x3253, 1, 0x00, 0x00, .i16, ⟨.b, .no, .no, .b, .no⟩, .const 0xFFDD, .idle, .p, .srange (-60) 0⟩,
    -- RfcFemBCfg (R352)
    ⟨0x3258, 1, 0x00, 0x00, .u16, ⟨.b, .no, .no, .b, .no⟩, .const 0, .idle, .p, .special⟩,
    -- RfcFemBTiming (R352)
    ⟨0x3259, 1, 0x00, 0x00, .u8, ⟨.r, .r, .no, .r, .no⟩, .const 4, .none_, .v, .any⟩,
    -- RfcFemBTiming (R352)
    ⟨0x3259, 1, 0x01, 0x04, .u16, ⟨.b, .no, .no, .b, .no⟩, .list [2000,500,1000,1000], .idle, .p, .special⟩,
    -- RfcFemBGain (R352)
    ⟨0x325A, 1, 0x00, 0x00, .u8, ⟨.r, .r, .no, .r, .no⟩, .const 3, .none_, .v, .any⟩,
    -- RfcFemBGain (R352)
    ⟨0x325A, 1, 0x01, 0x03, .u8, ⟨.b, .no, .no, .b, .no⟩, .const 0, .idle, .p, .range 0 80⟩,
    -- RfcFemBBypLevel (R352)
    ⟨0x325B, 1, 0x00, 0x00, .i16, ⟨.b, .no, .no, .b, .no⟩, .const 0xFFE2, .idle, .p, .srange (-60) 0⟩,
    -- RfcFemPins (R352)
    ⟨0x3260, 1, 0x00, 0x00, .u8, ⟨.r, .r, .no, .r, .no⟩, .const 0, .none_, .v, .any⟩,
    -- BleAdvProfile (R377)
    ⟨0x3101, 1, 0x00, 0x00, .u8, ⟨.b, .r, .no, .b, .no⟩, .const 2, (.next .bNextAdvertisingEvent), .p, .special⟩,
    -- BleBoostTime (R377)
    ⟨0x3102, 1, 0x00, 0x00, .u8, ⟨.b, .r, .no, .b, .no⟩, .const 10, .imm, .p, .range 0 60⟩,
    -- BlePhyPref (R377)
    ⟨0x3103, 1, 0x00, 0x00, .u8, ⟨.b, .r, .no, .b, .no⟩, .const 1, (.next .bNextConnection), .p, .vals [0,1,2,3]⟩,
    -- BleTxPower (R377)
    ⟨0x3104, 1, 0x00, 0x00, .i16, ⟨.b, .r, .no, .b, .no⟩, .const 4, (.next .bNextPacket), .p, .srange (-20) 20⟩,
    -- BleAccessIntervalMax (R377)
    ⟨0x3105, 1, 0x00, 0x00, .u16, ⟨.b, .r, .no, .b, .no⟩, .const 0x18, .imm, .p, .range 6 3200⟩,
    -- BleNoSessionLimit (R377)
    ⟨0x3106, 1, 0x00, 0x00, .u16, ⟨.b, .r, .no, .b, .no⟩, .const 10, .imm, .p, .range 2 120⟩,
    -- BleAddrPeriod (R377)
    ⟨0x3107, 1, 0x00, 0x00, .u16, ⟨.b, .r, .no, .b, .no⟩, .const 0x384, .imm, .p, .range 60 3600⟩,
    -- BleHintKey (R377)
    ⟨0x3108, 1, 0x00, 0x00, .u16, ⟨.b, .no, .no, .b, .no⟩, .const 0xFFFF, .imm, .p, .handle⟩,
    -- BleDeviceName (R377)
    ⟨0x3109, 1, 0x00, 0x00, .octets 20, ⟨.b, .r, .no, .b, .no⟩, .const 0x616D6173696C47, .imm, .p, .any⟩,
    -- BleAddress (R377)
    ⟨0x310A, 1, 0x00, 0x00, .octets 6, ⟨.r, .r, .r, .r, .no⟩, .const 0, .none_, .v, .any⟩,
    -- BleConnCount (R377)
    ⟨0x3110, 1, 0x00, 0x00, .u8, ⟨.r, .r, .r, .r, .no⟩, .const 0, .none_, .v, .any⟩,
    -- BleConnSelect (R377)
    ⟨0x3111, 1, 0x00, 0x00, .u8, ⟨.b, .r, .no, .b, .no⟩, .const 0, .imm, .v, .range 0 7⟩,
    -- BleConn (R377)
    ⟨0x3112, 1, 0x00, 0x00, .u8, ⟨.r, .r, .r, .r, .no⟩, .const 6, .none_, .v, .any⟩]

/-- Rows 288 to 311 of the dictionary. -/
def objRows12 : List ObjDef :=
  [
    -- BleConnState (R377)
    ⟨0x3112, 1, 0x01, 0x01, .u8, ⟨.r, .r, .r, .r, .no⟩, .const 0, .none_, .v, .any⟩,
    -- BleConnPhy (R377)
    ⟨0x3112, 1, 0x02, 0x02, .u8, ⟨.r, .r, .r, .r, .no⟩, .const 0, .none_, .v, .any⟩,
    -- BleConnInterval (R377)
    ⟨0x3112, 1, 0x03, 0x03, .u16, ⟨.r, .r, .r, .r, .no⟩, .const 0, .none_, .v, .any⟩,
    -- BleConnMtu (R377)
    ⟨0x3112, 1, 0x04, 0x04, .u16, ⟨.r, .r, .r, .r, .no⟩, .const 0x17, .none_, .v, .any⟩,
    -- BleConnTsh (R377)
    ⟨0x3112, 1, 0x05, 0x05, .u16, ⟨.r, .r, .r, .r, .no⟩, .const 0, .none_, .v, .any⟩,
    -- BleConnRssi (R377)
    ⟨0x3112, 1, 0x06, 0x06, .i16, ⟨.r, .r, .r, .r, .no⟩, .const 0, .none_, .v, .any⟩,
    -- BleStats (R377)
    ⟨0x3120, 1, 0x00, 0x00, .u8, ⟨.r, .r, .no, .r, .no⟩, .const 5, .none_, .v, .any⟩,
    -- BleStats (R377)
    ⟨0x3120, 1, 0x01, 0x05, .u32, ⟨.r, .r, .no, .r, .no⟩, .const 0, .none_, .v, .any⟩,
    -- BleEngChar (R377)
    ⟨0x3140, 16, 0x00, 0x00, .u8, ⟨.r, .no, .r, .no, .no⟩, .const 6, .none_, .v, .any⟩,
    -- BleEngUuid (R377)
    ⟨0x3140, 16, 0x01, 0x01, .octets 16, ⟨.r, .no, .b, .no, .no⟩, .const 0, (.next .bNextBleEngPublish), .v, .any⟩,
    -- BleEngProps (R377)
    ⟨0x3140, 16, 0x02, 0x02, .u8, ⟨.r, .no, .b, .no, .no⟩, .const 0, (.next .bNextBleEngPublish), .v, .special⟩,
    -- BleEngOwner (R377)
    ⟨0x3140, 16, 0x03, 0x03, .u8, ⟨.r, .r, .r, .r, .no⟩, .const 0xFF, .none_, .v, .any⟩,
    -- BleEngMaxLen (R377)
    ⟨0x3140, 16, 0x04, 0x04, .u16, ⟨.r, .no, .b, .no, .no⟩, .const 0x14, (.next .bNextBleEngPublish), .v, .range 1 244⟩,
    -- BleEngValue (R377)
    ⟨0x3140, 16, 0x05, 0x05, .octets 244, ⟨.r, .no, .b, .no, .no⟩, .const 0, .imm, .v, .any⟩,
    -- BleEngPublish (R377)
    ⟨0x3160, 1, 0x00, 0x00, .command, ⟨.no, .no, .x, .no, .no⟩, .const 0, .imm, .none_, .any⟩,
    -- BleEngNotify (R377)
    ⟨0x3161, 1, 0x00, 0x00, .command, ⟨.no, .no, .x, .no, .no⟩, .const 0, .imm, .none_, .any⟩,
    -- BleEngRelease (R377)
    ⟨0x3162, 1, 0x00, 0x00, .command, ⟨.no, .no, .x, .no, .no⟩, .const 0, .imm, .none_, .any⟩,
    -- BleEngRx (R377)
    ⟨0x3163, 1, 0x00, 0x00, .command, ⟨.no, .no, .x, .no, .no⟩, .const 0, .imm, .none_, .any⟩,
    -- CapEnable (R405)
    ⟨0x3400, 1, 0x00, 0x00, .u8, ⟨.b, .r, .no, .b, .no⟩, .perVar 15 15 3, (.next .bNextScan), .p, .mask 0x0F⟩,
    -- CapScanRate (R405)
    ⟨0x3401, 1, 0x00, 0x00, .u8, ⟨.b, .r, .no, .b, .no⟩, .const 0x19, (.next .bNextScan), .p, .range 5 100⟩,
    -- CapTouchThreshold (R405)
    ⟨0x3402, 1, 0x00, 0x00, .u8, ⟨.r, .r, .no, .r, .no⟩, .const 4, .none_, .v, .any⟩,
    -- CapTouchThreshold (R405)
    ⟨0x3402, 1, 0x01, 0x04, .u16, ⟨.b, .r, .no, .b, .no⟩, .const 0x4B, (.next .bNextScan), .p, .range 5 5000⟩,
    -- CapReleasePct (R405)
    ⟨0x3403, 1, 0x00, 0x00, .u8, ⟨.b, .r, .no, .b, .no⟩, .const 0x32, (.next .bNextScan), .p, .range 10 90⟩,
    -- CapDebounce (R405)
    ⟨0x3404, 1, 0x00, 0x00, .u8, ⟨.b, .r, .no, .b, .no⟩, .const 2, (.next .bNextScan), .p, .range 1 8⟩]

/-- Rows 312 to 335 of the dictionary. -/
def objRows13 : List ObjDef :=
  [
    -- CapBaselineTau (R405)
    ⟨0x3405, 1, 0x00, 0x00, .u8, ⟨.b, .r, .no, .b, .no⟩, .const 8, .imm, .p, .range 1 60⟩,
    -- CapGangLimit (R405)
    ⟨0x3406, 1, 0x00, 0x00, .u8, ⟨.b, .r, .no, .b, .no⟩, .perVar 3 3 2, .imm, .p, .range 2 4⟩,
    -- CapStuckTime (R405)
    ⟨0x3407, 1, 0x00, 0x00, .u8, ⟨.b, .r, .no, .b, .no⟩, .const 10, .imm, .p, .range 1 60⟩,
    -- CapRaw (R405)
    ⟨0x3410, 1, 0x00, 0x00, .u8, ⟨.r, .r, .no, .r, .no⟩, .const 4, .none_, .v, .any⟩,
    -- CapRaw (R405)
    ⟨0x3410, 1, 0x01, 0x04, .u16, ⟨.r, .r, .r, .r, .no⟩, .const 0, .none_, .v, .any⟩,
    -- CapBaseline (R405)
    ⟨0x3411, 1, 0x00, 0x00, .u8, ⟨.r, .r, .no, .r, .no⟩, .const 4, .none_, .v, .any⟩,
    -- CapBaseline (R405)
    ⟨0x3411, 1, 0x01, 0x04, .u16, ⟨.r, .r, .r, .r, .no⟩, .const 0, .none_, .v, .any⟩,
    -- CapGangCount (R405)
    ⟨0x3412, 1, 0x00, 0x00, .u32, ⟨.r, .r, .no, .r, .no⟩, .const 0, .none_, .v, .any⟩,
    -- CapStuckCount (R405)
    ⟨0x3413, 1, 0x00, 0x00, .u8, ⟨.r, .r, .no, .r, .no⟩, .const 4, .none_, .v, .any⟩,
    -- CapStuckCount (R405)
    ⟨0x3413, 1, 0x01, 0x04, .u32, ⟨.r, .r, .no, .r, .no⟩, .const 0, .none_, .v, .any⟩,
    -- CapTouchState (R405)
    ⟨0x3414, 1, 0x00, 0x00, .u8, ⟨.r, .r, .r, .r, .no⟩, .const 0, .none_, .v, .any⟩,
    -- LfChanEnable (R406)
    ⟨0x3300, 1, 0x00, 0x00, .u8, ⟨.b, .r, .no, .b, .no⟩, .const 15, .idle, .p, .mask 0x0F⟩,
    -- LfLegacyEnable (R406)
    ⟨0x3301, 1, 0x00, 0x00, .bool, ⟨.b, .b, .no, .b, .no⟩, .const 1, (.next .bNextExchange), .p, .bool⟩,
    -- LfCarrierTop (R406)
    ⟨0x3302, 1, 0x00, 0x00, .u8, ⟨.r, .r, .no, .r, .no⟩, .const 4, .none_, .v, .any⟩,
    -- LfCarrierTop (R406)
    ⟨0x3302, 1, 0x01, 0x04, .u16, ⟨.b, .r, .no, .b, .no⟩, .const 0x3E6, .idle, .p, .range 832 1248⟩,
    -- LfCurrent (R406)
    ⟨0x3303, 1, 0x00, 0x00, .u8, ⟨.r, .r, .no, .r, .no⟩, .const 4, .none_, .v, .any⟩,
    -- LfCurrent (R406)
    ⟨0x3303, 1, 0x01, 0x04, .u16, ⟨.b, .r, .no, .b, .no⟩, .const 0x3E8, (.next .bNextExchange), .p, .range 100 1000⟩,
    -- LfChargeTime (R406)
    ⟨0x3304, 1, 0x00, 0x00, .u16, ⟨.b, .r, .no, .b, .no⟩, .const 0x7D0, (.next .bNextExchange), .p, .range 500 20000⟩,
    -- LfSlotPollMax (R406)
    ⟨0x3305, 1, 0x00, 0x00, .u8, ⟨.b, .r, .no, .b, .no⟩, .const 8, .imm, .p, .range 1 16⟩,
    -- LfFault (R406)
    ⟨0x3306, 1, 0x00, 0x00, .u8, ⟨.r, .r, .no, .r, .no⟩, .const 4, .none_, .v, .any⟩,
    -- LfFault (R406)
    ⟨0x3306, 1, 0x01, 0x04, .u8, ⟨.r, .r, .r, .r, .no⟩, .const 0, .none_, .v, .any⟩,
    -- LfMeasured (R406)
    ⟨0x3307, 1, 0x00, 0x00, .u8, ⟨.r, .r, .no, .r, .no⟩, .const 8, .none_, .v, .any⟩,
    -- LfMeasured (R406)
    ⟨0x3307, 1, 0x01, 0x04, .u16, ⟨.r, .r, .no, .r, .no⟩, .const 0, .none_, .v, .any⟩,
    -- LfMeasured (R406)
    ⟨0x3307, 1, 0x05, 0x08, .i16, ⟨.r, .r, .no, .r, .no⟩, .const 0, .none_, .v, .any⟩]

/-- Rows 336 to 359 of the dictionary. -/
def objRows14 : List ObjDef :=
  [
    -- LfVlf (R406)
    ⟨0x3308, 1, 0x00, 0x00, .u16, ⟨.r, .r, .r, .r, .no⟩, .const 0, .none_, .v, .any⟩,
    -- LfStats (R406)
    ⟨0x3309, 1, 0x00, 0x00, .u8, ⟨.r, .r, .no, .r, .no⟩, .const 5, .none_, .v, .any⟩,
    -- LfStats (R406)
    ⟨0x3309, 1, 0x01, 0x05, .u32, ⟨.r, .r, .no, .r, .no⟩, .const 0, .none_, .v, .any⟩,
    -- LfDiagRun (R406)
    ⟨0x330B, 1, 0x00, 0x00, .command, ⟨.x, .no, .no, .no, .no⟩, .const 0, .idle, .none_, .any⟩,
    -- NfcPortEnable (R441)
    ⟨0x3500, 1, 0x00, 0x00, .u8, ⟨.b, .r, .no, .b, .no⟩, .perVar 3 1 0, .idle, .p, .mask 0x03⟩,
    -- NfcPingPeriod (R441)
    ⟨0x3501, 1, 0x00, 0x00, .u16, ⟨.b, .r, .no, .b, .no⟩, .const 0x1F4, (.next .bNextPing), .p, .range 100 2000⟩,
    -- NfcPingThreshold (R441)
    ⟨0x3502, 1, 0x00, 0x00, .u8, ⟨.b, .no, .no, .b, .no⟩, .const 0x14, (.next .bNextPing), .p, .range 5 200⟩,
    -- NfcPingTau (R441)
    ⟨0x3503, 1, 0x00, 0x00, .u8, ⟨.b, .r, .no, .b, .no⟩, .const 0x1E, .imm, .p, .range 5 255⟩,
    -- NfcCurrent (R441)
    ⟨0x3504, 1, 0x00, 0x00, .u8, ⟨.r, .r, .no, .r, .no⟩, .const 2, .none_, .v, .any⟩,
    -- NfcCurrent (R441)
    ⟨0x3504, 1, 0x01, 0x02, .u16, ⟨.b, .r, .no, .b, .no⟩, .const 0x96, (.next .bNextCarrier), .p, .range 20 250⟩,
    -- NfcTypes (R441)
    ⟨0x3505, 1, 0x00, 0x00, .u8, ⟨.b, .r, .no, .b, .no⟩, .const 3, (.next .bNextActivation), .p, .mask 0x03⟩,
    -- NfcMaxRate (R441)
    ⟨0x3506, 1, 0x00, 0x00, .u8, ⟨.b, .r, .no, .b, .no⟩, .const 2, (.next .bNextActivation), .p, .vals [0,1,2,3]⟩,
    -- NfcFieldGuard (R441)
    ⟨0x3507, 1, 0x00, 0x00, .u16, ⟨.b, .r, .no, .b, .no⟩, .const 0x13EC, (.next .bNextActivation), .p, .range 5100 20000⟩,
    -- NfcReserveGuard (R441)
    ⟨0x3508, 1, 0x00, 0x00, .u16, ⟨.b, .r, .no, .b, .no⟩, .const 0x4E20, (.next .bNextActivation), .p, .range 5100 50000⟩,
    -- NfcExchangeMax (R441)
    ⟨0x3509, 1, 0x00, 0x00, .u16, ⟨.b, .r, .no, .b, .no⟩, .const 0x708, (.next .bNextActivation), .p, .range 200 1950⟩,
    -- NfcIdleEnd (R441)
    ⟨0x350A, 1, 0x00, 0x00, .u16, ⟨.b, .r, .no, .b, .no⟩, .const 0x32, (.next .bNextActivation), .p, .range 10 500⟩,
    -- NfcCardsPerField (R441)
    ⟨0x350B, 1, 0x00, 0x00, .u8, ⟨.b, .r, .no, .b, .no⟩, .const 2, (.next .bNextDetection), .p, .range 1 4⟩,
    -- NfcFalseWakeMax (R441)
    ⟨0x350C, 1, 0x00, 0x00, .u8, ⟨.b, .r, .no, .b, .no⟩, .const 4, .imm, .p, .range 1 32⟩,
    -- NfcExtFieldLevel (R441)
    ⟨0x350D, 1, 0x00, 0x00, .u8, ⟨.b, .no, .no, .b, .no⟩, .const 5, .imm, .p, .range 2 14⟩,
    -- NfcState (R441)
    ⟨0x3510, 1, 0x00, 0x00, .u8, ⟨.r, .r, .no, .r, .no⟩, .const 2, .none_, .v, .any⟩,
    -- NfcState (R441)
    ⟨0x3510, 1, 0x01, 0x02, .u8, ⟨.r, .r, .r, .r, .no⟩, .const 0, .none_, .v, .any⟩,
    -- NfcStats (R441)
    ⟨0x3511, 1, 0x00, 0x00, .u8, ⟨.r, .r, .no, .r, .no⟩, .const 6, .none_, .v, .any⟩,
    -- NfcStats (R441)
    ⟨0x3511, 1, 0x01, 0x06, .u32, ⟨.r, .r, .no, .r, .no⟩, .const 0, .none_, .v, .any⟩,
    -- NfcFault (R441)
    ⟨0x3512, 1, 0x00, 0x00, .u8, ⟨.r, .r, .no, .r, .no⟩, .const 2, .none_, .v, .any⟩]

/-- Rows 360 to 383 of the dictionary. -/
def objRows15 : List ObjDef :=
  [
    -- NfcFault (R441)
    ⟨0x3512, 1, 0x01, 0x02, .u8, ⟨.r, .r, .r, .r, .no⟩, .const 0, .none_, .v, .any⟩,
    -- NfcFaultClear (R441)
    ⟨0x3513, 1, 0x00, 0x00, .command, ⟨.x, .no, .no, .no, .no⟩, .const 0, .imm, .none_, .any⟩,
    -- TagState (R442)
    ⟨0x3600, 1, 0x00, 0x00, .u8, ⟨.r, .r, .r, .r, .no⟩, .const 1, .none_, .v, .any⟩,
    -- TagUid (R442)
    ⟨0x3601, 1, 0x00, 0x00, .octets 7, ⟨.r, .r, .r, .r, .no⟩, .special, .none_, .v, .any⟩,
    -- TagEnable (R442)
    ⟨0x3602, 1, 0x00, 0x00, .bool, ⟨.b, .r, .no, .b, .no⟩, .const 1, .imm, .p, .bool⟩,
    -- TagFieldActive (R442)
    ⟨0x3603, 1, 0x00, 0x00, .bool, ⟨.r, .r, .r, .r, .no⟩, .const 0, .none_, .v, .any⟩,
    -- TagRecSelect (R442)
    ⟨0x3610, 1, 0x00, 0x00, .u8, ⟨.b, .r, .no, .b, .no⟩, .const 0, .imm, .v, .range 0 23⟩,
    -- TagRecord (R442)
    ⟨0x3611, 1, 0x00, 0x00, .u8, ⟨.r, .r, .no, .r, .no⟩, .const 4, .none_, .v, .any⟩,
    -- TagRecLen (R442)
    ⟨0x3611, 1, 0x01, 0x01, .u16, ⟨.r, .r, .no, .r, .no⟩, .const 0, .none_, .p, .any⟩,
    -- TagRecAcl (R442)
    ⟨0x3611, 1, 0x02, 0x02, .u8, ⟨.b, .no, .no, .r, .no⟩, .const 0xFF, .imm, .p, .any⟩,
    -- TagRecSeq (R442)
    ⟨0x3611, 1, 0x03, 0x03, .u32, ⟨.r, .r, .r, .r, .no⟩, .const 0, .none_, .p, .any⟩,
    -- TagRecData (R442)
    ⟨0x3611, 1, 0x04, 0x04, .octets 256, ⟨.r, .r, .r, .no, .b⟩, .const 0, .none_, .p, .any⟩,
    -- TagRecWrite (R442)
    ⟨0x3612, 1, 0x00, 0x00, .command, ⟨.x, .no, .no, .no, .no⟩, .const 0, .imm, .none_, .any⟩,
    -- TagNdefLen (R442)
    ⟨0x3620, 1, 0x00, 0x00, .u16, ⟨.r, .r, .r, .r, .no⟩, .const 0, .none_, .p, .any⟩,
    -- TagNdefStage (R442)
    ⟨0x3621, 1, 0x00, 0x00, .command, ⟨.x, .no, .no, .no, .no⟩, .const 0, .imm, .none_, .any⟩,
    -- TagNdefCommit (R442)
    ⟨0x3622, 1, 0x00, 0x00, .command, ⟨.x, .no, .no, .no, .no⟩, .const 0, .imm, .none_, .any⟩,
    -- TagNdefSelect (R442)
    ⟨0x3623, 1, 0x00, 0x00, .u16, ⟨.b, .r, .no, .b, .no⟩, .const 0, .imm, .v, .range 0 1024⟩,
    -- TagNdefWindow (R442)
    ⟨0x3624, 1, 0x00, 0x00, .octets 1024, ⟨.r, .r, .no, .r, .no⟩, .const 0, .none_, .v, .any⟩,
    -- TagKey (R442)
    ⟨0x3630, 1, 0x00, 0x00, .u8, ⟨.r, .no, .no, .no, .no⟩, .const 4, .none_, .v, .any⟩,
    -- TagKey (R442)
    ⟨0x3630, 1, 0x01, 0x04, .octets 40, ⟨.w, .no, .no, .no, .no⟩, .const 0, .imm, .s, .any⟩,
    -- TagKeyFails (R442)
    ⟨0x3631, 1, 0x00, 0x00, .u8, ⟨.r, .r, .no, .r, .no⟩, .const 4, .none_, .v, .any⟩,
    -- TagKeyFails (R442)
    ⟨0x3631, 1, 0x01, 0x04, .u8, ⟨.r, .r, .no, .r, .no⟩, .const 0, .none_, .p, .any⟩,
    -- TagKeyUnblock (R442)
    ⟨0x3632, 1, 0x00, 0x00, .command, ⟨.x, .no, .no, .no, .no⟩, .const 0, .imm, .none_, .any⟩,
    -- TagStats (R442)
    ⟨0x3640, 1, 0x00, 0x00, .u8, ⟨.r, .r, .no, .r, .no⟩, .const 4, .none_, .v, .any⟩]

/-- Rows 384 to 407 of the dictionary. -/
def objRows16 : List ObjDef :=
  [
    -- TagStats (R442)
    ⟨0x3640, 1, 0x01, 0x04, .u32, ⟨.r, .r, .r, .r, .no⟩, .const 0, .none_, .p, .any⟩,
    -- CxCoreCount (R479)
    ⟨0x1400, 1, 0x00, 0x00, .u8, ⟨.r, .r, .r, .r, .no⟩, .perVar 4 2 2, .none_, .v, .any⟩,
    -- CxState (R479)
    ⟨0x1401, 1, 0x00, 0x00, .u8, ⟨.r, .r, .r, .r, .no⟩, .const 0, .none_, .v, .any⟩,
    -- CxHoldAlloc (R479)
    ⟨0x1404, 1, 0x00, 0x00, .u8, ⟨.r, .r, .no, .r, .no⟩, .const 0x10, .none_, .v, .any⟩,
    -- CxHoldAlloc (R479)
    ⟨0x1404, 1, 0x01, 0x10, .u8, ⟨.b, .r, .no, .b, .no⟩, .list [16,4,64,16,16,8,8,8,8,8,8,8,8,4,4,4], .idle, .p, .range 1 64⟩,
    -- CxPageRights (R479)
    ⟨0x1405, 1, 0x00, 0x00, .u8, ⟨.r, .r, .no, .r, .no⟩, .const 0x10, .none_, .v, .any⟩,
    -- CxPageRights (R479)
    ⟨0x1405, 1, 0x01, 0x10, .u8, ⟨.b, .r, .no, .b, .no⟩, .const 0, .idle, .p, .mask 0x01⟩,
    -- CxSubmit (R479)
    ⟨0x1410, 1, 0x00, 0x00, .command, ⟨.x, .no, .x, .no, .no⟩, .const 0, .imm, .none_, .any⟩,
    -- CxTakeResult (R479)
    ⟨0x1411, 1, 0x00, 0x00, .command, ⟨.x, .no, .x, .no, .no⟩, .const 0, .imm, .none_, .any⟩,
    -- CxPending (R479)
    ⟨0x1412, 1, 0x00, 0x00, .u8, ⟨.r, .no, .r, .no, .no⟩, .const 0, .none_, .v, .any⟩,
    -- CxStats (R479)
    ⟨0x1420, 1, 0x00, 0x00, .u8, ⟨.r, .r, .no, .r, .no⟩, .const 6, .none_, .v, .any⟩,
    -- CxStats (R479)
    ⟨0x1420, 1, 0x01, 0x06, .u32, ⟨.r, .r, .no, .r, .no⟩, .const 0, .none_, .v, .any⟩,
    -- CxClassBlocks (R479)
    ⟨0x1421, 1, 0x00, 0x00, .u8, ⟨.r, .r, .no, .r, .no⟩, .const 4, .none_, .v, .any⟩,
    -- CxClassBlocks (R479)
    ⟨0x1421, 1, 0x01, 0x04, .u32, ⟨.r, .r, .no, .r, .no⟩, .const 0, .none_, .v, .any⟩,
    -- KeySlotCount (R520)
    ⟨0x1500, 1, 0x00, 0x00, .u8, ⟨.r, .r, .r, .r, .no⟩, .const 0x80, .none_, .v, .any⟩,
    -- KeySlotsUsed (R520)
    ⟨0x1501, 1, 0x00, 0x00, .u8, ⟨.r, .r, .r, .r, .no⟩, .const 1, .none_, .v, .any⟩,
    -- KeySlotOwner (R520)
    ⟨0x1502, 1, 0x00, 0x00, .u8, ⟨.r, .r, .no, .r, .no⟩, .const 0x80, .none_, .v, .any⟩,
    -- KeySlotOwner (R520)
    ⟨0x1502, 1, 0x01, 0x80, .u8, ⟨.b, .no, .no, .r, .no⟩, .special, .idle, .p, .rangeOr 0 15 0xFF⟩,
    -- KeySlotSelect (R520)
    ⟨0x1510, 1, 0x00, 0x00, .u8, ⟨.b, .r, .no, .b, .no⟩, .const 0, .imm, .v, .range 0 127⟩,
    -- KeySlot (R520)
    ⟨0x1511, 1, 0x00, 0x00, .u8, ⟨.r, .r, .no, .r, .no⟩, .const 6, .none_, .v, .any⟩,
    -- KeyState (R520)
    ⟨0x1511, 1, 0x01, 0x01, .u8, ⟨.r, .r, .r, .r, .no⟩, .const 0, .none_, .v, .any⟩,
    -- KeyAttr (R520)
    ⟨0x1511, 1, 0x02, 0x02, .u32, ⟨.r, .r, .r, .r, .no⟩, .const 0, .none_, .v, .any⟩,
    -- KeyVersion (R520)
    ⟨0x1511, 1, 0x03, 0x03, .u16, ⟨.r, .r, .r, .r, .no⟩, .const 0, .none_, .v, .any⟩,
    -- KeyUsers (R520)
    ⟨0x1511, 1, 0x04, 0x04, .u8, ⟨.r, .r, .no, .r, .no⟩, .const 0, .none_, .v, .any⟩]

/-- Rows 408 to 431 of the dictionary. -/
def objRows17 : List ObjDef :=
  [
    -- KeyKcv (R520)
    ⟨0x1511, 1, 0x05, 0x05, .octets 3, ⟨.r, .r, .no, .r, .no⟩, .const 0, .none_, .v, .any⟩,
    -- KeyMirror (R520)
    ⟨0x1511, 1, 0x06, 0x06, .u8, ⟨.r, .r, .no, .r, .no⟩, .const 0, .none_, .v, .any⟩,
    -- KeyImport (R520)
    ⟨0x1520, 1, 0x00, 0x00, .command, ⟨.x, .x, .x, .no, .no⟩, .const 0, .imm, .none_, .any⟩,
    -- KeyGenerate (R520)
    ⟨0x1521, 1, 0x00, 0x00, .command, ⟨.x, .x, .x, .no, .no⟩, .const 0, .imm, .none_, .any⟩,
    -- KeyDerive (R520)
    ⟨0x1522, 1, 0x00, 0x00, .command, ⟨.x, .x, .x, .no, .no⟩, .const 0, .imm, .none_, .any⟩,
    -- KeyExport (R520)
    ⟨0x1523, 1, 0x00, 0x00, .command, ⟨.x, .x, .x, .no, .no⟩, .const 0, .imm, .none_, .any⟩,
    -- KeyErase (R520)
    ⟨0x1524, 1, 0x00, 0x00, .command, ⟨.x, .x, .x, .no, .no⟩, .const 0, .imm, .none_, .any⟩,
    -- KeyZeroize (R520)
    ⟨0x1525, 1, 0x00, 0x00, .command, ⟨.x, .x, .x, .no, .no⟩, .const 0, .imm, .none_, .any⟩,
    -- KeyZeroizeAll (R520)
    ⟨0x1526, 1, 0x00, 0x00, .command, ⟨.x, .no, .no, .no, .no⟩, .const 0, .imm, .none_, .any⟩,
    -- KeyStats (R520)
    ⟨0x1530, 1, 0x00, 0x00, .u8, ⟨.r, .r, .no, .r, .no⟩, .const 4, .none_, .v, .any⟩,
    -- KeyStats (R520)
    ⟨0x1530, 1, 0x01, 0x04, .u32, ⟨.r, .r, .no, .r, .no⟩, .const 0, .none_, .v, .any⟩,
    -- RngState (R521)
    ⟨0x1300, 1, 0x00, 0x00, .u8, ⟨.r, .r, .r, .r, .no⟩, .const 0, .none_, .v, .any⟩,
    -- RngSourceState (R521)
    ⟨0x1301, 1, 0x00, 0x00, .u8, ⟨.r, .r, .no, .r, .no⟩, .const 3, .none_, .v, .any⟩,
    -- RngSourceState (R521)
    ⟨0x1301, 1, 0x01, 0x03, .u8, ⟨.r, .r, .r, .r, .no⟩, .const 0, .none_, .v, .any⟩,
    -- RngRxnEnable (R521)
    ⟨0x1302, 1, 0x00, 0x00, .bool, ⟨.b, .r, .no, .b, .no⟩, .const 1, .imm, .p, .bool⟩,
    -- RngMinEntropy (R521)
    ⟨0x1303, 1, 0x00, 0x00, .u8, ⟨.r, .r, .no, .r, .no⟩, .const 3, .none_, .v, .any⟩,
    -- RngMinEntropy (R521)
    ⟨0x1303, 1, 0x01, 0x03, .u16, ⟨.r, .r, .no, .r, .no⟩, .list [64,64,48], .none_, .v, .any⟩,
    -- RngRctCutoff (R521)
    ⟨0x1304, 1, 0x00, 0x00, .u8, ⟨.r, .r, .no, .r, .no⟩, .const 3, .none_, .v, .any⟩,
    -- RngRctCutoff (R521)
    ⟨0x1304, 1, 0x01, 0x03, .u16, ⟨.r, .r, .no, .r, .no⟩, .list [81,81,108], .none_, .v, .any⟩,
    -- RngAptCutoff (R521)
    ⟨0x1305, 1, 0x00, 0x00, .u8, ⟨.r, .r, .no, .r, .no⟩, .const 3, .none_, .v, .any⟩,
    -- RngAptCutoff (R521)
    ⟨0x1305, 1, 0x01, 0x03, .u16, ⟨.r, .r, .no, .r, .no⟩, .list [919,919,951], .none_, .v, .any⟩,
    -- RngBlockFails (R521)
    ⟨0x1306, 1, 0x00, 0x00, .u8, ⟨.r, .r, .no, .r, .no⟩, .const 3, .none_, .v, .any⟩,
    -- RngBlockFails (R521)
    ⟨0x1306, 1, 0x01, 0x03, .u8, ⟨.r, .r, .r, .r, .no⟩, .const 0, .none_, .v, .any⟩,
    -- RngStats (R521)
    ⟨0x1307, 1, 0x00, 0x00, .u8, ⟨.r, .r, .no, .r, .no⟩, .const 6, .none_, .v, .any⟩]

/-- Rows 432 to 455 of the dictionary. -/
def objRows18 : List ObjDef :=
  [
    -- RngStats (R521)
    ⟨0x1307, 1, 0x01, 0x06, .u32, ⟨.r, .r, .no, .r, .no⟩, .const 0, .none_, .v, .any⟩,
    -- RngReseedMin (R521)
    ⟨0x1308, 1, 0x00, 0x00, .u16, ⟨.b, .r, .no, .b, .no⟩, .const 0x64, .imm, .p, .range 10 1000⟩,
    -- RngSeedAge (R521)
    ⟨0x1309, 1, 0x00, 0x00, .u32, ⟨.r, .r, .no, .r, .no⟩, .const 0, .none_, .v, .any⟩,
    -- RngRoRawSample (R521)
    ⟨0x1310, 1, 0x00, 0x00, .u32, ⟨.r, .r, .r, .r, .no⟩, .const 0, .none_, .v, .any⟩,
    -- RngRandom (R521)
    ⟨0x1320, 1, 0x00, 0x00, .octets 32, ⟨.r, .r, .r, .no, .no⟩, .const 0, .none_, .v, .any⟩,
    -- EngCount (R560)
    ⟨0x5000, 1, 0x00, 0x00, .u8, ⟨.r, .r, .r, .r, .no⟩, .perVar 8 4 2, .none_, .v, .any⟩,
    -- EngState (R560)
    ⟨0x5001, 1, 0x00, 0x00, .u8, ⟨.r, .r, .no, .r, .no⟩, .const 8, .none_, .v, .any⟩,
    -- EngState (R560)
    ⟨0x5001, 1, 0x01, 0x08, .u8, ⟨.r, .r, .r, .r, .no⟩, .const 0, .none_, .v, .any⟩,
    -- EngControl (R560)
    ⟨0x5002, 1, 0x00, 0x00, .command, ⟨.x, .x, .no, .no, .no⟩, .const 0, .imm, .none_, .any⟩,
    -- EngAutoStart (R560)
    ⟨0x5003, 1, 0x00, 0x00, .u8, ⟨.b, .r, .no, .b, .no⟩, .const 0, (.next .bNextReset), .p, .any⟩,
    -- EngTrapRestart (R560)
    ⟨0x5004, 1, 0x00, 0x00, .u8, ⟨.b, .r, .no, .b, .no⟩, .const 0, .imm, .p, .any⟩,
    -- EngTrapCause (R560)
    ⟨0x5005, 1, 0x00, 0x00, .u8, ⟨.r, .r, .no, .r, .no⟩, .const 8, .none_, .v, .any⟩,
    -- EngTrapCause (R560)
    ⟨0x5005, 1, 0x01, 0x08, .u32, ⟨.r, .r, .r, .r, .no⟩, .const 0, .none_, .v, .any⟩,
    -- EngTrapCount (R560)
    ⟨0x5006, 1, 0x00, 0x00, .u8, ⟨.r, .r, .no, .r, .no⟩, .const 8, .none_, .v, .any⟩,
    -- EngTrapCount (R560)
    ⟨0x5006, 1, 0x01, 0x08, .u32, ⟨.r, .r, .no, .r, .no⟩, .const 0, .none_, .v, .any⟩,
    -- EngWatchdog (R560)
    ⟨0x5007, 1, 0x00, 0x00, .u8, ⟨.r, .r, .no, .r, .no⟩, .const 8, .none_, .v, .any⟩,
    -- EngWatchdog (R560)
    ⟨0x5007, 1, 0x01, 0x08, .u16, ⟨.b, .no, .no, .b, .no⟩, .const 0x3E8, (.next .bNextEngineStart), .p, .range 1 60000⟩,
    -- EngMinVersion (R560)
    ⟨0x5008, 1, 0x00, 0x00, .u8, ⟨.r, .r, .no, .r, .no⟩, .const 8, .none_, .v, .any⟩,
    -- EngMinVersion (R560)
    ⟨0x5008, 1, 0x01, 0x08, .u32, ⟨.b, .b, .no, .b, .no⟩, .const 0, .imm, .p, .any⟩,
    -- EngImageVersion (R560)
    ⟨0x5009, 1, 0x00, 0x00, .u8, ⟨.r, .r, .no, .r, .no⟩, .const 8, .none_, .v, .any⟩,
    -- EngImageVersion (R560)
    ⟨0x5009, 1, 0x01, 0x08, .u32, ⟨.r, .r, .r, .r, .no⟩, .const 0, .none_, .v, .any⟩,
    -- EngImageKey (R560)
    ⟨0x500A, 1, 0x00, 0x00, .u16, ⟨.b, .no, .no, .b, .no⟩, .const 0xFFFF, .imm, .p, .handle⟩,
    -- EngLoadBegin (R560)
    ⟨0x5010, 1, 0x00, 0x00, .command, ⟨.x, .x, .no, .no, .no⟩, .const 0, .imm, .none_, .any⟩,
    -- EngLoadData (R560)
    ⟨0x5011, 1, 0x00, 0x00, .command, ⟨.x, .x, .no, .no, .no⟩, .const 0, .imm, .none_, .any⟩]

/-- Rows 456 to 479 of the dictionary. -/
def objRows19 : List ObjDef :=
  [
    -- EngLoadCommit (R560)
    ⟨0x5012, 1, 0x00, 0x00, .command, ⟨.x, .x, .no, .no, .no⟩, .const 0, .imm, .none_, .any⟩,
    -- EngLoadAbort (R560)
    ⟨0x5013, 1, 0x00, 0x00, .command, ⟨.x, .x, .no, .no, .no⟩, .const 0, .imm, .none_, .any⟩,
    -- EngLoadState (R560)
    ⟨0x5014, 1, 0x00, 0x00, .u8, ⟨.r, .r, .no, .r, .no⟩, .const 0, .none_, .v, .any⟩,
    -- EngMbxRights (R560)
    ⟨0x5020, 1, 0x00, 0x00, .u8, ⟨.r, .r, .no, .r, .no⟩, .const 0x10, .none_, .v, .any⟩,
    -- EngMbxRights (R560)
    ⟨0x5020, 1, 0x01, 0x10, .u32, ⟨.b, .no, .no, .b, .no⟩, .const 0, (.next .bNextEngineStart), .p, .mask 0x1FFFF⟩,
    -- EngMbxSelect (R560)
    ⟨0x5021, 1, 0x00, 0x00, .u16, ⟨.b, .no, .no, .no, .no⟩, .const 0, .imm, .v, .special⟩,
    -- EngMbxWindow (R560)
    ⟨0x5022, 1, 0x00, 0x00, .octets 1024, ⟨.b, .no, .no, .no, .no⟩, .const 0, .imm, .v, .any⟩,
    -- EngDoorbell (R560)
    ⟨0x5023, 1, 0x00, 0x00, .command, ⟨.x, .x, .no, .no, .no⟩, .const 0, .imm, .none_, .any⟩,
    -- EngDoorbellRx (R560)
    ⟨0x5024, 1, 0x00, 0x00, .command, ⟨.no, .no, .x, .no, .no⟩, .const 0, .imm, .none_, .any⟩,
    -- EngObjWriteRx (R560)
    ⟨0x5025, 1, 0x00, 0x00, .command, ⟨.no, .no, .x, .no, .no⟩, .const 0, .imm, .none_, .any⟩,
    -- EngGpioOwner (R560)
    ⟨0x5030, 1, 0x00, 0x00, .u8, ⟨.r, .r, .no, .r, .no⟩, .const 8, .none_, .v, .any⟩,
    -- EngGpioOwner (R560)
    ⟨0x5030, 1, 0x01, 0x08, .u8, ⟨.b, .no, .no, .b, .no⟩, .const 0xFF, .idle, .p, .special⟩,
    -- EngGpioDir (R560)
    ⟨0x5031, 1, 0x00, 0x00, .u8, ⟨.b, .r, .b, .r, .no⟩, .const 0, .imm, .v, .any⟩,
    -- EngGpioOut (R560)
    ⟨0x5032, 1, 0x00, 0x00, .u8, ⟨.b, .r, .b, .r, .no⟩, .const 0, .imm, .v, .any⟩,
    -- EngGpioIn (R560)
    ⟨0x5033, 1, 0x00, 0x00, .u8, ⟨.r, .r, .r, .r, .no⟩, .const 0, .none_, .v, .any⟩,
    -- EngTmrOwner (R560)
    ⟨0x5034, 1, 0x00, 0x00, .u8, ⟨.r, .r, .no, .r, .no⟩, .const 12, .none_, .v, .any⟩,
    -- EngTmrOwner (R560)
    ⟨0x5034, 1, 0x01, 0x0C, .u8, ⟨.b, .no, .no, .b, .no⟩, .const 0xFF, .idle, .p, .special⟩,
    -- EngGpioEdge (R560)
    ⟨0x5035, 1, 0x00, 0x00, .u16, ⟨.b, .r, .b, .r, .no⟩, .const 0, .imm, .v, .any⟩,
    -- EngDebugEnable (R560)
    ⟨0x5050, 1, 0x00, 0x00, .bool, ⟨.b, .no, .no, .b, .no⟩, .const 0, .imm, .p, .bool⟩,
    -- EngDebugKey (R560)
    ⟨0x5051, 1, 0x00, 0x00, .u16, ⟨.b, .no, .no, .b, .no⟩, .const 0xFFFF, .imm, .p, .handle⟩,
    -- NetCanMode (R597)
    ⟨0x4001, 1, 0x00, 0x00, .u8, ⟨.r, .r, .no, .r, .no⟩, .const 2, .none_, .v, .any⟩,
    -- NetCanMode (R597)
    ⟨0x4001, 1, 0x01, 0x02, .u8, ⟨.b, .r, .no, .b, .no⟩, .const 2, .idle, .p, .vals [0,1,2,3]⟩,
    -- NetCanNomRate (R597)
    ⟨0x4002, 1, 0x00, 0x00, .u8, ⟨.r, .r, .no, .r, .no⟩, .const 2, .none_, .v, .any⟩,
    -- NetCanNomRate (R597)
    ⟨0x4002, 1, 0x01, 0x02, .u32, ⟨.b, .r, .no, .b, .no⟩, .const 0x7A120, .idle, .p, .special⟩]

/-- Rows 480 to 503 of the dictionary. -/
def objRows20 : List ObjDef :=
  [
    -- NetCanDataRate (R597)
    ⟨0x4003, 1, 0x00, 0x00, .u8, ⟨.r, .r, .no, .r, .no⟩, .const 2, .none_, .v, .any⟩,
    -- NetCanDataRate (R597)
    ⟨0x4003, 1, 0x01, 0x02, .u32, ⟨.b, .r, .no, .b, .no⟩, .const 0x1E8480, .idle, .p, .special⟩,
    -- NetCanSamplePoint (R597)
    ⟨0x4004, 1, 0x00, 0x00, .u8, ⟨.r, .r, .no, .r, .no⟩, .const 2, .none_, .v, .any⟩,
    -- NetCanSamplePoint (R597)
    ⟨0x4004, 1, 0x01, 0x02, .u16, ⟨.b, .r, .no, .b, .no⟩, .const 0x5046, .idle, .p, .special⟩,
    -- NetCanState (R597)
    ⟨0x4005, 1, 0x00, 0x00, .u8, ⟨.r, .r, .no, .r, .no⟩, .const 2, .none_, .v, .any⟩,
    -- NetCanState (R597)
    ⟨0x4005, 1, 0x01, 0x02, .u8, ⟨.r, .r, .r, .r, .no⟩, .const 0, .none_, .v, .any⟩,
    -- NetCanErrCount (R597)
    ⟨0x4006, 1, 0x00, 0x00, .u8, ⟨.r, .r, .no, .r, .no⟩, .const 2, .none_, .v, .any⟩,
    -- NetCanErrCount (R597)
    ⟨0x4006, 1, 0x01, 0x02, .u32, ⟨.r, .r, .r, .r, .no⟩, .const 0, .none_, .v, .any⟩,
    -- NetCanBusOffAuto (R597)
    ⟨0x4007, 1, 0x00, 0x00, .bool, ⟨.b, .r, .no, .b, .no⟩, .const 1, .imm, .p, .bool⟩,
    -- NetCanRecover (R597)
    ⟨0x4008, 1, 0x00, 0x00, .command, ⟨.x, .x, .no, .no, .no⟩, .const 0, .imm, .none_, .any⟩,
    -- NetCanFilter (R597)
    ⟨0x4010, 1, 0x00, 0x00, .u8, ⟨.r, .r, .no, .r, .no⟩, .const 0x10, .none_, .v, .any⟩,
    -- NetCanFilter (R597)
    ⟨0x4010, 1, 0x01, 0x10, .u64, ⟨.b, .no, .no, .b, .no⟩, .special, .imm, .p, .special⟩,
    -- NetCanFilter (R597)
    ⟨0x4011, 1, 0x00, 0x00, .u8, ⟨.r, .r, .no, .r, .no⟩, .const 16, .none_, .v, .any⟩,
    -- NetCanFilter (R597)
    ⟨0x4011, 1, 0x01, 0x10, .u64, ⟨.b, .no, .no, .b, .no⟩, .special, .imm, .p, .special⟩,
    -- NetCanStats (R597)
    ⟨0x4012, 2, 0x00, 0x00, .u8, ⟨.r, .r, .no, .r, .no⟩, .const 5, .none_, .v, .any⟩,
    -- NetCanStats (R597)
    ⟨0x4012, 2, 0x01, 0x05, .u32, ⟨.r, .r, .no, .r, .no⟩, .const 0, .none_, .v, .any⟩,
    -- NetCanTx (R597)
    ⟨0x4018, 1, 0x00, 0x00, .command, ⟨.x, .no, .x, .no, .no⟩, .const 0, .imm, .none_, .any⟩,
    -- NetCanRx (R597)
    ⟨0x4019, 1, 0x00, 0x00, .command, ⟨.x, .no, .x, .no, .no⟩, .const 0, .imm, .none_, .any⟩,
    -- NetMacAddress (R597)
    ⟨0x4020, 1, 0x00, 0x00, .octets 6, ⟨.b, .no, .no, .b, .no⟩, .special, .idle, .p, .special⟩,
    -- NetPlcaEnable (R597)
    ⟨0x4021, 1, 0x00, 0x00, .bool, ⟨.b, .r, .no, .b, .no⟩, .const 1, (.next .bNextBEACON), .p, .bool⟩,
    -- NetPlcaId (R597)
    ⟨0x4022, 1, 0x00, 0x00, .u8, ⟨.b, .r, .no, .b, .no⟩, .special, (.next .bNextBEACON), .p, .range 0 15⟩,
    -- NetPlcaNodeCount (R597)
    ⟨0x4023, 1, 0x00, 0x00, .u8, ⟨.b, .r, .no, .b, .no⟩, .const 8, (.next .bNextBEACON), .p, .range 1 16⟩,
    -- NetPlcaTo (R597)
    ⟨0x4024, 1, 0x00, 0x00, .u8, ⟨.b, .r, .no, .b, .no⟩, .const 0x20, (.next .bNextBEACON), .p, .range 20 255⟩,
    -- NetPlcaBurst (R597)
    ⟨0x4025, 1, 0x00, 0x00, .u8, ⟨.b, .r, .no, .b, .no⟩, .const 0, (.next .bNextBEACON), .p, .range 0 4⟩]

/-- Rows 504 to 527 of the dictionary. -/
def objRows21 : List ObjDef :=
  [
    -- NetT1sState (R597)
    ⟨0x4026, 1, 0x00, 0x00, .u8, ⟨.r, .r, .r, .r, .no⟩, .const 0, .none_, .v, .any⟩,
    -- NetT1sStats (R597)
    ⟨0x4027, 1, 0x00, 0x00, .u8, ⟨.r, .r, .no, .r, .no⟩, .const 6, .none_, .v, .any⟩,
    -- NetT1sStats (R597)
    ⟨0x4027, 1, 0x01, 0x06, .u32, ⟨.r, .r, .no, .r, .no⟩, .const 0, .none_, .v, .any⟩,
    -- NetEthFilter (R597)
    ⟨0x4028, 1, 0x00, 0x00, .u8, ⟨.r, .r, .no, .r, .no⟩, .const 8, .none_, .v, .any⟩,
    -- NetEthFilter (R597)
    ⟨0x4028, 1, 0x01, 0x08, .u32, ⟨.b, .no, .no, .b, .no⟩, .const 0x1F, .imm, .p, .special⟩,
    -- NetEthTx (R597)
    ⟨0x4029, 1, 0x00, 0x00, .command, ⟨.x, .no, .x, .no, .no⟩, .const 0, .imm, .none_, .any⟩,
    -- NetEthRx (R597)
    ⟨0x402A, 1, 0x00, 0x00, .command, ⟨.x, .no, .x, .no, .no⟩, .const 0, .imm, .none_, .any⟩,
    -- NetTxDone (R597)
    ⟨0x4030, 1, 0x00, 0x00, .command, ⟨.x, .no, .x, .no, .no⟩, .const 0, .imm, .none_, .any⟩,
    -- NetWlState (R597)
    ⟨0x4040, 1, 0x00, 0x00, .u8, ⟨.r, .r, .r, .r, .no⟩, .const 0, .none_, .v, .any⟩,
    -- NetWlStats (R597)
    ⟨0x4041, 1, 0x00, 0x00, .u8, ⟨.r, .r, .no, .r, .no⟩, .const 4, .none_, .v, .any⟩,
    -- NetWlStats (R597)
    ⟨0x4041, 1, 0x01, 0x04, .u32, ⟨.r, .r, .no, .r, .no⟩, .const 0, .none_, .v, .any⟩,
    -- NetTwinIdPin (R597)
    ⟨0x4042, 1, 0x00, 0x00, .bool, ⟨.r, .r, .no, .r, .no⟩, .special, .none_, .v, .any⟩,
    -- NetQsType (R597)
    ⟨0x4050, 1, 0x00, 0x00, .u8, ⟨.r, .r, .no, .r, .no⟩, .const 0, .none_, .v, .any⟩,
    -- NetQsClock (R597)
    ⟨0x4051, 1, 0x00, 0x00, .u8, ⟨.b, .no, .no, .b, .no⟩, .const 0, (.next .bNextStartup), .p, .vals [0,1,2]⟩,
    -- NetQsId (R597)
    ⟨0x4052, 1, 0x00, 0x00, .octets 3, ⟨.r, .r, .no, .r, .no⟩, .const 0, .none_, .v, .any⟩,
    -- NetQsSizeKb (R597)
    ⟨0x4053, 1, 0x00, 0x00, .u32, ⟨.r, .r, .no, .r, .no⟩, .const 0, .none_, .v, .any⟩,
    -- TimeNow (R598)
    ⟨0x4100, 1, 0x00, 0x00, .time96, ⟨.r, .r, .r, .r, .no⟩, .const 0, .none_, .v, .any⟩,
    -- TimeQuality (R598)
    ⟨0x4101, 1, 0x00, 0x00, .u8, ⟨.r, .r, .r, .r, .no⟩, .const 0, .none_, .v, .any⟩,
    -- TimeFlags (R598)
    ⟨0x4102, 1, 0x00, 0x00, .u8, ⟨.r, .r, .r, .r, .no⟩, .const 0, .none_, .v, .any⟩,
    -- TimeIncrement (R598)
    ⟨0x4103, 1, 0x00, 0x00, .u64, ⟨.b, .r, .b, .b, .no⟩, .const 0x200D20D21, .imm, .p, .special⟩,
    -- TimeServoMode (R598)
    ⟨0x4104, 1, 0x00, 0x00, .u8, ⟨.b, .r, .no, .b, .no⟩, .const 0, .imm, .p, .vals [0,1]⟩,
    -- TimeServoCorr (R598)
    ⟨0x4105, 1, 0x00, 0x00, .i32, ⟨.r, .r, .r, .r, .no⟩, .const 0, .none_, .v, .any⟩,
    -- TimeStep (R598)
    ⟨0x4106, 1, 0x00, 0x00, .command, ⟨.x, .x, .no, .x, .no⟩, .const 0, .imm, .none_, .any⟩,
    -- TimeSet (R598)
    ⟨0x4107, 1, 0x00, 0x00, .command, ⟨.x, .x, .no, .x, .no⟩, .const 0, .imm, .none_, .any⟩]

/-- Rows 528 to 551 of the dictionary. -/
def objRows22 : List ObjDef :=
  [
    -- TimeSlew (R598)
    ⟨0x4108, 1, 0x00, 0x00, .command, ⟨.x, .no, .x, .no, .no⟩, .const 0, .imm, .none_, .any⟩,
    -- TimeStepConfirm (R598)
    ⟨0x4109, 1, 0x00, 0x00, .command, ⟨.x, .no, .no, .no, .no⟩, .const 0, .imm, .none_, .any⟩,
    -- TimeHeldStep (R598)
    ⟨0x410A, 1, 0x00, 0x00, .time96, ⟨.r, .r, .r, .r, .no⟩, .const 0, .none_, .v, .any⟩,
    -- TimeStepThreshold (R598)
    ⟨0x4110, 1, 0x00, 0x00, .u32, ⟨.b, .r, .no, .b, .no⟩, .const 0x3E8, .imm, .p, .range 100 1000000⟩,
    -- TimeBackStepLimit (R598)
    ⟨0x4111, 1, 0x00, 0x00, .u32, ⟨.b, .r, .no, .b, .no⟩, .const 0x3E8, .imm, .p, .range 0 60000⟩,
    -- TimePathJump (R598)
    ⟨0x4112, 1, 0x00, 0x00, .u16, ⟨.b, .r, .no, .b, .no⟩, .const 0x14, .imm, .p, .range 5 1000⟩,
    -- TimeTdoaOffsetLimit (R598)
    ⟨0x4113, 1, 0x00, 0x00, .u16, ⟨.b, .r, .no, .b, .no⟩, .const 0x64, .imm, .p, .range 20 1000⟩,
    -- TimeLockThreshold (R598)
    ⟨0x4114, 1, 0x00, 0x00, .u16, ⟨.b, .r, .no, .b, .no⟩, .const 0x32, .imm, .p, .range 10 1000⟩,
    -- TimeLockCount (R598)
    ⟨0x4115, 1, 0x00, 0x00, .u8, ⟨.b, .r, .no, .b, .no⟩, .const 8, .imm, .p, .range 2 64⟩,
    -- TimeHoldoverLimit (R598)
    ⟨0x4116, 1, 0x00, 0x00, .u16, ⟨.b, .r, .no, .b, .no⟩, .const 0x3C, .imm, .p, .range 1 3600⟩,
    -- TimeSlewMax (R598)
    ⟨0x4117, 1, 0x00, 0x00, .u16, ⟨.b, .r, .no, .b, .no⟩, .const 0x3E8, .imm, .p, .range 10 2000⟩,
    -- TimeGptpEnable (R598)
    ⟨0x4120, 1, 0x00, 0x00, .bool, ⟨.b, .r, .no, .b, .no⟩, .const 1, .imm, .p, .bool⟩,
    -- TimeDomainNumber (R598)
    ⟨0x4121, 1, 0x00, 0x00, .u8, ⟨.b, .r, .no, .b, .no⟩, .const 0, (.next .bNextAnnounce), .p, .range 0 127⟩,
    -- TimePriority1 (R598)
    ⟨0x4122, 1, 0x00, 0x00, .u8, ⟨.b, .r, .no, .b, .no⟩, .special, (.next .bNextAnnounce), .p, .range 0 255⟩,
    -- TimePriority2 (R598)
    ⟨0x4123, 1, 0x00, 0x00, .u8, ⟨.b, .r, .no, .b, .no⟩, .const 0xF8, (.next .bNextAnnounce), .p, .range 0 255⟩,
    -- TimeLogIntervals (R598)
    ⟨0x4124, 1, 0x00, 0x00, .u8, ⟨.r, .r, .no, .r, .no⟩, .const 3, .none_, .v, .any⟩,
    -- TimeLogIntervals (R598)
    ⟨0x4124, 1, 0x01, 0x03, .i16, ⟨.b, .r, .no, .b, .no⟩, .list [65533,0,0], (.next .bNextMessage), .p, .special⟩,
    -- TimePortState (R598)
    ⟨0x4125, 1, 0x00, 0x00, .u8, ⟨.r, .r, .r, .r, .no⟩, .const 0, .none_, .v, .any⟩,
    -- TimeOffset (R598)
    ⟨0x4126, 1, 0x00, 0x00, .i32, ⟨.r, .r, .no, .r, .no⟩, .const 0, .none_, .v, .any⟩,
    -- TimePathDelay (R598)
    ⟨0x4127, 1, 0x00, 0x00, .u32, ⟨.r, .r, .no, .r, .no⟩, .const 0, .none_, .v, .any⟩,
    -- TimeAsymmetry (R598)
    ⟨0x4128, 1, 0x00, 0x00, .i32, ⟨.b, .r, .no, .b, .no⟩, .const 0, .imm, .p, .any⟩,
    -- TimeGmIdentity (R598)
    ⟨0x4129, 1, 0x00, 0x00, .octets 8, ⟨.r, .r, .r, .r, .no⟩, .const 0, .none_, .v, .any⟩,
    -- TimeStats (R598)
    ⟨0x412A, 1, 0x00, 0x00, .u8, ⟨.r, .r, .no, .r, .no⟩, .const 4, .none_, .v, .any⟩,
    -- TimeStats (R598)
    ⟨0x412A, 1, 0x01, 0x04, .u32, ⟨.r, .r, .no, .r, .no⟩, .const 0, .none_, .v, .any⟩]

/-- Rows 552 to 575 of the dictionary. -/
def objRows23 : List ObjDef :=
  [
    -- TimeTsInCfg (R598)
    ⟨0x4130, 1, 0x00, 0x00, .u8, ⟨.r, .r, .no, .r, .no⟩, .const 2, .none_, .v, .any⟩,
    -- TimeTsInCfg (R598)
    ⟨0x4130, 1, 0x01, 0x02, .u8, ⟨.b, .r, .no, .b, .no⟩, .const 0, .imm, .p, .special⟩,
    -- TimeTsInTime (R598)
    ⟨0x4131, 1, 0x00, 0x00, .u8, ⟨.r, .r, .no, .r, .no⟩, .const 2, .none_, .v, .any⟩,
    -- TimeTsInTime (R598)
    ⟨0x4131, 1, 0x01, 0x02, .time96, ⟨.r, .r, .r, .r, .no⟩, .const 0, .none_, .v, .any⟩,
    -- TimeTsInRcnt (R598)
    ⟨0x4132, 1, 0x00, 0x00, .u8, ⟨.r, .r, .no, .r, .no⟩, .const 2, .none_, .v, .any⟩,
    -- TimeTsInRcnt (R598)
    ⟨0x4132, 1, 0x01, 0x02, .u64, ⟨.r, .r, .r, .r, .no⟩, .const 0, .none_, .v, .any⟩,
    -- TimeTsInOverrun (R598)
    ⟨0x4133, 1, 0x00, 0x00, .u8, ⟨.r, .r, .r, .r, .no⟩, .const 0, .none_, .v, .any⟩,
    -- TimePpsCfg (R598)
    ⟨0x4138, 1, 0x00, 0x00, .u8, ⟨.b, .r, .no, .b, .no⟩, .const 4, .imm, .p, .special⟩,
    -- TimePpsWidth (R598)
    ⟨0x4139, 1, 0x00, 0x00, .u16, ⟨.b, .r, .no, .b, .no⟩, .const 10, (.next .bNextPulse), .p, .range 1 500⟩,
    -- SegRoleCfg (R632)
    ⟨0x4200, 1, 0x00, 0x00, .u8, ⟨.b, .r, .no, .b, .no⟩, .const 0, (.next .bNextReset), .p, .vals [0,1,2]⟩,
    -- SegRole (R632)
    ⟨0x4201, 1, 0x00, 0x00, .u8, ⟨.r, .r, .r, .r, .no⟩, .const 0, .none_, .v, .any⟩,
    -- SegAddress (R632)
    ⟨0x4202, 1, 0x00, 0x00, .u16, ⟨.b, .r, .no, .b, .no⟩, .const 2, (.next .bNextReset), .p, .mask 0xFFF⟩,
    -- SegLinkKey (R632)
    ⟨0x4203, 1, 0x00, 0x00, .u16, ⟨.b, .no, .no, .b, .no⟩, .const 0xFFFF, .idle, .p, .handle⟩,
    -- SegWorkerCount (R632)
    ⟨0x4204, 1, 0x00, 0x00, .u8, ⟨.r, .r, .r, .r, .no⟩, .const 0, .none_, .v, .any⟩,
    -- SegBeatPeriod (R632)
    ⟨0x4205, 1, 0x00, 0x00, .u8, ⟨.b, .r, .no, .b, .no⟩, .const 10, .imm, .p, .range 5 50⟩,
    -- SegMgrLossTime (R632)
    ⟨0x4206, 1, 0x00, 0x00, .u8, ⟨.b, .r, .no, .b, .no⟩, .const 0x14, .imm, .p, .range 10 100⟩,
    -- SegSyncMaxAge (R632)
    ⟨0x4207, 1, 0x00, 0x00, .u16, ⟨.b, .r, .no, .b, .no⟩, .const 0x7D0, .imm, .p, .range 200 20000⟩,
    -- SegWitness (R632)
    ⟨0x4208, 1, 0x00, 0x00, .bool, ⟨.r, .r, .r, .r, .no⟩, .const 0, .none_, .v, .any⟩,
    -- SegWorkerKey (R632)
    ⟨0x4210, 1, 0x00, 0x00, .u8, ⟨.r, .r, .no, .r, .no⟩, .const 0x10, .none_, .v, .any⟩,
    -- SegWorkerKey (R632)
    ⟨0x4210, 1, 0x01, 0x10, .u16, ⟨.b, .no, .no, .b, .no⟩, .const 0xFFFF, .idle, .p, .handle⟩,
    -- SegWorkerState (R632)
    ⟨0x4211, 1, 0x00, 0x00, .u8, ⟨.r, .r, .no, .r, .no⟩, .const 0x10, .none_, .v, .any⟩,
    -- SegWorkerState (R632)
    ⟨0x4211, 1, 0x01, 0x10, .u8, ⟨.r, .r, .r, .r, .no⟩, .const 0, .none_, .v, .any⟩,
    -- SegAnchorPos (R632)
    ⟨0x4212, 1, 0x00, 0x00, .u8, ⟨.r, .r, .no, .r, .no⟩, .const 0x10, .none_, .v, .any⟩,
    -- SegAnchorPos (R632)
    ⟨0x4212, 1, 0x01, 0x10, .octets 6, ⟨.b, .r, .no, .b, .no⟩, .const 0, (.next .bNextObservation), .p, .any⟩]

/-- Rows 576 to 599 of the dictionary. -/
def objRows24 : List ObjDef :=
  [
    -- SegSyncResidual (R632)
    ⟨0x4213, 1, 0x00, 0x00, .u8, ⟨.r, .r, .no, .r, .no⟩, .const 0x10, .none_, .v, .any⟩,
    -- SegSyncResidual (R632)
    ⟨0x4213, 1, 0x01, 0x10, .u16, ⟨.r, .r, .no, .r, .no⟩, .const 0xFFFF, .none_, .v, .any⟩,
    -- SegTouchGate (R632)
    ⟨0x4214, 1, 0x00, 0x00, .u8, ⟨.r, .r, .no, .r, .no⟩, .const 4, .none_, .v, .any⟩,
    -- SegTouchGate (R632)
    ⟨0x4214, 1, 0x01, 0x04, .u8, ⟨.b, .r, .no, .b, .no⟩, .const 0, .imm, .p, .rangeOr 0 2 0xFF⟩,
    -- SegTouchLf (R632)
    ⟨0x4215, 1, 0x00, 0x00, .u8, ⟨.r, .r, .no, .r, .no⟩, .const 4, .none_, .v, .any⟩,
    -- SegTouchLf (R632)
    ⟨0x4215, 1, 0x01, 0x04, .u8, ⟨.b, .r, .no, .b, .no⟩, .const 0xFF, .imm, .p, .rangeOr 0 3 0xFF⟩,
    -- SegStats (R632)
    ⟨0x4220, 1, 0x00, 0x00, .u8, ⟨.r, .r, .no, .r, .no⟩, .const 6, .none_, .v, .any⟩,
    -- SegStats (R632)
    ⟨0x4220, 1, 0x01, 0x06, .u32, ⟨.r, .r, .no, .r, .no⟩, .const 0, .none_, .v, .any⟩,
    -- TwinState (R633)
    ⟨0x4300, 1, 0x00, 0x00, .u8, ⟨.r, .r, .r, .r, .no⟩, .const 0, .none_, .v, .any⟩,
    -- TwinLinkKey (R633)
    ⟨0x4301, 1, 0x00, 0x00, .u16, ⟨.b, .no, .no, .b, .no⟩, .const 0xFFFF, .idle, .p, .handle⟩,
    -- TwinEpoch (R633)
    ⟨0x4302, 1, 0x00, 0x00, .u32, ⟨.r, .r, .r, .r, .no⟩, .const 0, .none_, .p, .any⟩,
    -- TwinPeerRole (R633)
    ⟨0x4303, 1, 0x00, 0x00, .u8, ⟨.r, .r, .r, .r, .no⟩, .const 0xFF, .none_, .v, .any⟩,
    -- TwinTinPeriod (R633)
    ⟨0x4304, 1, 0x00, 0x00, .u16, ⟨.b, .r, .no, .b, .no⟩, .const 10, .imm, .p, .range 2 600⟩,
    -- TwinTinRun (R633)
    ⟨0x4305, 1, 0x00, 0x00, .command, ⟨.x, .no, .no, .no, .no⟩, .const 0, .imm, .none_, .any⟩,
    -- TwinTakeover (R633)
    ⟨0x4306, 1, 0x00, 0x00, .command, ⟨.x, .no, .no, .no, .no⟩, .const 0, .imm, .none_, .any⟩,
    -- TwinAreaMismatch (R633)
    ⟨0x4307, 1, 0x00, 0x00, .u16, ⟨.r, .r, .no, .r, .no⟩, .const 0, .none_, .v, .any⟩,
    -- TwinCommitTimeout (R633)
    ⟨0x4308, 1, 0x00, 0x00, .u8, ⟨.b, .no, .no, .b, .no⟩, .const 2, .imm, .p, .range 1 20⟩,
    -- TwinStats (R633)
    ⟨0x4310, 1, 0x00, 0x00, .u8, ⟨.r, .r, .no, .r, .no⟩, .const 8, .none_, .v, .any⟩,
    -- TwinStats (R633)
    ⟨0x4310, 1, 0x01, 0x08, .u32, ⟨.r, .r, .no, .r, .no⟩, .const 0, .none_, .v, .any⟩,
    -- PwrIdleMode (R663)
    ⟨0x1100, 1, 0x00, 0x00, .u8, ⟨.r, .r, .r, .r, .no⟩, .const 2, .none_, .v, .any⟩,
    -- PwrModeCfg (R663)
    ⟨0x1101, 1, 0x00, 0x00, .u8, ⟨.b, .r, .no, .b, .no⟩, .const 0, .imm, .p, .vals [0,1]⟩,
    -- PwrShutdown (R663)
    ⟨0x1102, 1, 0x00, 0x00, .command, ⟨.x, .no, .no, .no, .no⟩, .const 0, .imm, .none_, .any⟩,
    -- PwrIdleDelay (R663)
    ⟨0x1103, 1, 0x00, 0x00, .u16, ⟨.b, .r, .no, .b, .no⟩, .const 0x14, .imm, .p, .range 2 10000⟩,
    -- PwrWakeEnable (R663)
    ⟨0x1104, 1, 0x00, 0x00, .u16, ⟨.b, .r, .no, .b, .no⟩, .const 0x7FF, .imm, .p, .special⟩]

/-- Rows 600 to 623 of the dictionary. -/
def objRows25 : List ObjDef :=
  [
    -- PwrWakeCause (R663)
    ⟨0x1105, 1, 0x00, 0x00, .u16, ⟨.r, .r, .r, .r, .no⟩, .const 0, .none_, .v, .any⟩,
    -- PwrWakeLead (R663)
    ⟨0x1106, 1, 0x00, 0x00, .u16, ⟨.b, .r, .no, .b, .no⟩, .const 0x1F4, .imm, .p, .range 300 5000⟩,
    -- PwrCoreWakes (R663)
    ⟨0x1107, 1, 0x00, 0x00, .u32, ⟨.r, .r, .no, .r, .no⟩, .const 0, .none_, .v, .any⟩,
    -- PwrResetCause (R663)
    ⟨0x1108, 1, 0x00, 0x00, .u8, ⟨.r, .r, .r, .r, .no⟩, .special, .none_, .v, .any⟩,
    -- PwrCoreOffTime (R663)
    ⟨0x1109, 1, 0x00, 0x00, .u32, ⟨.r, .r, .no, .r, .no⟩, .const 0, .none_, .v, .any⟩,
    -- PwrWdtTimeout (R663)
    ⟨0x110A, 1, 0x00, 0x00, .u16, ⟨.b, .no, .no, .b, .no⟩, .const 0x64, (.next .bNextReset), .p, .range 10 1000⟩,
    -- PwrClockState (R663)
    ⟨0x1110, 1, 0x00, 0x00, .u8, ⟨.r, .r, .r, .r, .no⟩, .const 0, .none_, .v, .any⟩,
    -- PwrClockRatio (R663)
    ⟨0x1111, 1, 0x00, 0x00, .u32, ⟨.r, .r, .no, .r, .no⟩, .const 0x1DC13000, .none_, .v, .any⟩,
    -- PwrSlowXtal (R663)
    ⟨0x1112, 1, 0x00, 0x00, .bool, ⟨.b, .r, .no, .b, .no⟩, .const 1, (.next .bNextColdReset), .p, .bool⟩,
    -- PwrStartPhase (R663)
    ⟨0x1113, 1, 0x00, 0x00, .u8, ⟨.r, .r, .r, .r, .no⟩, .const 0, .none_, .v, .any⟩,
    -- PwrStartTime (R663)
    ⟨0x1114, 1, 0x00, 0x00, .u32, ⟨.r, .r, .no, .r, .no⟩, .const 0, .none_, .v, .any⟩,
    -- TmrChannelCount (R664)
    ⟨0x1200, 1, 0x00, 0x00, .u8, ⟨.r, .r, .r, .r, .no⟩, .const 12, .none_, .v, .any⟩,
    -- TmrChannel (R664)
    ⟨0x1210, 12, 0x00, 0x00, .u8, ⟨.r, .r, .no, .r, .no⟩, .const 8, .none_, .v, .any⟩,
    -- TmrCtrl (R664)
    ⟨0x1210, 12, 0x01, 0x01, .u32, ⟨.b, .r, .b, .r, .no⟩, .const 0, .imm, .v, .special⟩,
    -- TmrCount (R664)
    ⟨0x1210, 12, 0x02, 0x02, .u32, ⟨.b, .r, .b, .r, .no⟩, .const 0, .idle, .v, .any⟩,
    -- TmrEnd (R664)
    ⟨0x1210, 12, 0x03, 0x03, .u32, ⟨.b, .r, .b, .r, .no⟩, .special, .imm, .v, .any⟩,
    -- TmrCmp (R664)
    ⟨0x1210, 12, 0x04, 0x04, .u32, ⟨.b, .r, .b, .r, .no⟩, .special, .imm, .v, .any⟩,
    -- TmrCmpB (R664)
    ⟨0x1210, 12, 0x05, 0x05, .u32, ⟨.b, .r, .b, .r, .no⟩, .const 0, .imm, .v, .special⟩,
    -- TmrCapture (R664)
    ⟨0x1210, 12, 0x06, 0x06, .u32, ⟨.r, .r, .r, .r, .no⟩, .const 0, .none_, .v, .any⟩,
    -- TmrStatus (R664)
    ⟨0x1210, 12, 0x07, 0x07, .u16, ⟨.b, .r, .b, .r, .no⟩, .const 0, .imm, .v, .special⟩,
    -- TmrEventMask (R664)
    ⟨0x1210, 12, 0x08, 0x08, .u16, ⟨.b, .r, .b, .r, .no⟩, .const 0, .imm, .v, .special⟩,
    -- BgBurnishPeriod (R686)
    ⟨0x6001, 1, 0x00, 0x00, .u32, ⟨.b, .r, .no, .b, .no⟩, .const 0x15180, (.next .bNextPass), .p, .range 3600 604800⟩,
    -- BgBurnishPos (R686)
    ⟨0x6002, 1, 0x00, 0x00, .u32, ⟨.r, .r, .no, .r, .no⟩, .const 0, .none_, .v, .any⟩,
    -- BgBurnishCount (R686)
    ⟨0x6003, 1, 0x00, 0x00, .u8, ⟨.r, .r, .no, .r, .no⟩, .const 3, .none_, .v, .any⟩]

/-- Rows 624 to 642 of the dictionary. -/
def objRows26 : List ObjDef :=
  [
    -- BgBurnishCount (R686)
    ⟨0x6003, 1, 0x01, 0x03, .u32, ⟨.r, .r, .no, .r, .no⟩, .const 0, .none_, .v, .any⟩,
    -- BgPowerLimit (R686)
    ⟨0x6010, 1, 0x00, 0x00, .u16, ⟨.b, .no, .no, .b, .no⟩, .const 0x352, .imm, .p, .range 300 850⟩,
    -- BgTempLimit (R686)
    ⟨0x6011, 1, 0x00, 0x00, .u8, ⟨.b, .no, .no, .b, .no⟩, .const 0x7B, .imm, .p, .range 85 123⟩,
    -- BgThrottle (R686)
    ⟨0x6012, 1, 0x00, 0x00, .u8, ⟨.r, .r, .r, .r, .no⟩, .const 0, .none_, .v, .any⟩,
    -- BgPowerAvg (R686)
    ⟨0x6013, 1, 0x00, 0x00, .u16, ⟨.r, .r, .r, .r, .no⟩, .const 0, .none_, .v, .any⟩,
    -- BgCan (R686)
    ⟨0x6030, 1, 0x00, 0x00, .u8, ⟨.r, .r, .no, .r, .no⟩, .const 3, .none_, .v, .any⟩,
    -- BgCanPort (R686)
    ⟨0x6030, 1, 0x01, 0x01, .u8, ⟨.b, .r, .no, .b, .no⟩, .const 0xFF, .idle, .p, .vals [0,1,0xFF]⟩,
    -- BgCanId (R686)
    ⟨0x6030, 1, 0x02, 0x02, .u16, ⟨.b, .r, .no, .b, .no⟩, .const 0x7F0, .idle, .p, .range 0 0x7FF⟩,
    -- BgCanPeriod (R686)
    ⟨0x6030, 1, 0x03, 0x03, .u16, ⟨.b, .r, .no, .b, .no⟩, .const 0x3E8, .idle, .p, .range 100 10000⟩,
    -- LogState (R687)
    ⟨0x6100, 1, 0x00, 0x00, .u8, ⟨.r, .r, .r, .r, .no⟩, .const 0, .none_, .v, .any⟩,
    -- LogNewestSeq (R687)
    ⟨0x6101, 1, 0x00, 0x00, .u32, ⟨.r, .r, .r, .r, .no⟩, .const 0, .none_, .v, .any⟩,
    -- LogOldestSeq (R687)
    ⟨0x6102, 1, 0x00, 0x00, .u32, ⟨.r, .r, .no, .r, .no⟩, .const 0, .none_, .v, .any⟩,
    -- LogExtKey (R687)
    ⟨0x6103, 1, 0x00, 0x00, .u8, ⟨.r, .r, .no, .r, .no⟩, .const 2, .none_, .v, .any⟩,
    -- LogExtKey (R687)
    ⟨0x6103, 1, 0x01, 0x02, .u16, ⟨.b, .no, .no, .b, .no⟩, .const 0xFFFF, (.next .bNextSector), .p, .handle⟩,
    -- LogExtFirst (R687)
    ⟨0x6104, 1, 0x00, 0x00, .u32, ⟨.b, .no, .no, .b, .no⟩, .const 0, (.next .bNextStartup), .p, .any⟩,
    -- LogSelect (R687)
    ⟨0x6105, 1, 0x00, 0x00, .u32, ⟨.b, .r, .no, .b, .no⟩, .const 0, .imm, .v, .any⟩,
    -- LogWindow (R687)
    ⟨0x6106, 1, 0x00, 0x00, .octets 1024, ⟨.r, .r, .no, .r, .no⟩, .const 0, .none_, .v, .any⟩,
    -- LogStats (R687)
    ⟨0x6107, 1, 0x00, 0x00, .u8, ⟨.r, .r, .no, .r, .no⟩, .const 4, .none_, .v, .any⟩,
    -- LogStats (R687)
    ⟨0x6107, 1, 0x01, 0x04, .u32, ⟨.r, .r, .no, .r, .no⟩, .const 0, .none_, .v, .any⟩]

/-- The whole dictionary. -/
def objTable : List ObjDef :=
  objRows0 ++ objRows1 ++ objRows2 ++ objRows3 ++ objRows4 ++ objRows5 ++ objRows6 ++ objRows7 ++ objRows8 ++ objRows9 ++ objRows10 ++ objRows11 ++ objRows12 ++ objRows13 ++ objRows14 ++ objRows15 ++ objRows16 ++ objRows17 ++ objRows18 ++ objRows19 ++ objRows20 ++ objRows21 ++ objRows22 ++ objRows23 ++ objRows24 ++ objRows25 ++ objRows26

end Sys2Proof.Machine
end

