-- ==== Sys2Proof/Machine/Parts/Base.lean ====
section
/-! DEFINITION. State of the dictionary, its transports (02_object_dictionary.md), the factory fuses (00_scope.md) and the
event log (18_background_and_event_log.md). Each field says its width, the rule that names it and its reset value. -/
namespace Sys2Proof.Machine

/-- The three parts of R1. -/
inductive Variant where
  | gz4880 | gz4860 | gz4840
deriving DecidableEq, Repr

/-- What is fused at manufacture. -/
structure Fuses where
  /-- [R1, R5; reset DESIGN CHOICE GZ4880, log 3] the variant. -/
  variant : Variant
  /-- [8 bit; R719; reset 0x01] DevSiliconRevision. -/
  silicon : Nat
  /-- [8 octets; R90; reset DESIGN CHOICE 4E 88 30 11 07 C2 5A 19, log 3] DevSerialNumber. -/
  serial : Bytes
  /-- [7 octets; R422; reset DESIGN CHOICE zeros, log 3] TagUid. -/
  uid : Bytes
  /-- [256 bit; R510; reset DESIGN CHOICE zeros, log 3] per-die conditioner key. -/
  condKey : Bytes
  /-- [128 bit; R427; reset DESIGN CHOICE zeros, log 3] per-die key of the tag's nonce generator. -/
  tagKey : Bytes
  /-- [R350, R352; reset DESIGN CHOICE none listed, log 3] per-die trims, by dictionary key (index * 256 + sub). -/
  trims : List (Nat × Nat)
deriving DecidableEq, Repr

/-- A dictionary request (R48): `op` 0x01 to 0x12, with the length agreement already judged (R59). -/
structure Req where
  op    : Nat
  seq   : Nat
  idx   : Nat
  sub   : Nat
  rsvd  : Nat
  data  : Bytes
  lenOk : Bool
deriving DecidableEq, Repr

/-- A dictionary answer (R49): result code, detail, and the value or result where the code is OK. -/
structure Resp where
  code   : Nat
  detail : Nat
  data   : Bytes
deriving DecidableEq, Repr

/-- A queued notification (R83). -/
structure Ntf where
  idx  : Nat
  sub  : Nat
  seq  : Nat
  lost : Nat
  val  : Bytes
deriving DecidableEq, Repr

/-- The notification queue of one requester (R84). -/
structure NtfQ where
  /-- [8 bit; R83; reset 0] next SEQ. -/
  seq   : Nat
  /-- [at most 16; R84; reset empty] queued notifications, oldest first. -/
  q     : List Ntf
  /-- [8 bit each; R83, R84; reset empty] LOST counts not yet delivered, by dictionary key. -/
  lost  : List (Nat × Nat)
deriving DecidableEq, Repr

/-- One subscription (R81). -/
structure Sub where
  who    : Requester
  idx    : Nat
  sub    : Nat
  mode   : Nat
  period : Nat
  gap    : Nat
  /-- [time; R81] when the next periodic notification is due. -/
  due    : Nat
  /-- [time; R81] end of the gap after the last on-change notification. -/
  gapEnd : Nat
  /-- [1 bit; R81] a change is held back by the gap. -/
  held   : Bool
  /-- [octets; R81] the value against which a change is seen. -/
  seen   : Bytes
deriving DecidableEq, Repr

/-- The host SPI slave (R53 to R59). -/
structure SpiPort where
  /-- [1 bit; R54; reset 0] ALIVE: the dictionary serves the host. -/
  alive   : Bool
  /-- [1 bit; R54; reset 0] CMD_ERR. -/
  cmdErr  : Bool
  /-- [1 bit; R54, R55; reset 0] OVERRUN. -/
  overrun : Bool
  /-- [octets; R55; reset none] the request PDU in progress (REQ_BUSY). -/
  req     : Option Bytes
  /-- [1 bit; R36; reset 0] the request has been served and its command runs on. -/
  running : Bool
  /-- [octets; R57; reset none] the response waiting (RSP_READY). -/
  rsp     : Option Bytes
  /-- [octets; R53; reset empty] what HS_MISO carried in the last transaction. -/
  miso    : Bytes
deriving DecidableEq, Repr

/-- The phase of a network session slot (R69 to R71). -/
inductive NetPhase where
  | free | hello | opened
deriving DecidableEq, Repr

/-- One network session slot (R69 to R77). -/
structure NetSess where
  /-- [R69; reset free] -/
  phase : NetPhase
  /-- [3 bit; R93; reset 0] requester ID. -/
  rid   : Nat
  /-- [R93; reset CAN 0] transport and sender. -/
  via   : Transport
  /-- [16 octets; R69; reset empty] requester nonce. -/
  nr    : Bytes
  /-- [16 octets; R69; reset empty] device nonce. -/
  nd    : Bytes
  /-- [128 bit; R69; reset empty] session key. -/
  key   : Bytes
  /-- [32 bit; R74; reset 0] FCNT of the last accepted request. -/
  rx    : Nat
  /-- [32 bit; R74; reset 0] FCNT of the last message sent. -/
  tx    : Nat
  /-- [time; R71, R76; reset 0] proof deadline, or, once open, the time of the last valid request. -/
  due   : Nat
  /-- [at most 4; R77; reset empty] requests in progress, oldest first; the flag says the command runs on. -/
  reqs  : List (Req × Bool)
deriving DecidableEq, Repr

/-- A lock-out in force (R73, R181, R185): its end, the remainder persisted, and when that was. -/
structure Lock where
  until_ : Nat
  stored : Nat
  /-- [time; R185] when the remainder was last persisted. -/
  at_    : Nat
deriving DecidableEq, Repr

/-- Wrong proofs of one claimant and the lock-out they raise (R73, R87). -/
structure Guard where
  /-- [times; R73, R87; reset empty] wrong proofs within the window. -/
  wrong : List Nat
  /-- [R73, R87; reset none; the remainder persistent for R73] the lock-out in force. -/
  lock  : Option Lock
deriving DecidableEq, Repr

/-- A partly received CAN FD dictionary message (R65 to R67). -/
structure CanReasm where
  msg  : Bytes
  next : Nat
  /-- [time; R67] latest arrival of the next segment. -/
  due  : Nat
deriving DecidableEq, Repr

/-- Transport version 1 (R85 to R87). -/
structure V1State where
  /-- [32 bit; R85; reset none] the challenge open. -/
  challenge : Option Bytes
  /-- [time; R86; reset none] writes are unlocked until then. -/
  unlocked  : Option Nat
  /-- [R87; reset none] wrong proofs and lock-out. -/
  guard     : Guard
deriving DecidableEq, Repr

/-- A running DevCommit (R42): who asked and the snapshot. -/
structure Commit where
  who  : Requester
  snap : List (Nat × Nat)
deriving DecidableEq, Repr

/-- The dictionary's own state. -/
structure Dict where
  spi      : SpiPort
  /-- [at most 64; R82; reset empty] subscriptions. -/
  subs     : List Sub
  /-- [5; R84; reset empty] notification queues: host, network sessions 1 to 3, twin. -/
  ntfs     : List NtfQ
  /-- [3; R70; reset free] network sessions 0x01 to 0x03. -/
  net      : List NetSess
  /-- [8; R73; reset none; persistent] lock-outs of requester IDs 0 to 7. -/
  guards   : List Guard
  /-- [R78, R80; reset empty] requests of the twin in progress. -/
  twinReqs : List (Req × Bool)
  /-- [2 x 32 bit; R61, R78; reset 0] FCNT accepted from and sent to the twin. -/
  twinRx   : Nat
  twinTx   : Nat
  /-- [2; R65; reset none] reassembly per CAN controller. -/
  reasm    : List (Option CanReasm)
  v1       : V1State
  /-- [R42; reset none] the commit running. -/
  commit   : Option Commit
  /-- [2; R42; reset empty; persistent] the two banks: committed values that differ from their defaults. -/
  bankA    : List (Nat × Nat)
  bankB    : List (Nat × Nat)
  /-- [1 bit; R42; reset A; persistent] bank B is current. -/
  bankCur  : Bool
  /-- [R95; reset none] who runs DevSelfTest, and whether the start-up self-test runs. -/
  selfTest : Option Requester
  /-- [time; R97; reset none] a DevReset answered and not yet taken: cold or not, and when; no time while the response has not left its
  transport. -/
  resetDue : Option (Bool × Option Nat)
  /-- [octets; R97; reset none] the last frame of that answer while it waits to leave on a network. -/
  resetMsg : Option Bytes
  /-- [R49; reset none] the last access answered: requester, request, response. -/
  last     : Option (Requester × Req × Resp)
  /-- [R36; reset empty] commands that run on, asked for by a command row of their own and not through a port: who, and the request. -/
  direct   : List (Requester × Req)
  /-- [R96; reset empty] IDLE objects, by dictionary key, that take their default when their unit is next idle. -/
  idleWait : List Nat
  /-- [model's own; reset empty] answers of commands that ran on, with the object index of the command, handed over within a step; empty
  between steps. -/
  done     : List (Requester × Nat × Resp)
deriving DecidableEq, Repr

/-- One log record (R675). -/
structure LogRec where
  seq    : Nat
  tsec   : Nat
  tfrac  : Nat
  typ    : Nat
  code   : Nat
  detail : Nat
  /-- [1 bit; R676] KEEP and DEFERRED. -/
  keep     : Bool
  deferred : Bool
  data   : Bytes
deriving DecidableEq, Repr

/-- The event log (R675 to R684). -/
structure EventLog where
  /-- [32 bit; R678; reset 1] the next SEQ. -/
  next    : Nat
  /-- [at most 64; R680; reset empty] records waiting for the head. -/
  buf     : List LogRec
  /-- [1,024 slots; R679; reset empty; persistent] valid head slots by slot number. -/
  head    : List (Nat × LogRec)
  /-- [at most 8; R680; reset empty; AON] markers of events while CORE was down: type, code, detail, data. -/
  markers : List LogRec
  /-- [R680; reset 0] markers lost beyond 8. -/
  lostMk  : Nat
  /-- [32 bit x 2; R680; reset none] first lost SEQ and count not yet reported. -/
  lost    : Option (Nat × Nat)
  /-- [R681; reset none; AON] the Quench marker: cause, and the seconds and the fraction at which it was made. -/
  quench  : Option (Nat × Nat × Nat)
  /-- [R682; reset empty; external memory] sectors written: sector, its 4,096 octets. -/
  ext     : List (Nat × Bytes)
  /-- [R683; reset none] the sector (by SEQ / 64) being written, and whether its erase is over. -/
  sector  : Option (Nat × Bool)
  /-- [R683; reset 0] the next sector (by SEQ / 64) to write. -/
  nextSec : Nat
  /-- [8 bit; R683; reset 0] consecutive sector failures. -/
  fails   : Nat
  /-- [model's own; R678; reset (0, 1)] the CKS cycle of the newest record, and the first SEQ taken in it. -/
  cyc     : Nat × Nat
deriving DecidableEq, Repr

end Sys2Proof.Machine
end

