-- ==== Sys2Proof/Machine/Parts/Access.lean ====
section
/-! DEFINITION. State of the decision path: tokens, credentials, validity clock and counter journal (03), token sessions,
lock-out and learning (04), Touchstone (05), release gates, immobiliser, limiters and Quench (06). -/
namespace Sys2Proof.Machine

/-- A key the part knows: a token entry or a credential cache entry (R201, AccSessionKey). -/
inductive KeyRef where
  | tok (n : Nat)
  | cred (n : Nat)
deriving DecidableEq, Repr

/-- The rolling counter of an entry (R137 to R140). -/
structure Ctr where
  /-- [32 bit; R137; reset 0] highest value accepted. -/
  last : Nat
  /-- [32 bit; R104, R136; reset 0] last committed value. -/
  comm : Nat
  /-- [32 bit and time; R138; reset none] pending resync and its time-out. -/
  pend : Option (Nat × Nat)
  /-- [1 bit; R147; reset 0] the next accepted counter must come through a resync confirmation. -/
  conf : Bool
deriving DecidableEq, Repr

/-- One token table entry (R104); persistent. -/
structure TokEntry where
  /-- [8 bit; R104; reset 0] 0 EMPTY, 1 ACTIVE, 2 SUSPENDED, 3 EXHAUSTED. -/
  st       : Nat
  /-- [8 bit; R104; reset 0] class. -/
  cls      : Nat
  /-- [32 bit; R104; reset 0] TID. -/
  tid      : Nat
  /-- [16 bit; R104; reset 0xFFFF] key slot. -/
  handle   : Nat
  /-- [32 bit; R104; reset 0] rights. -/
  rights   : Nat
  /-- [16 bit; R104; reset 0] zones. -/
  zones    : Nat
  /-- [64 bit; R104; reset 0] NOT_AFTER. -/
  notAfter : Nat
  ctr      : Ctr
deriving DecidableEq, Repr

/-- One occupied credential cache entry (R134); persistent. The credential's own fields of its last presentation are kept for
the seal decision (R121). -/
structure CacheEntry where
  /-- [8 bit; R136] 1 LIVE, 2 EXHAUSTED. -/
  st       : Nat
  id       : Nat
  auth     : Nat
  notAfter : Nat
  notBefore : Nat
  rights   : Nat
  zones    : Nat
  flags    : Nat
  base     : Nat
  ctr      : Ctr
deriving DecidableEq, Repr

/-- A journal record (R142) without its CHK. -/
structure JRec where
  typ   : Nat
  entry : Nat
  seq   : Nat
  value : Nat
deriving DecidableEq, Repr

/-- What a journal slot holds (R142): the fields of a record, and the CHK that stands beside them, good or not. -/
structure JSlot where
  r   : JRec
  /-- [8 bit; R142] CHK as it stands in the slot. -/
  chk : Byte
deriving DecidableEq, Repr

/-- One journal bank (R142 to R146); persistent. -/
structure JBank where
  /-- [32 bit; R144; reset 1 for bank A, 0 for bank B] generation. -/
  gen      : Nat
  /-- [32 bit; R144; reset 1] SEQ of the first record. -/
  start    : Nat
  /-- [1 bit; R144; reset true for bank A] COMPLETE header word good. -/
  complete : Bool
  /-- [4,094 x 128 bit; R144; reset empty] slots from slot 2 upwards. -/
  slots    : List JSlot
deriving DecidableEq, Repr

/-- A record being written (R143, R148). -/
structure JWrite where
  r       : JRec
  /-- [1 bit; R148] it is the second attempt. -/
  retry   : Bool
  /-- [time; R143] end of its read-back. -/
  due     : Nat
deriving DecidableEq, Repr

/-- A claimed key (R180). -/
inductive Claim where
  | tok (tid : Nat)
  | cred (auth id : Nat)
deriving DecidableEq, Repr

/-- A counter advance accepted and not yet committed (R139, R149, R150). -/
structure Advance where
  key    : KeyRef
  value  : Nat
  tsh    : Nat
  /-- [R143] the manager's record is committed. -/
  local_ : Bool
  /-- [R150] the standby has acknowledged, or none is needed. -/
  twin   : Bool
  /-- [R148] the record failed: no seal follows. -/
  failed : Bool
  /-- [time; R138, TokCommitTime] acceptance. -/
  start  : Nat
  /-- [32 bit; R624] SEQ of its COMMIT message, 0 with no twin. -/
  cseq   : Nat
  /-- [8 bit; R162] the command judged. -/
  cmd    : Nat
  /-- [128 bit; R155, R162] K_mac of the proof that was verified. -/
  kmac   : Bytes
  /-- [R180] the claim and the interface a failure counts against. -/
  claim  : Claim
  iface  : Nat
  /-- [1 bit; R148, R150; log 57] the final RESULT is still owed. -/
  owed   : Bool
deriving DecidableEq, Repr

/-- TokJournalState of R151. -/
inductive JState where
  | normal | compacting | damaged | failed
deriving DecidableEq, Repr

/-- The counter journal. -/
structure Journal where
  a       : JBank
  b       : JBank
  /-- [1 bit; R144; reset A] bank B is active. -/
  bAct    : Bool
  /-- [R151; reset NORMAL] -/
  st      : JState
  /-- [R143; reset empty] records in flight, oldest first. -/
  writes  : List JWrite
  /-- [R146; reset none] compaction: records of the active bank already copied. -/
  copied  : Option Nat
  /-- [1 bit; R146; reset 0] compaction holds commits for its last pass. -/
  hold    : Bool
  /-- [R146; reset empty] records waiting for a bank switch or for the hold, each with whether it is a second attempt (R148). -/
  waiting : List (JRec × Bool)
deriving DecidableEq, Repr

/-- The validity clock (R122 to R126); AON. -/
structure VClock where
  /-- [48 bit; R122; reset 0] VC. -/
  vc      : Nat
  /-- [2 bit; R123; reset 0 FLOOR_ONLY] 0 FLOOR_ONLY, 1 ATTESTED, 2 TRACKING. -/
  st      : Nat
  /-- [64 bit; R124; reset 0] held forward step. -/
  held    : Nat
  /-- [48 bit; R125; reset 0; persistent] last FLOOR record. -/
  floor   : Nat
  /-- [time; R125; reset 0] when it was written. -/
  floorAt : Nat
  /-- [1 bit; R125; reset 0] LOCKED domain time has been taken since the start-up. -/
  taken   : Bool
  /-- [time; R122; reset 0] the last AON second counted. -/
  secAt   : Nat
deriving DecidableEq, Repr

/-- A nonce sent or waiting to leave (R103, R159, R160). -/
structure Nonce where
  car    : Carrier
  bytes  : Bytes
  /-- [time; R160, R227] departure of its message, none while it waits. -/
  left   : Option Nat
  /-- [time; R160] end of its life, set at departure. -/
  due    : Nat
  reason : Nat
  gate   : Nat
deriving DecidableEq, Repr

/-- A token session (R152). -/
structure TokSession where
  tsh    : Nat
  car    : Carrier
  key    : KeyRef
  kmac   : Bytes
  kenc   : Bytes
  ksts   : Bytes
  /-- [16 bit x 2; R157] MCTR last accepted and last sent. -/
  rx     : Nat
  tx     : Nat
  /-- [8 bit; R201] seals issued, saturating. -/
  seals  : Nat
  /-- [10 octets; R189] first 10 octets of the nonce that opened it. -/
  n10    : Bytes
  /-- [time; R172; reset none] waits for one REVOKE_REQUEST until then. -/
  revoke : Option Nat
  /-- [R163] RANGING_SETUP is still to be sent. -/
  setup  : Bool
  /-- [R163, R484] RANGING-page slot of K_sts. -/
  sts    : Option Nat
deriving DecidableEq, Repr

/-- An ENTRY session (R172 to R177). -/
structure EntryS where
  key     : KeyRef
  tsh     : Nat
  /-- [1 bit; R172] opened by PASSIVE_ENTRY: it serves touches. -/
  passive : Bool
  /-- [time; R176] AccEntryTimeout. -/
  due     : Nat
  /-- [R177] seals issued in it. -/
  seals   : Nat
  /-- [1 bit; R177] a door-open edge has occurred since its first seal. -/
  door    : Bool
deriving DecidableEq, Repr

/-- A START session (R172 to R178). -/
structure StartS where
  key    : KeyRef
  tsh    : Nat
  /-- [time; R176] AccStartTimeout. -/
  due    : Nat
  /-- [1 bit; R178] its START seal is in force. -/
  sealed_ : Bool
  /-- [1 bit; R244] START_EN stands high on its seal. -/
  up      : Bool
  /-- [ENUM; R178] AccStartAckSource taken at its opening. -/
  ack    : Nat
  /-- [time; R198; reset none] its START request was refused with GATE_HELD: the trigger time of that request. -/
  held   : Option Nat
deriving DecidableEq, Repr

/-- One entry of the failure tracker (R184); AON. -/
structure FailEntry where
  claim : Claim
  iface : Nat
  times : List Nat
  lock  : Option Lock
deriving DecidableEq, Repr

/-- An interface's or the enrolment code's failures (R181); AON. -/
structure Tier where
  times : List Nat
  lock  : Option Lock
deriving DecidableEq, Repr

/-- A key transfer of a learning window (R190 to R193). -/
structure Transfer where
  cls      : Nat
  rights   : Nat
  zones    : Nat
  notAfter : Nat
  /-- [R190] 1 AT_COIL, 2 TO_AUTHORISER, 3 HOST_IMPORT. -/
  delivery : Nat
  port     : Nat
  slot     : Nat
  tid      : Nat
  /-- [8 octets; R192] the blank transponder's UID, once read. -/
  uid      : Option Bytes
  /-- [R193] KEY_DELIVERY has left and its acknowledgement is awaited. -/
  sent     : Bool
  /-- [R501] confirmed; the entry waits for the mirrored key write. -/
  conf     : Bool
deriving DecidableEq, Repr

/-- A learning window (R188). -/
structure Learn where
  /-- [1 bit; R201] opened by a code. -/
  code : Bool
  tsh  : Nat
  key  : KeyRef
  /-- [time; R188] 120 s after opening. -/
  due  : Nat
  xfer : Option Transfer
deriving DecidableEq, Repr

/-- The access state machines. -/
structure Acc where
  /-- [64; R104; reset EMPTY; persistent] token table. -/
  toks    : List TokEntry
  /-- [at most 1,024; R134; reset empty; persistent] occupied cache entries by number, ascending. -/
  cache   : List (Nat × CacheEntry)
  /-- [at most 512; R131; reset empty; persistent] revocation list: CRED_ID, AUTHORITY, NOT_AFTER. -/
  revoked : List (Nat × Nat × Nat)
  vclk    : VClock
  jr      : Journal
  /-- [R139; reset empty] advances accepted and not yet committed. -/
  adv     : List Advance
  /-- [R103, R160; reset empty] nonces. -/
  nonces  : List Nonce
  /-- [16; R152, R723; reset free] token sessions by session number. -/
  ses     : List (Option TokSession)
  /-- [16 bit; R723; reset 1] TSH counter. -/
  tshNext : Nat
  /-- [R173; reset empty] ENTRY sessions. -/
  entry   : List EntryS
  /-- [R173; reset empty] START sessions. -/
  start   : List StartS
  /-- [R179; reset none; AON] the drive latch: key and TSH that released it. -/
  drive   : Option (KeyRef × Nat)
  /-- [at most 128; R184; reset empty; AON] failure tracker. -/
  fails   : List FailEntry
  /-- [7; R180, R181; reset empty; AON] interface tiers. -/
  ifs     : List Tier
  /-- [R181; reset empty; AON] enrolment-code tier. -/
  code    : Tier
  /-- [R188; reset none] learning window. -/
  learn   : Option Learn
  /-- [at most 16; R174, R198, R247; reset empty] codes that requests without a verdict or with a void seal got, newest first: TSH,
  gate, code, detail (log 61). -/
  refused : List (Nat × Nat × Nat × Nat)
  /-- [R156; reset empty] vehicle messages waiting to leave on each carrier, oldest first. -/
  tx      : List (Carrier × Bytes)
  /-- [R201; reset 0] Duration of the last commit, µs. -/
  commitUs : Nat
  /-- [4 bit; R175; reset 0; AON] the filtered levels of DOOR_SW[3:0]. -/
  doors   : Nat
deriving DecidableEq, Repr

/-- A zone table held by Touchstone (R217 to R226). -/
structure TsTable where
  ver   : Nat
  fresh : Nat
  hold  : Nat
  grace : Nat
  /-- [4; R220, R221] policy zones, window, flags. -/
  pol   : List (Nat × Nat × Nat)
  /-- [16; R217] ENABLE and the eight constraint words. -/
  zones : List (Bool × List Nat)
deriving DecidableEq, Repr

/-- A slot key of the evidence store (R212): kind, SRC, SRC2. -/
abbrev SlotKey := Nat × Nat × Nat

/-- A stored evidence item (R203, R206). -/
structure Ev where
  tsh   : Nat
  key   : SlotKey
  flags : Nat
  round : Nat
  qual  : Nat
  value : Int
  /-- [time; R206] measurement time. -/
  tm    : Nat
deriving DecidableEq, Repr

/-- The outcome of an evaluation (R231 to R233). -/
structure Verdict where
  /-- [1 bit] satisfied. -/
  sat    : Bool
  /-- [R231] a NO_ZONE that closes (window ended or no permitted zone); false while the request stays open. -/
  closes : Bool
  detail : Nat
  mask   : Nat
  zone   : Nat
  con    : Nat
  /-- [time; R235] expiry of a SATISFIED verdict. -/
  expiry : Nat
deriving DecidableEq, Repr

/-- A verdict request (R227 to R235). -/
structure VReq where
  tsh    : Nat
  gate   : Nat
  /-- [1 bit] for a START session, else for an ENTRY session. -/
  start  : Bool
  key    : KeyRef
  trig   : Nat
  wend   : Nat
  /-- [time; R233] opening, for STALE_ITEM. -/
  opened : Nat
  table  : TsTable
  /-- [R233] slot keys whose items were rejected STALE since the opening. -/
  stale  : List SlotKey
  /-- [R235] the SATISFIED verdict waiting for its seal, and when it completed. -/
  ok     : Option (Verdict × Nat)
  /-- [time; R234; reset none] launch of the last round it demanded. -/
  launch : Option Nat
  /-- [1 bit; R234] a demand is waiting to be planned or launched. -/
  asked  : Bool
deriving DecidableEq, Repr

/-- An evaluation under way (R230). -/
structure Eval where
  tsh   : Nat
  gate  : Nat
  /-- [time; R230] when it starts and judges the store; it completes 50 CKS cycles later. -/
  start : Nat
  /-- [R230] what it found, once it has started. -/
  res   : Option Verdict
deriving DecidableEq, Repr

/-- A ranging demand (R234): which session, which request, which anchors. -/
structure Demand where
  tsh     : Nat
  gate    : Nat
  anchors : List Nat
  /-- [1 bit; R291] every constraint it was raised for is a TDOA constraint. -/
  tdoa    : Bool
  at_     : Nat
deriving DecidableEq, Repr

/-- Touchstone. -/
structure Ts where
  /-- [R222, R226; reset the defaults] the table in force. -/
  cur     : TsTable
  /-- [R212; reset empty] the evidence store. -/
  store   : List Ev
  /-- [64; R207; reset empty] launch stamps of rounds, newest first. -/
  launches : List (Nat × Nat)
  /-- [R215; reset empty] sessions under veto and until when. -/
  vetoes  : List (Nat × Nat)
  /-- [R227; reset empty] verdict requests. -/
  reqs    : List VReq
  /-- [R230; reset empty] evaluations under way, oldest first. -/
  evals   : List Eval
  /-- [time; R209; reset 0] the first CKS cycle in which another item may be admitted. -/
  admAt   : Nat
  /-- [time; R230; reset 0] the first CKS cycle in which another evaluation may start. -/
  evAt    : Nat
  /-- [R234; reset empty] ranging demands not yet planned. -/
  demands : List Demand
deriving DecidableEq, Repr

/-- One pulse output (R237, R241): level and, while high, when it falls. -/
structure Ball where
  high : Bool
  due  : Nat
deriving DecidableEq, Repr

/-- The dead time of an interlock group (R242): its end, and the pulses that follow (gates of A pulses, or the B pulse). -/
structure Dead where
  due : Nat
  a   : List Nat
  b   : Bool
deriving DecidableEq, Repr

/-- The immobiliser exchange (R252 to R257). -/
structure Immo where
  /-- [R256; reset none] the pending CHALLENGE nonce and the end of GateImmoWait. -/
  nonce   : Option (Bytes × Nat)
  /-- [32 bit; R255; reset 0] SEQ of the last frame sent. -/
  seq     : Nat
  /-- [32 bit; R255; reset 0; persistent] SEQ reservation. -/
  resv    : Nat
  /-- [R257; reset empty] the frames that carried the current START seal's RELEASED status: octets 2 on before MAC, CTX. -/
  rel     : List (Bytes × Bytes)
  /-- [time; R252; reset none] when the next RELEASE is due. -/
  next    : Option Nat
deriving DecidableEq, Repr

/-- On-time of a transmitter counted by a limiter (R261). -/
structure OnTime where
  lim : Nat
  /-- [R261] channel or port the ceiling applies to. -/
  ch  : Nat
  t0  : Nat
  t1  : Nat
  eng : Bool
deriving DecidableEq, Repr

/-- The release gates (AON latches, R20), their readback, the fences and Quench. -/
structure Gate where
  /-- [3; R237; reset low] LOCK_DRV_A, LOCK_ALL_A, TRUNK_A. -/
  a       : List Ball
  /-- [3; R237; reset low] LOCK_DRV_B, LOCK_ALL_B, TRUNK_B. -/
  b       : List Ball
  /-- [2; R242; reset none] dead times of the group of gates 0 and 1, and of gate 2. -/
  dead    : List (Option Dead)
  /-- [1 bit; R197; reset 0] a relock waits for the pulses of seals already issued. -/
  relock  : Bool
  /-- [1 bit; R237; reset 0] START_EN; START_EN_N is its complement. -/
  startEn : Bool
  /-- [time; R244; reset 0] when START_EN rose. -/
  startAt : Nat
  /-- [3; R250; reset empty; AON] starts of A pulses within the last 60 s. -/
  hist    : List (List Nat)
  /-- [4 bit; R249; reset 0] GateFault. -/
  fault   : List Bool
  /-- [4; R248; reset 0] mismatches in a row. -/
  mism    : List Nat
  /-- [4; R248; reset 0] time of the last change of the commanded state. -/
  chg     : List Nat
  /-- [4; R265; reset none] time of the last AON-side close at each gate's latch. -/
  closeAt : List (Option Nat)
  /-- [32 bit; R246; reset 0] SEQ of the last seal. -/
  seq     : Nat
  immo    : Immo
  /-- [R261; reset empty] on-times within the longest window. -/
  onTimes : List OnTime
  /-- [8; R263; reset none] since when each engine-driven GPIO has been at its active level. -/
  hold    : List (Option Nat)
  /-- [1 bit; R266; reset 0] the part is in Quench. -/
  quench  : Bool
  /-- [1 bit; R696; reset true] VIO is present (outputs driven, readback compared). -/
  vio     : Bool
deriving DecidableEq, Repr

end Sys2Proof.Machine
end

