-- ==== Sys2Proof/Machine/Parts/Air.lean ====
section
/-! DEFINITION. State of the Bluetooth LE link (09_ble_link.md), of capacitive sensing and the LF channels
(10_lf_and_handle_wake.md), and of the NFC reader and the Hallmark tag (11_nfc_and_hallmark_tag.md). -/
namespace Sys2Proof.Machine

/-- An engine notification or indication waiting on a connection (R375). -/
structure EngNtf where
  char : Nat
  eng  : Nat
  val  : Bytes
  ind  : Bool
  /-- [R375] the indication has left and is not confirmed. -/
  sent : Bool
deriving DecidableEq, Repr

/-- One BLE connection (R354 to R370). -/
structure BleConn where
  /-- [time; R363] opening. -/
  at_      : Nat
  /-- [2 bit; R356] PHY, as BlePhyPref. -/
  phy      : Nat
  /-- [16 bit; R356] interval, 1.25 ms. -/
  interval : Nat
  latency  : Nat
  /-- [ms; R356] supervision time-out. -/
  timeout  : Nat
  /-- [16 bit; R366; reset 23] ATT_MTU. -/
  mtu      : Nat
  /-- [R364; reset empty] CCCD values that are not 0, by handle. -/
  cccd     : List (Nat × Nat)
  /-- [1 bit; R166, R366; reset 0] the first CHALLENGE has been sent. -/
  chal     : Bool
  /-- [1 bit; R363; reset 0] it holds or has held a token session. -/
  had      : Bool
  /-- [at most 4; R367; reset empty] Zarique messages received. -/
  rxq      : List Bytes
  /-- [at most 8; R375; reset empty] engine notifications and indications. -/
  ntf      : List EngNtf
  /-- [1 bit; R372; reset 0] a Service Changed indication waits. -/
  svc      : Bool
  /-- [1 bit; R357; reset 0] a connection parameters request waits. -/
  param    : Bool
  /-- [16 bit; R377; reset 0] last RSSI, dBm. -/
  rssi     : Int
  /-- [time; R369; reset opening] last served event. -/
  served   : Nat
  /-- [time; R369] next anchor point. -/
  anchor   : Nat
  /-- [R338; reset empty] last four RSSI values on each antenna, newest first. -/
  hist0    : List Int
  hist1    : List Int
  /-- [R338; reset 0] events since the last probe. -/
  evs      : Nat
  /-- [1 bit; R338; reset BLE_ANT0] antenna of the last event. -/
  ant      : Bool
  /-- [R375; reset empty] notifications of the last event, newest last: handle and value. -/
  sent     : List (Nat × Bytes)
deriving DecidableEq, Repr

/-- One engine characteristic (R371 to R374). -/
structure BleChar where
  /-- [8 bit; R371; reset 0xFF] BleEngOwner. -/
  owner : Nat
  /-- [at most 244 octets; R374; reset empty] BleEngValue as last written. -/
  val   : Bytes
  /-- [at most 4; R374; reset empty] phone writes: connection and data. -/
  rxq   : List (Nat × Bytes)
  /-- [1 bit; R372; reset 0] in the Engine service. -/
  pub   : Bool
deriving DecidableEq, Repr

/-- What the ATT or link layer last sent of its own or answered (R355, R357, R363, R365, R374). -/
inductive AttRsp where
  | none_
  | value (v : Bytes)
  | error (code : Nat)
  | ok
  /-- LL_REJECT_EXT_IND or Pairing Failed, with its code. -/
  | reject (code : Nat)
  /-- accepted link-layer procedure. -/
  | accept
  /-- [R357] this device's request for an interval of 7.5 ms to `max` (1.25 ms) with latency 0. -/
  | paramReq (conn max : Nat)
  /-- [R363] this device ends the connection with a reason. -/
  | terminate (conn reason : Nat)
deriving DecidableEq, Repr

/-- An advertising event as sent (R359 to R363). -/
structure AdvOut where
  addr  : Bytes
  conn  : Bool
  uuid  : Bool
  prof  : Nat
  /-- Service Data payload, empty where none is sent. -/
  data  : Bytes
  ant   : Bool
deriving DecidableEq, Repr

/-- The BLE link. -/
structure Ble where
  /-- [8; R354; reset free] connections by number. -/
  conns : List (Option BleConn)
  /-- [16; R371; reset free] engine characteristics. -/
  chars : List BleChar
  /-- [32 bit; R358; reset none] EPOCH under which the address was drawn. -/
  epoch : Option Nat
  /-- [time; R362; reset none] end of the advertising boost. -/
  boost : Option Nat
  /-- [time; R361; reset 0] next advertising event. -/
  advAt : Nat
  /-- [1 bit; R338; reset BLE_ANT0] antenna of the last advertising event. -/
  advAnt : Bool
  /-- [R359; reset none] the last advertising event. -/
  adv   : Option AdvOut
  /-- [R374; reset none] the last answer to the phone. -/
  rsp   : AttRsp
  /-- [R331, R369; reset none] the connection whose event is on air. -/
  event : Option Nat
deriving DecidableEq, Repr

/-- One capacitive channel (R379 to R384); AON. -/
structure CapCh where
  /-- [16 bit; R380; reset 0] C, 0.02 pF. -/
  raw     : Nat
  /-- [R380; reset none] baseline B in 0.02 pF; none before the first measurement. -/
  base    : Option Rat
  /-- [1 bit; R381; reset 0] touched. -/
  touched : Bool
  /-- [4 bit; R381; reset 0] consecutive measurements over the threshold. -/
  ovr    : Nat
  /-- [time; R381] next confirming measurement. -/
  due     : Nat
  /-- [time; R384] when it became touched. -/
  since   : Nat
  /-- [1 bit; R382, R383; reset 0] its crossing was suppressed; it crosses again only after falling below its release level. -/
  blk     : Bool
deriving DecidableEq, Repr

/-- Capacitive sensing. -/
structure Cap where
  /-- [4; R379; reset untouched] channels. -/
  ch     : List CapCh
  /-- [time; R379; reset 0] last scan. -/
  scanAt : Nat
  /-- [R383; reset empty] channels that crossed within the present scan period. -/
  cross  : List Nat
  /-- [1 bit; R383; reset 0] the crossings of this period are suppressed. -/
  gang   : Bool
  /-- [R385; reset empty] touches held until the DRBG is seeded: channel and stamp. -/
  held   : List (Nat × Nat)
deriving DecidableEq, Repr

/-- What an LF exchange does (R394). -/
inductive LfKind where
  | poll
  | slot (tid entry : Nat)
  | uid
  | key
deriving DecidableEq, Repr

/-- An LF exchange queued or running (R388, R394). -/
structure LfEx where
  chan : Nat
  gate : Nat
  kind : LfKind
  /-- [R613] request number of the manager's LF_REQUEST this worker serves. -/
  req  : Option Nat
  /-- [R613] nonce of that request. -/
  nonce : Bytes
  /-- [R402] UID replies in violation so far. -/
  tries : Nat
deriving DecidableEq, Repr

/-- The running LF exchange. -/
structure LfRun where
  ex     : LfEx
  /-- [16 octets; R394] NONCE. -/
  nonce  : Bytes
  /-- [time; R394] carrier start. -/
  start  : Nat
  /-- [time] end of the downlink. -/
  dlEnd  : Nat
  /-- [1 bit; R395, R398] the carrier is on. -/
  on     : Bool
  /-- [R399; reset none] TID and C of SEG1. -/
  seg1   : Option (Nat × Nat)
  /-- [1 bit; R398; reset 0] a legacy reply is expected. -/
  legacy : Bool
  /-- [1 bit; R395; reset 0] the carrier has returned for the reply. -/
  back   : Bool
  /-- [1 bit; R390; reset 0] the drive measurement is done. -/
  meas   : Bool
  /-- [time; R389] end of the planned on-time. -/
  plan   : Nat
  /-- [octets; R394] the downlink frame. -/
  frame  : Bytes
  /-- [µs; R392] the carrier pause of each cell of each downlink frame. -/
  wave   : List (List Nat)
deriving DecidableEq, Repr

/-- Slot polling after a collision (R400, R401). -/
structure SlotPoll where
  chan : Nat
  gate : Nat
  /-- entries still to poll. -/
  left : List Nat
  done : Nat
  /-- [R614] the worker whose channel it is. -/
  node : Option Nat
  /-- [R401] keys of the ENTRY or START sessions that the request belongs to. -/
  ses  : List KeyRef
deriving DecidableEq, Repr

/-- The LF unit. -/
structure Lf where
  /-- [R388; reset empty] exchanges waiting. -/
  q    : List LfEx
  /-- [R388; reset none] the exchange running. -/
  run  : Option LfRun
  /-- [R400, R614; reset empty] slot polls under way, one per channel, gate and node. -/
  slots : List SlotPoll
  /-- [1 bit; R389; reset 0] the exchange in front has been counted as a limiter wait. -/
  waited : Bool
  /-- [R391; reset none] who runs LfDiagRun, and its channel. -/
  diag : Option (Requester × Nat)
  /-- [R391; reset none] the last exchange that a fault refused or aborted: channel, code, detail. -/
  out  : Option (Nat × Nat × Nat)
deriving DecidableEq, Repr

/-- Phase of an activation (R413 to R415). -/
inductive NfcPhase where
  | guard | wake | select | rats | pps | app | exchange
deriving DecidableEq, Repr

/-- An activation (R413 to R417). -/
structure NfcAct where
  phase   : NfcPhase
  /-- [time; R413] carrier on. -/
  start   : Nat
  /-- [time; R413] next reader command due. -/
  due     : Nat
  /-- [2 bit; R413] WUPA and WUPB sent. -/
  wupa    : Nat
  wupb    : Nat
  /-- [time; R413] first WUPA or WUPB: the trigger time of R227. -/
  trig    : Option Nat
  /-- [1 bit; R414] the reserve attempt. -/
  reserve : Bool
  /-- [1 bit; R417] started with REQA and REQB. -/
  req     : Bool
  /-- [1 bit; R408] the card is Type B. -/
  typeB   : Bool
  /-- [2 bit; R413] bit rate. -/
  rate    : Nat
  /-- [time; R415] the response is awaited since then. -/
  await   : Option Nat
  /-- [time; R416] last message exchanged. -/
  lastAt  : Nat
  /-- [R192; reset 0] step of a transfer: 0 none, 1 GET_UID sent, 2 KEY_LOAD sent. -/
  xfer    : Nat
  /-- [octets; R415] the last C-APDU. -/
  capdu   : Bytes
deriving DecidableEq, Repr

/-- One reader port (R410 to R419). -/
structure NfcPort where
  /-- [3 bit; R441; reset OFF] NfcState. -/
  st      : Nat
  /-- [R412; reset none] ping reference: amplitude and phase, 0.1 %. -/
  ref     : Option (Rat × Rat)
  /-- [R412; reset 0] last measured. -/
  lastA   : Int
  lastP   : Int
  /-- [time; R411; reset 0] last ping. -/
  pingAt  : Nat
  /-- [8 bit; R412; reset 0] consecutive false wakes. -/
  falses  : Nat
  act     : Option NfcAct
  /-- [4 bit; R417; reset 0] activations made for this detection. -/
  cards   : Nat
  /-- [time; R414, R417; reset none] when the reserve attempt or the next activation starts; the flag says reserve. -/
  next    : Option (Nat × Bool)
  /-- [16 bit; R419; reset none] result and detail with which the last activation completed, where a fault ended or refused it. -/
  out     : Option (Nat × Nat)
deriving DecidableEq, Repr

/-- The NFC reader. -/
structure Nfc where
  /-- [2; R441; reset OFF] ports A and B. -/
  ports : List NfcPort
deriving DecidableEq, Repr

/-- A flag copy or body descriptor word (R432): SEQ [63:40], LEN [35:24], ACL [23:16], CRC [15:0]. -/
structure TagFlag where
  seq : Nat
  len : Nat
  acl : Nat
  crc : Nat
deriving DecidableEq, Repr

/-- One entry of the tag area (R431, R432): records 0 to 23, NDEF at 24; its number, the flag copies A and B, the descriptors and the
bodies. -/
structure TagEnt where
  no  : Nat
  fa  : TagFlag
  fb  : TagFlag
  d0  : TagFlag
  d1  : TagFlag
  b0  : Bytes
  b1  : Bytes
deriving DecidableEq, Repr

/-- A five-step write under way (R433). -/
structure TagWrite where
  host : Option Requester
  ent  : Nat
  len  : Nat
  acl  : Nat
  data : Bytes
  /-- [1 bit] the NDEF commit: the shadow body stands already. -/
  ndef : Bool
  /-- answer of the field command to send at step 5. -/
  rsp  : Bytes
deriving DecidableEq, Repr

/-- TagState of R422. -/
inductive TagSt where
  | off | idle | ready | active | halt | recovering
deriving DecidableEq, Repr

/-- A field session (R427, R428). -/
structure TagSess where
  key  : Nat
  ks   : Bytes
  ctr  : Nat
deriving DecidableEq, Repr

/-- The Hallmark tag. -/
structure Tag where
  /-- [3 bit; R422; reset IDLE] -/
  st      : TagSt
  /-- [1 bit; R421; reset 0] a reader's field powers the FIELD domain. -/
  field   : Bool
  /-- [1 bit; R422; reset 0] READY was reached by WUPA from HALT. -/
  fromHalt : Bool
  /-- [2 bit; R423; reset 0] cascade levels selected. -/
  casc    : Nat
  /-- [1 bit; R436; reset 0] TagFieldActive. -/
  txn     : Bool
  /-- [2 bit; R424; reset 0] application selected: 0 none, 1 NDEF, 2 Hallmark. -/
  app     : Nat
  /-- [2 bit; R425; reset 0] file selected: 0 none, 1 CC, 2 NDEF. -/
  file    : Nat
  /-- [R427; reset none] RndT of an AUTH_BEGIN and its key. -/
  auth    : Option (Nat × Bytes)
  /-- [R427; reset none] -/
  sess    : Option TagSess
  /-- [128 bit; R427; reset 0; persistent] nonce count. -/
  count   : Nat
  /-- [25; R431; reset empty; persistent] records 0 to 23 and NDEF. -/
  ents    : List TagEnt
  /-- [R435; reset none; persistent] host stage: record, data, and whether VALID stands with a good CRC. -/
  stage   : Option (Nat × Bytes × Bool)
  /-- [4; R430; reset 0; persistent] TagKeyFails. -/
  fails   : List Nat
  /-- [4; R442; reset empty; persistent] tag keys. -/
  keys    : List (Option Bytes)
  /-- [8 octets; R431; reset DevSerialNumber] serial copy. -/
  serial  : Bytes
  /-- [R433; reset none] the write running. -/
  wr      : Option TagWrite
  /-- [R437; reset none] the field command deferred with S(WTX): WRITE_RECORD or READ_RECORD, record, data. -/
  defer   : Option (Bool × Nat × Bytes)
  /-- [1 bit; R439; reset 0] a TagNdefStage since the last commit. -/
  staged  : Bool
  /-- [octets; R426; reset empty] the last answer to the reader. -/
  reply   : Bytes
deriving DecidableEq, Repr

end Sys2Proof.Machine
end

