-- ==== Sys2Proof/Machine/Aes.lean ====
section
/-! DEFINITION. The AES block (FIPS 197), the one primitive of the part (12_cipher_complex.md). The spec names the standard
and does not restate it: PRESUMED, log entry 2. A key of 16, 24 or 32 octets gives AES-128, AES-192 or AES-256. -/
namespace Sys2Proof.Machine

/-- The AES substitution box: one number of 16 octets for each value of the octet's high half. -/
def sboxRows : List Nat :=
  [0x637C777BF26B6FC53001672BFED7AB76, 0xCA82C97DFA5947F0ADD4A2AF9CA472C0,
   0xB7FD9326363FF7CC34A5E5F171D83115, 0x04C723C31896059A071280E2EB27B275,
   0x09832C1A1B6E5AA0523BD6B329E32F84, 0x53D100ED20FCB15B6ACBBE394A4C58CF,
   0xD0EFAAFB434D338545F9027F503C9FA8, 0x51A3408F929D38F5BCB6DA2110FFF3D2,
   0xCD0C13EC5F974417C4A77E3D645D1973, 0x60814FDC222A908846EEB814DE5E0BDB,
   0xE0323A0A4906245CC2D3AC629195E479, 0xE7C8376D8DD54EA96C56F4EA657AAE08,
   0xBA78252E1CA6B4C6E8DD741F4BBD8B8A, 0x703EB5664803F60E613557B986C11D9E,
   0xE1F8981169D98E949B1E87E9CE5528DF, 0x8CA1890DBFE6426841992D0FB054BB16]

/-- The inverse AES substitution box: one number of 16 octets for each value of the octet's high half. -/
def isboxRows : List Nat :=
  [0x52096AD53036A538BF40A39E81F3D7FB, 0x7CE339829B2FFF87348E4344C4DEE9CB,
   0x547B9432A6C2233DEE4C950B42FAC34E, 0x082EA16628D924B2765BA2496D8BD125,
   0x72F8F66486689816D4A45CCC5D65B692, 0x6C704850FDEDB9DA5E154657A78D9D84,
   0x90D8AB008CBCD30AF7E45805B8B34506, 0xD02C1E8FCA3F0F02C1AFBD0301138A6B,
   0x3A9111414F67DCEA97F2CFCEF0B4E673, 0x96AC7422E7AD3585E2F937E81C75DF6E,
   0x47F11A711D29C5896FB7620EAA18BE1B, 0xFC563E4BC6D279209ADBC0FE78CD5AF4,
   0x1FDDA8338807C731B11210592780EC5F, 0x60517FA919B54A0D2DE57A9F93C99CEF,
   0xA0E03B4DAE2AF5B0C8EBBB3C83539961, 0x172B047EBA77D626E169146355210C7D]

/-- SubBytes of one octet. -/
def sbox (b : Byte) : Byte :=
  BitVec.ofNat 8 (sboxRows.getD (b.toNat / 16) 0 >>> (8 * (15 - b.toNat % 16)))

/-- The inverse of `sbox`. -/
def isbox (b : Byte) : Byte :=
  BitVec.ofNat 8 (isboxRows.getD (b.toNat / 16) 0 >>> (8 * (15 - b.toNat % 16)))

/-- Multiplication by x in the AES field, of an octet's value. -/
def timesX (v : Nat) : Nat := (2 * v) ^^^ (v / 128 * 0x11B)

/-- Multiplication by a constant below 16 in the AES field, of an octet's value. -/
def gmul (k v : Nat) : Nat :=
  (k % 2 * v) ^^^ (k / 2 % 2 * timesX v) ^^^ (k / 4 % 2 * timesX (timesX v)) ^^^ (k / 8 % 2 * timesX (timesX (timesX v)))

/-- The next word of the key schedule: word `i` from the word before it and the word `nk` before it. -/
def keyWord (nk i : Nat) (rcon : Byte) (prev back : Bytes) : Bytes :=
  let t :=
    if i % nk = 0 then
      match prev with
      | a :: rest => xorB ((rest ++ [a]).map sbox) [rcon, 0, 0, 0]
      | [] => []
    else if nk > 6 ∧ i % nk = 4 then prev.map sbox
    else prev
  xorB t back

/-- `n` more words of the key schedule; `ws` holds the words so far, newest first. -/
def keyWords (nk : Nat) : Nat → Nat → Byte → List Bytes → List Bytes
  | 0, _, _, ws => ws
  | n + 1, i, rcon, ws =>
    let w := keyWord nk i rcon (ws.getD 0 []) (ws.getD (nk - 1) [])
    keyWords nk n (i + 1) (if i % nk = 0 then BitVec.ofNat 8 (timesX rcon.toNat) else rcon) (w :: ws)

/-- An octet string cut into pieces of `n` octets; at most `k` pieces. -/
def chunks (n : Nat) : Nat → Bytes → List Bytes
  | 0, _ => []
  | _ + 1, [] => []
  | k + 1, bs => bs.take n :: chunks n k (bs.drop n)

/-- The 16-octet blocks of a string, the last one as short as it is. -/
def blocks (bs : Bytes) : List Bytes := chunks 16 bs.length bs

/-- The round keys of a key, first round first, 16 octets each. -/
def roundKeys (key : Bytes) : List Bytes :=
  let nk := key.length / 4
  let ws := (keyWords nk (4 * (nk + 7) - nk) nk 1 (chunks 4 nk key).reverse).reverse
  chunks 16 (nk + 7) ws.flatten

/-- ShiftRows; `step` 1 shifts left, 3 shifts right. -/
def shiftRows (step : Nat) (st : Bytes) : Bytes :=
  (List.range 16).map fun i => st.getD ((i + 4 * step * (i % 4)) % 16) 0

/-- A row of a matrix over the AES field times a column. -/
def gdot : List Nat → Bytes → Nat
  | k :: ks, b :: bs => gmul k b.toNat ^^^ gdot ks bs
  | _, _ => 0

/-- MixColumns with the matrix `m`. -/
def mixColumns (m : List (List Nat)) (st : Bytes) : Bytes :=
  ((chunks 4 4 st).map fun c => m.map fun r => BitVec.ofNat 8 (gdot r c)).flatten

/-- The matrix of MixColumns. -/
def mixRows : List (List Nat) := [[2, 3, 1, 1], [1, 2, 3, 1], [1, 1, 2, 3], [3, 1, 1, 2]]

/-- The matrix of InvMixColumns. -/
def invMixRows : List (List Nat) := [[14, 11, 13, 9], [9, 14, 11, 13], [13, 9, 14, 11], [11, 13, 9, 14]]

/-- One AES block encrypted. -/
def aesEnc (key blk : Bytes) : Bytes :=
  match roundKeys key with
  | [] => fit 16 blk
  | k0 :: ks =>
    let st := xorB (fit 16 blk) k0
    let mid := ks.dropLast.foldl (fun s k => xorB (mixColumns mixRows (shiftRows 1 (s.map sbox))) k) st
    xorB (shiftRows 1 (mid.map sbox)) (ks.getLastD [])

/-- One AES block decrypted. -/
def aesDec (key blk : Bytes) : Bytes :=
  match (roundKeys key).reverse with
  | [] => fit 16 blk
  | kl :: ks =>
    let st := (shiftRows 3 (xorB (fit 16 blk) kl)).map isbox
    let mid := ks.dropLast.foldl
      (fun s k => (shiftRows 3 (mixColumns invMixRows (xorB s k))).map isbox) st
    xorB mid (ks.getLastD [])

end Sys2Proof.Machine
end

