-- ==== Sys2Proof/Machine/Crypto.lean ====
section
/-! DEFINITION. The modes of R447, the SP 800-108 KDF of R498, the conditioner of R510 and the CTR_DRBG of R511. The spec names
their standards (SP 800-38A to 38D, SP 800-90A, SP 800-108, IEEE 1619, RFC 3394) and does not restate them: PRESUMED, log entry 2. -/
namespace Sys2Proof.Machine

/-- Doubling in GF(2^128), most significant bit first, as the CMAC subkeys use it (SP 800-38B). -/
def dbl128 (bs : Bytes) : Bytes :=
  let v := beNat bs
  toBe 16 (if v.testBit 127 then (v * 2 % 2 ^ 128) ^^^ 0x87 else v * 2)

/-- CBC-MAC chaining from `iv` over whole blocks. -/
def cbcMac (key iv : Bytes) (bs : List Bytes) : Bytes := bs.foldl (fun a b => aesEnc key (xorB a b)) iv

/-- AES-CMAC, 16 octets (SP 800-38B). -/
def cmac (key msg : Bytes) : Bytes :=
  let k1 := dbl128 (aesEnc key (zeros 16))
  let bl := blocks msg
  let last := bl.getLastD []
  let fin := if last.length = 16 then xorB last k1 else xorB (fit 16 (last ++ [0x80])) (dbl128 k1)
  cbcMac key (zeros 16) (bl.dropLast ++ [fin])

/-- The first 64 bits of AES-CMAC (R61). -/
def cmac64 (key msg : Bytes) : Bytes := (cmac key msg).take 8

/-- The SP 800-108 counter-mode KDF of R498; the result has `n` octets. -/
def kdf (key label ctx : Bytes) (n : Nat) : Bytes :=
  (((List.range ((n + 15) / 16)).map fun i =>
    cmac key (toBe 4 (i + 1) ++ label ++ [0] ++ ctx ++ toBe 4 (8 * n))).flatten).take n

/-- The octets of a short ASCII label. -/
def ascii (s : String) : Bytes := s.toList.map fun c => BitVec.ofNat 8 c.toNat

/-- ECB over whole blocks. -/
def ecb (dec : Bool) (key data : Bytes) : Bytes :=
  ((blocks data).map (if dec then aesDec key else aesEnc key)).flatten

/-- CBC encryption over whole blocks. -/
def cbcEnc (key : Bytes) : Bytes → List Bytes → Bytes
  | _, [] => []
  | iv, b :: bs => let c := aesEnc key (xorB (fit 16 b) iv); c ++ cbcEnc key c bs

/-- CBC decryption over whole blocks. -/
def cbcDec (key : Bytes) : Bytes → List Bytes → Bytes
  | _, [] => []
  | iv, c :: cs => xorB (aesDec key c) iv ++ cbcDec key c cs

/-- The counter block after `n` increments of bits [31:0], big-endian (R450). -/
def ctrBlock (ctr : Bytes) (n : Nat) : Bytes := ctr.take 12 ++ toBe 4 ((beNat (ctr.drop 12) + n) % 2 ^ 32)

/-- CTR keystream of `n` blocks from the counter block `ctr` (R450). -/
def ctrStream (key ctr : Bytes) (n : Nat) : Bytes := ((List.range n).map fun i => aesEnc key (ctrBlock ctr i)).flatten

/-- CTR of any length (SP 800-38A with the counter of R450). -/
def ctr (key iv data : Bytes) : Bytes := xorB data (ctrStream key iv ((data.length + 15) / 16))

/-- `bs` filled with zeros to whole blocks. -/
def padBlock (bs : Bytes) : Bytes := fit ((bs.length + 15) / 16 * 16) bs

/-- The CBC-MAC part of CCM (SP 800-38C): `n` the nonce, `t` the tag length. -/
def ccmMac (key n aad data : Bytes) (t : Nat) : Bytes :=
  let q := 15 - n.length
  let flags := (if aad.length = 0 then 0 else 64) + 8 * ((t - 2) / 2) + (q - 1)
  let b0 := toLe 1 flags ++ n ++ toBe q data.length
  let a := if aad.length = 0 then []
    else if aad.length < 0xFF00 then padBlock (toBe 2 aad.length ++ aad)
    else padBlock ([0xFF, 0xFE] ++ toBe 4 aad.length ++ aad)
  cbcMac key (zeros 16) (blocks (b0 ++ a ++ padBlock data))

/-- The CCM counter block `i`. -/
def ccmCtr (n : Bytes) (i : Nat) : Bytes := toLe 1 (14 - n.length) ++ n ++ toBe (15 - n.length) i

/-- The CCM keystream over `data`. -/
def ccmXor (key n data : Bytes) : Bytes :=
  xorB data (((List.range ((data.length + 15) / 16)).map fun i => aesEnc key (ccmCtr n (i + 1))).flatten)

/-- The CCM tag over plaintext `data`. -/
def ccmTag (key n aad data : Bytes) (t : Nat) : Bytes :=
  (xorB (ccmMac key n aad data t) (aesEnc key (ccmCtr n 0))).take t

/-- Multiplication in the GCM field (SP 800-38D), operands as 128-bit most-significant-first numbers. -/
def gfMul (x y : Nat) : Nat :=
  ((List.range 128).foldl
    (fun (acc : Nat × Nat) i =>
      (if x.testBit (127 - i) then acc.1 ^^^ acc.2 else acc.1,
       if acc.2.testBit 0 then (acc.2 / 2) ^^^ (0xE1 * 2 ^ 120) else acc.2 / 2)) (0, y)).1

/-- GHASH over whole blocks. -/
def ghash (h : Nat) (bs : List Bytes) : Nat := bs.foldl (fun a b => gfMul (a ^^^ beNat (fit 16 b)) h) 0

/-- The GCM tag over ciphertext `c`, with a 96-bit IV. -/
def gcmTag (key iv aad c : Bytes) (t : Nat) : Bytes :=
  let h := beNat (aesEnc key (zeros 16))
  let s := ghash h (blocks (padBlock aad ++ padBlock c ++ toBe 8 (8 * aad.length) ++ toBe 8 (8 * c.length)))
  (xorB (toBe 16 s) (aesEnc key (iv.take 12 ++ [0, 0, 0, 1]))).take t

/-- The GCM keystream over `data`. -/
def gcmXor (key iv data : Bytes) : Bytes := ctr key (iv.take 12 ++ [0, 0, 0, 2]) data

/-- Multiplication by alpha in the XTS field, least significant octet first (IEEE 1619). -/
def xtsDbl (tw : Bytes) : Bytes :=
  let v := leNat tw
  toLe 16 (if v.testBit 127 then (v * 2 % 2 ^ 128) ^^^ 0x87 else v * 2)

/-- The blocks of one XTS data unit from tweak `tw`. -/
def xtsBlocks (dec : Bool) (key : Bytes) : Bytes → List Bytes → Bytes
  | _, [] => []
  | tw, b :: bs =>
    xorB ((if dec then aesDec key else aesEnc key) (xorB (fit 16 b) tw)) tw ++ xtsBlocks dec key (xtsDbl tw) bs

/-- One XTS data unit with number `n`. -/
def xtsUnit (dec : Bool) (key key2 : Bytes) (n : Nat) (data : Bytes) : Bytes :=
  xtsBlocks dec key (aesEnc key2 (toLe 16 n)) (blocks data)

/-- Consecutive XTS data units of `sz` octets, the first numbered `n` (R451). -/
def xts (dec : Bool) (key key2 : Bytes) (sz n : Nat) (data : Bytes) : Bytes :=
  ((chunks sz data.length data).zipIdx.map fun p => xtsUnit dec key key2 (n + p.2) p.1).flatten

/-- One step of RFC 3394 wrapping: the register A, the semiblocks, and the step number. -/
def kwStep (key : Bytes) (st : Bytes × List Bytes) (t : Nat) : Bytes × List Bytes :=
  match st.2 with
  | [] => st
  | r :: rs =>
    let b := aesEnc key (st.1 ++ r)
    (xorB (b.take 8) (toBe 8 t), rs ++ [b.drop 8])

/-- The default initial value of R449. -/
def kwIv : Bytes := List.replicate 8 0xA6

/-- RFC 3394 wrap. -/
def kwWrap (key data : Bytes) : Bytes :=
  let rs := chunks 8 data.length data
  let r := (List.range (6 * rs.length)).foldl (fun st i => kwStep key st (i + 1)) (kwIv, rs)
  r.1 ++ r.2.flatten

/-- One step of RFC 3394 unwrapping. -/
def kwUnstep (key : Bytes) (st : Bytes × List Bytes) (t : Nat) : Bytes × List Bytes :=
  let b := aesDec key (xorB st.1 (toBe 8 t) ++ st.2.getLastD [])
  (b.take 8, b.drop 8 :: st.2.dropLast)

/-- RFC 3394 unwrap: the plaintext where the integrity value is good (R449). -/
def kwUnwrap (key data : Bytes) : Option Bytes :=
  match chunks 8 data.length data with
  | [] => none
  | a :: rs =>
    let n := 6 * rs.length
    let r := (List.range n).foldl (fun st i => kwUnstep key st (n - i)) (a, rs)
    if r.1 = kwIv then some r.2.flatten else none

/-- The conditioner of R510: AES-256 CBC-MAC of one block of samples. -/
def condition (key block : Bytes) : Bytes := cbcMac key (zeros 16) (blocks (padBlock block))

/-- The state of a CTR_DRBG with AES-256 (R511). -/
structure DrbgSt where
  key : Bytes
  v   : Bytes
deriving DecidableEq, Repr

/-- The 16-octet counter after `n` increments. -/
def incV (v : Bytes) (n : Nat) : Bytes := toBe 16 ((beNat v + n) % 2 ^ 128)

/-- CTR_DRBG_Update of SP 800-90A with 48 octets of provided data. -/
def drbgUpdate (d : DrbgSt) (provided : Bytes) : DrbgSt :=
  let t := xorB (aesEnc d.key (incV d.v 1) ++ aesEnc d.key (incV d.v 2) ++ aesEnc d.key (incV d.v 3)) (fit 48 provided)
  ⟨t.take 32, t.drop 32⟩

/-- Instantiation from 48 octets of entropy and a personalisation string (R511). -/
def drbgInit (entropy pers : Bytes) : DrbgSt :=
  drbgUpdate ⟨zeros 32, zeros 16⟩ (xorB (fit 48 entropy) (fit 48 pers))

/-- Reseed from 48 octets of entropy (R513). -/
def drbgReseed (d : DrbgSt) (entropy : Bytes) : DrbgSt := drbgUpdate d entropy

/-- One generate request of `n` octets (R514). -/
def drbgGen (d : DrbgSt) (n : Nat) : Bytes × DrbgSt :=
  let k := (n + 15) / 16
  let out := ((List.range k).map fun i => aesEnc d.key (incV d.v (i + 1))).flatten
  (out.take n, drbgUpdate ⟨d.key, incV d.v k⟩ (zeros 48))

/-- The longest run of equal samples in a block of bits (the repetition count test of R505). -/
def longestRun (bs : List Bool) : Nat :=
  (bs.foldl (fun (a : Nat × Nat × Option Bool) b =>
    let r := if a.2.2 = some b then a.2.1 + 1 else 1
    (max a.1 r, r, some b)) (0, 0, none)).1

/-- How often the first sample of a block occurs in it (the adaptive proportion test of R505). -/
def aptCount : List Bool → Nat
  | [] => 0
  | b :: bs => 1 + (bs.filter (· = b)).length

/-- The samples of a block of octets, least significant bit of the first octet first. -/
def sampleBits (bs : Bytes) : List Bool := (bs.map fun b => (List.range 8).map fun i => b.getLsbD i).flatten

end Sys2Proof.Machine
end

