-- ==== Sys2Proof/Machine/Parts/Crypt.lean ====
section
/-! DEFINITION. State of the cipher complex (12_cipher_complex.md), the key store and the entropy unit (13_keys_and_entropy.md). -/
namespace Sys2Proof.Machine

/-- KeyState of R520. -/
inductive SlotState where
  | empty | loaded | erasing
deriving DecidableEq, Repr

/-- One key slot (R480 to R490). -/
structure KeySlot where
  /-- [R520; reset EMPTY] -/
  st     : SlotState
  /-- [32 bit; R485; reset 0] ATTR in force, OWNER as loaded. -/
  attr   : Nat
  /-- [16 bit; R489; reset 0] version. -/
  ver    : Nat
  /-- [128, 192 or 256 bit; R485; reset empty] the key. -/
  key    : Bytes
  /-- [R520; reset 0] KeyMirror: 0 not mirrored, 1 mirrored, 2 pending. -/
  mirror : Nat
  /-- [R473; reset none] the last rewrite: its time and the key before it, which a request that captures the slot in the same CKS cycle
  still takes. -/
  prev   : Option (Nat × Bytes)
deriving DecidableEq, Repr

/-- An EMPTY slot. -/
def KeySlot.blank : KeySlot := { st := .empty, attr := 0, ver := 0, key := [], mirror := 0, prev := none }

/-- A key change waiting for the standby's acknowledgement (R501, R502). -/
structure MirrorWait where
  slot : Nat
  /-- [R501] who waits for the answer, none for the hardware itself. -/
  who  : Option Requester
  /-- the result octets of the command. -/
  res  : Bytes
  /-- [time; R502] 5 ms after the change was sent. -/
  due  : Nat
deriving DecidableEq, Repr

/-- The key store. -/
structure KeyStore where
  /-- [128; R480; reset EMPTY but slot 0, R482] slots. -/
  slots   : List KeySlot
  /-- [R500, R501; reset empty] changes waiting for the twin. -/
  waits   : List MirrorWait
  /-- [128 bit; R491, R492; reset empty; AON and eNVM] slots whose bodies the zeroize sequencer still overwrites. -/
  zeroing : List Nat
  /-- [R36, R491; reset none] who waits for KeyZeroizeAll. -/
  zeroAll : Option Requester
  /-- [R502; reset empty] slots whose zeroize still has to reach the twin. -/
  zeroTwin : List Nat
  /-- [R500; reset empty] commands that wait for another command on their slot: slot, who, object index, argument. -/
  defer   : List (Nat × Requester × Nat × Bytes)
  /-- [R494; reset empty; eNVM] slots with an uncorrectable word in a body, until the body is written again. -/
  bad     : List Nat
deriving DecidableEq, Repr

/-- A cipher request (R456) on a page. -/
structure CxReq where
  seq    : Nat
  desc   : Bytes
  /-- [R473] true once it has left the queue and captured its keys. -/
  run    : Bool
  /-- [R473; reset empty] captured keys. -/
  key    : Bytes
  key2   : Bytes
  /-- AES operations the request needs and has done (R477). -/
  total  : Nat
  done   : Nat
  /-- AES blocks of it under way in cores. -/
  busy   : Nat
  /-- the whole output, the tag, and whether the verdict is good, computed from the captured keys. -/
  out    : Bytes
  tag    : Bytes
  good   : Bool
  /-- [R466] octets standing at DST. -/
  rel    : Nat
  /-- [time; R460] when it left the queue. -/
  start  : Nat
  /-- [R467, R475; reset none] it ends for a reason other than its verdict: code and detail. -/
  fail   : Option (Nat × Nat)
  /-- [1 bit; R542] its status record is discarded. -/
  mute   : Bool
deriving DecidableEq, Repr

/-- One page of the cipher complex (R453 to R464). -/
structure CxPage where
  /-- [at most 4; R455; reset empty] requests in submission order. -/
  reqs   : List CxReq
  /-- [16 bit; R459; reset 0] submissions counted. -/
  seq    : Nat
  /-- [at most 4; R460; reset empty] unread 40-octet status records, each with its NOTIFY flag (R456). -/
  recs   : List (Bool × Bytes)
deriving DecidableEq, Repr

/-- One masked AES core (R443, R470). -/
structure CxCore where
  /-- [R445; reset none] page and SEQ of the block under way. -/
  cur    : Option (Nat × Nat)
  /-- [time; R443; reset 0] when that block ends. -/
  due    : Nat
  /-- [17 bit; R470; reset 0] blocks since the last mask seed. -/
  blocks : Nat
  /-- [256 bit; R470; reset empty] mask seed. -/
  seed   : Bytes
deriving DecidableEq, Repr

/-- The cipher complex. -/
structure Cx where
  /-- [16; R453; reset empty] pages. -/
  pages : List CxPage
  /-- [4; R443; reset idle] cores. -/
  cores : List CxCore
  /-- [R444; reset 0] round-robin pointers of classes C and D. -/
  rrC   : Nat
  rrD   : Nat
deriving DecidableEq, Repr

/-- RngSourceState of R521. -/
inductive SrcState where
  | off | settling | startup | running | restarting | failed | idle
deriving DecidableEq, Repr

/-- One entropy source under Assay (R504 to R507). -/
structure Source where
  /-- [R521; reset OFF] -/
  st     : SrcState
  /-- [3 bit; R506; reset 0] start-up blocks passed. -/
  passed : Nat
  /-- [32 bit; R507; reset empty] the last judged blocks, newest first, true = failed. -/
  hist   : List Bool
  /-- [time; R504, R507; reset 0] end of settling or restart. -/
  due    : Nat
deriving DecidableEq, Repr

/-- RngState of R521. -/
inductive RngSt where
  | starting | seeded | reseedWait | fatal
deriving DecidableEq, Repr

/-- What a waiting generate request is for (R514). -/
inductive GenUse where
  | mask (core : Nat)
  | random (who : Requester)
  | generate (who : Requester) (slot attr : Nat)
  /-- an ENROL_REQUEST of a token session, with its body. -/
  | enrol (tsh : Nat) (body : Bytes)
deriving DecidableEq, Repr

/-- The entropy unit. -/
structure Entropy where
  /-- [3; R504; reset OFF] RO, ML, RXN. -/
  srcs    : List Source
  /-- [6 x 128 bit; R510; reset empty] pool, oldest first, each with its source. -/
  pool    : List (Nat × Bytes)
  /-- [R511; reset zero] CTR_DRBG. -/
  drbg    : DrbgSt
  /-- [R521; reset STARTING] -/
  st      : RngSt
  /-- [R512; reset true] the next seed is the first after power-up or reset (not after a wake). -/
  cold    : Bool
  /-- [time; R513; reset 0] last seed. -/
  seedAt  : Nat
  /-- [21 bit; R513; reset 0] requests since the last seed. -/
  reqs    : Nat
  /-- [R514; reset empty] waiting requests in order of arrival. -/
  waiting : List (GenUse × Nat)
  /-- [model's own; R517] how many raw RO samples have been read: selects the free value. -/
  rawCnt  : Nat
deriving DecidableEq, Repr

end Sys2Proof.Machine
end

