-- ==== Sys2Proof/Machine/Parts/Eng.lean ====
section
/-! DEFINITION. State of the Chaqua engines (14_chaqua_engines.md) and of the debug port. -/
namespace Sys2Proof.Machine

/-- An octet memory (R524, R553): address and octet, addresses rising, no entry equal to zero, which an unlisted address reads
as. -/
abbrev Mem := List Host.Cell

/-- One object table entry of an image (R546). -/
structure EngObj where
  idx  : Nat
  sub  : Nat
  ty   : Nat
  len  : Nat
  addr : Nat
  acc  : Nat
  flags : Nat
deriving DecidableEq, Repr

/-- An image (R546). -/
structure Image where
  target  : Nat
  options : Nat
  version : Nat
  entry   : Nat
  code    : Bytes
  data    : Bytes
  objs    : List EngObj
deriving DecidableEq, Repr

/-- EngState of R560. -/
inductive EngSt where
  | empty | stopped | running | waiting | trapped | halted | debugHalt
deriving DecidableEq, Repr

/-- A WFE or WAITT under way (R535, R536). -/
structure EngWait where
  rd   : Nat
  mask : BitVec 32
  /-- [64 bit; R536] deadline in CYC; none for a WFE. -/
  dead : Option Nat
deriving DecidableEq, Repr

/-- A dictionary access under way (R539). -/
structure EngAcc where
  rd   : Nat
  /-- [32 bit; R539] buffer address. -/
  buf  : Nat
  /-- [2 bit; R539] 0 READ, 1 READ_RECORD, 2 WRITE, 3 EXEC. -/
  op   : Nat
  cap  : Nat
  obj  : Nat
  /-- [octets; R539] the value or argument of STO. -/
  arg  : Bytes
  /-- [R540, R541] the answer: code, detail and value, once the access has completed. -/
  rsp  : Option (Nat × Nat × Bytes)
deriving DecidableEq, Repr

/-- One engine (R522, R523). -/
structure Engine where
  /-- [3 bit; R560; reset EMPTY] EngState. -/
  st    : EngSt
  /-- [R547; reset none; persistent] the image in force. -/
  image : Option Image
  /-- [1 bit; R668; reset 0] a word of the image's slot is uncorrectable: it is invalid at its next start. -/
  bad   : Bool
  /-- [16 x 32 bit; R522; reset 0] g0 to g15. -/
  g     : List (BitVec 32)
  /-- [8 x 1 bit; R522; reset p0 true] p0 to p7. -/
  p     : List Bool
  /-- [15 bit; R522; reset 0] PC. -/
  pc    : Nat
  /-- [at most 8 x 15 bit; R522; reset empty] return stack, newest first. -/
  ret   : List Nat
  /-- [16 bit; R531; reset none] hidden repeat counter while a repetition runs. -/
  rpt   : Option Nat
  /-- [1 bit; R531; reset 0] RC was written by a repetition. -/
  rcOwn : Bool
  /-- [32 bit; R523; reset 0] MLO, MHI, RC. -/
  mlo   : BitVec 32
  mhi   : BitVec 32
  rc    : BitVec 32
  /-- [R530; reset empty] products in flight: CYC of arrival, product. -/
  mul   : List (Nat × BitVec 64)
  /-- [32 bit; R523; reset 0] latched CYC [63:32]. -/
  cych  : BitVec 32
  /-- [32 bit; R534; reset 0] EVT. -/
  evt   : BitVec 32
  /-- [32 bit; R523; reset 0] TRAPC. -/
  trapc : BitVec 32
  /-- [16 KB; R524; reset 0] data memory. -/
  data  : Mem
  /-- [32 KB; R522; reset empty] running copy of the code. -/
  code  : Bytes
  /-- [16 bit; R553; reset 0] mailbox rights in force: E_READ and E_WRITE bits, by partition. -/
  mbxR  : Nat
  mbxW  : Nat
  /-- [R535; reset none] -/
  wait  : Option EngWait
  /-- [R539; reset none] -/
  acc   : Option EngAcc
  /-- [R551; reset none] EngControl STOP waits for the access in progress; true where it is a RESTART. -/
  halt  : Option Bool
  /-- [time; R544; reset 0] watchdog restart. -/
  wdt   : Nat
  /-- [times; R545; reset empty] traps within 10 s. -/
  traps : List Nat
  /-- [time; R545; reset none] restart after a trap. -/
  again : Option Nat
  /-- [4; R554; reset empty] doorbell queue. -/
  bell  : List Nat
  /-- [8; R554; reset empty] object-write entries: index and subindex. -/
  ow    : List (Nat × Nat)
  /-- [4; R556; reset none] breakpoints. -/
  brk   : List (Option Nat)
  /-- [1 bit; R557; reset 0] a breakpoint at PC has been taken and execution passes it. -/
  pass  : Bool
deriving DecidableEq, Repr

/-- An image load (R548). -/
structure EngLoad where
  who   : Requester
  eng   : Nat
  total : Nat
  got   : Bytes
  /-- [time; R548] last command. -/
  at_   : Nat
  /-- [R549; reset none] the checked image, while it is being committed. -/
  img   : Option Image
deriving DecidableEq, Repr

/-- The debug port (R556, R557). -/
structure Dbg where
  /-- [16 octets; R556; reset none] challenge given by ID. -/
  chal  : Option Bytes
  /-- [1 bit; R557; reset 0] -/
  open_ : Bool
  /-- [2 bit; R557; reset 0] wrong UNLOCKs. -/
  wrong : Nat
  /-- [octets; R556; reset empty] the last answer: status byte, data, CRC. -/
  ans   : Bytes
deriving DecidableEq, Repr

/-- The engine unit. -/
structure Eng where
  /-- [8; R522] engines. -/
  es    : List Engine
  /-- [64 KB; R524; reset 0] shared mailbox RAM. -/
  mbx   : Mem
  /-- [R548; reset none] -/
  load  : Option EngLoad
  /-- [time; R523; reset 0] CYC counts from here. -/
  cyc0  : Nat
  dbg   : Dbg
  /-- [8 bit; R560; reset 0] GPIO input levels. -/
  gpin  : Nat
deriving DecidableEq, Repr

end Sys2Proof.Machine
end

