-- ==== Sys2Proof/Machine/Parts/Net.lean ====
section
/-! DEFINITION. State of the ports and of domain time (15_ports_and_domain_time.md). -/
namespace Sys2Proof.Machine

/-- A CAN frame to send or on the wire (R567, R569). -/
structure CanTx where
  /-- [R569] class 1 immobiliser, 2 dictionary, 3 host, 4 engine. -/
  cls   : Nat
  /-- [R579] who takes the completion record, none for the hardware. -/
  who   : Option Requester
  seq   : Nat
  fmt   : Nat
  flags : Nat
  sdt   : Nat
  id    : Nat
  af    : Nat
  vcid  : Nat
  data  : Bytes
  /-- [TIME96 in 2^-32 ns; R577] launch time, 0 for at once. -/
  time  : Nat
  /-- [time; R569] when it entered its class. -/
  at_   : Nat
deriving DecidableEq, Repr

/-- One CAN controller (R562 to R571). -/
structure CanCtl where
  /-- [3 bit; R597; reset 0 OFF] NetCanState. -/
  st     : Nat
  /-- [16 bit x 2; R597; reset 0] transmit and receive error counters. -/
  tec    : Nat
  rec_   : Nat
  /-- [16 frames; R569; reset empty] transmit queue in order of submission. -/
  q      : List CanTx
  /-- [8 frames; R577; reset empty] launch queue. -/
  launch : List CanTx
  /-- [R569; reset none] the last frame that completed on the wire. -/
  sent   : Option CanTx
deriving DecidableEq, Repr

/-- Receive queues and completion records of one requester: engines 0 to 7, then the host (R566, R575, R579). -/
structure RxQ where
  /-- [16; R566; reset empty] CAN frames, each as its descriptor of R567. -/
  can     : List Bytes
  /-- [1 bit; R566; reset 0] the next CAN frame delivered has LOST set. -/
  canLost : Bool
  /-- [16; R575; reset empty] Ethernet frames, each as its descriptor of R576. -/
  eth     : List Bytes
  /-- [1 bit; R575; reset 0] the next Ethernet frame delivered has LOST set. -/
  ethLost : Bool
  /-- [8; R579; reset empty] completion records, oldest first. -/
  done    : List Bytes
  /-- [16 bit; R579; reset 0] SEQ of the last send command. -/
  seq     : Nat
deriving DecidableEq, Repr

/-- An Ethernet frame to send (R576). -/
structure EthTx where
  /-- [R576] class 1 to 5. -/
  cls     : Nat
  who     : Option Requester
  seq     : Nat
  da      : Bytes
  etype   : Nat
  payload : Bytes
  flags   : Nat
  time    : Nat
deriving DecidableEq, Repr

/-- The ports. -/
structure Net where
  /-- [2; R562; reset OFF] CAN controllers. -/
  can      : List CanCtl
  /-- [9; R566; reset empty] queues of engines 0 to 7 and of the host. -/
  rxq      : List RxQ
  /-- [2 bit; R597; reset 0 OFF] NetT1sState. -/
  t1s      : Nat
  /-- [16; R576; reset empty] 10BASE-T1S transmit queue. -/
  eth      : List EthTx
  /-- [8; R577; reset empty] its launch queue. -/
  ethLaunch : List EthTx
  /-- [octets; R576; reset empty] the last frame sent: DA, SA, EtherType, padded payload, FCS. -/
  ethSent  : Bytes
  /-- [2 bit; R581; reset 0 DOWN] NetWlState. -/
  wl       : Nat
  /-- [R78; reset empty] Wairil frames sent, newest last: TYPE, LEN, body and CRC-32, the octets between K27.7 and K29.7. -/
  wlOut    : List Bytes
  /-- [10 bit each; R78, R580; reset empty] the 8b/10b characters of the last of them. -/
  wlLine   : List Nat
  /-- [1 bit; R580; reset negative] the sender's running disparity, true for positive. -/
  wlRd     : Bool
  /-- [R583; reset NONE] log memory found at start-up: type, JEDEC ID, KB. -/
  qsType   : Nat
  qsId     : Bytes
  qsKb     : Nat
deriving DecidableEq, Repr

/-- A stamped 802.1AS event (R590): sequence number and stamp. -/
structure Stamped where
  seq : Nat
  ts  : Nat
deriving DecidableEq, Repr

/-- The time unit (R584 to R595). Domain time in units of 2^-32 ns. -/
structure TimeU where
  /-- [96 bit and fraction; R14, R584; reset 0] domain time at `at_`. -/
  base    : Nat
  /-- [time] when `base` was the time. -/
  at_     : Nat
  /-- [32 bit; R588; reset 0] slew still to apply, 2^-32 ns. -/
  slew    : Int
  /-- [2 bit; R587; reset FREE] TimeQuality. -/
  qual    : Nat
  /-- [TIME96; R588; reset 0] held backward step. -/
  held    : Nat
  /-- [1 bit x 3; R598; reset 0] PATH_CHANGED, SOURCE_LOST, TS_SOURCE. -/
  pathChg : Bool
  srcLost : Bool
  tsSrc   : Bool
  /-- [8 bit; R587; reset 0] consecutive offsets within the threshold, or Syncs sent as grandmaster. -/
  locks   : Nat
  /-- [3 bit; R598; reset 0 DISABLED] TimePortState. -/
  port    : Nat
  /-- [time; R587; reset none] last Sync received. -/
  syncAt  : Option Nat
  /-- [R590; reset none] a Sync stamped and waiting for its Follow_Up. -/
  sync    : Option Stamped
  /-- [R592; reset none] Pdelay_Req sent: sequence number and stamp. -/
  preq    : Option Stamped
  /-- [R592; reset none] Pdelay_Resp received: t2 and its own stamp t4, waiting for its follow-up. -/
  presp   : Option (Nat × Nat)
  /-- [R592; reset empty] measurements since the path filter restarted, newest first, 0.1 ns. -/
  path    : List Nat
  /-- [1 bit; R592; reset 1] the path is settled. -/
  settled : Bool
  /-- [time; R587; reset 0] entry to HOLDOVER. -/
  holdAt  : Nat
  /-- [R590; reset empty] best announce heard: priority vector octets. -/
  best    : Bytes
  /-- [16 bit; R590; reset 0] sequence number of the last message sent. -/
  txSeq   : Nat
  /-- [times; R590; reset 0] next Sync, Pdelay_Req and Announce. -/
  syncDue : Nat
  pdDue   : Nat
  annDue  : Nat
  /-- [time; R590; reset 0] when `best` was last heard. -/
  annAt   : Nat
  /-- [time; R587, R594; reset none] last edge of a TS_IN that is a source. -/
  tsAt    : Option Nat
  /-- [model's own; R585; reset 0] how often the servo has set TimeServoCorr: selects the free value (log entry 26). -/
  servoCnt : Nat
deriving DecidableEq, Repr

/-- Stamps and pulses of the time unit (R594, R595). -/
structure TimePins where
  /-- [2 x TIME96; R594; reset 0] TimeTsInTime. -/
  tsTime  : List Nat
  /-- [2 x 40 bit; R594; reset 0] TimeTsInRcnt. -/
  tsRcnt  : List Nat
  /-- [2 bit; R594; reset 0] a stamp not yet read. -/
  unread  : List Bool
  /-- [2 bit; R594; reset 0] TimeTsInOverrun. -/
  ovr    : List Bool
  /-- [1 bit; R595; reset 0] PPS_OUT active. -/
  pps     : Bool
  /-- [time; R595; reset 0] end of the pulse. -/
  ppsDue  : Nat
  /-- [48 bit; R589; reset 0] last second signalled. -/
  ppsSec  : Nat
  /-- [48 bit; R589; reset 0] the second domain time stood in after the last step. -/
  stepSec : Nat
deriving DecidableEq, Repr

end Sys2Proof.Machine
end

