-- ==== Sys2Proof/Machine/Parts/Power.lean ====
section
/-! DEFINITION. State of power, clocks, reset, timers (17_power_clocks_timers.md) and of the background services
(18_background_and_event_log.md). -/
namespace Sys2Proof.Machine

/-- PwrStartPhase (R663). -/
inductive StartPhase where
  | loading | selftest | tinning | ready | held
deriving DecidableEq, Repr

/-- Power, clocks and reset. -/
structure Pwr where
  /-- [3 bit; R663; reset LOADING] PwrStartPhase. -/
  phase    : StartPhase
  /-- [1 bit; R19; reset 1] CORE is powered. -/
  core     : Bool
  /-- [1 bit; R647; reset 1] a reset is held: nothing runs until RESET_RELEASE. -/
  held     : Bool
  /-- [1 bit; R639; reset 0] the part is in SHUTDOWN. -/
  shut     : Bool
  /-- [time; R639; reset none] CORE powers down for SHUTDOWN then. -/
  shutDue  : Option Nat
  /-- [1 bit x 4; R19, R634; reset VAON, VSUP present, VLF, VNFC present] rails. -/
  vaon     : Bool
  vsup     : Bool
  /-- [1 bit; R643; reset 0] PLL_LOCKED. -/
  pll      : Bool
  /-- [time; R643; reset none] when lock was lost. -/
  lostAt   : Option Nat
  /-- [1 bit; R644; reset 0] REF_OK: the reference monitor has passed. -/
  refOk    : Bool
  /-- [1 bit; R645; reset 1] SLOW_RC: the slow clock is the internal RC. -/
  slowRc   : Bool
  /-- [1 bit; R645; reset 0] XTAL_FAIL. -/
  xtalFail : Bool
  /-- [1 bit; R645; reset 0] the crystal may not be tried again until the next reset. -/
  xtalDone : Bool
  /-- [8 bit; R647; reset 0x00 POR] PwrResetCause. -/
  cause    : Nat
  /-- [1 bit; R648; reset 1] the reset was cold. -/
  cold     : Bool
  /-- [time; R651; reset 0] reset release. -/
  relAt    : Nat
  /-- [time; R22; reset 0] RCNT counts from here: CORE start. -/
  rcntAt   : Nat
  /-- [time; R650; reset 0] last watchdog restart. -/
  wdtAt    : Nat
  /-- [time; R636; reset none] since when all idle conditions hold. -/
  idleAt   : Option Nat
  /-- [time; R641; reset none] CORE powered down then. -/
  downAt   : Option Nat
  /-- [time; R643; reset none] end of the reference monitor's window after a wake. -/
  monDue   : Option Nat
  /-- [16 bit; R641; reset 0; AON] wake sources pending. -/
  wakes    : Nat
  /-- [1; R651; reset false] step 12 of the start-up has been reached: ports are enabled and every unit is started. -/
  unitsUp  : Bool
deriving DecidableEq, Repr

/-- One timer channel (R653 to R661). -/
structure Tmr where
  /-- [32 bit; R653; reset 0] TmrCtrl but for RUN. -/
  ctrl   : Nat
  /-- [1 bit; R653; reset 0] RUN. -/
  run    : Bool
  /-- [32 bit; R655; reset 0] count at time `at_` (held value while RUN is 0). -/
  base   : Nat
  /-- [time; R655; reset 0] when `base` was the count. -/
  at_    : Nat
  /-- [1 bit; R657; reset 1] waveform class: counting up at `at_`. -/
  up     : Bool
  /-- [32 bit; R664; reset 0xFFFF_FFFF or 998] END or TOP in force. -/
  end_   : Nat
  /-- [16 bit; R658; reset none] pending TOP. -/
  pend   : Option Nat
  /-- [32 bit; R664; reset 0xFFFF_FFFF or 0] CMP or CMPA. -/
  cmp    : Nat
  /-- [16 bit; R664; reset 0] CMPB. -/
  cmpB   : Nat
  /-- [1 bit; R656; reset 0] CMP is still to match in this run. -/
  armed  : Bool
  /-- [32 bit; R659; reset 0] TmrCapture. -/
  cap    : Nat
  /-- [R659; reset none] the last capture: the CKS cycle in which it is latched, TmrCapture and TmrStatus before it. -/
  capWas : Option (Nat × Nat × Nat)
  /-- [16 bit; R664; reset 0] TmrStatus. -/
  stat   : Nat
  /-- [16 bit; R660; reset 0] TmrEventMask. -/
  mask   : Nat
deriving DecidableEq, Repr

/-- Background services (R665 to R674). -/
structure Bg where
  /-- [18 bit; R667; reset 0] next word to scrub. -/
  pos     : Nat
  /-- [time; R667; reset 0] start of the scrub pass. -/
  passAt  : Nat
  /-- [10 s of samples; R672; reset empty] power samples, newest first, mW. -/
  power   : List Nat
  /-- [3 bit; R672; reset NONE] stage. -/
  stage   : Nat
  /-- [time; R673; reset none] since when the stage's condition has been absent. -/
  calmAt  : Option Nat
  /-- [8 bit; R674; reset 0] telemetry frames sent. -/
  canCnt  : Nat
  /-- [time; R674; reset 0] next telemetry frame. -/
  canDue  : Nat
  /-- [time; R670; reset 0] next Anneal evaluation. -/
  annealDue : Nat
deriving DecidableEq, Repr

end Sys2Proof.Machine
end

