-- ==== Sys2Proof/Machine/Parts/Rf.lean ====
section
/-! DEFINITION. State of the UWB unit (07_uwb_ranging.md) and of radio control (08_radio_control.md). -/
namespace Sys2Proof.Machine

/-- An evidence item as delivered (R203). -/
structure Item where
  kind  : Nat
  src   : Nat
  src2  : Nat
  flags : Nat
  tsh   : Nat
  round : Nat
  age   : Nat
  qual  : Nat
  rsvd  : Nat
  value : Int
deriving DecidableEq, Repr

/-- A UWB session (R285). -/
structure UwbSess where
  tsh   : Nat
  sid   : Nat
  /-- CHANNEL, STS_CFG, PRF, RATE, PREAMBLE_CODE, PREAMBLE_LEN -/
  phy   : List Nat
  addr  : Nat
  slots : Nat
  /-- [16 bit; R285] BLOCK_MS. -/
  block : Nat
  idx0  : Nat
  /-- [8 bit; R163, R484] RANGING-page slot of K_sts. -/
  slotKey : Nat
  /-- [time; R287] first block start. -/
  first : Nat
  /-- [8 bit; R294; reset 0] consecutive missed in-block rounds. -/
  miss  : Nat
deriving DecidableEq, Repr

/-- The keys of one round (R281, R283). -/
structure RoundKeys where
  krnd  : Bytes
  kmic  : Bytes
  vup   : Bytes
  ksy   : Bytes
  ksymic : Bytes
deriving DecidableEq, Repr

/-- A reception of the phone's RESPONSE or BLINK (R301, R302). -/
structure Heard where
  ts    : Nat
  snr   : Nat
  ok    : Bool
  early : Bool
deriving DecidableEq, Repr

/-- A time record of R611. -/
structure TimeRec where
  from_ : Nat
  snr   : Nat
  check : Nat
  ts    : Nat
deriving DecidableEq, Repr

/-- A round, planned or on air (R288, R609). -/
structure Round where
  num    : Nat
  tsh    : Nat
  /-- [2 bit; R292] 0 out-of-block, 1 in-block, 2 sync; 3 a plan received from the manager. -/
  cls    : Nat
  /-- [2 bit; R609] 0 DS-TWR, 1 SS-TWR, 2 TDOA, 3 SYNC only. -/
  mode   : Nat
  opp    : Nat
  /-- [time; R287] opportunity start. -/
  at_    : Nat
  /-- anchors in ascending node number; known to the manager. -/
  anchors : List Nat
  /-- this anchor's index i, none where it takes no part. -/
  ix     : Option Nat
  n      : Nat
  s_     : Nat
  /-- [time; R289] slot length. -/
  slot   : Nat
  sid    : Nat
  addr   : Nat
  phy    : List Nat
  idx0   : Nat
  keys   : RoundKeys
  /-- [R610; reset empty] RANGING-page slots that hold the round keys of a plan received. -/
  kslots : List Nat
  /-- [R234] requests whose demand it serves. -/
  served : List (Nat × Nat)
  /-- [time; R292] the last opportunity start it may take. -/
  latest : Nat
  /-- slots sent with their TS42. -/
  sent   : List (Nat × Nat)
  resp   : Option Heard
  /-- [R304] the RESPONSE's carrier offset, for SS-TWR. -/
  cfo    : Int
  /-- [R310] items and time records made here, waiting for the REPORT. -/
  items  : List Item
  recs   : List TimeRec
deriving DecidableEq, Repr

/-- A launched round whose items and time records are still being collected by the manager (R294, R309, R616). -/
structure Await where
  num    : Nat
  tsh    : Nat
  inBlock : Bool
  /-- anchors whose REPORT is awaited. -/
  left   : List Nat
  /-- [R294] an item of it has been made. -/
  made   : Bool
  /-- [R294] its outcome has been counted. -/
  counted : Bool
  /-- SYNC transmit stamps by node. -/
  txs    : List (Nat × Nat)
  /-- SYNC receptions without a known transmit stamp: receiver, sender, receive stamp. -/
  open_  : List (Nat × Nat × Nat)
  /-- BLINK arrivals by node. -/
  blinks : List (Nat × Heard)
deriving DecidableEq, Repr

/-- An auxiliary request (R312 to R314). -/
structure Aux where
  who  : Requester
  /-- transmit: the PSDU and LATE_OK; receive: the window in µs. -/
  tx   : Option (Bytes × Bool)
  /-- launch or opening RCNT. -/
  rcnt : Nat
  /-- [time] launch or opening. -/
  at_  : Nat
  dur  : Nat
deriving DecidableEq, Repr

/-- A UWB frame that left this device (R280, R297). -/
structure UwbOut where
  slot  : Nat
  port  : Nat
  power : Nat
  psdu  : Bytes
  /-- [R282, R283] the STS key stream, empty for an SP0 frame. -/
  sts   : Bytes
  ts    : Nat
deriving DecidableEq, Repr

/-- The UWB unit. -/
structure Uwb where
  /-- [R285; reset empty] UWB sessions. -/
  sess   : List UwbSess
  /-- [R291 to R293; reset empty] rounds planned and not launched. -/
  plan   : List Round
  /-- [R292; reset none] the round on air. -/
  air    : Option Round
  /-- [R294; reset empty] launched rounds whose outcome is being collected. -/
  await  : List Await
  /-- [16 bit; R609; reset 1] next round number. -/
  next   : Nat
  /-- [time; R293; reset none] last launch of any round. -/
  launchedAt : Option Nat
  /-- [R312 to R314; reset empty] auxiliary requests in order of time. -/
  aux    : List Aux
  /-- [R280; reset none] the last frame sent. -/
  out    : Option UwbOut
  /-- [0.25 dB; R346; reset empty] level at the antenna of the last packet from each sender, by short address. -/
  lvls   : List (Nat × Int)
deriving DecidableEq, Repr

/-- RfcUwbState and RfcBleState (R317). -/
inductive XcState where
  | off | idle | settling | ready | tx | rx | cal
deriving DecidableEq, Repr

/-- What a request for a transceiver is for (R320, R322). -/
inductive XcUse where
  /-- a request of its own, with its requester where it has one. -/
  | asked (who : Option Requester)
  /-- slot `s` of round `num`. -/
  | slot (num s : Nat)
  /-- an auxiliary frame or window of a requester. -/
  | aux (who : Requester)
  /-- the next event of a connection. -/
  | event (c : Nat)
  /-- the next advertising event. -/
  | adv
deriving DecidableEq, Repr

/-- What asks for a transceiver (R322 to R324). -/
structure XcReq where
  /-- [R322] 1 decision path, 2 host, 3 engine. -/
  cls   : Nat
  tx    : Bool
  /-- [time] launch, or opening of a window; none for an untimed request. -/
  time  : Option Nat
  /-- [time; R323] the original end of a window. -/
  fin   : Option Nat
  /-- channel 5 or 9, or a 2.4 GHz channel number. -/
  chan  : Nat
  /-- [R324] LATE_OK, for an auxiliary frame. -/
  lateOk : Bool
  use   : XcUse
  /-- [R346] the short address of the UWB sender a window is for. -/
  peer  : Option Nat
deriving DecidableEq, Repr

/-- One transceiver (R317 to R332). -/
structure Xcvr where
  /-- [3 bit; R317; reset OFF] -/
  st     : XcState
  /-- [R318; reset 0] the channel the synthesiser locks to. -/
  chan   : Nat
  /-- [time; R318; reset 0] entry to the state. -/
  since  : Nat
  /-- [1 bit; R326; reset 0] the lock attempt is the second. -/
  retry  : Bool
  /-- [1 bit; R320, R321; reset 0] the RX window was opened by RfcAutoReturn. -/
  auto   : Bool
  /-- [R322; reset empty] requests queued, in order of service. -/
  q      : List XcReq
  /-- [R329; reset empty] calibrations due. -/
  cals   : List CalJob
  /-- [1 bit; R331; reset 0] they are forced. -/
  forced : Bool
  /-- [time; R329; reset none] RfcCalRun's set becomes forced then. -/
  forceAt : Option Nat
  /-- [R325; reset none] the calibration running and its end. -/
  run    : Option (CalJob × Nat)
  /-- [R329; reset 0] a full set runs: T_last is taken at its end. -/
  full   : Bool
  /-- [time; R329; reset 0] end of the last DCO calibration. -/
  dcoAt  : Nat
  /-- [times; R343, R344; reset none] packet or window under way: start and end, end none while open. -/
  pkt    : Option (Nat × Option Nat)
  /-- [1 bit, time; R343, R344; reset none] the last packet or window that ended: transmitted, and its end. -/
  last   : Option (Bool × Nat)
  /-- [1 bit; R346; reset 0] the packet or window under way is received through the module's bypass. -/
  byp    : Bool
deriving DecidableEq, Repr

/-- A RfcCalRun that runs (R351). -/
structure CalCmd where
  who : Requester
  arg : Nat
  /-- failed calibration bits so far. -/
  bad : Nat
deriving DecidableEq, Repr

/-- Radio control. -/
structure Rfc where
  uwb  : Xcvr
  ble  : Xcvr
  /-- [list; R334, R351; reset empty] the RfcCalRun commands that run, each on transceivers of its own. -/
  cmds : List CalCmd
  /-- [2 x 1 bit; R335; reset 0] second port of the pair used for each UWB chain's last frame. -/
  ant  : List Bool
deriving DecidableEq, Repr

end Sys2Proof.Machine
end

