-- ==== Sys2Proof/Machine/Parts/Seg.lean ====
section
/-! DEFINITION. State of the segment and of the twin pair (16_segments_and_twin.md). -/
namespace Sys2Proof.Machine

/-- SegRole (R601). -/
inductive SegRole where
  | starting | manager | standby | worker | isolated
deriving DecidableEq, Repr

/-- TwinState (R633). -/
inductive TwinState where
  | none_ | electing | tinning | paired | t1sOnly | suspect | solo | isolated
deriving DecidableEq, Repr

/-- What a twin knows of one node (R605 to R608, R616, R617). -/
structure WNode where
  /-- [128 bit; R605; reset none] K_ws of the session in use. -/
  kws     : Option Bytes
  /-- [128 bit; R605; reset none] K_ws of a JOIN answered, until its first frame verifies. -/
  kNew    : Option Bytes
  /-- [32 bit; R604; reset 0] FCNT accepted under the session in use. -/
  rx      : Nat
  /-- [16 octets; R605; reset empty] nonce NONCE_T given in the last JOIN_ACK. -/
  nonceT  : Bytes
  /-- [1 bit; R606; reset 0] a PRESENCE has verified and is not overdue. -/
  online  : Bool
  /-- [1 bit; R606; reset 0] LOST. -/
  lost    : Bool
  /-- [times; R606, R608; reset none] last PRESENCE. -/
  seen    : Option Nat
  /-- [8 bit; R607; reset 0xFF] MGR of it. -/
  mgr     : Nat
  /-- [1 bit; R607; reset 0] TIME_LOCKED of it. -/
  locked  : Bool
  /-- [1 bit; R607; reset 0] TOUCHED of it. -/
  touched : Bool
  /-- [R616; reset 0] OFF, RATE and T of the offset model, units of 3.9125 ps. -/
  off     : Rat
  rate    : Rat
  tref    : Nat
  /-- [time; R616; reset none] last observation. -/
  obsAt   : Option Nat
  /-- [8; R617; reset empty] last residuals, newest first. -/
  resid   : List Rat
deriving DecidableEq, Repr

/-- A twin or single manager as a worker sees it (R605, R607). -/
structure MgrLink where
  /-- [128 bit; R605; reset none] K_ws with that node. -/
  kws   : Option Bytes
  /-- [32 bit; R604; reset 0] FCNT accepted under K_ws. -/
  rx    : Nat
  /-- [16 octets; R605; reset none] NONCE_W of a JOIN not yet answered. -/
  join  : Option Bytes
  /-- [time; R605; reset 0] when the JOIN is repeated. -/
  due   : Nat
  /-- [time; R607; reset none] last MANAGER HEARTBEAT accepted from it. -/
  beat  : Option Nat
  /-- [32 bit; R607; reset 0] EPOCH of it. -/
  epoch : Nat
  /-- [32 bit; R604; reset 0] FCNT accepted from it under K_bc. -/
  bc    : Nat
deriving DecidableEq, Repr

/-- A COMMIT awaiting its acknowledgement (R624). -/
structure CommitOut where
  cseq : Nat
  body : Bytes
  due  : Nat
deriving DecidableEq, Repr

/-- An LF_REQUEST sent to a worker and unanswered (R613). -/
structure LfOut where
  req   : Nat
  node  : Nat
  chan  : Nat
  gate  : Nat
  nonce : Bytes
  start : Nat
deriving DecidableEq, Repr

/-- The segment unit. -/
structure Seg where
  /-- [3 bit; R601; reset STARTING] SegRole. -/
  role    : SegRole
  /-- [4 bit; R600; reset 2] node number in force. -/
  node    : Nat
  /-- [8 bit; R599; reset 0] segment number in force. -/
  segNo   : Nat
  /-- [2 bit; R600; reset 0] SegRoleCfg taken at the last reset. -/
  cfg     : Nat
  /-- [1 bit; R582; reset 0] TWIN_ID at the last reset. -/
  twinId  : Bool
  /-- [32 bit; R604; reset 0] FCNT of the last segment frame sent. -/
  tx      : Nat
  /-- [16; R605, R606; reset unknown] the nodes. -/
  nodes   : List WNode
  /-- [2; R605, R607; reset none] worker's view of nodes 0 and 1. -/
  mgrs    : List MgrLink
  /-- [128 bit; R603; reset empty] K_bc. -/
  kbc     : Bytes
  /-- [32 bit; R604; reset 0] FCNT accepted from the peer under K_bc. -/
  bcRx    : Nat
  /-- [time; R607; reset 0] next PRESENCE or HEARTBEAT on 10BASE-T1S. -/
  beatDue : Nat
  /-- [16 bit; R613; reset 0] REQ of the last LF_REQUEST. -/
  lfReq   : Nat
  /-- [R613; reset empty] LF_REQUESTs sent and unanswered. -/
  lfOut   : List LfOut
deriving DecidableEq, Repr

/-- The twin unit. -/
structure Twin where
  /-- [R633; reset NONE] TwinState. -/
  st      : TwinState
  /-- [32 bit; R619; reset 0; persistent] TwinEpoch. -/
  epoch   : Nat
  /-- [8 bit; R633; reset 0xFF] TwinPeerRole. -/
  peerRole : Nat
  /-- [32 bit; R618; reset 0] peer's EPOCH and JSEQ. -/
  peerEpoch : Nat
  peerJseq  : Nat
  /-- [ENUM; R618; reset 0] peer's TSTATE. -/
  peerSt  : Nat
  /-- [times; R625; reset none] last HEARTBEAT of the peer on the Wairil link and on 10BASE-T1S. -/
  wlBeat  : Option Nat
  t1sBeat : Option Nat
  /-- [32 bit; R604; reset 0] FCNT accepted from the peer under K_tw. -/
  rx      : Nat
  /-- [time; R618; reset 0] next HEARTBEAT on the Wairil link. -/
  wlDue   : Nat
  /-- [time; R626; reset none] when the T1S path was lost. -/
  susAt   : Option Nat
  /-- [time; R626; reset 0] the majority that promoted it counts as witness until then. -/
  grace   : Nat
  /-- [time; R626; reset 0] entry to SUSPECT. -/
  since   : Nat
  /-- [1 bit; R626; reset 0] it has been witnessed since it became SOLO or was promoted. -/
  wit     : Bool
  /-- [32 bit; R623; reset 0] CSEQ of the last COMMIT sent. -/
  cseq    : Nat
  /-- [R624; reset empty] COMMITs unacknowledged. -/
  commits : List CommitOut
  /-- [16; R624; reset empty] the last COMMITs this standby acknowledged, newest first: CSEQ and acknowledgement body. -/
  acked   : List (Nat × Bytes)
  /-- [R150, R624; reset empty] COMMITs whose record this standby is writing: CSEQ, key (none for the floor), value. -/
  ackWait : List (Nat × Option KeyRef × Nat)
  /-- [9 bit; R621; reset 0] areas of the running Tinning that still differ. -/
  diff    : List Nat
  /-- [32 bit; R621; reset 0] GEN of the last TIN_DIGEST. -/
  gen     : Nat
  /-- [time; R621; reset 0] next Tinning. -/
  tinDue  : Nat
  /-- [R621; reset empty] area data being received: area and octets. -/
  rxArea  : List (Nat × Bytes)
  /-- [time; R620; reset none] end of the 20 ms (40 ms for node 1) wait at start-up. -/
  electDue : Option Nat
deriving DecidableEq, Repr

end Sys2Proof.Machine
end

