-- ==== Sys2Proof/Machine/State.lean ====
section
/-! DEFINITION. The whole state of the block, as plain data, and the state right after a cold reset. -/
namespace Sys2Proof.Machine

/-- Why the machine stops with a fault: no meaning of this model raises one, so the type has the one constructor that the
empty interface needs and nobody raises it (safe). -/
inductive Fault where
  /-- Raised by nobody; safe. -/
  | unreachable
deriving DecidableEq, Repr

/-- Why a command is refused. -/
inductive Refusal where
  /-- Raised by exec for a command whose meaning is not written yet; safe. -/
  | notModelled (mnemonic : String)
deriving DecidableEq, Repr

/-- The state of the part. Time is counted in units of 1/2496 µs (log entry 1). -/
structure State where
  /-- [time; log 1; reset 0] the present time. -/
  now     : Nat
  /-- [model's own; reset empty] the commands waiting, first in first out. -/
  pending : List Sys2Proof.Instr
  fuse    : Fuses
  /-- [R10, R46; reset every object at its default] the registers of the dictionary that have no home below: dictionary key
  (index * 256 + sub) and value, keys rising, no entry equal to the object's default but for the three of `followsRole`. -/
  reg     : List (Nat × Nat)
  /-- [R39; reset empty] pending values of NEXT objects, by dictionary key, keys rising. -/
  pend    : List (Nat × Nat)
  dict    : Dict
  log     : EventLog
  keys    : KeyStore
  cx      : Cx
  rng     : Entropy
  acc     : Acc
  ts      : Ts
  gate    : Gate
  seg     : Seg
  twin    : Twin
  pwr     : Pwr
  /-- [12; R653; reset stopped] the timer channels. -/
  tmr     : List Tmr
  bg      : Bg
  eng     : Eng
  uwb     : Uwb
  rfc     : Rfc
  ble     : Ble
  cap     : Cap
  lf      : Lf
  nfc     : Nfc
  tag     : Tag
  net     : Net
  time    : TimeU
  tpins   : TimePins
deriving DecidableEq, Repr

/-- The fuses of the modelled part (log entry 3). -/
def Fuses.reset : Fuses :=
  { variant := .gz4880, silicon := 0x01, serial := [0x4E, 0x88, 0x30, 0x11, 0x07, 0xC2, 0x5A, 0x19],
    uid := List.replicate 7 0, condKey := List.replicate 32 0, tagKey := List.replicate 16 0, trims := [] }

def SpiPort.reset : SpiPort := ⟨false, false, false, none, false, none, []⟩
def NetSess.reset : NetSess := ⟨.free, 0, .can 0 false, [], [], [], 0, 0, 0, []⟩
def Dict.reset : Dict :=
  { spi := .reset, subs := [], ntfs := List.replicate 5 ⟨0, [], []⟩, net := List.replicate 3 .reset,
    guards := List.replicate 8 ⟨[], none⟩, twinReqs := [], twinRx := 0, twinTx := 0, reasm := [none, none],
    v1 := ⟨none, none, ⟨[], none⟩⟩, commit := none, bankA := [], bankB := [], bankCur := false, selfTest := none,
    resetDue := none, resetMsg := none, last := none, direct := [], idleWait := [], done := [] }
def EventLog.reset : EventLog := ⟨1, [], [], [], 0, none, none, [], none, 0, 0, (0, 1)⟩
/-- Slot 0 holds the factory key DTK (R482), here 32 octets of zero (log entry 3): KIND 0xF, OWNER 4, LEN 256, WRAPKEY. -/
def KeyStore.reset : KeyStore :=
  { slots := ⟨.loaded, 0x00F48010, 0, List.replicate 32 0, 0, none⟩ :: List.replicate 127 KeySlot.blank,
    waits := [], zeroing := [], zeroAll := none, zeroTwin := [], defer := [], bad := [] }
def Cx.reset : Cx := ⟨List.replicate 16 ⟨[], 0, []⟩, List.replicate 4 ⟨none, 0, 0, []⟩, 0, 0⟩
def Entropy.reset : Entropy :=
  { srcs := List.replicate 3 ⟨.off, 0, [], 0⟩, pool := [], drbg := ⟨List.replicate 32 0, List.replicate 16 0⟩,
    st := .starting, cold := true, seedAt := 0, reqs := 0, waiting := [], rawCnt := 0 }
def TokEntry.reset : TokEntry := ⟨0, 0, 0, 0xFFFF, 0, 0, 0, ⟨0, 0, none, false⟩⟩
def Journal.reset : Journal :=
  { a := ⟨1, 1, true, []⟩, b := ⟨0, 1, false, []⟩, bAct := false, st := .normal, writes := [], copied := none, hold := false,
    waiting := [] }
def Acc.reset : Acc :=
  { toks := List.replicate 64 .reset, cache := [], revoked := [], vclk := ⟨0, 0, 0, 0, 0, false, 0⟩, jr := .reset, adv := [],
    nonces := [], ses := List.replicate 16 none, tshNext := 1, entry := [], start := [], drive := none, fails := [],
    ifs := List.replicate 7 ⟨[], none⟩, code := ⟨[], none⟩, learn := none, refused := [], tx := [], commitUs := 0, doors := 0 }
def TsTable.reset : TsTable :=
  ⟨0, 150, 2000, 20, List.replicate 4 (0, 250, 1), List.replicate 16 (false, List.replicate 8 0)⟩
def Ts.reset : Ts := ⟨.reset, [], [], [], [], [], 0, 0, []⟩
def Gate.reset : Gate :=
  { a := List.replicate 3 ⟨false, 0⟩, b := List.replicate 3 ⟨false, 0⟩, dead := [none, none], relock := false, startEn := false, startAt := 0,
    hist := [[], [], []], fault := List.replicate 4 false, mism := List.replicate 4 0, chg := List.replicate 4 0,
    closeAt := List.replicate 4 none, seq := 0, immo := ⟨none, 0, 0, [], none⟩, onTimes := [],
    hold := List.replicate 8 none, quench := false, vio := true }
def WNode.reset : WNode :=
  ⟨none, none, 0, [], false, false, none, 0xFF, false, false, 0, 0, 0, none, []⟩
def Seg.reset : Seg :=
  { role := .starting, node := 2, segNo := 0, cfg := 0, twinId := false, tx := 0, nodes := List.replicate 16 .reset,
    mgrs := List.replicate 2 ⟨none, 0, none, 0, none, 0, 0⟩, kbc := [], bcRx := 0, beatDue := 0, lfReq := 0, lfOut := [] }
def Twin.reset : Twin :=
  { st := .none_, epoch := 0, peerRole := 0xFF, peerEpoch := 0, peerJseq := 0, peerSt := 0, wlBeat := none, t1sBeat := none,
    rx := 0, wlDue := 0, susAt := none, grace := 0, since := 0, wit := false, cseq := 0, commits := [], acked := [], ackWait := [], diff := [], gen := 0,
    tinDue := 0, rxArea := [], electDue := none }
def Pwr.reset : Pwr :=
  { phase := .loading, core := true, held := true, shut := false, shutDue := none, vaon := true, vsup := true, pll := false,
    lostAt := none, refOk := false, slowRc := true, xtalFail := false, xtalDone := false, cause := 0, cold := true, relAt := 0,
    rcntAt := 0, wdtAt := 0, idleAt := none, downAt := none, monDue := none, wakes := 0, unitsUp := false }
def Tmr.reset (n : Nat) : Tmr :=
  { ctrl := 0, run := false, base := 0, at_ := 0, up := true, end_ := if n < 8 then 0xFFFFFFFF else 998, pend := none,
    cmp := if n < 8 then 0xFFFFFFFF else 0, cmpB := 0, armed := false, cap := 0, capWas := none, stat := 0, mask := 0 }
def Bg.reset : Bg := ⟨0, 0, [], 0, none, 0, 0, 0⟩
def Engine.reset : Engine :=
  { st := .empty, image := none, bad := false, g := List.replicate 16 0, p := true :: List.replicate 7 false, pc := 0, ret := [], rpt := none,
    rcOwn := false, mlo := 0, mhi := 0, rc := 0, mul := [], cych := 0, evt := 0, trapc := 0, data := [], code := [], mbxR := 0,
    mbxW := 0, wait := none, acc := none, halt := none, wdt := 0, traps := [], again := none, bell := [], ow := [],
    brk := List.replicate 4 none, pass := false }
def Eng.reset : Eng := ⟨List.replicate 8 .reset, [], none, 0, ⟨none, false, 0, []⟩, 0⟩
def Uwb.reset : Uwb := ⟨[], [], none, [], 1, none, [], none, []⟩
def Xcvr.reset : Xcvr := ⟨.off, 0, 0, false, false, [], [], false, none, none, false, 0, none, none, false⟩
def Rfc.reset : Rfc := ⟨.reset, .reset, [], [false, false]⟩
def Ble.reset : Ble :=
  ⟨List.replicate 8 none, List.replicate 16 ⟨0xFF, [], [], false⟩, none, none, 0, false, none, .none_, none⟩
def Cap.reset : Cap := ⟨List.replicate 4 ⟨0, none, false, 0, 0, 0, false⟩, 0, [], false, []⟩
def Lf.reset : Lf := ⟨[], none, [], false, none, none⟩
def Nfc.reset : Nfc := ⟨List.replicate 2 ⟨0, none, 0, 0, 0, 0, none, 0, none, none⟩⟩
/-- A factory-new tag entry: both flag copies and both descriptors hold SEQ 0 and LEN 0. -/
def TagEnt.reset (no acl : Nat) : TagEnt :=
  let f : TagFlag := ⟨0, 0, acl, tagCrc 0 0 acl [BitVec.ofNat 8 no]⟩
  ⟨no, f, f, { f with crc := tagCrc 0 0 acl [BitVec.ofNat 8 no, 0] }, { f with crc := tagCrc 0 0 acl [BitVec.ofNat 8 no, 1] }, [], []⟩
def Tag.reset : Tag :=
  { st := .idle, field := false, fromHalt := false, casc := 0, txn := false, app := 0, file := 0, auth := none, sess := none,
    count := 0, ents := (List.range 24).map (fun n => .reset n 0xFF) ++ [.reset 24 0], stage := none, fails := [0, 0, 0, 0],
    keys := [none, none, none, none], serial := Fuses.reset.serial, wr := none, defer := none, staged := false, reply := [] }
def CanCtl.reset : CanCtl := ⟨0, 0, 0, [], [], none⟩
def Net.reset : Net :=
  { can := [.reset, .reset], rxq := List.replicate 9 ⟨[], false, [], false, [], 0⟩, t1s := 0, eth := [], ethLaunch := [],
    ethSent := [], wl := 0, wlOut := [], wlLine := [], wlRd := false, qsType := 0, qsId := [], qsKb := 0 }
def TimeU.reset : TimeU :=
  { base := 0, at_ := 0, slew := 0, qual := 0, held := 0, pathChg := false, srcLost := false, tsSrc := false, locks := 0,
    port := 0, syncAt := none, sync := none, preq := none, presp := none, path := [], settled := true, holdAt := 0, best := [],
    txSeq := 0, syncDue := 0, pdDue := 0, annDue := 0, annAt := 0, tsAt := none, servoCnt := 0 }
def TimePins.reset : TimePins := ⟨[0, 0], [0, 0], [false, false], [false, false], false, 0, 0, 0⟩

/-- The part right after a cold reset (R46, R647, R651): every register at its default, nothing stored, every output at its
reset state. Values the spec does not state are those of log entry 3 and 4. -/
def State.reset : State :=
  { now := 0, pending := [], fuse := .reset, reg := [], pend := [], dict := .reset, log := .reset, keys := .reset, cx := .reset,
    rng := .reset, acc := .reset, ts := .reset, gate := .reset, seg := .reset, twin := .reset, pwr := .reset,
    tmr := (List.range 12).map Tmr.reset, bg := .reset, eng := .reset, uwb := .reset, rfc := .reset, ble := .reset,
    cap := .reset, lf := .reset, nfc := .reset, tag := .reset, net := .reset, time := .reset, tpins := .reset }

end Sys2Proof.Machine
end

