-- ==== Sys2Proof/Machine/Reg.lean ====
section
/-! DEFINITION. The registers of the dictionary: canonical association lists, the default of every object, and the one pair
of operations that reads and writes a register without a structured home. Time units. -/
namespace Sys2Proof.Machine

/-- Microseconds in units of 1/2496 µs. -/
def us (n : Nat) : Nat := n * 2496

/-- Milliseconds in time units. -/
def ms (n : Nat) : Nat := n * 2496000

/-- Seconds in time units. -/
def secs (n : Nat) : Nat := n * 2496000000

/-- CKS cycles of 249.6 MHz in time units (R22). -/
def cks (n : Nat) : Nat := n * 10

/-- The state at the time of an event: time never runs back (log entry 1). -/
def State.at (t : Nat) (s : State) : State := { s with now := max s.now t }

/-- The entry of a key in an association list. -/
def alGet : List (Nat × Nat) → Nat → Option Nat
  | [], _ => none
  | (k, v) :: l, x => if k = x then some v else alGet l x

/-- An association list with rising keys, with `x` set to `v`. -/
def alPut : List (Nat × Nat) → Nat → Nat → List (Nat × Nat)
  | [], x, v => [(x, v)]
  | (k, w) :: l, x, v =>
    if x < k then (x, v) :: (k, w) :: l else if x = k then (x, v) :: l else (k, w) :: alPut l x v

/-- An association list without the entry of `x`. -/
def alDel : List (Nat × Nat) → Nat → List (Nat × Nat)
  | [], _ => []
  | (k, w) :: l, x => if k = x then l else (k, w) :: alDel l x

/-- The dictionary key of an object. -/
def okey (idx sub : Nat) : Nat := idx * 256 + sub

/-- The row of an object (R89). -/
def findObj (idx sub : Nat) : Option ObjDef :=
  objTable.find? fun o => o.idx ≤ idx && idx < o.idx + o.count && o.sub0 ≤ sub && sub ≤ o.sub1

/-- The size of a value of a type, in octets. -/
def ObjTy.size : ObjTy → Nat
  | .u8 => 1 | .bool => 1 | .u16 => 2 | .i16 => 2 | .u32 => 4 | .i32 => 4 | .u64 => 8 | .time96 => 12
  | .octets n => n | .command => 0

/-- DevUnitPresence (R5). -/
def presence : Variant → Nat
  | .gz4880 => 0xFFFFFFFF | .gz4860 => 0x0F3FFCEF | .gz4840 => 0x0330300F

/-- DevProductCode (R90). -/
def productCode : Variant → Nat
  | .gz4880 => 0x4880 | .gz4860 => 0x4860 | .gz4840 => 0x4840

/-- Default owner of a key slot (R482). -/
def slotOwnerDflt (v : Variant) (n : Nat) : Nat :=
  if n = 0 then 4 else if n ≤ 87 then 0 else if n ≤ 103 then 1
  else if n ≤ 107 then (if v = .gz4840 then 0xFF else 3)
  else if n ≤ 111 then 4 else if n ≤ 119 then 13
  else if (v = .gz4880) ∨ (v = .gz4860 ∧ n ≤ 123) ∨ (v = .gz4840 ∧ n ≤ 121) then n - 115 else 0xFF

/-- The defaults the table marks special: per variant, per die, per role, per slot. -/
def specialDflt (s : State) (idx sub : Nat) : Nat :=
  if idx = 0x1008 then presence s.fuse.variant
  else if idx = 0x1001 then productCode s.fuse.variant
  else if idx = 0x1002 then s.fuse.silicon
  else if idx = 0x1003 then leNat s.fuse.serial
  else if idx = 0x3601 then leNat s.fuse.uid
  else if idx = 0x1502 then slotOwnerDflt s.fuse.variant (sub - 1)
  else if 0x2310 ≤ idx ∧ idx < 0x2314 then 2 ^ (idx - 0x2310)
  else if 0x1218 ≤ idx ∧ idx < 0x121C then (if sub = 3 then 998 else 0)
  else if 0x1210 ≤ idx ∧ idx < 0x1218 then 0xFFFFFFFF
  else if idx = 0x4010 ∨ idx = 0x4011 then 0x1F
  else if idx = 0x4022 then s.seg.node
  else if idx = 0x4020 then leNat [0x02, 0x4E, 0xD4, 0x00, BitVec.ofNat 8 s.seg.segNo, BitVec.ofNat 8 s.seg.node]
  else if idx = 0x4122 then
    (if s.seg.role = .manager then 246 else if s.seg.role = .standby then 247 else 248)
  else (alGet s.fuse.trims (okey idx sub)).getD 0

/-- The default of an object (R46): what it reads while the register file lists nothing. -/
def dfltOf (s : State) (idx sub : Nat) : Nat :=
  match findObj idx sub with
  | none => 0
  | some o =>
    match o.dflt with
    | .const v => v
    | .perVar a b c => match s.fuse.variant with | .gz4880 => a | .gz4860 => b | .gz4840 => c
    | .list vs => vs.getD (sub - o.sub0) 0
    | .special => specialDflt s idx sub

/-- The value in force of a register. -/
def State.g (s : State) (idx sub : Nat) : Nat := (alGet s.reg (okey idx sub)).getD (dfltOf s idx sub)

/-- The objects whose default follows the segment, the node or the role: a value stored for them stays that value when these change. -/
def followsRole (idx : Nat) : Bool := idx = 0x4020 || idx = 0x4022 || idx = 0x4122

/-- A register written: the entry goes where the value is a default that nothing changes. -/
def State.put (s : State) (idx sub v : Nat) : State :=
  { s with reg := if v = dfltOf s idx sub && !followsRole idx then alDel s.reg (okey idx sub) else alPut s.reg (okey idx sub) v }

/-- A saturating 32-bit counter object raised by `k`. -/
def State.bumpBy (s : State) (idx sub k : Nat) : State := s.put idx sub (satAdd 32 (s.g idx sub) k)

/-- A saturating 32-bit counter object raised by 1. -/
def State.bump (s : State) (idx sub : Nat) : State := s.bumpBy idx sub 1

/-- A pending NEXT value, where one exists (R39). -/
def State.pendOf (s : State) (idx sub : Nat) : Option Nat := alGet s.pend (okey idx sub)

/-- The pending value, or else the value in force (R47, R109). -/
def State.gp (s : State) (idx sub : Nat) : Nat := (s.pendOf idx sub).getD (s.g idx sub)

/-- A pending value takes hold (R39). -/
def State.applyPend (s : State) (idx sub : Nat) : State :=
  match s.pendOf idx sub with
  | none => s
  | some v => { s.put idx sub v with pend := alDel s.pend (okey idx sub) }

/-- Whether the object of a dictionary key names a boundary. -/
def atBoundary (b : Boundary) (k : Nat) : Bool :=
  match findObj (k / 256) (k % 256) with
  | some o => o.eff = .next b
  | none => false

/-- A boundary passes: every value pending for it takes hold (R39). -/
def State.boundary (s : State) (b : Boundary) : State :=
  (s.pend.filter fun p => atBoundary b p.1).foldl (fun s p => s.applyPend (p.1 / 256) (p.1 % 256)) s

/-- The canonical form of a register list: keys strictly rising. -/
def alSorted : List (Nat × Nat) → Bool
  | [] => true
  | [_] => true
  | a :: b :: l => a.1 < b.1 && alSorted (b :: l)

/-- The register file is in canonical form: keys strictly rising in both lists. -/
def RegWf (s : State) : Prop := alSorted s.reg = true ∧ alSorted s.pend = true

end Sys2Proof.Machine
end

