-- ==== Sys2Proof/Machine/Ops.lean ====
section
/-! DEFINITION. The operations every unit shares: error bits, the event log, engine events, random draws, and handing frames
to the ports. -/
namespace Sys2Proof.Machine

/-- Bit `i` of DevUnitPresence (R5). -/
def State.has (s : State) (i : Nat) : Bool := (presence s.fuse.variant).testBit i

/-- The access units are present (R5, ACCESS). -/
def State.hasAccess (s : State) : Bool := s.has 10

/-- The part decides: it is a MANAGER at ACCESS_READY, not in Quench and with its clocks good (R24, R30, R643, R652). -/
def State.deciding (s : State) : Bool :=
  s.hasAccess && s.seg.role = .manager && s.pwr.phase = .ready && !s.gate.quench && s.pwr.core

/-- The clocks let the decision path act: PLL locked and the reference monitor passed (R24, R643). -/
def State.clocksOk (s : State) : Bool := s.pwr.pll && s.pwr.refOk

/-- CKS runs. -/
def State.cksOn (s : State) : Bool := s.pwr.core && s.pwr.pll

/-- RCNT at a time (R22): 40 bits at 1/(499.2 MHz x 128), from CORE start; the time unit is 5/128 of an RCNT unit. -/
def State.rcnt (s : State) (t : Nat) : Nat := (t - s.pwr.rcntAt) * 128 / 5 % 2 ^ 40

/-- Slow-clock ticks elapsed at a time (R22). -/
def aonTick (t : Nat) : Nat := t * 32768 / secs 1

/-- PwrClockState (R663). -/
def State.clockState (s : State) : Nat :=
  8 * (if s.pwr.refOk then 1 else 0) + 4 * (if s.pwr.pll then 1 else 0) + 2 * (if s.pwr.slowRc then 1 else 0) + (if s.pwr.xtalFail then 1 else 0)

/-- The record types of R677 that are KEEP. -/
def keepType (typ : Nat) : Bool := [0x01, 0x03, 0x04, 0x05, 0x07, 0x0D, 0x10, 0x11, 0x15].contains typ

/-- Validity-clock seconds and AON fraction of a record (R675); AON seconds since the last cold reset on the GZ4840. -/
def State.logTime (s : State) : Nat × Nat :=
  (if s.fuse.variant = .gz4840 then s.now / secs 1 else s.acc.vclk.vc,
   min 65535 ((s.now - s.acc.vclk.secAt) * 65536 / secs 1))

/-- Adds one lost record with sequence number `q` to what is still to be reported (R680). -/
def addLost (l : Option (Nat × Nat)) (q : Nat) : Option (Nat × Nat) :=
  match l with
  | none => some (q, 1)
  | some (f, n) => some (min f q, n + 1)

/-- The newest record that is not KEEP, and the others, of a buffer held oldest first (R680). -/
def dropNewestPlain (b : List LogRec) : Option (LogRec × List LogRec) :=
  match b.reverse.find? (!·.keep) with
  | none => none
  | some r => some (r, b.filter (·.seq ≠ r.seq))

/-- One record enters the SRAM buffer, displacing or being dropped as R680 states. -/
def State.pushRec (s : State) (r : LogRec) : State :=
  if s.log.buf.length < 64 then { s with log.buf := s.log.buf ++ [r] }
  else
    match dropNewestPlain s.log.buf with
    | some (x, b) => { s with log.buf := b ++ [r], log.lost := addLost s.log.lost x.seq }.bump 0x6107 2
    | none => { s with log.lost := addLost s.log.lost r.seq }.bump 0x6107 2

/-- An event is logged (R675 to R680): a record while CORE runs, an AON marker while it is down. -/
def State.logEv (s : State) (typ code detail : Nat) (data : Bytes) : State :=
  let tm := s.logTime
  let r : LogRec := ⟨s.log.next, tm.1, tm.2, typ, code, detail, keepType typ, false, fit 46 data⟩
  if s.pwr.core then { s with log.next := s.log.next + 1 }.pushRec r
  else if s.log.markers.length < 8 then { s with log.markers := s.log.markers ++ [{ r with seq := 0, deferred := true }] }
  else { s with log.lostMk := s.log.lostMk + 1 }.bump 0x6107 2

/-- The place of a record among those made in one CKS cycle (R678): gates, access state machines, Touchstone, twin, then the other units by
the dictionary index of the unit that made it. -/
def LogRec.rank (r : LogRec) : Nat :=
  let first := (r.data.headD 0).toNat
  match r.typ with
  | 0x01 | 0x05 | 0x09 | 0x15 => 0
  | 0x04 | 0x11 => 1
  | 0x02 | 0x03 => 2
  | 0x07 => 3
  | 0x0D => 0x1108
  | 0x0B => 0x1110
  | 0x06 => 0x1301
  | 0x10 => 0x1520
  | 0x08 => if first = 5 then 0x6012 else 0x2441
  | 0x0E => 0x3200
  | 0x0F => if first = 0 then 0x3300 else 0x3400
  | 0x14 => 0x4012
  | 0x12 => 0x4100
  | 0x0A => 0x5000
  | 0x0C => if r.code = 0x40 then 0x1010 else 0x6003
  | _ => 0x6107

/-- A record put behind those of its rank or a lower one. -/
def insRec (r : LogRec) : List LogRec → List LogRec
  | [] => [r]
  | q :: qs => if r.rank < q.rank then r :: q :: qs else q :: insRec r qs

/-- The records made in one CKS cycle take SEQ in the order of their units (R678): those still in the buffer are set in that order, and
take in it the SEQs they have. The QUENCH record keeps its SEQ and its place (R681). -/
def State.logOrder (s old : State) : State :=
  if s.log.next = old.log.next then s
  else
    let q := if s.log.cyc.1 = s.now / cks 1 then s.log.cyc.2 else old.log.next
    let fresh := s.log.buf.filter fun r => decide (q ≤ r.seq) && decide (r.typ ≠ 0x05)
    let placed := List.zipWith (fun (r : LogRec) n => { r with seq := n }) (fresh.foldl (fun l r => insRec r l) []) (fresh.map (·.seq))
    { s with log.cyc := (s.now / cks 1, q),
             log.buf := (s.log.buf.filter fun r => !(decide (q ≤ r.seq) && decide (r.typ ≠ 0x05))) ++ placed }

/-- A CLOCK record (R677). -/
def State.logClock (s : State) : State := s.logEv 0x0B 0 0 (BitVec.ofNat 8 s.clockState :: (toLe 4 (s.g 0x1111 0) ++ toLe 4 (s.g 0x4105 0)))

/-- A sticky bit of DevErrorRegister is set and the error enters DevErrorHistory, newest first (R90, R94): the index of the
reporting unit's first object, the code and the detail. -/
def State.errBit (s : State) (b idx code detail : Nat) : State :=
  let h := (List.range 7).map fun i => s.g 0x1029 (i + 1)
  let s := s.put 0x1028 0 (setBit (s.g 0x1028 0) b)
  ((idx * 65536 + code * 256 + detail) :: h).zipIdx.foldl (fun s p => s.put 0x1029 (p.2 + 1) p.1) s

/-- An engine takes events while it is RUNNING, WAITING or in DEBUG_HALT (R534, R557). -/
def Engine.listens (e : Engine) : Bool := e.st = .running || e.st = .waiting || e.st = .debugHalt

/-- Event bit `b` of engine `n` is raised (R534). -/
def State.engEv (s : State) (n b : Nat) : State :=
  { s with eng.es := modAt s.eng.es n fun e =>
      if e.listens then { e with evt := e.evt ||| BitVec.ofNat 32 (2 ^ b) } else e }

/-- Event bit `b` of every engine is raised (R534). -/
def State.engEvAll (s : State) (b : Nat) : State := (List.range 8).foldl (fun s n => s.engEv n b) s

/-- A command that ran on is answered at the end of this step (R36); `idx` is its object, 0x1520 for any of the key commands. -/
def State.answer (s : State) (who : Requester) (idx : Nat) (r : Resp) : State := { s with dict.done := s.dict.done ++ [(who, idx, r)] }

/-- The DRBG serves a request now (R513). -/
def State.drawOk (s : State) : Bool :=
  s.rng.st = .seeded && s.now < s.rng.seedAt + secs 1 && s.rng.reqs < 2 ^ 20

/-- `n` octets drawn from the DRBG (R514). -/
def State.draw (s : State) (n : Nat) : Bytes × State :=
  let r := drbgGen s.rng.drbg n
  (r.1, { s with rng.drbg := r.2, rng.reqs := s.rng.reqs + 1 }.bump 0x1307 6)

/-- `n` AES blocks of class `c` (1 to 4 for A to D) are counted (R479). -/
def State.cxUse (s : State) (c n : Nat) : State := (s.bumpBy 0x1420 1 n).bumpBy 0x1421 c n

/-- The class a page's blocks are counted in (R444): 1 A, 2 B, 3 C, 4 D. -/
def pageClass (p : Nat) : Nat := if p = 0 || p = 1 || p = 3 then 2 else if 5 ≤ p && p ≤ 12 then 4 else 3

/-- Blocks computed for a page. -/
def State.cxOn (s : State) (p n : Nat) : State := s.cxUse (pageClass p) n

/-- A Wairil frame of a TYPE leaves while the link is UP, with its LEN and CRC-32 (R78), and is counted (R597). -/
def State.wlSend (s : State) (typ : Nat) (body : Bytes) : State :=
  let f := wlFrame typ body
  let c := laneFrame s.net.wlRd f
  { s with net.wlOut := s.net.wlOut ++ [f], net.wlLine := c.1, net.wlRd := c.2 }.bump 0x4041 4

/-- AES operations of one CMAC over `n` octets (R477). -/
def cmacOps (n : Nat) : Nat := max 1 ((n + 15) / 16) + 1

/-- The key of a slot that is LOADED. -/
def State.slotKey (s : State) (h : Nat) : Option Bytes :=
  match s.keys.slots[h]? with
  | some k => if k.st = .loaded then some k.key else none
  | none => none

/-- The state of the slot a handle names; EMPTY for a handle that names none. -/
def State.slotSt (s : State) (h : Nat) : SlotState := ((s.keys.slots[h]?).map KeySlot.st).getD .empty

/-- KIND of a slot (R485). -/
def State.slotKind (s : State) (h : Nat) : Nat := bits (((s.keys.slots[h]?).map KeySlot.attr).getD 0) 20 4

/-- LEN field of a slot (R485). -/
def State.slotLen (s : State) (h : Nat) : Nat := bits (((s.keys.slots[h]?).map KeySlot.attr).getD 0) 14 2

/-- Owner of a slot (R481). -/
def State.slotOwner (s : State) (h : Nat) : Nat := s.g 0x1502 (h + 1)

/-- A use bit of a slot's ATTR (R485). -/
def State.slotUse (s : State) (h b : Nat) : Bool := (((s.keys.slots[h]?).map KeySlot.attr).getD 0).testBit b

/-- A CAN frame enters a controller's queue (R569); one of the part's own units does not while the controller is OFF (log entry 117). -/
def State.canSend (s : State) (c : Nat) (f : CanTx) : State :=
  { s with net.can := modAt s.net.can c fun k =>
      if f.who.isNone && k.st = 0 then k else { k with q := k.q ++ [{ f with at_ := s.now }] } }

/-- An Ethernet frame of the part's own units enters the 10BASE-T1S queue (R576). -/
def State.ethSend (s : State) (cls : Nat) (da : Bytes) (etype : Nat) (payload : Bytes) : State :=
  { s with net.eth := s.net.eth ++ [⟨cls, none, 0, da, etype, payload, 0, 0⟩] }

/-- This device's node address (R599). -/
def State.nodeAddr (s : State) : Nat := s.seg.segNo * 16 + s.seg.node

/-- A twin pair is configured (R150, R600): SegRoleCfg was TWIN at the last reset. -/
def State.twinCfg (s : State) : Bool := s.seg.cfg = 2

/-- The PLCA ID in use (R574, R601): 0 in the MANAGER role, 1 in the STANDBY role, else NetPlcaId. -/
def State.plcaId (s : State) : Nat :=
  if s.twin.st = .isolated then s.g 0x4022 0
  else match s.seg.role with | .manager => 0 | .standby => 1 | _ => s.g 0x4022 0

/-- NetT1sState from the PLCA settings in force (R574, R597). -/
def State.t1sMode (s : State) : Nat := if s.g 0x4021 0 = 0 then 1 else if s.plcaId = 0 then 3 else 2

/-- The port starts (R574). -/
def State.t1sStart (s : State) : State := { s with net.t1s := s.t1sMode }

/-- The role has changed, and with it the PLCA ID (R601, R626, R628). -/
def State.t1sRole (s : State) : State := if s.net.t1s = 0 then s else s.t1sStart

/-- Whether an advance needs the standby's acknowledgement now (R150, R626): with a pair configured, unless SOLO. -/
def State.needTwin (s : State) : Bool := s.twinCfg && s.twin.st ≠ .solo && s.twin.st ≠ .none_

end Sys2Proof.Machine
end

