-- ==== Sys2Proof/Machine/SegFrame.lean ====
section
/-! DEFINITION. Segment frames: how they are built, keyed, sent and accepted (R602 to R607). -/
namespace Sys2Proof.Machine

/-- K_tw (R603). -/
def State.ktw (s : State) : Option Bytes := s.slotKey (s.g 0x4301 0)

/-- The link key of worker `n` as this twin holds it (R603). -/
def State.linkKey (s : State) (n : Nat) : Option Bytes := s.slotKey (s.g 0x4210 (n + 1))

/-- The MAC address of a node (R573). -/
def nodeMac (seg node : Nat) : Bytes := [0x02, 0x4E, 0xD4, 0x00, BitVec.ofNat 8 seg, BitVec.ofNat 8 node]

/-- The peer's node number: twins are nodes 0 and 1 (R600). -/
def State.peerNode (s : State) : Nat := if s.seg.node = 0 then 1 else 0

/-- A node address of this segment (R599). -/
def State.addrOf (s : State) (node : Nat) : Nat := s.seg.segNo * 16 + node

/-- The payload of a segment frame (R602). -/
def segPayload (key : Bytes) (sub dst src fcnt : Nat) (body : Bytes) : Bytes :=
  let m := [BitVec.ofNat 8 sub, 0x02] ++ toLe 2 dst ++ toLe 2 src ++ toLe 4 fcnt ++ toLe 2 body.length ++ body
  m ++ cmac64 key m

/-- The FCNT of the next frame (R604). -/
def State.fcntUp (s : State) : State := { s with seg.tx := (s.seg.tx + 1) % 2 ^ 32 }

/-- A sender whose FCNT has reached 0xFFFF_FFFF drops its sessions, to join again, and counts from 1 (R604). -/
def State.fcntEnd (s : State) : State :=
  if s.seg.tx = 2 ^ 32 - 1 then
    { s with seg.tx := 0, seg.mgrs := s.seg.mgrs.map fun (m : MgrLink) => { m with kws := none, join := none, due := s.now } }
  else s

/-- A segment frame leaves on 10BASE-T1S (R602, R604). -/
def State.segSend (s : State) (key : Bytes) (sub dst : Nat) (body : Bytes) : State :=
  let s1 := s.fcntUp.cxUse (if sub = 0x22 ∨ sub = 0x23 then 1 else 2) (cmacOps (12 + body.length))
  (s1.ethSend 2 (if dst = 0xFFFF then List.replicate 6 0xFF else nodeMac (dst / 16 % 256) (dst % 16)) 0x88B5
    (segPayload key sub dst s.nodeAddr s1.seg.tx body)).fcntEnd

/-- A twin message leaves: on the Wairil link while it is UP, on 10BASE-T1S otherwise (R604). -/
def State.twinSend (s : State) (sub : Nat) (body : Bytes) : State :=
  match s.ktw with
  | none => s
  | some k =>
    if s.net.wl = 2 then
      let s1 := s.fcntUp.cxUse 2 (cmacOps (12 + body.length))
      (s1.wlSend sub ((segPayload k sub (s.addrOf s.peerNode) s.nodeAddr s1.seg.tx body).drop 1)).fcntEnd
    else s.segSend k sub (s.addrOf s.peerNode) body

/-- Codes of the twin messages that R602 to R625 do not number (log entry 20). -/
def subMirror : Nat := 0x2A
/-- KEY_MIRROR and its acknowledgement (log entry 20). -/
def subKeyMirror : Nat := 0x2B
/-- TIN_DIGEST (log entry 20). -/
def subTinDigest : Nat := 0x2C
/-- TIN_PULL (log entry 20). -/
def subTinPull : Nat := 0x2D
/-- TIN_DATA (log entry 20). -/
def subTinData : Nat := 0x2E

/-- A frame sent to one node under its session key (R603). -/
def State.nodeSend (s : State) (node sub : Nat) (body : Bytes) : State :=
  match (s.seg.nodes[node]?).bind (·.kws) with
  | none => s
  | some k => s.segSend k sub (s.addrOf node) body

/-- The manager this worker names (R607): the node whose MANAGER HEARTBEAT came within SegMgrLossTime, the higher EPOCH first,
then the lower node. -/
def State.mgrNow (s : State) : Option Nat :=
  let live := s.seg.mgrs.zipIdx.filter fun p =>
    (p.1.beat.map fun b => decide (s.now < b + ms (s.g 0x4206 0))).getD false
  (live.foldl (fun (b : Option (MgrLink × Nat)) p =>
    match b with
    | none => some p
    | some q => if q.1.epoch < p.1.epoch then some p else some q) none).map (·.2)

/-- A REPORT leaves for the manager (R611): a worker's under K_ws, a standby's under K_tw. -/
def State.sendReport (s : State) (round : Nat) (items : List Item) (recs : List TimeRec) (evs : List Bytes)
    (enc : Item → Bytes) : State :=
  let body := toLe 2 round ++ [BitVec.ofNat 8 items.length, BitVec.ofNat 8 recs.length, BitVec.ofNat 8 evs.length, 0] ++
    (items.map enc).flatten ++
    (recs.map fun r => [BitVec.ofNat 8 r.from_, BitVec.ofNat 8 r.snr, BitVec.ofNat 8 r.check, 0] ++ toLe 8 r.ts).flatten ++
    (evs.map (fit 24)).flatten
  let s1 := s.bump 0x4220 6
  if s.seg.role = .worker then
    match s.mgrNow with
    | none => s
    | some n =>
      match (s.seg.mgrs[n]?).bind (·.kws) with
      | none => s
      | some k => s1.segSend k 0x23 (s.addrOf n) body
  else if s.seg.role = .standby then
    match s.ktw with
    | none => s
    | some k => s1.segSend k 0x23 (s.addrOf s.peerNode) body
  else s

/-- A received segment frame, taken apart (R602); none where its length or VERSION is wrong. -/
structure SegIn where
  sub  : Nat
  dst  : Nat
  src  : Nat
  fcnt : Nat
  body : Bytes
  mac  : Bytes
  head : Bytes
deriving DecidableEq, Repr

/-- A payload taken apart (R602). -/
def segParse (p : Bytes) : Option SegIn :=
  let n := leAt 10 2 p
  if p.length < 20 || byteAt 1 p ≠ 0x02 || p.length < 20 + n || 1476 < n then none
  else some ⟨byteAt 0 p, leAt 2 2 p, leAt 4 2 p, leAt 6 4 p, slice 12 n p, slice (12 + n) 8 p, p.take (12 + n)⟩

/-- The four outcomes of R599 and R604 for a frame under `key` whose last accepted counter is `last`: 0 accepted, 2 MAC failure,
3 FCNT refused, 4 foreign or unknown. -/
def State.segJudge (s : State) (f : SegIn) (key : Option Bytes) (last : Nat) : Nat :=
  if f.src / 16 ≠ s.seg.segNo || (f.dst ≠ 0xFFFF && f.dst ≠ s.nodeAddr) then 4
  else
    match key with
    | none => 4
    | some k => if cmac64 k f.head ≠ f.mac then 2 else if f.fcnt ≤ last then 3 else 0

/-- The outcome is counted in SegStats (R604, R632). -/
def State.segCount (s : State) (r : Nat) : State :=
  if r = 0 then s.bump 0x4220 1 else s.bump 0x4220 r

/-- A MIRROR of one change (R622), sent by a MANAGER with a twin pair. -/
def State.mirror (s : State) (area entry : Nat) (data : Bytes) : State :=
  if s.seg.role = .manager && s.twinCfg then
    s.twinSend subMirror ([BitVec.ofNat 8 area, 0] ++ toLe 2 entry ++ toLe 2 data.length ++ data)
  else s

end Sys2Proof.Machine
end

