-- ==== Sys2Proof/Machine/Slots.lean ====
section
/-! DEFINITION. Key slots as every unit uses them: drawing a slot, loading, rewriting, erasing and mirroring (R480 to R503). -/
namespace Sys2Proof.Machine

/-- Key octets of a LEN code (R485). -/
def lenBytes (l : Nat) : Nat := if l = 0 then 16 else if l = 1 then 24 else 32

/-- LEN code of a key. -/
def lenCode (key : Bytes) : Nat := if key.length = 16 then 0 else if key.length = 24 then 1 else 2

/-- Kinds that are always mirrored (R486). -/
def alwaysMirror (kind : Nat) : Bool := [3, 4, 5, 6, 7].contains kind
/-- Kinds that are never mirrored (R486). -/
def neverMirror (kind : Nat) : Bool := [8, 9, 0xA, 0xF].contains kind

/-- ATTR in force: MIRROR and VOLATILE forced where R486 says always or never. -/
def forceAttr (attr : Nat) : Nat :=
  let k := bits attr 20 4
  let a := putBit attr 9 (if alwaysMirror k then true else if neverMirror k then false else bit attr 9)
  putBit a 10 (k = 9 || bit a 10)

/-- The lowest EMPTY slot a page owns (R484). -/
def State.freeSlot (s : State) (page : Nat) : Option Nat :=
  (List.range 128).find? fun h => s.slotOwner h = page && s.slotSt h = .empty

/-- A slot changed. -/
def State.modSlot (s : State) (h : Nat) (f : KeySlot → KeySlot) : State := { s with keys.slots := modAt s.keys.slots h f }

/-- The MIRROR bit in force of a slot. -/
def State.slotMirror (s : State) (h : Nat) : Bool := s.slotUse h 9

/-- The KEK for KEY_MIRROR is the twin link key (R495, R622). -/
def State.keyBlob (s : State) (h kekH : Nat) (kek : Bytes) : Bytes :=
  match s.keys.slots[h]? with
  | none => []
  | some k =>
    [0x01, BitVec.ofNat 8 (lenCode k.key)] ++ toLe 2 kekH ++ toLe 2 h ++ [0, 0] ++
      kwWrap kek (toLe 4 k.attr ++ toLe 2 h ++ [0, 0] ++ k.key)

/-- KEY_MIRROR of one slot: slot, version, owner, state, and the blob of a loaded slot (R501, R622, log entry 20). -/
def State.keyMirrorBody (s : State) (h : Nat) : Bytes :=
  match s.keys.slots[h]?, s.ktw with
  | some k, some tw =>
    toLe 2 h ++ toLe 2 k.ver ++ [BitVec.ofNat 8 (s.slotOwner h), if k.st = .loaded then 1 else 0] ++
      (if k.st = .loaded then s.keyBlob h (s.g 0x4301 0) tw else [])
  | _, _ => []

/-- KEY_MIRROR of an urgent zeroize: slot, version 0, owner, state 2 (R502, log entry 20). -/
def State.zeroMirrorBody (s : State) (h : Nat) : Bytes := toLe 2 h ++ [0, 0, BitVec.ofNat 8 (s.slotOwner h), 2]

/-- Whether a change of a slot waits for the standby (R501): a twin pair configured, this device the MANAGER, MIRROR in force. -/
def State.mirrors (s : State) (h : Nat) : Bool := s.twinCfg && s.seg.role = .manager && s.slotMirror h

/-- The change of a slot is sent to the standby; with `who` its command waits for the acknowledgement (R501, R502). -/
def State.sendKey (s : State) (h : Nat) (who : Option Requester) (res : Bytes) : State :=
  let s1 := s.twinSend subKeyMirror (s.keyMirrorBody h)
  { s1.modSlot h (fun k => { k with mirror := 2 }) with keys.waits := s1.keys.waits ++ [⟨h, who, res, s.now + ms 5⟩] }

/-- A slot is loaded or rewritten (R489): the version becomes 1 from EMPTY and rises by 1, past 0xFFFF to 1, at a rewrite. -/
def State.loadSlot (s : State) (h attr : Nat) (key : Bytes) : State :=
  s.modSlot h fun k =>
    { k with st := .loaded, attr := forceAttr attr, key := key,
             prev := if k.st = .empty then none else some (s.now, k.key),
             ver := if k.st = .empty then 1 else if k.ver = 0xFFFF then 1 else k.ver + 1 }

/-- The eNVM bodies of a slot are written (R490, R491): a bad word in them is gone. -/
def State.bodyWritten (s : State) (h : Nat) : State := { s with keys.bad := s.keys.bad.filter fun x => x ≠ h }

/-- A slot becomes EMPTY (R490, R491). -/
def State.clearSlot (s : State) (h : Nat) : State :=
  (s.modSlot h fun _ => KeySlot.blank).bodyWritten h

/-- Requests that hold a key context of a slot (R473, R476): page and SEQ. -/
def State.slotUsers (s : State) (h : Nat) : List (Nat × Nat) :=
  (s.cx.pages.zipIdx.map fun p => (p.1.reqs.filter fun r =>
    r.run && (leAt 2 2 r.desc = h || (byteAt 0 r.desc = 7 && leAt 4 2 r.desc = h))).map fun r => (p.2, r.seq)).flatten

/-- An ERASING slot without users becomes EMPTY (R490). -/
def State.eraseDone (s : State) (h : Nat) : State :=
  if s.slotSt h = .erasing && (s.slotUsers h).isEmpty then s.clearSlot h else s

/-- A slot is marked ERASING, and becomes EMPTY at once where nothing holds it (R490). -/
def State.eraseSlot (s : State) (h : Nat) : State :=
  if s.slotSt h = .loaded then (s.modSlot h fun k => { k with st := .erasing }).eraseDone h else s

/-- A RANGING-page slot for an STS or round key: kind STS, OWNER 1, VOLATILE, MAC and DERIVE (R484, R485, R486). -/
def stsAttr : Nat := 0x00910000 ||| 0x400 ||| 0x0C

/-- A slot erased, its erase mirrored where MIRROR is in force (R490, R501). -/
def State.eraseMirrored (s : State) (h : Nat) : State :=
  let m := s.mirrors h
  let s1 := s.eraseSlot h
  if m then s1.twinSend subKeyMirror (s1.keyMirrorBody h) else s1

/-- The lowest EMPTY RANGING-page slots take round keys, all or none (R484). -/
def State.loadRanging (s : State) : List Bytes → List Nat × State
  | [] => ([], s)
  | k :: ks =>
    match s.freeSlot 1 with
    | none => ([], s)
    | some h =>
      let r := (s.loadSlot h stsAttr k).loadRanging ks
      (h :: r.1, r.2)

end Sys2Proof.Machine
end

