-- ==== Sys2Proof/Machine/Journal.lean ====
section
/-! DEFINITION. The counter journal (R142 to R151): records, read-back, retry, compaction, the scan at power-up, and the two-sided
commit as the manager drives it. -/
namespace Sys2Proof.Machine

/-- The active bank. -/
def Journal.active (j : Journal) : JBank := if j.bAct then j.b else j.a

/-- The other bank. -/
def Journal.other (j : Journal) : JBank := if j.bAct then j.a else j.b

/-- The journal with its active bank replaced. -/
def Journal.setActive (j : Journal) (b : JBank) : Journal := if j.bAct then { j with b := b } else { j with a := b }

/-- The journal with its other bank replaced. -/
def Journal.setOther (j : Journal) (b : JBank) : Journal := if j.bAct then { j with a := b } else { j with b := b }

/-- The SEQ of the next record of a bank: START_SEQ and the slot number minus 2 (R144). -/
def JBank.next (b : JBank) : Nat := b.start + b.slots.length

/-- The octets of a record that its CHK covers: byte 0 and then bytes 2 to 15 (R142). -/
def JRec.body (r : JRec) : Bytes := [BitVec.ofNat 8 r.typ] ++ toLe 2 r.entry ++ toLe 4 r.seq ++ toLe 8 r.value

/-- The CHK of a record: the CRC-8 of R718 with initial value 0x00 (R142). -/
def JRec.chk (r : JRec) : Byte := BitVec.ofNat 8 (crc8 0 r.body)

/-- The 16 octets of a slot (R142). -/
def JSlot.bytes (x : JSlot) : Bytes := (x.r.body.take 1) ++ [x.chk] ++ x.r.body.drop 1

/-- The CHK of a slot is good. -/
def JSlot.good (x : JSlot) : Bool := x.chk = x.r.chk

/-- A slot whose octets no longer hold together: its CHK fails. -/
def JSlot.spoil (x : JSlot) : JSlot := { x with chk := ~~~x.r.chk }

/-- A bank with one more slot; a write whose read-back fails leaves a slot whose CHK is bad (R148). -/
def JBank.push (b : JBank) (ok : Bool) (r : JRec) : JBank :=
  let r1 : JRec := { r with seq := b.next }
  let x : JSlot := ⟨r1, r1.chk⟩
  { b with slots := b.slots ++ [if ok then x else x.spoil] }

/-- Valid records of a bank (TokJournalFill). -/
def JBank.fill (b : JBank) : Nat := b.slots.length

/-- The rolling counter of a key. -/
def State.ctrOf (s : State) : KeyRef → Option Ctr
  | .tok n => (s.acc.toks[n]?).map (·.ctr)
  | .cred n => (s.acc.cache.find? fun p => p.1 = n).map fun p => p.2.ctr

/-- The rolling counter of a key changed. -/
def State.modCtr (s : State) (k : KeyRef) (f : Ctr → Ctr) : State :=
  match k with
  | .tok n => { s with acc.toks := modAt s.acc.toks n fun e => { e with ctr := f e.ctr } }
  | .cred n => { s with acc.cache := s.acc.cache.map fun p => if p.1 = n then (p.1, { p.2 with ctr := f p.2.ctr }) else p }

/-- The cache entry of a number. -/
def State.cacheAt (s : State) (n : Nat) : Option CacheEntry := (s.acc.cache.find? fun p => p.1 = n).map (·.2)

/-- The journal record of a counter value of a key (R142). -/
def State.recOf (s : State) (k : KeyRef) (v : Nat) : JRec :=
  match k with
  | .tok n => ⟨1, n, 0, ((s.acc.toks[n]?).map (·.tid)).getD 0 * 2 ^ 32 + v⟩
  | .cred n => ⟨2, n, 0, ((s.cacheAt n).map (·.id)).getD 0 % 2 ^ 32 * 2 ^ 32 + v⟩

/-- The key a TOKEN or CRED record belongs to, where its entry still matches (R145). -/
def State.recKey (s : State) (r : JRec) : Option KeyRef :=
  if r.typ = 1 then
    (if ((s.acc.toks[r.entry]?).map fun e => e.st ≠ 0 && e.tid = r.value / 2 ^ 32).getD false then some (.tok r.entry) else none)
  else if r.typ = 2 then
    (if ((s.cacheAt r.entry).map fun e => decide (e.id % 2 ^ 32 = r.value / 2 ^ 32)).getD false then some (.cred r.entry) else none)
  else none

/-- A record, at its first or second attempt, is handed to the journal: it waits during compaction's hold and in front of a full
bank, else its two words and read-back follow those before it, 80 µs each (R143, R146, R148). -/
def State.jwrite (s : State) (x : JRec × Bool) : State :=
  let j := s.acc.jr
  if j.hold || 4094 ≤ j.active.slots.length + j.writes.length then { s with acc.jr.waiting := j.waiting ++ [x] }
  else
    let from_ := ((j.writes.getLast?).map fun w => max w.due s.now).getD s.now
    { s with acc.jr.writes := j.writes ++ [⟨x.1, x.2, from_ + us 80⟩] }

/-- A record is handed to the journal (R143). -/
def State.jput (s : State) (r : JRec) : State := s.jwrite (r, false)

/-- A FLOOR record of VC (R125). -/
def State.putFloor (s : State) : State := { s.jput ⟨3, 0, 0, s.acc.vclk.vc⟩ with acc.vclk.floorAt := s.now }

/-- The wait for a COMMIT_ACK (R624): TwinCommitTimeout on the Wairil link, four times that over 10BASE-T1S. -/
def State.commitWait (s : State) : Nat := ms (s.g 0x4308 0) * (if s.net.wl = 2 then 1 else 4)

/-- The body of COMMIT (R623). -/
def State.commitBody (s : State) (cseq : Nat) (k : KeyRef) (v : Nat) : Bytes :=
  let r := s.recOf k v
  let c := match k with | .tok _ => none | .cred n => s.cacheAt n
  toLe 4 cseq ++ [BitVec.ofNat 8 r.typ, BitVec.ofNat 8 ((c.map (·.auth)).getD 0)] ++ toLe 2 r.entry ++ toLe 8 r.value ++
    toLe 8 ((c.map (·.id)).getD 0) ++ toLe 6 ((c.map (·.notAfter)).getD 0) ++ [0, 0]

/-- A COMMIT leaves for the standby and is awaited (R150, R624). -/
def State.sendCommit (s : State) (k : KeyRef) (v : Nat) : Nat × State :=
  let cseq := (s.twin.cseq + 1) % 2 ^ 32
  let body := s.commitBody cseq k v
  let s1 := s.twinSend 0x28 body
  (cseq, { s1 with twin.cseq := cseq, twin.commits := s1.twin.commits ++ [⟨cseq, body, s.now + s.commitWait⟩] })

/-- An accepted counter is handed to the journal and to the standby (R139, R149, R150). -/
def State.advance (s : State) (k : KeyRef) (v tsh cmd : Nat) (kmac : Bytes) (claim : Claim) (ifc : Nat) : State :=
  let s1 := s.jput (s.recOf k v)
  let r := if s.needTwin then s1.sendCommit k v else (0, s1)
  { r.2 with acc.adv := r.2.acc.adv ++ [⟨k, v, tsh, false, !s.needTwin, false, s.now, r.1, cmd, kmac, claim, ifc, false⟩] }

/-- An advance that is committed on both sides is done: its duration is kept (R149, R150, R151). -/
def Advance.done (a : Advance) : Bool := a.local_ && a.twin && !a.failed

/-- Advances that are done leave the list, the last one's duration kept. -/
def State.sweepAdv (s : State) : State :=
  let d := s.acc.adv.filter Advance.done
  { s with acc.adv := s.acc.adv.filter fun a => !a.done,
           acc.commitUs := ((d.getLast?).map fun a => min 65535 ((s.now - a.start) / 2496)).getD s.acc.commitUs }

/-- A seal of a token session may follow: every advance accepted in it is committed (R26). -/
def State.advClear (s : State) (tsh : Nat) : Bool := !(s.acc.adv.any fun a => a.tsh = tsh)

/-- A commit for an entry is in flight: the record is not committed, or its acknowledgement is awaited (R133, R150). -/
def State.inFlight (s : State) (k : KeyRef) : Bool := s.acc.adv.any fun a => a.key = k && !a.failed && !(a.local_ && a.twin)

/-- The credential of a cache entry is on the revocation list. -/
def State.onRevList (s : State) (id auth : Nat) : Bool := s.acc.revoked.any fun r => r.1 = id && r.2.1 = auth

/-- Cache entries of revoked credentials without a commit in flight are freed (R133). -/
def State.freeRevoked (s : State) : State :=
  { s with acc.cache := s.acc.cache.filter fun p => !(s.onRevList p.2.id p.2.auth) || s.inFlight (.cred p.1) }

/-- A record is committed (R143): the entry's committed value and its advances follow. `advSettle` takes out those that are done. -/
def State.jcommitted (s : State) (r : JRec) : State :=
  if r.typ = 3 then { s with acc.vclk.floor := max s.acc.vclk.floor (r.value % 2 ^ 48) }
  else
    match s.recKey r with
    | none => s
    | some k =>
      let v := r.value % 2 ^ 32
      let s1 := s.modCtr k fun c => { c with comm := max c.comm v }
      ({ s1 with acc.adv := s1.acc.adv.map fun (a : Advance) =>
          if a.key = k && a.value ≤ v then { a with local_ := true } else a })

/-- The read-back of the record in front ends: it is committed, written again in the next slot (which may have to wait for the
bank switch), or the journal is FAILED and its commit owes a RESULT (R143, R146, R148). -/
def State.recordDone (s : State) (ok : Bool) : State :=
  match s.acc.jr.writes with
  | [] => s
  | w :: ws =>
    if s.now < w.due then s
    else
      let j := s.acc.jr.setActive (s.acc.jr.active.push ok w.r)
      let ws' := match ws with | [] => [] | x :: xs => { x with due := max x.due (s.now + us 80) } :: xs
      if ok then { s with acc.jr := { j with writes := ws' } }.jcommitted w.r
      else if !w.retry then
        let l := ⟨w.r, true, s.now + us 80⟩ :: ws
        let n := 4094 - j.active.slots.length
        { s with acc.jr := { j with writes := l.take n, waiting := ((l.drop n).map fun x => (x.r, x.retry)) ++ j.waiting } }
      else
        { s with
          acc.jr := { j with writes := ws', st := .failed },
          acc.adv := s.acc.adv.map fun (a : Advance) =>
            if s.recOf a.key a.value = { w.r with seq := 0 } then { a with failed := true, owed := true } else a }

/-! ### Compaction (R146, R669) -/

/-- A record of the current value of each live entry, and the floor. -/
def State.liveRecs (s : State) : List JRec :=
  ((s.acc.toks.zipIdx.filter fun p => p.1.st ≠ 0).map fun p => s.recOf (.tok p.2) p.1.ctr.comm) ++
    (s.acc.cache.map fun p => s.recOf (.cred p.1) p.2.ctr.comm) ++ [⟨3, 0, 0, s.acc.vclk.floor⟩]

/-- Compaction starts when the active bank holds 3,072 records. A DAMAGED journal shows DAMAGED until it ends (R147; log 58). -/
def State.compactStart (s : State) : State :=
  let j := s.acc.jr
  if j.copied.isNone && j.st ≠ .failed && 3072 ≤ j.active.fill then
    let b := s.liveRecs.foldl (fun b r => b.push true r) ⟨j.active.gen + 1, j.active.next, false, []⟩
    { s with acc.jr := { j.setOther b with copied := some j.active.slots.length, st := if j.st = .damaged then JState.damaged else .compacting } }
  else s

/-- The good records of a bank from slot `n` on. -/
def JBank.since (b : JBank) (n : Nat) : List JRec :=
  ((b.slots.drop n).filter JSlot.good).map JSlot.r

/-- A copy pass; one that finds at most one new record leads to the hold (R146). -/
def State.compactPass (s : State) : State :=
  let j := s.acc.jr
  match j.copied with
  | none => s
  | some n =>
    let rs := j.active.since n
    if rs.length ≤ 1 then { s with acc.jr.hold := true }
    else
      { s with acc.jr := { j.setOther (rs.foldl (fun b r => b.push true r) j.other) with copied := some j.active.slots.length } }

/-- The last pass and the COMPLETE word: the new bank is active, and what waited follows (R146, R147). -/
def State.compactSwitch (s : State) : State :=
  let j := s.acc.jr
  match j.copied with
  | none => s
  | some n =>
    if !j.hold || !j.writes.isEmpty then s
    else
      let b := (j.active.since n).foldl (fun b r => b.push true r) j.other
      let j1 := { j.setOther { b with complete := true } with
        bAct := !j.bAct, copied := none, hold := false, st := if j.st = .failed then JState.failed else JState.normal, waiting := [] }
      let s1 := { s with
        acc.jr := j1,
        acc.toks := s.acc.toks.map fun (e : TokEntry) => { e with ctr.conf := false },
        acc.cache := s.acc.cache.map fun (p : Nat × CacheEntry) => (p.1, { p.2 with ctr.conf := false }) }.bump 0x200A 0
      j.waiting.foldl State.jwrite s1

/-! ### The scan at power-up (R144, R145, R147) -/

/-- Whether the following slots continue the run after a bad slot: its record counts as skipped then, and as damaged where it is
not a retried write. -/
def badAt (r : JRec) : List JSlot → Option Bool
  | x :: _ => if x.good then some (!(x.r.typ = r.typ && x.r.entry = r.entry && x.r.value = r.value)) else none
  | [] => none

/-- The run of valid records: the slots that count, and whether a record is damaged. -/
def scanRun : List JSlot → List JSlot × Bool
  | [] => ([], false)
  | y :: l =>
    if y.good then let x := scanRun l; (y :: x.1, x.2)
    else
      match badAt y.r l with
      | none => ([], false)
      | some d => let x := scanRun l; (y :: x.1, d || x.2)

/-- The last value of a key among records, oldest first. -/
def State.lastOf (s : State) (k : KeyRef) (rs : List JRec) : Option Nat :=
  (rs.filter fun r => s.recKey r = some k).getLast?.map fun r => r.value % 2 ^ 32

/-- The journal is DAMAGED: an entry's first accepted counter must come through a resync confirmation (R147). -/
def State.damaged (s : State) : Bool := s.acc.jr.st = .damaged

/-- The counter of an entry that starts at `v` (R137, R145, R147). -/
def State.newCtr (s : State) (v : Nat) : Ctr := ⟨v, v, none, s.damaged⟩


/-- A counter as the scan leaves it. -/
def Ctr.scanned (c : Ctr) (v : Nat) (damaged : Bool) : Ctr := { c with last := v, comm := v, pend := none, conf := damaged }

/-- The journal as the scan finds it: the active bank, and its run of valid records without what is torn (R144, R147). -/
def Journal.scanned (j : Journal) : Journal :=
  let useB := j.b.complete && (!j.a.complete || j.a.gen < j.b.gen)
  let j0 := { j with bAct := useB, writes := [], copied := none, hold := false, waiting := [], st := JState.normal }
  let run := scanRun j0.active.slots
  { j0.setActive { j0.active with slots := run.1 } with st := if run.2 then JState.damaged else JState.normal }

/-- VC seconds of the last FLOOR record that a scan finds (R126). -/
def Journal.scanFloor (j : Journal) : Option Nat :=
  ((j.scanned.active.since 0).filter fun r => r.typ = 3).getLast?.map fun r => r.value % 2 ^ 48

/-- The journal is scanned at a start-up: the active bank is found, torn and damaged records are sorted out, and every entry takes
its last committed value. -/
def State.journalScan (s : State) : State :=
  let j1 := s.acc.jr.scanned
  let bad : Bool := j1.st = .damaged
  let rs := j1.active.since 0
  let s1 := { s with
    acc.jr := j1, acc.adv := [],
    acc.vclk.floor := s.acc.jr.scanFloor.getD s.acc.vclk.floor,
    acc.toks := s.acc.toks.zipIdx.map fun (p : TokEntry × Nat) => { p.1 with ctr := p.1.ctr.scanned ((s.lastOf (.tok p.2) rs).getD 0) bad },
    acc.cache := s.acc.cache.map fun (p : Nat × CacheEntry) =>
      (p.1, { p.2 with ctr := p.2.ctr.scanned ((s.lastOf (.cred p.1) rs).getD p.2.base) bad }) }
  if bad then s1.errBit 2 0x2008 0 0 else s1

end Sys2Proof.Machine
end

