-- ==== Sys2Proof/Machine/Lockout.lean ====
section
/-! DEFINITION. Failure counting and lock-out (R180 to R187). -/
namespace Sys2Proof.Machine

/-- The interface of a carrier, as AccLockoutClear numbers it (R180, R201). -/
def ifaceOf : Carrier → Nat
  | .ble _ => 0
  | .nfc p => 1 + p
  | .lf c => 3 + c

/-- Tier byte and claim of AccLockoutClear and of the LOCKOUT record (R187, R677). -/
def claimBytes : Claim → Nat × Bytes
  | .tok tid => (0, toLe 4 tid ++ zeros 5)
  | .cred a id => (3, toLe 8 id ++ [BitVec.ofNat 8 a])

/-- A lock-out is in force now. -/
def State.inLock (s : State) (l : Option Lock) : Bool := (l.map fun x => decide (s.now < x.until_)).getD false

/-- Times within 10 minutes of now, the window closed at both ends (R181). -/
def State.recent (s : State) (ts : List Nat) : List Nat := ts.filter fun t => s.now ≤ t + secs 600

/-- A LOCKOUT record (R677): what happened is 0 start, 1 end, 2 cleared. -/
def State.logLock (s : State) (tier ifc : Nat) (claim : Bytes) (minutes what : Nat) : State :=
  s.logEv 0x04 0 what ([BitVec.ofNat 8 tier, BitVec.ofNat 8 ifc] ++ fit 9 claim ++ toLe 2 minutes)

/-- The lock-out changes go to the standby as area 6 (R185, R622): the tier, the interface, the claim and the seconds left. -/
def State.mirrorLock (s : State) (tier ifc : Nat) (claim : Bytes) (left : Nat) : State :=
  s.mirror 6 0 ([BitVec.ofNat 8 tier, BitVec.ofNat 8 ifc] ++ fit 9 claim ++ toLe 2 (left / secs 1))

/-- A lock-out of `m` minutes that starts now, its remainder persisted (R181, R185). -/
def State.newLock (s : State) (m : Nat) : Lock := ⟨s.now + secs (60 * m), secs (60 * m), s.now⟩

/-- The tracker's entry of a claim on an interface. -/
def State.failOf (s : State) (c : Claim) (ifc : Nat) : Option FailEntry :=
  s.acc.fails.find? fun f => f.claim = c && f.iface = ifc

/-- The tracker with room for one more claim (R184): where it is full, the entry not locked out whose latest failure is oldest
goes; none where every entry is locked out. -/
def State.failRoom (s : State) : Option (List FailEntry) :=
  let fs := s.acc.fails
  if fs.length < 128 then some fs
  else
    let free := fs.filter fun f => !s.inLock f.lock
    let latest := fun (f : FailEntry) => f.times.head?.getD 0
    match free.foldl (fun (b : Option FailEntry) f =>
      match b with
      | none => some f
      | some x => if latest f < latest x then some f else some x) none with
    | none => none
    | some x => some (fs.filter fun f => f.claim ≠ x.claim || f.iface ≠ x.iface)

/-- The tracker replaced. -/
def State.setFails (s : State) (l : List FailEntry) : State := { s with acc.fails := l }

/-- A failure counts against its claim on an interface (R181, R184). -/
def State.failClaim (s : State) (c : Claim) (ifc : Nat) : State :=
  let put : List FailEntry → List Nat → State := fun l old =>
    let ts := s.now :: s.recent old
    if ts.length < 5 then { s with acc.fails := l ++ [⟨c, ifc, ts, none⟩] }
    else
      let s1 := s.boundary .bNextLockout
      let m := s1.g 0x2204 3
      let b := claimBytes c
      ((s1.setFails (l ++ [⟨c, ifc, [], some (s1.newLock m)⟩])).logLock b.1 ifc b.2 m 0).mirrorLock b.1 ifc b.2 (secs (60 * m))
  match s.failOf c ifc with
  | some f => put (s.acc.fails.filter fun x => x.claim ≠ c || x.iface ≠ ifc) f.times
  | none =>
    match s.failRoom with
    | none => s
    | some l => put l []

/-- A failure counts against its interface (R181). -/
def State.failIface (s : State) (ifc : Nat) : State :=
  match s.acc.ifs[ifc]? with
  | none => s
  | some t =>
    let ts := s.now :: s.recent t.times
    if ts.length < 20 then { s with acc.ifs := putAt s.acc.ifs ifc ⟨ts, t.lock⟩ }
    else
      (({ s with acc.ifs := putAt s.acc.ifs ifc ⟨[], some (s.newLock 15)⟩ }).logLock 1 ifc [] 15 0).mirrorLock 1 ifc [] (secs 900)

/-- The interface tier is locked out. -/
def State.ifLocked (s : State) (ifc : Nat) : Bool := s.inLock ((s.acc.ifs[ifc]?).bind (·.lock))

/-- A counted failure (R180, R182): of the claim where one can be read, of the interface unless it is locked out, and in
AccFailCount. -/
def State.countFail (s : State) (claim : Option Claim) (ifc : Nat) : State :=
  let s1 := match claim with | none => s | some c => s.failClaim c ifc
  (if s.ifLocked ifc then s1 else s1.failIface ifc).bump 0x2233 0

/-- An enrolment-code mismatch (R181, R189): three since the last correct code or lock-out end lock the code tier for an hour. -/
def State.failCode (s : State) : State :=
  let ts := s.now :: s.acc.code.times
  (if ts.length < 3 then { s with acc.code := ⟨ts, s.acc.code.lock⟩ }
   else (({ s with acc.code := ⟨[], some (s.newLock 60)⟩ }).logLock 2 0 [] 60 0).mirrorLock 2 0 [] (secs 3600)).bump 0x2233 0

/-- An accepted proof clears its claim's count on its interface (R183). -/
def State.clearClaim (s : State) (c : Claim) (ifc : Nat) : State :=
  { s with acc.fails := s.acc.fails.filter fun f => f.claim ≠ c || f.iface ≠ ifc || s.inLock f.lock }

/-- The lock-out checks (R182): 0 to go on, else the detail of LOCKED_OUT. -/
def State.lockCheck (s : State) (claim : Claim) (ifc : Nat) (exempt : Bool) : Nat :=
  if s.ifLocked ifc && !exempt then 0x30
  else if s.inLock ((s.failOf claim ifc).bind (·.lock)) then 0x31
  else 0

/-- A lock-out has run out: it is lifted and its natural end logged (R181, R677). -/
def State.lockEnd (s : State) : State :=
  let ovr := fun (l : Option Lock) => (l.map fun x => decide (x.until_ ≤ s.now)).getD false
  let s1 := (s.acc.fails.filter fun f => ovr f.lock).foldl (fun s f =>
    (({ s with acc.fails := s.acc.fails.filter fun x => x ≠ f }).logLock (claimBytes f.claim).1 f.iface (claimBytes f.claim).2 0 1).mirrorLock
      (claimBytes f.claim).1 f.iface (claimBytes f.claim).2 0) s
  let s2 := (s1.acc.ifs.zipIdx.filter fun p => ovr p.1.lock).foldl (fun s p =>
    (({ s with acc.ifs := modAt s.acc.ifs p.2 fun (t : Tier) => ⟨t.times, none⟩ }).logLock 1 p.2 [] 0 1).mirrorLock 1 p.2 [] 0) s1
  if ovr s2.acc.code.lock then (({ s2 with acc.code := ⟨[], none⟩ }).logLock 2 0 [] 0 1).mirrorLock 2 0 [] 0 else s2

/-- A lock-out's remainder is persisted after a further 60 s of it (R185); the remainder that R73 persists, without saying how often, is
taken in the same way (DESIGN CHOICE, log entry 52). -/
def State.lockStore (s : State) : State :=
  let f := fun (l : Option Lock) => l.map fun (x : Lock) =>
    if x.at_ + secs 60 ≤ s.now && s.now < x.until_ then ⟨x.until_, x.until_ - s.now, s.now⟩ else x
  { s with acc.fails := s.acc.fails.map fun (e : FailEntry) => { e with lock := f e.lock },
           acc.ifs := s.acc.ifs.map fun (t : Tier) => ⟨t.times, f t.lock⟩,
           acc.code := ⟨s.acc.code.times, f s.acc.code.lock⟩,
           dict.guards := s.dict.guards.map fun (g : Guard) => { g with lock := f g.lock } }

/-- Lock-outs after loss of VAON (R73, R185): counts are lost and each lock-out resumes from its stored remainder. -/
def State.lockPowerUp (s : State) : State :=
  let f := fun (l : Option Lock) => l.map fun (x : Lock) => (⟨s.now + x.stored, x.stored, s.now⟩ : Lock)
  { s with acc.fails := (s.acc.fails.filter fun e => e.lock.isSome).map fun (e : FailEntry) => { e with times := [], lock := f e.lock },
           acc.ifs := s.acc.ifs.map fun (t : Tier) => ⟨[], f t.lock⟩,
           acc.code := ⟨[], f s.acc.code.lock⟩,
           dict.guards := s.dict.guards.map fun (g : Guard) => ⟨[], f g.lock⟩ }

/-- Minutes left of a lock-out, rounded up (R677). -/
def State.minutesLeft (s : State) (l : Option Lock) : Nat := ((l.map fun x => x.until_ - s.now).getD 0 + secs 60 - 1) / secs 60

/-- AccLockoutClear (R187): code, detail and state. -/
def State.lockClear (s : State) (arg : Bytes) : (Nat × Nat) × State :=
  let tier := byteAt 0 arg
  let ifc := byteAt 1 arg
  let cl := arg.drop 2
  let claim : Option Claim :=
    if tier = 0 then some (.tok (leAt 0 4 cl)) else if tier = 3 then some (.cred (byteAt 8 cl) (leAt 0 8 cl)) else none
  if 3 < tier || 6 < ifc || (tier = 0 && cl.drop 4 ≠ zeros 5) || ((tier = 1 || tier = 2) && cl ≠ zeros 9) || (tier = 2 && ifc ≠ 0)
  then ((0x04, 0), s)
  else
    match claim with
    | some c =>
      match s.failOf c ifc with
      | none => ((0, 0), s)
      | some f =>
        if s.inLock f.lock then
          ((0, 0), (({ s with acc.fails := s.acc.fails.filter fun x => x ≠ f }).logLock tier ifc cl (s.minutesLeft f.lock) 2).mirrorLock tier ifc cl 0)
        else ((0, 0), s)
    | none =>
      let l := if tier = 1 then (s.acc.ifs[ifc]?).bind (·.lock) else s.acc.code.lock
      if s.inLock l then
        let s1 := if tier = 1 then { s with acc.ifs := modAt s.acc.ifs ifc fun (t : Tier) => ⟨t.times, none⟩ }
                  else { s with acc.code := ⟨[], none⟩ }
        ((0, 0), (s1.logLock tier ifc cl (s.minutesLeft l) 2).mirrorLock tier ifc cl 0)
      else ((0, 0), s)

end Sys2Proof.Machine
end

