-- ==== Sys2Proof/Machine/Codes.lean ====
section
/-! DEFINITION. The result codes of R17 and the details of R52 and of every chapter, by their names. -/
namespace Sys2Proof.Machine

/-- OK: completed (R17). -/
abbrev Rc.ok : Nat := 0x00
/-- ABSENT: object, unit or capability not present (R17). -/
abbrev Rc.absent : Nat := 0x01
/-- DENIED: requester's class lacks the access (R17). -/
abbrev Rc.denied : Nat := 0x02
/-- BUSY: resource held; a detail names the holder (R17). -/
abbrev Rc.busy : Nat := 0x03
/-- RANGE: value outside the permitted set (R17). -/
abbrev Rc.range : Nat := 0x04
/-- TYPE: length or type mismatch (R17). -/
abbrev Rc.type : Nat := 0x05
/-- NOT_READY: unit not yet started, or no entropy seed yet (R17). -/
abbrev Rc.notReady : Nat := 0x06
/-- LOCKED_OUT: lock-out in force (R17). -/
abbrev Rc.lockedOut : Nat := 0x07
/-- STALE: evidence or data older than its freshness limit (R17). -/
abbrev Rc.stale : Nat := 0x08
/-- HOLD_SHORT: request longer than the page's hold buffer (R17). -/
abbrev Rc.holdShort : Nat := 0x09
/-- TAG_FAIL: authentication tag did not verify (R17). -/
abbrev Rc.tagFail : Nat := 0x0A
/-- ENTROPY_FATAL: entropy sources have failed (R17). -/
abbrev Rc.entropyFatal : Nat := 0x0B
/-- KEY_ZEROIZED: key zeroized during the operation (R17). -/
abbrev Rc.keyZeroized : Nat := 0x0C
/-- LATE: scheduled time passed before the action (R17). -/
abbrev Rc.late : Nat := 0x0D
/-- QUENCHED: part is in Quench (R17). -/
abbrev Rc.quenched : Nat := 0x0E
/-- AUTH_FAIL: proof of identity or possession failed (R17). -/
abbrev Rc.authFail : Nat := 0x0F
/-- REPLAY: rolling counter already used or out of window (R17). -/
abbrev Rc.replay : Nat := 0x10
/-- RESYNC_PENDING: counter ahead of the window; the next message must confirm it (R17). -/
abbrev Rc.resyncPending : Nat := 0x11
/-- EXPIRED: outside the validity window (R17). -/
abbrev Rc.expired : Nat := 0x12
/-- REVOKED: credential on the revocation list (R17). -/
abbrev Rc.revoked : Nat := 0x13
/-- NO_ZONE: no permitted zone satisfied (R17). -/
abbrev Rc.noZone : Nat := 0x14
/-- RATE_LIMITED: hardware rate limit reached (R17). -/
abbrev Rc.rateLimited : Nat := 0x15
/-- Detail NONE, raised with any code, when there is nothing to add (chapter 02). -/
abbrev Dt.none : Nat := 0x00
/-- Detail PENDING, raised with OK, on a NEXT write (chapter 02). -/
abbrev Dt.pending : Nat := 0x01
/-- Detail UNIT_ACTIVE, raised with BUSY, on an IDLE write (chapter 02). -/
abbrev Dt.unitActive : Nat := 0x02
/-- Detail COMMIT_RUNNING, raised with BUSY (chapter 02). -/
abbrev Dt.commitRunning : Nat := 0x03
/-- Detail SESSIONS_FULL, raised with BUSY (chapter 02). -/
abbrev Dt.sessionsFull : Nat := 0x04
/-- Detail SUBS_FULL, raised with BUSY (chapter 02). -/
abbrev Dt.subsFull : Nat := 0x05
/-- Detail UNKNOWN_OP, raised with TYPE (chapter 02). -/
abbrev Dt.unknownOp : Nat := 0x06
/-- Detail QUEUE_FULL, raised with BUSY (chapter 02). -/
abbrev Dt.queueFull : Nat := 0x07
/-- Detail V1_LOCKED, raised with DENIED, over version 1 (chapter 02). -/
abbrev Dt.v1Locked : Nat := 0x08
/-- Detail NOT_COMMAND, raised with TYPE (chapter 02). -/
abbrev Dt.notCommand : Nat := 0x09
/-- Detail LENGTH, raised with TYPE (chapter 02). -/
abbrev Dt.length : Nat := 0x0A
/-- Detail CRED_FORMAT, raised with AUTH_FAIL (chapter 03). -/
abbrev Dt.credFormat : Nat := 0x20
/-- Detail AUTHORITY, raised with AUTH_FAIL (chapter 03). -/
abbrev Dt.authority : Nat := 0x21
/-- Detail CRED_TAG, raised with AUTH_FAIL (chapter 03). -/
abbrev Dt.credTag : Nat := 0x22
/-- Detail TARGET, raised with AUTH_FAIL (chapter 03). -/
abbrev Dt.target : Nat := 0x23
/-- Detail PROOF, raised with AUTH_FAIL (chapter 03). -/
abbrev Dt.proof : Nat := 0x24
/-- Detail TOKEN_STATE, raised with AUTH_FAIL (chapter 03). -/
abbrev Dt.tokenState : Nat := 0x25
/-- Detail NOT_YET, raised with EXPIRED (chapter 03). -/
abbrev Dt.notYet : Nat := 0x26
/-- Detail CLOCK_UNTRUSTED, raised with EXPIRED (chapter 03). -/
abbrev Dt.clockUntrusted : Nat := 0x27
/-- Detail NO_RIGHT, raised with DENIED (chapter 03). -/
abbrev Dt.noRight : Nat := 0x28
/-- Detail CACHE_FULL, raised with BUSY (chapter 03). -/
abbrev Dt.cacheFull : Nat := 0x29
/-- Detail REVLIST_FULL, raised with BUSY (chapter 03). -/
abbrev Dt.revlistFull : Nat := 0x2A
/-- Detail EXHAUSTED, raised with REPLAY (chapter 03). -/
abbrev Dt.exhausted : Nat := 0x2B
/-- Detail JOURNAL_FAIL, raised with NOT_READY (chapter 03). -/
abbrev Dt.journalFail : Nat := 0x2C
/-- Detail TWIN_WAIT, raised with BUSY (chapter 03). -/
abbrev Dt.twinWait : Nat := 0x2D
/-- Detail ATTEST_OLD, raised with OK (chapter 03). -/
abbrev Dt.attestOld : Nat := 0x2E
/-- Detail HELD_VALUE, raised with RANGE (chapter 03). -/
abbrev Dt.heldValue : Nat := 0x2F
/-- Detail IF_LOCKED, raised with LOCKED_OUT (chapter 04). -/
abbrev Dt.ifLocked : Nat := 0x30
/-- Detail TOKEN_LOCKED, raised with LOCKED_OUT (chapter 04). -/
abbrev Dt.tokenLocked : Nat := 0x31
/-- Detail CODE_LOCKED, raised with LOCKED_OUT (chapter 04). -/
abbrev Dt.codeLocked : Nat := 0x32
/-- Detail NO_CHALLENGE, raised with AUTH_FAIL (chapter 04). -/
abbrev Dt.noChallenge : Nat := 0x33
/-- Detail SESSION_BOUND, raised with DENIED (chapter 04). -/
abbrev Dt.sessionBound : Nat := 0x34
/-- Detail NO_WINDOW, raised with DENIED (chapter 04). -/
abbrev Dt.noWindow : Nat := 0x35
/-- Detail LEARN_BUSY, raised with BUSY (chapter 04). -/
abbrev Dt.learnBusy : Nat := 0x36
/-- Detail TABLE_FULL, raised with BUSY (chapter 04). -/
abbrev Dt.tableFull : Nat := 0x37
/-- Detail CODE, raised with AUTH_FAIL (chapter 04). -/
abbrev Dt.code : Nat := 0x38
/-- Detail TRANSFER_FAIL, raised with AUTH_FAIL (chapter 04). -/
abbrev Dt.transferFail : Nat := 0x39
/-- Detail NO_PERMITTED_ZONE, raised with NO_ZONE (chapter 05). -/
abbrev Dt.noPermittedZone : Nat := 0x40
/-- Detail MISSING, raised with NO_ZONE (chapter 05). -/
abbrev Dt.missing : Nat := 0x41
/-- Detail OUT_OF_ZONE, raised with NO_ZONE (chapter 05). -/
abbrev Dt.outOfZone : Nat := 0x42
/-- Detail LOW_QUALITY, raised with NO_ZONE (chapter 05). -/
abbrev Dt.lowQuality : Nat := 0x43
/-- Detail RELAY_VETO, raised with NO_ZONE (chapter 05). -/
abbrev Dt.relayVeto : Nat := 0x44
/-- Detail TIME_QUALITY, raised with NO_ZONE (chapter 05). -/
abbrev Dt.timeQuality : Nat := 0x45
/-- Detail STALE_ITEM, raised with NO_ZONE (chapter 05). -/
abbrev Dt.staleItem : Nat := 0x46
/-- Detail GATE_HELD, raised with BUSY (chapter 06). -/
abbrev Dt.gateHeld : Nat := 0x50
/-- Detail GATE_FAULT, raised with NOT_READY (chapter 06). -/
abbrev Dt.gateFault : Nat := 0x51
/-- Detail MERGED, raised with OK (chapter 06). -/
abbrev Dt.merged : Nat := 0x52
/-- Detail PULSE_RATE, raised with RATE_LIMITED (chapter 06). -/
abbrev Dt.pulseRate : Nat := 0x53
/-- Detail ENG_SHARE, raised with RATE_LIMITED (chapter 06). -/
abbrev Dt.engShare : Nat := 0x54
/-- Detail GATE_CLOSING, raised with BUSY (chapter 06). -/
abbrev Dt.gateClosing : Nat := 0x55
/-- Detail ROUND_HELD, raised with BUSY (chapter 07). -/
abbrev Dt.roundHeld : Nat := 0x60
/-- Detail COMBINATION, raised with RANGE (chapter 07). -/
abbrev Dt.combination : Nat := 0x61
/-- Detail SYNTH_UNLOCK, raised with NOT_READY (chapter 08). -/
abbrev Dt.synthUnlock : Nat := 0x70
/-- Detail CAL_RUNNING, raised with BUSY (chapter 08). -/
abbrev Dt.calRunning : Nat := 0x71
/-- Detail FEM_CONFIG, raised with RANGE (chapter 08). -/
abbrev Dt.femConfig : Nat := 0x72
/-- Detail NOT_OWNER, raised with DENIED (chapter 09). -/
abbrev Dt.notOwner : Nat := 0x80
/-- Detail CHAR_INVALID, raised with RANGE (chapter 09). -/
abbrev Dt.charInvalid : Nat := 0x81
/-- Detail NO_CONNECTION, raised with RANGE (chapter 09). -/
abbrev Dt.noConnection : Nat := 0x82
/-- Detail LF_FAULT, raised with NOT_READY (chapter 10). -/
abbrev Dt.lfFault : Nat := 0x90
/-- Detail VLF_LOW, raised with NOT_READY (chapter 10). -/
abbrev Dt.vlfLow : Nat := 0x91
/-- Detail LF_OWNED, raised with BUSY (chapter 10). -/
abbrev Dt.lfOwned : Nat := 0x92
/-- Detail TAG_FIELD_ACTIVE, raised with BUSY (chapter 11). -/
abbrev Dt.tagFieldActive : Nat := 0xA0
/-- Detail NFC_FAULT, raised with NOT_READY (chapter 11). -/
abbrev Dt.nfcFault : Nat := 0xA1
/-- Detail TAG_RECOVERING, raised with NOT_READY (chapter 11). -/
abbrev Dt.tagRecovering : Nat := 0xA2
/-- Detail NO_STAGE, raised with RANGE (chapter 11). -/
abbrev Dt.noStage : Nat := 0xA3
/-- Detail KEY_NOT_OWNED, raised with DENIED (chapter 12). -/
abbrev Dt.keyNotOwned : Nat := 0xB0
/-- Detail ADDR, raised with DENIED (chapter 12). -/
abbrev Dt.addr : Nat := 0xB1
/-- Detail KEY_ERASING, raised with BUSY (chapter 12). -/
abbrev Dt.keyErasing : Nat := 0xB2
/-- Detail KEY_KIND, raised with RANGE (chapter 12). -/
abbrev Dt.keyKind : Nat := 0xB3
/-- Detail MODE_PARAM, raised with RANGE (chapter 12). -/
abbrev Dt.modeParam : Nat := 0xB4
/-- Detail NO_RESULT, raised with NOT_READY (chapter 12). -/
abbrev Dt.noResult : Nat := 0xB5
/-- Detail OVERLAP, raised with RANGE (chapter 12). -/
abbrev Dt.overlap : Nat := 0xB6
/-- Detail CTR_WRAP, raised with RANGE (chapter 12). -/
abbrev Dt.ctrWrap : Nat := 0xB7
/-- Detail SLOT_EMPTY, raised with RANGE (chapter 13). -/
abbrev Dt.slotEmpty : Nat := 0xC0
/-- Detail NOT_EXPORTABLE, raised with DENIED (chapter 13). -/
abbrev Dt.notExportable : Nat := 0xC1
/-- Detail MIRROR_ONLY, raised with DENIED (chapter 13). -/
abbrev Dt.mirrorOnly : Nat := 0xC2
/-- Detail KEY_FIXED, raised with DENIED (chapter 13). -/
abbrev Dt.keyFixed : Nat := 0xC3
/-- Detail MIRROR_PENDING, raised with OK (chapter 13). -/
abbrev Dt.mirrorPending : Nat := 0xC4
/-- Detail LOAD_BUSY, raised with BUSY (chapter 14). -/
abbrev Dt.loadBusy : Nat := 0xD0
/-- Detail LOAD_SEQ, raised with RANGE (chapter 14). -/
abbrev Dt.loadSeq : Nat := 0xD1
/-- Detail IMAGE_FORMAT, raised with RANGE (chapter 14). -/
abbrev Dt.imageFormat : Nat := 0xD2
/-- Detail IMAGE_VERSION, raised with RANGE (chapter 14). -/
abbrev Dt.imageVersion : Nat := 0xD3
/-- Detail EMPTY_QUEUE, raised with NOT_READY (chapter 14). -/
abbrev Dt.emptyQueue : Nat := 0xD4
/-- Detail PIN_NOT_OWNED, raised with DENIED (chapter 14). -/
abbrev Dt.pinNotOwned : Nat := 0xD5
/-- Detail NO_IMAGE, raised with NOT_READY (chapter 14). -/
abbrev Dt.noImage : Nat := 0xD6
/-- Detail ID_RESERVED, raised with DENIED (chapter 15). -/
abbrev Dt.idReserved : Nat := 0xE0
/-- Detail NO_FRAME, raised with NOT_READY (chapter 15). -/
abbrev Dt.noFrame : Nat := 0xE1
/-- Detail PORT_DOWN, raised with NOT_READY (chapter 15). -/
abbrev Dt.portDown : Nat := 0xE2
/-- Detail TWIN_ISOLATED, raised with NOT_READY (chapter 16). -/
abbrev Dt.twinIsolated : Nat := 0xF0
/-- Detail PEER_PRESENT, raised with BUSY (chapter 16). -/
abbrev Dt.peerPresent : Nat := 0xF1
/-- Detail NOT_TWIN, raised with RANGE (chapter 16). -/
abbrev Dt.notTwin : Nat := 0xF2
/-- Detail THERMAL, raised with RATE_LIMITED (chapter 18). -/
abbrev Dt.thermal : Nat := 0x48

end Sys2Proof.Machine
end

