-- ==== Sys2Proof/Machine/Gates.lean ====
section
/-! DEFINITION. Release gates, pulses, dead times, readback, the immobiliser frames and the transmitter limiters
(06_release_gates_and_limits.md). Nothing here looks at a key or a verdict: a seal reaches a gate through `gateTake` alone. -/
namespace Sys2Proof.Machine

/-- The width of a pulse (R241): held to 20 ms to 500 ms whatever is written. -/
def pulseUnits (w : Nat) : Nat := ms (min 500 (max 20 w))

/-- The interlock group of a gate (R240): gates 0 and 1 form one, gate 2 another. -/
def gateGroup (g : Nat) : Nat := if g = 2 then 1 else 0

/-- The A ball of a gate. -/
def Gate.aBall (x : Gate) (g : Nat) : Ball := x.a.getD g ⟨false, 0⟩

/-- The B ball driven in a group (R241): LOCK_ALL_B in group 0, TRUNK_B in group 1. -/
def Gate.bBall (x : Gate) (grp : Nat) : Ball := x.b.getD (grp + 1) ⟨false, 0⟩

/-- The dead time of a group. -/
def Gate.deadOf (x : Gate) (grp : Nat) : Option Dead := (x.dead.getD grp none)

/-- Gate `n` is commanded active (R248). -/
def Gate.active (x : Gate) (n : Nat) : Bool :=
  if n = 3 then x.startEn else (x.aBall n).high || (x.b.getD n ⟨false, 0⟩).high

/-- Notes the gates whose commanded state changed since `old` (R248): their comparison starts again. -/
def State.noteChg (old s : State) : State :=
  (List.range 4).foldl (fun s n =>
    if old.gate.active n = s.gate.active n then s
    else { s with gate.chg := putAt s.gate.chg n s.now, gate.mism := putAt s.gate.mism n 0 }) s

/-- An A pulse of gate `g` starts (R241, R250). -/
def State.startA (s : State) (g : Nat) : State :=
  let s1 := s.applyPend 0x2401 (g + 1)
  let due := s.now + pulseUnits (s1.g 0x2401 (g + 1))
  { s1 with gate.a := putAt s1.gate.a g ⟨true, due⟩,
            gate.hist := modAt s1.gate.hist g fun h => s.now :: h.filter (fun t => s.now ≤ t + secs 60) }.bump 0x2411 (g + 1)

/-- The B pulse of group `grp` starts (R241). -/
def State.startB (s : State) (grp : Nat) : State :=
  let s1 := s.applyPend 0x2402 0
  { s1 with gate.b := putAt s1.gate.b (grp + 1) ⟨true, s.now + pulseUnits (s1.g 0x2402 0)⟩ }

/-- The B ball of a group is cut (R242). -/
def State.cutB (s : State) (grp : Nat) : State := { s with gate.b := putAt s.gate.b (grp + 1) ⟨false, s.now⟩ }

/-- The A balls of a group are cut (R242). -/
def State.cutA (s : State) (grp : Nat) : State :=
  { s with gate.a := s.gate.a.zipIdx.map fun p => if gateGroup p.2 = grp then ⟨false, s.now⟩ else p.1 }

/-- Whether any A ball of a group is high. -/
def Gate.groupA (x : Gate) (grp : Nat) : Bool := x.a.zipIdx.any fun p => gateGroup p.2 = grp && p.1.high

/-- The A pulse of gate `g` is running or pending (R243). -/
def Gate.aBusy (x : Gate) (g : Nat) : Bool :=
  (x.aBall g).high || ((x.deadOf (gateGroup g)).map fun d => d.a.contains g).getD false

/-- The B pulse of a group is running or pending (R243). -/
def Gate.bBusy (x : Gate) (grp : Nat) : Bool :=
  (x.bBall grp).high || ((x.deadOf grp).map (·.b)).getD false

/-- When a pulse of gate `g` asked for now would start (R242, R250). -/
def State.aStart (s : State) (g : Nat) : Nat :=
  match s.gate.deadOf (gateGroup g) with
  | some d => d.due
  | none => if (s.gate.bBall (gateGroup g)).high then s.now + ms 10 else s.now

/-- A pulses of gate `g` in the 60 s window that ends at `t`, closed at both ends (R250). -/
def Gate.rateAt (x : Gate) (g t : Nat) : Nat := ((x.hist.getD g []).filter fun h => t ≤ h + secs 60).length

/-- An unlock or release pulse is asked for, not merged and within its rate (R242). -/
def State.askA (s : State) (g : Nat) : State :=
  let grp := gateGroup g
  match s.gate.deadOf grp with
  | some d => { s with gate.dead := putAt s.gate.dead grp (some ⟨d.due, if d.b then [g] else d.a ++ [g], false⟩) }
  | none =>
    if (s.gate.bBall grp).high then
      { s.cutB grp with gate.dead := putAt s.gate.dead grp (some ⟨s.now + ms 10, [g], false⟩) }
    else s.startA g

/-- A lock pulse of a group is asked for and not merged (R242). -/
def State.askB (s : State) (grp : Nat) : State :=
  match s.gate.deadOf grp with
  | some d => { s with gate.dead := putAt s.gate.dead grp (some ⟨d.due, [], true⟩) }
  | none =>
    if s.gate.groupA grp then
      { s.cutA grp with gate.dead := putAt s.gate.dead grp (some ⟨s.now + ms 10, [], true⟩) }
    else s.startB grp

/-- An AON-side close of gate `g` falls in this moment (R265): one that has been taken, or one that is due. -/
def State.closing (s : State) (g : Nat) : Bool :=
  s.gate.closeAt.getD g none = some s.now ||
    (if g = 3 then s.gate.startEn && s.acc.drive.isNone && decide (s.gate.startAt + secs 600 ≤ s.now)
     else ((s.gate.aBall g).high && decide ((s.gate.aBall g).due ≤ s.now)) ||
       ((s.gate.b.getD g ⟨false, 0⟩).high && decide ((s.gate.b.getD g ⟨false, 0⟩).due ≤ s.now)))

/-- A lock request reaches a group's latch (R241, R243, R265, R267): code and detail, and the state after. `src` is the source of
R722. -/
def State.lockGroup (s : State) (grp src : Nat) : (Nat × Nat) × State :=
  let g := if grp = 0 then 1 else 2
  if s.gate.quench then ((0x0E, 0), s.logEv 0x15 0x0E 0 [BitVec.ofNat 8 g, BitVec.ofNat 8 src])
  else if s.closing g then
    ((0x03, 0x55), s.logEv 0x15 0x03 0x55 [BitVec.ofNat 8 g, BitVec.ofNat 8 src])
  else if s.gate.bBusy grp then ((0, 0x52), s)
  else ((0, 0), s.noteChg (s.askB grp))

/-- A lock request (R241): LOCK_ALL_B, and TRUNK_B when GateTrunkOnLock is true. -/
def State.lockRequest (s : State) (src : Nat) : (Nat × Nat) × State :=
  let r := { s with gate.relock := false }.lockGroup 0 src
  if s.g 0x2406 0 = 1 then (r.1, (r.2.lockGroup 1 src).2) else r

/-- GateLock (R241). The release gates are active in the MANAGER role alone (R30): in another role, where the outputs stay closed (R32), the
command is refused with NOT_READY (DESIGN CHOICE, log entry 51). -/
def State.gateLock (s : State) : (Nat × Nat) × State :=
  if s.hasAccess && s.seg.role = .manager then s.lockRequest 2 else ((0x06, 0), s)

/-- An A pulse that a lock request would cut is running or pending (R242). -/
def State.unlocking (s : State) : Bool := s.gate.aBusy 0 || s.gate.aBusy 1 || (s.g 0x2406 0 = 1 && s.gate.aBusy 2)

/-- A relock that waited for the pulses of seals already issued (R197) is raised once they have completed. CORE off or held drops it, as it
drops a pulse pending in a dead time. -/
def State.relockDue (s : State) : State :=
  if !s.gate.relock || s.unlocking then s
  else
    let s1 := { s with gate.relock := false }
    let ask := fun (s : State) (grp : Nat) => if s.gate.quench || s.gate.bBusy grp then s else s.noteChg (s.askB grp)
    if !s.pwr.core || s.pwr.held || s.pwr.shut then s1
    else if s.g 0x2406 0 = 1 then ask (ask s1 0) 1 else ask s1 0

/-- A pulse reaches its width and its ball falls (R241). `isB` with the group, else the gate of the A ball. -/
def State.pulseEnd (s : State) (isB : Bool) (n : Nat) : State :=
  let b := if isB then s.gate.bBall n else s.gate.aBall n
  let g := if isB then (if n = 0 then 1 else 2) else n
  if b.high && b.due ≤ s.now then
    let s1 := if isB then s.cutB n else { s with gate.a := putAt s.gate.a n ⟨false, s.now⟩ }
    let s2 := { s1 with gate.closeAt := putAt s1.gate.closeAt g (some s.now) }
    (s.noteChg s2).relockDue
  else s

/-- The dead time of a group ends and the last requested pulse starts (R242). While CORE is off or held no pulse may start (R20): the
pending one is dropped. -/
def State.deadEnd (s : State) (grp : Nat) : State :=
  match s.gate.deadOf grp with
  | none => s
  | some d =>
    if s.now < d.due then s
    else
      let s1 := { s with gate.dead := putAt s.gate.dead grp none }
      if !s.pwr.core || s.pwr.held || s.pwr.shut then s1
      else s.noteChg (if d.b then s1.startB grp else d.a.foldl State.startA s1)

/-! ### The immobiliser (R252 to R257) -/

/-- K_immo (R254). -/
def State.immoKey (s : State) : Option Bytes := s.slotKey (s.g 0x2425 0)

/-- The MAC of an immobiliser frame (R254): 4 octets in CLASSIC8, 8 in FD16. -/
def State.immoMac (s : State) (key : Bytes) (dir : Nat) (b ctx : Bytes) : Bytes :=
  (cmac key ([BitVec.ofNat 8 dir] ++ b ++ s.fuse.serial ++ ctx)).take (if s.g 0x2422 0 = 1 then 8 else 4)

/-- The frame format of the part's own immobiliser frames (R253): Classical CAN; for FD16 CAN XL with SDT 0x00 where the controller is
in XL mode and the identifier is a priority identifier, else CAN FD with bit-rate switch (DEDUCED, log 63). -/
def State.immoTxFmt (s : State) : Nat :=
  if s.g 0x2422 0 ≠ 1 then 0 else if s.g 0x4001 (s.g 0x2421 0 + 1) = 3 && s.g 0x2424 0 ≤ 0x7FF then 3 else 2

/-- A frame to the engine controller (R253, R569 class 1). `b` is the frame before its MAC. -/
def State.immoSend (s : State) (b ctx : Bytes) : State :=
  match s.immoKey with
  | none => s
  | some k =>
    if s.gate.quench then s
    else
      (s.canSend (s.g 0x2421 0) ⟨1, none, 0, s.immoTxFmt, 0, 0, s.g 0x2424 0, 0, 0, b ++ s.immoMac k 1 b ctx, 0, 0⟩).cxUse 2 2

/-- A RESPONSE with a STATUS to a nonce (R253, R256). -/
def State.immoResponse (s : State) (status : Nat) (nonce : Bytes) : State :=
  let e := if s.g 0x2422 0 = 1 then fit 6 nonce else nonce.take 2
  let s1 := s.immoSend ([0x02, BitVec.ofNat 8 status] ++ e) (fit 6 nonce)
  if status = 1 then { s1 with gate.immo.rel := (e, fit 6 nonce) :: s1.gate.immo.rel } else s1

/-- A RELEASE or WITHDRAWN frame with the next SEQ (R253, R255). -/
def State.immoRelease (s : State) (status : Nat) : State :=
  let q := s.gate.immo.seq + 1
  let e := if s.g 0x2422 0 = 1 then toLe 4 q ++ [0, 0] else toLe 2 q
  let s0 := { s with gate.immo.seq := q,
                     gate.immo.resv := if s.gate.immo.resv < q then q + 4096 else s.gate.immo.resv }
  let s1 := s0.immoSend ([0x03, BitVec.ofNat 8 status] ++ e) (toLe 4 q)
  if status = 1 then { s1 with gate.immo.rel := (e, toLe 4 q) :: s1.gate.immo.rel } else s1

/-- START_EN rises at a START seal and the frames that carry RELEASED go out (R244, R252, R256). -/
def State.raiseStart (s : State) : State :=
  let s1 := s.noteChg { s with gate.startEn := true, gate.startAt := s.now, gate.immo.rel := [] }
  let mode := s.g 0x2420 0
  if mode = 1 then
    { s1.immoRelease 1 with gate.immo.next := some (s.now + ms (s.g 0x2426 0)) }
  else if mode = 2 then
    match s1.gate.immo.nonce with
    | some n => { s1.immoResponse 1 n.1 with gate.immo.nonce := none }
    | none => s1
  else s1

/-- START_EN falls; in PUSH mode one WITHDRAWN follows, unless in Quench (R244, R252, R267). -/
def State.lowerStart (s : State) : State :=
  if s.gate.startEn then
    let s1 := s.noteChg { s with gate.startEn := false, gate.immo.next := none, gate.immo.rel := [],
                                 gate.closeAt := putAt s.gate.closeAt 3 (some s.now) }
    if s.g 0x2420 0 = 1 && !s.gate.quench then s1.immoRelease 2 else s1
  else s

/-- A seal reaches the latch of gate `g` (R242 to R247): the code and detail of its use, and the state after. `mine` says that
START_EN is high for the same START session, `held` that START is held by another. -/
def State.gateTake (s : State) (g : Nat) (mine held : Bool) : (Nat × Nat) × State :=
  if s.gate.quench then ((0x0E, 0), s)
  else if s.closing g then ((0x03, 0x55), s)
  else if s.gate.fault.getD g false then ((0x06, 0x51), s)
  else if g = 3 then
    if held then ((0x03, 0x50), s)
    else if mine && s.gate.startEn then ((0, 0x52), s)
    else ((0, 0), s.raiseStart)
  else if s.gate.aBusy g then ((0, 0x52), s)
  else if 12 ≤ s.gate.rateAt g (s.aStart g) then ((0x15, 0x53), s)
  else ((0, 0), s.noteChg (s.askA g))


/-- One sample of GATE_RB of gate `n` at a slow-clock tick (R248, R249). -/
def State.rbSample (s : State) (n : Nat) (level : Bool) : State :=
  if (s.g 0x2405 0).testBit n && s.gate.vio && (s.gate.chg.getD n 0) + ms (s.g 0x2404 0) ≤ s.now then
    let act := if (s.g 0x2403 0).testBit n then level else !level
    if act = s.gate.active n then { s with gate.mism := putAt s.gate.mism n 0 }
    else
      let k := s.gate.mism.getD n 0 + 1
      let s1 := { s with gate.mism := putAt s.gate.mism n (min k 2) }
      if k = 2 then
        ({ s1 with gate.fault := putAt s1.gate.fault n true }.errBit 5 0x2401 0x06 0x51).logEv 0x09 0 0
          [BitVec.ofNat 8 n, BitVec.ofNat 8 (b2n level)]
      else s1
  else s

/-- GateFaultClear (R249). -/
def State.faultClear (s : State) (n : Nat) : State :=
  { s with gate.fault := putAt s.gate.fault n false, gate.mism := putAt s.gate.mism n 0 }

/-- In PUSH mode the next RELEASE is sent while START_EN is high (R252). -/
def State.immoPeriod (s : State) : State :=
  match s.gate.immo.next with
  | none => s
  | some d =>
    if d ≤ s.now && s.gate.startEn && s.g 0x2420 0 = 1 && !s.gate.quench then
      { s.immoRelease 1 with gate.immo.next := some (d + ms (s.g 0x2426 0)) }
    else s

/-- GateImmoWait ends with no START seal: NOT_RELEASED (R256). -/
def State.immoWaitEnd (s : State) : State :=
  match s.gate.immo.nonce with
  | none => s
  | some n => if n.2 ≤ s.now then { s.immoResponse 0 n.1 with gate.immo.nonce := none } else s

/-- A frame on GateImmoRxId is ignored and counted (R257). -/
def State.immoReject (s : State) : State := s.bump 0x2429 0

/-- A well-formed CHALLENGE frame of the selected format, and its nonce (R253). -/
def State.immoChallengeOf (s : State) (f : Bytes) : Option Bytes :=
  let n := if s.g 0x2422 0 = 1 then 16 else 8
  if f.length = n && f.take 2 = [0x01, 0x00] && f.drop 8 = zeros (n - 8) then some (slice 2 6 f) else none

/-- A frame is the engine controller's acknowledgement of the current START seal (R257). -/
def State.immoAckOk (s : State) (f : Bytes) : Bool :=
  match s.immoKey with
  | none => false
  | some k =>
    let fd := s.g 0x2422 0 = 1
    let n := if fd then 8 else 4
    let b := f.take n
    f.length = (if fd then 16 else 8) && f.take 2 = [0x04, 0x00] &&
      s.gate.immo.rel.any fun r => b.drop 2 = r.1 && f.drop n = s.immoMac k 0 b r.2

/-! ### Limiters (R261, R262) -/

/-- Window, duty ceiling and continuous ceiling of a limiter (R261). -/
def limitOf (lim : Nat) : Nat × Nat × Nat :=
  if lim = 1 then (secs 1, ms 20, ms 2) else if lim = 2 then (secs 1, ms 500, ms 20)
  else if lim = 3 then (secs 1, ms 150, ms 60) else (secs 10, ms 5000, ms 2000)

/-- On-time of a limiter within the window that ends at `t`; of engine transmissions alone with `eng`. -/
def State.onTime (s : State) (lim ch : Nat) (eng : Bool) (t : Nat) : Nat :=
  ((s.gate.onTimes.filter fun o => o.lim = lim && o.ch = ch && (!eng || o.eng)).map fun o =>
    min o.t1 t - max o.t0 (t - (limitOf lim).1)).sum

/-- A transmission of `d` time units starting now is counted against a limiter; old entries go. -/
def State.limAdd (s : State) (lim ch d : Nat) (eng : Bool) : State :=
  { s with gate.onTimes := ⟨lim, ch, s.now, s.now + d, eng⟩ ::
      s.gate.onTimes.filter fun o => s.now ≤ o.t1 + secs 10 }

/-- A transmission of `d` time units that starts at `t`. -/
def State.limAddAt (s : State) (lim ch t d : Nat) (eng : Bool) : State :=
  { s with gate.onTimes := ⟨lim, ch, t, t + d, eng⟩ :: s.gate.onTimes }

/-- An engine transmission of `d` time units would exceed its share (R261, R262). -/
def State.overShare (s : State) (lim ch d : Nat) : Bool :=
  (limitOf lim).2.1 * s.g 0x2440 lim / 100 < s.onTime lim ch true s.now + d

/-- A transmitter is at a ceiling now (R261): its duty sum, or one transmission's continuous time. -/
def State.atCeiling (s : State) (lim ch : Nat) : Bool :=
  (limitOf lim).2.1 ≤ s.onTime lim ch false s.now ||
    s.gate.onTimes.any fun o => o.lim = lim && o.ch = ch && o.t0 + (limitOf lim).2.2 ≤ s.now && s.now < o.t1 + 1

/-- A limiter cuts a transmitter (R262): the transmissions under way end now, the cut is counted and logged. -/
def State.limCut (s : State) (lim ch : Nat) : State :=
  let s1 := { s with gate.onTimes := s.gate.onTimes.map fun (o : OnTime) =>
    if o.lim = lim && o.ch = ch then { o with t1 := min o.t1 s.now } else o }
  ((s1.bump 0x2441 lim).errBit 4 0x2401 0x15 0).logEv 0x08 0 0 [BitVec.ofNat 8 lim, 0xFF]

end Sys2Proof.Machine
end

