-- ==== Sys2Proof/Machine/Radio.lean ====
section
/-! DEFINITION. Transceiver states, calibrations and front-end control (08_radio_control.md). -/
namespace Sys2Proof.Machine

/-- A transceiver of the RF domain. -/
def State.xc (s : State) : Xc → Xcvr
  | .uwb => s.rfc.uwb
  | .ble => s.rfc.ble

/-- A transceiver replaced. -/
def State.setXc (s : State) (x : Xc) (v : Xcvr) : State :=
  match x with
  | .uwb => { s with rfc.uwb := v }
  | .ble => { s with rfc.ble := v }

/-- Element number of a transceiver in the per-transceiver records (R352). -/
def xcSub : Xc → Nat
  | .uwb => 1
  | .ble => 2

/-- OFF to IDLE (R318): 12 µs while the other transceiver is out of OFF, else 35 µs. -/
def State.wakeXc (s : State) (x : Xc) : Nat :=
  if (s.xc (match x with | .uwb => .ble | .ble => .uwb)).st = .off then us 35 else us 12

/-- IDLE to READY (R318). -/
def lockTime : Xc → Nat
  | .uwb => us 45
  | .ble => us 30

/-- The RF domain is powered while either transceiver is out of OFF (R319). -/
def State.rfOn (s : State) : Bool := s.rfc.uwb.st ≠ .off || s.rfc.ble.st ≠ .off

/-- A state entered at `now`; what was on air until then has ended (R343, R344). -/
def Xcvr.enter (v : Xcvr) (st : XcState) (now : Nat) : Xcvr :=
  { v with st := st, since := now, auto := false, pkt := none, byp := false,
           last := if v.st = .tx then some (true, now) else if v.st = .rx then some (false, now) else v.last }

/-- How long before its time a timed transmission is armed (R318). -/
def armLead : Xc → Nat
  | .uwb => us 3
  | .ble => us 4

/-- A transceiver was READY early enough to be armed for a transmission at `t` (R318, R324). -/
def State.armed (s : State) (x : Xc) (t : Nat) : Bool := (s.xc x).st = .ready && (s.xc x).since + armLead x ≤ t

/-- The order of service (R322): class, then time, untimed requests in order of arrival. -/
def XcReq.before (a b : XcReq) : Bool :=
  a.cls < b.cls || (a.cls = b.cls &&
    match a.time, b.time with
    | some t, some u => t < u
    | _, _ => false)

/-- A request enters a queue in its order of service. -/
def insReq (r : XcReq) : List XcReq → List XcReq
  | [] => [r]
  | q :: qs => if r.before q then r :: q :: qs else q :: insReq r qs

/-- A frame or event that a command of its own puts on air: the transceiver stays armed in READY until then (R317). -/
def XcReq.own (r : XcReq) : Bool :=
  match r.use with
  | .asked _ => false
  | .slot _ _ | .aux _ => r.tx
  | .event _ | .adv => true

/-- A timed transmission is dropped with LATE where the transceiver was not armed in time, READY since `since` (R324). Auxiliary frames
and BLE events are dropped by their own commands. -/
def XcReq.late (r : XcReq) (x : Xc) (since now : Nat) : Bool :=
  match r.use, r.time with
  | .asked _, some t => r.tx && !r.lateOk && decide (t < now) && decide (t < since + armLead x)
  | .slot _ _, some t => r.tx && decide (t < now)
  | _, _ => false

/-- A receive window whose original end has passed (R323). -/
def XcReq.over (r : XcReq) (now : Nat) : Bool := !r.tx && (r.fin.map fun e => decide (e ≤ now)).getD false

/-- Timed transmissions whose time has passed are dropped with LATE and counted, a ranging frame as R280 says too (R324); windows that are
over are not opened, and one of the 2.4 GHz transceiver is counted as a miss (R323). -/
def State.dropLate (s : State) (x : Xc) : State :=
  let v := s.xc x
  let late := v.q.filter fun r => r.late x v.since s.now
  let slots := late.filter fun r => match r.use with | .slot _ _ => true | _ => false
  let miss := v.q.filter fun r => r.over s.now && r.use = .asked none
  let s1 := (s.setXc x { v with q := v.q.filter fun r => !r.late x v.since s.now && !r.over s.now }).bumpBy 0x3205 (xcSub x) late.length
  (s1.bumpBy 0x3040 4 slots.length).bumpBy 0x3120 3 (match x with | .uwb => 0 | .ble => miss.length)

/-- A queued request may be served at `now` (R322): a timed one from its time, an untimed one unless a request of a higher class is
queued. An auxiliary frame that is too late waits for the command that answers it. -/
def XcReq.due (r : XcReq) (q : List XcReq) (now : Nat) : Bool :=
  match r.time with
  | none => q.all fun p => r.cls ≤ p.cls
  | some t => decide (t ≤ now) && !(r.own && r.tx && !r.lateOk && decide (t < now))

/-- The request that a transceiver is made ready for (R322): the first in the order of service that is due, else the next in time. -/
def Xcvr.next (v : Xcvr) (now : Nat) : Option XcReq :=
  match v.q.find? fun r => r.due v.q now with
  | some r => some r
  | none => v.q.foldl (fun (b : Option XcReq) r =>
      match b with
      | none => some r
      | some p => if r.time.getD now < p.time.getD now then some r else some p) none

/-- Reception goes through the bypass of the module (R346): the previous packet of the peer arrived above the bypass level. -/
def State.bypRx (s : State) (x : Xc) (r : XcReq) : Bool :=
  match x with
  | .uwb => bit (s.g 0x3250 0) 8 && bit (s.g 0x3250 0) 2 &&
      (((r.peer.bind fun p => s.uwb.lvls.find? fun l => l.1 = p).map fun l => decide (4 * sext 16 (s.g 0x3253 0) < l.2)).getD false)
  | .ble => false

/-- READY serves its queue (R318, R322, R323): on another channel the synthesiser settles again; a request that is due transmits or opens
its window, which closes at its original end; READY waits for any other. -/
def State.serveXc (s0 : State) (x : Xc) : State :=
  let s := s0.dropLate x
  let v := s.xc x
  match v.next s.now with
  | none => s
  | some r =>
    if r.chan ≠ v.chan then s.setXc x { v.enter .settling s.now with chan := r.chan, retry := false }
    else if !r.due v.q s.now || r.own then s
    else
      let t := max v.since (r.time.getD s.now)
      s.setXc x { (v.enter (if r.tx then .tx else .rx) t) with
        q := v.q.eraseIdx (v.q.findIdx (· = r)), pkt := some (t, r.fin), byp := !r.tx && s.bypRx x r }

/-- Time passes for a transceiver (R317, R318): out of OFF it reaches IDLE and starts to settle for its requests, and in READY it serves
those whose time has come. -/
def State.xcSettle (s : State) (x : Xc) : State :=
  let v := s.xc x
  if v.st = .idle && v.run.isNone && decide (v.since ≤ s.now) then
    match v.next s.now with
    | none => s
    | some r => s.setXc x { v.enter .settling v.since with chan := r.chan, retry := false }
  else if v.st = .ready then s.serveXc x
  else s

/-- A request for a transceiver arrives at `t` (R318, R321 to R323): out of OFF it passes through IDLE and SETTLING; a window that
RfcAutoReturn opened ends. RXN sampling stops with a UWB request (R334). -/
def State.xcRequestAt (s : State) (x : Xc) (t : Nat) (r : XcReq) : State :=
  if s.gate.quench || s.pwr.vsup = false || (s.bg.stage = 4 && r.tx) then s
  else
    let v := s.xc x
    let v1 := { v with q := insReq r v.q }
    let v2 := match v.st with
      | .off => v1.enter .idle (t + s.wakeXc x)
      | .idle => if v.q = [] then { v1 with since := max v.since t } else v1
      | .rx => if v.auto then v1.enter .ready t else v1
      | _ => v1
    (s.setXc x v2).xcSettle x

/-- A request for a transceiver arrives now. -/
def State.xcRequest (s : State) (x : Xc) (r : XcReq) : State := s.xcRequestAt x s.now r

/-- Requests of a transceiver that are no longer wanted leave its queue. -/
def State.xcDrop (s : State) (x : Xc) (f : XcUse → Bool) : State :=
  s.setXc x { s.xc x with q := (s.xc x).q.filter fun r => !f r.use }

/-- The synthesiser locks (R318). -/
def State.synthLocked (s : State) (x : Xc) : State :=
  if (s.xc x).st = .settling && (s.xc x).run.isNone then
    (s.setXc x { (s.xc x).enter .ready s.now with retry := false }).serveXc x
  else s

/-- Sub-band of a 2.4 GHz channel number (R327): four sub-bands of ten channels. -/
def subBand (chan : Nat) : Nat := min 3 (chan / 10)

/-- The oscillator calibration of the requested channel or sub-band (R326, R327). -/
def oscJob (x : Xc) (chan : Nat) : CalJob :=
  match x with
  | .uwb => ⟨0, if chan = 9 then 1 else 0⟩
  | .ble => ⟨0, subBand chan⟩

/-- Duration of a calibration (R327). -/
def calDur (x : Xc) (j : CalJob) : Nat :=
  match x with
  | .uwb => if j.kind = 0 then us 120 else if j.kind = 1 then us 150 else us 200
  | .ble => if j.kind = 0 then us 100 else if j.kind = 1 then us 150 else if j.kind = 2 then us 100 else us 150

/-- A request that was to use a lock that failed (R326): a timed one is dropped with LATE, which answers an auxiliary request, and an
untimed one completes with NOT_READY and SYNTH_UNLOCK. -/
def State.unlockDrop (s : State) (x : Xc) (r : XcReq) : State :=
  if r.time.isNone then
    match r.use with
    | .asked (some who) => s.answer who (match x with | .uwb => 0x3200 | .ble => 0x3201) ⟨Rc.notReady, Dt.synthUnlock, []⟩
    | _ => s
  else
    let s1 := s.bump 0x3205 (xcSub x)
    match r.use with
    | .slot _ _ => if r.tx then s1.bump 0x3040 4 else s1
    | .aux who =>
      let mine := fun (a : Aux) => decide (a.who = who) && decide (some a.at_ = r.time)
      let s2 := ({ s1 with uwb.aux := s1.uwb.aux.filter fun a => !mine a }).answer who 0x3060 ⟨Rc.late, 0, []⟩
      match who with
      | .engine n => s2.engEv n 19
      | _ => s2
    | _ => s1

/-- 150 µs after entering SETTLING without a lock (R326): the oscillator calibration and one more attempt, then failure. -/
def State.synthTimeout (s : State) (x : Xc) : State :=
  let v := s.xc x
  if v.st = .settling && v.run.isNone && v.since + us 150 ≤ s.now then
    if v.retry then
      let gone := v.q.filter fun r => r.chan = v.chan
      let s1 := s.setXc x { v.enter .idle s.now with retry := false, q := v.q.filter fun r => r.chan ≠ v.chan }
      let s2 := (s1.bump 0x3206 0).logEv 0x0E 0x06 0x70 [BitVec.ofNat 8 ((xcSub x) - 1), 0xFF]
      gone.foldl (fun s r => s.unlockDrop x r) s2
    else s.setXc x { v with retry := true, run := some (oscJob x v.chan, s.now + calDur x (oscJob x v.chan)) }
  else s

/-- A packet or window ends (R320): the next planned action follows, else RfcAutoReturn. The planned actions of a round are the requests of
its slots, for which READY waits; `planned` is the direction of the next packet of the same connection or advertising event. -/
def State.packetEnd (s : State) (x : Xc) (planned : Option Bool) : State :=
  let v := s.xc x
  if v.st = .tx || v.st = .rx then
    let s1 := s.boundary .bNextPacket
    match (match x with | .uwb => none | .ble => planned) with
    | some tx => s1.setXc x { v.enter (if tx then .tx else .rx) s.now with pkt := some (s.now, none) }
    | none =>
      if v.q ≠ [] then (s1.setXc x (v.enter .ready s.now)).serveXc x
      else
        let m := s1.g 0x3202 (xcSub x)
        if m = 2 then s1.setXc x { v.enter .rx s.now with auto := true, pkt := some (s.now, none) }
        else s1.setXc x (v.enter (if m = 1 then .ready else .idle) s.now)
  else s

/-- RfcKeepReady has passed in READY with nothing queued (R321). -/
def State.keepReadyEnd (s : State) (x : Xc) : State :=
  let v := s.xc x
  if v.st = .ready && v.q = [] && v.since + us (s.g 0x3203 0) ≤ s.now then s.setXc x (v.enter .idle s.now) else s

/-- RfcOffDelay has passed in IDLE with nothing queued and no calibration due (R321). -/
def State.offDelayEnd (s : State) (x : Xc) : State :=
  let v := s.xc x
  if v.st = .idle && v.q = [] && v.cals = [] && v.since + us (s.g 0x3204 0) ≤ s.now then s.setXc x (v.enter .off s.now) else s

/-- The full set of a transceiver (R327). -/
def fullSet : Xc → List CalJob
  | .uwb => [⟨0, 0⟩, ⟨0, 1⟩, ⟨1, 0⟩, ⟨3, 0⟩, ⟨3, 1⟩]
  | .ble => [⟨0, 0⟩, ⟨0, 1⟩, ⟨0, 2⟩, ⟨0, 3⟩, ⟨1, 0⟩, ⟨2, 0⟩, ⟨2, 1⟩, ⟨2, 2⟩, ⟨2, 3⟩, ⟨3, 0⟩]

/-- The calibrations RfcCalRun names for a transceiver (R351). -/
def calSet (x : Xc) (arg : Nat) : List CalJob := (fullSet x).filter fun j => bit arg j.kind

/-- The bit RfcCalRun gives a transceiver (R351). -/
def xcCalBit : Xc → Nat
  | .uwb => 4
  | .ble => 5

/-- The calibrations of a transceiver that RfcCalRun's argument names, none where it does not name the transceiver (R351). -/
def calNamed (x : Xc) (arg : Nat) : List CalJob := if bit arg (xcCalBit x) then calSet x arg else []

/-- Calibrations fall due (R329). -/
def State.calDue (s : State) (x : Xc) (js : List CalJob) (forced full : Bool) : State :=
  let v := s.xc x
  s.setXc x { v with cals := v.cals ++ js.filter (fun j => !v.cals.contains j),
                     forced := v.forced || forced, full := v.full || full }

/-- The next planned use of a transceiver (R330), none where nothing is planned. -/
def State.nextUse (s : State) : Xc → Option Nat
  | .uwb => ((s.uwb.plan.map (·.at_))).min?
  | .ble => ((s.ble.conns.filterMap fun c => c.map (·.anchor)) ++ (if s.ble.advAt = 0 then [] else [s.ble.advAt])).min?

/-- A calibration starts (R318, R325). -/
def State.calStart (s : State) (x : Xc) (j : CalJob) : State :=
  let v := s.xc x
  s.setXc x { v.enter .cal s.now with run := some (j, s.now + calDur x j), cals := v.cals.filter (· ≠ j) }

/-- A gap calibration starts where the gap is long enough (R330). Slots of a planned round and planned events are uses, not packets
queued. -/
def State.gapCal (s : State) (x : Xc) : State :=
  let v := s.xc x
  let ok := fun (t : Nat) (j : CalJob) => decide (s.now + calDur x j + lockTime x + us 3 ≤ t)
  match v.cals with
  | [] => s
  | j :: _ =>
    let free := v.q.all fun r =>
      match r.use, r.time with
      | .slot _ _, some t | .event _, some t | .adv, some t => ok t j
      | _, _ => false
    if (v.st = .idle || v.st = .ready) && decide (v.since ≤ s.now) && free && !s.gate.quench &&
        ((s.nextUse x).map fun t => ok t j).getD true then s.calStart x j
    else s

/-- A transceiver is inside a ranging round or a connection event (R331). -/
def State.inRound (s : State) : Xc → Bool
  | .uwb => s.uwb.air.isSome
  | .ble => s.ble.event.isSome

/-- A forced calibration starts (R329, R331); RfcCalRun's set is forced 1 s after it was asked for. -/
def State.forcedCal (s : State) (x : Xc) : State :=
  let v := s.xc x
  let f := v.forced || (v.forceAt.map fun t => decide (t ≤ s.now)).getD false
  match v.cals with
  | [] => s
  | j :: _ =>
    if f && (v.st = .idle || v.st = .ready) && decide (v.since ≤ s.now) && !s.inRound x && !s.gate.quench then
      (s.setXc x { v with forced := true }).calStart x j
    else s

/-- The accepted result of a calibration is stored (R327, R352); `vals` are the numbers it measured. -/
def State.calStore (s : State) (x : Xc) (j : CalJob) (vals : List Int) : State :=
  let v := fun i => vals.getD i 0
  let u := fun i w => toTwos w (v i)
  match x, j.kind with
  | .uwb, 0 => s.put 0x3220 (j.ix + 1) (u 0 16)
  | .uwb, 1 => s.put 0x3221 0 (u 0 8)
  | .uwb, _ => (s.put 0x3222 (2 * j.ix + 1) (u 0 16)).put 0x3222 (2 * j.ix + 2) (u 1 16)
  | .ble, 0 => s.put 0x3230 (j.ix + 1) (u 0 16)
  | .ble, 1 => s.put 0x3231 0 (u 0 8)
  | .ble, 2 => (s.put 0x3232 (j.ix + 1) (u 0 16 * 65536 + u 1 16)).put 0x3233 0
      (if s.g 0x3233 0 = 0 then u 2 8 else min (s.g 0x3233 0) (u 2 8))
  | .ble, _ => (s.put 0x3234 1 (u 0 16)).put 0x3234 2 (u 1 16)

/-- The acceptance limit of a calibration (R328): lock time in µs for OSC, the code for FBW, the image rejection in dB for IRR, the
residual offset in ADC LSB for DCO. -/
def calAccepted (j : CalJob) (vals : List Int) (metric : Int) : Bool :=
  if j.kind = 0 then metric ≤ 20
  else if j.kind = 1 then 0 ≤ vals.getD 0 0 && vals.getD 0 0 ≤ 63
  else if j.kind = 2 then 35 ≤ metric
  else -4 < metric && metric < 4

/-- IDLE in the CKS cycle after the last calibration (R318); requests that arrived meanwhile start their transition from there (R323). -/
def Xcvr.afterCal (v : Xcvr) (now : Nat) : Xcvr := v.enter .idle (now + cks 1)

/-- A calibration ends (R325 to R328): stored or rejected, then the next of a forced set, the second lock attempt, or IDLE. The
answer of RfcCalRun is due when its last calibration has ended. -/
def State.calDone (s : State) (x : Xc) (vals : List Int) (metric : Int) : State :=
  let v := s.xc x
  match v.run with
  | none => s
  | some (j, due) =>
    if s.now < due then s
    else
      let ok := calAccepted j vals metric
      let bitNo := j.kind
      let mask := 2 ^ bitNo ||| 2 ^ (xcCalBit x)
      let s1 := s.bump 0x3215 5
      let s2 := if ok then ((s1.calStore x j vals).put 0x3215 1 (s1.g 0x3215 1 ||| mask)).put 0x3215 2
            (clrBit (s1.g 0x3215 2) bitNo)
        else (s1.put 0x3215 2 (s1.g 0x3215 2 ||| mask)).logEv 0x0E 0 0 [BitVec.ofNat 8 ((xcSub x) - 1), BitVec.ofNat 8 mask]
      let s3 := if ok then s2
        else { s2 with rfc.cmds := s2.rfc.cmds.map fun c => if (calNamed x c.arg).contains j then { c with bad := setBit c.bad bitNo } else c }
      let v3 : Xcvr := { s3.xc x with run := none, dcoAt := if j.kind = 3 then s3.now else (s3.xc x).dcoAt }
      if v3.st = .settling then s3.setXc x { v3 with since := s3.now }
      else
        match v3.cals with
        | k :: _ => if v3.forced then (s3.setXc x v3).calStart x k else s3.setXc x (v3.afterCal s3.now)
        | [] =>
          let s4 := if v3.full then s3.put 0x3215 ((xcSub x) + 2) (s3.g 0x3214 0) else s3
          s4.setXc x { v3.afterCal s4.now with full := false, forced := false, forceAt := none }

/-- Every calibration that a RfcCalRun named has ended (R351). -/
def State.calCmdDone (s : State) (c : CalCmd) : Bool :=
  [Xc.uwb, .ble].all fun x => (calNamed x c.arg).all fun j => !(s.xc x).cals.contains j && (s.xc x).run.map (·.1) ≠ some j

/-- A calibration of a named transceiver is running or waiting (R334). -/
def State.calBusy (s : State) (arg : Nat) : Bool :=
  [Xc.uwb, .ble].any fun x => bit arg (xcCalBit x) && ((s.xc x).cals ≠ [] || (s.xc x).run.isSome)

/-- RfcCalRun (R351): the named calibrations are requested, to be forced after 1 s (R329). -/
def State.calRun (s : State) (who : Requester) (arg : Nat) : State :=
  let one := fun (s : State) (x : Xc) =>
    if calNamed x arg = [] then s
    else
      let s1 := s.calDue x (calNamed x arg) false false
      s1.setXc x { s1.xc x with forceAt := some (s1.now + secs 1) }
  let s1 := one (one s .uwb) .ble
  { s1 with rfc.cmds := s1.rfc.cmds ++ [⟨who, arg, 0⟩] }

/-- The die temperature as signed tenths of a degree (R352). -/
def State.dieTemp (s : State) : Int := sext 16 (s.g 0x3214 0)

/-- Anneal evaluates the triggers (R329): temperature steps since each transceiver's last full set, and the age of its DCO. -/
def State.anneal (s : State) (temp : Int) : State :=
  let s0 := { s.put 0x3214 0 (toTwos 16 temp) with bg.annealDue := s.now + secs 1 }
  [Xc.uwb, .ble].foldl (fun s x =>
    let d := (temp - sext 16 (s.g 0x3215 ((xcSub x) + 2))).natAbs
    let s1 := if s.g 0x3212 0 * 10 ≤ d then s.calDue x (fullSet x) true true
      else if s.g 0x3211 0 * 10 ≤ d then s.calDue x (fullSet x) false true else s
    if (s1.xc x).dcoAt + secs (s1.g 0x3213 0) ≤ s1.now then
      s1.calDue x ((fullSet x).filter (·.kind = 3)) false false
    else s1) s0

/-- Every transmitter is cut (R672): what is on air ends and no queued transmission follows. A calibration goes on (R325). -/
def State.txCut (s : State) : State :=
  let f := fun (v : Xcvr) =>
    let v1 := { v with q := v.q.filter fun r => !r.tx }
    if v.st = .tx then v1.enter .idle s.now else v1
  { s with rfc.uwb := f s.rfc.uwb, rfc.ble := f s.rfc.ble }

/-- Quench, a reset and the loss of VSUP hold both transceivers in OFF and end their calibrations (R325, R334). -/
def State.radioOff (s : State) : State :=
  let f := fun (v : Xcvr) => { v.enter .off s.now with q := [], cals := [], run := none, forced := false, full := false,
                                                       forceAt := none, retry := false }
  let s1 := { s with rfc.uwb := f s.rfc.uwb, rfc.ble := f s.rfc.ble, rfc.cmds := [] }
  s.rfc.cmds.foldl (fun s c => s.answer c.who 0x3210 ⟨if s.gate.quench then Rc.quenched else Rc.notReady, 0, []⟩) s1

/-! ### Front-end modules (R340 to R349) -/

/-- The module of a transceiver: configuration object (R341). -/
def xcFem : Xc → Nat
  | .uwb => 0x3250
  | .ble => 0x3258

/-- ENABLE of a module. -/
def State.femOn (s : State) (x : Xc) : Bool := bit (s.g (xcFem x) 0) 8

/-- Port 1 or BLE_ANT1 is not selectable (R342): the module is enabled with ASEL_USED clear. -/
def State.oneAnt (s : State) (x : Xc) : Bool := s.femOn x && !bit (s.g (xcFem x) 0) 3

/-- A transmission passes through the module: the 2.4 GHz module always, the UWB module on ports 0 and 1 (R340). -/
def State.femPath (s : State) (x : Xc) : Bool := s.femOn x && (match x with | .uwb => s.g 0x300F 0 ≤ 1 | .ble => true)

/-- The antenna of the packet or window under way, or about to be, is the second one (R340, R343, R344). -/
def State.femAlt (s : State) (x : Xc) (tx : Bool) : Bool :=
  match x with
  | .uwb => if tx then s.g 0x300F 0 = 1 else s.rfc.ant.getD 0 false
  | .ble =>
    match s.ble.event with
    | some c => ((s.ble.conns.getD c none).map BleConn.ant).getD false
    | none => s.ble.advAnt

/-- The 2.4 GHz output goes through the bypass (R348). -/
def State.bleBypassTx (s : State) : Bool := sext 16 (s.g 0x3104 0) ≤ 8 && bit (s.g 0x3258 0) 2

/-- A transmission of this transceiver enables the PA of its module (R343, R348). -/
def State.paUsed (s : State) (x : Xc) : Bool :=
  s.femPath x && bit (s.g (xcFem x) 0) 0 && (match x with | .uwb => true | .ble => !s.bleBypassTx)

/-- A time of a module in ns (R343): PA lead 1, PA lag 2, LNA lead 3, dead time 4. -/
def State.femTime (s : State) (x : Xc) (i : Nat) : Nat := s.g (xcFem x + 1) i * 2496 / 1000

/-- How long PAEN is active for a transmission of `d` time units (R343, R345). -/
def State.paTime (s : State) (x : Xc) (d : Nat) : Nat := if s.paUsed x then s.femTime x 1 + d + s.femTime x 2 else 0

/-- Active levels of PAEN, LNAEN, BYP and ASEL of a module now (R342 to R346). PAEN is active from the PA lead before a transmission to the
PA lag after it, LNAEN or BYP from the LNA lead before a window to 0.1 µs after it, and neither within the dead time of the other. -/
def State.femActive (s : State) (x : Xc) : Bool × Bool × Bool × Bool :=
  let v := s.xc x
  let cfg := s.g (xcFem x) 0
  if !s.femOn x || v.st = .off || v.st = .cal || s.gate.quench || s.pwr.held || !s.rfOn then (false, false, false, false)
  else
    let soon := fun (tx : Bool) (d : Nat) =>
      v.st = .ready && v.q.any fun r => r.tx = tx && (r.time.map fun t => decide (s.now < t) && decide (t ≤ s.now + d)).getD false
    let after := fun (tx : Bool) (d : Nat) =>
      match v.last with
      | some (b, e) => b = tx && decide (s.now < e + d)
      | none => false
    let dead := s.femTime x 4
    let tx := s.femPath x && (v.st = .tx || soon true (s.femTime x 1) || after true (s.femTime x 2))
    let txNear := s.femPath x && (soon true (s.femTime x 1 + dead) || after true (s.femTime x 2 + dead))
    let rx := (v.st = .rx || soon false (s.femTime x 3) || after false (us 1 / 10)) && !tx && !txNear
    let byp := bit cfg 2 && (if tx then !s.paUsed x else v.byp)
    (tx && s.paUsed x, rx && bit cfg 1 && !byp, (tx || rx) && byp, bit cfg 3 && s.femAlt x (tx || txNear))

/-- Levels driven on one module's four pins, PAEN in bit 0 (R342, R352). -/
def State.femNibble (s : State) (x : Xc) : Nat :=
  let a := s.femActive x
  let cfg := s.g (xcFem x) 0
  if !s.femOn x then 0
  else
    b2n (a.1 != bit cfg 4) + 2 * b2n (a.2.1 != bit cfg 5) + 4 * b2n (a.2.2.1 != bit cfg 6) + 8 * b2n (a.2.2.2 != bit cfg 7)

/-- RfcFemPins (R352). -/
def State.femPins (s : State) : Nat := s.femNibble .uwb + 16 * s.femNibble .ble

/-- An output power at the antenna that the module and the transceiver can make (R348). -/
def State.femPowerOk (s : State) (p : Int) : Bool :=
  let cfg := s.g 0x3258 0
  if !bit cfg 8 then -20 ≤ p && p ≤ 8
  else
    let gain : Int := (s.g 0x325A 1 : Int)
    let loss : Int := (s.g 0x325A 3 : Int)
    let q := 4 * p
    if p > 20 then false
    else if p ≤ 8 && bit cfg 2 then -80 ≤ q + loss && q + loss ≤ 32
    else if bit cfg 0 then -80 ≤ q - gain && q - gain ≤ 32
    else -80 ≤ q && q ≤ 32

/-- A module configuration R349 permits. -/
def femCfgOk (ble : Bool) (v : Nat) : Bool :=
  bits v 9 7 = 0 && (!bit v 8 || (bits v 0 3 ≠ 0 && !(ble && !bit v 2 && !bit v 0)))

/-- The 2.4 GHz module receives a packet through its bypass (R346): `last` is the previous RSSI of the same peer at the antenna. -/
def State.bleBypRx (s : State) (last : Option Int) : Bool :=
  bit (s.g 0x3258 0) 8 && bit (s.g 0x3258 0) 2 && (last.map fun l => decide (sext 16 (s.g 0x325B 0) < l)).getD false

/-- A level at the ball in quarter dB referred to the antenna (R344): the bypass loss added, or the LNA gain subtracted. -/
def State.levelAtAntenna (s : State) (x : Xc) (raw : Int) (byp : Bool) : Int :=
  let cfg := s.g (xcFem x) 0
  if !bit cfg 8 then raw
  else if byp then raw + (s.g (xcFem x + 2) 3 : Int)
  else if bit cfg 1 then raw - (s.g (xcFem x + 2) 2 : Int)
  else raw

/-- The RSSI of a packet referred to the antenna (R344, R346), rounded to the nearest dBm. `raw` is the RSSI at the ball in quarter dB,
`last` the previous RSSI of the same peer. -/
def State.rssiAtAntenna (s : State) (raw : Int) (last : Option Int) : Int :=
  (s.levelAtAntenna .ble raw (s.bleBypRx last) * 2 + 4) / 8

end Sys2Proof.Machine
end

