-- ==== Sys2Proof/Machine/Sync.lean ====
section
/-! DEFINITION. Anchor synchronisation by radio (R615 to R617) and the arithmetic of TS42 stamps (R275 to R277). -/
namespace Sys2Proof.Machine

/-- The signed difference of two TS42 stamps modulo 2^42 (R277). -/
def diff42 (a b : Int) : Int :=
  let d := (a - b) % (2 ^ 42 : Nat)
  if d < (2 ^ 41 : Nat) then d else d - (2 ^ 42 : Nat)

/-- The difference of two mapped timestamps, modulo 2^42 (R277): in [-2^41, 2^41). -/
def ratDiff42 (a b : Rat) : Rat :=
  let d := a - b
  d - (2 ^ 42 : Nat) * ((d + (2 ^ 41 : Nat)) / (2 ^ 42 : Nat)).floor

/-- The integer square root, by its bits from `2 ^ n` down. -/
def isqrtBits : Nat → Nat → Nat → Nat
  | 0, v, r => if (r + 1) * (r + 1) ≤ v then r + 1 else r
  | n + 1, v, r => isqrtBits n v (if (r + 2 ^ (n + 1)) * (r + 2 ^ (n + 1)) ≤ v then r + 2 ^ (n + 1) else r)

/-- The integer square root of numbers below 2^128. -/
def isqrt (v : Nat) : Nat := isqrtBits 63 v 0

/-- A rational rounded to the nearest integer, halves away from zero (R305). -/
def roundHalfAway (q : Rat) : Int := if q < 0 then -((-q + 1 / 2).floor) else (q + 1 / 2).floor

/-- Position of a node, X, Y, Z in mm (R615). -/
def State.anchorPos (s : State) (n : Nat) : Int × Int × Int :=
  let v := s.g 0x4212 (n + 1)
  (sext 16 (bits v 0 16), sext 16 (bits v 16 16), sext 16 (bits v 32 16))

/-- The known time of flight between two nodes in units of 3.9125 ps (R615): the distance in mm over 1.172938, rounded. The
distance is taken to 1/1000 mm. -/
def State.tof (s : State) (i j : Nat) : Int :=
  let a := s.anchorPos i
  let b := s.anchorPos j
  let d2 := (a.1 - b.1) ^ 2 + (a.2.1 - b.2.1) ^ 2 + (a.2.2 - b.2.2) ^ 2
  ((isqrt (4 * d2.toNat * 10 ^ 12 / 1172938 ^ 2) + 1) / 2 : Nat)

/-- An anchor that may be synchronised (R615). -/
def State.anchorPlaced (s : State) (n : Nat) : Bool := n = 0 || s.g 0x4212 (n + 1) ≠ 0

/-- What the manager knows of a node. -/
def State.wnode (s : State) (n : Nat) : WNode := s.seg.nodes.getD n .reset

/-- An anchor stamp mapped onto the manager's RCNT (R616); the manager's own maps to itself. -/
def State.toMgr (s : State) (n : Nat) (t : Int) : Rat :=
  if n = s.seg.node then (t : Rat)
  else (t : Rat) + (s.wnode n).off + (s.wnode n).rate * (diff42 t (s.wnode n).tref : Rat)

/-- A manager stamp mapped onto an anchor's RCNT by the inverse model, to the launch grain of 512 RCNT ticks (R609). -/
def State.fromMgr (s : State) (n : Nat) (t : Nat) : Nat :=
  let w := s.wnode n
  let x : Rat := ((4 * t : Nat) : Rat) - w.off
  let y : Rat := (x + w.rate * (w.tref : Rat)) / (1 + w.rate)
  (((y / 2048).floor * 512) % (2 ^ 40 : Nat)).toNat

/-- SegSyncResidual of a node (R617): the RMS of the last 8 residuals in ps. -/
def State.residual (s : State) (n : Nat) : Nat :=
  let w := s.wnode n
  if w.resid.length < 8 || !((w.obsAt.map fun t => decide (s.now ≤ t + ms (s.g 0x4207 0))).getD false) then 0xFFFF
  else
    let sq : Rat := (w.resid.map fun r => r * r).foldl (· + ·) 0
    let ps2 : Rat := sq * (39125 * 39125 : Nat) / (8 * 100000000 : Nat)
    min 0xFFFE (isqrt ps2.floor.toNat)

/-- One observation of the manager's time minus a node's, at the node's stamp `rx` (R616). -/
def State.observe (s : State) (n : Nat) (o : Rat) (rx : Nat) : State :=
  if n = s.seg.node || !s.anchorPlaced n then s
  else
    let s := s.boundary .bNextObservation
    let w := s.wnode n
    let dt := diff42 rx w.tref
    let pred := w.off + w.rate * (dt : Rat)
    let r := o - pred
    let old := (w.obsAt.map fun t => decide (t + ms 100 ≤ s.now)).getD false
    let w1 : WNode := { w with
      off := pred + r / 4, tref := rx, rate := if old && dt ≠ 0 then w.rate + r / (4 * (dt : Rat)) else w.rate,
      obsAt := some s.now, resid := (r :: w.resid).take 8 }
    { s with seg.nodes := putAt s.seg.nodes n w1 }

/-- The pair condition of a TDOA item's TIME_LOCKED (R617). -/
def State.pairLocked (s : State) (a b : Nat) : Bool :=
  let r := fun n => if n = s.seg.node then 0 else s.residual n
  let lk := fun n => if n = s.seg.node then s.time.qual = 2 else (s.wnode n).locked
  r a ≠ 0xFFFF && r b ≠ 0xFFFF && r a + r b ≤ s.g 0x4113 0 && lk a && lk b

end Sys2Proof.Machine
end

