-- ==== Sys2Proof/Machine/Touchstone.lean ====
section
/-! DEFINITION. The Touchstone proximity judge (05_touchstone_proximity.md): admission, vetoes, zone tables and TsApply, verdict
requests and evaluations, ranging demands. -/
namespace Sys2Proof.Machine

/-- An item from its 16 octets (R203). -/
def Item.ofBytes (b : Bytes) : Item :=
  ⟨byteAt 0 b, byteAt 1 b, byteAt 2 b, byteAt 3 b, leAt 4 2 b, leAt 6 2 b, leAt 8 2 b, byteAt 10 b, byteAt 11 b,
   sext 32 (leAt 12 4 b)⟩

/-- The 16 octets of an item (R203). -/
def Item.toBytes (i : Item) : Bytes :=
  [i.kind, i.src, i.src2, i.flags].map (BitVec.ofNat 8) ++ toLe 2 i.tsh ++ toLe 2 i.round ++ toLe 2 i.age ++
    [BitVec.ofNat 8 i.qual, BitVec.ofNat 8 i.rsvd] ++ toLe 4 (toTwos 32 i.value)

/-! ### Constraints and tables -/

/-- Fields of a constraint word (R217). -/
def cKind (c : Nat) : Nat := bits c 60 4
/-- SRC of a constraint word (R217). -/
def cSrc (c : Nat) : Nat := bits c 56 4
/-- SRC2 of a constraint word (R217). -/
def cSrc2 (c : Nat) : Nat := bits c 52 4
/-- QMIN of a constraint word (R217). -/
def cQmin (c : Nat) : Nat := bits c 40 8
/-- WIDE_OK of a constraint word (R217). -/
def cWide (c : Nat) : Bool := bit c 48
/-- LO of a constraint word, read as R218 states. -/
def cLo (c : Nat) : Int := if [2, 3, 6].contains (cKind c) then sext 16 (bits c 16 16) else (bits c 16 16 : Nat)
/-- HI of a constraint word, read as R218 states. -/
def cHi (c : Nat) : Int := if [2, 3, 6].contains (cKind c) then sext 16 (bits c 0 16) else (bits c 0 16 : Nat)

/-- The slot key a constraint refers to (R212, R218). -/
def cKey (c : Nat) : SlotKey := if cKind c = 6 then (6, 0, 0) else (cKind c, cSrc c, cSrc2 c)

/-- RANGE, TDOA and ANGLE (R232). -/
def isRadio (k : Nat) : Bool := k = 1 || k = 2 || k = 3

/-- A word that a write of TsConstraint may hold: no reserved bit and no reserved KIND (R217). -/
def constraintOk (c : Nat) : Bool := bits c 49 3 = 0 && bits c 32 8 = 0 && cKind c ≤ 6

/-- The zone table that a reading of the objects gives (R217, R220, R221). -/
def tsTableOf (rd : Nat → Nat → Nat) (ver : Nat) : TsTable :=
  { ver := ver, fresh := rd 0x2302 0, hold := rd 0x2303 0, grace := rd 0x2304 0,
    pol := (List.range 4).map fun g => (rd (0x2310 + g) 1, rd (0x2310 + g) 2, rd (0x2310 + g) 3),
    zones := (List.range 16).map fun z =>
      (bit (rd (0x2320 + z) 1) 0, (List.range 8).map fun k => rd (0x2320 + z) (k + 2)) }

/-- Policy of a gate: zones, window in ms, flags. -/
def TsTable.policy (t : TsTable) (g : Nat) : Nat × Nat × Nat := t.pol.getD g (0, 0, 0)

/-- Zone z of a table. -/
def TsTable.zone (t : TsTable) (z : Nat) : Bool × List Nat := t.zones.getD z (false, [])

/-- The set of zones with ENABLE (R220). -/
def TsTable.enabled (t : TsTable) : Nat := (t.zones.zipIdx.map fun p => if p.1.1 then 2 ^ p.2 else 0).sum

/-- The slot keys an enabled zone references, in order of first reference (R212, R213). -/
def TsTable.keys (t : TsTable) : List SlotKey :=
  ((t.zones.filter (·.1)).map fun z => (z.2.filter fun c => cKind c ≠ 0).map cKey).flatten.eraseDups

/-- The zone tables Touchstone holds: the one in force, and those that open requests use (R225). -/
def State.tsHeld (s : State) : List TsTable :=
  s.ts.cur :: ((s.ts.reqs.map (·.table)).filter fun t => t.ver ≠ s.ts.cur.ver)

/-- The slot keys of a token session, numbered (R213). -/
def State.tsKeys (s : State) : List SlotKey := ((s.tsHeld.map TsTable.keys).flatten).eraseDups

/-- The first fault of one constraint (R223, R224): its REASON. -/
def constraintFault (c : Nat) : Option Nat :=
  let k := cKind c
  if k = 0 then (if c = 0 then none else some 1)
  else if cHi c < cLo c then some 2
  else if k = 2 && cSrc2 c ≤ cSrc c then some 2
  else if k = 3 && (cLo c < -900 || 900 < cLo c || cHi c < -900 || 900 < cHi c) then some 3
  else if (k = 1 || k = 3 || k = 6) && cSrc2 c ≠ 0 then some 3
  else if k = 6 && cSrc c ≠ 0 then some 3
  else if (k = 4 && 3 < cSrc2 c) || (k = 5 && 1 < cSrc2 c) then some 3
  else if (k = 4 || k = 5) && (bits c 0 32 ≠ 0) then some 3
  else if k = 6 && cQmin c ≠ 0 then some 3
  else none

/-- The first fault of an enabled zone: constraint and REASON (R223). -/
def zoneFault (cs : List Nat) : Option (Nat × Nat) :=
  match cs.zipIdx.findSome? fun p => (constraintFault p.1).map fun r => (p.2, r) with
  | some x => some x
  | none =>
    if cs.all (cKind · = 0) then some (0xF, 4)
    else if cs.all fun c => cKind c = 0 || cKind c = 6 then some (0xF, 5)
    else none

/-- The first failure of a table as TsApplyError shows it (R222, R224). -/
def tableFault (t : TsTable) : Option Nat :=
  t.zones.zipIdx.findSome? fun p =>
    if p.1.1 then (zoneFault p.1.2).map fun f => p.2 * 256 + f.1 * 16 + f.2 else none

/-- Slots that no zone table held references any more are gone, with their items (R212, R225). -/
def State.tsPrune (s : State) : State :=
  let ks := s.tsKeys
  { s with ts.store := s.ts.store.filter fun e => ks.contains e.key }

/-- TsApply (R222, R225): code, detail and the state after. -/
def State.tsApply (s : State) : (Nat × Nat) × State :=
  if s.ts.reqs.any fun q => q.table.ver ≠ s.ts.cur.ver then ((0x03, 0x02), s)
  else
    match tableFault (tsTableOf s.gp 0) with
    | some e => ((0x04, 0), s.put 0x2306 0 e)
    | none =>
      let s1 := (s.boundary .bNextTsApply).put 0x2306 0 0
      let v := (s1.g 0x2305 0 + 1) % 2 ^ 32
      let s2 := s1.put 0x2305 0 v
      ((0, 0), { s2 with ts.cur := tsTableOf s2.g v }.tsPrune)

/-! ### Judging -/

/-- The zones a key permits (R220). -/
def State.keyZones (s : State) : KeyRef → Nat
  | .tok n => ((s.acc.toks[n]?).map TokEntry.zones).getD 0
  | .cred n => ((s.acc.cache.find? fun p => p.1 = n).map fun p => p.2.zones).getD 0

/-- A token session is under veto at `t` (R215). -/
def State.vetoed (s : State) (tsh t : Nat) : Bool := s.ts.vetoes.any fun v => v.1 = tsh && t < v.2

/-- The slot of a token session for a key (R212). -/
def State.slotOf (s : State) (tsh : Nat) (k : SlotKey) : Option Ev :=
  s.ts.store.find? fun e => e.tsh = tsh && e.key = k

/-- The judgement of one constraint (R232): 0 for OK, else the detail of R233. -/
def State.judge (s : State) (q : VReq) (c t : Nat) : Nat :=
  let flags := (q.table.policy q.gate).2.2
  if s.vetoed q.tsh t && (isRadio (cKind c) || bit flags 1) then 0x44
  else
    let missing := if cKind c = 2 && s.time.qual ≠ 2 then 0x45 else if q.stale.contains (cKey c) then 0x46 else 0x41
    match s.slotOf q.tsh (cKey c) with
    | none => missing
    | some e =>
      if ms q.table.fresh < t - e.tm || (bit flags 0 && e.tm < q.trig) then missing
      else if cKind c ≠ 6 && e.qual < cQmin c then 0x43
      else if cKind c = 3 && bit e.flags 3 && !cWide c then 0x42
      else
        let v := if cKind c = 1 && e.value < 0 then 0 else e.value
        if cLo c ≤ v && v ≤ cHi c then 0 else 0x42

/-- The judgements of a zone's constraints other than NONE, with their numbers. -/
def State.judgeZone (s : State) (q : VReq) (z t : Nat) : List (Nat × Nat) :=
  (((q.table.zone z).2.zipIdx.filter fun p => cKind p.1 ≠ 0).map fun p => (p.2, s.judge q p.1 t))

/-- Zones permitted for a request (R220). -/
def State.permitted (s : State) (q : VReq) : Nat :=
  (q.table.policy q.gate).1 &&& s.keyZones q.key &&& q.table.enabled

/-- The earliest measurement time among the items of a zone (R235). -/
def State.zoneTm (s : State) (q : VReq) (z : Nat) : Nat :=
  (((q.table.zone z).2.filter fun c => cKind c ≠ 0).filterMap fun c => (s.slotOf q.tsh (cKey c)).map (·.tm)).min?.getD s.now

/-- One evaluation of a request at `t` (R230 to R233, R235). -/
def State.evaluate (s : State) (q : VReq) (t : Nat) : Verdict :=
  let p := s.permitted q
  if p = 0 then ⟨false, true, 0x40, 0, 0xFF, 0xF, 0⟩
  else
    let zs := (List.range 16).filter fun z => p.testBit z
    let js := zs.map fun z => (z, s.judgeZone q z t)
    let sat := (js.filter fun j => j.2.all (·.2 = 0)).map (·.1)
    match sat with
    | z :: _ => ⟨true, true, 0, (sat.map (2 ^ ·)).sum, z, 0xF, s.zoneTm q z + ms q.table.fresh⟩
    | [] =>
      let score := fun (j : Nat × List (Nat × Nat)) => (j.2.filter (·.2 = 0)).length
      let best := js.foldl (fun (b : Option (Nat × List (Nat × Nat))) j =>
        match b with
        | none => some j
        | some x => if score x < score j then some j else some x) none
      match best with
      | none => ⟨false, decide (q.wend ≤ t), 0x41, 0, 0xFF, 0xF, 0⟩
      | some b =>
        let f := (b.2.find? (·.2 ≠ 0)).getD (0xF, 0x41)
        ⟨false, decide (q.wend ≤ t), f.2, 0, b.1, f.1, 0⟩

/-- When an evaluation completes: 50 CKS cycles after its start (R230). -/
def Eval.due (e : Eval) : Nat := e.start + cks 50

/-- An evaluation is called for at `t`: it starts in the first CKS cycle from then on in which none has started (R229, R230). -/
def State.startEval (s : State) (q : VReq) (t : Nat) : State :=
  let st := max t s.ts.evAt
  { s with ts.evals := s.ts.evals ++ [⟨q.tsh, q.gate, st, none⟩], ts.evAt := st + cks 1 }

/-- Evaluations that have started by `t` judge the store as it stands (R230). A request that is no longer there has none. -/
def State.tsSettle (s : State) (t : Nat) : State :=
  { s with ts.evals := s.ts.evals.map fun (e : Eval) =>
      if e.res.isNone && e.start ≤ t then
        { e with res := (s.ts.reqs.find? fun q => q.tsh = e.tsh && q.gate = e.gate).map fun q => s.evaluate q e.start }
      else e }

/-- The radio constraints a request still needs (R234). -/
def State.needed (s : State) (q : VReq) : List Nat :=
  let zs := (List.range 16).filter fun z => (s.permitted q).testBit z
  (zs.map fun z => (q.table.zone z).2.filter fun c => isRadio (cKind c) && s.judge q c s.now ≠ 0).flatten

/-- The anchors that constraints name (R234). -/
def anchorsOf (cs : List Nat) : List Nat :=
  ((cs.map fun c => if cKind c = 2 then [cSrc c, cSrc2 c] else [cSrc c]).flatten.eraseDups).mergeSort (· ≤ ·)

/-- A request replaced in the list of requests. -/
def State.putReq (s : State) (q : VReq) : State :=
  { s with ts.reqs := s.ts.reqs.map fun (r : VReq) => if r.tsh = q.tsh && r.gate = q.gate then q else r }

/-- A ranging demand is raised for a request, where a radio constraint lacks an item (R234). -/
def State.raiseDemand (s : State) (q : VReq) : State :=
  match s.needed q with
  | [] => s
  | cs =>
    { s.putReq { q with asked := true } with
      ts.demands := (s.ts.demands.filter fun (d : Demand) => d.tsh ≠ q.tsh || d.gate ≠ q.gate) ++
        [⟨q.tsh, q.gate, anchorsOf cs, cs.all fun c => decide (cKind c = 2), s.now⟩] }

/-- A verdict request opens, replacing one for the same session and gate (R227 to R229, R234). -/
def State.openReq (s : State) (tsh gate : Nat) (start : Bool) (key : KeyRef) (trig : Nat) : State :=
  if s.seg.role ≠ .manager || (s.twinCfg && s.twin.st = .isolated) then s
  else
    let q : VReq := ⟨tsh, gate, start, key, trig, s.now + ms (s.ts.cur.policy gate).2.1, s.now, s.ts.cur, [], none, none, false⟩
    let s1 := { s with ts.reqs := (s.ts.reqs.filter fun (r : VReq) => r.tsh ≠ tsh || r.gate ≠ gate) ++ [q],
                       ts.evals := s.ts.evals.filter fun (e : Eval) => e.tsh ≠ tsh || e.gate ≠ gate }
    (s1.startEval q s.now).raiseDemand q

/-- The requests of a session still without a verdict, in ascending gate number (R229). -/
def State.openReqs (s : State) (tsh : Nat) : List VReq :=
  (s.ts.reqs.filter fun q => q.tsh = tsh && q.ok.isNone).mergeSort fun a b => a.gate ≤ b.gate

/-- Evaluations of every open request of a session, called for at `t` (R229). -/
def State.evalAll (s : State) (tsh t : Nat) : State :=
  (s.openReqs tsh).foldl (fun s q => s.startEval q t) s

/-- The reason counters of TsRejectCount (R236): 1 FORMAT to 6 VETO. -/
def State.tsReject (s : State) (n : Nat) : State := s.bump 0x2341 n

/-- Check 1 of R210. -/
def Item.formatOk (i : Item) : Bool :=
  1 ≤ i.kind && i.kind ≤ 6 && i.rsvd = 0 && i.flags < 16 && i.src ≤ 15 &&
    (if i.kind = 2 then i.src2 ≤ 15 && i.src2 ≠ i.src else if i.kind = 4 then i.src2 ≤ 3
     else if i.kind = 5 then i.src2 ≤ 1 else i.src2 = 0)

/-- The slot key of an item, normalised (R211, R212). -/
def Item.key (i : Item) : SlotKey :=
  if i.kind = 6 then (6, 0, 0) else if i.kind = 2 && i.src2 < i.src then (2, i.src2, i.src) else (i.kind, i.src, i.src2)

/-- The measurement time of an item admitted at `t` (R206): none where its round is not known. `own` is the stamp of a unit of this
device. -/
def State.itemTm (s : State) (i : Item) (own : Option Nat) (t : Nat) : Option Nat :=
  if i.round ≠ 0 then (s.ts.launches.find? fun l => l.1 = i.round).map (·.2)
  else match own with
    | some t => some t
    | none => some (t - us (10 * i.age))

/-- A veto item is admitted at `t` (R215). -/
def State.tsVeto (s : State) (i : Item) (t : Nat) : State :=
  let s1 := { s with
    ts.store := s.ts.store.filter fun e => e.tsh ≠ i.tsh || !isRadio e.key.1,
    ts.vetoes := (i.tsh, t + ms s.ts.cur.hold) :: s.ts.vetoes.filter fun v => v.1 ≠ i.tsh }
  ((s1.tsReject 6).logEv 0x03 0 0 (toLe 2 i.tsh ++ i.toBytes)).evalAll i.tsh t

/-- An item fails the freshness check while requests of its session are open (R210, R233). -/
def State.tsStale (s : State) (i : Item) : State :=
  (s.openReqs i.tsh).foldl (fun s q =>
    let q1 := { q with stale := i.key :: q.stale }
    let s1 := s.putReq q1
    let inGrace := q.asked || (q.launch.map fun l => decide (s.now < l + ms q.table.grace)).getD false
    if inGrace then s1 else s1.raiseDemand q1) (s.tsReject 4)

/-- TsState (R720), which follows the role: 0 OFF, 1 RUNNING, 2 MIRROR. An ISOLATED twin is MIRROR. -/
def State.tsState (s : State) : Nat :=
  match s.seg.role with
  | .manager => if s.twinCfg && s.twin.st = .isolated then 2 else 1
  | .standby | .isolated => 2
  | _ => 0

/-- The checks of R210 for one item, admitted at `t`. -/
def State.tsJudge (s : State) (i : Item) (own : Option Nat) (t : Nat) : State :=
  if !i.formatOk then s.tsReject 1
  else if !(s.acc.ses.any fun x => (x.map fun e => e.tsh == i.tsh).getD false) then s.tsReject 2
  else if !s.tsKeys.contains i.key then s.tsReject 3
  else
    match s.itemTm i own t with
    | none => s.tsStale i
    | some tm =>
      if ms s.ts.cur.fresh < t - tm then s.tsStale i
      else if i.kind = 2 && !(bit i.flags 2 && s.time.qual = 2) then s.tsReject 5
      else if isRadio i.kind && !(bit i.flags 0 && !bit i.flags 1) then s.tsVeto i t
      else
        let v := if i.kind = 2 && i.src2 < i.src then -i.value else i.value
        let e : Ev := ⟨i.tsh, i.key, i.flags, i.round, i.qual, v, tm⟩
        let s1 := { s with ts.store := e :: s.ts.store.filter fun x => x.tsh ≠ e.tsh || x.key ≠ e.key }
        (s1.bump 0x2342 0).evalAll i.tsh t

/-- Touchstone's admission of one item (R209 to R215), in the first CKS cycle that no other item has taken: evaluations that started
before have judged the store without it (R230). `own` is the measurement stamp of a unit of this device, none for a worker's item. -/
def State.tsAdmit (s : State) (i : Item) (own : Option Nat) : State :=
  if s.tsState ≠ 1 || !s.hasAccess then s
  else
    let t := max s.now s.ts.admAt
    let s1 := s.tsSettle t
    { s1 with ts.admAt := t + cks 1 }.tsJudge i own t

/-! ### Closing requests -/

/-- A verdict is logged and shown in 0x2350 (R235, R236). -/
def State.showVerdict (s : State) (q : VReq) (v : Verdict) : State :=
  let code := if v.sat then 0 else 0x14
  let s1 := ([q.tsh, q.gate, code, v.detail, v.mask, v.zone, v.con, q.table.ver].zipIdx.foldl
    (fun s p => s.put 0x2350 (p.2 + 1) p.1) s)
  (s1.engEvAll 20).logEv 0x02 code v.detail
    (toLe 2 q.tsh ++ [BitVec.ofNat 8 q.gate] ++ toLe 2 v.mask ++ [BitVec.ofNat 8 v.zone, BitVec.ofNat 8 v.con] ++
      toLe 4 q.table.ver)

/-- Requests are dropped (R231, R225). -/
def State.dropReqs (s : State) (p : VReq → Bool) : State :=
  let gone := s.ts.reqs.filter p
  { s with ts.reqs := s.ts.reqs.filter fun q => !p q,
           ts.evals := s.ts.evals.filter fun (e : Eval) => !(gone.any fun q => q.tsh = e.tsh && q.gate = e.gate),
           ts.demands := s.ts.demands.filter fun (d : Demand) => !(gone.any fun q => q.tsh = d.tsh && q.gate = d.gate) }.tsPrune

/-- The oldest evaluation completes (R230, R231): the request closes SATISFIED or with NO_ZONE, or stays open. -/
def State.evalDone (s : State) : State :=
  match s.ts.evals with
  | [] => s
  | e :: es =>
    if s.now < e.due then s
    else
      let s1 := { s with ts.evals := es }
      match s1.ts.reqs.find? (fun q => q.tsh = e.tsh && q.gate = e.gate && q.ok.isNone), e.res with
      | some q, some v =>
        if v.sat then
          ({ s1.putReq { q with ok := some (v, s.now) } with
             ts.demands := s1.ts.demands.filter fun (d : Demand) => d.tsh ≠ q.tsh || d.gate ≠ q.gate }).showVerdict q v
        else if v.closes then (s1.dropReqs fun r => r.tsh = q.tsh && r.gate = q.gate).showVerdict q v
        else s1
      | _, _ => s1

/-- A request's window ends: its final evaluation starts, once (R229, R231). -/
def State.windowEnd (s : State) (tsh gate : Nat) : State :=
  match s.ts.reqs.find? fun q => q.tsh = tsh && q.gate = gate && q.ok.isNone && q.wend ≤ s.now with
  | none => s
  | some q => if s.ts.evals.any fun e => e.tsh = tsh && e.gate = gate && q.wend ≤ e.start then s else s.startEval q s.now

/-- A SATISFIED verdict expires before its seal and the request reopens (R235). -/
def State.verdictExpire (s : State) (tsh gate : Nat) : State :=
  match s.ts.reqs.find? fun q => q.tsh = tsh && q.gate = gate with
  | none => s
  | some q =>
    match q.ok with
    | none => s
    | some v =>
      if s.now < v.1.expiry then s
      else
        let q1 := { q with ok := none, wend := s.now + ms (q.table.policy gate).2.1, opened := s.now, stale := [], asked := false }
        let s1 := s.putReq q1
        (s1.startEval q1 s.now).raiseDemand q1

/-- TsRoundGrace has passed since the last demanded round with the request unsatisfied: the demand is renewed (R234). -/
def State.graceEnd (s : State) (tsh gate : Nat) : State :=
  match s.ts.reqs.find? fun q => q.tsh = tsh && q.gate = gate && q.ok.isNone with
  | none => s
  | some q =>
    match q.launch with
    | none => s
    | some l => if !q.asked && l + ms q.table.grace ≤ s.now then s.raiseDemand q else s

/-- A veto hold that has run out is lifted (R215). -/
def State.vetoEnd (s : State) : State := { s with ts.vetoes := s.ts.vetoes.filter fun v => s.now < v.2 }

/-- The evidence, the veto and the requests of a token session go (R154, R214, R231). -/
def State.tsDropSession (s : State) (tsh : Nat) : State :=
  { s.dropReqs (fun q => q.tsh = tsh) with
    ts.store := s.ts.store.filter fun e => e.tsh ≠ tsh, ts.vetoes := s.ts.vetoes.filter fun v => v.1 ≠ tsh }

/-- Every TDOA slot goes when domain time leaves LOCKED (R214). -/
def State.tsDropTdoa (s : State) : State := { s with ts.store := s.ts.store.filter fun e => e.key.1 ≠ 2 }

/-- The whole store is emptied: at reset, CORE power-down, failover and entry to MIRROR (R214, R720). -/
def State.tsEmpty (s : State) : State :=
  { s with ts.store := [], ts.vetoes := [], ts.reqs := [], ts.evals := [], ts.demands := [] }

/-- A round is launched: its stamp is kept, and the requests whose demand it serves note it (R207, R234). -/
def State.tsLaunched (s : State) (round tm : Nat) (served : List (Nat × Nat)) : State :=
  { s with ts.launches := ((round, tm) :: s.ts.launches.filter fun l => l.1 ≠ round).take 64,
           ts.reqs := s.ts.reqs.map fun (q : VReq) =>
             if served.contains (q.tsh, q.gate) then { q with launch := some tm, asked := false } else q }

end Sys2Proof.Machine
end

