-- ==== Sys2Proof/Machine/Uwb.lean ====
section
/-! DEFINITION. Secure UWB ranging (07_uwb_ranging.md): sessions, planning of rounds, frames, the first path and its checks, items,
and auxiliary frames. -/
namespace Sys2Proof.Machine

/-! ### Settings -/

/-- Preamble symbols of a length code (R285). -/
def preambleSymbols (c : Nat) : Nat := [32, 64, 128, 256, 512, 1024, 1536, 2048, 4096].getD c 4096

/-- Slot length in µs (R289). -/
def slotUs (plen rate : Nat) : Nat :=
  if plen ≤ 2 then (if rate = 0 then 2000 else 400) else if plen ≤ 4 then (if rate = 0 then 2000 else 1000)
  else if plen ≤ 6 then 3000 else if plen = 7 then 3600 else 6000

/-- Combinations R273 supports: PRF with rate and preamble code. -/
def phyOk (prf rate code : Nat) : Bool :=
  if prf = 0 then rate ≤ 1 && 9 ≤ code && code ≤ 12 else 1 ≤ rate && rate ≤ 2 && 25 ≤ code && code ≤ 32

/-- The longest round of the pending settings fits half a block (R274, R289). -/
def roundFits (slots block plen rate : Nat) : Bool := (3 * slots + 2) * slotUs plen rate ≤ block * 1000 / 2

/-- A write of a UWB setting leaves a supported combination (R274); `rd` reads the pending values with the write in place. -/
def uwbSettingOk (rd : Nat → Nat) (idx : Nat) : Bool :=
  if idx = 0x3003 ∨ idx = 0x3005 then phyOk (rd 0x3003) (rd 0x3004) (rd 0x3005)
  else if idx = 0x3004 then
    phyOk (rd 0x3003) (rd 0x3004) (rd 0x3005) && roundFits (rd 0x3007) (rd 0x3008) (rd 0x3006) (rd 0x3004)
  else if idx = 0x3002 ∨ idx = 0x300A then !(rd 0x300A = 1 && rd 0x3002 = 3)
  else if idx = 0x3006 ∨ idx = 0x3007 ∨ idx = 0x3008 then
    roundFits (rd 0x3007) (rd 0x3008) (rd 0x3006) (rd 0x3004)
  else true

/-! ### Sessions -/

/-- The UWB session of a token session. -/
def State.uwbSess (s : State) (tsh : Nat) : Option UwbSess := s.uwb.sess.find? fun u => u.tsh = tsh

/-- A number drawn from the DRBG until it meets a condition, at most `n` times (R285). -/
def State.drawUntil (s : State) : Nat → Nat → (Nat → Nat) → (Nat → Bool) → Nat × State
  | 0, _, _, _ => (0, s)
  | n + 1, w, f, ok =>
    let r := s.draw w
    let v := f (leNat r.1)
    if ok v then (v, r.2) else r.2.drawUntil n w f ok

/-- A UWB session opens with RANGING_SETUP (R163, R285, R287): its 22-octet body, and the state after. `anchor` is the
anchor point of the connection event that carries it, `h` the slot of K_sts. -/
def State.openUwb (s0 : State) (tsh h anchor : Nat) : Bytes × State :=
  let s := s0.boundary .bNextUWBSession
  let others := s.uwb.sess
  let r1 := s.drawUntil 64 4 id fun v => v ≠ 0 && !others.any fun u => u.sid % 65536 = v % 65536
  let r2 := r1.2.drawUntil 64 2 (fun v => v % 0x9FFF + 1) fun v => !others.any fun u => u.addr = v
  let r3 := r2.2.draw 4
  let s1 := r3.2
  let phy := [s1.g 0x3001 0, s1.g 0x3002 0, s1.g 0x3003 0, s1.g 0x3004 0, s1.g 0x3005 0, s1.g 0x3006 0]
  let delay := s1.g 0x3009 0
  let start := (anchor + ms delay + 19 - s1.pwr.rcntAt) / 20 * 20 + s1.pwr.rcntAt
  let u : UwbSess := ⟨tsh, r1.1, phy, r2.1, s1.g 0x3007 0, s1.g 0x3008 0, leNat r3.1, h, start, 0⟩
  (toLe 4 u.sid ++ phy.map (BitVec.ofNat 8) ++ toLe 2 u.addr ++ [BitVec.ofNat 8 u.slots, 0] ++ toLe 2 u.block ++ toLe 2 delay ++
     toLe 4 u.idx0,
   { s1 with uwb.sess := s1.uwb.sess.filter (fun v => v.tsh ≠ tsh) ++ [u] })

/-- A UWB session ends with its token session (R295): its key slot is erased and its rounds not yet on air go. -/
def State.closeUwb (s : State) (tsh : Nat) : State :=
  match s.uwbSess tsh with
  | none => s
  | some u =>
    let gone := s.uwb.plan.filter fun r => r.tsh = tsh
    let s1 := s.xcDrop .uwb fun x => match x with | .slot n _ => gone.any fun r => r.num = n | _ => false
    { s1.eraseSlot u.slotKey with
      uwb.sess := s1.uwb.sess.filter fun v => v.tsh ≠ tsh, uwb.plan := s1.uwb.plan.filter fun r => r.tsh ≠ tsh }

/-! ### Planning (R287 to R293) -/

/-- Slots of a round (R288). -/
def Round.count (r : Round) : Nat :=
  if r.mode = 0 then 2 * r.s_ + 2 + r.n else if r.mode = 1 then r.s_ + 1 + r.n else if r.mode = 2 then 2 + r.n else r.n

/-- End of a round. -/
def Round.fin (r : Round) : Nat := r.at_ + r.count * r.slot

/-- Two rounds would be on air together. -/
def Round.meets (a b : Round) : Bool := a.at_ < b.fin && b.at_ < a.fin

/-- `a` has the opportunity before `b` (R292): class, then among in-block rounds the lower TSH, else the earlier one planned. -/
def Round.atLeast (a b : Round) : Bool :=
  a.cls < b.cls || (a.cls = b.cls && (a.cls ≠ 1 || a.tsh ≤ b.tsh))

/-- The first of the next `n` opportunities, 2 ms apart, at which a round meets none of `busy` (R292). -/
def findOpp (r : Round) (busy : List Round) : Nat → Option Round
  | 0 => none
  | n + 1 =>
    if r.latest < r.at_ then none
    else if busy.all fun b => !r.meets b then some r
    else findOpp { r with at_ := r.at_ + ms 2, opp := r.opp + 1 } busy n

/-- Keys of a round (R281, R283); K_sts from its slot. -/
def roundKeys2 (ksts : Bytes) (sid opp : Nat) (fresh : Bytes) : RoundKeys :=
  let ctx := toLe 4 sid ++ toLe 4 opp
  ⟨kdf ksts (ascii "ZQ-RND") ctx 16, kdf ksts (ascii "ZQ-RMIC") ctx 16, (kdf ksts (ascii "ZQ-SV") ctx 16).take 12,
   fresh.take 16, fresh.drop 16⟩

/-- ROUND_PLAN for anchor `node`, which has slot `i` (R609). -/
def State.planBody (s : State) (r : Round) (node i : Nat) (key : Bytes) : Bytes :=
  toLe 2 r.num ++ [BitVec.ofNat 8 r.mode, BitVec.ofNat 8 i, BitVec.ofNat 8 r.n, BitVec.ofNat 8 r.s_] ++ toLe 2 r.tsh ++
    toLe 8 (s.fromMgr node (s.rcnt r.at_)) ++ toLe 4 r.opp ++ toLe 4 r.sid ++ toLe 2 r.addr ++ r.phy.map (BitVec.ofNat 8) ++
    toLe 4 r.idx0 ++ toLe 2 (r.slot / us 1) ++ [0, 0] ++
    kwWrap key (r.keys.krnd ++ r.keys.kmic ++ r.keys.vup ++ zeros 4 ++ r.keys.ksy ++ r.keys.ksymic)

/-- A slot in which this device receives (R288, R300): the phone's frames and the other anchors' SYNC. -/
def Round.hears (r : Round) (slot : Nat) : Bool :=
  let sync := if r.mode = 0 then 2 * r.s_ + 2 else if r.mode = 1 then r.s_ + 1 else if r.mode = 2 then 2 else 0
  match r.ix with
  | none => false
  | some i => (r.mode ≤ 1 && slot = r.s_) || (r.mode = 0 && slot = 2 * r.s_ + 1) || (r.mode = 2 && slot = 1) ||
      (sync ≤ slot && slot < sync + r.n && slot ≠ sync + i)

/-- Message of an own slot of a round (R288): the MSG of R298, none where the slot is not this device's. -/
def Round.ownMsg (r : Round) (slot : Nat) : Option Nat :=
  match r.ix with
  | none => none
  | some i =>
    let sync := if r.mode = 0 then 2 * r.s_ + 2 else if r.mode = 1 then r.s_ + 1 else if r.mode = 2 then 2 else 0
    if r.n ≤ i then none
    else if slot = sync + i then some 0x20
    else if r.mode ≤ 1 && slot = i then some 0x01
    else if r.mode = 0 && slot = r.s_ + 1 + i then some 0x03
    else if r.mode = 2 && slot = 0 && i = 0 then some 0x01
    else none

/-- The requests of a round for the UWB transceiver (R320, R322): a timed frame for each own slot, a window for each slot heard. A window is
open from 6 µs before its slot, for the 5 µs of R296, to 10 µs before its end, for the turnaround of R318 (DESIGN CHOICE, log entry 65). -/
def Round.reqs (r : Round) : List XcReq :=
  (List.range r.count).filterMap fun k =>
    let t := r.at_ + k * r.slot
    let chan := r.phy.getD 0 9
    if (r.ownMsg k).isSome then some ⟨1, true, some t, none, chan, false, .slot r.num k, none⟩
    else if r.hears k then some ⟨1, false, some (t - us 6), some (t + r.slot - us 10), chan, false, .slot r.num k, some r.addr⟩
    else none

/-- The request is for a slot of round `num`. -/
def XcUse.ofRound (num : Nat) : XcUse → Bool
  | .slot n _ => n = num
  | _ => false

/-- The transceiver is asked for a round (R322). -/
def State.askRound (s : State) (r : Round) : State := r.reqs.foldl (fun s q => s.xcRequest .uwb q) s

/-- The UWB_AUX event of an engine (R534) and the answer of an auxiliary request (R313, R314). -/
def State.auxAnswer (s : State) (who : Requester) (a : Resp) : State :=
  let s1 := s.answer who 0x3060 a
  match who with
  | .engine n => s1.engEv n 19
  | _ => s1

/-- Air time of an SP0 frame whose PSDU has `n` octets with the FCS: preamble, SFD, PHR and data with its parity, from the settings in force
(PRESUMED: IEEE 802.15.4z, log entry 64). -/
def State.auxAir (s : State) (n : Nat) : Nat :=
  let hprf := s.g 0x3003 0 = 1
  let rate := s.g 0x3004 0
  let sym := if hprf then 1820 else 2540
  let phr := if hprf then 640 else 2560
  let bitT := if rate = 0 then 2560 else if rate = 1 then 320 else 80
  (preambleSymbols (s.g 0x3006 0) + 8) * sym + 21 * phr + (8 * n + 48 * ((8 * n + 329) / 330)) * bitT

/-- When an auxiliary request ends on air (R314). -/
def State.auxFin (s : State) (x : Aux) : Nat :=
  match x.tx with
  | some (psdu, _) => x.at_ + s.auxAir (psdu.length + 2)
  | none => x.at_ + x.dur

/-- The transceiver's request of an auxiliary request leaves the queue. -/
def State.xcDropAux (s : State) (x : Aux) : State :=
  s.setXc .uwb { s.rfc.uwb with q := s.rfc.uwb.q.eraseP fun q => q.use = .aux x.who && q.time = some x.at_ }

/-- A round planned over auxiliary requests completes them with BUSY and ROUND_HELD (R314). -/
def State.auxHeld (s : State) (r : Round) : State :=
  let out := s.uwb.aux.filter fun x => x.at_ < r.fin && r.at_ < s.auxFin x
  let s1 := { s with uwb.aux := s.uwb.aux.filter fun x => !(x.at_ < r.fin && r.at_ < s.auxFin x) }
  out.foldl (fun s x => (s.xcDropAux x).auxAnswer x.who ⟨Rc.busy, Dt.roundHeld, []⟩) s1

/-- A plan goes to every other anchor of a round that is ONLINE, and to the standby (R609, R610). -/
def State.sendPlans (s : State) (r : Round) : State :=
  r.anchors.zipIdx.foldl (fun s p =>
    if p.1 = s.seg.node then s
    else if s.twinCfg && p.1 = s.peerNode then
      match s.ktw with
      | some k => s.segSend k 0x22 (s.addrOf p.1) (s.planBody r p.1 p.2 k)
      | none => s
    else if (s.wnode p.1).online && !(s.wnode p.1).lost then
      match (s.wnode p.1).kws with
      | some k => s.nodeSend p.1 0x22 (s.planBody r p.1 p.2 k)
      | none => s
    else s) s

/-- The next round number: 1 to 65,535, then 1 again (R609). -/
def nextRound (n : Nat) : Nat := if n = 65535 then 1 else n + 1

/-- A round takes its opportunity: number, keys, plans (R281, R283, R609). -/
def State.commitRound (s : State) (r : Round) : State :=
  let d := s.draw 32
  let ksts := ((s.uwbSess r.tsh).bind fun u => s.slotKey u.slotKey).getD []
  let r1 := { r with num := s.uwb.next, keys := roundKeys2 ksts r.sid r.opp d.1 }
  let s1 := (d.2.cxUse 1 (if r.tsh = 0 then 0 else 9))
  ({ s1 with uwb.plan := s1.uwb.plan ++ [r1], uwb.next := nextRound s1.uwb.next }.sendPlans r1).auxHeld r1 |>.askRound r1

/-- Rounds are placed in their order of precedence (R292): each takes the first opportunity that no round of the same or a higher
precedence holds, and the rounds it displaces are placed again. An in-block round without one is skipped. -/
def State.placeRounds (s : State) : Nat → List Round → State
  | 0, _ => s
  | _ + 1, [] => s
  | n + 1, r :: rs =>
    let busy := s.uwb.air.toList ++ s.uwb.plan.filter fun q => q.atLeast r
    match findOpp r busy 600 with
    | none => s.placeRounds n rs
    | some r1 =>
      let out := s.uwb.plan.filter fun q => !q.atLeast r && q.meets r1
      let s1 := (out.foldl (fun s q => s.xcDrop .uwb (XcUse.ofRound q.num)) s)
      let s1 := { s1 with uwb.plan := s1.uwb.plan.filter fun q => q.atLeast r || !q.meets r1 }
      (s1.commitRound r1).placeRounds n (rs ++ out)

/-- The first opportunity of a session at or after `t` (R287): its number and time. -/
def UwbSess.oppAt (u : UwbSess) (t : Nat) : Nat × Nat :=
  if t ≤ u.first then (0, u.first) else
    let k := (t - u.first + ms 2 - 1) / ms 2
    (k, u.first + k * ms 2)

/-- A round of a UWB session, before it has its opportunity. -/
def State.mkRound (s : State) (u : UwbSess) (cls mode : Nat) (anchors : List Nat) (k : Nat × Nat) (latest : Nat)
    (served : List (Nat × Nat)) : Round :=
  { num := 0, tsh := u.tsh, cls := cls, mode := mode, opp := k.1, at_ := k.2, anchors := anchors,
    ix := anchors.findIdx? (· = s.seg.node), n := anchors.length, s_ := u.slots,
    slot := us (slotUs (u.phy.getD 5 0) (u.phy.getD 3 0)), sid := u.sid, addr := u.addr, phy := u.phy, idx0 := u.idx0,
    keys := ⟨[], [], [], [], []⟩, kslots := [], served := served, latest := latest, sent := [], resp := none, cfo := 0,
    items := [], recs := [] }

/-- `l` cut into pieces of at most `n` (R290). -/
def pieces (n : Nat) : Nat → List Nat → List (List Nat)
  | 0, _ => []
  | _ + 1, [] => []
  | f + 1, l => l.take (max n 1) :: pieces n f (l.drop (max n 1))


/-- Ranging demands become out-of-block rounds (R290, R291): consecutive rounds of at most S anchors, from the first opportunity
UwbPlanLead after the demand. -/
def State.planDemands (s : State) : State :=
  let ds := s.ts.demands.filter fun d => (s.uwbSess d.tsh).isSome
  if !s.drawOk || s.gate.quench then s
  else
    ds.foldl (fun s d =>
      match s.uwbSess d.tsh with
      | none => s
      | some u =>
        let s := s.boundary .bNextRound
        let tdoa := d.tdoa && u.phy.getD 1 0 ≠ 3
        let mode := if tdoa then 2 else if u.phy.getD 1 0 = 3 then 0 else s.g 0x300A 0
        let k := u.oppAt (d.at_ + us (s.g 0x300D 0))
        let rs := (pieces u.slots 16 d.anchors).map fun as => s.mkRound u 0 mode as k (k.2 + secs 4) [(d.tsh, d.gate)]
        s.placeRounds (4 + s.uwb.plan.length + 2 * rs.length) rs)
      { s with ts.demands := s.ts.demands.filter fun d => !(ds.any fun e => e.tsh = d.tsh && e.gate = d.gate) }

/-- The number of a block at `t`, for a session. -/
def UwbSess.blockNo (u : UwbSess) (t : Nat) : Nat := (t - u.first) / ms u.block

/-- The thermal limiter lets an in-block round of block `n` run (R672). -/
def State.blockAllowed (s : State) (n : Nat) : Bool :=
  if s.bg.stage ≤ 1 then true else if s.bg.stage = 2 then n % 2 = 0 else false

/-- A launched round's outcome is counted where nothing more can come of it, or at the next block (R294). -/
def State.settleRound (s : State) (a : Await) : State :=
  if a.counted then s
  else
    let s1 := { s with uwb.await := s.uwb.await.map fun (b : Await) => if b.num = a.num then { b with counted := true } else b }
    if a.tsh = 0 || a.made then s1
    else
      let s2 := s1.bump 0x3040 5
      if a.inBlock then
        { s2 with uwb.sess := s2.uwb.sess.map fun (u : UwbSess) => if u.tsh = a.tsh then { u with miss := min 255 (u.miss + 1) } else u }
      else s2

/-- A block of a session starts (R291, R294): the outcome of its earlier rounds is settled and its in-block round is planned. -/
def State.blockStart (s0 : State) (tsh : Nat) : State :=
  match s0.uwbSess tsh with
  | none => s0
  | some u0 =>
    let begun := (s0.uwb.plan ++ s0.uwb.air.toList).any fun r => r.tsh = tsh && r.cls = 1 && s0.now ≤ r.at_
    if s0.seg.role ≠ .manager || s0.now < u0.first || (s0.now - u0.first) % ms u0.block ≠ 0 || begun || !s0.drawOk || s0.gate.quench then s0
    else
      let s := ((s0.uwb.await.filter fun a => a.tsh = tsh).foldl State.settleRound s0).boundary .bNextBlock
      let s := s.boundary .bNextRound
      match s.uwbSess tsh with
      | none => s
      | some u =>
        let nb := u.blockNo s.now
        let all := (List.range 16).filter fun n => (s.g 0x300B 0).testBit n
        let as := all.take u.slots
        let k := u.oppAt (u.first + nb * ms u.block)
        let mode := if u.phy.getD 1 0 = 3 then 0 else s.g 0x300A 0
        let r := s.mkRound u 1 mode as k (u.first + (nb + 1) * ms u.block - ms 2) []
        if as = [] || s.g 0x300C 0 ≤ u.miss || !s.blockAllowed nb then s
        else s.placeRounds (4 + s.uwb.plan.length) [r]

/-- Whether an instant is an opportunity start (R287): of an open session, or with none open of a 2 ms grid from CORE start (log
entry 21); for a plan received, the start it names (R609). -/
def State.isOpp (s : State) (t : Nat) : Bool :=
  if s.uwb.plan.any fun r => r.at_ = t then true
  else if s.uwb.sess = [] then (t - s.pwr.rcntAt) % ms 2 = 0
  else s.uwb.sess.any fun u => u.first ≤ t && (t - u.first) % ms 2 = 0

/-- Anchors of the segment (R293): this device, the peer of a pair while it is heard (R625), and the workers that are not NONE. -/
def State.segAnchors (s : State) : List Nat :=
  (List.range 16).filter fun n => n = s.seg.node ||
    (s.twinCfg && n = s.peerNode && (s.twin.st = .paired || s.twin.st = .t1sOnly || s.twin.st = .tinning)) ||
    (2 ≤ n && s.g 0x4210 (n + 1) ≠ 0xFFFF)

/-- A sync round for the opportunity at `t` (R288, R293, R300). -/
def State.syncRound (s : State) (t : Nat) : Round :=
  let phy := [s.g 0x3001 0, s.g 0x3002 0, s.g 0x3003 0, s.g 0x3004 0, s.g 0x3005 0, s.g 0x3006 0]
  let as := s.segAnchors
  { num := 0, tsh := 0, cls := 2, mode := 3, opp := 0, at_ := t, anchors := as, ix := as.findIdx? (· = s.seg.node),
    n := as.length, s_ := 0, slot := us (slotUs (s.g 0x3006 0) (s.g 0x3004 0)), sid := 0, addr := 0, phy := phy, idx0 := 0,
    keys := ⟨[], [], [], [], []⟩, kslots := [], served := [], latest := t + secs 4, sent := [], resp := none, cfo := 0,
    items := [], recs := [] }

/-- A planned round whose time has come goes on air (R287, R206, R207): the manager keeps its launch stamp. -/
def State.launchRound (s : State) (r : Round) : State :=
  let s1 := { s with uwb.plan := s.uwb.plan.filter fun q => q.num ≠ r.num, uwb.air := some r }
  if r.cls = 3 then s1
  else
    let s2 := { s1 with uwb.launchedAt := some s1.now,
                        uwb.await := ((⟨r.num, r.tsh, r.cls = 1, r.anchors, false, false, [], [], []⟩ : Await) :: s1.uwb.await).take 16 }
    (s2.bump 0x3040 1).tsLaunched r.num s2.now r.served

/-- An opportunity starts (R287, R291, R293): demands are planned, the planned round launches, and a sync round is planned where none
has been launched within UwbSyncPeriod. -/
def State.opportunity (s : State) : State :=
  if !s.isOpp s.now || !s.pwr.core then s
  else
    let s := if s.seg.role = .manager then s.planDemands else s
    let due := s.uwb.plan.find? fun r => r.at_ = s.now
    let old := (s.uwb.launchedAt.map fun t => decide (t + ms (s.g 0x3018 0) ≤ s.now)).getD true
    let s1 := if s.seg.role = .manager && due.isNone && old && s.drawOk && !s.gate.quench &&
        !(s.uwb.plan.any fun r => r.cls = 2) then
        s.placeRounds (4 + s.uwb.plan.length) [s.syncRound s.now] else s
    match (if s1.uwb.air.isSome then none else s1.uwb.plan.find? fun r => r.at_ = s1.now) with
    | some r => s1.launchRound r
    | none => s1

/-! ### Frames (R288, R297 to R300) -/

/-- Body of an anchor's message (R298). -/
def Round.bodyOf (r : Round) (msg slot node ts : Nat) : Bytes :=
  if msg = 0x01 then [BitVec.ofNat 8 r.mode, BitVec.ofNat 8 r.n, BitVec.ofNat 8 slot, 0]
  else if msg = 0x03 then [BitVec.ofNat 8 (slot - (r.s_ + 1))]
  else [BitVec.ofNat 8 node, 0] ++ toLe 6 ts

/-- PSDU before its MIC (R297). -/
def psduHead (slot pan dst src msg opp : Nat) (body : Bytes) : Bytes :=
  [0x41, 0x88, BitVec.ofNat 8 slot] ++ toLe 2 pan ++ toLe 2 dst ++ toLe 2 src ++ [BitVec.ofNat 8 msg] ++ toLe 4 opp ++ body

/-- TX antenna delay of a port for a channel (R276, R316); `rx` for the RX delay. -/
def State.antDelay (s : State) (port chan : Nat) (rx : Bool) : Nat :=
  s.g (0x3020 + port) ((if chan = 9 then 3 else 1) + b2n rx)

/-- The round's keys may be used: a plan received needs its RANGING slots (R284, R610). -/
def State.roundLive (s : State) (r : Round) : Bool := r.kslots.all fun h => s.slotSt h = .loaded

/-- The STS key stream of a frame (R282, R283): AES-128 in counter mode under `key`, `n` blocks of `up` and a 32-bit counter that starts at
`ctr`. BPRF takes 64 units with one pulse in 8 chips, HPRF two segments with one in 2 chips. -/
def stsStream (key up : Bytes) (ctr n : Nat) : Bytes :=
  ((List.range n).map fun b => aesEnc key (up ++ toBe 4 ((ctr + b) % 2 ^ 32))).flatten

/-- Blocks of STS key stream in a frame (R273, R282). -/
def stsBlocks (prf : Nat) : Nat := if prf = 0 then 32 else 256

/-- A frame of the UWB transceiver goes on air (R261, R343): its time counts against limiter 1, and the time its module's PA is enabled
against limiter 2. -/
def State.uwbOnAir (s : State) (onAir : Nat) (eng : Bool) : State :=
  let s1 := s.limAdd 1 0 onAir eng
  let s2 := if s.paUsed .uwb then s1.limAdd 2 0 (s.paTime .uwb onAir) eng else s1
  s2.setXc .uwb { (s2.xc .uwb).enter .tx s2.now with pkt := some (s2.now, some (s2.now + onAir)) }

/-- A timed frame of the round on air reaches its launch time (R276, R278, R280, R282, R297, R300): sent from READY where the transceiver was
armed for it, else dropped with LATE and its slot stays empty; at the ceiling of a limiter it is stopped at once (R262). `onAir` is how
long the frame is on air. A frame whose request was dropped is not sent. -/
def State.frameLaunch (s0 : State) (slot onAir : Nat) : State :=
  match s0.uwb.air with
  | none => s0
  | some r =>
    match r.ownMsg slot with
    | none => s0
    | some msg =>
      let at_ := r.at_ + slot * r.slot
      let chan := r.phy.getD 0 9
      if s0.now < at_ || !(s0.rfc.uwb.q.any fun q => q.use = .slot r.num slot) then s0
      else
        let s := (s0.boundary .bNextFrame).xcDrop .uwb fun u => u = XcUse.slot r.num slot
        let sp3 := r.phy.getD 1 1 = 3
        let port := s.g 0x300F 0
        if at_ < s.now || !s.armed .uwb at_ || s.rfc.uwb.chan ≠ chan || s.gate.quench || !s.roundLive r then
          (s.bump 0x3040 4).bump 0x3205 1
        else if s.atCeiling 1 0 then s.limCut 1 0
        else if s.paUsed .uwb && s.atCeiling 2 0 then s.limCut 2 0
        else
          let ts := (s.rcnt at_ * 4 + Config.rmarkerOffset (r.phy.getD 5 0) (r.phy.getD 2 0) + s.antDelay port chan false) % 2 ^ 42 / 4 * 4
          let sync := msg = 0x20
          let key := if sync then r.keys.ksymic else r.keys.kmic
          let h := psduHead slot (if sync then 0x5A00 + s.seg.segNo else r.sid % 65536) (if sync then 0xFFFF else r.addr)
            (0xA500 + s.seg.node) msg r.opp (r.bodyOf msg slot s.seg.node ts)
          let psdu := if sp3 && !sync then [] else withFcs (h ++ cmac64 key h)
          let n := stsBlocks (r.phy.getD 2 0)
          let sts := if sync then stsStream r.keys.ksy (zeros 12) (256 * slot) n
            else stsStream r.keys.krnd r.keys.vup (r.idx0 + 256 * slot) n
          let s1 := { s with uwb.out := some ⟨slot, port, s.g 0x300E 0, psdu, sts, ts⟩,
                             uwb.air := some { r with sent := r.sent ++ [(slot, ts)] } }
          (s1.cxUse 1 (n + cmacOps h.length)).uwbOnAir onAir false

/-- A frame cut by limiter 1 or 2 while it is on air yields no evidence (R262, R310, R345): its slot counts as not sent. -/
def State.uwbCut (s : State) : State :=
  if s.rfc.uwb.st = .tx then { s with uwb.air := s.uwb.air.map fun (r : Round) => { r with sent := r.sent.dropLast } } else s

/-! ### The first path and its checks (R301 to R303, R335) -/

/-- The peak of a CIR: the tap of the largest amplitude, the earliest of equals. -/
def cirPeak : Cir → Option (Nat × Nat)
  | [] => none
  | p :: ps => some (ps.foldl (fun b q => if b.2 < q.2 then q else b) p)

/-- The first path of a CIR (R301): the earliest tap, within 60 ns before the peak, over the threshold. 60 ns are 15,335 units. -/
def firstPath (thr : Nat) (c : Cir) : Option (Nat × Nat) :=
  match cirPeak c with
  | none => none
  | some pk =>
    let near := c.filter fun p => thr < p.2 && p.1 ≤ pk.1 && pk.1 ≤ p.1 + 15335
    near.foldl (fun (b : Option (Nat × Nat)) p =>
      match b with
      | none => some p
      | some q => if p.1 < q.1 then some p else some q) none

/-- The checks of R302 on one chain of a frame of PRF `prf`: one STS segment in BPRF, two in HPRF (R273). -/
def State.chainOk (s : State) (prf : Nat) (c : ChainRx) : Bool :=
  match firstPath (s.g 0x3010 0) c.sts with
  | none => false
  | some fp =>
    let near := fun (x : Cir) => ((firstPath (s.g 0x3010 0) x).map fun q => decide ((diff42 q.1 fp.1).natAbs ≤ s.g 0x3011 0)).getD false
    c.segs.length = (if prf = 0 then 1 else 2) && c.segs.all (fun g => s.g 0x3012 0 ≤ g.1 && near g.2) && near c.pre

/-- Early energy on one chain (R302): a tap from UwbEarlyWindow before the first path to 2 taps before it, over UwbEarlyThreshold,
in the preamble CIR or a segment's. -/
def State.chainEarly (s : State) (c : ChainRx) : Bool :=
  match firstPath (s.g 0x3010 0) c.sts with
  | none => false
  | some fp =>
    (c.pre :: c.segs.map (·.2)).any fun x => x.any fun p =>
      s.g 0x3014 0 < p.2 && p.1 + 512 ≤ fp.1 && (fp.1 - p.1) * 39125 ≤ s.g 0x3013 0 * 10000000

/-- The port a chain receives on (R303, R335, R337): fixed for RESPONSE and BLINK under UwbAoaPair, else by RfcUwbDivMode. -/
def State.chainPort (s : State) (ch : Nat) (fixed : Bool) (c : ChainRx) : Bool :=
  let pair := s.g 0x3030 0
  if fixed && pair ≠ 0xFF then pair = 1
  else
    let mode := s.g 0x3240 (ch + 1)
    if mode = 1 || (ch = 0 && s.oneAnt .uwb) then false
    else if mode = 2 then true
    else
      let b := s.rfc.ant.getD ch false
      let cur := if b then c.eB else c.eA
      let oth := if b then c.eA else c.eB
      if cur + (s.g 0x3241 0 : Int) < oth then !b else b

/-- The level of a packet from `peer` is kept for the choice of R346 at its next one. -/
def State.keepLevel (s : State) (peer : Nat) (a : AirRx) : State :=
  { s with uwb.lvls := (peer, s.levelAtAntenna .uwb a.level s.rfc.uwb.byp) :: (s.uwb.lvls.filter fun l => l.1 ≠ peer).take 15 }

/-- A frame of `peer` is received on a channel (R276, R301, R303): what each chain makes of it by `one`, and the better of the two by
first-path SNR. Settings of the next frame take hold (R316); the port each chain used is kept for its next frame (R335). -/
def State.hearBy (s0 : State) (fixed : Bool) (chan peer : Nat) (a : AirRx) (one : State → ChainRx → Option (Nat × Nat × Bool × Bool)) :
    Option Heard × State :=
  let s := s0.boundary .bNextFrame
  let on := fun (ch : Nat) (c : Option ChainRx) =>
    c.bind fun x => (one s x).map fun fp =>
      let port := 2 * ch + b2n (s.chainPort ch fixed x)
      let ts := ((diff42 fp.1 0 - (s.antDelay port chan true : Int)) % (2 ^ 42 : Nat)).toNat
      (⟨ts, min 255 fp.2.1, fp.2.2.1, fp.2.2.2⟩ : Heard)
  let ant := [((a.c0.map fun c => s.chainPort 0 fixed c).getD (s.rfc.ant.getD 0 false)),
              ((a.c1.map fun c => s.chainPort 1 fixed c).getD (s.rfc.ant.getD 1 false))]
  let best := match on 0 a.c0, on 1 a.c1 with
    | some x, some y => if x.snr < y.snr then some y else some x
    | some x, none => some x
    | none, y => y
  (best, { s.keepLevel peer a with rfc.ant := ant })

/-- A timed frame's stamp, SNR and checks (R276, R301 to R303), counted (R316). -/
def State.hear (s : State) (fixed : Bool) (phy : List Nat) (peer : Nat) (a : AirRx) : Option Heard × State :=
  let r := s.hearBy fixed (phy.getD 0 9) peer a fun s x =>
    (firstPath (s.g 0x3010 0) x.sts).map fun fp => (fp.1, fp.2, s.chainOk (phy.getD 2 0) x, s.chainEarly x)
  let s1 := r.2
  match r.1 with
  | none => (none, s1)
  | some h =>
    let s2 := if h.ok then s1 else s1.bump 0x3040 2
    (some h, if h.early then s2.bump 0x3040 3 else s2)

/-! ### Items (R304 to R309) -/

/-- An item made here: the manager's goes to Touchstone at once, another anchor's waits for the REPORT (R310). -/
def State.uwbItem (s : State) (i : Item) : State :=
  if s.seg.role = .manager then
    let s1 := { s with
      uwb.await := s.uwb.await.map fun (a : Await) => if a.num = i.round then { a with made := true } else a,
      uwb.sess := s.uwb.sess.map fun (u : UwbSess) =>
        if u.tsh = i.tsh && (s.g 0x300C 0 ≤ u.miss || s.uwb.await.any fun a => a.num = i.round && a.inBlock) then { u with miss := 0 } else u }
    s1.tsAdmit i none
  else
    match s.uwb.air with
    | none => s
    | some r => { s with uwb.air := some { r with items := r.items ++ [i] } }

/-- value_mm of a time of flight in 1/16 units (R305), a 32-bit number. -/
def valueMm (t16 : Int) : Int := sext 32 (toTwos 32 ((t16 * 76870 + 524288) / 1048576))

/-- A TWR item and the record of it (R304, R316). -/
def State.twrItem (s : State) (r : Round) (h : Heard) (earlySeen : Bool) (t16 : Int) : State :=
  let flags := b2n h.ok + 2 * b2n (h.early || earlySeen)
  let v := valueMm t16
  let s1 := ((((s.put 0x3050 1 r.tsh).put 0x3050 2 r.num).put 0x3050 3 (toTwos 32 v)).put 0x3050 4 (toTwos 32 t16)).put 0x3050 5 flags
  s1.uwbItem ⟨1, s.seg.node, 0, flags, r.tsh, r.num, 0, h.snr, 0, v⟩

/-- π scaled by 2^96. -/
def piFix : Nat := 248902613312231085230521944622

/-- sin of `k` twentieths of a degree, scaled by 2^96, by its series. -/
def sinFix (k : Nat) : Int :=
  let x : Int := (piFix * k / 3600 : Nat)
  let term := fun (acc : Int × Int) (n : Nat) =>
    let t := -(acc.2 * x / (2 ^ 96 : Nat) * x / (2 ^ 96 : Nat)) / ((2 * n + 2) * (2 * n + 3) : Nat)
    (acc.1 + t, t)
  ((List.range 16).foldl term (x, x)).1

/-- Azimuth of a sine ratio `num / den` in 0.1°, rounded to nearest and clamped to ±90.0° (R307). -/
def azimuth (num : Int) (den : Nat) : Int :=
  let a : Int := num.natAbs
  let k := ((List.range 900).filter fun k => sinFix (2 * k + 1) * (den : Int) ≤ a * (2 ^ 96 : Nat)).length
  if num < 0 then -(k : Int) else k

/-- An AOA item from a RESPONSE or BLINK that both chains received (R307, R308). -/
def State.aoaItem (s : State) (r : Round) (a : AirRx) : State :=
  match a.c0, a.c1 with
  | some x, some y =>
    match firstPath (s.g 0x3010 0) x.sts, firstPath (s.g 0x3010 0) y.sts with
    | some f0, some f1 =>
      let chan := r.phy.getD 0 9
      let d := s.g 0x3031 0
      if s.g 0x3030 0 = 0xFF || (if chan = 9 then 1877 else 2310) < d then s
      else
        let off := sext 16 (s.g 0x3032 (if chan = 9 then 2 else 1))
        let dphi := (y.phase - x.phase - off + 32768) % 65536 - 32768
        let f := if chan = 9 then 79872 else 64896
        let th := azimuth (dphi * 299792458) (65536 * f * d)
        let prf := r.phy.getD 2 0
        let wide := decide (sinFix 1200 * ((65536 * f * d : Nat) : Int) < ((dphi * 299792458).natAbs : Int) * (2 ^ 96 : Nat))
        let flags := b2n (s.chainOk prf x && s.chainOk prf y) + 2 * b2n (s.chainEarly x || s.chainEarly y) + 8 * b2n wide
        s.uwbItem ⟨3, s.seg.node, 0, flags, r.tsh, r.num, 0, min 255 (min f0.2 f1.2), 0, th⟩
    | _, _ => s
  | _, _ => s

/-- A message of the phone in its slot verifies (R297): the PSDU head, its MIC under K_mic, and the fields of the round. `psdu` is what
stands before the FCS. -/
def Round.phoneOk (r : Round) (msg slot : Nat) (psdu : Bytes) : Bool :=
  let n := psdu.length - 8
  8 ≤ psdu.length && cmac64 r.keys.kmic (psdu.take n) = psdu.drop n &&
    psdu.take 14 = psduHead slot (r.sid % 65536) 0xFFFF r.addr msg r.opp [] 

/-- A frame with a good FCS is taken, one without is not received (R297); an SP3 frame carries no PSDU (R300). -/
def State.withPsdu (s : State) (sp3 : Bool) (psdu : Bytes) (f : Bytes → State) : State :=
  if sp3 then f [] else
    match fcsOk psdu with
    | some p => f p
    | none => s

/-- Entry `i` of a RESPONSE or REPORT body (R298): FLAGS, TREPLY and TROUND. -/
def phoneEntry (psdu : Bytes) (i w : Nat) : Nat × Nat × Nat :=
  let o := 15 + i * w
  (byteAt o psdu, leAt (o + 1) 5 psdu, leAt (o + 6) 5 psdu)

/-- The phone's RESPONSE is received (R300 to R304, R306, R307). -/
def State.uwbResponse (s : State) (psdu : Bytes) (a : AirRx) : State :=
  match s.uwb.air with
  | none => s
  | some r =>
    if r.mode > 1 || r.ix.isNone || s.rfc.uwb.st ≠ .rx then s
    else
      let sp3 := r.phy.getD 1 1 = 3
      let slot := r.s_
      s.withPsdu sp3 psdu fun psdu =>
      if !sp3 && !r.phoneOk 0x02 slot psdu then s.bump 0x3040 6
      else
        let hr := s.hear true r.phy r.addr a
        match hr.1 with
        | none => hr.2
        | some h =>
          let s1 := { hr.2 with uwb.air := some { r with resp := some h, cfo := a.cfo } }.aoaItem r a
          if r.mode = 0 then s1
          else
            let i := r.ix.getD 0
            let e := phoneEntry psdu i 6
            match r.sent.find? fun p => p.1 = i with
            | some p =>
              if bit e.1 0 then
                let ra := diff42 h.ts p.2
                let q : Rat := 8 * ((ra : Rat) - (e.2.1 : Rat) * (1 - (a.cfo : Rat) / (2 ^ 40 : Nat)))
                s1.twrItem r h (bit e.1 2) (roundHalfAway q)
              else s1
            | none => s1

/-- t16 of a DS-TWR round (R305). The rule states no result where the intervals add up to zero: a free value (log entry 66). -/
def dsTwr (ra rb da db : Int) : Int :=
  if ra + rb + da + db = 0 then Config.noInterval ra rb da db
  else roundHalfAway (((16 * (ra * rb - da * db) : Int) : Rat) / ((ra + rb + da + db : Int) : Rat))

/-- The phone's REPORT is received (R304, R305). -/
def State.uwbReport (s : State) (psdu : Bytes) : State :=
  match s.uwb.air with
  | none => s
  | some r =>
    if r.mode ≠ 0 || r.ix.isNone || s.rfc.uwb.st ≠ .rx then s
    else s.withPsdu false psdu fun psdu =>
    if !r.phoneOk 0x04 (2 * r.s_ + 1) psdu then s.bump 0x3040 6
    else
      let i := r.ix.getD 0
      let e := phoneEntry psdu i 11
      match r.sent.find? fun p => p.1 = i, r.sent.find? fun p => p.1 = r.s_ + 1 + i, r.resp with
      | some p, some f, some h =>
        let ra := diff42 h.ts p.2
        let da := diff42 f.2 h.ts
        if bit e.1 0 && bit e.1 1 then s.twrItem r h (bit e.1 2) (dsTwr ra e.2.2 da e.2.1) else s
      | _, _, _ => s

/-- A round of the manager that still collects. -/
def State.awaitOf (s : State) (num : Nat) : Option Await := s.uwb.await.find? fun a => a.num = num

/-- A change of one such round. -/
def State.modAwait (s : State) (num : Nat) (f : Await → Await) : State :=
  { s with uwb.await := s.uwb.await.map fun (a : Await) => if a.num = num then f a else a }

/-- TDOA items that the arrival of a BLINK at `node` completes (R309). -/
def State.blinkArrival (s : State) (num node : Nat) (h : Heard) : State :=
  match s.awaitOf num with
  | none => s
  | some a =>
    let s1 := s.modAwait num fun b => { b with blinks := b.blinks.filter (fun p => p.1 ≠ node) ++ [(node, h)] }
    let keys := s1.ts.cur.keys.filter fun k => k.1 = 2
    a.blinks.foldl (fun s p =>
      let lo := min node p.1
      let hi := max node p.1
      if p.1 ≠ node && keys.contains (2, lo, hi) then
        let hl := if lo = node then h else p.2
        let hh := if lo = node then p.2 else h
        let v : Rat := ratDiff42 (s.toMgr lo hl.ts) (s.toMgr hi hh.ts) * 1172938 / 1000000
        let flags := b2n (hl.ok && hh.ok) + 2 * b2n (hl.early || hh.early) + 4 * b2n (s.pairLocked lo hi)
        s.uwbItem ⟨2, lo, hi, flags, a.tsh, num, 0, min hl.snr hh.snr, 0, roundHalfAway v⟩
      else s) s1

/-- CHECK of a time record (R611). -/
def Heard.check (h : Heard) : Nat := if !h.ok then 0 else if h.early then 3 else 1

/-- A BLINK is received (R307, R309). -/
def State.blink (s : State) (psdu : Bytes) (a : AirRx) : State :=
  match s.uwb.air with
  | none => s
  | some r =>
    if r.mode ≠ 2 || r.ix.isNone || s.rfc.uwb.st ≠ .rx then s
    else s.withPsdu false psdu fun psdu =>
    if !r.phoneOk 0x05 1 psdu then s.bump 0x3040 6
    else
      let hr := s.hear true r.phy r.addr a
      match hr.1 with
      | none => hr.2
      | some h =>
        let s1 := { hr.2 with uwb.air := some { r with resp := some h } }.aoaItem r a
        if s.seg.role = .manager then s1.blinkArrival r.num s.seg.node h
        else
          match s1.uwb.air with
          | none => s1
          | some q => { s1 with uwb.air := some { q with recs := q.recs ++ [⟨0xFE, h.snr, h.check, h.ts⟩] } }

/-- An observation from the SYNC of `j` received by `i` at `rx`, whose transmit stamp is `tx` (R616). -/
def State.syncObs (s : State) (i j rx tx : Nat) : State :=
  let me := s.seg.node
  if j = me then s.observe i (diff42 ((tx : Int) + s.tof me i) rx : Rat) rx
  else if i = me then s.observe j (diff42 ((rx : Int) - s.tof me j) tx : Rat) tx
  else if s.residual j ≤ s.g 0x4113 0 && s.anchorPlaced j then s.observe i (s.toMgr j tx + (s.tof j i : Rat) - (rx : Rat)) rx
  else s

/-- A SYNC transmit stamp of `node` becomes known: the receptions that waited for it are observed (R616). -/
def State.syncTx (s : State) (num node ts : Nat) : State :=
  match s.awaitOf num with
  | none => s
  | some a =>
    let s1 := s.modAwait num fun b => { b with txs := (node, ts) :: b.txs.filter (fun p => p.1 ≠ node),
                                                open_ := b.open_.filter fun o => o.2.1 ≠ node }
    (a.open_.filter fun o => o.2.1 = node).foldl (fun s o => s.syncObs o.1 node o.2.2 ts) s1

/-- A SYNC of `j` was received by `i` with CHECK 0x01 (R616). -/
def State.syncRx (s : State) (num i j rx : Nat) : State :=
  match s.awaitOf num with
  | none => s
  | some a =>
    match a.txs.find? fun p => p.1 = j with
    | some p => s.syncObs i j rx p.2
    | none => s.modAwait num fun b => { b with open_ := b.open_ ++ [(i, j, rx)] }

/-- An anchor SYNC is received (R297, R300, R616). -/
def State.uwbSync (s : State) (slot : Nat) (psdu : Bytes) (a : AirRx) : State :=
  match s.uwb.air with
  | none => s
  | some r =>
    if s.rfc.uwb.st ≠ .rx then s
    else s.withPsdu false psdu fun psdu =>
    let n := psdu.length - 8
    let node := byteAt 14 psdu
    if psdu.length ≠ 30 || cmac64 r.keys.ksymic (psdu.take n) ≠ psdu.drop n ||
        psdu.take 16 ≠ psduHead slot (0x5A00 + s.seg.segNo) 0xFFFF (0xA500 + node) 0x20 r.opp [BitVec.ofNat 8 node, 0] then
      s.bump 0x3040 6
    else
      let hr := s.hear false r.phy (0xA500 + node) a
      match hr.1 with
      | none => hr.2
      | some h =>
        let tx := leAt 16 6 psdu % 2 ^ 42
        if s.seg.role = .manager then
          let s1 := hr.2.syncTx r.num node tx
          if h.check = 1 then s1.syncRx r.num s.seg.node node h.ts else s1
        else { hr.2 with uwb.air := some { r with recs := r.recs ++ [⟨node, h.snr, h.check, h.ts⟩] } }

/-- A round's last slot ends (R284, R294, R310): an anchor sends its REPORT and erases its round keys; the manager settles a round
whose anchors are all its own. -/
def State.roundClose (s : State) : State :=
  match s.uwb.air with
  | none => s
  | some r =>
    if s.now < r.fin then s
    else
      let unsent := s.rfc.uwb.q.filter fun q => q.tx && q.use.ofRound r.num
      let s0 := ((s.xcDrop .uwb (XcUse.ofRound r.num)).bumpBy 0x3205 1 unsent.length).bumpBy 0x3040 4 unsent.length
      let s1 := r.kslots.foldl State.eraseSlot { s0 with uwb.air := none }
      let own := r.sent.filter fun p => r.ownMsg p.1 = some 0x20
      if s.seg.role = .manager then
        let s2 := own.foldl (fun s p => s.syncTx r.num s.seg.node p.2) s1
        match s2.awaitOf r.num with
        | some a => if a.left.all (· = s2.seg.node) then s2.settleRound a else s2
        | none => s2
      else
        s1.sendReport r.num r.items ((own.map fun p => ⟨s.seg.node, 0, 1, p.2⟩) ++ r.recs) [] Item.toBytes

/-- A ROUND_PLAN body becomes a planned round, with its keys in RANGING slots (R609, R610). -/
def State.takePlan (s : State) (body kek : Bytes) : State :=
  match kwUnwrap kek (slice 40 88 body) with
  | none => s.bump 0x4220 2
  | some ks =>
    let opp := leAt 8 8 body
    let d := (opp + 2 ^ 40 - s.rcnt s.now) % 2 ^ 40
    let at_ := s.now + d * 5 / 128
    if 2 ^ 39 < d || at_ < s.now + us 100 then s.bump 0x4220 5
    else
      let keys : RoundKeys := ⟨slice 0 16 ks, slice 16 16 ks, slice 32 12 ks, slice 48 16 ks, slice 64 16 ks⟩
      let l := s.loadRanging [keys.krnd, keys.kmic, keys.ksy, keys.ksymic]
      if l.1.length < 4 then l.1.foldl State.eraseSlot l.2
      else
        let r : Round :=
          { num := leAt 0 2 body, tsh := leAt 6 2 body, cls := 3, mode := byteAt 2 body, opp := leAt 16 4 body, at_ := at_,
            anchors := [], ix := some (byteAt 3 body), n := byteAt 4 body, s_ := byteAt 5 body, slot := us (leAt 36 2 body),
            sid := leAt 20 4 body, addr := leAt 24 2 body, phy := (slice 26 6 body).map BitVec.toNat, idx0 := leAt 32 4 body,
            keys := keys, kslots := l.1, served := [], latest := at_, sent := [], resp := none, cfo := 0, items := [],
            recs := [] }
        ({ l.2 with uwb.plan := l.2.uwb.plan ++ [r] }.auxHeld r).askRound r

/-! ### Auxiliary frames (R312 to R314) -/

/-- A launch RCNT as a time (R279): more than 2^39 ticks ahead lies in the past. -/
def State.rcntTime (s : State) (rc : Nat) : Option Nat :=
  let d := (rc + 2 ^ 40 - s.rcnt s.now) % 2 ^ 40
  if d ≤ 2 ^ 39 then some (s.now + d * 5 / 128) else none

/-- A time span overlaps a round planned or on air (R314). -/
def State.roundOver (s : State) (a b : Nat) : Bool :=
  (s.uwb.air.toList ++ s.uwb.plan).any fun r => r.at_ < b && a < r.fin

/-- Auxiliary requests of a requester (R314). -/
def State.auxOf (s : State) (who : Requester) : Nat := (s.uwb.aux.filter fun x => x.who = who).length

/-- An auxiliary request is made by an engine (R322). -/
def Aux.eng (x : Aux) : Bool := match x.who with | .engine _ => true | _ => false

/-- Of two auxiliary requests, `x` stands before `y`: by time, and at one time by class (R322). -/
def Aux.before (x y : Aux) : Bool := x.at_ < y.at_ || (x.at_ = y.at_ && !x.eng && y.eng)

/-- An auxiliary request enters the queue, in order of time, and asks for the transceiver (R322): the host's in class 2, an engine's in
class 3. -/
def State.auxPut (s : State) (x : Aux) : State :=
  { s with uwb.aux := (s.uwb.aux.filter fun y => !x.before y) ++ [x] ++ s.uwb.aux.filter fun y => x.before y }.xcRequest .uwb
    ⟨if x.eng then 3 else 2, x.tx.isSome, some x.at_, if x.tx.isSome then none else some (x.at_ + x.dur), s.g 0x3001 0,
     (match x.tx with | some p => p.2 | none => false), .aux x.who, none⟩

/-- The auxiliary request that is served now (R322): of those whose time has come the first of the highest class, else the next in time. -/
def State.auxNext (s : State) : Option Aux :=
  let due := s.uwb.aux.filter fun x => x.at_ ≤ s.now
  match due.find? fun x => !x.eng with
  | some x => some x
  | none =>
    match due with
    | x :: _ => some x
    | [] => s.uwb.aux.head?

/-- UwbAuxTx (R312, R314): the refusal, or the request queued. -/
def State.auxTx (s : State) (who : Requester) (arg : Bytes) : Option (Nat × Nat) × State :=
  let launch := leAt 0 8 arg
  let flags := byteAt 8 arg
  let len := byteAt 9 arg
  let psdu := arg.drop 10
  if arg.length < 10 then (some (Rc.type, Dt.length), s)
  else if launch % 512 ≠ 0 || 2 ^ 40 ≤ launch || 1 < flags || len < 3 || 125 < len || psdu.length ≠ len then (some (Rc.range, 0), s)
  else if s.gate.quench then (some (Rc.quenched, 0), s)
  else if 4 ≤ s.auxOf who then (some (Rc.busy, Dt.queueFull), s)
  else
    let at_ := (s.rcntTime launch).getD s.now
    let x : Aux := ⟨who, some (psdu, bit flags 0), launch, at_, 0⟩
    if x.eng && (1 ≤ s.bg.stage) || 3 ≤ s.bg.stage then (some (Rc.rateLimited, Dt.thermal), s)
    else if s.roundOver at_ (s.auxFin x) then (some (Rc.busy, Dt.roundHeld), s)
    else (none, s.auxPut x)

/-- UwbAuxRx (R313, R314). -/
def State.auxRx (s : State) (who : Requester) (arg : Bytes) : Option (Nat × Nat) × State :=
  let opn := leAt 0 8 arg
  let dur := leAt 8 2 arg
  if arg.length ≠ 10 then (some (Rc.type, Dt.length), s)
  else if dur < 10 || 10000 < dur || 2 ^ 40 ≤ opn then (some (Rc.range, 0), s)
  else if s.gate.quench then (some (Rc.quenched, 0), s)
  else if 4 ≤ s.auxOf who then (some (Rc.busy, Dt.queueFull), s)
  else
    let at_ := (s.rcntTime opn).getD s.now
    if s.roundOver at_ (at_ + us dur) then (some (Rc.busy, Dt.roundHeld), s)
    else (none, s.auxPut ⟨who, none, opn, at_, us dur⟩)

/-- Stamp and SNR of an auxiliary frame, which has no STS: those of the preamble's first path, else of its peak (DEDUCED, log entry 67); a
chain without any tap gives a free value. -/
def State.hearAux (s : State) (a : AirRx) : Option Heard × State :=
  s.hearBy false (s.g 0x3001 0) 0xFFFF a fun s x =>
    some (match (firstPath (s.g 0x3010 0) x.pre).or (cirPeak x.pre) with
      | some p => (p.1, p.2, false, false)
      | none => (Config.auxStamp s.now, 0, false, false))

/-- The frame of an auxiliary request is sent (R312, R314): from `s1`, at the next launch point. -/
def State.auxSend (s1 : State) (x : Aux) (psdu : Bytes) (onAir : Nat) : (Requester × Resp) × State :=
  let s := s1.boundary .bNextFrame
  let port := s.g 0x300F 0
  let at_ := (s.now + 19 - s.pwr.rcntAt) / 20 * 20 + s.pwr.rcntAt
  let ts := (s.rcnt at_ * 4 + Config.rmarkerOffset (s.g 0x3006 0) (s.g 0x3003 0) + s.antDelay port (s.g 0x3001 0) false) % 2 ^ 42 / 4 * 4
  ((x.who, ⟨0, 0, toLe 8 ts⟩),
   { s with uwb.out := some ⟨0, port, s.g 0x300E 0, withFcs psdu, [], ts⟩ }.uwbOnAir onAir x.eng)

/-- An auxiliary request completes (R313, R314, R324): requester, code, detail and result. A frame leaves a transceiver armed for its time;
with LATE_OK it leaves at the next launch point from which the transceiver is READY. A window is heard while the transceiver has it
open. `onAir` is a transmission's time on air; `rx` is the frame that arrived in a window. -/
def State.auxDone (s : State) (onAir : Nat) (rx : Option (Bytes × AirRx)) : Option (Requester × Resp) × State :=
  match s.auxNext with
  | none => (none, s)
  | some x =>
    let s1 := { s with uwb.aux := s.uwb.aux.eraseP fun y => y = x }.xcDropAux x
    let none_ : Option (Requester × Resp) := some (x.who, ⟨0, 0, [0] ++ toLe 8 0 ++ [0]⟩)
    if s.gate.quench then (some (x.who, ⟨Rc.quenched, 0, []⟩), s1)
    else if s.roundOver x.at_ (match x.tx with | some _ => max (s.auxFin x) (x.at_ + onAir) | none => s.auxFin x) then
      (some (x.who, ⟨Rc.busy, Dt.roundHeld, []⟩), s1)
    else if s.now < x.at_ then (none, s)
    else
      match x.tx with
      | some (psdu, lateOk) =>
        let late := (s.rcntTime x.rcnt).getD (s.now - 1) < s.now || !s.armed .uwb x.at_
        if late && !lateOk then (some (x.who, ⟨Rc.late, 0, []⟩), s1.bump 0x3205 1)
        else if s.rfc.uwb.st ≠ .ready || s.roundOver s.now (s.now + onAir) then (none, s)
        else if x.eng && (s.overShare 1 0 onAir || s.overShare 2 0 (s.paTime .uwb onAir)) then
          (some (x.who, ⟨Rc.rateLimited, Dt.engShare, []⟩), s1)
        else if s.atCeiling 1 0 then (some (x.who, ⟨Rc.rateLimited, 0, []⟩), s1.limCut 1 0)
        else
          let r := s1.auxSend x psdu onAir
          (some r.1, r.2)
      | none =>
        let got := if s.rfc.uwb.st = .rx then rx.bind fun f => (fcsOk f.1).map fun p => (p, f.2) else none
        match got with
        | none => if s.now < x.at_ + x.dur then (none, s) else (none_, s1.packetEnd .uwb none)
        | some (psdu, a) =>
          let hr := s1.hearAux a
          match hr.1 with
          | none => (none_, hr.2.packetEnd .uwb none)
          | some h =>
            (some (x.who, ⟨0, 0, [BitVec.ofNat 8 psdu.length] ++ psdu ++ toLe 8 h.ts ++ [BitVec.ofNat 8 h.snr]⟩), hr.2.packetEnd .uwb none)

end Sys2Proof.Machine
end

