-- ==== Sys2Proof/Machine/Access.lean ====
section
/-! DEFINITION. The access state machines (03, 04): rights, proofs, the counter rule, token sessions, ENTRY and START sessions, the
drive latch, triggers, and the issue of seals (R26). -/
namespace Sys2Proof.Machine

/-! ### Rights, keys and validity -/

/-- The rights of which a command needs one (R99), as a mask; none for a command not listed. -/
def cmdRights (cmd : Nat) : Option Nat :=
  match cmd with
  | 0x01 => some 0x001 | 0x02 => some 0x002 | 0x03 => some 0x004 | 0x04 => some 0x008 | 0x05 => some 0x100
  | 0x06 => some 0x003 | 0x10 => some 0x400 | 0x11 => some 0x200 | _ => none

/-- AccSessionKey of a key (R201, R246). -/
def keyCode : KeyRef → Nat
  | .tok n => n
  | .cred n => 0x8000 + n

/-- A token entry. -/
def State.tokAt (s : State) (n : Nat) : TokEntry := s.acc.toks.getD n .reset

/-- The number of the entry that holds a TID. -/
def State.tokFind (s : State) (tid : Nat) : Option Nat :=
  (s.acc.toks.zipIdx.find? fun p => p.1.st ≠ 0 && p.1.tid = tid).map (·.2)

/-- A token entry as its dictionary elements 1 to 7 (R104). -/
def TokEntry.bytes (e : TokEntry) : Bytes :=
  [BitVec.ofNat 8 e.st, BitVec.ofNat 8 e.cls] ++ toLe 4 e.tid ++ toLe 2 e.handle ++ toLe 4 e.rights ++ toLe 2 e.zones ++
    toLe 8 e.notAfter

/-- A token entry changed, durably, and mirrored to the standby (R107, R622). -/
def State.modTok (s : State) (n : Nat) (f : TokEntry → TokEntry) : State :=
  let s1 := { s with acc.toks := modAt s.acc.toks n f }
  s1.mirror 0 n (s1.tokAt n).bytes

/-- A cache entry as area 2 carries it: its elements 1 to 5 in the dictionary's layout (R136, R621). -/
def CacheEntry.bytes (e : CacheEntry) : Bytes :=
  toLe 8 e.id ++ [BitVec.ofNat 8 e.auth] ++ toLe 8 e.notAfter ++ toLe 4 e.ctr.comm ++ [BitVec.ofNat 8 e.st]

/-- A change of a cache entry goes to the standby (R622). -/
def State.cacheMirror (s : State) (n : Nat) : State :=
  match s.cacheAt n with
  | none => s
  | some e => s.mirror 2 n e.bytes

/-- An entry whose *last* has reached 0xFFFF_FFFF is EXHAUSTED (R140). -/
def State.exhausted (s : State) (k : KeyRef) : State :=
  if ((s.ctrOf k).map fun c => decide (c.last = 2 ^ 32 - 1)).getD false then
    match k with
    | .tok n => if (s.tokAt n).st = 0 || (s.tokAt n).st = 3 then s else s.modTok n fun e => { e with st := 3 }
    | .cred n =>
      ({ s with acc.cache := s.acc.cache.map fun (q : Nat × CacheEntry) => if q.1 = n then (q.1, { q.2 with st := 2 }) else q }).cacheMirror n
  else s

/-- The rights of a key in force. -/
def State.keyRights (s : State) : KeyRef → Nat
  | .tok n => (s.tokAt n).rights
  | .cred n => ((s.cacheAt n).map (·.rights)).getD 0

/-- The validity test of a token (R110 check 3): code and detail. -/
def State.tokTime (s : State) (e : TokEntry) : Nat × Nat :=
  if e.notAfter = 0 then (0, 0)
  else if s.acc.vclk.st = 0 then (0x12, 0x27)
  else if e.notAfter < s.acc.vclk.vc then (0x12, 0) else (0, 0)

/-- The validity window of a credential (R118 checks 7 and 8). -/
def State.credTime (s : State) (flags notBefore notAfter : Nat) : Nat × Nat :=
  if s.acc.vclk.st = 0 && !bit flags 1 then (0x12, 0x27)
  else if s.acc.vclk.vc < notBefore then (0x12, 0x26)
  else if notAfter < s.acc.vclk.vc then (0x12, 0) else (0, 0)

/-- An authority's state for an item that needs permit bit `b` (R114): code and detail. -/
def State.authCheck (s : State) (a b : Nat) : Nat × Nat :=
  if 7 < a || s.g (0x2110 + a) 1 ≠ 1 || !bit (s.g (0x2110 + a) 3) b then (0x0F, 0x21)
  else
    match s.slotSt (s.g (0x2110 + a) 2) with
    | .loaded => (0, 0)
    | .erasing => (0x03, 0xB2)
    | .empty => (0x0F, 0x21)

/-- FAK of an authority (R113). -/
def State.fak (s : State) (a : Nat) : Bytes := (s.slotKey (s.g (0x2110 + a) 2)).getD []

/-- K_cred (R113). -/
def State.kCred (s : State) (a id : Nat) : Bytes :=
  kdf (s.fak a) (ascii "GZCRED-KEY") (toLe 8 id ++ [BitVec.ofNat 8 a]) 16

/-- A target field matches this vehicle (R117). -/
def State.targetOk (s : State) (group : Bool) (target : Bytes) : Bool :=
  if group then target ≠ zeros 8 && leNat target = s.g 0x2102 0 else target = s.fuse.serial

/-- CredAuthUses of an authority rises (R111). -/
def State.authUse (s : State) (a : Nat) : State := s.bump (0x2110 + a) 4

/-- What a seal decision checks again (R121): state, revocation, validity and rights; code and detail. -/
def State.sealCheck (s : State) (k : KeyRef) (gate : Nat) : Nat × Nat :=
  match k with
  | .tok n =>
    let e := s.tokAt n
    if e.st = 0 || e.st = 2 then (0x0F, 0x25)
    else if (s.tokTime e).1 ≠ 0 then s.tokTime e
    else if !bit e.rights gate then (0x02, 0x28) else (0, 0)
  | .cred n =>
    match s.cacheAt n with
    | none => (0x13, 0)
    | some e =>
      if (s.authCheck e.auth 0).1 ≠ 0 then s.authCheck e.auth 0
      else if s.onRevList e.id e.auth then (0x13, 0)
      else if (s.credTime e.flags e.notBefore e.notAfter).1 ≠ 0 then s.credTime e.flags e.notBefore e.notAfter
      else if !bit e.rights gate then (0x02, 0x28) else (0, 0)

/-! ### The counter rule (R137 to R141, R147) -/

/-- What the counter rule says of a received counter. -/
inductive CtrOut where
  | accepted | resync | replay
deriving DecidableEq, Repr

/-- R137 with the pending resync `p`, already cleared in `x` (R138), and R147 after a damaged scan. -/
def Ctr.judge (x : Ctr) (p : Option Nat) (w v c : Nat) : CtrOut × Ctr :=
  if (p.map fun n => n + 1) = some c && c < 2 ^ 32 then (.accepted, { x with last := c, conf := false })
  else if c ≤ x.last || 2 ^ 32 ≤ c then (.replay, x)
  else if c ≤ x.last + w && !x.conf then (.accepted, { x with last := c })
  else if c ≤ x.last + v then (.resync, { x with pend := some (c, 0) })
  else (.replay, x)

/-- A 16-bit counter extended (R141). -/
def extendCtr (last r : Nat) : Nat := last + 1 + (r + 65536 - (last + 1) % 65536) % 65536

/-- A pending resync is taken away by a message for its entry; what stood there, where its time-out has not passed (R138). -/
def State.takePend (s : State) (k : KeyRef) : Option Nat × State :=
  let p := (s.ctrOf k).bind (·.pend)
  ((p.bind fun x => if s.now < x.2 then some x.1 else none), s.modCtr k fun c => { c with pend := none })

/-- The counter of a key is judged; an accepted one is kept, and at 0xFFFF_FFFF the entry is EXHAUSTED (R137 to R140). -/
def State.ctrJudge (s0 : State) (k : KeyRef) (p : Option Nat) (c : Nat) : CtrOut × State :=
  let s := s0.boundary .bNextCounterJudgement
  match s.ctrOf k with
  | none => (.replay, s)
  | some x =>
    let r := x.judge p (s.g 0x2002 0) (s.g 0x2003 0) c
    let due := s.now + secs (s.g 0x2004 0)
    let s1 := s.modCtr k fun _ => { r.2 with pend := r.2.pend.map fun y => (y.1, due) }
    (r.1, if r.1 = .accepted then s1.exhausted k else s1)

/-! ### Zarique messages (R156 to R162) -/

/-- A message without authentication (R156). -/
def zqPlain (typ : Nat) (body : Bytes) : Bytes := [BitVec.ofNat 8 typ, BitVec.ofNat 8 body.length] ++ body

/-- The MAC of an authenticated message (R157). -/
def zqMac (kmac : Bytes) (dir tsh mctr : Nat) (head : Bytes) : Bytes :=
  cmac64 kmac ([BitVec.ofNat 8 dir] ++ toLe 2 tsh ++ toLe 2 mctr ++ head)

/-- An authenticated vehicle message (R156, R157). -/
def zqAuth (kmac : Bytes) (tsh mctr typ : Nat) (body : Bytes) : Bytes :=
  zqPlain typ body ++ toLe 2 mctr ++ zqMac kmac 1 tsh mctr (zqPlain typ body)

/-- A vehicle message waits for its carrier; LF carries none (R156, R169). -/
def State.vsend (s : State) (car : Carrier) (msg : Bytes) : State :=
  match car with
  | .lf _ => s
  | _ => { s with acc.tx := s.acc.tx ++ [(car, msg)] }

/-- The token session with a handle, and its session number. -/
def State.sesOf (s : State) (tsh : Nat) : Option (Nat × TokSession) :=
  s.acc.ses.zipIdx.findSome? fun p => p.1.bind fun x => if x.tsh = tsh then some (p.2, x) else none

/-- The token session on a carrier (R153). -/
def State.sesOn (s : State) (car : Carrier) : Option (Nat × TokSession) :=
  s.acc.ses.zipIdx.findSome? fun p => p.1.bind fun x => if x.car = car then some (p.2, x) else none

/-- A token session changed. -/
def State.modSes (s : State) (i : Nat) (f : TokSession → TokSession) : State :=
  { s with acc.ses := modAt s.acc.ses i fun o => o.map f }

/-- A Zarique message is dropped and counted (R157, R158). -/
def State.zqDrop (s : State) : State := s.bump 0x2234 0

/-- RESULT_PLAIN (R162). -/
def State.resultPlain (s : State) (car : Carrier) (code detail : Nat) : State :=
  s.vsend car (zqPlain 0x02 [BitVec.ofNat 8 code, BitVec.ofNat 8 detail])

/-- The body of RESULT (R162). -/
def resultBody (code detail cmd last : Nat) : Bytes :=
  [BitVec.ofNat 8 code, BitVec.ofNat 8 detail, BitVec.ofNat 8 cmd, 0] ++ toLe 4 last

/-- An authenticated message in a token session under the given K_mac, MCTR counted on. -/
def State.sesSendRaw (s : State) (i : Nat) (kmac : Bytes) (typ : Nat) (body : Bytes) : State :=
  match (s.acc.ses.getD i none) with
  | none => s
  | some x => ((s.modSes i fun y => { y with tx := y.tx + 1 }).cxUse 1 (cmacOps (7 + body.length))).vsend x.car
      (zqAuth kmac x.tsh (x.tx + 1) typ body)

/-! ### The end of sessions -/

/-- A LF exchange is asked for (R388): one for the same channel and gate is merged. -/
def State.lfAsk (s : State) (x : LfEx) : State :=
  let same := fun (y : LfEx) => y.chan = x.chan && y.gate = x.gate
  if (s.lf.q.any same) || ((s.lf.run.map fun r => same r.ex).getD false) then s else { s with lf.q := s.lf.q ++ [x] }

/-- The learning window closes; a key drawn and not yet bound is erased (R193, R194). -/
def State.learnClose (s : State) : State :=
  match s.acc.learn with
  | none => s
  | some l =>
    let s1 := { s with acc.learn := none }
    match l.xfer with
    | none => s1
    | some x => s1.eraseMirrored x.slot

/-- A transfer fails: the drawn key is erased and the window stays open (R193). -/
def State.xferDrop (s : State) : State :=
  match s.acc.learn with
  | none => s
  | some l =>
    match l.xfer with
    | none => s
    | some x => ({ s with acc.learn := some { l with xfer := none } }).eraseMirrored x.slot

/-- An ENTRY session ends; its requests close, and it relocks as R177 states where `relock` asks for it. -/
def State.endEntry (s : State) (k : KeyRef) (relock : Bool) : State :=
  match s.acc.entry.find? fun e => e.key = k with
  | none => s
  | some e =>
    let s1 := { s with acc.entry := s.acc.entry.filter fun x => x.key ≠ k }.dropReqs fun q => q.key = k && !q.start
    if relock && 0 < e.seals && !e.door && !s.gate.quench then (s1.lockRequest 1).2 else s1

/-- The START requests refused with GATE_HELD open again (R198). -/
def State.wakeHeld (s : State) : State :=
  let ws := s.acc.start.filter fun x => x.held.isSome
  ws.foldl (fun s x => s.openReq x.tsh 3 true x.key (x.held.getD 0))
    { s with acc.start := s.acc.start.map fun (x : StartS) => { x with held := none } }

/-- A request ends with a code and no verdict, or its seal is void: the code is kept (R174, R198, R247; log 61). -/
def State.refuseReq (s : State) (tsh gate code detail : Nat) : State :=
  { s with acc.refused := ((tsh, gate, code, detail) :: s.acc.refused).take 16 }

/-- START_EN is lowered 600 s after it rose, outside the drive latch, whatever state the session has (R244); a START request that was
refused for it may be served again (R198). -/
def State.startLimit (s : State) : State :=
  if s.gate.startEn && s.acc.drive.isNone && s.gate.startAt + secs 600 ≤ s.now then
    { s.lowerStart with acc.start := s.lowerStart.acc.start.map fun (x : StartS) => { x with up := false } }.wakeHeld
  else s

/-- A START session ends: its request closes, and START_EN falls where it stands high on its seal (R176, R178, R244). -/
def State.endStart (s : State) (k : KeyRef) (wake : Bool) : State :=
  match s.acc.start.find? fun e => e.key = k with
  | none => s
  | some e =>
    let s1 := { s with acc.start := s.acc.start.filter fun x => x.key ≠ k }.dropReqs fun q => q.key = k && q.start
    if e.up && s.acc.drive.isNone then
      let s2 := s1.lowerStart
      if wake then s2.wakeHeld else s2
    else s1

/-- The link of a carrier still stands. -/
def State.linkUp (s : State) : Carrier → Bool
  | .ble c => (s.ble.conns.getD c none).isSome
  | .nfc p => ((s.nfc.ports[p]?).bind (·.act)).isSome
  | .lf _ => false

/-- A token session ends (R154): SESSION_END goes where an outcome is given and the link stands, its evidence, requests and UWB
session go, and the sessions it opened end where they have no seal (R165, R176, R194, R214, R295). -/
def State.endSession (s : State) (tsh : Nat) (out : Option (Nat × Nat)) : State :=
  match s.sesOf tsh with
  | none => s
  | some (i, x) =>
    let s1 := match out with
      | some o => if s.linkUp x.car && !s.gate.quench then s.sesSendRaw i x.kmac 0x07 [BitVec.ofNat 8 o.1, BitVec.ofNat 8 o.2] else s
      | none => s
    let s2 := { s1 with
      acc.ses := putAt s1.acc.ses i none,
      acc.nonces := s1.acc.nonces.filter fun n => n.car ≠ x.car,
      acc.adv := s1.acc.adv.filter fun a => a.tsh ≠ tsh || !a.failed }
    let s3 := (s2.closeUwb tsh).tsDropSession tsh
    let s4 := match x.sts with | none => s3 | some h => s3.eraseSlot h
    let es := s4.acc.entry.filter fun e => e.tsh = tsh && e.seals = 0
    let s5 := es.foldl (fun s e => s.endEntry e.key false) s4
    let ss := s5.acc.start.filter fun e => e.tsh = tsh && !e.sealed_
    let s6 := ss.foldl (fun s e => s.endStart e.key true) s5
    match s6.acc.learn with
    | none => s6
    | some l =>
      let held := (l.xfer.map fun t => decide (t.delivery ≠ 2)).getD false
      if l.tsh = tsh && !held then s6.learnClose else s6

/-- The advance accepted last owes its final RESULT (R150; log 57). -/
def State.oweLast (s : State) : State :=
  { s with acc.adv := s.acc.adv.zipIdx.map fun (p : Advance × Nat) => if p.2 + 1 = s.acc.adv.length then { p.1 with owed := true } else p.1 }

/-- MCTR reaches 0xFFFF in a token session: it ends, and its SESSION_END is the message that carries 0xFFFF (R154, R165; DEDUCED,
log 59). -/
def State.mctrEnd (s : State) (tsh : Nat) : State :=
  match s.sesOf tsh with
  | none => s
  | some (_, x) =>
    if x.tx = 0xFFFE || x.rx = 0xFFFF then s.endSession tsh (some (0, 0)) else s

/-- An authenticated message in a token session under its own K_mac. -/
def State.sesSend (s : State) (tsh typ : Nat) (body : Bytes) : State :=
  match s.sesOf tsh with
  | none => s
  | some (i, x) => (s.sesSendRaw i x.kmac typ body).mctrEnd tsh

/-- A later RESULT of a presentation whose commit has ended, under the keys of its proof (R148, R150, R162, R624; log 57). -/
def State.advResult (s : State) (a : Advance) (code detail : Nat) : State :=
  match s.sesOf a.tsh with
  | none => s
  | some (i, _) => (s.sesSendRaw i a.kmac 0x03 (resultBody code detail a.cmd (((s.ctrOf a.key).map (·.last)).getD a.value))).mctrEnd a.tsh

/-- Commits that have ended give the RESULT they owe: NOT_READY with JOURNAL_FAIL, or OK; those that are done leave the list, and
entries of revoked credentials are freed (R133, R148, R150). -/
def State.advSettle (s : State) : State :=
  let out := s.acc.adv.filter fun a => a.owed && (a.failed || a.done)
  let s1 := out.foldl (fun s a => if a.failed then s.advResult a Rc.notReady Dt.journalFail else s.advResult a 0 0) s
  ({ s1 with acc.adv := s1.acc.adv.map fun (a : Advance) => if a.failed then { a with owed := false } else a }.sweepAdv).freeRevoked

/-- A RESULT in a token session, outside a proof. -/
def State.sesResult (s : State) (tsh code detail cmd last : Nat) : State := s.sesSend tsh 0x03 (resultBody code detail cmd last)

/-- Every token session of a carrier's end (R154). -/
def State.carrierEnd (s : State) (car : Carrier) : State :=
  let s1 := match s.sesOn car with
    | none => s
    | some (_, x) => s.endSession x.tsh none
  { s1 with acc.nonces := s1.acc.nonces.filter fun n => n.car ≠ car, acc.tx := s1.acc.tx.filter fun m => m.1 ≠ car }

/-- The ENTRY session of a key that R197 ends: its relock (R177) leaves the pulses of seals already issued to complete. -/
def State.endRevoked (s : State) (k : KeyRef) : State :=
  if s.unlocking && s.acc.entry.any fun e => e.key = k && 0 < e.seals && !e.door then
    { s.endEntry k false with gate.relock := true }
  else s.endEntry k true

/-- A key is revoked, suspended or expired (R197): its ENTRY and START sessions end as R176 states, its token sessions with
SESSION_END, and a learning window it authorised closes. -/
def State.keyGone (s : State) (k : KeyRef) (code detail : Nat) : State :=
  let s1 := (s.endRevoked k).endStart k true
  let ts := s1.acc.ses.filterMap fun o => o.bind fun x => if x.key = k then some x.tsh else none
  let s2 := ts.foldl (fun s t => s.endSession t (some (code, detail))) s1
  match s2.acc.learn with
  | none => s2
  | some l => if l.key = k then s2.learnClose else s2

/-! ### Seals (R26, R121, R246, R247) -/

/-- The fields of a seal as the SEAL record holds them (R246, R677). -/
def sealBytes (q gate tsh key zone table ctr rc : Nat) : Bytes :=
  toLe 4 q ++ [BitVec.ofNat 8 gate] ++ toLe 2 tsh ++ toLe 2 key ++ [BitVec.ofNat 8 zone] ++ toLe 4 table ++ toLe 4 ctr ++ toLe 8 rc

/-- A satisfied START verdict that comes before the one of `tsh` completed at `at_` (R198). -/
def State.startBefore (s : State) (tsh at_ : Nat) : Bool :=
  s.ts.reqs.any fun q => q.gate = 3 && q.tsh ≠ tsh &&
    (q.ok.map fun v => decide (v.2 / 10 < at_ / 10) || (decide (v.2 / 10 = at_ / 10) && decide (q.tsh < tsh))).getD false

/-- A seal has been issued for a request: it counts for its session (R173, R176, R177, R201). -/
def State.sealCount (s : State) (q : VReq) : State :=
  let s1 := match s.sesOf q.tsh with
    | none => s
    | some (i, _) => s.modSes i fun x => { x with seals := min 255 (x.seals + 1) }
  if q.start then { s1 with acc.start := s1.acc.start.map fun (x : StartS) =>
      if x.key = q.key then { x with sealed_ := true, up := true, held := none } else x }
  else { s1 with acc.entry := s1.acc.entry.map fun (x : EntryS) => if x.key = q.key then { x with seals := x.seals + 1 } else x }

/-- The access state machines may decide now: the manager, ready, not in Quench, clocks good, no self-test, and not isolated from
its twin (R24, R30, R31, R95, R626). -/
def State.mayDecide (s : State) : Bool := s.deciding && s.clocksOk && s.dict.selfTest.isNone && s.twin.st ≠ .isolated

/-- A seal is made for a request and handed to its gate by `take`: SEQ rises, it is shown at GateLastSeal and logged, void or not
(R246, R247); the request of a void seal gets its code. -/
def State.sealMake (s : State) (q : VReq) (zone : Nat) (take : State → (Nat × Nat) × State) : (Nat × Nat) × State :=
  let n := (s.gate.seq + 1) % 2 ^ 32
  let r := take { s with gate.seq := n }
  let ctr := ((s.ctrOf q.key).map (·.comm)).getD 0
  let f := [n, q.gate, q.tsh, keyCode q.key, zone, q.table.ver, ctr, s.rcnt s.now]
  let s1 := f.zipIdx.foldl (fun s p => s.put 0x2430 (p.2 + 1) p.1) r.2
  let s2 := s1.logEv 0x01 r.1.1 r.1.2 (sealBytes n q.gate q.tsh (keyCode q.key) zone q.table.ver ctr (s.rcnt s.now))
  (r.1, if r.1.1 = 0 then s2 else s2.refuseReq q.tsh q.gate r.1.1 r.1.2)

/-- The verdict on which a seal of a request may be issued now (R26, R198, R235, R247). -/
def State.sealReady (s : State) (q : VReq) : Option Verdict :=
  q.ok.bind fun v =>
    if !s.mayDecide || v.1.expiry ≤ s.now || !s.advClear q.tsh || (q.gate = 3 && s.startBefore q.tsh v.2) then none else some v.1

/-- What a seal decision checks again (R121): the key, and its zones. -/
def State.sealDeny (s : State) (q : VReq) (zone : Nat) : Nat × Nat :=
  if (s.sealCheck q.key q.gate).1 ≠ 0 then s.sealCheck q.key q.gate
  else if !(s.keyZones q.key).testBit zone then (0x14, 0) else (0, 0)

/-- Seals that meet the entry to Quench are void with QUENCHED (R247, R265): those of the requests `qs`. -/
def State.sealsVoid (s : State) (qs : List (VReq × Verdict)) : State :=
  qs.foldl (fun s p => (s.sealMake p.1 p.2.zone fun s => ((0x0E, 0), s)).2) s

/-- A seal is issued (R26): the verdict is SATISFIED and has not expired, every advance of the session is committed, and the checks
of R121 hold again. A check that fails refuses it; a gate that refuses voids it. -/
def State.sealIssue (s : State) (tsh gate : Nat) : State :=
  match s.ts.reqs.find? fun q => q.tsh = tsh && q.gate = gate with
  | none => s
  | some q =>
    match s.sealReady q with
    | none => s
    | some v =>
      let s0 := s.dropReqs fun r => r.tsh = tsh && r.gate = gate
      let d := s.sealDeny q v.zone
      if d.1 ≠ 0 then s0.refuseReq tsh gate d.1 d.2
      else
        let mine := s.acc.drive.isNone && s.acc.start.any fun x => x.key = q.key && x.up
        let r := s0.sealMake q v.zone fun s1 => s1.gateTake gate mine (s.gate.startEn && !mine)
        if r.1.1 = 0 then r.2.sealCount q
        else if r.1 = (0x03, 0x50) then
          { r.2 with acc.start := r.2.acc.start.map fun (x : StartS) => if x.key = q.key then { x with held := some q.trig } else x }
        else r.2

/-! ### Commands, triggers and edges (R170 to R179) -/

/-- An ENTRY session opens or is renewed (R172, R173). -/
def State.openEntry (s : State) (k : KeyRef) (tsh : Nat) (passive : Bool) : State :=
  match s.acc.entry.find? fun e => e.key = k with
  | some e =>
    let e1 : EntryS := { e with tsh := tsh, passive := e.passive || passive, due := s.now + secs (s.g 0x2200 0) }
    { s with acc.entry := s.acc.entry.map fun (x : EntryS) => if x.key = k then e1 else x }
  | none =>
    let s1 := s.boundary .bNextSession
    { s1 with acc.entry := s1.acc.entry ++ [⟨k, tsh, passive, s.now + secs (s1.g 0x2200 0), 0, false⟩] }

/-- A START session opens or is renewed (R172, R173); one that holds START_EN keeps its handle. -/
def State.openStart (s : State) (k : KeyRef) (tsh : Nat) : State :=
  match s.acc.start.find? fun e => e.key = k with
  | some e =>
    let e1 : StartS := { e with tsh := if e.sealed_ then e.tsh else tsh, due := s.now + secs (s.g 0x2201 0), held := none }
    { s with acc.start := s.acc.start.map fun (x : StartS) => if x.key = k then e1 else x }
  | none =>
    let s1 := s.boundary .bNextSession
    { s1 with acc.start := s1.acc.start ++ [⟨k, tsh, s.now + secs (s1.g 0x2201 0), false, false, s1.g 0x2203 0, none⟩] }

/-- An accepted command acts (R172); `trig` is the trigger time of R227. -/
def State.command (s : State) (k : KeyRef) (tsh cmd trig : Nat) : State :=
  match cmd with
  | 0x01 => (s.openEntry k tsh false).openReq tsh 0 false k trig
  | 0x02 => (s.openEntry k tsh false).openReq tsh 1 false k trig
  | 0x03 => (s.openEntry k tsh false).openReq tsh 2 false k trig
  | 0x04 => (s.openStart k tsh).openReq tsh 3 true k trig
  | 0x05 => s.acc.entry.foldl (fun s e => s.endEntry e.key false) (s.lockRequest 0).2
  | 0x06 => s.openEntry k tsh true
  | 0x11 =>
    match s.sesOf tsh with
    | none => s
    | some (i, _) => s.modSes i fun x => { x with revoke := some (s.now + ms (s.g 0x2206 0)) }
  | _ => s

/-- A prompt is asked for in a BLE token session; one already waiting on the connection is replaced (R167). -/
def State.askPrompt (s : State) (car : Carrier) (reason gate : Nat) : State :=
  { s with acc.nonces := s.acc.nonces ++ [⟨car, [], none, 0, reason, gate⟩] }

/-- The BLE token sessions. -/
def State.bleSes (s : State) : List TokSession :=
  s.acc.ses.filterMap fun o => o.bind fun x => match x.car with | .ble _ => some x | _ => none

/-- A touch is served (R170, R174): the mapped gate, the LF channel to poll (none for 0xFF) and the scanner's stamp. -/
def State.touch (s : State) (gate : Nat) (lf : Option LfEx) (trig : Nat) : State :=
  if gate = 0xFF then s
  else
    let s1 := (s.acc.entry.filter (·.passive)).foldl (fun s e =>
      let r := s.keyRights e.key
      let g := if gate = 0 && !bit r 0 && bit r 1 then 1 else gate
      if bit r g then s.openReq e.tsh g false e.key trig else s.refuseReq e.tsh g 0x02 0x28) s
    let s2 := s1.bleSes.foldl (fun s x =>
      if s.acc.entry.any fun e => e.key = x.key then s else s.askPrompt x.car 2 gate) s1
    match lf with
    | none => s2
    | some x => s2.lfAsk x

/-- A start trigger (R171). -/
def State.startTrigger (s : State) : State :=
  let s1 := s.bleSes.foldl (fun s x => s.askPrompt x.car 3 3) s
  if s.g 0x2222 0 = 0xFF then s1 else s1.lfAsk ⟨s.g 0x2222 0, 3, .poll, none, [], 0⟩

/-- The open level of DOOR_SW[n] (R175, AccDoorPolarity). -/
def State.doorOpenAt (s : State) (n : Nat) (level : Bool) : Bool := level = bit (s.g 0x2224 0) n

/-- A debounced door-open edge (R175, R176): ENTRY sessions end without relock, START sessions end, the latch stays. -/
def State.doorEdge (s : State) : State :=
  let s1 := { s with acc.entry := s.acc.entry.map fun (e : EntryS) => if 0 < e.seals then { e with door := true } else e }
  let s2 := s1.acc.entry.foldl (fun s e => s.endEntry e.key false) s1
  s2.acc.start.foldl (fun s e => s.endStart e.key false) s2

/-- ENTRY sessions whose time has come end with their relock (R176, R177). -/
def State.entryTimeout (s : State) : State :=
  (s.acc.entry.filter fun e => e.due ≤ s.now).foldl (fun s e => s.endEntry e.key true) s

/-- START sessions whose time has come end (R176). -/
def State.startTimeout (s : State) : State :=
  (s.acc.start.filter fun e => e.due ≤ s.now).foldl (fun s e => s.endStart e.key true) s

/-- The engine controller acknowledges from source 0 CAN or 1 IGN_IN (R178): the START session whose seal is in force becomes the
drive latch, and every other START session ends (R176, R198). -/
def State.startAck (s : State) (src : Nat) : State :=
  match s.acc.start.find? fun x => x.sealed_ with
  | none => s
  | some x =>
    if s.gate.startEn && s.acc.drive.isNone && (x.ack = src || x.ack = 2) then
      let s1 := { s with acc.drive := some (x.key, x.tsh) }
      s1.acc.start.foldl (fun s e =>
        let s2 := s.endStart e.key false
        if e.key = x.key then s2 else s2.refuseReq e.tsh 3 0x03 0x50) s1
    else s

/-- IGN_IN falls and ends the drive latch (R176, R179). -/
def State.ignFall (s : State) : State :=
  if s.acc.drive.isSome then { s with acc.drive := none }.lowerStart else s

/-- Every session ends: at reset, at Quench and when the MANAGER role is given up (R154, R176, R628). -/
def State.endAll (s : State) : State :=
  let s1 := s.acc.ses.foldl (fun s o => match o with | none => s | some x => s.endSession x.tsh none) s
  let s2 := s1.acc.entry.foldl (fun s e => s.endEntry e.key false) s1
  let s3 := s2.acc.start.foldl (fun s e => s.endStart e.key false) s2
  { s3.learnClose with acc.nonces := [] }

/-! ### Presentations (R99 to R103, R110, R118, R160 to R162, R182) -/

/-- How a proof was judged. -/
structure Judged where
  code   : Nat
  detail : Nat
  /-- The proof verified: the key and the MAC input from which R155 derives the keys of RESULT. -/
  ver    : Option (KeyRef × Bytes × Bytes)
  last   : Nat
deriving DecidableEq, Repr

/-- A refusal before or at the proof verification. -/
def refusedPlain (code detail : Nat) : Judged := ⟨code, detail, none, 0⟩

/-- The outcome of the counter rule after every other check has passed (R110 check 5, R118 check 11). -/
def State.counterStep (s : State) (k : KeyRef) (p : Option Nat) (c : Nat) (ver : KeyRef × Bytes × Bytes) (exhausted : Bool) :
    Judged × State :=
  let last := fun (s : State) => ((s.ctrOf k).map (·.last)).getD 0
  if s.acc.jr.st = .failed then (⟨0x06, 0x2C, some ver, last s⟩, s)
  else if exhausted then (⟨0x10, 0x2B, some ver, last s⟩, s)
  else
    let r := s.ctrJudge k p c
    match r.1 with
    | .accepted => (⟨0, 0, some ver, last r.2⟩, r.2)
    | .resync => (⟨0x11, 0, some ver, last r.2⟩, r.2)
    | .replay => (⟨0x10, 0, some ver, last r.2⟩, r.2)

/-- A class suits an interface (R110): PHONE on BLE or NFC, CARD on NFC, the fobs on LF. -/
def classSuits (cls ifc : Nat) : Bool :=
  if cls = 1 then ifc ≤ 2 else if cls = 2 then ifc = 1 || ifc = 2 else (cls = 3 || cls = 4) && 3 ≤ ifc

/-- R110. `ns` are the valid nonces of the carrier, `bound` the command that a gate binds a card or fob to (R169), `legacy` says that
`c` is a 16-bit counter (R141). -/
def State.judgeTok (s : State) (ifc tid c cmd : Nat) (proof : Bytes) (ns : List Bytes) (bound : Option Nat) (legacy : Bool) :
    Judged × State :=
  match s.tokFind tid with
  | none => (refusedPlain 0x0F 0x25, s)
  | some n =>
    let e := s.tokAt n
    let pd := s.takePend (.tok n)
    let s1 := pd.2
    if e.st = 3 then (refusedPlain 0x10 0x2B, s1)
    else if s.slotSt e.handle = .erasing then (refusedPlain 0x03 0xB2, s1)
    else if e.st ≠ 1 || !classSuits e.cls ifc then (refusedPlain 0x0F 0x25, s1)
    else
      match s.slotKey e.handle with
      | none => (refusedPlain 0x0F 0x25, s1)
      | some k =>
        let c' := if legacy then extendCtr e.ctr.last c else c
        let input := fun (nc : Bytes) => nc ++ toLe 4 c' ++ [BitVec.ofNat 8 cmd] ++ toLe 4 tid
        let s2 := s1.cxUse 1 (cmacOps 25)
        match ns.find? fun nc => cmac64 k (input nc) = proof with
        | none => (refusedPlain 0x0F 0x24, s2)
        | some nc =>
          let ver := (KeyRef.tok n, k, input nc)
          if (s.tokTime e).1 ≠ 0 then (⟨(s.tokTime e).1, (s.tokTime e).2, some ver, e.ctr.last⟩, s2)
          else
            match cmdRights cmd with
            | none => (⟨0x04, 0, some ver, e.ctr.last⟩, s2)
            | some m =>
              if e.cls ≠ 1 && bound ≠ some cmd then (⟨0x04, 0, some ver, e.ctr.last⟩, s2)
              else if e.rights &&& m = 0 then (⟨0x02, 0x28, some ver, e.ctr.last⟩, s2)
              else s2.counterStep (.tok n) pd.1 c' ver false

/-- Check 1 of R118: the form of a credential. -/
def credFormOk (cr : Bytes) : Bool :=
  cr.length = 64 && byteAt 0 cr = 1 && leAt 2 2 cr < 4 && slice 42 6 cr = zeros 6 &&
    (leAt 32 4 cr &&& 0xFFFFFEF0 = 0) && leAt 20 6 cr ≤ leAt 26 6 cr

/-- The cache entry of a credential (R134, R135): the one it has, or the lowest-numbered FREE one, expired entries freed first. -/
def State.cacheFor (s : State) (cr : Bytes) : Option Nat × State :=
  let id := leAt 4 8 cr
  let a := byteAt 1 cr
  match s.acc.cache.find? fun p => p.2.id = id && p.2.auth = a with
  | some p => (some p.1, s)
  | none =>
    let full := 1024 ≤ s.acc.cache.length
    let l := if full then s.acc.cache.filter fun p => s.acc.vclk.vc ≤ p.2.notAfter else s.acc.cache
    match (List.range 1024).find? fun n => !(l.any fun p => p.1 = n) with
    | none => (none, { s with acc.cache := l })
    | some n =>
      let b := leAt 38 4 cr
      let e : CacheEntry := ⟨1, id, a, leAt 26 6 cr, leAt 20 6 cr, leAt 32 4 cr, leAt 36 2 cr, leAt 2 2 cr, b, s.newCtr b⟩
      let s1 := { s with acc.cache := (l.filter fun (p : Nat × CacheEntry) => p.1 < n) ++ [(n, e)] ++ l.filter fun (p : Nat × CacheEntry) => n < p.1 }
      (some n, (s1.cacheMirror n).exhausted (.cred n))

/-- R118. -/
def State.judgeCred (s : State) (c cmd : Nat) (cr proof : Bytes) (ns : List Bytes) : Judged × State :=
  let id := leAt 4 8 cr
  let a := byteAt 1 cr
  let k0 := (s.acc.cache.find? fun p => p.2.id = id && p.2.auth = a).map (·.1)
  let pd : Option Nat × State := match k0 with | none => (none, s) | some n => s.takePend (.cred n)
  let s1 := pd.2
  let last0 := match k0 with | none => leAt 38 4 cr | some n => ((s.ctrOf (.cred n)).map (·.last)).getD 0
  if !credFormOk cr then (refusedPlain 0x0F 0x20, s1)
  else if (s.authCheck a 0).1 ≠ 0 then (refusedPlain (s.authCheck a 0).1 (s.authCheck a 0).2, s1)
  else
    let s2 := s1.cxUse 1 (2 * cmacOps 16 + cmacOps 48 + cmacOps 29)
    if cmac (kdf (s.fak a) (ascii "GZCRED-AUTH") [BitVec.ofNat 8 a] 16) (cr.take 48) ≠ cr.drop 48 then (refusedPlain 0x0F 0x22, s2)
    else if !s.targetOk (bit (leAt 2 2 cr) 0) (slice 12 8 cr) then (refusedPlain 0x0F 0x23, s2)
    else
      let k := s.kCred a id
      let input := fun (nc : Bytes) => nc ++ toLe 4 c ++ [BitVec.ofNat 8 cmd] ++ toLe 8 id
      match ns.find? fun nc => cmac64 k (input nc) = proof with
      | none => (refusedPlain 0x0F 0x24, s2)
      | some nc =>
        let ver := fun (n : Nat) => (KeyRef.cred n, k, input nc)
        let v0 := ver (k0.getD 0)
        let tm := s.credTime (leAt 2 2 cr) (leAt 20 6 cr) (leAt 26 6 cr)
        if s.onRevList id a then (⟨0x13, 0, some v0, last0⟩, s2)
        else if tm.1 ≠ 0 then (⟨tm.1, tm.2, some v0, last0⟩, s2)
        else
          match cmdRights cmd with
          | none => (⟨0x04, 0, some v0, last0⟩, s2)
          | some m =>
            if leAt 32 4 cr &&& m = 0 then (⟨0x02, 0x28, some v0, last0⟩, s2)
            else
              let f := s2.cacheFor cr
              match f.1 with
              | none => (⟨0x03, 0x29, some v0, last0⟩, f.2)
              | some n =>
                let ex : Bool := ((f.2.cacheAt n).map fun e => decide (e.st = 2)).getD false
                let r := f.2.counterStep (.cred n) pd.1 c (ver n) ex
                if r.1.code = 0 then
                  (r.1, { r.2 with acc.cache := r.2.acc.cache.map fun (p : Nat × CacheEntry) =>
                    if p.1 = n then (p.1, { p.2 with notAfter := leAt 26 6 cr, notBefore := leAt 20 6 cr, rights := leAt 32 4 cr,
                                                     zones := leAt 36 2 cr, flags := leAt 2 2 cr }) else p }.authUse a)
                else r

/-- The three keys of R155 from the proof just verified. -/
def sesKeys (k input : Bytes) : Bytes × Bytes × Bytes :=
  (kdf k (ascii "ZQ-MAC") input 16, kdf k (ascii "ZQ-ENC") input 16, kdf k (ascii "ZQ-STS") input 16)

/-- The next TSH and the counter after it, skipping values held (R723). -/
def tshFree (held : List Nat) : Nat → Nat → Nat
  | 0, t => t
  | n + 1, t => if held.contains t then tshFree held n (if t = 0xFFFF then 1 else t + 1) else t

/-- A token session opens on a carrier (R152, R155, R723): its handle. -/
def State.openSession (s : State) (car : Carrier) (k : KeyRef) (keys : Bytes × Bytes × Bytes) (n10 : Bytes) : Nat × State :=
  let held := s.acc.ses.filterMap fun o => o.map (·.tsh)
  let t := tshFree held 17 s.acc.tshNext
  let i := ((List.range 16).find? fun i => (s.acc.ses.getD i none).isNone).getD 16
  let ble := match car with | .ble _ => true | _ => false
  let x : TokSession := ⟨t, car, k, keys.1, keys.2.1, keys.2.2, 0, 0, 0, n10, none, ble, none⟩
  (t, { s with acc.ses := putAt s.acc.ses i (some x), acc.tshNext := if t = 0xFFFF then 1 else t + 1 })

/-- The valid nonces of a carrier, oldest first (R160). -/
def State.validNonces (s : State) (car : Carrier) : List Nonce :=
  s.acc.nonces.filter fun n => n.car = car && n.left.isSome && s.now ≤ n.due

/-- A learning window opens (R188): code and detail. -/
def State.learnOpen (s : State) (code : Bool) (tsh : Nat) (k : KeyRef) : (Nat × Nat) × State :=
  if s.acc.learn.isSome then ((0x03, 0x36), s)
  else ((0, 0), { s with acc.learn := some ⟨code, tsh, k, s.now + secs 120, none⟩ })

/-- A BLE connection's token session has opened: the connection has held one, and a slow link is asked to speed up (R357, R363). -/
def State.sesOpened (s : State) (car : Carrier) : State :=
  match car with
  | .ble c => { s with ble.conns := modAt s.ble.conns c fun o => o.map fun (x : BleConn) =>
      { x with had := true, param := x.param || decide (s.g 0x3105 0 < x.interval) } }
  | _ => s

/-- What the accepted proof sets going: the session, the commit, the RESULT and the command (R152, R162, R172). -/
def State.proofAccepted (s : State) (car : Carrier) (claim : Claim) (j : Judged) (ver : KeyRef × Bytes × Bytes) (cmd trig : Nat) : State :=
  let keys := sesKeys ver.2.1 ver.2.2
  let s1 := s.clearClaim claim (ifaceOf car)
  let o : Nat × State := match s1.sesOn car with
    | some (_, x) => (x.tsh, s1)
    | none => let r := s1.openSession car ver.1 keys (ver.2.2.take 10); (r.1, r.2.sesOpened car)
  let s2 := o.2.advance ver.1 j.last o.1 cmd keys.1 claim (ifaceOf car)
  let l : (Nat × Nat) × State := if cmd = 0x10 then s2.learnOpen false o.1 ver.1 else ((0, 0), s2)
  let wait := l.1.1 = 0 && s.needTwin
  let code := if wait then (0x03, 0x2D) else l.1
  let i := ((l.2.sesOf o.1).map (·.1)).getD 16
  let s3 := if wait then l.2.oweLast else l.2
  let s4 := (s3.sesSendRaw i keys.1 0x03 (resultBody code.1 code.2 cmd j.last)).mctrEnd o.1
  s4.command ver.1 o.1 cmd trig

/-- A presentation on a carrier (R153, R160, R162, R180, R182): the nonce, the bound key, the lock-out checks, the judgement and what
follows. True where it was accepted. -/
def State.present (s : State) (car : Carrier) (claim : Claim) (cmd : Nat) (judge : List Bytes → State → Judged × State) : Bool × State :=
  let ifc := ifaceOf car
  let ns := s.validNonces car
  if !s.deciding then (false, s)
  else
    let keyOf : Option KeyRef := match claim with
      | .tok tid => (s.tokFind tid).map .tok
      | .cred a id => (s.acc.cache.find? fun p => p.2.id = id && p.2.auth = a).map fun p => .cred p.1
    let no := fun (code detail : Nat) => (false, (match keyOf with | some k => (s.takePend k).2 | none => s).resultPlain car code detail)
    if s.twin.st = .isolated then no 0x06 0xF0
    else
    match ns.getLast? with
    | none => no 0x0F 0x33
    | some newest =>
      let bound := (s.sesOn car).map fun x => decide (keyOf = some x.2.key)
      if bound = some false then no 0x02 0x34
      else
        let master := match claim with
          | .tok tid => ((s.tokFind tid).map fun n => (s.tokAt n).st = 1 && bit (s.tokAt n).rights 9).getD false
          | .cred _ _ => false
        let lk := s.lockCheck claim ifc (bound = some true || master)
        if lk ≠ 0 then no 0x07 lk
        else if bound.isNone && s.acc.ses.all Option.isSome then no 0x03 0x04
        else
          let r := judge (ns.map (·.bytes)) s
          let j := r.1
          let used := (j.ver.bind fun v => ns.find? fun n => n.bytes = v.2.2.take 16).getD newest
          let tried := (ns.takeWhile fun n => n ≠ used) ++ [used]
          let s1 := { r.2 with acc.nonces := r.2.acc.nonces.filter fun n => !tried.contains n }
          let s2 := if j.code = 0x0F || j.code = 0x10 then s1.countFail (some claim) ifc else s1
          match j.ver with
          | none => (false, s2.resultPlain car j.code j.detail)
          | some v =>
            if j.code = 0 then (true, s2.proofAccepted car claim j v cmd (used.left.getD s.now))
            else
              let keys := sesKeys v.2.1 v.2.2
              let body := resultBody j.code j.detail cmd j.last
              (false, match s2.sesOn car with
                | some (i, x) => (s2.sesSendRaw i keys.1 0x03 body).mctrEnd x.tsh
                | none => s2.vsend car (zqAuth keys.1 0 1 0x03 body))

/-- The command that the gate of an NFC port binds a card to (R169). -/
def State.boundCmd (s : State) (car : Carrier) : Option Nat :=
  match car with
  | .nfc p => some (s.g 0x2223 (p + 1) + 1)
  | _ => none

/-- TOKEN_PROOF: TID, C, CMD, PROOF (R161): true where it was accepted. -/
def State.tokenProof (s : State) (car : Carrier) (b : Bytes) : Bool × State :=
  let tid := leAt 0 4 b
  let cmd := byteAt 8 b
  s.present car (.tok tid) cmd fun ns s => s.judgeTok (ifaceOf car) tid (leAt 4 4 b) cmd (slice 9 8 b) ns (s.boundCmd car) false

/-- CRED_PROOF: CREDENTIAL, C, CMD, PROOF (R161): true where it was accepted. -/
def State.credProof (s : State) (car : Carrier) (b : Bytes) : Bool × State :=
  let cr := b.take 64
  let cmd := byteAt 68 b
  s.present car (.cred (byteAt 1 cr) (leAt 4 8 cr)) cmd fun ns s => s.judgeCred (leAt 64 4 b) cmd cr (slice 69 8 b) ns

/-- A reply at a coil (R399): true where the proof was accepted. -/
def State.lfProof (s : State) (chan gate tid c : Nat) (proof : Bytes) (legacy : Bool) : Bool × State :=
  s.present (.lf chan) (.tok tid) (gate + 1) fun ns s => s.judgeTok (3 + chan) tid c (gate + 1) proof ns (some (gate + 1)) legacy

/-- A pending resync that has waited TokResyncTimeout is cleared (R138). -/
def State.resyncTimeout (s : State) : State :=
  let f := fun (c : Ctr) => match c.pend with | some p => if p.2 ≤ s.now then { c with pend := none } else c | none => c
  { s with acc.toks := s.acc.toks.map fun (e : TokEntry) => { e with ctr := f e.ctr },
           acc.cache := s.acc.cache.map fun (p : Nat × CacheEntry) => (p.1, { p.2 with ctr := f p.2.ctr }) }

end Sys2Proof.Machine
end

