-- ==== Sys2Proof/Machine/Mem.lean ====
section
/-! DEFINITION. Octet memories in canonical form (R524, R553): addresses rising, no entry equal to zero, which an unlisted address
reads as (log entry 5). -/
namespace Sys2Proof.Machine

/-- The octet at an address. -/
def memGet : Mem → Nat → BitVec 8
  | [], _ => 0
  | (k, v) :: m, a => if k = a then v else memGet m a

/-- A memory without an entry at an address. -/
def memDel : Mem → Nat → Mem
  | [], _ => []
  | (k, v) :: m, a => if k = a then m else (k, v) :: memDel m a

/-- A memory with an entry at an address, addresses kept rising. -/
def memIns : Mem → Nat → BitVec 8 → Mem
  | [], a, x => [(a, x)]
  | (k, v) :: m, a, x =>
    if a < k then (a, x) :: (k, v) :: m else if a = k then (a, x) :: m else (k, v) :: memIns m a x

/-- A memory with the octet `x` at `a`. -/
def memPut (m : Mem) (a : Nat) (x : BitVec 8) : Mem := if x = 0 then memDel m a else memIns m a x

/-- Consecutive octets. -/
def memRead (m : Mem) (a n : Nat) : Bytes := (List.range n).map fun i => memGet m (a + i)

/-- Octets stored one after another. -/
def memWrite : Mem → Nat → Bytes → Mem
  | m, _, [] => m
  | m, a, b :: bs => memWrite (memPut m a b) (a + 1) bs

/-- Addresses rising. -/
def memSorted : Mem → Bool
  | [] => true
  | [_] => true
  | a :: b :: m => a.1 < b.1 && memSorted (b :: m)

/-- The canonical form. -/
def Mem.wf (m : Mem) : Prop := memSorted m = true ∧ (m.all fun c => c.2 ≠ 0) = true

end Sys2Proof.Machine
end

