-- ==== Sys2Proof/Machine/Timers.lean ====
section
/-! DEFINITION. The twelve timer channels (R653 to R664): counting, compares, captures and the catch-up at a wake. A channel keeps its
count at one time; `settle` brings it to another and sets every flag whose count lay between. -/
namespace Sys2Proof.Machine

/-- Time units per count (R653): CKS / 2^PRESC. -/
def Tmr.unit (c : Tmr) : Nat := 10 * 2 ^ (c.ctrl % 16)

/-- Flags set in TmrStatus. -/
def Tmr.flag (c : Tmr) (m : Nat) : Tmr := { c with stat := c.stat ||| m }

/-- MATCH where the compare is still to match and the count has passed from `a` to `b` over it (R656). -/
def Tmr.matchTo (c : Tmr) (b extra : Nat) : Tmr :=
  if c.armed && c.cmp ≤ b then { c with armed := false }.flag (2 ||| extra) else c

/-- A timeout-class channel counts `n` further (R655, R656); `extra` is LATE_WAKE at a wake, else 0. -/
def Tmr.countTimeout (c : Tmr) (n extra : Nat) : Tmr :=
  let v := c.base + n
  if c.end_ ≤ v then { (c.matchTo c.end_ extra) with base := c.end_, run := false }.flag (1 ||| extra)
  else { (c.matchTo v extra) with base := v }

/-- The waveform count passes over `v` while it counts `n` from `c` towards its next zero turning point (R657). -/
def waveMeets (c top : Nat) (up : Bool) (n v : Nat) : Bool :=
  if up then (c < v && v ≤ c + n && v ≤ top) || (2 * top ≤ v + c + n && v < top && v + 1 ≤ 2 * top - c)
  else c ≤ v + n && v < c

/-- Flags of a waveform stretch. -/
def Tmr.waveFlags (c : Tmr) (n : Nat) : Tmr :=
  let c1 := if waveMeets c.base c.end_ c.up n c.cmp then c.flag 2 else c
  if waveMeets c.base c.end_ c.up n c.cmpB then c1.flag 4 else c1

/-- Counts to the next zero turning point (R657). -/
def Tmr.toZero (c : Tmr) : Nat := if c.up then 2 * c.end_ - c.base else c.base

/-- A waveform channel counts `n` further within its period. -/
def Tmr.waveMove (c : Tmr) (n : Nat) : Tmr :=
  if c.up then
    if c.base + n ≤ c.end_ then { c with base := c.base + n } else { c with base := 2 * c.end_ - c.base - n, up := false }
  else { c with base := c.base - n }

/-- The zero turning point (R657, R658): END, and a pending TOP takes effect. -/
def Tmr.zeroTurn (c : Tmr) : Tmr :=
  { c with base := 0, up := true, end_ := c.pend.getD c.end_, pend := none }.flag 1

/-- A waveform channel counts `n` further (R657, R658). -/
def Tmr.countWave (c : Tmr) (n : Nat) : Tmr :=
  if n < c.toZero then (c.waveFlags n).waveMove n
  else
    let c1 := ((c.waveFlags c.toZero).zeroTurn)
    let m := n - c.toZero
    let p := 2 * c1.end_
    if p = 0 then c1
    else if m < p then (c1.waveFlags m).waveMove m
    else ((c1.waveFlags p).flag 1).waveMove (m % p)

/-- A channel brought to a time (R654). -/
def Tmr.settle (c : Tmr) (wave : Bool) (t : Nat) : Tmr :=
  if c.run then
    let n := (t - c.at_) / c.unit
    let c1 := { c with at_ := c.at_ + n * c.unit }
    if n = 0 then c else if wave then c1.countWave n else c1.countTimeout n 0
  else c

/-- The channel. -/
def State.tmrOf (s : State) (n : Nat) : Tmr := s.tmr.getD n (.reset n)

/-- The owner of a channel takes the TMR event for status bits newly set under its mask (R534, R660). -/
def State.tmrEvent (s : State) (n : Nat) (old new : Tmr) : State :=
  if (new.stat &&& new.mask) &&& (old.stat ^^^ new.stat) ≠ 0 && s.g 0x5034 (n + 1) < 8 then s.engEv (s.g 0x5034 (n + 1)) 17 else s

/-- A channel changed, its events raised. -/
def State.setTmr (s : State) (n : Nat) (c : Tmr) : State := ({ s with tmr := putAt s.tmr n c }).tmrEvent n (s.tmrOf n) c

/-- A pending TOP took effect at a zero turning point and leaves CMPA above TOP (R657, R658): an output that was moving is active from its
last rise on, which the GPIO hold notes (R263). -/
def State.topHold (s : State) (c new : Tmr) : State :=
  let pin := bits c.ctrl 12 4
  if pin ≠ 0 && c.pend.isSome && new.pend.isNone && c.cmp ≤ c.end_ && new.end_ < c.cmp && 0 < c.cmp then
    { s with gate.hold := putAt s.gate.hold (pin - 1) (some (c.at_ + (c.toZero - (c.cmp - 1)) * c.unit)) }
  else s

/-- A channel brought to the present (R654). -/
def State.tmrSettle (s : State) (n : Nat) : State :=
  if s.cksOn && (s.tmrOf n).run then
    let c1 := (s.tmrOf n).settle (8 ≤ n) s.now
    (s.topHold (s.tmrOf n) c1).setTmr n c1
  else s

/-- Every channel brought to the present. -/
def State.tmrSettleAll (s : State) : State := (List.range 12).foldl State.tmrSettle s

/-- A channel starts (R655, R657): a compare that equals the count 0 matches at once. -/
def Tmr.start (c : Tmr) (wave : Bool) (t : Nat) : Tmr :=
  let c1 := { c with run := true, base := 0, up := true, at_ := t, armed := true, end_ := c.pend.getD c.end_, pend := none }
  if wave then c1 else c1.matchTo 0 0

/-- TmrCtrl written (R653, R655). -/
def State.tmrCtrl (s0 : State) (n v : Nat) : State :=
  let s := s0.tmrSettle n
  let c := s.tmrOf n
  let c1 := { c with ctrl := clrBit v 19 }
  if bit v 19 then s.setTmr n (if c.run then c1 else c1.start (8 ≤ n) s.now)
  else s.setTmr n { c1 with run := false }

/-- TmrEnd written (R655, R657, R658). -/
def State.tmrEnd (s0 : State) (n v : Nat) : State :=
  let s := s0.tmrSettle n
  let c := s.tmrOf n
  if n < 8 then
    if c.run && v ≤ c.base then s.setTmr n ({ c with end_ := v, run := false }.flag 0x21)
    else s.setTmr n { c with end_ := v }
  else if bit c.ctrl 17 then
    let late := v < c.base
    let c1 := { c with end_ := v, pend := none, up := c.up && c.base < v }
    s.setTmr n (if late && c.run then c1.flag 0x40 else c1)
  else if c.run then s.setTmr n { c with pend := some v }
  else s.setTmr n { c with end_ := v, pend := none }

/-- TmrCmp written (R656, R657). -/
def State.tmrCmp (s0 : State) (n v : Nat) : State :=
  let s := s0.tmrSettle n
  let c := s.tmrOf n
  if 8 ≤ n || !c.run then s.setTmr n { c with cmp := v }
  else if c.base < v then s.setTmr n { c with cmp := v, armed := true }
  else if c.base = v then s.setTmr n ({ c with cmp := v, armed := false }.flag 0x0A)
  else s.setTmr n ({ c with cmp := v, armed := false }.flag 0x10)

/-- TmrCmpB written (R657). -/
def State.tmrCmpB (s0 : State) (n v : Nat) : State :=
  let s := s0.tmrSettle n
  s.setTmr n { s.tmrOf n with cmpB := v }

/-- TmrCount written while RUN is 0 (R664). -/
def State.tmrCount (s : State) (n v : Nat) : State := s.setTmr n { s.tmrOf n with base := v }

/-- TmrStatus written: each bit written as 1 is cleared (R660). -/
def State.tmrStatus (s0 : State) (n v : Nat) : State :=
  let s := s0.tmrSettle n
  let c := s.tmrOf n
  { s with tmr := putAt s.tmr n { c with stat := c.stat &&& (v ^^^ 0xFFFF) } }

/-- TmrEventMask written (R660). -/
def State.tmrMask (s0 : State) (n v : Nat) : State :=
  let s := s0.tmrSettle n
  s.setTmr n { s.tmrOf n with mask := v }

/-- The last capture where a read at a time comes before it is latched or in the same CKS cycle (R659): TmrCapture and TmrStatus before
it. -/
def Tmr.capBefore (c : Tmr) (t : Nat) : Option (Nat × Nat) := c.capWas.bind fun w => if t / 10 ≤ w.1 then some w.2 else none

/-- TmrCapture as a read at a time finds it (R659). -/
def Tmr.capAt (c : Tmr) (t : Nat) : Nat := ((c.capBefore t).map Prod.fst).getD c.cap

/-- A read of TmrCapture clears CAPTURE; one that meets the capture itself leaves the new value's CAPTURE set and its OVERRUN as it was
(R659). -/
def State.tmrCapRead (s : State) (n : Nat) : State :=
  let c := s.tmrOf n
  let st := match c.capBefore s.now with
    | some w => putBit c.stat 8 (bit w.2 8)
    | none => clrBit c.stat 7
  { s with tmr := putAt s.tmr n { c with stat := st } }

/-- An edge on a capture source `src`, coded as CAPSEL, at the ball (R659): the count 2 CKS cycles later is latched. -/
def State.tmrCapture (s0 : State) (n src : Nat) (rising : Bool) : State :=
  let s := s0.tmrSettle n
  let c := s.tmrOf n
  let e := bits c.ctrl 6 2
  if s.cksOn && c.run && src ≠ 0 && bits c.ctrl 8 4 = src && (e = 2 || (e = 0 && rising) || (e = 1 && !rising)) then
    let v := (c.settle (8 ≤ n) (s.now + cks 2)).base
    let c1 := { c with cap := v, capWas := some (s.now / 10 + 2, c.cap, c.stat) }
    s.setTmr n (if bit c.stat 7 then c1.flag 0x100 else c1.flag 0x80)
  else s

/-- The level of a waveform channel's output (R657). -/
def Tmr.out (c : Tmr) : Bool := (c.run && decide (c.base < c.cmp)) != bit c.ctrl 16

/-- TmrCtrl as read (R653). -/
def Tmr.ctrlWord (c : Tmr) : Nat := putBit c.ctrl 19 c.run

/-- The channels at CORE power-down (R661): every count is held. -/
def State.tmrDown (s : State) : State := s.tmrSettleAll

/-- The channels after a power-down of `ticks` slow-clock ticks (R661). -/
def State.tmrWake (s : State) (ticks : Nat) : State :=
  (List.range 12).foldl (fun s n =>
    let c := s.tmrOf n
    if !c.run then s
    else if 8 ≤ n then s.setTmr n { c with base := 0, up := true, at_ := s.now }
    else s.setTmr n ({ c with at_ := s.now }.countTimeout (ticks * s.g 0x1111 0 / 65536 / 2 ^ (c.ctrl % 16)) 0x200)) s

/-- CKS resumes: the running channels count from now (R643, R661). -/
def State.tmrResume (s : State) : State := { s with tmr := s.tmr.map fun (c : Tmr) => { c with at_ := s.now } }

/-- The timers at a reset (R661). -/
def State.tmrReset (s : State) : State := { s with tmr := (List.range 12).map Tmr.reset }

/-- The time at which a running timeout-class channel reaches the nearer of its pending CMP and END (R662). -/
def Tmr.nearest (c : Tmr) : Nat :=
  let e := if c.armed && c.cmp < c.end_ then c.cmp else c.end_
  c.at_ + (e - c.base) * c.unit

end Sys2Proof.Machine
end

