-- ==== Sys2Proof/Machine/EngineCore.lean ====
section
/-! DEFINITION. The Chaqua engines (14_chaqua_engines.md): issue, traps, memory, predicates, events, images, starting and stopping.
The dictionary accesses of LDO and STO are in EngineDict.lean. -/
namespace Sys2Proof.Machine

/-- How an instruction's operation ends: a trap, the next instruction, or a branch. -/
inductive ERes where
  | trap (cause : Nat)
  /-- A count of 0 whose skipped instruction traps in decoding (R531). -/
  | trapNext (e : Engine) (cause : Nat)
  | go (e : Engine) (mbx : Mem)
  | jump (e : Engine) (pc : Nat)
deriving DecidableEq, Repr

/-- Engine `n`. -/
def State.engine (s : State) (n : Nat) : Engine := s.eng.es.getD n .reset

/-- Engine `n` replaced. -/
def State.setEngine (s : State) (n : Nat) (e : Engine) : State := { s with eng.es := putAt s.eng.es n e }

/-- Engines present on the variant (R5, R560). -/
def engCount : Variant → Nat
  | .gz4880 => 8 | .gz4860 => 4 | .gz4840 => 2

/-- CYC (R523): CKS cycles since the last reset of the part. -/
def State.cyc (s : State) : Nat := (s.now - s.eng.cyc0) / 10 % 2 ^ 64

/-- A general register. -/
def Engine.reg (e : Engine) (r : Nat) : Word32 := e.g.getD r 0

/-- A general register written. -/
def Engine.wr (e : Engine) (r : Nat) (v : Word32) : Engine := { e with g := putAt e.g r v }

/-- A predicate (R522): p0 reads true. -/
def Engine.pred (e : Engine) (p : Nat) : Bool := p = 0 || e.p.getD p false

/-- Products that have arrived by cycle `c` reach MLO and MHI in order of issue (R530). -/
def Engine.settle (e : Engine) (c : Nat) : Engine :=
  ((e.mul.filter fun m => m.1 ≤ c).foldl
    (fun e m => { e with mlo := m.2.truncate 32, mhi := (m.2 >>> 32).truncate 32 }) e)
    |> fun e => { e with mul := e.mul.filter fun m => c < m.1 }

/-- Length of the code in force (R546). -/
def Engine.codeLen (e : Engine) : Nat := e.code.length

/-- The instruction word at a byte address. -/
def Engine.word (e : Engine) (a : Nat) : Nat := leAt a 4 e.code

/-- Opcodes that R529 lists. -/
def opcodeKnown (op : Nat) : Bool :=
  (1 ≤ op && op ≤ 0x16) || (0x18 ≤ op && op ≤ 0x1A) || (0x20 ≤ op && op ≤ 0x29) || (0x30 ≤ op && op ≤ 0x36) ||
    (0x38 ≤ op && op ≤ 0x3E)

/-- Opcodes that may not follow RPT (R532). -/
def noRepeat (op : Nat) : Bool := [0x30, 0x31, 0x32, 0x33, 0x34, 0x3A, 0x3B, 0x3C, 0x35, 0x36, 0x26, 0x27].contains op

/-- Reserved fields of an instruction word are zero, and its cond, sr and pd fields hold defined values (R528, R529, R543). -/
def fieldsOk (w : Nat) : Bool :=
  let op := bits w 22 6
  if op ≤ 0x08 || op = 0x3B then bits w 0 10 = 0
  else if op ≤ 0x0C || (0x20 ≤ op && op ≤ 0x25) || op = 0x28 || op = 0x29 || op = 0x10 || op = 0x30 || op = 0x31 then true
  else if op ≤ 0x0F then bits w 5 9 = 0
  else if op = 0x11 then bits w 16 2 = 0
  else if op = 0x12 || op = 0x13 then bits w 18 4 = 0 && bits w 0 10 = 0
  else if op ≤ 0x16 || op = 0x3A then bits w 0 14 = 0
  else if op = 0x18 then bits w 0 7 = 0 && bits w 15 4 ≤ 7 && bits w 19 3 ≠ 0
  else if op = 0x19 then bits w 15 4 ≤ 7 && bits w 19 3 ≠ 0
  else if op = 0x1A then bits w 0 11 = 0 && bits w 19 3 ≠ 0
  else if op = 0x26 || op = 0x27 then bits w 0 9 = 0
  else if op = 0x33 || op = 0x34 || op = 0x36 then bits w 18 4 = 0 && bits w 0 14 = 0
  else if op = 0x35 then bits w 16 6 = 0
  else if op = 0x38 then bits w 0 14 = 0 && bits w 14 4 ≤ 7
  else if op = 0x39 then bits w 0 14 = 0 && bits w 18 4 ≤ 7
  else if op = 0x3C then bits w 8 14 = 0
  else bits w 0 22 = 0

/-- The decode trap of a word (R543): ILLEGAL_OP, RESERVED_FIELD. -/
def decodeTrap (w : Nat) : Option Nat :=
  if !opcodeKnown (bits w 22 6) then some 0x02 else if !fieldsOk w then some 0x03 else none

/-! ### Traps, starting and stopping -/

/-- What an engine's stop or trap frees (R542, R551): its GPIOs return to input, its characteristics, doorbells and object-write entries
go, its status records are discarded. -/
def State.engRelease (s : State) (n : Nat) : State :=
  let mine := (List.range 8).filter fun i => s.g 0x5030 (i + 1) = n
  let s1 := mine.foldl (fun s i => s.put 0x5031 0 (clrBit (s.g 0x5031 0) i)) s
  let s2 := { s1 with
    gate.hold := mine.foldl (fun h i => putAt h i none) s1.gate.hold,
    ble.chars := s1.ble.chars.map fun (c : BleChar) => if c.owner = n then ⟨0xFF, [], [], false⟩ else c,
    cx.pages := modAt s1.cx.pages (n + 5) fun p => { p with recs := [], reqs := p.reqs.map fun (r : CxReq) => { r with mute := true } } }
  s2.setEngine n { s2.engine n with bell := [], ow := [], wait := none, acc := none }

/-- An engine traps (R542, R543, R545). -/
def State.engTrap (s : State) (n cause addr : Nat) : State :=
  let w := cause * 2 ^ 24 + addr % 65536
  let e := s.engine n
  let ts := (s.now :: e.traps.filter fun t => s.now < t + secs 10)
  let again := bit (s.g 0x5004 0) n && ts.length < 3
  let s1 := s.setEngine n { e with st := .trapped, trapc := BitVec.ofNat 32 w, rpt := none, rcOwn := false, halt := none, traps := ts,
                                   again := if again then some (s.now + ms 1) else none }
  ((((s1.engRelease n).put 0x5005 (n + 1) w).bump 0x5006 (n + 1)).errBit 3 0x5000 Rc.notReady cause).logEv 0x0A 0 0
    (BitVec.ofNat 8 n :: toLe 4 w)

/-- Mailbox rights in force for an engine (R553): partitions it may read, and may write. -/
def State.mbxRights (s : State) (n : Nat) : Nat × Nat :=
  let f := fun (b : Nat) => ((List.range 16).map fun k => if bit (s.g 0x5020 (k + 1)) (b + n) then 2 ^ k else 0).sum
  (f 0 ||| f 8, f 8)

/-- The committed value stored under a key in the current bank (R42). -/
def State.committed (s : State) (key : Nat) : Option Nat :=
  alGet (if s.dict.bankCur then s.dict.bankB else s.dict.bankA) key

/-- How a bank stores the value of an engine-defined P object: with its LEN and TYPE, which R550 compares. -/
def EngObj.bankVal (o : EngObj) (v : Bytes) : Nat := (leNat v * 65536 + o.len) * 16 + o.ty

/-- The P objects of an image with their committed values laid over data memory, where INDEX, SUB, TYPE and LEN agree (R550). -/
def State.loadP (s : State) (im : Image) (m : Mem) : Mem :=
  im.objs.foldl (fun m o =>
    if bit o.flags 0 then
      match s.committed (okey o.idx o.sub) with
      | some v => if v % 1048576 = o.len * 16 + o.ty then memWrite m o.addr (toLe o.len (v / 1048576)) else m
      | none => m
    else m) m

/-- Data memory of a stopped engine after a reset: the working values of its P objects, committed or else the image's (R46), and
zeros. -/
def State.idleData (s : State) (im : Image) : Mem :=
  s.loadP im ((im.objs.filter fun o => bit o.flags 0).foldl
    (fun m o => memWrite m o.addr (fit o.len (slice o.addr o.len im.data))) [])

/-- The image an engine can start (R551): none in the engine's slot, or one that Burnish found invalid, cannot (R668). -/
def Engine.startable (e : Engine) : Option Image := if e.bad then none else e.image

/-- An engine starts (R550): architectural state, data memory, committed P objects, mailbox rights, ENTRY. The start of any engine is the
"next engine start" of every pending element with that boundary (R16; DESIGN CHOICE, log entry 55). -/
def State.engStart (s0 : State) (n : Nat) : State :=
  match (s0.engine n).startable with
  | none => s0
  | some im =>
    let s := s0.boundary .bNextEngineStart
    let d1 := s.loadP im (memWrite [] 0 im.data)
    let r := s.mbxRights n
    let e := s.engine n
    s.setEngine n { Engine.reset with
      st := .running, image := some im, pc := im.entry, data := d1, code := im.code, mbxR := r.1, mbxW := r.2, wdt := s.now,
      traps := e.traps, brk := e.brk }

/-- An engine is held in reset (R551). -/
def State.engHold (s : State) (n : Nat) : State :=
  let e := s.engine n
  if e.st = .empty then s
  else (s.setEngine n { e with st := .stopped, rpt := none, wait := none, acc := none, halt := none, again := none }).engRelease n

/-- EngControl (R551): code and detail, and the state after. -/
def State.engControl (s : State) (n action : Nat) : (Nat × Nat) × State :=
  let e := s.engine n
  if action = 1 then
    if e.startable.isNone then ((Rc.notReady, Dt.noImage), s)
    else if e.st = .running || e.st = .waiting then ((Rc.busy, Dt.unitActive), s)
    else if e.st = .debugHalt then ((Rc.busy, Dt.unitActive), s)
    else ((0, 0), s.engStart n)
  else if action = 2 then
    ((0, 0), if e.acc.isSome then s.setEngine n { e with halt := some false } else s.engHold n)
  else if e.startable.isNone then ((Rc.notReady, Dt.noImage), s)
  else if e.acc.isSome then ((0, 0), s.setEngine n { e with halt := some true })
  else ((0, 0), (s.engHold n).engStart n)

/-! ### Issue -/

/-- RC after a repetition (R531): it follows the hidden counter until the repetition has written it. -/
def Engine.rcStep (e : Engine) (k : Nat) : Engine := if e.rcOwn then e else { e with rc := BitVec.ofNat 32 k }

/-- The engine after an instruction that does not branch: the next repetition or the next address (R531). -/
def Engine.next (e : Engine) : Engine :=
  match e.rpt with
  | none => { e with pc := e.pc + 4 }
  | some k =>
    let e1 := e.rcStep (k - 1)
    if k ≤ 1 then { e1 with rpt := none, rcOwn := false, pc := e.pc + 4 } else { e1 with rpt := some (k - 1) }

/-- A branch to an address (R529, R543): beyond the code it traps PC_RANGE at the branch. PC holds a multiple of 4 (log entry 22). -/
def jumpTo (e : Engine) (a : Nat) : ERes := if e.codeLen ≤ a then .trap 0x01 else .jump e (a / 4 * 4)

/-- Engine `n` issues one instruction (R527, R543): fetch and decode checks, guard, operation, next address. `dec` is the decode
trap of the instruction, `combo` says that R532 forbids it. -/
def State.issueOn (s : State) (n gp : Nat) (gs : Bool) (dec : Option Nat) (combo : Bool)
    (op : Engine → Mem → Nat → ERes) : State :=
  let e := (s.engine n).settle s.cyc
  if e.codeLen < e.pc + 4 then s.engTrap n 0x01 e.pc
  else
    match dec with
    | some c => s.engTrap n c e.pc
    | none =>
      if combo then s.engTrap n 0x04 e.pc
      else if e.pred gp = gs then s.setEngine n { e.next with pass := false }
      else
        match op e s.eng.mbx s.cyc with
        | .trap c => (s.setEngine n e).engTrap n c e.pc
        | .trapNext e1 c => (s.setEngine n { e1 with pc := e1.pc + 4, pass := false }).engTrap n c (e1.pc + 4)
        | .go e1 m => { s.setEngine n { e1.next with pass := false } with eng.mbx := m }
        | .jump e1 a => s.setEngine n { e1 with pc := a, pass := false }

/-! ### Operations -/

/-- rd takes a value. -/
def opSet (rd : Nat) (f : Engine → Word32) : Engine → Mem → Nat → ERes := fun e m _ => .go (e.wr rd (f e)) m

/-- A sign-extended immediate of `w` bits. -/
def simm (w v : Nat) : Word32 := BitVec.ofInt 32 (sext w v)

/-- Leading zeros of a word (R529). -/
def clz32 (v : Word32) : Nat := if v = 0 then 32 else 31 - Nat.log2 v.toNat

/-- The byte order of a word reversed (R529). -/
def bswap32 (v : Word32) : Word32 := BitVec.ofNat 32 (beNat (toLe 4 v.toNat))

/-- The conditions of R529. -/
def condHolds (c : Nat) (a b : Word32) : Bool :=
  match c with
  | 0 => a == b
  | 1 => a != b
  | 2 => a.ult b
  | 3 => !a.ult b
  | 4 => a.slt b
  | 5 => !a.slt b
  | 6 => a &&& b != 0
  | _ => a &&& b == 0

/-- The predicate functions of R529. -/
def plogFn (f : Nat) (a b : Bool) : Bool :=
  match f with
  | 0 => a && b
  | 1 => a || b
  | 2 => a != b
  | _ => a && !b

/-- A predicate takes a value; pd is not p0 (R529). -/
def opPred (pd : Nat) (f : Engine → Bool) : Engine → Mem → Nat → ERes := fun e m _ => .go { e with p := putAt e.p pd (f e) } m

/-- A product is issued; it arrives 3 cycles later (R530). -/
def opMul (f : Engine → BitVec 64) : Engine → Mem → Nat → ERes := fun e m c => .go { e with mul := e.mul ++ [(c + 3, f e)] } m

/-- Where a data access of `n` octets at `a` goes (R524, R525): own memory, mailbox, or a trap. -/
inductive Where where
  | own
  | mbx (off : Nat)
  | trap (c : Nat)
deriving DecidableEq, Repr

/-- The check of a data access (R524, R525, R543): alignment, then the address and the rights. -/
def Engine.locate (e : Engine) (a n : Nat) (write : Bool) : Where :=
  if a % n ≠ 0 then .trap 0x07
  else if a + n ≤ 0x4000 then .own
  else if 0x10000 ≤ a && a + n ≤ 0x20000 then
    let k := (a - 0x10000) / 0x1000
    if bit (if write then e.mbxW else e.mbxR) k then .mbx (a - 0x10000) else .trap 0x08
  else .trap 0x08

/-- A load of `n` octets at `a` into rd, with `f` applied to the engine before rd is written (R525, R529). -/
def opLoad (rd n : Nat) (addr : Engine → Word32) (post : Engine → Engine) : Engine → Mem → Nat → ERes := fun e m _ =>
  match e.locate (addr e).toNat n false with
  | .trap c => .trap c
  | .own => .go ((post e).wr rd (BitVec.ofNat 32 (leNat (memRead e.data (addr e).toNat n)))) m
  | .mbx o => .go ((post e).wr rd (BitVec.ofNat 32 (leNat (memRead m o n)))) m

/-- A store of the low `n` octets of rs at `a` (R525, R529). -/
def opStore (rs n : Nat) (addr : Engine → Word32) (post : Engine → Engine) : Engine → Mem → Nat → ERes := fun e m _ =>
  let v := toLe n (e.reg rs).toNat
  match e.locate (addr e).toNat n true with
  | .trap c => .trap c
  | .own => .go (post { e with data := memWrite e.data (addr e).toNat v }) m
  | .mbx o => .go (post e) (memWrite m o v)

/-- A return address is pushed (R533): with RSTACK_WRAP the oldest of 8 goes, else the push traps. -/
def Engine.push (e : Engine) (a : Nat) : Option Engine :=
  if e.ret.length < 8 then some { e with ret := a :: e.ret }
  else if ((e.image.map Image.options).getD 0) % 2 = 1 then some { e with ret := (a :: e.ret).take 8 } else none

/-- CALL and CALLR (R529, R533, R543): the target is checked before the stack. -/
def opCall (target : Engine → Option Nat) : Engine → Mem → Nat → ERes := fun e _ _ =>
  match target e with
  | none => .trap 0x01
  | some a =>
    match jumpTo e a with
    | .trap c => .trap c
    | .trapNext _ c => .trap c
    | .go _ _ => .trap 0x01
    | .jump _ p =>
      match e.push (e.pc + 4) with
      | some e1 => .jump e1 p
      | none => .trap 0x05

/-- The target of BR and CALL (R529): PC of the branch plus 4 times the immediate. -/
def relTarget (imm : Nat) (e : Engine) : Option Nat :=
  let t := (e.pc : Int) + 4 * sext 22 imm
  if t < 0 then none else some t.toNat

/-- RET (R533). -/
def opRet : Engine → Mem → Nat → ERes := fun e _ _ =>
  match e.ret with
  | [] => .trap 0x06
  | a :: r => (jumpTo { e with ret := r } a)

/-- The decode trap and the forbidden combination of the instruction after RPT (R531, R532). -/
def Engine.rptNext (e : Engine) : Option Nat × Bool :=
  let w := e.word (e.pc + 4)
  (if e.codeLen < e.pc + 8 then some 0x01 else decodeTrap w, noRepeat (bits w 22 6))

/-- RPT and RPTR (R531): a count of 0 skips the next instruction, which is still decoded and may trap in decoding. -/
def opRpt (count : Engine → Nat) : Engine → Mem → Nat → ERes := fun e _ _ =>
  let k := count e % 65536
  let e1 := { e with rc := BitVec.ofNat 32 k, rcOwn := false }
  if k = 0 then
    match e.rptNext.1 with
    | some c => .trapNext e1 c
    | none => .jump e1 (e.pc + 8)
  else .jump { e1 with rpt := some k } (e.pc + 4)

/-- A special register as MFS reads it (R523). -/
def Engine.special (e : Engine) (c sr : Nat) : Word32 :=
  match sr with
  | 0 => e.mlo
  | 1 => e.mhi
  | 2 => e.rc
  | 3 => BitVec.ofNat 32 c
  | 4 => e.cych
  | 5 => e.evt
  | 6 => e.trapc
  | _ => BitVec.ofNat 32 e.ret.length

/-- MFS (R523): a read of CYCL latches the high word. -/
def opMfs (rd sr : Nat) : Engine → Mem → Nat → ERes := fun e m c =>
  let e1 := if sr = 3 then { e with cych := BitVec.ofNat 32 (c / 2 ^ 32) } else e
  .go (e1.wr rd (e.special c sr)) m

/-- MTS (R523, R531, R543). -/
def opMts (sr ra : Nat) : Engine → Mem → Nat → ERes := fun e m _ =>
  let v := e.reg ra
  match sr with
  | 0 => .go { e with mlo := v } m
  | 1 => .go { e with mhi := v } m
  | 2 => .go { e with rc := v, rcOwn := e.rpt.isSome } m
  | 5 => .go { e with evt := e.evt &&& ~~~v } m
  | _ => .trap 0x09

/-- A wait completes (R535). -/
def Engine.wake (e : Engine) (rd : Nat) (mask : Word32) : Engine :=
  { e.wr rd (e.evt &&& mask) with evt := e.evt &&& ~~~mask, st := .running, wait := none }

/-- Mask bits of a wait (R534, R535): reserved bits are ignored. -/
def waitMask (v : Word32) : Word32 := v &&& 0x03FFFFFF

/-- WFE (R535, R544). -/
def opWfe (now rd ra : Nat) : Engine → Mem → Nat → ERes := fun e m _ =>
  let k := waitMask (e.reg ra)
  let e1 := { e with wdt := now }
  if e.evt &&& k ≠ 0 then .go (e1.wake rd k) m
  else .go { e1 with st := .waiting, wait := some ⟨rd, k, none⟩ } m

/-- WAITT (R536, R544). -/
def opWaitt (now rd ra rb : Nat) : Engine → Mem → Nat → ERes := fun e m c =>
  let k := waitMask (e.reg ra)
  let e1 := { e with wdt := now }
  if e.evt &&& k ≠ 0 then .go (e1.wake rd k) m
  else if e.reg rb = 0 then .go ({ e1 with evt := e1.evt ||| 1 }.wake rd (k ||| 1)) m
  else .go { e1 with st := .waiting, wait := some ⟨rd, k, some (c + (e.reg rb).toNat)⟩ } m

/-- STOP (R529, R532): the engine enters HALTED; a repetition ends. -/
def opStop : Engine → Mem → Nat → ERes := fun e m _ => .go { e with st := .halted, rpt := none, rcOwn := false } m

/-- SEV (R537). -/
def State.sev (s : State) (n mask : Nat) : State :=
  (List.range (engCount s.fuse.variant)).foldl (fun s i => if bit mask i then s.engEv i (8 + n) else s) s

/-- An event in the wait mask has arrived (R535). -/
def State.eventWake (s : State) (n : Nat) : State :=
  let e := s.engine n
  match e.wait with
  | some w => if e.st = .waiting && e.evt &&& w.mask ≠ 0 && s.pwr.core then
      s.setEngine n { e.wake w.rd w.mask with wdt := s.now } else s
  | none => s

/-- A WAITT deadline arrives (R536). -/
def State.deadline (s : State) (n : Nat) : State :=
  let e := s.engine n
  match e.wait with
  | some w =>
    match w.dead with
    | some d =>
      if e.st = .waiting && d ≤ s.cyc && s.pwr.core then
        s.setEngine n { ({ e with evt := e.evt ||| 1 }.wake w.rd (w.mask ||| 1)) with wdt := s.now }
      else s
    | none => s
  | none => s

/-- The watchdog of a RUNNING engine (R544). -/
def State.engWatchdog (s : State) (n : Nat) : State :=
  let e := s.engine n
  if n < engCount s.fuse.variant && e.st = .running && e.wdt + ms (s.g 0x5007 (n + 1)) ≤ s.now then s.engTrap n 0x0A e.pc else s

/-- 1 ms after a trap an engine with EngTrapRestart restarts (R545). -/
def State.trapRestart (s : State) (n : Nat) : State :=
  let e := s.engine n
  match e.again with
  | some t => if e.st = .trapped && t ≤ s.now then s.engStart n else s
  | none => s

/-! ### Images (R546 to R549) -/

/-- One object entry (R546). -/
def engObjOf (b : Bytes) : EngObj :=
  ⟨leAt 0 2 b, byteAt 2 b, byteAt 3 b, leAt 4 2 b, leAt 6 2 b, byteAt 8 b, byteAt 9 b⟩

/-- The size R546 asks of a type code; none for OCTETS. -/
def engTypeSize (t : Nat) : Option Nat :=
  [none, some 1, some 2, some 4, some 8, some 2, some 4, some 1, some 1, some 2, some 4, some 1, some 12, none].getD t none

/-- An object entry is well formed for engine `n` (R89, R546). -/
def engObjOk (n : Nat) (b : Bytes) : Bool :=
  let o := engObjOf b
  let al := match engTypeSize o.ty with | some k => if 4 < k then 4 else k | none => if 4 < o.len then 4 else 1
  0x8000 + n * 0x800 ≤ o.idx && o.idx ≤ 0x87FF + n * 0x800 && 1 ≤ o.ty && o.ty ≤ 13 &&
    (match engTypeSize o.ty with | some k => o.len = k | none => 1 ≤ o.len && o.len ≤ 1024) &&
    o.addr % al = 0 && o.addr + o.len ≤ 0x4000 && o.acc % 4 = 0 && o.flags < 4 && leAt 10 2 b = 0

/-- The parts of an image (R546). -/
def imageOf (b : Bytes) : Image :=
  let c := leAt 12 2 b
  let d := leAt 14 2 b
  ⟨byteAt 5 b, leAt 6 2 b, leAt 8 4 b, leAt 18 2 b, slice 64 c b, slice (64 + c) d b,
   (List.range (leAt 16 2 b)).map fun i => engObjOf (slice (64 + c + d + 12 * i) 12 b)⟩

/-- Check 3 of R549. -/
def imageOk (n : Nat) (b : Bytes) : Bool :=
  let c := leAt 12 2 b
  let d := leAt 14 2 b
  let k := leAt 16 2 b
  let im := imageOf b
  64 ≤ b.length && b.take 4 = [0x43, 0x48, 0x51, 0x01] && byteAt 4 b = 1 && (im.target = n || im.target = 0xFF) &&
    im.options < 8 && 4 ≤ c && c ≤ 32768 && c % 4 = 0 && d ≤ 16384 && k ≤ 128 && im.entry % 4 = 0 && im.entry < c &&
    slice 20 28 b = zeros 28 && b.length = 64 + c + d + 12 * k && b.length ≤ 50752 &&
    (List.range k).all (fun i => engObjOk n (slice (64 + c + d + 12 * i) 12 b)) &&
    ((im.objs.map fun o => okey o.idx o.sub).eraseDups.length = k) &&
    ((im.objs.filter fun o => bit o.flags 0).map (·.len)).sum ≤ 2048

/-- The octets an image's MAC covers (R546). -/
def imageMacced (b : Bytes) : Bytes := b.take 48 ++ b.drop 64

/-- EngLoadState (R560). -/
def State.loadState (s : State) : Nat := match s.eng.load with | none => 0 | some l => if l.img.isSome then 2 else 1

/-- EngLoadBegin (R548). -/
def State.loadBegin (s : State) (who : Requester) (n total : Nat) : (Nat × Nat) × State :=
  match s.eng.load with
  | some l => if l.who ≠ who || l.img.isSome then ((Rc.busy, Dt.loadBusy), s)
    else ((0, 0), { s with eng.load := some ⟨who, n, total, [], s.now, none⟩ })
  | none => ((0, 0), { s with eng.load := some ⟨who, n, total, [], s.now, none⟩ })

/-- EngLoadData (R548). -/
def State.loadData (s : State) (who : Requester) (off : Nat) (data : Bytes) : (Nat × Nat) × State :=
  match s.eng.load with
  | none => ((Rc.range, Dt.loadSeq), s)
  | some l =>
    if l.who ≠ who || l.img.isSome then ((Rc.busy, Dt.loadBusy), s)
    else if off ≠ l.got.length || l.total < off + data.length then
      ((Rc.range, Dt.loadSeq), { s with eng.load := some { l with at_ := s.now } })
    else ((0, 0), { s with eng.load := some { l with got := l.got ++ data, at_ := s.now } })

/-- EngLoadCommit (R549): none while the load is being authenticated and committed. -/
def State.loadCommit (s : State) (who : Requester) : Option (Nat × Nat) × State :=
  match s.eng.load with
  | none => (some (Rc.range, Dt.loadSeq), s)
  | some l =>
    if l.who ≠ who || l.img.isSome then (some (Rc.busy, Dt.loadBusy), s)
    else
      let e := s.engine l.eng
      let drop := { s with eng.load := none }
      let h := s.g 0x500A 0
      let k := s.slotKind h
      if e.st = .running || e.st = .waiting || e.st = .debugHalt then (some (Rc.busy, Dt.unitActive), drop)
      else if l.got.length ≠ l.total then (some (Rc.range, Dt.loadSeq), drop)
      else if !imageOk l.eng l.got then (some (Rc.range, Dt.imageFormat), drop)
      else if s.slotSt h ≠ .loaded then (some (Rc.range, Dt.slotEmpty), drop)
      else if k ≠ 1 || !s.slotUse h 2 || s.slotOwner h ≠ 4 then (some (Rc.range, Dt.keyKind), drop)
      else if cmac ((s.slotKey h).getD []) (imageMacced l.got) ≠ slice 48 16 l.got then (some (Rc.tagFail, 0), drop)
      else if (imageOf l.got).version < s.g 0x5008 (l.eng + 1) then (some (Rc.range, Dt.imageVersion), drop)
      else (none, { s.cxUse 3 (cmacOps l.got.length) with eng.load := some { l with img := some (imageOf l.got), at_ := s.now } })

/-- The directory switch of a commit completes (R547, R549): who is answered. -/
def State.loadDone (s : State) : Option Requester × State :=
  match s.eng.load with
  | none => (none, s)
  | some l =>
    match l.img with
    | none => (none, s)
    | some im =>
      let e := s.engine l.eng
      let s1 := (s.setEngine l.eng { Engine.reset with st := .stopped, image := some im, trapc := e.trapc, traps := e.traps })
      let s2 := { s1 with
        eng.load := none,
        ble.chars := s1.ble.chars.map fun (c : BleChar) => if c.owner = l.eng then ⟨0xFF, [], [], false⟩ else c }
      (some l.who, s2)

/-- A load without a command for 10 s is abandoned (R548). -/
def State.loadTimeout (s : State) : State :=
  match s.eng.load with
  | some l => if l.img.isNone && l.at_ + secs 10 ≤ s.now then { s with eng.load := none } else s
  | none => s

/-! ### Engine-defined objects (R540) -/

/-- The engine that owns an index, and its object. -/
def State.engObj (s : State) (idx sub : Nat) : Option (Nat × EngObj) :=
  let n := (idx - 0x8000) / 0x800
  if idx < 0x8000 || 0xBFFF < idx || engCount s.fuse.variant ≤ n then none
  else (((s.engine n).image.map Image.objs).getD []).find? (fun o => o.idx = idx && o.sub = sub) |>.map fun o => (n, o)

/-- The element count the hardware supplies at subindex 0 of an engine's record (R10, R540). -/
def State.engCountAt (s : State) (idx : Nat) : Option Nat :=
  let n := (idx - 0x8000) / 0x800
  if idx < 0x8000 || 0xBFFF < idx || engCount s.fuse.variant ≤ n then none
  else
    let os := (((s.engine n).image.map Image.objs).getD []).filter fun o => o.idx = idx
    if os = [] || os.any (·.sub = 0) then none else some os.length

/-- The value of an engine-defined object: its octets in the engine's data memory. -/
def State.engObjRead (s : State) (n : Nat) (o : EngObj) : Bytes := memRead (s.engine n).data o.addr o.len

/-- A write of an engine-defined object through the dictionary (R540). -/
def State.engObjWrite (s : State) (who : Requester) (n : Nat) (o : EngObj) (v : Bytes) : State :=
  let e := s.engine n
  let s1 := s.setEngine n { e with data := memWrite e.data o.addr v }
  if bit o.flags 1 && who ≠ .engine n then
    let e1 := s1.engine n
    (s1.setEngine n { e1 with ow := if e1.ow.length < 8 && e1.listens then e1.ow ++ [(o.idx, o.sub)] else e1.ow }).engEv n 16
  else s1

/-! ### Doorbells and GPIO (R554, R555) -/

/-- EngDoorbell (R554). -/
def State.doorbell (s : State) (n v : Nat) : (Nat × Nat) × State :=
  let e := s.engine n
  if 4 ≤ e.bell.length then ((Rc.busy, Dt.queueFull), s)
  else ((0, 0), (s.setEngine n { e with bell := e.bell ++ [v] }).engEv n 7)

/-- EngDoorbellRx (R554). -/
def State.doorbellRx (s : State) (n : Nat) : Resp × State :=
  let e := s.engine n
  match e.bell with
  | [] => (⟨Rc.notReady, Dt.emptyQueue, []⟩, s)
  | v :: vs => (⟨0, 0, toLe 4 v⟩, s.setEngine n { e with bell := vs })

/-- EngObjWriteRx (R554). -/
def State.objWriteRx (s : State) (n : Nat) : Resp × State :=
  let e := s.engine n
  match e.ow with
  | [] => (⟨Rc.notReady, Dt.emptyQueue, []⟩, s)
  | v :: vs => (⟨0, 0, toLe 2 v.1 ++ [BitVec.ofNat 8 v.2]⟩, s.setEngine n { e with ow := vs })

/-- An edge on a GPIO input (R555): EngGpioIn follows, and a selected edge raises the owner's GPIO event. -/
def State.gpioEdge (s : State) (pin : Nat) (level : Bool) : State :=
  let old := bit s.eng.gpin pin
  let s1 := { s with eng.gpin := putBit s.eng.gpin pin level }
  let sel := bits (s.g 0x5035 0) (2 * pin) 2
  if old = level || 8 ≤ pin then s
  else if (sel = 3 || (sel = 1 && level) || (sel = 2 && !level)) && s.g 0x5030 (pin + 1) ≠ 0xFF then
    s1.engEv (s.g 0x5030 (pin + 1)) 18
  else s1

/-- The waveform channel that drives a GPIO (R653): one of the pin's owner whose OUTSEL names it. -/
def State.gpioWave (s : State) (i : Nat) : Option Tmr :=
  (([8, 9, 10, 11].filter fun n => s.g 0x5034 (n + 1) = s.g 0x5030 (i + 1)).map s.tmrOf).find? fun c => bits c.ctrl 12 4 = i + 1

/-- An engine drives a GPIO at its active level (R263): from EngGpioOut, whose active level is high (log entry 23), or from a waveform
channel, whose output is active while its count is below CMPA (R657). -/
def State.gpioOn (s : State) (i : Nat) : Bool :=
  s.g 0x5030 (i + 1) ≠ 0xFF && bit (s.g 0x5031 0) i &&
    (match s.gpioWave i with
     | some c => c.run && c.base < c.cmp
     | none => bit (s.g 0x5032 0) i)

/-- Since when that output has been active without a change (R263): for a channel whose output moves, its last rise. -/
def State.gpioSince (s : State) (i : Nat) : Nat :=
  match s.gpioWave i, s.gate.hold.getD i none with
  | some c, h =>
    if c.cmp ≤ c.end_ then max (h.getD 0) (c.at_ - (if c.up then c.base + c.cmp - 1 else c.cmp - 1 - c.base) * c.unit) else h.getD c.at_
  | none, h => h.getD s.now

/-- After a write that may change what an engine drives, `old` before it, the start of each active output is noted (R263). -/
def State.gpioHolds (old s : State) : State :=
  { s with gate.hold := (List.range 8).map fun i =>
      if s.gpioOn i then some (if old.gpioOn i then old.gpioSince i else s.now) else none }

/-- GateGpioHold, as it reads now, has passed: the pin returns to its input state (R263). -/
def State.gpioHoldEnd (s0 : State) (pin : Nat) : State :=
  let s := s0.tmrSettleAll
  if pin < 8 && s.gpioOn pin && s.gpioSince pin + ms (s.g 0x2442 0) ≤ s.now then
    { (s.put 0x5031 0 (clrBit (s.g 0x5031 0) pin)) with gate.hold := putAt s.gate.hold pin none }
  else s

end Sys2Proof.Machine
end

