-- ==== Sys2Proof/Machine/Cipher.lean ====
section
/-! DEFINITION. The cipher complex as the host and the engines use it (R443 to R479): submission, the scheduler that gives blocks to
cores, early release, verdicts, scrubbing and status records. The hardware-path requesters compute where they need a result and
count their blocks with `cxUse`. A request reads its source when it leaves the queue (log entry 30). -/
namespace Sys2Proof.Machine

/-! ### Descriptors (R456) -/

/-- MODE of a descriptor. -/
def dMode (d : Bytes) : Nat := byteAt 0 d
/-- FLAGS. -/
def dFlags (d : Bytes) : Nat := byteAt 1 d
/-- DECRYPT. -/
def dDec (d : Bytes) : Bool := bit (dFlags d) 0
/-- KEY. -/
def dKey (d : Bytes) : Nat := leAt 2 2 d
/-- KEY2. -/
def dKey2 (d : Bytes) : Nat := leAt 4 2 d
/-- TAGLEN. -/
def dTagLen (d : Bytes) : Nat := byteAt 6 d
/-- TAIL. -/
def dTail (d : Bytes) : Nat := byteAt 7 d
/-- SRC. -/
def dSrc (d : Bytes) : Nat := leAt 8 4 d
/-- DST. -/
def dDst (d : Bytes) : Nat := leAt 12 4 d
/-- LEN. -/
def dLen (d : Bytes) : Nat := leAt 16 4 d
/-- AAD. -/
def dAad (d : Bytes) : Nat := leAt 20 4 d
/-- AAD_LEN. -/
def dAadLen (d : Bytes) : Nat := leAt 24 2 d
/-- NONCE_LEN. -/
def dNonce (d : Bytes) : Nat := byteAt 26 d
/-- AAD_PAD. -/
def dPad (d : Bytes) : Nat := byteAt 27 d
/-- IV. -/
def dIv (d : Bytes) : Bytes := slice 32 16 d
/-- TAG. -/
def dTag (d : Bytes) : Bytes := slice 48 16 d
/-- XTS data unit in octets. -/
def dUnit (d : Bytes) : Nat := if bit (dFlags d) 1 then 4096 else 512
/-- Octets written to DST (R447, R449). -/
def dOut (d : Bytes) : Nat :=
  if dMode d = 4 then 0 else if dMode d = 8 then (if dDec d then dLen d - 8 else dLen d + 8) else dLen d

/-- A decrypt-and-verify request of CCM or GCM. -/
def dVerify (d : Bytes) : Bool := (dMode d = 5 || dMode d = 6) && dDec d
/-- A request that holds its output for a verdict (R464). -/
def dHolds (d : Bytes) : Bool := dVerify d || (dMode d = 8 && dDec d)

/-- Check 5 of R459: the lengths, the tail, the tag, the nonce and the IV suit the mode. -/
def dSuits (d : Bytes) : Bool :=
  let m := dMode d
  let aead := m = 5 || m = 6
  let kw := m = 8
  (if kw then dLen d % 8 = 0 && (if dDec d then 24 ≤ dLen d && dLen d ≤ 4104 else 16 ≤ dLen d && dLen d ≤ 4096)
    else dLen d % 16 = 0 && dLen d ≤ 65520) &&
  dTail d ≤ 15 && (dTail d = 0 || ([3, 4, 5, 6].contains m && dLen d ≠ 0)) &&
  (if m = 4 then 4 ≤ dTagLen d && dTagLen d ≤ 16
    else if m = 5 then 4 ≤ dTagLen d && dTagLen d ≤ 16 && dTagLen d % 2 = 0
    else if m = 6 then dTagLen d = 4 || dTagLen d = 8 || (12 ≤ dTagLen d && dTagLen d ≤ 16)
    else dTagLen d = 0) &&
  (if aead then dAadLen d % 16 = 0 && dAadLen d ≤ 4096 && dPad d ≤ 15 && (dAadLen d ≠ 0 || dPad d = 0)
    else dAadLen d = 0 && dPad d = 0) &&
  (if m = 5 then 7 ≤ dNonce d && dNonce d ≤ 13 else dNonce d = 0) &&
  (m ≠ 7 || dLen d % dUnit d = 0) &&
  (!([1, 4, 8].contains m) || dIv d = zeros 16)

/-- The counter of a CTR request stays within 32 bits (R450). -/
def dCtrOk (d : Bytes) : Bool := dMode d ≠ 3 || dLen d = 0 || beNat ((dIv d).drop 12) + dLen d / 16 ≤ 2 ^ 32

/-- What a request computes from its keys, source and AAD: output, tag, and whether its verdict is good (R447 to R451). -/
def cxCompute (d key key2 src aad : Bytes) : Bytes × Bytes × Bool :=
  let m := dMode d
  let data := src.take (dLen d - if dTail d = 0 then 0 else 16 - dTail d)
  let a := aad.take (dAadLen d - dPad d)
  let tl := dTagLen d
  let want := (dTag d).take tl
  if m = 1 then (ecb (dDec d) key src, [], true)
  else if m = 2 then (if dDec d then cbcDec key (dIv d) (blocks src) else cbcEnc key (dIv d) (blocks src), [], true)
  else if m = 3 then (fit (dLen d) (ctr key (dIv d) data), [], true)
  else if m = 4 then
    let tag := (cmac key data).take tl
    if dDec d then ([], [], decide (tag = want)) else ([], tag, true)
  else if m = 5 then
    let n := (dIv d).take (dNonce d)
    let out := ccmXor key n data
    if dDec d then (fit (dLen d) out, [], decide (ccmTag key n a out tl = want))
    else (fit (dLen d) out, ccmTag key n a data tl, true)
  else if m = 6 then
    let out := gcmXor key (dIv d) data
    if dDec d then (fit (dLen d) out, [], decide (gcmTag key (dIv d) a data tl = want))
    else (fit (dLen d) out, gcmTag key (dIv d) a out tl, true)
  else if m = 7 then (xts (dDec d) key key2 (dUnit d) (leNat (dIv d)) src, [], true)
  else if dDec d then
    match kwUnwrap key src with
    | some p => (p, [], true)
    | none => ([], [], false)
  else (kwWrap key src, [], true)

/-- AES operations of a request (R477). -/
def dOps (d : Bytes) : Nat :=
  let b := dLen d / 16
  let m := dMode d
  if m = 4 then max b 1 + 1
  else if m = 5 then 2 * b + dAadLen d / 16 + 2
  else if m = 6 then b + 2
  else if m = 7 then b + dLen d / dUnit d
  else if m = 8 then 6 * (if dDec d then dLen d / 8 - 1 else dLen d / 8)
  else b

/-- Blocks of a request that may be under way at once (R446). -/
def dWidth (d : Bytes) : Nat :=
  let m := dMode d
  if m = 4 || m = 8 || (m = 2 && !dDec d) then 1 else if m = 5 then 2 else 4

/-- Payload octets produced after `n` operations. -/
def dMade (d : Bytes) (n : Nat) : Nat :=
  let m := dMode d
  let k := if m = 5 then (n - 2 - dAadLen d / 16) / 2
    else if m = 6 then n - 2
    else if m = 7 then n - (n + dUnit d / 16) / (dUnit d / 16 + 1)
    else if m = 4 || m = 8 then 0 else n
  if n = dOps d then dOut d else min (16 * k) (dOut d)

/-! ### Addresses (R457) -/

/-- The page's rights in the mailbox: partitions it may read and write (R553). -/
def State.pageMbx (s : State) (page : Nat) : Nat × Nat :=
  if page = 4 then (0xFFFF, ((List.range 16).map fun k => if bit (s.g 0x5020 (k + 1)) 16 then 2 ^ k else 0).sum)
  else ((s.engine (page - 5)).mbxR, (s.engine (page - 5)).mbxW)

/-- A range lies in one region the page may use (R457). -/
def State.cxAddr (s : State) (page a n al : Nat) (write : Bool) : Bool :=
  let o := a % 2 ^ 24
  let r := a / 2 ^ 24
  n = 0 || (a % al = 0 &&
    (if r = 1 then 5 ≤ page && page ≤ 12 && o + n ≤ 16384
     else if r = 2 then
       o + n ≤ 65536 && ((List.range 16).all fun k =>
         o + n ≤ 4096 * k || 4096 * (k + 1) ≤ o || bit (if write then (s.pageMbx page).2 else (s.pageMbx page).1) k)
     else false))

/-- Octets at an address. -/
def State.cxRead (s : State) (page a n : Nat) : Bytes :=
  if a / 2 ^ 24 = 1 then memRead (s.engine (page - 5)).data (a % 2 ^ 24) n else memRead s.eng.mbx (a % 2 ^ 24) n

/-- Octets stored at an address. -/
def State.cxWrite (s : State) (page a : Nat) (b : Bytes) : State :=
  if a / 2 ^ 24 = 1 then
    s.setEngine (page - 5) { s.engine (page - 5) with data := memWrite (s.engine (page - 5)).data (a % 2 ^ 24) b }
  else { s with eng.mbx := memWrite s.eng.mbx (a % 2 ^ 24) b }

/-- Two ranges meet. -/
def overlaps (a n b m : Nat) : Bool := a < b + m && b < a + n

/-! ### Pages and cores -/

/-- A page. -/
def State.cxPage (s : State) (p : Nat) : CxPage := s.cx.pages.getD p ⟨[], 0, []⟩

/-- A page changed. -/
def State.modPage (s : State) (p : Nat) (f : CxPage → CxPage) : State := { s with cx.pages := modAt s.cx.pages p f }

/-- The page of a requester (R453). -/
def pageOf : Requester → Nat
  | .engine n => 5 + n
  | .host => 4
  | .net n => 12 + n
  | .twin => 3
  | .field => 16

/-- CxState (R479). -/
def State.cxState (s : State) : Nat := if s.gate.quench then 2 else if s.rng.st = .starting then 0 else 1

/-- Hold buffer of a page in octets (R462). -/
def State.cxHold (s : State) (p : Nat) : Nat := 256 * s.g 0x1404 (p + 1)

/-- EARLY of a page (R466). -/
def State.cxEarly (s : State) (p : Nat) : Bool := bit (s.g 0x1405 (p + 1)) 0

/-- Cores present (R443). -/
def coreCount : Variant → Nat
  | .gz4880 => 4
  | _ => 2

/-- A slot suits a mode's direction (R488): its length code and uses. -/
def State.cxSlotOk (s : State) (d : Bytes) (h : Nat) : Bool :=
  let enc := s.slotUse h (if dDec d then 1 else 0)
  let m := dMode d
  s.slotSt h ≠ .empty &&
  (if m = 4 then s.slotUse h 2
   else if m = 5 || m = 6 then s.slotUse h 2 && enc
   else if m = 8 then s.slotUse h 4
   else enc)

/-- CxSubmit (R459): the response and the state. -/
def State.cxCheck (s : State) (page : Nat) (d : Bytes) : Option (Nat × Nat) :=
  let m := dMode d
  let noSlot := fun (h : Nat) => 128 ≤ h && h ≠ 0xFFFF
  let al := if m = 8 then 8 else 16
  if d.length ≠ 64 then some (Rc.type, Dt.length)
  else if 8 ≤ dFlags d || m = 0 || 9 ≤ m then some (Rc.range, Dt.modeParam)
  else if noSlot (dKey d) || noSlot (dKey2 d) then some (Rc.range, 0)
  else if dKey d = 0xFFFF || s.slotOwner (dKey d) ≠ page ||
      (m = 7 && (dKey2 d = 0xFFFF || s.slotOwner (dKey2 d) ≠ page)) then some (Rc.denied, Dt.keyNotOwned)
  else if !s.cxSlotOk d (dKey d) ||
      (m = 7 && (!s.cxSlotOk d (dKey2 d) || dKey d = dKey2 d || s.slotLen (dKey d) ≠ s.slotLen (dKey2 d) || s.slotLen (dKey d) = 1)) then
    some (Rc.range, Dt.keyKind)
  else if !dSuits d then some (Rc.range, Dt.modeParam)
  else if !dCtrOk d then some (Rc.range, Dt.ctrWrap)
  else if !s.cxAddr page (dSrc d) (dLen d) al false || !s.cxAddr page (dDst d) (dOut d) al true ||
      !s.cxAddr page (dAad d) (dAadLen d) 16 false then some (Rc.denied, Dt.addr)
  else if (overlaps (dDst d) (dOut d) (dSrc d) (dLen d) && dDst d ≠ dSrc d) ||
      (overlaps (dDst d) (dOut d) (dAad d) (dAadLen d) && !(dDst d = dAad d && dOut d = dAadLen d)) then
    some (Rc.range, Dt.overlap)
  else if (dVerify d && s.cxHold page < dLen d && !s.cxEarly page) || (m = 8 && dDec d && s.cxHold page < dOut d) then
    some (Rc.holdShort, 0)
  else if 4 ≤ (s.cxPage page).reqs.length then some (Rc.busy, Dt.queueFull)
  else none

/-- A request of a page by SEQ. -/
def CxPage.req (p : CxPage) (seq : Nat) : Option CxReq := p.reqs.find? fun r => r.seq = seq

/-- A request changed. -/
def State.modReq (s : State) (page seq : Nat) (f : CxReq → CxReq) : State :=
  s.modPage page fun p => { p with reqs := p.reqs.map fun r => if r.seq = seq then f r else r }

/-- All operations of a request are done, or it has failed. -/
def CxReq.ovr (r : CxReq) : Bool := r.run && (r.fail.isSome || (r.done = r.total && r.busy = 0))

/-- The request of a page that may start next (R455, R460, R464). -/
def CxPage.starter (p : CxPage) : Option CxReq :=
  match p.reqs.find? fun r => !r.run with
  | none => none
  | some r =>
    let running := p.reqs.filter (·.run)
    if 4 ≤ p.recs.length + running.length then none
    else if dHolds r.desc && (running.any fun q => dHolds q.desc && !q.ovr) then none
    else some r

/-- The key a request captures (R473): the slot's current version, but for a rewrite of this same CKS cycle the one before it. -/
def State.captured (s : State) (h : Nat) : Bytes :=
  let k := (s.slotKey h).getD []
  match (s.keys.slots[h]?).bind KeySlot.prev with
  | some (t, old) => if t / 10 = s.now / 10 then old else k
  | none => k

/-- A request leaves the queue (R473, R475): it captures its keys, or fails at its start. -/
def State.cxStart (s : State) (page : Nat) (r : CxReq) : State :=
  let hs := if dMode r.desc = 7 then [dKey r.desc, dKey2 r.desc] else [dKey r.desc]
  let s1 := s.modReq page r.seq fun q => { q with run := true, start := s.now }
  if hs.any fun h => s.slotSt h = .erasing then
    s1.modReq page r.seq fun q => { q with fail := some (Rc.busy, Dt.keyErasing) }
  else if hs.any fun h => s.slotSt h = .empty then
    s1.modReq page r.seq fun q => { q with fail := some (Rc.range, Dt.slotEmpty) }
  else
    let k := s.captured (dKey r.desc)
    let k2 := if dMode r.desc = 7 then s.captured (dKey2 r.desc) else []
    let o := cxCompute r.desc k k2 (s.cxRead page (dSrc r.desc) (dLen r.desc)) (s.cxRead page (dAad r.desc) (dAadLen r.desc))
    s1.modReq page r.seq fun q => { q with key := k, key2 := k2, out := o.1, tag := o.2.1, good := o.2.2, total := dOps r.desc }

/-- The page from which a core may take its next block: the host's page first, then the engines' round robin (R444). -/
def State.cxPages (s : State) : List Nat :=
  4 :: ((List.range 8).map fun i => 5 + (s.cx.rrD + i) % 8)

/-- A running request of a page with a block to give. -/
def CxPage.giver (p : CxPage) : Option CxReq :=
  p.reqs.find? fun r => r.run && r.fail.isNone && r.done + r.busy < r.total && r.busy < dWidth r.desc

/-- Every request that may start does (R455). -/
def State.cxStartAll (s : State) : State :=
  (List.range 16).foldl (fun s p =>
    (List.range 4).foldl (fun s _ => match (s.cxPage p).starter with | some r => s.cxStart p r | none => s) s) s

/-- Time of one block (R443). -/
def blockTime (key : Bytes) : Nat := cks (if key.length = 16 then 44 else if key.length = 24 then 52 else 60)

/-- An idle core takes its next block (R444, R445, R470). -/
def State.cxFeed (s : State) (c : Nat) : State :=
  match s.cx.cores[c]? with
  | none => s
  | some k =>
    if k.cur.isSome || 65536 ≤ k.blocks then s
    else
      match s.cxPages.findSome? fun p => (s.cxPage p).giver.map fun r => (p, r) with
      | none => s
      | some (p, r) =>
        let s1 := s.modReq p r.seq fun q => { q with busy := q.busy + 1 }
        { s1 with cx.cores := putAt s1.cx.cores c { k with cur := some (p, r.seq), due := s.now + blockTime r.key },
                  cx.rrD := if 5 ≤ p then (p - 5 + 1) % 8 else s1.cx.rrD }

/-- Requests start and idle cores take blocks, while the complex runs (R471, R472). -/
def State.cxRun (s : State) : State :=
  if s.cxState = 1 && s.cksOn then
    (List.range (coreCount s.fuse.variant)).foldl State.cxFeed s.cxStartAll
  else s

/-- Octets a running request has released to DST (R461, R465, R466). -/
def State.cxDue (s : State) (page : Nat) (r : CxReq) (n : Nat) : Nat :=
  let made := dMade r.desc n
  if dHolds r.desc then (if dVerify r.desc && s.cxEarly page && s.cxHold page < dLen r.desc then made - s.cxHold page else 0)
  else if dMode r.desc = 8 then 0 else made

/-- What of a request's output is due at DST is written (R466). -/
def State.cxRelease (s : State) (page : Nat) (r : CxReq) (upto : Nat) : State :=
  if r.rel < upto then
    (s.cxWrite page (dDst r.desc + r.rel) (slice r.rel (upto - r.rel) r.out)).modReq page r.seq fun q => { q with rel := upto }
  else s

/-- A status record (R460). -/
def cxRecord (r : CxReq) (code detail done scrubbed cycles : Nat) (tag : Bytes) : Bytes :=
  [BitVec.ofNat 8 code, BitVec.ofNat 8 detail] ++ toLe 2 r.seq ++ slice 28 4 r.desc ++ toLe 4 done ++ toLe 4 scrubbed ++
    toLe 4 (min (2 ^ 32 - 1) cycles) ++ zeros 4 ++ fit 16 tag

/-- A finished request leaves its page: verdict, scrub, status record and notification (R460, R465 to R467). -/
def State.cxFinish (s : State) (page : Nat) (r : CxReq) : State :=
  let bad := r.fail.isSome || !r.good
  let code := match r.fail with | some f => f | none => if r.good then (Rc.ok, 0) else (Rc.tagFail, 0)
  let scrub := if bad && dHolds r.desc then r.rel else 0
  let s1 := if scrub ≠ 0 then s.cxWrite page (dDst r.desc) (zeros scrub) else if bad then s else s.cxRelease page r (dOut r.desc)
  let done := if bad then (if dHolds r.desc then 0 else r.rel) else dOut r.desc
  let rec_ := cxRecord r code.1 code.2 done scrub ((s.now - r.start) / 10) (if bad || dDec r.desc then [] else r.tag)
  let s2 := s1.modPage page fun p =>
    { p with reqs := p.reqs.filter (fun q => q.seq ≠ r.seq),
             recs := if r.mute then p.recs else p.recs ++ [(bit (dFlags r.desc) 2, rec_)] }
  let s3 := (if code.1 = Rc.tagFail then s2.bump 0x1420 2 else s2).bumpBy 0x1420 3 scrub
  let s4 := if code.1 = Rc.keyZeroized then s3.bump 0x1420 6 else s3
  let s5 := if 5 ≤ page && page ≤ 12 && bit (dFlags r.desc) 2 && !r.mute then s4.engEv (page - 5) 1 else s4
  (s5.eraseDone (dKey r.desc)).eraseDone (dKey2 r.desc)

/-- Failed requests at the front of a page complete (R455). -/
def State.cxDrain (s : State) (page : Nat) : State :=
  (List.range 4).foldl (fun s _ =>
    match (s.cxPage page).reqs.head? with
    | some r => if r.run && r.fail.isSome then s.cxFinish page r else s
    | none => s) s

/-- Every page drained, and the cores fed again. -/
def State.cxSettle (s : State) : State := ((List.range 16).foldl State.cxDrain s).cxRun

/-- CxSubmit (R459, R471). -/
def State.cxSubmit (s : State) (who : Requester) (d : Bytes) : Resp × State :=
  let page := pageOf who
  if s.cxState = 0 then (⟨Rc.notReady, 0, []⟩, s)
  else
    match s.cxCheck page d with
    | some (c, dt) => (⟨c, dt, []⟩, if c = Rc.holdShort then s.bump 0x1420 4 else s)
    | none =>
      let q := ((s.cxPage page).seq + 1) % 65536
      let r : CxReq := ⟨q, d, false, [], [], 0, 0, 0, [], [], false, 0, 0, none, false⟩
      (⟨Rc.ok, 0, toLe 2 q⟩, ((s.modPage page fun p => { p with reqs := p.reqs ++ [r], seq := q }).cxRun).cxSettle)

/-- CxTakeResult (R460). -/
def State.cxTake (s : State) (who : Requester) : Resp × State :=
  match (s.cxPage (pageOf who)).recs with
  | [] => (⟨Rc.notReady, Dt.noResult, []⟩, s)
  | r :: rs => (⟨Rc.ok, 0, r.2⟩, (s.modPage (pageOf who) fun p => { p with recs := rs }).cxRun)

/-- CxPending of a requester (R456, R479). -/
def State.cxPending (s : State) (who : Requester) : Nat :=
  ((s.cxPage (pageOf who)).recs.filter fun r => r.1 || pageOf who ≠ 4).length

/-- A core finishes its block and chooses the next at the boundary (R445). A mask reseed is asked for halfway to the limit. -/
def State.cxBlockDone (s : State) (c : Nat) : State :=
  match s.cx.cores[c]? with
  | none => s
  | some k =>
    match k.cur with
    | none => s
    | some (p, q) =>
      if s.now < k.due then s
      else
        let s1 := { s with
          cx.cores := putAt s.cx.cores c { k with cur := none, blocks := k.blocks + 1 },
          rng.waiting := if k.blocks + 1 = 32768 then s.rng.waiting ++ [(GenUse.mask c, 0)] else s.rng.waiting }
        let s2 := s1.cxUse (if p = 4 then 3 else 4) 1
        let s3 := s2.modReq p q fun r => { r with done := r.done + 1, busy := r.busy - 1 }
        let s4 := match (s3.cxPage p).req q with
          | some r => s3.cxRelease p r (s3.cxDue p r r.done)
          | none => s3
        s4.cxRun

/-- The oldest request of a page whose blocks are all done completes (R460). -/
def State.cxRequestDone (s : State) (page : Nat) : State :=
  match (s.cxPage page).reqs.head? with
  | some r => if r.ovr then (s.cxFinish page r).cxSettle else s
  | none => s

/-- A request ends with a code. -/
def CxReq.abort (r : CxReq) (code now : Nat) : CxReq :=
  { r with run := true, fail := some (code, 0), key := [], key2 := [], busy := 0, start := if r.run then r.start else now }

/-- Requests that `p` names end with a code: their blocks are abandoned (R467, R472, R476). -/
def State.cxAbort (s : State) (p : Nat → CxReq → Bool) (code : Nat) (queued : Bool) : State :=
  let hit := fun (i : Nat) (r : CxReq) => (r.run || queued) && r.fail.isNone && p i r
  let gone := (s.cx.pages.zipIdx.map fun x => (x.1.reqs.filter fun r => hit x.2 r).map fun r => (x.2, r.seq)).flatten
  let s1 := { s with
    cx.pages := s.cx.pages.zipIdx.map fun (x : CxPage × Nat) =>
      { x.1 with reqs := x.1.reqs.map fun (r : CxReq) => if hit x.2 r then r.abort code s.now else r },
    cx.cores := s.cx.cores.map fun (k : CxCore) =>
      if (k.cur.map fun c => gone.contains c).getD false then { k with cur := none } else k }
  (List.range 16).foldl State.cxDrain s1

/-- The request holds a context of a slot (R473). -/
def CxReq.uses (r : CxReq) (h : Nat) : Bool := dKey r.desc = h || (dMode r.desc = 7 && dKey2 r.desc = h)

/-- Urgent zeroize of a slot aborts the requests that hold its context (R476). -/
def State.cxZeroize (s : State) (h : Nat) : State := s.cxAbort (fun _ r => r.uses h) Rc.keyZeroized false

/-- Entry to Quench (R472). -/
def State.cxQuench (s : State) : State := s.cxAbort (fun _ _ => true) Rc.quenched true

/-- Requests that wait for a mask seed end with ENTROPY_FATAL (R471, R516): they wait once no core present may start a block (R470). -/
def State.cxFatal (s : State) : State :=
  if (s.cx.cores.take (coreCount s.fuse.variant)).all fun k => 65536 ≤ k.blocks then s.cxAbort (fun _ _ => true) Rc.entropyFatal true
  else s

/-- The complex at a reset and at CORE power-down: no request is in progress. -/
def State.cxReset (s : State) : State := { s with cx := .reset }

end Sys2Proof.Machine
end

