-- ==== Sys2Proof/Machine/Quench.lean ====
section
/-! DEFINITION. Entering Quench (R266, R267, R681), and the network sessions that end with it and with a zeroize of every slot (R76). -/
namespace Sys2Proof.Machine

/-- A network session ends: its slot is free and its subscriptions and queued notifications go (R76). -/
def State.netDrop (s : State) (sid : Nat) : State :=
  { s with dict.net := putAt s.dict.net (sid - 1) .reset,
           dict.subs := s.dict.subs.filter fun (x : Sub) => x.who ≠ Requester.net sid,
           dict.ntfs := putAt s.dict.ntfs sid ⟨0, [], []⟩ }

/-- Every network session ends. -/
def State.netDropAll (s : State) : State := [1, 2, 3].foldl State.netDrop s

/-- The LF bridges and the NFC carriers go off, and what they were doing ends (R267). -/
def State.coilsOff (s : State) : State :=
  { s with lf.q := [], lf.run := none, lf.slots := [],
           nfc.ports := s.nfc.ports.map fun (p : NfcPort) => { p with st := if p.st = 5 then 5 else 0, act := none, next := none } }

/-- Every BLE connection ends and no advertising follows (R267). -/
def State.bleOff (s : State) : State :=
  { s with ble.conns := List.replicate 8 none, ble.event := none }

/-- Every pulse is cut, dead times and START_EN end, at the AON latches (R241, R264, R267). -/
def State.gatesClose (s : State) : State :=
  let s1 := s.lowerStart
  s.noteChg { s1 with
    gate.a := s1.gate.a.map fun (_ : Ball) => ⟨false, s.now⟩, gate.b := s1.gate.b.map fun (_ : Ball) => ⟨false, s.now⟩,
    gate.dead := [none, none], gate.relock := false,
    gate.closeAt := s1.gate.closeAt.zipIdx.map fun (p : Option Nat × Nat) => if s.gate.active p.2 then some s.now else p.1 }

/-- The QUENCH record takes the next SEQ and goes ahead of every buffered record, or its AON marker is set (R681). -/
def State.logQuench (s : State) : State :=
  let c := s.g 0x2450 0
  if s.pwr.core then
    let tm := s.logTime
    let r : LogRec := ⟨s.log.next, tm.1, tm.2, 0x05, 0, 0, true, false, fit 46 [BitVec.ofNat 8 c]⟩
    { s with log.next := s.log.next + 1, log.buf := r :: s.log.buf }
  else { s with log.quench := some (c, s.logTime) }

/-- The part enters Quench, or notes a further cause (R266, R267). -/
def State.quench (s : State) (cause : Nat) : State :=
  let s0 := s.put 0x2450 0 (setBit (s.g 0x2450 0) cause)
  if s.gate.quench then s0
  else
    let void := s0.ts.reqs.filterMap fun q => (s0.sealReady q).map fun v => (q, v)
    let s1 := { s0.logQuench with gate.quench := true, gate.immo.nonce := none, gate.immo.next := none }
    let s2 := ({ s1.gatesClose with acc.drive := none }.errBit 9 0x2401 Rc.quenched 0).sealsVoid void
    let s3 := (s2.endAll.netDropAll).radioOff.coilsOff.bleOff.cxQuench
    { s3 with acc.tx := [], uwb.plan := [], uwb.air := none, uwb.await := [], ts.reqs := [], ts.evals := [] }.engEvAll 25

end Sys2Proof.Machine
end

