-- ==== Sys2Proof/Machine/Entropy.lean ====
section
/-! DEFINITION. Entropy: the three sources under Assay, the conditioner, the pool, the CTR_DRBG and its waiting requests (R504 to R518),
and the mask seeds of the cipher cores (R470, R471). -/
namespace Sys2Proof.Machine

/-- Cutoffs of R505: repetition count and adaptive proportion. -/
def cutoffs (src : Nat) : Nat × Nat := if src = 2 then (108, 951) else (81, 919)

/-- A block of 1,024 samples passes both tests (R505): no run reaches the repetition cutoff, and the first sample's value does not
reach the proportion cutoff in the block. -/
def assayOk (src : Nat) (blk : Bytes) : Bool :=
  let b := sampleBits blk
  decide (longestRun b < (cutoffs src).1) && decide (aptCount b < (cutoffs src).2)

/-- A source. -/
def State.source (s : State) (i : Nat) : Source := s.rng.srcs.getD i ⟨.off, 0, [], 0⟩

/-- A source changed. -/
def State.modSource (s : State) (i : Nat) (f : Source → Source) : State := { s with rng.srcs := modAt s.rng.srcs i f }

/-- RO and ML are powered and settle, at start-up and at a wake (R504); a FAILED source stays so until reset (R507). -/
def State.sourcesUp (s : State) : State :=
  let up := fun (i : Nat) (d : Nat) (x : Source) =>
    if x.st = .failed then x else if i = 2 then { x with st := .idle } else { x with st := .settling, passed := 0, due := s.now + d }
  ((s.modSource 0 (up 0 (us 440))).modSource 1 (up 1 (us 44))).modSource 2 (up 2 0)

/-- All sources stop when CORE powers down (R504). -/
def State.sourcesDown (s : State) : State :=
  { s with rng.srcs := s.rng.srcs.map fun (x : Source) => if x.st = .failed then x else { x with st := .off, passed := 0 },
           rng.pool := [] }

/-- A source finishes settling (R506). -/
def State.settled (s : State) (i : Nat) : State :=
  s.modSource i fun x => if x.st = .settling && x.due ≤ s.now then { x with st := .startup, passed := 0 } else x

/-- A source's restart completes and its start-up test runs again (R507). -/
def State.restarted (s : State) (i : Nat) : State :=
  s.modSource i fun x =>
    if x.st = .restarting && x.due ≤ s.now then { x with st := if i = 2 then .idle else .startup, passed := 0 } else x

/-- Failed blocks among the last 32 judged (R507). -/
def Source.fails (x : Source) : Nat := (x.hist.filter id).length

/-- Three outputs may seed (R512): one of RO and one of ML the first time after a reset, else at least one of RO or ML. -/
def eligible (first : Bool) (p : List (Nat × Bytes)) : Bool :=
  p.length = 3 && (if first then p.any (·.1 = 0) && p.any (·.1 = 1) else p.any fun x => x.1 ≤ 1)

/-- The oldest three outputs of the pool that may seed together: the oldest of the source or sources that must be there, and the
oldest others (R512; which three is the model's choice, log entry 31). -/
def pickSeed (first : Bool) (pool : List (Nat × Bytes)) : Option (List (Nat × Bytes)) :=
  let must := if first then (pool.find? (·.1 = 0)).toList ++ (pool.find? (·.1 = 1)).toList else (pool.find? fun x => x.1 ≤ 1).toList
  let rest := pool.filter fun x => !must.contains x
  let p := must ++ rest.take (3 - must.length)
  if eligible first p then some p else none

/-- The personalisation string (R511). -/
def State.persString (s : State) : Bytes := fit 48 s.fuse.serial

/-- Every core's mask generator takes a seed (R470, R471). -/
def State.seedCores (s : State) : State :=
  (List.range (coreCount s.fuse.variant)).foldl (fun s c =>
    let r := s.draw 32
    { r.2 with cx.cores := modAt r.2.cx.cores c fun k => { k with seed := r.1, blocks := 0 } }) s

/-- The DRBG is instantiated or reseeded where the pool allows it (R511 to R513). -/
def State.tryReseed (s : State) : State :=
  if s.gate.quench || s.rng.st = .fatal then s
  else
    let first := s.rng.st = .starting
    let due := first || s.rng.seedAt + ms (s.g 0x1308 0) ≤ s.now
    match pickSeed (first && s.rng.cold) s.rng.pool with
    | none => s
    | some p =>
      if !due then s
      else
        let e := (p.map (·.2)).flatten
        let d := if first then drbgInit e s.persString else drbgReseed s.rng.drbg e
        let s1 := { s with rng.drbg := d, rng.st := .seeded, rng.cold := false, rng.seedAt := s.now, rng.reqs := 0,
                           rng.pool := s.rng.pool.filter fun (x : Nat × Bytes) => !p.contains x }
        if first then s1.seedCores.cxSettle else s1.bump 0x1307 4

/-- One second or 2^20 requests without a reseed (R513). -/
def State.reseedLimit (s : State) : State :=
  if s.rng.st = .seeded && (s.rng.seedAt + secs 1 ≤ s.now || 2 ^ 20 ≤ s.rng.reqs) then
    { s with rng.st := .reseedWait }.bump 0x1307 5
  else s

/-- RO and ML are both FAILED (R509, R516): waiting requests end with ENTROPY_FATAL, and the part enters Quench. -/
def State.entropyFatal (s : State) : State :=
  if (s.source 0).st = .failed && (s.source 1).st = .failed && s.rng.st ≠ .fatal then
    let s1 := s.rng.waiting.foldl (fun s w =>
      match w.1 with
      | .mask _ | .enrol _ _ => s
      | .random who => s.answer who 0x1320 ⟨Rc.entropyFatal, 0, []⟩
      | .generate who _ _ => s.answer who 0x1521 ⟨Rc.entropyFatal, 0, []⟩) s
    { s1.cxFatal with rng.waiting := [], rng.st := .fatal }.quench 0
  else s

/-- RXN samples (R334, R504): it is enabled, and the UWB transceiver is READY with no request queued. -/
def State.rxnSampling (s : State) : Bool :=
  s.g 0x1302 0 = 1 && (s.source 2).st = .idle && s.rfc.uwb.st = .ready && s.rfc.uwb.q = [] && s.cksOn

/-- The state RngSourceState shows of a source (R506, R521): RXN is IDLE while it does not sample. -/
def State.sourceShown (s : State) (i : Nat) : SrcState :=
  if i = 2 && s.rxnSampling then (if 4 ≤ (s.source 2).passed then .running else .startup) else (s.source i).st

/-- A block of a source is judged (R505 to R510). RXN samples only while it is enabled and the UWB transceiver is READY with no request
queued (R334); a block of a source that is not testing or running is not judged (R508). -/
def State.assayBlock (s : State) (i : Nat) (blk : Bytes) : State :=
  let x := s.source i
  let rxn := i = 2 && s.rxnSampling
  if !(x.st = .startup || x.st = .running || rxn) || blk.length ≠ 128 || 3 ≤ i || !s.cksOn then s
  else
    let ok := assayOk i blk
    let h := ((!ok) :: x.hist).take 32
    let s1 := (s.modSource i fun y => { y with hist := h }).bump 0x1307 (if ok then 1 else 2)
    if ok then
      if x.st = .running || (rxn && 4 ≤ x.passed) then
        let o := condition s.fuse.condKey blk
        ({ s1 with rng.pool := (s1.rng.pool ++ [(i, o)]).drop (s1.rng.pool.length + 1 - 6) }).tryReseed
      else s1.modSource i fun y => { y with passed := y.passed + 1, st := if rxn then .idle else if 4 ≤ y.passed + 1 then .running else .startup }
    else if 4 ≤ (h.filter id).length then
      let s2 := (s1.modSource i fun y => { y with st := .failed }).errBit 8 0x1300 Rc.entropyFatal 0
      (s2.logEv 0x06 0 0 [BitVec.ofNat 8 (i + 1), 5]).entropyFatal
    else (s1.modSource i fun y => { y with st := .restarting, due := s.now + us 100, passed := 0 }).bump 0x1307 3

/-- A failed RESEED_WAIT ends with a reseed; the sources' blocks bring it. DRBG_RESEED: three outputs stand ready and
RngReseedMin has passed (R513). -/
def State.reseedNow (s : State) : State := s.tryReseed

/-- A read of the raw RO object (R517): 32 samples that nothing tests. -/
def State.rawRo (s : State) : Nat × State :=
  (leNat ((List.range 4).map fun i => Config.rawSample s.rng.rawCnt i), { s with rng.rawCnt := s.rng.rawCnt + 1 })

/-- The age of the seed in ms (R521). -/
def State.seedAge (s : State) : Nat :=
  if s.rng.st = .starting then 0 else min (2 ^ 32 - 1) ((s.now - s.rng.seedAt) / ms 1)

/-- The class of a waiting request (R514). -/
def genClass : GenUse → Nat
  | .mask _ => 1
  | .enrol _ _ => 2
  | .random (.engine _) => 4
  | .generate (.engine _) _ _ => 4
  | _ => 3

/-- The waiting request that is served first: the highest class, in order of arrival (R514). -/
def nextGen (w : List (GenUse × Nat)) : Option (GenUse × Nat) :=
  [1, 2, 3, 4].findSome? fun c => w.find? fun x => genClass x.1 = c

/-- The entropy unit at a reset: a FAILED source starts again (R507). -/
def State.rngReset (s : State) : State := { s with rng := .reset }

/-- The entropy unit at a wake (R512): the next seed may come from ML alone. -/
def State.rngWake (s : State) : State := { s with rng.st := if s.rng.st = RngSt.fatal then RngSt.fatal else RngSt.starting, rng.cold := false }.sourcesUp

end Sys2Proof.Machine
end

