-- ==== Sys2Proof/Machine/Learn.lean ====
section
/-! DEFINITION. The rest of the access state machines (03, 04): messages inside a token session, challenges and prompts, learning and
revocation, attestations, the revocation list and the validity clock. -/
namespace Sys2Proof.Machine

/-- The header of a Zarique message: its type, and its body where type, LEN and total length agree with R158 (R156). -/
def zqBody (typ len : Nat) (auth : Bool) (m : Bytes) : Option Bytes :=
  if byteAt 0 m = typ && byteAt 1 m = len && m.length = 2 + len + (if auth then 10 else 0) then some (slice 2 len m) else none

/-- Body bytes of a phone message type (R158), and whether the type is authenticated. -/
def zqPhone (typ : Nat) : Option (Nat × Bool) :=
  match typ with
  | 0x11 => some (17, false) | 0x12 => some (77, false) | 0x13 => some (40, false)
  | 0x14 => some (16, true) | 0x15 => some (15, true) | 0x16 => some (4, true) | 0x17 => some (0, true) | _ => none

/-- An authenticated phone message is accepted in the session of its carrier (R157): session number and body, MCTR kept; none where it
is to be dropped. -/
def State.zqIn (s : State) (car : Carrier) (typ : Nat) (m : Bytes) : Option (Nat × TokSession × Bytes × State) :=
  match zqPhone typ with
  | none => none
  | some (len, _) =>
    match zqBody typ len true m, s.sesOn car with
    | some b, some (i, x) =>
      let mctr := leAt (2 + len) 2 m
      if x.rx < mctr && slice (4 + len) 8 m = zqMac x.kmac 0 x.tsh mctr (m.take (2 + len)) then
        some (i, x, b, s.modSes i fun y => { y with rx := mctr })
      else none
    | _, _ => none

/-- A message that R157 or R158 drops. -/
def State.zqBad (s : State) (car : Carrier) (m : Bytes) : Bool :=
  match zqPhone (byteAt 0 m) with
  | none => true
  | some (len, auth) => if auth then (s.zqIn car (byteAt 0 m) m).isNone else (zqBody (byteAt 0 m) len false m).isNone

/-- *last* of a session's key. -/
def State.lastOfSes (s : State) (x : TokSession) : Nat := ((s.ctrOf x.key).map (·.last)).getD 0

/-! ### Challenges and prompts (R159, R160, R163, R166, R167) -/

/-- The BLE connection with a number. -/
def State.conn (s : State) (c : Nat) : Option BleConn := s.ble.conns.getD c none

/-- A BLE connection changed. -/
def State.modConn (s : State) (c : Nat) (f : BleConn → BleConn) : State :=
  { s with ble.conns := modAt s.ble.conns c fun o => o.map f }

/-- The CCCD of a handle on a connection. -/
def BleConn.cccdOf (x : BleConn) (h : Nat) : Nat := (alGet' x.cccd h).getD 0
where
  /-- The value listed for a handle. -/
  alGet' : List (Nat × Nat) → Nat → Option Nat
    | [], _ => none
    | (k, v) :: l, a => if k = a then some v else alGet' l a

/-- The waiting Zarique messages of a connection leave as notifications of the Access value, or are discarded and counted while the
phone has notification disabled (R367, R368). -/
def State.bleFlush (s : State) (c : Nat) : State :=
  let ms := (s.acc.tx.filter fun m => m.1 = Carrier.ble c).map (·.2)
  let s1 := { s with acc.tx := s.acc.tx.filter fun (m : Carrier × Bytes) => m.1 ≠ Carrier.ble c }
  match s1.conn c with
  | none => s1
  | some x =>
    if bit (x.cccdOf 0x0013) 0 then s1.modConn c fun y => { y with sent := y.sent ++ ms.map fun m => (0x0012, m) }
    else s1.bumpBy 0x3120 4 ms.length

/-- A nonce is drawn and leaves at once on a carrier (R29, R160). -/
def State.newNonce (s0 : State) (car : Carrier) (reason gate : Nat) : Bytes × State :=
  let s := s0.boundary .bNextNonce
  let r := s.draw 16
  (r.1, { r.2 with acc.nonces := r.2.acc.nonces ++ [⟨car, r.1, some s.now, s.now + ms (s.g 0x2206 0), reason, gate⟩] })

/-- The body of CHALLENGE (R159). -/
def State.challengeBody (s : State) (reason gate : Nat) (nonce : Bytes) : Bytes :=
  [0x01, BitVec.ofNat 8 reason, BitVec.ofNat 8 gate, BitVec.ofNat 8 s.acc.vclk.st] ++ toLe 6 s.acc.vclk.vc ++ s.fuse.serial ++ nonce

/-- The first CHALLENGE of a connection (R29, R166, R366). -/
def State.bleChallenge (s : State) (c : Nat) : State :=
  match s.conn c with
  | none => s
  | some x =>
    if s.deciding && s.drawOk && !x.chal && bit (x.cccdOf 0x0013) 0 && 83 ≤ x.mtu then
      let r := s.newNonce (.ble c) 1 0xFF
      ((r.2.modConn c fun y => { y with chal := true }).vsend (.ble c) (zqPlain 0x01 (r.2.challengeBody 1 0xFF r.1))).bleFlush c
    else s

/-- The PROMPTs asked for leave at a connection event, one for each trigger (R160, R167, R170, R171). -/
def State.blePrompt (s : State) (c : Nat) : State :=
  if s.deciding && s.drawOk then
    let ns := s.acc.nonces.filter fun n => n.car = Carrier.ble c && n.left.isNone
    ns.foldl (fun (s : State) n =>
      match s.sesOn (.ble c) with
      | none => s
      | some (i, x) =>
        let r := s.newNonce (.ble c) n.reason n.gate
        ((r.2.sesSendRaw i x.kmac 0x05 ([BitVec.ofNat 8 n.reason, BitVec.ofNat 8 n.gate] ++ r.1)).bleFlush c).mctrEnd x.tsh)
      { s with acc.nonces := s.acc.nonces.filter fun (m : Nonce) => m.car ≠ Carrier.ble c || m.left.isSome }
  else s

/-- RANGING_SETUP leaves at a connection event, and K_sts is loaded (R29, R163, R285, R484); without a free RANGING-page slot no
ranging session takes place. -/
def State.bleRanging (s : State) (c : Nat) : State :=
  match s.sesOn (.ble c) with
  | none => s
  | some (i, x) =>
    if !x.setup || !s.drawOk || s.gate.quench then s
    else
      let s1 := s.modSes i fun y => { y with setup := false }
      match s1.freeSlot 1 with
      | none => s1
      | some h =>
        let s2 := (s1.loadSlot h stsAttr x.ksts).modSes i fun y => { y with sts := some h }
        let r := s2.openUwb x.tsh h s.now
        ((r.2.sesSendRaw i x.kmac 0x04 r.1).bleFlush c).mctrEnd x.tsh

/-- Nonces past their life go (R160). -/
def State.nonceExpiry (s : State) : State :=
  { s with acc.nonces := s.acc.nonces.filter fun n => n.left.isNone || s.now ≤ n.due }

/-! ### Learning (R188 to R194) -/


/-- ENROL_CODE (R189): code and detail, and the state. -/
def State.enrolCode (s : State) (x : TokSession) (b : Bytes) : (Nat × Nat) × State :=
  let h := s.g 0x2207 0
  if s.inLock s.acc.code.lock then ((0x07, 0x32), s)
  else if h ≠ 0xFFFF && s.slotSt h = .erasing then ((0x03, 0xB2), s)
  else
    match s.slotKey h with
    | none => ((0x02, 0), s)
    | some k =>
      if s.slotKind h ≠ 7 then ((0x02, 0), s)
      else
        let p := aesDec x.kenc b
        if p.take 6 = k.take 6 && p.drop 6 = x.n10 then
          ({ s with acc.code := ⟨[], s.acc.code.lock⟩ }).learnOpen true x.tsh x.key
        else ((0x0F, 0x38), s.failCode)

/-- The pairs of CLASS, DELIVERY and PORT that R191 permits. -/
def deliveryOk (cls del port : Nat) : Bool :=
  (cls = 1 && (del = 2 || del = 3) && port = 0xFF) ||
  (cls = 2 && ((del = 1 && (port = 0x10 || port = 0x11)) || (del = 3 && port = 0xFF))) ||
  ((cls = 3 || cls = 4) && ((del = 1 && port ≤ 3) || (del = 3 && port = 0xFF)))

/-- The port of an AT_COIL transfer is present on the variant (R5). -/
def State.coilPresent (s : State) (port : Nat) : Bool :=
  if port = 0x10 then s.fuse.variant ≠ .gz4840 else if port = 0x11 then s.fuse.variant = .gz4880 else s.has 8

/-- The rights rule of R191. -/
def rightsOk (own cap rights : Nat) (code : Bool) : Bool :=
  rights &&& (own ^^^ 0xFFFFFFFF) = 0 && (!code || rights &&& (cap ^^^ 0xFFFFFFFF) = 0) &&
    (rights &&& 0x600 = 0 || (bit own 9 && !code))

/-- A TID that is not zero and not in the table (R192); after `n` draws that are, the lowest such value. -/
def State.drawTid (s : State) : Nat → Nat × State
  | 0 => ((((List.range 65).map (· + 1)).find? fun t => (s.tokFind t).isNone).getD 1, s)
  | n + 1 =>
    let r := s.draw 4
    let t := leNat r.1
    if t ≠ 0 && (r.2.tokFind t).isNone then (t, r.2) else r.2.drawTid n

/-- ATTR of a token key (R485, R486): kind TOKEN, owner 0, MIRROR, DERIVE and MAC. -/
def tokAttr : Nat := 0x0030020C

/-- The 24-octet block of R192. -/
def tokBlock (key : Bytes) (tid : Nat) : Bytes := key ++ toLe 4 tid ++ zeros 4

/-- ENROL_REQUEST (R190 to R192): code and detail, the KEY_DELIVERY body where it is TO_AUTHORISER, and the state. -/
def State.enrolRequest (s : State) (x : TokSession) (b : Bytes) : (Nat × Nat) × Option Bytes × State :=
  match s.acc.learn with
  | none => ((0x02, 0x35), none, s)
  | some l =>
    let cls := byteAt 0 b
    let rights := leAt 1 4 b
    let del := byteAt 13 b
    let port := byteAt 14 b
    if l.tsh ≠ x.tsh || l.due ≤ s.now then ((0x02, 0x35), none, s)
    else if (l.xfer.map fun t => decide (t.delivery ≠ 2)).getD false then ((0x03, 0x36), none, s)
    else if !deliveryOk cls del port || !rightsOk (s.keyRights l.key) (s.g 0x2208 0) rights l.code then ((0x04, 0), none, s)
    else if del = 1 && !s.coilPresent port then ((0x01, 0), none, s)
    else if s.acc.toks.all fun e => e.st ≠ 0 then ((0x03, 0x37), none, s)
    else if del = 1 && !((s.slotKey (s.g 0x220C 0)).isSome && s.slotKind (s.g 0x220C 0) = 6) then ((0x02, 0), none, s)
    else
      let s0 := s.xferDrop
      match s0.freeSlot 0 with
      | none => ((0x03, 0x37), none, s0)
      | some h =>
        let rk := s0.draw 16
        let rt := rk.2.drawTid 16
        let s1 := rt.2.loadSlot h tokAttr rk.1
        let s2 := if s1.mirrors h then s1.sendKey h none [] else s1
        let t : Transfer := ⟨cls, rights, leAt 5 2 b, leAt 7 6 b, del, port, h, rt.1, none, false, false⟩
        let s3 := { s2 with acc.learn := some { l with xfer := some { t with sent := del = 2 } } }
        if del = 1 then
          ((0, 0), none, if port ≤ 3 then { s3 with lf.q := s3.lf.q ++ [⟨port, 0xFF, .uid, none, [], 0⟩] } else s3)
        else if del = 2 then ((0, 0), some (kwWrap x.kenc (tokBlock rk.1 rt.1)), s3)
        else ((0, 0), none, s3)

/-- A TOKEN record (R677). -/
def State.logTok (s : State) (what tid tsh : Nat) : State := s.logEv 0x11 0 0 ([BitVec.ofNat 8 what] ++ toLe 4 tid ++ toLe 2 tsh)

/-- The entry of a transfer becomes ACTIVE in the lowest EMPTY place, and the window closes (R193, R194, R723); the key is the slot
`h`. -/
def State.xferActive (s : State) (l : Learn) (x : Transfer) (h : Nat) : State :=
  match s.acc.toks.findIdx? fun e => e.st = 0 with
  | none => s.learnClose
  | some n =>
    let s1 := (s.modTok n fun _ => ⟨1, x.cls, x.tid, h, x.rights, x.zones, x.notAfter, s.newCtr 0⟩).logTok 0 x.tid l.tsh
    { s1 with acc.learn := none }

/-- A transfer is confirmed: its entry becomes ACTIVE once the mirrored key write has completed (R193, R501). -/
def State.xferConfirm (s : State) : State :=
  match s.acc.learn with
  | none => s
  | some l =>
    match l.xfer with
    | none => s
    | some x =>
      if s.keys.waits.any fun w => w.slot = x.slot then { s with acc.learn := some { l with xfer := some { x with conf := true } } }
      else s.xferActive l x x.slot

/-- A transfer that was confirmed becomes ACTIVE when its key's mirroring has ended (R501, R502). -/
def State.learnSettle (s : State) : State :=
  match s.acc.learn.bind (·.xfer) with
  | some x => if x.conf then s.xferConfirm else s
  | none => s

/-- A transfer at a coil fails: AUTH_FAIL, TRANSFER_FAIL to the authoriser where its session stands; the window stays open (R193). -/
def State.xferFail (s : State) : State :=
  match s.acc.learn with
  | none => s
  | some l =>
    match l.xfer with
    | none => s
    | some _ =>
      let s1 := s.xferDrop
      match s1.sesOf l.tsh with
      | none => s1
      | some (_, x) => s1.sesResult l.tsh 0x0F 0x39 0x10 (s1.lastOfSes x)

/-- K_tp of a transponder, and the wrapped block for it (R192). -/
def State.coilBlock (s : State) (uid : Bytes) : Option Bytes :=
  match s.acc.learn.bind (·.xfer) with
  | none => none
  | some x =>
    match s.slotKey (s.g 0x220C 0), s.slotKey x.slot with
    | some m, some k => some (kwWrap (kdf m (ascii "GZ-TRANSPORT") uid 16) (tokBlock k x.tid))
    | _, _ => none

/-- The confirmation of a transfer at a coil (R192). -/
def State.coilCheck (s : State) (uid check : Bytes) : Bool :=
  match s.acc.learn.bind (·.xfer) with
  | none => false
  | some x => ((s.slotKey x.slot).map fun k => decide (cmac64 k ([0x7C] ++ toLe 4 x.tid ++ uid) = check)).getD false

/-- AccEnrolImport (R192, R193): code, detail, TID and state. -/
def State.enrolImport (s : State) (h : Nat) : (Nat × Nat × Bytes) × State :=
  match s.acc.learn with
  | none => ((0x02, 0x35, []), s)
  | some l =>
    match l.xfer with
    | none => ((0x02, 0x35, []), s)
    | some x =>
      if x.delivery ≠ 3 then ((0x02, 0x35, []), s)
      else if s.slotSt h = .empty then ((0x04, 0xC0, []), s)
      else if s.slotOwner h ≠ 0 then ((0x02, 0xB0, []), s)
      else if s.slotKind h ≠ 3 || s.slotLen h ≠ 0 || s.slotSt h ≠ .loaded then ((0x04, 0xB3, []), s)
      else ((0, 0, toLe 4 x.tid), (s.eraseMirrored x.slot).xferActive l x h)

/-- The window closes 120 s after it opened (R194). -/
def State.learnExpiry (s : State) : State :=
  match s.acc.learn with
  | none => s
  | some l => if l.due ≤ s.now then s.learnClose else s

/-! ### Revocation (R195 to R197) -/

/-- A token entry becomes EMPTY and its key slot is erased; its sessions end (R195, R197). -/
def State.revokeTok (s : State) (n tsh : Nat) : State :=
  let e := s.tokAt n
  let s1 := s.keyGone (.tok n) 0x13 0
  ((s1.modTok n fun _ => .reset).eraseMirrored e.handle).logTok 1 e.tid tsh

/-- REVOKE_REQUEST (R172, R195): its RESULT goes before a session that revoked itself ends. -/
def State.revokeRequest (s : State) (i : Nat) (x : TokSession) (b : Bytes) : State :=
  let tid := leNat b
  let open_ := (x.revoke.map fun d => decide (s.now ≤ d)).getD false
  let s1 := s.modSes i fun y => { y with revoke := none }
  if !open_ then s1.sesResult x.tsh 0x02 0 0x11 (s.lastOfSes x)
  else
    match s1.tokFind tid with
    | none => s1.sesResult x.tsh 0x04 0 0x11 (s.lastOfSes x)
    | some n => (s1.sesResult x.tsh 0 0 0x11 (s.lastOfSes x)).revokeTok n x.tsh

/-- CredRevoke (R131 to R133): code, detail and state. -/
def State.credRevoke (s : State) (arg : Bytes) : (Nat × Nat) × State :=
  let id := leAt 0 8 arg
  let a := byteAt 8 arg
  let na := leAt 9 6 arg
  if 7 < a || byteAt 15 arg ≠ 0 then ((0x04, 0), s)
  else if s.onRevList id a then ((0, 0), s)
  else
    let l := if 512 ≤ s.acc.revoked.length then s.acc.revoked.filter fun r => s.acc.vclk.vc ≤ r.2.2 else s.acc.revoked
    let s1 := { s with acc.revoked := l }
    if 512 ≤ l.length then ((0x03, 0x2A), s1)
    else
      let s2 := ({ s1 with acc.revoked := l ++ [(id, a, na)] }).mirror 3 l.length arg
      let s3 := match s2.acc.cache.find? fun p => p.2.id = id && p.2.auth = a with
        | none => s2
        | some p => s2.keyGone (.cred p.1) 0x13 0
      ((0, 0), s3.freeRevoked)

/-! ### Messages of a token session -/

/-- ENROL_REQUEST is served: its RESULT, and KEY_DELIVERY where it is TO_AUTHORISER (R190 to R192). -/
def State.enrolServe (s : State) (x : TokSession) (b : Bytes) : State :=
  let r := s.enrolRequest x b
  let s3 := r.2.2.sesResult x.tsh r.1.1 r.1.2 0x10 (s.lastOfSes x)
  match r.2.1 with | none => s3 | some d => s3.sesSend x.tsh 0x06 d

/-- A message of an authenticated type is served, or dropped where R157 says so. ENROL_CODE counts in a BLE token session alone (R188):
in another it is refused with DENIED and nothing is counted (DEDUCED, log 62). An ENROL_REQUEST that finds the DRBG serving nothing
waits (R513). -/
def State.zqServe (s : State) (car : Carrier) (typ : Nat) (m : Bytes) : State :=
  match s.zqIn car typ m with
  | none => s.zqDrop
  | some (i, x, b, s1) =>
    let s2 := match typ with
      | 0x14 =>
        let r := match car with | .ble _ => s1.enrolCode x b | _ => ((0x02, 0), s1)
        r.2.sesResult x.tsh r.1.1 r.1.2 0x10 (s1.lastOfSes x)
      | 0x15 =>
        if (s1.enrolRequest x b).1.1 = 0 && !s1.drawOk then { s1 with rng.waiting := s1.rng.waiting ++ [(GenUse.enrol x.tsh b, 0)] }
        else s1.enrolServe x b
      | 0x16 => s1.revokeRequest i x b
      | _ => s1.endSession x.tsh (some (0, 0))
    s2.mctrEnd x.tsh

/-- The phone's link layer acknowledged KEY_DELIVERY (R193). -/
def State.keyDelivered (s : State) (car : Carrier) : State :=
  match s.acc.learn, s.sesOn car with
  | some l, some (_, x) => if l.tsh = x.tsh && (l.xfer.map (·.sent)).getD false then s.xferConfirm else s
  | _, _ => s

/-! ### Attestations and the validity clock (R122 to R129) -/

/-- R129: code, detail and state. -/
def State.attest (s : State) (b : Bytes) : (Nat × Nat) × State :=
  let a := byteAt 1 b
  let tm := leAt 4 6 b
  if !(b.length = 40 && byteAt 0 b = 2 && leAt 2 2 b < 2 && slice 10 6 b = zeros 6) then ((0x0F, 0x20), s)
  else if (s.authCheck a 1).1 ≠ 0 then (s.authCheck a 1, s)
  else if cmac (kdf (s.fak a) (ascii "GZTIME-ATT") [BitVec.ofNat 8 a] 16) (b.take 24) ≠ b.drop 24 then
    ((0x0F, 0x22), s.cxUse 1 (cmacOps 16 + cmacOps 24))
  else if !s.targetOk (bit (leAt 2 2 b) 0) (slice 16 8 b) then ((0x0F, 0x23), s)
  else if tm ≤ s.acc.vclk.vc then ((0, 0x2E), s)
  else
    let s1 := { s with acc.vclk.vc := tm, acc.vclk.st := if s.acc.vclk.st = 0 then 1 else s.acc.vclk.st }
    ((0, 0), s1.putFloor.authUse a)

/-- ATTEST on a carrier, after a CHALLENGE (R164). -/
def State.attestMsg (s : State) (car : Carrier) (b : Bytes) : State :=
  let asked := match car with
    | .ble c => ((s.conn c).map (·.chal)).getD false
    | .nfc p => ((s.nfc.ports[p]?).bind (·.act)).isSome
    | .lf _ => false
  if s.deciding && asked then let r := s.attest b; r.2.resultPlain car r.1.1 r.1.2 else s

/-- Entries past their NOT_AFTER go, and expired keys end their sessions (R132, R135, R197). -/
def State.expirySweep (s : State) : State :=
  let vc := s.acc.vclk.vc
  let s1 := { s with acc.revoked := s.acc.revoked.filter fun r => vc ≤ r.2.2 }
  let gone := (s1.acc.cache.filter fun p => p.2.notAfter < vc).map fun p => KeyRef.cred p.1
  let toks := (s1.acc.toks.zipIdx.filter fun p => p.1.st ≠ 0 && p.1.notAfter ≠ 0 && p.1.notAfter < vc).map fun p => KeyRef.tok p.2
  let s2 := (toks ++ gone).foldl (fun s k => s.keyGone k 0x12 0) s1
  { s2 with acc.cache := s2.acc.cache.filter fun p => vc ≤ p.2.notAfter || s2.inFlight (.cred p.1) }

/-- VC takes LOCKED domain seconds `d` (R124): within the jump limit it does and tracks; beyond it the excess is held. -/
def State.vcDomain (s : State) (d : Option Nat) : State :=
  match d with
  | none => { s with acc.vclk.held := 0 }
  | some d =>
    let v := s.acc.vclk
    let lim := if v.st = 2 then s.g 0x2124 0 else s.g 0x2125 0
    if v.vc + lim < d then { s with acc.vclk.held := d - v.vc }
    else if d < v.vc then { s with acc.vclk.held := 0 }
    else
      let s1 := { s with acc.vclk.vc := d, acc.vclk.st := 2, acc.vclk.held := 0, acc.vclk.taken := true }
      if v.taken then s1 else s1.putFloor

/-- An AON second elapses (R122, R197); `d` are the domain-time seconds while domain time is LOCKED. -/
def State.vcSecond (s : State) (d : Option Nat) : State :=
  if s.now < s.acc.vclk.secAt + secs 1 then s
  else
    (({ s with acc.vclk.vc := min (s.acc.vclk.vc + 1) (2 ^ 48 - 1), acc.vclk.secAt := s.acc.vclk.secAt + secs 1 }).vcDomain d).expirySweep

/-- CredFloorPeriod has passed since the last FLOOR record (R125). -/
def State.floorPeriod (s : State) : State :=
  if s.acc.vclk.floorAt + secs (s.g 0x2123 0) ≤ s.now then s.putFloor else s

/-- CredClockConfirm (R124): code, detail and state. -/
def State.clockConfirm (s : State) (ceiling : Nat) (d : Option Nat) : (Nat × Nat) × State :=
  match d with
  | none => ((0x04, 0x2F), s)
  | some d =>
    if s.acc.vclk.held = 0 || ceiling < s.acc.vclk.held then ((0x04, 0x2F), s)
    else ((0, 0), { s with acc.vclk.vc := max s.acc.vclk.vc d, acc.vclk.st := 2, acc.vclk.held := 0, acc.vclk.taken := true }.putFloor.expirySweep)

/-- VC at power-up after loss of VAON (R126). -/
def State.vcPowerUp (s : State) : State :=
  { s with acc.vclk.vc := s.acc.jr.scanFloor.getD s.acc.vclk.floor, acc.vclk.st := 0, acc.vclk.held := 0, acc.vclk.secAt := s.now, acc.vclk.floorAt := s.now }

end Sys2Proof.Machine
end

