-- ==== Sys2Proof/Machine/Keys.lean ====
section
/-! DEFINITION. The key store's commands: import, generation, derivation, export, erase and zeroize (R485 to R503), mirroring to the
standby, and the waiting requests of the DRBG that end here (R514). -/
namespace Sys2Proof.Machine

/-! ### Attributes (R485, R486) -/

/-- A kind permits an owner, a length code, use bits and EXPORT (R486); `hw` are the kinds no import makes. -/
def kindOk (kind owner len uses : Nat) (export_ : Bool) : Bool :=
  let sub := fun (m : Nat) => uses &&& (m ^^^ 0x1F) = 0
  if kind = 1 then len ≤ 2 && sub 0x0F
  else if kind = 2 then (owner = 4 || (5 ≤ owner && owner ≤ 12)) && (len = 0 || len = 2) && sub 0x10
  else if kind = 3 then owner = 0 && len = 0 && sub 0x0C && !export_
  else if kind = 4 then owner = 0 && len = 2 && sub 0x08 && !export_
  else if kind = 5 then owner = 13 && len = 0 && sub 0x08 && !export_
  else if kind = 6 then owner = 0 && (len = 0 || len = 2) && sub 0x08 && !export_
  else if kind = 7 then owner = 0 && len = 0 && sub 0 && !export_
  else if kind = 8 then (owner = 0 || owner = 3) && len = 0 && sub 0x14 && !export_
  else false

/-- An ATTR suits a slot (R486, R489): reserved bits 0, the kind's rules, OWNER the slot's, and KIND unchanged at a rewrite. On the
ACCESS page of a WORKER, which holds link keys only (R30), another kind does not suit (DESIGN CHOICE of the code, log entry 51). -/
def State.attrOk (s : State) (h attr : Nat) : Bool :=
  bits attr 24 8 = 0 && bits attr 11 3 = 0 && bits attr 5 3 = 0 && bits attr 16 4 = s.slotOwner h &&
    (s.seg.role ≠ .worker || bits attr 16 4 ≠ 0 || bits attr 20 4 = 8) &&
    kindOk (bits attr 20 4) (bits attr 16 4) (bits attr 14 2) (attr % 32) (bit attr 8) &&
    (s.slotSt h = .empty || s.slotKind h = bits attr 20 4)

/-- An ENROL_CODE body: six BCD octets and ten zeros (R487). -/
def enrolBodyOk (key : Bytes) : Bool :=
  ((key.take 6).all fun b => b.toNat / 16 ≤ 9 && b.toNat % 16 ≤ 9) && key.drop 6 = zeros 10

/-! ### Blobs (R495, R496) -/

/-- The page whose KEKs a requester uses (R496 step 3). -/
def kekPage : Requester → Nat
  | .engine n => 5 + n
  | _ => 4

/-- A HANDLE that names a slot. -/
def isSlot (h : Nat) : Bool := h < 128

/-- Step 1 of R496 over a blob meant for `target`. -/
def blobForm (b : Bytes) (target : Nat) : Option (Nat × Nat) :=
  if byteAt 0 b ≠ 1 || 2 < byteAt 1 b then some (Rc.range, 0)
  else if b.length ≠ 24 + lenBytes (byteAt 1 b) then some (Rc.type, Dt.length)
  else if leAt 6 2 b ≠ 0 || leAt 4 2 b ≠ target then some (Rc.range, 0)
  else none

/-- Step 3 of R496: the KEK. -/
def State.kekCheck (s : State) (page k : Nat) : Option (Nat × Nat) :=
  if s.slotSt k ≠ .loaded then some (Rc.range, Dt.slotEmpty)
  else if s.slotOwner k ≠ page then some (Rc.denied, Dt.keyNotOwned)
  else if !s.slotUse k 4 then some (Rc.range, Dt.keyKind)
  else none

/-- Step 2 of R496: the target. -/
def State.targetCheck (s : State) (who : Requester) (h : Nat) : Option (Nat × Nat) :=
  if h = 0 then some (Rc.denied, Dt.keyFixed)
  else if s.slotSt h = .erasing then some (Rc.busy, Dt.keyErasing)
  else
    match who with
    | .engine n => if s.slotOwner h ≠ 5 + n then some (Rc.denied, Dt.keyNotOwned) else none
    | _ => none

/-- A STANDBY refuses what is aimed at a slot whose MIRROR is in force (R503). -/
def State.mirrorOnly (s : State) (h : Nat) : Bool := s.seg.role = .standby && s.slotMirror h

/-- The KEY record of a command (R677). -/
def State.logKey (s : State) (h cmd : Nat) : State :=
  s.logEv 0x10 0 0 (toLe 2 h ++ toLe 2 cmd ++ toLe 2 (((s.keys.slots[h]?).map KeySlot.ver).getD 0))

/-- A change of a slot is done: the answer, or none while it waits for the standby (R501). -/
def State.keyDone (s : State) (who : Requester) (h cmd : Nat) (res : Bytes) : Option Resp × State :=
  let s1 := s.logKey h cmd
  if s1.mirrors h then (none, s1.sendKey h (some who) res) else (some ⟨Rc.ok, 0, res⟩, s1)

/-- The version of a slot. -/
def State.slotVer (s : State) (h : Nat) : Nat := ((s.keys.slots[h]?).map KeySlot.ver).getD 0

/-- A refusal. -/
def refuse (r : Nat × Nat) : Option Resp := some ⟨r.1, r.2, []⟩

/-- KeyImport (R496). -/
def State.keyImport (s : State) (who : Requester) (arg : Bytes) : Option Resp × State :=
  let h := leAt 0 2 arg
  let b := arg.drop 2
  if !isSlot h then (refuse (Rc.range, 0), s)
  else if s.mirrorOnly h then (refuse (Rc.denied, Dt.mirrorOnly), s)
  else
    match blobForm b h with
    | some r => (refuse r, s)
    | none =>
      match s.targetCheck who h with
      | some r => (refuse r, s)
      | none =>
        let kek := leAt 2 2 b
        match s.kekCheck (kekPage who) kek with
        | some r => (refuse r, s)
        | none =>
          match kwUnwrap ((s.slotKey kek).getD []) (b.drop 8) with
          | none => (refuse (Rc.tagFail, 0), s.bump 0x1530 2)
          | some p =>
            let attr := leAt 0 4 p
            let key := p.drop 8
            if leAt 4 2 p ≠ h || leAt 6 2 p ≠ 0 || bits attr 14 2 ≠ byteAt 1 b || !s.attrOk h attr ||
                (bits attr 20 4 = 7 && !enrolBodyOk key) then (refuse (Rc.range, Dt.keyKind), s)
            else if s.seg.role = .standby && alwaysMirror (bits attr 20 4) then (refuse (Rc.denied, Dt.mirrorOnly), s)
            else
              let s1 := (s.loadSlot h attr key).bump 0x1530 1
              s1.keyDone who h 0x1520 (toLe 2 (s1.slotVer h))

/-- Key octets of an ATTR. -/
def attrBytes (attr : Nat) : Nat := lenBytes (bits attr 14 2)

/-- A slot is filled from the DRBG (R497). -/
def State.keyFill (s : State) (who : Requester) (h attr : Nat) : Option Resp × State :=
  let r := s.draw (attrBytes attr)
  let s1 := r.2.loadSlot h attr r.1
  s1.keyDone who h 0x1521 (toLe 2 (s1.slotVer h))

/-- The checks of R497. -/
def State.genCheck (s : State) (who : Requester) (h attr : Nat) : Option (Nat × Nat) :=
  if !isSlot h then some (Rc.range, 0)
  else if s.mirrorOnly h then some (Rc.denied, Dt.mirrorOnly)
  else
    match s.targetCheck who h with
    | some r => some r
    | none =>
      if !(bits attr 20 4 = 1 || bits attr 20 4 = 2) || !s.attrOk h attr then some (Rc.range, Dt.keyKind) else none

/-- KeyGenerate (R497, R513, R515): it waits while the DRBG has reached its reseed limit. -/
def State.keyGenerate (s : State) (who : Requester) (arg : Bytes) : Option Resp × State :=
  let h := leAt 0 2 arg
  let attr := leAt 2 4 arg
  if arg.length ≠ 6 then (refuse (Rc.type, Dt.length), s)
  else
    match s.genCheck who h attr with
    | some r => (refuse r, s)
    | none =>
      if s.rng.st = .starting then (refuse (Rc.notReady, 0), s)
      else if s.drawOk then s.keyFill who h attr
      else (none, { s with rng.waiting := s.rng.waiting ++ [(GenUse.generate who h attr, 0)] })

/-- An engine's request for a slot that its own page does not own (R490, R499). -/
def State.notOwnPage (s : State) (who : Requester) (h : Nat) : Bool :=
  match who with
  | .engine n => decide (s.slotOwner h ≠ 5 + n)
  | _ => false

/-- The class whose blocks a requester's key command counts: an engine's or the host's (R479). -/
def keyClass : Requester → Nat
  | .engine _ => 4
  | _ => 3

/-- KeyDerive (R498). -/
def State.keyDerive (s : State) (who : Requester) (arg : Bytes) : Option Resp × State :=
  let src := leAt 0 2 arg
  let h := leAt 2 2 arg
  let attr := leAt 4 4 arg
  let ll := byteAt 8 arg
  let cl := byteAt (9 + ll) arg
  if arg.length < 10 || arg.length ≠ 10 + ll + cl then (refuse (Rc.type, Dt.length), s)
  else if ll = 0 || 32 < ll || 64 < cl || !isSlot src || !isSlot h then (refuse (Rc.range, 0), s)
  else if s.mirrorOnly h then (refuse (Rc.denied, Dt.mirrorOnly), s)
  else if s.slotSt src = .empty then (refuse (Rc.range, Dt.slotEmpty), s)
  else if s.slotSt src = .erasing then (refuse (Rc.busy, Dt.keyErasing), s)
  else if s.notOwnPage who src || s.slotOwner src ≠ s.slotOwner h then
    (refuse (Rc.denied, Dt.keyNotOwned), s)
  else if !s.slotUse src 3 || s.slotKind src = 9 then (refuse (Rc.range, Dt.keyKind), s)
  else
    match s.targetCheck who h with
    | some r => (refuse r, s)
    | none =>
      if !(bits attr 20 4 = 1 || bits attr 20 4 = 2) || !s.attrOk h attr then (refuse (Rc.range, Dt.keyKind), s)
      else
        let n := attrBytes attr
        let k := kdf ((s.slotKey src).getD []) (slice 9 ll arg) (slice (10 + ll) cl arg) n
        let s1 := (s.loadSlot h attr k).cxUse (keyClass who) ((n + 15) / 16 * 2)
        s1.keyDone who h 0x1522 (toLe 2 (s1.slotVer h))

/-- KeyExport (R499). -/
def State.keyExport (s : State) (who : Requester) (arg : Bytes) : Option Resp × State :=
  let src := leAt 0 2 arg
  let kek := leAt 2 2 arg
  if arg.length ≠ 4 then (refuse (Rc.type, Dt.length), s)
  else if !isSlot src || !isSlot kek then (refuse (Rc.range, 0), s)
  else if s.slotSt src = .empty then (refuse (Rc.range, Dt.slotEmpty), s)
  else if s.slotSt src = .erasing then (refuse (Rc.busy, Dt.keyErasing), s)
  else if s.notOwnPage who src then (refuse (Rc.denied, Dt.keyNotOwned), s)
  else if !s.slotUse src 8 then (refuse (Rc.denied, Dt.notExportable), s)
  else
    match s.kekCheck (kekPage who) kek with
    | some r => (refuse r, s)
    | none => (some ⟨Rc.ok, 0, s.keyBlob src kek ((s.slotKey kek).getD [])⟩, s.logKey src 0x1523)

/-- KeyErase (R490). -/
def State.keyErase (s : State) (who : Requester) (arg : Bytes) : Option Resp × State :=
  let h := leAt 0 2 arg
  if arg.length ≠ 2 then (refuse (Rc.type, Dt.length), s)
  else if !isSlot h then (refuse (Rc.range, 0), s)
  else if h = 0 then (refuse (Rc.denied, Dt.keyFixed), s)
  else if s.notOwnPage who h then (refuse (Rc.denied, Dt.keyNotOwned), s)
  else if s.mirrorOnly h then (refuse (Rc.denied, Dt.mirrorOnly), s)
  else if s.slotSt h = .empty then (some ⟨Rc.ok, 0, []⟩, s)
  else if s.slotKind h = 3 then (refuse (Rc.denied, Dt.keyFixed), s)
  else
    let m := s.mirrors h
    let s1 := (s.logKey h 0x1524).bump 0x1530 3
    let s2 := s1.eraseSlot h
    if m then (none, s2.sendKey h (some who) []) else (some ⟨Rc.ok, 0, []⟩, s2)

/-- The requesters whose commands on a slot have not completed when it is zeroized: those that wait for the standby, those that wait
for the DRBG, and those that wait their turn (R500). -/
def State.keyWaiters (s : State) (h : Nat) : List Requester :=
  (s.keys.waits.filter fun w => w.slot = h).filterMap (·.who) ++
  s.rng.waiting.filterMap (fun w => match w.1 with | .generate who x _ => if x = h then some who else none | _ => none) ++
  (s.keys.defer.filter fun d => d.1 = h).map (·.2.1)

/-- Urgent zeroize of one slot (R491, R500, R502): its requests abort, it is EMPTY at once, the sequencer overwrites its bodies, and
every command on it that has not completed ends with KEY_ZEROIZED (DEDUCED for one that waits for the standby, log entry 70). -/
def State.zeroizeSlot (s : State) (h cmd : Nat) : State :=
  let tw := s.mirrors h
  let s1 := (((s.cxZeroize h).logKey h cmd).bump 0x1530 4).clearSlot h
  let s2 := (s1.keyWaiters h).foldl (fun s r => s.answer r 0x1520 ⟨Rc.keyZeroized, 0, []⟩)
    { s1 with keys.waits := s1.keys.waits.filter (fun (w : MirrorWait) => w.slot ≠ h),
              keys.defer := s1.keys.defer.filter (fun (d : Nat × Requester × Nat × Bytes) => d.1 ≠ h),
              rng.waiting := s1.rng.waiting.filter (fun (w : GenUse × Nat) => match w.1 with | .generate _ x _ => x ≠ h | _ => true),
              keys.zeroing := if s1.keys.zeroing.contains h then s1.keys.zeroing else s1.keys.zeroing ++ [h],
              keys.zeroTwin := if tw && !s1.keys.zeroTwin.contains h then s1.keys.zeroTwin ++ [h] else s1.keys.zeroTwin }
  if tw then s2.twinSend subKeyMirror (s2.zeroMirrorBody h) else s2

/-- KeyZeroize (R491). -/
def State.keyZeroize (s : State) (who : Requester) (arg : Bytes) : Option Resp × State :=
  let h := leAt 0 2 arg
  if arg.length ≠ 2 then (refuse (Rc.type, Dt.length), s)
  else if !isSlot h then (refuse (Rc.range, 0), s)
  else if h = 0 then (refuse (Rc.denied, Dt.keyFixed), s)
  else if s.notOwnPage who h then (refuse (Rc.denied, Dt.keyNotOwned), s)
  else if s.mirrorOnly h then (refuse (Rc.denied, Dt.mirrorOnly), s)
  else (some ⟨Rc.ok, 0, []⟩, s.zeroizeSlot h 0x1525)

/-- Every token session ends with KEY_ZEROIZED (R493). -/
def State.zeroSessions (s : State) : State :=
  s.acc.ses.foldl (fun s o => match o with | none => s | some x => s.endSession x.tsh (some (Rc.keyZeroized, 0))) s

/-- Slots 1 to 127 are zeroized; an EMPTY slot is overwritten too (R491). -/
def State.zeroizeSlots (s : State) : State :=
  ((List.range 127).map (· + 1)).foldl (fun s h =>
    if s.slotSt h = .empty then { s with keys.zeroing := if s.keys.zeroing.contains h then s.keys.zeroing else s.keys.zeroing ++ [h] }
    else s.zeroizeSlot h 0x1526) s

/-- KeyZeroizeAll (R491, R493): slots 1 to 127, the token table but for its counters, the authorities, the tag keys, and every session. It is answered when the
sequencer has overwritten every slot. -/
def State.keyZeroizeAll (s : State) (who : Requester) (arg : Bytes) : Option Resp × State :=
  if arg.length ≠ 2 then (refuse (Rc.type, Dt.length), s)
  else if leAt 0 2 arg ≠ 0x5A5A then (refuse (Rc.range, 0), s)
  else
    let s2 := (s.zeroSessions.endAll.netDropAll).zeroizeSlots
    let s3 := { s2 with acc.toks := s2.acc.toks.map fun (e : TokEntry) => { TokEntry.reset with ctr := e.ctr }, tag.keys := [none, none, none, none], keys.zeroAll := some who }
    (none, (List.range 8).foldl (fun s a => s.put (0x2110 + a) 1 0) s3)

/-- The zeroize sequencer has overwritten a slot's bodies (R491). -/
def State.zeroDone (s : State) (h : Nat) : State :=
  let z := s.keys.zeroing.filter fun x => x ≠ h
  let s1 := { s with keys.zeroing := z }.bodyWritten h
  match s.keys.zeroAll with
  | some who => if z.isEmpty then ({ s1 with keys.zeroAll := none }).answer who 0x1526 ⟨Rc.ok, 0, []⟩ else s1
  | none => s1

/-! ### One command at a time on a slot (R500) -/

/-- The slot a key command acts on. -/
def keyTarget (idx : Nat) (arg : Bytes) : Nat := if idx = 0x1522 then leAt 2 2 arg else leAt 0 2 arg

/-- A key command runs. -/
def State.keyRun (s : State) (who : Requester) (idx : Nat) (arg : Bytes) : Option Resp × State :=
  if idx = 0x1520 then s.keyImport who arg
  else if idx = 0x1521 then s.keyGenerate who arg
  else if idx = 0x1522 then s.keyDerive who arg
  else if idx = 0x1523 then s.keyExport who arg
  else if idx = 0x1524 then s.keyErase who arg
  else if idx = 0x1525 then s.keyZeroize who arg
  else s.keyZeroizeAll who arg

/-- A key command runs, or waits for the command in progress on its slot (R500); a zeroize never waits (R491). -/
def State.keyCmd (s : State) (who : Requester) (idx : Nat) (arg : Bytes) : Option Resp × State :=
  let h := keyTarget idx arg
  let busy := s.keys.waits.any (fun w => w.slot = h) || s.rng.waiting.any fun w =>
    match w.1 with | .generate _ x _ => x = h | _ => false
  if busy && idx ≤ 0x1524 then (none, { s with keys.defer := s.keys.defer ++ [(h, who, idx, arg)] })
  else s.keyRun who idx arg

/-- The commands deferred on a slot run in order until one waits again. -/
def State.keyResume (s : State) (h : Nat) : State :=
  (s.keys.defer.filter fun d => d.1 = h).foldl (fun s d =>
    if s.keys.waits.any (fun w => w.slot = h) then s
    else
      let s1 := { s with keys.defer := s.keys.defer.erase d }
      let r := s1.keyRun d.2.1 d.2.2.1 d.2.2.2
      match r.1 with
      | some a => r.2.answer d.2.1 0x1520 a
      | none => r.2) s

/-! ### Mirroring (R501 to R503) -/

/-- A change of a slot that waited for the standby completes (R501, R502). -/
def State.mirrorEnd (s : State) (w : MirrorWait) (acked : Bool) : State :=
  let s1 := { s with keys.waits := s.keys.waits.filter (fun (x : MirrorWait) => x.slot ≠ w.slot) }.modSlot w.slot fun k =>
    { k with mirror := if acked && k.st ≠ SlotState.empty then 1 else if k.st = SlotState.empty then 0 else 2 }
  let s2 := match w.who with
    | some r => s1.answer r 0x1520 ⟨Rc.ok, if acked then 0 else Dt.mirrorPending, w.res⟩
    | none => s1
  (s2.learnSettle).keyResume w.slot

/-- The standby acknowledges a slot and its version (R501). -/
def State.mirrorAck (s : State) (b : Bytes) : State :=
  let h := leAt 0 2 b
  let s0 := { s with keys.zeroTwin := s.keys.zeroTwin.filter fun x => x ≠ h || leAt 2 2 b ≠ 0 }
  match s0.keys.waits.find? fun w => w.slot = h with
  | some w => if s0.slotVer h = leAt 2 2 b then s0.mirrorEnd w true else s0
  | none => if s0.slotVer h = leAt 2 2 b && s0.slotSt h = .loaded then s0.modSlot h fun k => { k with mirror := 1 } else s0

/-- No acknowledgement within 5 ms (R502). -/
def State.mirrorTimeout (s : State) : State :=
  (s.keys.waits.filter fun w => w.due ≤ s.now).foldl (fun s w => s.mirrorEnd w false) s

/-- KEY_MIRROR at the standby (R501, R622): the slot takes the same owner, ATTR and version, and the change is acknowledged. -/
def State.mirrorKey (s : State) (b : Bytes) : State :=
  let h := leAt 0 2 b
  match s.ktw with
  | none => s
  | some tw =>
    let own := byteAt 4 b
    let s0 := if h = 0 || 128 ≤ h then s else s.put 0x1502 (h + 1) own
    let s1 :=
      if h = 0 || 128 ≤ h then s
      else if byteAt 5 b = 2 then s0.zeroizeSlot h 0x1525
      else if byteAt 5 b = 0 then s0.eraseSlot h
      else
        match kwUnwrap tw (b.drop 14) with
        | none => s
        | some p =>
          if leAt 4 2 p ≠ h then s
          else s0.modSlot h fun k => { k with st := .loaded, attr := leAt 0 4 p, ver := leAt 2 2 b, key := p.drop 8, mirror := 1 }
    s1.twinSend subKeyMirror (b.take 4)

/-! ### Waiting requests of the DRBG (R514) -/

/-- One waiting generate request is served (R514). -/
def State.serveGen (s : State) : State :=
  match nextGen s.rng.waiting, s.drawOk with
  | some w, true =>
    let s1 := { s with rng.waiting := s.rng.waiting.erase w }
    match w.1 with
    | .mask c =>
      let r := s1.draw 32
      ({ r.2 with cx.cores := modAt r.2.cx.cores c fun k => { k with seed := r.1, blocks := 0 } }.bump 0x1420 5).cxRun
    | .enrol tsh b => match s1.sesOf tsh with | some (_, x) => s1.enrolServe x b | none => s1
    | .random who =>
      let r := s1.draw 32
      r.2.answer who 0x1320 ⟨Rc.ok, 0, r.1⟩
    | .generate who h attr =>
      let r := match s1.genCheck who h attr with
        | some e => (refuse e, s1)
        | none => s1.keyFill who h attr
      (match r.1 with | some a => r.2.answer who 0x1520 a | none => r.2).keyResume h
  | _, _ => s

/-- RngRandom (R513, R515, R516): 32 octets, or none while the request waits. -/
def State.rngRandom (s : State) (who : Requester) : Option Resp × State :=
  if s.rng.st = .starting then (refuse (Rc.notReady, 0), s)
  else if s.drawOk then let r := s.draw 32; (some ⟨Rc.ok, 0, r.1⟩, r.2)
  else (none, { s with rng.waiting := s.rng.waiting ++ [(GenUse.random who, 0)] })

/-! ### Tag keys (R442, R496) -/

/-- A write of TagKey (R496 steps 1, 3 and 4; R438 its durability): a TAG blob wrapped under a KEK of page 4. -/
def State.tagKeyWrite (s : State) (k : Nat) (b : Bytes) : Resp × State :=
  match blobForm b 0xFFFF with
  | some r => (⟨r.1, r.2, []⟩, s)
  | none =>
    match s.kekCheck 4 (leAt 2 2 b) with
    | some r => (⟨r.1, r.2, []⟩, s)
    | none =>
      match kwUnwrap ((s.slotKey (leAt 2 2 b)).getD []) (b.drop 8) with
      | none => (⟨Rc.tagFail, 0, []⟩, s)
      | some p =>
        if leAt 4 2 p ≠ 0xFFFF || bits (leAt 0 4 p) 20 4 ≠ 0xA || bits (leAt 0 4 p) 14 2 ≠ 0 then (⟨Rc.range, Dt.keyKind, []⟩, s)
        else (⟨Rc.ok, 0, []⟩, { s with tag.keys := putAt s.tag.keys k (some (p.drop 8)) })

/-- KeyKcv (R520): the first 3 octets of AES-ECB of the zero block; zeros for ENROL_CODE and EMPTY. -/
def State.keyKcv (s : State) (h : Nat) : Bytes :=
  if s.slotSt h = .empty || s.slotKind h = 7 then [0, 0, 0]
  else (aesEnc (((s.keys.slots[h]?).map KeySlot.key).getD []) (zeros 16)).take 3

/-- KeyUsers (R490, R520). -/
def State.keyUsers (s : State) (h : Nat) : Nat := (s.slotUsers h).length

/-- Slots not EMPTY (R520). -/
def State.slotsUsed (s : State) : Nat := (s.keys.slots.filter fun k => k.st ≠ .empty).length

/-- A reset and CORE power-down lose the VOLATILE slots (R485). -/
def State.keysVolatile (s : State) : State :=
  { s with keys.slots := s.keys.slots.map fun (k : KeySlot) => if bit k.attr 10 then KeySlot.blank else k }

/-- The key store at a reset (R490, R492): a marked zeroize is finished, an erase too, their bodies are overwritten, and no command waits. -/
def State.keysReset (s : State) : State :=
  let s1 := s.keysVolatile
  { s1 with keys.slots := s1.keys.slots.map fun (k : KeySlot) =>
              if k.st = .erasing then KeySlot.blank else { k with prev := none },
            keys.bad := s1.keys.bad.filter fun h => !s1.keys.zeroing.contains h && s1.slotSt h ≠ .erasing,
            keys.waits := [], keys.zeroing := [], keys.zeroAll := none, keys.defer := [] }

end Sys2Proof.Machine
end

