-- ==== Sys2Proof/Machine/Tag.lean ====
section
/-! DEFINITION. The Hallmark tag (R421 to R439): field states, applications, authentication, records and the five-step write. -/
namespace Sys2Proof.Machine

/-- The CRC a flag copy of entry `n` must hold (R432). -/
def TagFlag.flagCrc (f : TagFlag) (n : Nat) : Nat := tagCrc f.seq f.len f.acl [BitVec.ofNat 8 n]

/-- The CRC the descriptor of body `b` of entry `n` must hold (R432). -/
def TagFlag.descCrc (f : TagFlag) (n b : Nat) : Nat := tagCrc f.seq f.len f.acl [BitVec.ofNat 8 n, BitVec.ofNat 8 b]

/-- A flag copy whose CRC holds. -/
def TagFlag.good (f : TagFlag) (n : Nat) : Bool := f.crc = f.flagCrc n

/-- A word that no longer holds together: the complement stands in its CRC field. -/
def TagFlag.spoil (f : TagFlag) (crc : Nat) : TagFlag := { f with crc := 65535 - crc }

/-- A flag copy of entry `n` written whole. -/
def TagFlag.forFlag (f : TagFlag) (n : Nat) : TagFlag := { f with crc := f.flagCrc n }

/-- A descriptor of body `b` written whole. -/
def TagFlag.forDesc (f : TagFlag) (n b : Nat) : TagFlag := { f with crc := f.descCrc n b }

/-- Descriptor of the body a SEQ names (R432). -/
def TagEnt.desc (e : TagEnt) (seq : Nat) : TagFlag := if seq % 2 = 1 then e.d1 else e.d0

/-- The SEQ below another, in 24 bits. -/
def seqBelow (n : Nat) : Nat := (n + 2 ^ 24 - 1) % 2 ^ 24

/-- The value in force of an entry (R432): SEQ, LEN, ACL. -/
def TagEnt.inForce (e : TagEnt) : TagFlag :=
  let n := e.no
  if e.fa.good n && e.fb.good n then
    (if e.fa.seq = e.fb.seq then e.fa else { e.desc (min e.fa.seq e.fb.seq) with seq := min e.fa.seq e.fb.seq })
  else if e.fb.good n then e.fb
  else if e.fa.good n then { e.desc (seqBelow e.fa.seq) with seq := seqBelow e.fa.seq }
  else { e.desc 0 with seq := 0 }

/-- The body in force (R432): bit 0 of the SEQ in force names it. -/
def TagEnt.body (e : TagEnt) : Bytes := if e.inForce.seq % 2 = 1 then e.b1 else e.b0

/-- The shadow body. -/
def TagEnt.shadow (e : TagEnt) : Bytes := if e.inForce.seq % 2 = 1 then e.b0 else e.b1

/-- The data of a record: LEN octets of its body. -/
def TagEnt.data (e : TagEnt) : Bytes := fit e.inForce.len e.body

/-- The flag copies disagree (R434). -/
def TagEnt.torn (e : TagEnt) : Bool := !(e.fa.good e.no && e.fa = e.fb)

/-- The shadow body and its descriptor written (step 2 of R433); not `whole`, the power went on the way. -/
def TagEnt.writeShadow (e : TagEnt) (f : TagFlag) (whole : Bool) (data : Bytes) : TagEnt :=
  let d := fun b => if whole then f.forDesc e.no b else f.spoil (f.descCrc e.no b)
  if e.inForce.seq % 2 = 1 then { e with d0 := d 0, b0 := data } else { e with d1 := d 1, b1 := data }

/-- What a write leaves in the tag area when it reaches `step` (R433): 1 nothing, 2 the shadow invalid, 3 the shadow verified, 4 copy A
torn, 5 copy A written, 6 copy B torn, 7 and above both copies written. -/
def TagEnt.writeTo (e : TagEnt) (w : TagWrite) (step : Nat) : TagEnt :=
  let f := TagFlag.forFlag ⟨(e.inForce.seq + 1) % 2 ^ 24, w.len, w.acl, 0⟩ e.no
  let bad := f.spoil f.crc
  if step ≤ 1 then e
  else if step = 2 then e.writeShadow f false w.data
  else
    let e1 := e.writeShadow f true w.data
    if step = 3 then e1 else if step = 4 then { e1 with fa := bad } else if step = 5 then { e1 with fa := f }
    else if step = 6 then { e1 with fa := f, fb := bad } else { e1 with fa := f, fb := f }

/-- Entry `n` of the tag area. -/
def State.tagEnt (s : State) (n : Nat) : TagEnt := s.tag.ents.getD n (.reset n 0xFF)

/-- An entry changed. -/
def State.setTagEnt (s : State) (n : Nat) (e : TagEnt) : State := { s with tag.ents := putAt s.tag.ents n e }

/-- The reader drives port A: the tag is isolated (R421). -/
def State.tagIsolated (s : State) : Bool :=
  match s.nfc.ports with
  | p :: _ => p.act.isSome
  | [] => false

/-- The tag answers a field (R421, R422). -/
def State.tagHears (s : State) : Bool :=
  s.has 9 && s.tag.field && s.g 0x3602 0 = 1 && !s.tagIsolated

/-- TagState (R422). -/
def State.tagState (s : State) : Nat :=
  if s.g 0x3602 0 = 0 then 0
  else match s.tag.st with
    | .off => 0 | .idle => 1 | .ready => 2 | .active => 3 | .halt => 4 | .recovering => 5

/-- An answer to the reader. -/
def State.tagReply (s : State) (r : Bytes) : State := { s with tag.reply := r }

/-- A source of the FIELD domain appears, a reader's field or VAON (R19, R21): where neither stood before, the domain powers up and tear
recovery runs (R422, R434). -/
def State.fieldUp (s : State) (byField : Bool) : State :=
  if !s.has 9 || (byField && s.tagIsolated) then s
  else { s with tag.st := if s.tag.st = .off then .recovering else s.tag.st, tag.field := s.tag.field || byField }

/-- A frame with no place in READY returns the tag to IDLE, or to HALT (R422). -/
def State.tagStray (s : State) : State :=
  if s.tagHears && s.tag.st = .ready then { s with tag.st := if s.tag.fromHalt then .halt else .idle } else s

/-- A staged host write that tear recovery finishes (R435). -/
def TagEnt.finish (e : TagEnt) (data : Bytes) : TagEnt :=
  e.writeTo ⟨none, 0, data.length, e.inForce.acl, data, false, []⟩ 7

/-- Tear recovery ends (R434, R435): flags made equal with the value in force, then a valid stage is carried out and cleared. -/
def State.tearEnd (s : State) : State :=
  if s.tag.st ≠ .recovering then s
  else
    let k := (s.tag.ents.filter TagEnt.torn).length
    let ents := s.tag.ents.map fun e => if e.torn then { e with fa := e.inForce.forFlag e.no, fb := e.inForce.forFlag e.no } else e
    let s1 := ({ s with tag.ents := ents, tag.st := .idle, tag.wr := none, tag.stage := none, tag.staged := false }).bumpBy 0x3640 4 k
    match s.tag.stage with
    | some (r, d, true) => (s1.setTagEnt r ((s1.tagEnt r).finish d)).bump 0x3640 3
    | _ => s1

/-- The field transaction and session end (R428, R436). -/
def State.tagEndTxn (s : State) : State :=
  { s with tag.txn := false, tag.sess := none, tag.auth := none, tag.app := 0, tag.file := 0, tag.defer := none, tag.casc := 0 }

/-- The reader's field is lost (R422, R433): a field write stops at `step`; tear recovery goes on where VAON stands. -/
def State.fieldLoss (s : State) (step : Nat) : State :=
  if !s.tag.field then s
  else
    let s1 := match s.tag.wr with
      | some w => if w.host.isNone then { s.setTagEnt w.ent ((s.tagEnt w.ent).writeTo w step) with tag.wr := none } else s
      | none => s
    { s1.tagEndTxn with
      tag.field := false, tag.fromHalt := false,
      tag.st := if !s1.pwr.vaon then .off else if s1.tag.st = .recovering then .recovering else .idle }

/-- A tag write stops at `step` with the loss of VAON (R433, R435): a host write leaves its stage valid from the end of step 1. -/
def State.tagPowerLoss (s : State) (step : Nat) : State :=
  match s.tag.wr with
  | some w =>
    { s.setTagEnt w.ent ((s.tagEnt w.ent).writeTo w step) with
      tag.wr := none, tag.stage := if step ≤ 1 then none else s.tag.stage }
  | none => s

/-! ### ISO/IEC 14443-3 (R422, R423) -/

/-- REQA or WUPA (R422): IDLE to READY, and WUPA from HALT to READY. Any other state but READY and ACTIVE does not answer; a READY
tag returns to IDLE or HALT. -/
def State.tagWake (s : State) (wupa : Bool) : State :=
  if !s.tagHears then s
  else
    match s.tag.st with
    | .idle => { s with tag.st := .ready, tag.fromHalt := false, tag.casc := 0, tag.reply := [0x44, 0x00] }
    | .halt => if wupa then { s with tag.st := .ready, tag.fromHalt := true, tag.casc := 0, tag.reply := [0x44, 0x00] } else s
    | .ready => s.tagStray
    | _ => s

/-- The UID octets of a cascade level with their check octet (R423). -/
def State.uidCl (s : State) (level : Nat) : Bytes :=
  let u := if level = 1 then 0x88 :: s.fuse.uid.take 3 else slice 3 4 s.fuse.uid
  u ++ [u.foldl (· ^^^ ·) 0]

/-- An anticollision frame of a cascade level (R422, R423): `known` holds the UID octets given; with `select` it is a SELECT and holds
all five. A SELECT of another UID is one more frame that has no place in READY (DEDUCED, log entry 69). -/
def State.tagAnticoll (s : State) (level : Nat) (select : Bool) (known : Bytes) : State :=
  if !s.tagHears || s.tag.st ≠ .ready then s
  else if level ≠ s.tag.casc + 1 || 2 < level then s.tagStray
  else if select && s.uidCl level ≠ known then s.tagStray
  else if (s.uidCl level).take known.length ≠ known then s
  else if !select then s.tagReply (s.uidCl level)
  else if level = 1 then { s with tag.casc := 1, tag.reply := [0x04] }
  else { s with tag.casc := 2, tag.st := .active, tag.reply := [0x20] }

/-- HLTA (R422). -/
def State.tagHlta (s : State) : State :=
  if !s.tagHears then s
  else
    match s.tag.st with
    | .active => { s.tagEndTxn with tag.st := .halt }
    | _ => s.tagStray

/-- RATS (R423, R436). -/
def State.tagRats (s : State) : State :=
  if s.tagHears && s.tag.st = .active && !s.tag.txn then
    ({ s with tag.txn := true, tag.reply := [0x05, 0x78, 0x00, 0x40, 0x00] }).bump 0x3640 1
  else s.tagStray

/-- A PPS request (R423): answered for 106 kbit/s only. -/
def State.tagPps (s : State) (pps1 : Nat) : State :=
  if s.tagHears && s.tag.txn && pps1 = 0 then s.tagReply [0xD0] else s.tagStray

/-- S(DESELECT) (R422, R428, R436). -/
def State.tagDeselect (s : State) : State :=
  if s.tagHears && s.tag.st = .active && s.tag.txn then { s.tagEndTxn with tag.st := .halt, tag.reply := [0xC2] } else s.tagStray

/-! ### Applications (R424 to R426) -/

/-- The tag takes an APDU now. -/
def State.tagApdu (s : State) : Bool := s.tagHears && s.tag.st = .active && s.tag.txn && s.tag.wr.all (·.host.isSome)

/-- An NDEF command with that application not selected: an unknown CLA for the Hallmark application (R426); with no application selected
an unknown INS (DESIGN CHOICE, log entry 69). -/
def State.notNdef (s : State) : State := s.tagReply [if s.tag.app = 2 then 0x6E else 0x6D, 0x00]

/-- SELECT by AID (R424): either application ends an authentication. -/
def State.tagSelectApp (s : State) (aid : Bytes) : State :=
  if !s.tagApdu then s.tagStray
  else if aid = [0xD2, 0x76, 0x00, 0x00, 0x85, 0x01, 0x01] then
    { s with tag.app := 1, tag.file := 0, tag.sess := none, tag.auth := none, tag.reply := [0x90, 0x00] }
  else if aid = [0xF0, 0x5A, 0x51, 0x48, 0x4D, 0x01] then
    { s with tag.app := 2, tag.file := 0, tag.sess := none, tag.auth := none, tag.reply := [0x90, 0x00] }
  else s.tagReply [0x6A, 0x82]

/-- SELECT of a file of the NDEF application (R425). -/
def State.tagSelectFile (s : State) (fid : Nat) : State :=
  if !s.tagApdu then s.tagStray
  else if s.tag.app ≠ 1 then s.notNdef
  else if fid = 0xE103 then { s with tag.file := 1, tag.reply := [0x90, 0x00] }
  else if fid = 0xE104 then { s with tag.file := 2, tag.reply := [0x90, 0x00] }
  else s.tagReply [0x6A, 0x82]

/-- The Capability Container (R425). -/
def ccFile : Bytes := [0x00, 0x0F, 0x20, 0x00, 0xFF, 0x00, 0xFF, 0x04, 0x06, 0xE1, 0x04, 0x08, 0x00, 0x00, 0xFF]

/-- The NDEF file in force (R425, R439): 2,048 octets. -/
def State.ndefFile (s : State) : Bytes := fit 2048 (s.tagEnt 24).body

/-- READ BINARY of the selected file (R425); at most MLe 255 octets, up to the end of the file. -/
def State.tagReadBinary (s : State) (off le : Nat) : State :=
  if !s.tagApdu then s.tagStray
  else if s.tag.app ≠ 1 then s.notNdef
  else if s.tag.file = 0 then s.tagReply [0x69, 0x86]
  else
    let f := if s.tag.file = 1 then ccFile else s.ndefFile
    if f.length ≤ off then s.tagReply [0x6B, 0x00] else s.tagReply (slice off (min le 255) f ++ [0x90, 0x00])

/-- UPDATE BINARY (R425). -/
def State.tagUpdateBinary (s : State) : State :=
  if !s.tagApdu then s.tagStray else if s.tag.app ≠ 1 then s.notNdef else s.tagReply [0x69, 0x82]

/-- A command of the Hallmark application may be served (R424, R426). -/
def State.hallmark (s : State) : Bool := s.tagApdu && s.tag.app = 2

/-- A Hallmark command outside its application: its CLA is unknown there (R426). -/
def State.notHallmark (s : State) : State := if s.tagApdu then s.tagReply [0x6E, 0x00] else s.tagStray

/-- GET_INFO (R426). -/
def State.tagGetInfo (s : State) : State :=
  if !s.hallmark then s.notHallmark
  else s.tagReply (s.fuse.uid ++ [0x01, 24, if s.pwr.vaon then 1 else 0] ++ s.tag.serial ++ [0x90, 0x00])

/-- AUTH_BEGIN (R427, R430): the count is raised and durable before RndT is made from it. -/
def State.tagAuthBegin (s : State) (key : Nat) : State :=
  if !s.hallmark then s.notHallmark
  else if 3 < key then s.tagReply [0x6A, 0x82]
  else if (s.tag.keys.getD key none).isNone then s.tagReply [0x69, 0x85]
  else if 16 ≤ s.tag.fails.getD key 0 then s.tagReply [0x69, 0x83]
  else
    let c := s.tag.count + 1
    let r := aesEnc s.fuse.tagKey (toBe 16 c)
    { s with tag.count := c, tag.auth := some (key, r), tag.reply := r ++ [0x90, 0x00] }

/-- AUTH_FINISH (R427, R430). One without an AUTH_BEGIN of its key fails and counts (DESIGN CHOICE, log entry 69). -/
def State.tagAuthFinish (s : State) (key : Nat) (data : Bytes) : State :=
  if !s.hallmark then s.notHallmark
  else if 3 < key then s.tagReply [0x6A, 0x82]
  else if data.length ≠ 24 then s.tagReply [0x67, 0x00]
  else
    match s.tag.keys.getD key none with
    | none => s.tagReply [0x69, 0x85]
    | some k =>
      let rR := data.take 16
      let fail := { s with tag.fails := modAt s.tag.fails key (fun n => min 255 (n + 1)), tag.auth := none,
                           tag.reply := [0x63, 0x00] }
      match s.tag.auth with
      | none => fail
      | some (k0, rT) =>
        if k0 = key && cmac64 k ([0x01] ++ rT ++ rR) = data.drop 16 then
          { s with tag.fails := putAt s.tag.fails key 0, tag.auth := none,
                   tag.sess := some ⟨key, kdf k (ascii "HM-SESS") (rT ++ rR ++ s.fuse.uid) 16, 0⟩,
                   tag.reply := cmac64 k ([0x02] ++ rR ++ rT) ++ [0x90, 0x00] }
        else fail

/-- GET_RECORD_INFO (R426). -/
def State.tagGetRecordInfo (s : State) (r : Nat) : State :=
  if !s.hallmark then s.notHallmark
  else if 23 < r then s.tagReply [0x6A, 0x82]
  else
    let f := (s.tagEnt r).inForce
    s.tagReply (toLe 2 f.len ++ toLe 3 f.seq ++ [BitVec.ofNat 8 f.acl, 0x90, 0x00])

/-- An ACL code allows a command (R429): FREE, or a session under the named key. -/
def State.aclAllows (s : State) (code : Nat) : Bool :=
  code = 0 || (1 ≤ code && code ≤ 4 && (s.tag.sess.map fun x => decide (x.key + 1 = code)).getD false)

/-- An ACL without reserved codes (R429). -/
def aclOk (a : Nat) : Bool := (a / 16 ≤ 4 || a / 16 = 15) && (a % 16 ≤ 4 || a % 16 = 15) && a < 256

/-- The CTR and MAC of a session command (R428): the session with its CTR raised, none on failure. -/
def TagSess.check (x : TagSess) (ins r : Nat) (data : Bytes) : Option (TagSess × Bytes) :=
  let n := data.length - 8
  let c := leAt 0 2 data
  let d := slice 2 (n - 2) data
  if x.ctr < c && cmac64 x.ks ([0x00] ++ data.take 2 ++ [0x80, BitVec.ofNat 8 ins, BitVec.ofNat 8 r, 0x00] ++ d) = data.drop n then
    some ({ x with ctr := c }, d)
  else none

/-- MAC8 of a session response (R428). -/
def TagSess.rmac (x : TagSess) (rsp : Bytes) : Bytes := cmac64 x.ks ([0x01] ++ toLe 2 x.ctr ++ rsp ++ [0x90, 0x00])

/-- READ_RECORD served (R428, R429). -/
def State.tagDoRead (s : State) (r : Nat) (data : Bytes) : State :=
  let e := s.tagEnt r
  match s.tag.sess with
  | none =>
    if data ≠ [] then s.tagReply [0x67, 0x00]
    else if s.aclAllows (e.inForce.acl / 16) then s.tagReply (e.data ++ [0x90, 0x00]) else s.tagReply [0x69, 0x82]
  | some x =>
    if data.length ≠ 10 then s.tagReply [0x67, 0x00]
    else
      match x.check 0x64 r data with
      | none => { s with tag.sess := none, tag.reply := [0x69, 0x88] }
      | some (x1, _) =>
        let s1 := { s with tag.sess := some x1 }
        if s1.aclAllows (e.inForce.acl / 16) then s1.tagReply (e.data ++ x1.rmac e.data ++ [0x90, 0x00])
        else s1.tagReply [0x69, 0x82]

/-- A field write starts its five steps (R433); the answer follows step 5. -/
def State.tagStartWrite (s : State) (r : Nat) (d rsp : Bytes) : State :=
  { s with tag.wr := some ⟨none, r, d.length, (s.tagEnt r).inForce.acl, d, false, rsp⟩, tag.reply := [] }

/-- WRITE_RECORD checked (R428, R429, R433). -/
def State.tagDoWrite (s : State) (r : Nat) (data : Bytes) : State :=
  let e := s.tagEnt r
  match s.tag.sess with
  | none =>
    if 256 < data.length then s.tagReply [0x67, 0x00]
    else if s.aclAllows (e.inForce.acl % 16) then s.tagStartWrite r data [0x90, 0x00] else s.tagReply [0x69, 0x82]
  | some x =>
    if data.length < 10 || 266 < data.length then s.tagReply [0x67, 0x00]
    else
      match x.check 0x66 r data with
      | none => { s with tag.sess := none, tag.reply := [0x69, 0x88] }
      | some (x1, d) =>
        let s1 := { s with tag.sess := some x1 }
        if s1.aclAllows (e.inForce.acl % 16) then s1.tagStartWrite r d (x1.rmac [] ++ [0x90, 0x00])
        else s1.tagReply [0x69, 0x82]

/-- READ_RECORD or WRITE_RECORD arrives (R426, R437): behind a host write it is answered with S(WTX) and served after it. -/
def State.tagRecordCmd (s : State) (write : Bool) (r : Nat) (data : Bytes) : State :=
  if !s.hallmark then s.notHallmark
  else if 23 < r then s.tagReply [0x6A, 0x82]
  else if s.tag.wr.isSome then { s with tag.defer := some (write, r, data), tag.reply := [0xF2, 0x01] }
  else if write then s.tagDoWrite r data else s.tagDoRead r data

/-- An APDU without a meaning (R426): unknown CLA, unknown INS, a record above 23, a wrong length. -/
def State.tagBadApdu (s : State) (cla ins p1 : Nat) : State :=
  if !s.tagApdu then s.tagStray
  else if cla ≠ (if s.tag.app = 2 then 0x80 else 0x00) then s.tagReply [0x6E, 0x00]
  else if !((if s.tag.app = 2 then [0x60, 0x61, 0x62, 0x64, 0x65, 0x66] else [0xA4, 0xB0, 0xD6]).contains ins) then s.tagReply [0x6D, 0x00]
  else if s.tag.app = 2 && 0x64 ≤ ins && 23 < p1 then s.tagReply [0x6A, 0x82]
  else s.tagReply [0x67, 0x00]

/-! ### Writes (R433, R435, R439) -/

/-- A host write of a record starts (R435): the stage is valid at the end of step 1. -/
def State.tagHostWrite (s : State) (who : Requester) (r : Nat) (data : Bytes) : State :=
  { s with tag.stage := some (r, data, true),
           tag.wr := some ⟨some who, r, data.length, (s.tagEnt r).inForce.acl, data, false, []⟩ }

/-- A host write of an ACL starts (R433, R442). -/
def State.tagAclWrite (s : State) (who : Requester) (r acl : Nat) : State :=
  let e := s.tagEnt r
  { s with tag.wr := some ⟨some who, r, e.inForce.len, acl, e.data, false, []⟩ }

/-- TagNdefStage (R439): data into the NDEF shadow body. -/
def State.ndefStage (s : State) (off : Nat) (d : Bytes) : State :=
  let e := s.tagEnt 24
  { s.setTagEnt 24 (e.writeShadow ⟨(e.inForce.seq + 1) % 2 ^ 24, 0, 0, 0⟩ false (overlay off d (fit 2048 e.shadow))) with
    tag.staged := true }

/-- TagNdefCommit starts its last steps (R439). -/
def State.ndefCommit (s : State) (who : Requester) (nlen : Nat) : State :=
  let e := s.tagEnt 24
  { s with tag.wr := some ⟨some who, 24, nlen + 2, 0, overlay 0 (toBe 2 nlen) (fit 2048 e.shadow), true, []⟩ }

/-- A write reaches step 5 (R433, R435, R437): the new value stands, the stage is cleared, a deferred field command is served. The
host requester that is answered comes first. -/
def State.tagWriteDone (s : State) : Option Requester × State :=
  match s.tag.wr with
  | none => (none, s)
  | some w =>
    let s1 := { s.setTagEnt w.ent ((s.tagEnt w.ent).writeTo w 7) with
      tag.wr := none, tag.stage := none, tag.staged := if w.ndef then false else s.tag.staged }
    match w.host with
    | none => (none, ({ s1 with tag.reply := w.rsp }).bump 0x3640 2)
    | some who =>
      match s1.tag.defer with
      | none => (some who, s1)
      | some (wr, r, d) =>
        let s2 := { s1 with tag.defer := none }
        (some who, if s2.hallmark then (if wr then s2.tagDoWrite r d else s2.tagDoRead r d) else s2)

end Sys2Proof.Machine
end

