-- ==== Sys2Proof/Machine/Ble.lean ====
section
/-! DEFINITION. The Bluetooth LE link (R354 to R378): advertising, connections, their events, the GATT server and the engine
characteristics. -/
namespace Sys2Proof.Machine

/-- The part serves the Zarique service over BLE (R360): the MANAGER of a part with access units. -/
def State.bleManager (s : State) : Bool := s.hasAccess && s.seg.role = .manager

/-- Connections held. -/
def State.bleHeld (s : State) : Nat := (s.ble.conns.filter Option.isSome).length

/-! ### Advertising (R358 to R363) -/

/-- The profile in force (R361, R362, R672): FAST within the boost after a touch, unless the profile is OFF; SLOW from stage REDUCED on. -/
def State.advProfile (s : State) : Nat :=
  if s.g 0x3101 0 = 0 then 0
  else if 2 ≤ s.bg.stage then 1
  else if (s.ble.boost.map fun d => decide (s.now < d)).getD false then 3 else s.g 0x3101 0

/-- The interval of a profile (R361). -/
def advInterval (p : Nat) : Nat := ms (if p = 1 then 2000 else if p = 2 then 1000 else if p = 3 then 200 else 1000)

/-- EPOCH (R358). -/
def State.advEpoch (s : State) : Nat := s.acc.vclk.vc / s.g 0x3107 0

/-- A new non-resolvable private address is drawn when EPOCH has changed (R358). Its two most significant bits are 0 (log entry 33). -/
def State.advAddress (s : State) : State :=
  if s.ble.epoch = some s.advEpoch then s
  else
    let r := s.draw 6
    { r.2 with ble.epoch := some s.advEpoch }.put 0x310A 0 (leNat r.1 % 2 ^ 46)

/-- HINT (R359). -/
def State.advHint (s : State) : Bytes :=
  match s.slotKey (s.g 0x3108 0) with
  | some k => (cmac k (toLe 4 s.advEpoch ++ s.fuse.serial)).take 4
  | none => zeros 4

/-- The Service Data payload (R359). -/
def State.advData (s : State) : Bytes :=
  [0x01, BitVec.ofNat 8 (2 * b2n (8 ≤ s.bleHeld) + b2n (s.acc.vclk.st ≠ 0))] ++ toLe 2 s.advEpoch ++ s.advHint

/-- Advertising is on (R338, R358, R361, R672): a profile other than OFF, a seed, and no Quench or thermal cut. -/
def State.advWanted (s : State) : Bool :=
  s.advProfile ≠ 0 && s.rng.st ≠ .starting && !s.gate.quench && s.bg.stage ≠ 4 && s.pwr.core

/-- The time a 2.4 GHz transmission of `d` time units counts against limiter 2 (R261, R345): with the PA of its module, from activation to
deactivation. -/
def State.bleAir (s : State) (d : Nat) : Nat := max d (s.paTime .ble d)

/-- A transmission of the 2.4 GHz transceiver begins, `d` time units long (R317). -/
def State.bleOnAir (s : State) (st : XcState) (d : Nat) : State :=
  s.setXc .ble { s.rfc.ble.enter st s.now with pkt := some (s.now, some (s.now + d)) }

/-- An advertising event (R338, R358 to R363): none before its time, without a seed, under OFF, or in Quench. A transceiver that is not armed
for it drops it with LATE (R324); at the ceiling of limiter 2 it is stopped (R262). `onAir` is this device's transmit time. -/
def State.advertise (s0 : State) (onAir : Nat) : State :=
  if s0.now < s0.ble.advAt || s0.gate.quench || s0.bg.stage = 4 || !s0.pwr.core then s0
  else
    let s := s0.boundary .bNextAdvertisingEvent
    let p := s.advProfile
    if p = 0 || s.rng.st = .starting || (s.ble.epoch ≠ some s.advEpoch && !s.drawOk) then s
    else if !s.armed .ble s.now then
      ({ s with ble.advAt := s.now + advInterval p }.xcDrop .ble fun u => u = XcUse.adv).bump 0x3205 2
    else if s.atCeiling 2 0 then ({ s with ble.advAt := s.now + advInterval p }.xcDrop .ble fun u => u = XcUse.adv).limCut 2 0
    else
      let s1 := ((s.advAddress.xcDrop .ble fun u => u = XcUse.adv).limAdd 2 0 (s.bleAir onAir) false).bleOnAir .tx onAir
      let ant := if s1.oneAnt .ble || s1.g 0x3242 0 = 1 then false else if s1.g 0x3242 0 = 2 then true else !s1.ble.advAnt
      let m := s1.bleManager
      { s1 with ble.advAt := s1.now + advInterval p,
                ble.advAnt := ant,
                ble.adv := some ⟨toLe 6 (s1.g 0x310A 0), s1.bleHeld < 8, m, p, if m then s1.advData else [], ant⟩ }.bump 0x3120 1

/-- The boost after a touch begins or begins again (R362). -/
def State.bleBoost (s : State) : State :=
  if s.g 0x3102 0 = 0 then s else { s with ble.boost := some (s.now + secs (s.g 0x3102 0)), ble.advAt := min s.ble.advAt s.now }

/-- BleBoostTime has passed (R362). -/
def State.boostEnd (s : State) : State :=
  match s.ble.boost with
  | some d => if d ≤ s.now then { s with ble.boost := none } else s
  | none => s

/-! ### Connections (R154, R356, R363) -/

/-- A connection closes: its token session and queues go, and the engines' BLE_CONN event is raised (R154, R534). -/
def State.bleClose (s : State) (c : Nat) : State :=
  if (s.conn c).isNone then s
  else
    let s1 := (s.carrierEnd (.ble c))
    ({ s1 with ble.conns := putAt s1.ble.conns c none,
               ble.event := if s1.ble.event = some c then none else s1.ble.event }.xcDrop .ble fun u => u = XcUse.event c).engEvAll 3

/-- The link layer's or the host layer's answer to the phone. -/
def State.attAnswer (s : State) (r : AttRsp) : State := { s with ble.rsp := r }

/-- This device ends a connection with reason 0x13 (R363). -/
def State.bleTerminate (s : State) (c : Nat) : State := (s.bleClose c).attAnswer (.terminate c 0x13)

/-- Parameters the link accepts (R356): interval in 1.25 ms, latency, supervision time-out in ms. -/
def connParamsOk (interval latency timeout : Nat) : Bool :=
  6 ≤ interval && interval ≤ 3200 && latency ≤ 499 && 100 ≤ timeout && timeout ≤ 32000

/-- The oldest connection that holds no token session and has held none, but for `c` (R363). -/
def State.oldestIdle (s : State) (c : Nat) : Option Nat :=
  let l := s.ble.conns.zipIdx.filterMap fun p => p.1.bind fun x => if x.had || p.2 = c then none else some (x.at_, p.2)
  match (l.map (·.1)).min? with
  | none => none
  | some t => (l.find? fun x => x.1 = t).map (·.2)

/-- A central connects (R356, R363): the lowest free number, and the PHY of BlePhyPref where its features allow it. -/
def State.bleOpen (s0 : State) (interval latency timeout phy : Nat) (update : Bool) : State :=
  if s0.gate.quench || !s0.pwr.core || !connParamsOk interval latency timeout then s0
  else
    let s := s0.boundary .bNextConnection
    match s.ble.conns.findIdx? Option.isNone with
    | none => s
    | some c =>
      let x : BleConn :=
        { at_ := s.now, phy := if update then s.g 0x3103 0 else phy, interval := interval, latency := latency, timeout := timeout,
          mtu := 23, cccd := [], chal := false, had := false, rxq := [], ntf := [], svc := false, param := false, rssi := 0,
          served := s.now, anchor := s.now + us (1250 * interval), hist0 := [], hist1 := [], evs := 0, ant := false, sent := [] }
      let s1 := ({ s with ble.conns := putAt s.ble.conns c (some x) }.bump 0x3120 2).engEvAll 3
      if s1.bleHeld < 8 then s1
      else
        match s1.oldestIdle c with
        | none => s1
        | some o => s1.bleTerminate o

/-- BleNoSessionLimit has passed on a connection that has opened no token session (R363). -/
def State.noSessionLimit (s : State) (c : Nat) : State :=
  match s.conn c with
  | none => s
  | some x => if !x.had && x.at_ + secs (s.g 0x3106 0) ≤ s.now then s.bleTerminate c else s

/-- A PHY update the phone asks for (R356). -/
def State.phyUpdate (s : State) (c phy : Nat) : State :=
  if (s.conn c).isSome && phy ≤ 3 then (s.modConn c fun x => { x with phy := phy }).attAnswer .accept else s

/-- A connection parameters request of the phone (R356, R357); outside the accepted ranges it is rejected (log entry 33). -/
def State.paramRequest (s : State) (c interval latency timeout : Nat) : State :=
  if (s.conn c).isNone then s
  else if connParamsOk interval latency timeout then
    (s.modConn c fun x => { x with interval := interval, latency := latency, timeout := timeout, param := false }).attAnswer .accept
  else s.attAnswer (.reject 0x20)

/-- An SMP Pairing Request or Security Request (R355). -/
def State.smpRefuse (s : State) (c : Nat) : State :=
  if (s.conn c).isSome then (s.attAnswer (.reject 0x05)).bump 0x3120 5 else s

/-- LL_ENC_REQ (R355). -/
def State.encRefuse (s : State) (c : Nat) : State :=
  if (s.conn c).isSome then (s.attAnswer (.reject 0x1A)).bump 0x3120 5 else s

/-! ### The GATT server (R364 to R374) -/

/-- The MTU exchange (R354, R366). -/
def State.mtuExchange (s : State) (c mtu : Nat) : State :=
  if (s.conn c).isSome then (s.modConn c fun x => { x with mtu := min 247 (max 23 mtu) }).attAnswer (.value (toLe 2 247)) else s

/-- The engine characteristic of a handle (R364) and which of its three attributes the handle names. -/
def charOf (h : Nat) : Option (Nat × Nat) := if 0x21 ≤ h && h ≤ 0x50 then some ((h - 0x21) / 3, (h - 0x21) % 3) else none

/-- An engine characteristic. -/
def State.bleChar (s : State) (i : Nat) : BleChar := s.ble.chars.getD i ⟨0xFF, [], [], false⟩

/-- An engine characteristic changed. -/
def State.modChar (s : State) (i : Nat) (f : BleChar → BleChar) : State := { s with ble.chars := modAt s.ble.chars i f }

/-- BleEngProps in force (R373). -/
def State.charProps (s : State) (i : Nat) : Nat := s.g (0x3140 + i) 2

/-- Whether a handle exists (R364, R371): the fixed ones, the Zarique service on the MANAGER, the published characteristics. -/
def State.handleExists (s : State) (h : Nat) : Bool :=
  (1 ≤ h && h ≤ 9) || (0x10 ≤ h && h ≤ 0x15 && s.bleManager) ||
    (h = 0x20 && s.ble.chars.any (·.pub)) ||
    (match charOf h with
     | some (i, a) => (s.bleChar i).pub && (a < 2 || bits (s.charProps i) 3 2 ≠ 0)
     | none => false)

/-- The Zarique UUIDs of R364, most significant octet first: service 1, Access 2, Info 3. -/
def zariqueUuid (n : Nat) : Bytes :=
  [0x6A, 0x5A, 0x00, BitVec.ofNat 8 n, 0x0B, 0x7E, 0x4D, 0x55, 0x9C, 0x21, 0xD2, 0x48, 0x80, 0x00, 0x00, 0x00]

/-- A 16-bit UUID in its 128-bit form, most significant octet first (PRESUMED: the Bluetooth base UUID, log entry 33). -/
def baseUuid (u : Nat) : Bytes :=
  [0x00, 0x00] ++ toBe 2 u ++ [0x00, 0x00, 0x10, 0x00, 0x80, 0x00, 0x00, 0x80, 0x5F, 0x9B, 0x34, 0xFB]

/-- BleEngUuid, most significant octet first: pending or in force. -/
def State.charUuid (s : State) (i : Nat) (next : Bool) : Bytes := toLe 16 (if next then s.gp (0x3140 + i) 1 else s.g (0x3140 + i) 1)

/-- A characteristic declaration: properties, value handle, UUID (PRESUMED: the ATT form, log entry 33). -/
def charDecl (props h : Nat) (uuid : Bytes) : Bytes := [BitVec.ofNat 8 props] ++ toLe 2 (h + 1) ++ uuid.reverse

/-- The value a phone's read of an existing handle returns, none where reading is not permitted (R364, R365, R373, R374). -/
def State.attValue (s : State) (c : Nat) (x : BleConn) (h : Nat) : Option Bytes :=
  if h = 0x01 then some (toLe 2 0x1800)
  else if h = 0x02 then some (charDecl 0x02 2 (toBe 2 0x2A00))
  else if h = 0x03 then some ((toLe 20 (s.g 0x3109 0)).takeWhile fun b => b ≠ 0)
  else if h = 0x04 then some (charDecl 0x02 4 (toBe 2 0x2A01))
  else if h = 0x05 then some [0, 0]
  else if h = 0x06 then some (toLe 2 0x1801)
  else if h = 0x07 then some (charDecl 0x20 7 (toBe 2 0x2A05))
  else if h = 0x08 || h = 0x12 then none
  else if h = 0x10 then some (zariqueUuid 1).reverse
  else if h = 0x11 then some (charDecl 0x1C 0x11 (zariqueUuid 2))
  else if h = 0x14 then some (charDecl 0x02 0x14 (zariqueUuid 3))
  else if h = 0x15 then some [0x01, 83, BitVec.ofNat 8 c]
  else if h = 0x20 then (s.ble.chars.findIdx? (·.pub)).map fun i => (s.charUuid i false).reverse
  else match charOf h with
    | some (i, 0) =>
      let p := s.charProps i
      some (charDecl (2 * b2n (bit p 0) + 8 * b2n (bit p 1) + 4 * b2n (bit p 2) + 16 * b2n (bit p 3) + 32 * b2n (bit p 4)) h
        (s.charUuid i false))
    | some (i, 1) => if bit (s.charProps i) 0 then some ((s.bleChar i).val.take (s.g (0x3140 + i) 4)) else none
    | _ => some (toLe 2 (x.cccdOf h))

/-- A phone's read (R365, R374); a handle that does not exist is answered with Invalid Handle (log entry 33). -/
def State.attRead (s : State) (c h : Nat) : State :=
  match s.conn c with
  | none => s
  | some x =>
    if !s.handleExists h then s.attAnswer (.error 0x01)
    else match s.attValue c x h with
      | some v => s.attAnswer (.value v)
      | none => s.attAnswer (.error 0x02)

/-- A CCCD in a list of values that are not 0. -/
def cccdPut (l : List (Nat × Nat)) (h v : Nat) : List (Nat × Nat) :=
  let l1 := l.filter fun (p : Nat × Nat) => p.1 ≠ h
  if v = 0 then l1 else l1 ++ [(h, v)]

/-- A CCCD write (R166, R364). -/
def State.cccdWrite (s : State) (c h v : Nat) : State :=
  if (s.conn c).isNone then s
  else if !s.handleExists h || !(h = 0x09 || h = 0x13 || ((charOf h).map fun p => decide (p.2 = 2)).getD false) then s.attAnswer (.error 0x01)
  else (s.modConn c fun x => { x with cccd := cccdPut x.cccd h (v % 4) }).attAnswer .ok

/-- A message written to the Access value that is not one Zarique message, or finds the receive queue full, is dropped and counted
(R365, R367). -/
def State.accessWrite (s : State) (c : Nat) (d : Bytes) : State :=
  match s.conn c with
  | none => s
  | some x =>
    match zqPhone (byteAt 0 d) with
    | none => s.zqDrop
    | some (len, auth) =>
      if byteAt 1 d ≠ len then s.zqDrop
      else if d.length ≠ 2 + len + (if auth then 10 else 0) || 4 ≤ x.rxq.length then s.bump 0x3120 4
      else s.modConn c fun y => { y with rxq := y.rxq ++ [d] }

/-- A phone's write of a value (R365, R374). Refusals that R374 does not name are those of ATT (log entry 33). -/
def State.attWrite (s : State) (c h : Nat) (kind : AttWrite) (d : Bytes) : State :=
  if (s.conn c).isNone then s
  else if h = 0x12 && s.bleManager then
    (if kind = .prepare then s.attAnswer (.error 0x06) else (s.accessWrite c d).attAnswer (if kind = .request then .ok else .none_))
  else if kind = .prepare then s.attAnswer (.error 0x06)
  else
    match charOf h with
    | some (i, 1) =>
      let x := s.bleChar i
      let req := decide (kind = .request)
      if !x.pub then (if req then s.attAnswer (.error 0x01) else s)
      else if !bit (s.charProps i) (if req then 1 else 2) then (if req then s.attAnswer (.error 0x03) else s)
      else if s.g (0x3140 + i) 4 < d.length then s.attAnswer (.error 0x0D)
      else if 4 ≤ x.rxq.length then (if req then s.attAnswer (.error 0x11) else s.bump 0x3120 4)
      else
        let s1 := (s.modChar i fun y => { y with rxq := y.rxq ++ [(c, d)] }).engEv x.owner 2
        if req then s1.attAnswer .ok else s1
    | _ => if kind = .request then s.attAnswer (.error (if s.handleExists h then 0x03 else 0x01)) else s

/-- A phone confirms an indication (R375). -/
def State.indConfirm (s : State) (c : Nat) : State :=
  s.modConn c fun x =>
    match x.ntf.findIdx? fun n => n.ind && n.sent with
    | some i => { x with ntf := x.ntf.eraseIdx i }
    | none => x

/-! ### Connection events (R338, R356, R357, R368 to R370, R375) -/

/-- On-air time of a notification of `n` octets on a PHY, µs (PRESUMED: the Bluetooth packet formats, log entry 33). -/
def ntfAir (phy n : Nat) : Nat :=
  let o := n + 9
  if phy = 0 then (o + 8) * 8 else if phy = 1 then (o + 9) * 4 else if phy = 2 then 80 + 256 + 16 + 24 + (o + 3) * 16 + 6
  else 80 + 256 + 16 + 24 + (o + 3) * 64 + 24

/-- The engine notifications of one event: at most four of those not yet sent, one indication at a time, as long as `room` time units of the
engines' share last (R262); `air` is the time of each. What leaves, and what stays queued. -/
def pickNtf (air : EngNtf → Nat) : Nat → Bool → Nat → List EngNtf → List EngNtf × List EngNtf
  | _, _, _, [] => ([], [])
  | 0, _, _, l => ([], l)
  | k + 1, busy, room, n :: l =>
    if n.sent || (n.ind && busy) || room < air n then
      let r := pickNtf air (k + 1) (busy || n.sent) room l
      (r.1, n :: r.2)
    else
      let r := pickNtf air k (busy || n.ind) (room - air n) l
      (n :: r.1, if n.ind then { n with sent := true } :: r.2 else r.2)

/-- What the engines' share of limiter 2 still allows now (R262). -/
def State.bleRoom (s : State) : Nat := (limitOf 2).2.1 * s.g 0x2440 2 / 100 - s.onTime 2 0 true s.now

/-- Time of an engine notification against limiter 2 (R261, R345, R375). -/
def State.ntfTime (s : State) (phy : Nat) (n : EngNtf) : Nat := s.bleAir (us (ntfAir phy n.val.length))

/-- The engine notifications that leave in an event now. -/
def State.ntfPick (s : State) (x : BleConn) : List EngNtf × List EngNtf :=
  pickNtf (s.ntfTime x.phy) 4 (x.ntf.any (·.sent)) s.bleRoom x.ntf

/-- The data of a connection event: engine notifications, Service Changed (R368, R372, R375). -/
def State.bleData (s : State) (c : Nat) : State :=
  match s.conn c with
  | none => s
  | some x =>
    let r := s.ntfPick x
    let s1 := s.modConn c fun y =>
      { y with ntf := r.2, svc := false,
               sent := y.sent ++ (r.1.map fun (n : EngNtf) => (0x22 + 3 * n.char, n.val)) ++
                 (if y.svc then [(0x08, [0x20, 0x00, 0x50, 0x00])] else []) }
    r.1.foldl (fun s n => s.limAdd 2 0 (s.ntfTime x.phy n) true) s1

/-- Whether connection `a` is served before `b` when their events overlap (R369). -/
def State.servedFirst (s : State) (a b : Nat) : Bool :=
  match s.conn a, s.conn b with
  | some x, some y =>
    let ta := (s.sesOn (.ble a)).isSome
    let tb := (s.sesOn (.ble b)).isSome
    if ta ≠ tb then ta else if x.served ≠ y.served then x.served < y.served else a < b
  | some _, none => true
  | none, _ => false

/-- The mean of a list of RSSI values is higher than another's; none is never higher. -/
def meanAbove (a b : List Int) : Bool :=
  if a = [] then false else if b = [] then true else b.sum * a.length < a.sum * b.length

/-- The antenna of a connection event (R338, R342). `dwell` are the mean RSSI values of the Coded preamble on the previous antenna and on
the other one, 0.25 dB. -/
def State.bleAnt (s : State) (x : BleConn) (dwell : Int × Int) : Bool :=
  let m := s.g 0x3242 0
  if s.oneAnt .ble || m = 1 then false
  else if m = 2 then true
  else if 2 ≤ x.phy then (if dwell.1 + (s.g 0x3241 0 : Nat) < dwell.2 then !x.ant else x.ant)
  else
    let best := meanAbove x.hist1 x.hist0
    if s.g 0x3243 0 ≤ x.evs + 1 then !best else best

/-- The RSSI of the last packet of a connection, none before its first (R346, R377). -/
def BleConn.lastRssi (x : BleConn) : Option Int := if x.hist0 = [] && x.hist1 = [] then none else some x.rssi

/-- A connection event is skipped or missed (R369, R324). -/
def State.bleMissed (s : State) (c : Nat) : State :=
  ((s.modConn c fun x => { x with anchor := x.anchor + us (1250 * x.interval) }).xcDrop .ble fun u => u = XcUse.event c).bump 0x3120 3

/-- The reception of a connection event: the RSSI of its first good packet, the antenna statistics and the RSSI item (R338, R370). -/
def State.bleHeard (s : State) (c : Nat) (raw : Option Int) (ant : Bool) : State :=
  match s.conn c, raw with
  | some x, some q =>
    let v := s.rssiAtAntenna q x.lastRssi
    let s1 := s.modConn c fun y =>
      { y with rssi := v,
               hist0 := if ant then y.hist0 else (v :: y.hist0).take 4,
               hist1 := if ant then (v :: y.hist1).take 4 else y.hist1 }
    match s1.sesOn (.ble c) with
    | some (_, t) => s1.tsAdmit ⟨6, s1.seg.node, 0, 0, t.tsh, 0, 0, 0, 0, v⟩ (some s1.now)
    | none => s1
  | _, _ => s

/-- A connection event (R368 to R370, R375). It is skipped where another connection's event has precedence, and dropped with LATE where the
transceiver is not armed for it (R324). `overlap` are the connections whose events would overlap it, `rssi` is the RSSI of the first good
packet at the ball in 0.25 dB, `onAir` this device's transmit time, and `more` the length of one further packet exchange with its
turnarounds. At the ceiling of limiter 2 nothing is sent (R262). -/
def State.connEvent (s0 : State) (c : Nat) (overlap : List Nat) (rssi : Option Int) (dwell : Int × Int) (onAir more : Nat) : State :=
  match s0.conn c with
  | none => s0
  | some _ =>
    if s0.gate.quench || !s0.pwr.core then s0
    else
      let s := s0.boundary .bNextConnectionEvent
      if overlap.any fun o => o ≠ c && s.servedFirst o c then s.bleMissed c
      else if !s.armed .ble s.now then (s.bleMissed c).bump 0x3205 2
      else
        match s.conn c with
        | none => s
        | some x =>
          let ant := s.bleAnt x dwell
          let probe := 2 ≤ x.phy || x.evs + 1 < s.g 0x3243 0
          let byp := s.bleBypRx x.lastRssi
          let s1 := (s.modConn c fun y =>
            { y with sent := [], ant := ant, served := s.now, anchor := s.now + us (1250 * y.interval), param := false,
                     evs := if probe then y.evs + 1 else 0 }).xcDrop .ble fun u => u = XcUse.event c
          let s2 := (s1.bleOnAir .rx onAir).bleHeard c rssi ant
          let s2 := if x.param then s2.attAnswer (.paramReq c (s2.g 0x3105 0)) else s2
          let s3 := { s2 with ble.event := some c, rfc.ble.byp := byp }
          let cut := (s3.sesOn (.ble c)).isNone && s3.ble.conns.zipIdx.any fun p =>
            (s3.sesOn (.ble p.2)).isSome && ((p.1.map fun y => decide (s3.now ≤ y.anchor && y.anchor < s3.now + more)).getD false)
          if s3.atCeiling 2 0 then s3.limCut 2 0
          else if cut then s3.limAdd 2 0 (s3.bleAir onAir) false
          else
            let eng := ((s3.ntfPick x).1.map (s3.ntfTime x.phy)).sum
            ((s3.bleFlush c).bleData c).limAdd 2 0 (s3.bleAir onAir - eng) false

/-- Uses of the 2.4 GHz transceiver that lie ahead, each with its class and time (R322): connection events, of class 1 where they carry a
token session, and the next advertising event. -/
def State.bleUses (s : State) : List (XcUse × Nat × Nat) :=
  (s.ble.conns.zipIdx.filterMap fun p => p.1.map fun x =>
      (XcUse.event p.2, if (s.sesOn (.ble p.2)).isSome then 1 else 2, x.anchor)) ++
    (if s.advWanted then [(XcUse.adv, 1, s.ble.advAt)] else [])

/-- Time passes for the transceivers (R317, R318): the link layer asks for the 2.4 GHz transceiver 100 µs before each event (DESIGN CHOICE,
log entry 65), and both go on as their requests fall due. -/
def State.radioSettle (s : State) : State :=
  if !s.cksOn || s.pwr.held then s
  else
    let s1 := s.bleUses.foldl (fun s u =>
      if s.now + us 100 < u.2.2 || s.rfc.ble.q.any (fun r => r.use = u.1) then s
      else s.xcRequestAt .ble (if u.2.2 < s.now then s.now else u.2.2 - us 100)
        ⟨u.2.1, u.1 = .adv, some u.2.2, none, s.rfc.ble.chan, true, u.1, none⟩) s
    (s1.xcSettle .uwb).xcSettle .ble

/-! ### Engine commands (R371 to R378) -/

/-- The first engine write to a free characteristic claims it; a write by any other engine is refused (R371). -/
def State.charClaim (s : State) (i eng : Nat) : Option (Nat × Nat) × State :=
  let o := (s.bleChar i).owner
  if o = eng then (none, s)
  else if o = 0xFF then (none, s.modChar i fun x => { x with owner := eng })
  else (some (Rc.denied, Dt.notOwner), s)

/-- The engine a requester is; 0xFE for any other. -/
def engOf : Requester → Nat
  | .engine n => n
  | _ => 0xFE

/-- BleEngPublish (R372): every claimed characteristic is checked, its pending values take hold, and Service Changed is sent. -/
def State.charPublish (s : State) (arg : Bytes) : Resp × State :=
  let mine := (List.range 16).filter fun i => (s.bleChar i).owner ≠ 0xFF
  let fixed := [zariqueUuid 1, zariqueUuid 2, zariqueUuid 3] ++ [0x1800, 0x2A00, 0x2A01, 0x1801, 0x2A05].map baseUuid
  let bad := mine.any fun i =>
    let u := s.charUuid i true
    fixed.contains u || (mine.any fun j => j ≠ i && s.charUuid j true == u) || s.gp (0x3140 + i) 2 % 32 = 0
  if arg ≠ [] then (⟨Rc.type, Dt.length, []⟩, s)
  else if bad then (⟨Rc.range, Dt.charInvalid, []⟩, s)
  else
    let s1 := mine.foldl (fun s i =>
      ((((s.applyPend (0x3140 + i) 1).applyPend (0x3140 + i) 2).applyPend (0x3140 + i) 4).modChar i fun x => { x with pub := true })) s
    (⟨Rc.ok, 0, []⟩,
      { s1 with ble.conns := s1.ble.conns.map fun o => o.map fun (x : BleConn) =>
          { x with svc := x.svc || bit (x.cccdOf 0x09) 1 } })

/-- BleEngNotify (R262, R375, R377, R378). -/
def State.charNotify (s : State) (eng : Nat) (arg : Bytes) : Resp × State :=
  let i := byteAt 0 arg
  let mask := byteAt 1 arg
  if arg.length ≠ 2 then (⟨Rc.type, Dt.length, []⟩, s)
  else if 16 ≤ i then (⟨Rc.range, 0, []⟩, s)
  else if s.gate.quench then (⟨Rc.quenched, 0, []⟩, s)
  else if (s.bleChar i).owner ≠ eng then (⟨Rc.denied, Dt.notOwner, []⟩, s)
  else if 1 ≤ s.bg.stage then (⟨Rc.rateLimited, Dt.thermal, []⟩, s)
  else if !((List.range 8).any fun c => bit mask c && (s.conn c).isSome) then (⟨Rc.range, Dt.noConnection, []⟩, s)
  else
    let p := s.charProps i
    let want := fun (x : BleConn) => (bit p 3 && bit (x.cccdOf (0x23 + 3 * i)) 0, bit p 4 && bit (x.cccdOf (0x23 + 3 * i)) 1)
    let targets := (List.range 8).filter fun c => bit mask c && (s.bleChar i).pub &&
      ((s.conn c).map fun x => (want x).1 || (want x).2).getD false
    let v := (s.bleChar i).val.take (s.g (0x3140 + i) 4)
    let waiting := (s.ble.conns.map fun o => (o.map fun (x : BleConn) => ((x.ntf.filter fun n => !n.sent).map (s.ntfTime x.phy)).sum).getD 0).sum
    let air := waiting + (targets.map fun c => ((s.conn c).map fun x => s.bleAir (us (ntfAir x.phy v.length))).getD 0).sum
    if targets.any fun c => ((s.conn c).map fun x => decide (8 ≤ x.ntf.length)).getD false then (⟨Rc.busy, Dt.queueFull, []⟩, s)
    else if s.overShare 2 0 air then (⟨Rc.rateLimited, Dt.engShare, []⟩, s)
    else
      (⟨Rc.ok, 0, [BitVec.ofNat 8 ((targets.map fun c => 2 ^ c).sum)]⟩,
        targets.foldl (fun s c => s.modConn c fun x => { x with ntf := x.ntf ++ [⟨i, eng, v, !(want x).1, false⟩] }) s)

/-- BleEngRelease (R371, R378). -/
def State.charRelease (s : State) (eng : Nat) (arg : Bytes) : Resp × State :=
  let i := byteAt 0 arg
  if arg.length ≠ 1 then (⟨Rc.type, Dt.length, []⟩, s)
  else if 16 ≤ i then (⟨Rc.range, 0, []⟩, s)
  else if (s.bleChar i).owner ≠ eng then (⟨Rc.denied, Dt.notOwner, []⟩, s)
  else (⟨Rc.ok, 0, []⟩, s.modChar i fun _ => ⟨0xFF, [], [], false⟩)

/-- BleEngRx (R374, R377). -/
def State.charRx (s : State) (eng : Nat) (arg : Bytes) : Resp × State :=
  let i := byteAt 0 arg
  if arg.length ≠ 1 then (⟨Rc.type, Dt.length, []⟩, s)
  else if 16 ≤ i then (⟨Rc.range, 0, []⟩, s)
  else if (s.bleChar i).owner ≠ eng then (⟨Rc.denied, Dt.notOwner, []⟩, s)
  else
    match (s.bleChar i).rxq with
    | [] => (⟨Rc.ok, 0, [0, 0]⟩, s)
    | q :: qs => (⟨Rc.ok, 0, [BitVec.ofNat 8 q.1, BitVec.ofNat 8 q.2.length] ++ q.2⟩, s.modChar i fun x => { x with rxq := qs })


end Sys2Proof.Machine
end

