-- ==== Sys2Proof/Machine/Cap.lean ====
section
/-! DEFINITION. Capacitive sensing (R379 to R385): scans, debounce, gangs, stuck channels, and handing a touch on. -/
namespace Sys2Proof.Machine

/-- A capacitive channel is present and enabled. -/
def State.capOn (s : State) (n : Nat) : Bool := s.has (12 + n) && bit (s.g 0x3400 0) n

/-- A capacitive channel. -/
def State.capCh (s : State) (n : Nat) : CapCh := s.cap.ch.getD n ⟨0, none, false, 0, 0, 0, false⟩

/-- A capacitive channel changed. -/
def State.setCap (s : State) (n : Nat) (c : CapCh) : State := { s with cap.ch := putAt s.cap.ch n c }

/-- The baseline after `dt` time units of the filter (R380), by its first-order difference form (log entry 34). -/
def State.capFilter (s : State) (b : Rat) (c dt : Nat) : Rat :=
  let tau := secs (s.g 0x3405 0)
  if tau ≤ dt then c else b + ((c : Rat) - b) * (dt : Rat) / (tau : Rat)

/-- The scan period (R379). -/
def State.scanPeriod (s : State) : Nat := secs 1 / s.g 0x3401 0

/-- A channel becomes touched now: the touch waits for the access state machines, and advertising is boosted (R362, R381, R385). -/
def State.capTouch (s : State) (n : Nat) : State :=
  { s.setCap n { s.capCh n with touched := true, ovr := 0, since := s.now } with cap.held := s.cap.held ++ [(n, s.now)] }.bleBoost

/-- One periodic measurement of a channel (R380 to R383): its new state, and whether it crosses its threshold. -/
def State.capMeasure (s : State) (n c : Nat) : CapCh × Bool :=
  let x := { s.capCh n with raw := c }
  match x.base with
  | none => ({ x with base := some c }, false)
  | some b =>
    let d : Rat := (c : Rat) - b
    let thr : Rat := s.g 0x3402 (n + 1)
    let low := decide (d < thr * (s.g 0x3403 0 : Nat) / 100)
    if x.touched then ({ x with touched := !low }, false)
    else
      let y := { x with base := some (s.capFilter b c s.scanPeriod), blk := x.blk && !low }
      if x.blk || x.ovr ≠ 0 || d < thr then (y, false) else (y, true)

/-- A channel that crosses counts its first measurement over the threshold (R381); with CapDebounce 1 it is touched at once. -/
def State.capCross (s : State) (n : Nat) : State :=
  if s.g 0x3404 0 ≤ 1 then s.capTouch n
  else s.setCap n { s.capCh n with ovr := 1, due := s.now + ms 1 }

/-- One scan (R379 to R383) with the capacitances measured, in 0.02 pF. Where CapGangLimit or more channels cross in it, none is touched and
the crossing is counted; each crosses again only after falling below its release level. -/
def State.capScan (s0 : State) (cs : List Nat) : State :=
  if s0.now < s0.cap.scanAt + s0.scanPeriod && s0.cap.scanAt ≠ 0 then s0
  else
    let s := { s0.boundary .bNextScan with cap.scanAt := s0.now, cap.cross := [], cap.gang := false }
    let s1 : State := (List.range 4).foldl (fun (s : State) n =>
      if s.capOn n then
        let r := s.capMeasure n (cs.getD n 0)
        let s2 := s.setCap n r.1
        if r.2 then { s2 with cap.cross := s2.cap.cross ++ [n] } else s2
      else s) s
    if s1.g 0x3406 0 ≤ s1.cap.cross.length then
      (s1.cap.cross.foldl (fun (s : State) n => s.setCap n { s.capCh n with blk := true }) { s1 with cap.gang := true }).bump 0x3412 0
    else s1.cap.cross.foldl State.capCross s1

/-- A confirming measurement (R381). -/
def State.capConfirm (s : State) (n c : Nat) : State :=
  let x := s.capCh n
  if !s.capOn n || x.touched || x.ovr = 0 || s.now < x.due then s
  else
    match x.base with
    | none => s
    | some b =>
      let y := { x with raw := c, base := some (s.capFilter b c (ms 1)) }
      if (c : Rat) - b < (s.g 0x3402 (n + 1) : Nat) then s.setCap n { y with ovr := 0 }
      else if s.g 0x3404 0 ≤ x.ovr + 1 then (s.setCap n y).capTouch n
      else s.setCap n { y with ovr := x.ovr + 1, due := s.now + ms 1 }

/-- A channel touched for CapStuckTime is rebaselined and released without an event (R384). -/
def State.capStuck (s : State) (n : Nat) : State :=
  let x := s.capCh n
  if x.touched && x.since + secs (s.g 0x3407 0) ≤ s.now then
    (s.setCap n { x with touched := false, base := some x.raw }).bump 0x3413 (n + 1)
  else s

/-- An LF channel is present and in use (R406). -/
def State.lfUsable (s : State) (c : Nat) : Bool := c < 4 && s.has (16 + c) && bit (s.g 0x3300 0) c

/-- The LF poll of a touch, none where no channel is named or the channel is absent or disabled (R170, R406). -/
def State.lfPollOf (s : State) (c gate : Nat) : Option LfEx := if s.lfUsable c then some ⟨c, gate, .poll, none, [], 0⟩ else none

/-- A held touch is handed on once CORE runs with its clocks good, the DRBG seeded and ACCESS_READY reached (R29, R170, R385, R652): the MANAGER
serves it, a worker or a standby reports it (R32, R612). -/
def State.touchHandoff (s : State) (n : Nat) : State :=
  match s.cap.held.find? fun h => h.1 = n with
  | none => s
  | some h =>
    if !s.pwr.core || !s.clocksOk || s.rng.st ≠ .seeded || (s.pwr.phase ≠ .ready && !s.gate.quench) then s
    else
      let s1 := { s with cap.held := s.cap.held.filter fun (x : Nat × Nat) => x ≠ h }
      if s1.gate.quench then s1
      else if s1.hasAccess && s1.seg.role = .manager then
        (if s1.deciding then s1.touch (s1.g 0x2220 (n + 1)) (s1.lfPollOf (s1.g 0x2221 (n + 1)) (s1.g 0x2220 (n + 1))) h.2 else s1)
      else
        s1.sendReport 0 [] []
          [[0x01, BitVec.ofNat 8 n, BitVec.ofNat 8 (s1.g 0x4214 (n + 1)), BitVec.ofNat 8 (s1.g 0x4215 (n + 1))] ++
            toLe 2 (min 65535 ((s1.now - h.2) / us 10))] Item.toBytes

/-- CapTouchState (R405). -/
def State.touchState (s : State) : Nat := (s.cap.ch.zipIdx.map fun p => if p.1.touched then 2 ^ p.2 else 0).sum

end Sys2Proof.Machine
end

