-- ==== Sys2Proof/Machine/Lf.lean ====
section
/-! DEFINITION. The LF channels (R386 to R403): exchanges and their frames, replies, collisions and slot polling, key transfer at a coil,
faults and LfDiagRun. -/
namespace Sys2Proof.Machine

/-- One bit cell: 250 µs (R392). -/
def lfCell (n : Nat) : Nat := us (250 * n)

/-- The bits of an octet, bit 7 first. -/
def octetBits (b : BitVec 8) : List Bool := (List.range 8).map fun i => b.getLsbD (7 - i)

/-- The carrier pauses of a downlink frame in µs (R392): SOF, then each bit, octets with bit 7 first. -/
def lfPauses (f : Bytes) : List Nat := 104 :: (f.flatMap octetBits).map fun b => if b then 56 else 24

/-- Manchester cells (R393): a 1 is loaded in the first half and unloaded in the second, a 0 the reverse; an unclear half or two equal halves
are a violation. -/
def manBits : Halves → Option (List Bool)
  | [] => some []
  | some a :: some b :: r => if a = b then none else (manBits r).map (a :: ·)
  | _ => none

/-- Octets of bits, bit 7 first; at most `n`. -/
def bitOctets : Nat → List Bool → Bytes
  | 0, _ => []
  | _, [] => []
  | n + 1, bs => BitVec.ofNat 8 ((bs.take 8).foldl (fun v b => 2 * v + b2n b) 0) :: bitOctets n (bs.drop 8)

/-- The `n` octets of an uplink segment, none on a violation (R393). -/
def lfOctets (n : Nat) (h : Halves) : Option Bytes :=
  match manBits h with
  | some bs => if bs.length = 8 * n then some (bitOctets n bs) else none
  | none => none

/-- LF_REQUEST to a worker (R613): a fresh nonce, kept for the reply. TID 0 asks for a POLL. -/
def State.lfRequest (s : State) (node chan gate tid : Nat) : State :=
  if !s.drawOk || s.seg.lfOut.any fun (o : LfOut) => o.node = node && o.chan = chan && o.gate = gate && tid = 0 then s
  else
    let r := s.newNonce (.lf chan) 0 gate
    let q := (s.seg.lfReq + 1) % 2 ^ 16
    let o : LfOut := ⟨q, node, chan, gate, r.1, s.now⟩
    { r.2 with seg.lfReq := q, seg.lfOut := r.2.seg.lfOut ++ [o] }.nodeSend node 0x24
      (toLe 2 q ++ [BitVec.ofNat 8 chan, BitVec.ofNat 8 gate] ++ toLe 4 tid ++ r.1)

/-- The carrier of a channel goes off now: its on-time ends (R389). -/
def State.lfCarrierOff (s : State) : State :=
  match s.lf.run with
  | none => s
  | some r =>
    { s with lf.run := some { r with on := false },
             gate.onTimes := s.gate.onTimes.map fun (o : OnTime) =>
               if o.lim = 3 && o.ch = r.ex.chan then { o with t1 := min o.t1 s.now } else o }

/-- The outcome of a worker's exchange that found no key (R612). -/
def lfRecord (typ chan req : Nat) : Bytes := [BitVec.ofNat 8 typ, BitVec.ofNat 8 chan, 0, 0] ++ toLe 2 req ++ [0, 0]

/-- The next slot poll, or the end of slot polling (R401). -/
def State.slotNext (s : State) (p : SlotPoll) : State :=
  let rest := s.lf.slots.filter fun (x : SlotPoll) => x.chan ≠ p.chan || x.gate ≠ p.gate || x.node ≠ p.node
  let gone := p.ses ≠ [] && !(p.ses.any fun k => (s.acc.entry.any fun e => e.key = k) || s.acc.start.any fun e => e.key = k)
  let s0 := { s with lf.slots := rest }
  match p.left with
  | [] => s0
  | e :: es =>
    if s.g 0x3305 0 ≤ p.done || gone then s0
    else
      let tid := (s.tokAt e).tid
      let s1 := { s0 with lf.slots := rest ++ [{ p with left := es, done := p.done + 1 }] }
      match p.node with
      | none => { s1 with lf.q := (⟨p.chan, p.gate, LfKind.slot tid e, none, [], 0⟩ : LfEx) :: s1.lf.q }
      | some n => s1.lfRequest n p.chan p.gate tid

/-- Slot polling begins (R400): every ACTIVE token of the LF classes in ascending entry number, but for those locked out on the channel. -/
def State.slotStart (s : State) (chan gate : Nat) (node : Option Nat) : State :=
  let ok := fun (p : TokEntry × Nat) =>
    p.1.st = 1 && (p.1.cls = 3 || (p.1.cls = 4 && s.g 0x3301 0 = 1)) &&
      !(((s.failOf (.tok p.1.tid) (3 + chan)).map fun f => s.inLock f.lock).getD false)
  let es := (s.acc.toks.zipIdx.filter ok).map (·.2)
  let ks := if gate = 3 then s.acc.start.map (·.key) else (s.acc.entry.filter (·.passive)).map (·.key)
  s.slotNext ⟨chan, gate, es, 0, node, ks⟩

/-- The slot polling of a channel, gate and node. -/
def State.slotOn (s : State) (chan gate : Nat) (node : Option Nat) : Option SlotPoll :=
  s.lf.slots.find? fun p => p.chan = chan && p.gate = gate && p.node = node

/-- An exchange has ended; `won` says that its key was accepted. Its nonce goes; slot polling stops or moves on, and a worker reports LF_NONE
(R388, R400, R401, R612). -/
def State.lfOver (s : State) (x : LfEx) (won : Bool) : State :=
  let s1 := { s with lf.run := none, lf.waited := false,
                     acc.nonces := s.acc.nonces.filter fun (n : Nonce) => n.car ≠ Carrier.lf x.chan,
                     acc.tx := s.acc.tx.filter fun (m : Carrier × Bytes) => m.1 ≠ Carrier.lf x.chan }
  match x.kind with
  | .uid | .key => s1
  | _ =>
    match x.req with
    | some q => if won then s1 else s1.sendReport 0 [] [] [lfRecord 0x04 x.chan q] Item.toBytes
    | none =>
      match s1.slotOn x.chan x.gate none with
      | some p =>
        if won then { s1 with lf.slots := s1.lf.slots.filter fun (y : SlotPoll) => y.chan ≠ x.chan || y.gate ≠ x.gate || y.node.isSome }
        else (match x.kind with | .slot _ _ => s1.slotNext p | _ => s1)
      | none => s1

/-- An exchange that cannot be made ends with no key; a transfer at its coil fails (R193, R391). -/
def State.lfFail (s : State) (x : LfEx) : State :=
  let s1 := s.lfOver x false
  match x.kind with
  | .uid | .key => s1.xferFail
  | _ => s1

/-- The exchange running ends with no key: carrier off (R398). -/
def State.lfEnd (s : State) : State :=
  match s.lf.run with
  | none => s
  | some r => s.lfCarrierOff.lfFail r.ex

/-- Faults of a channel latched (R390). -/
def State.lfFaults (s : State) (c : Nat) : Nat := s.g 0x3306 (c + 1)

/-- Faults are latched and, where one of them is not DETUNED, the exchange aborts (R390, R391). `f` are their bits. -/
def State.lfAbort (s : State) (c f : Nat) : State :=
  let s1 := s.put 0x3306 (c + 1) (s.lfFaults c ||| f)
  if clrBit f 3 = 0 then s1
  else
    let s2 := (s1.bump 0x3309 4).logEv 0x0F 0x06 0x90 [0x00, BitVec.ofNat 8 c, BitVec.ofNat 8 (s1.lfFaults c)]
    let s3 := if bit f 2 || bit f 4 then s2.errBit 4 0x3300 0x06 0x90 else s2
    { s3 with lf.out := some (c, Rc.notReady, Dt.lfFault) }.lfEnd

/-! ### Starting (R386 to R389, R394) -/

/-- Bits of a downlink frame after its SOF. -/
def lfFrameBits : LfKind → Nat
  | .poll => 8 * 17
  | .slot _ _ => 8 * 21
  | .uid => 8
  | .key => 8 * 25

/-- Carrier time of the downlink (R394, R403), with the charge time in µs; a KEY_LOAD pair with its 500 µs gap. -/
def lfDown (charge : Nat) (k : LfKind) : Nat :=
  match k with
  | .key => us charge + lfCell (1 + 200) + us 500 + lfCell (1 + 200)
  | _ => us charge + lfCell (1 + lfFrameBits k)

/-- Carrier time of the longest reply (R389). -/
def State.lfReply (s : State) (k : LfKind) : Nat :=
  let legacy := lfCell (1 + 120)
  let seg2 := lfCell (1 + 64)
  match k with
  | .poll => if s.g 0x3301 0 = 1 then legacy else seg2
  | .slot _ e => if (s.tokAt e).cls = 4 || (s.tokAt e).tid = 0 && s.g 0x3301 0 = 1 then legacy else seg2
  | .uid => lfCell (1 + 72)
  | .key => ms 2 + lfCell 72

/-- The planned on-time (R389). -/
def State.lfPlan (s : State) (k : LfKind) : Nat :=
  lfDown (s.g 0x3304 0) k + s.lfReply k - (match k with | .key => us 500 | _ => 0)

/-- The downlink frame (R394), with the nonce, or with the block of a transfer (R403). -/
def State.lfFrame (s : State) (x : LfEx) (nonce : Bytes) : Option Bytes :=
  match x.kind with
  | .poll => some ([BitVec.ofNat 8 (0x10 + x.gate % 4)] ++ nonce)
  | .slot tid _ => some ([BitVec.ofNat 8 (0x20 + x.gate % 4)] ++ toLe 4 tid ++ nonce)
  | .uid => some [0x30]
  | .key =>
    match (s.acc.learn.bind (·.xfer)).bind (·.uid) with
    | none => none
    | some u => (s.coilBlock u).map fun b => [0x40] ++ u ++ b.take 16 ++ [0x41] ++ u ++ b.drop 16

/-- Limiter 3 leaves room for the whole planned on-time (R389): with it, the on-time of the last second stays within the duty ceiling. -/
def State.lfRoom (s : State) (c plan : Nat) : Bool := s.onTime 3 c false s.now + plan ≤ ms 150

/-- A poll needs a nonce, drawn here for a poll of the manager's own (R29). -/
def LfEx.draws (x : LfEx) : Bool :=
  match x.kind with
  | .poll | .slot _ _ => x.req.isNone
  | _ => false

/-- The exchange in front starts (R388 to R391, R394). `vlf` is VLF in mV. -/
def State.lfStart (s0 : State) (vlf : Nat) : State :=
  let s := (s0.put 0x3308 0 vlf).boundary .bNextExchange
  match s.lf.q with
  | [] => s0.put 0x3308 0 vlf
  | x :: rest =>
    if s.lf.run.isSome || s.lf.diag.isSome || s.gate.quench || s.bg.stage = 4 || !s.pwr.core || !s.clocksOk || (x.draws && !s.drawOk) then s
    else
      let s1 := { s with lf.q := rest, lf.waited := false }
      let f := s.lfFaults x.chan
      let plan := s.lfPlan x.kind
      if !s.lfUsable x.chan then s1.lfFail x
      else if clrBit f 3 ≠ 0 then
        { s1 with lf.out := some (x.chan, Rc.notReady, if clrBit f 3 = 32 then Dt.vlfLow else Dt.lfFault) }.lfFail x
      else if vlf < 5700 then
        { (((s1.put 0x3306 (x.chan + 1) (setBit f 5)).bump 0x3309 4).logEv 0x0F 0x06 0x91
          [0x00, BitVec.ofNat 8 x.chan, BitVec.ofNat 8 (setBit f 5)]) with lf.out := some (x.chan, Rc.notReady, Dt.vlfLow) }.lfFail x
      else if !s.lfRoom x.chan plan then (if s.lf.waited then s else { s with lf.waited := true }.bump 0x3309 5)
      else
        let r := if x.draws then s1.newNonce (.lf x.chan) 0 x.gate else (x.nonce, s1)
        match r.2.lfFrame x r.1 with
        | none => r.2.lfFail x
        | some fr =>
          let d := lfDown (s.g 0x3304 0) x.kind
          let run : LfRun :=
            { ex := x, nonce := r.1, start := s.now, dlEnd := s.now + d, on := true, seg1 := none, legacy := false, back := false, meas := false,
              plan := s.now + d + us 500 + s.lfReply x.kind, frame := fr,
              wave := match x.kind with | .key => [lfPauses (fr.take 25), lfPauses (fr.drop 25)] | _ => [lfPauses fr] }
          let s2 := { r.2 with lf.run := some run, lf.out := none }
          let s3 := match x.kind with
            | .key =>
              let d1 := us (s.g 0x3304 0) + lfCell 201
              (s2.limAdd 3 x.chan d1 false).limAddAt 3 x.chan (s.now + d1 + us 500) (lfCell 201) false
            | _ => s2.limAdd 3 x.chan d false
          s3.bump 0x3309 1

/-- The drive measurement after 500 µs (R390, R391): peak current in mA, phase in 0.1°, a short and a bridge above 150 °C as found. -/
def State.lfMeasure (s : State) (peak : Nat) (phase : Int) (short hot : Bool) : State :=
  match s.lf.run with
  | none => s
  | some r =>
    if r.meas then s
    else
      let c := r.ex.chan
      let s1 := ({ s with lf.run := some { r with meas := true } }.put 0x3307 (c + 1) peak).put 0x3307 (c + 5) (toTwos 16 phase)
      s1.lfAbort c (b2n (decide (peak * 5 < s1.g 0x3303 (c + 1))) + 2 * b2n short + 8 * b2n (decide (450 < phase.natAbs)) + 16 * b2n hot)

/-- The coil current has reached 1.5 A (R387, R390). -/
def State.lfOver15 (s : State) : State :=
  match s.lf.run with
  | none => s
  | some r => s.lfAbort r.ex.chan 4

/-- 500 µs after the last downlink bit the carrier returns for the reply, unless a legacy reply alone could come and is not enabled
(R395, R398). -/
def State.lfReturn (s : State) : State :=
  match s.lf.run with
  | none => s
  | some r =>
    if s.now < r.dlEnd + us 500 || r.back then s
    else
      let poll := match r.ex.kind with | .poll | .slot _ _ => true | _ => false
      if poll && r.seg1.isNone && s.g 0x3301 0 = 0 then s.lfCarrierOff.lfFail r.ex
      else { s with lf.run := some { r with on := true, back := true, legacy := r.legacy || (poll && r.seg1.isNone) } }.limAdd 3 r.ex.chan (s.lfReply r.ex.kind) false

/-- The carrier has returned for the reply. -/
def LfRun.replies (r : LfRun) : Bool := r.on && r.back

/-! ### Replies (R395 to R403) -/

/-- A collision (R400): carrier off, nonce gone, counted; the manager polls by slot, a slot poll moves on, a worker reports it. -/
def State.lfCollision (s : State) : State :=
  match s.lf.run with
  | none => s
  | some r =>
    let s1 := s.lfCarrierOff.bump 0x3309 3
    match r.ex.req with
    | some q =>
      { s1 with lf.run := none, lf.waited := false }.sendReport 0 [] [] [lfRecord 0x03 r.ex.chan q] Item.toBytes
    | none =>
      match r.ex.kind with
      | .poll => (s1.lfOver r.ex false).slotStart r.ex.chan r.ex.gate none
      | _ => s1.lfOver r.ex false

/-- SEG1 (R395, R399, R400): TID and C after its SYNC. -/
def State.lfSeg1 (s : State) (h : Halves) : State :=
  match s.lf.run with
  | none => s
  | some r =>
    match r.ex.kind with
    | .poll | .slot _ _ =>
      if !r.on || r.legacy || r.seg1.isSome || r.dlEnd ≤ s.now then s
      else match lfOctets 8 h with
        | none => s.lfCollision
        | some d => { s with lf.run := some { r with seg1 := some (leAt 0 4 d, leAt 4 4 d) } }
    | _ => s

/-- No SYNC by the end of its cells (R398, R402, R193): a legacy reply is awaited, or the exchange ends. -/
def State.lfNoSync (s : State) : State :=
  match s.lf.run with
  | none => s
  | some r =>
    match r.ex.kind with
    | .poll | .slot _ _ =>
      if r.seg1.isSome && !r.replies then s
      else if r.replies then s.lfEnd
      else { s with lf.run := some { r with legacy := true } }
    | .uid =>
      if r.ex.tries < 2 then
        let s1 := s.lfCarrierOff.lfOver r.ex false
        { s1 with lf.q := { r.ex with tries := r.ex.tries + 1 } :: s1.lf.q }
      else s.lfEnd
    | .key => s.lfEnd

/-- A complete reply without violation (R399): judged on the manager, reported by a worker. -/
def State.lfPresented (s : State) (r : LfRun) (tid c : Nat) (proof : Bytes) (legacy : Bool) (snr : Nat) : State :=
  let s1 := s.lfCarrierOff
  match r.ex.req with
  | some q =>
    ({ s1 with lf.run := none, lf.waited := false }).sendReport 0 [] []
      [[0x02, BitVec.ofNat 8 r.ex.chan, BitVec.ofNat 8 (min 255 snr), BitVec.ofNat 8 (b2n legacy)] ++ toLe 2 q ++ [0, 0] ++ toLe 4 tid ++
        toLe 4 c ++ proof] Item.toBytes
  | none =>
    let p := s1.lfProof r.ex.chan r.ex.gate tid c proof legacy
    let s2 := if p.1 then
        (match p.2.sesOn (.lf r.ex.chan) with
         | some (_, x) => (p.2.tsAdmit ⟨4, p.2.seg.node, r.ex.chan, 0, x.tsh, 0, 0, min 255 snr, 0, 0⟩ (some s.now)).bump 0x3309 2
         | none => p.2)
      else p.2
    s2.lfOver r.ex p.1

/-- SEG2 (R395, R399). -/
def State.lfSeg2 (s : State) (h : Halves) (snr : Nat) : State :=
  match s.lf.run with
  | none => s
  | some r =>
    match r.seg1 with
    | some (tid, c) =>
      if !r.replies then s
      else match lfOctets 8 h with
        | none => s.lfEnd
        | some proof => s.lfPresented r tid c proof false snr
    | none => s

/-- A legacy REPLY (R395, R398 to R400): TID, C16 and PROOF after its SYNC. -/
def State.lfReplyIn (s : State) (h : Halves) (snr : Nat) : State :=
  match s.lf.run with
  | none => s
  | some r =>
    if !r.legacy || !r.replies then s
    else match lfOctets 14 h with
      | none => s.lfCollision
      | some d => s.lfPresented r (leAt 0 4 d) (leAt 4 2 d) (d.drop 6) true snr

/-- UID (R402): the transfer goes on with KEY_LOAD. -/
def State.lfUid (s : State) (h : Halves) : State :=
  match s.lf.run with
  | none => s
  | some r =>
    if r.ex.kind ≠ .uid || !r.replies then s
    else match lfOctets 8 h with
    | none => s.lfNoSync
    | some uid =>
      let s1 := s.lfCarrierOff.lfOver r.ex true
      match s1.acc.learn with
      | none => s1
      | some l =>
        { s1 with acc.learn := some { l with xfer := l.xfer.map fun (x : Transfer) => { x with uid := some uid } },
                  lf.q := (⟨r.ex.chan, 0xFF, LfKind.key, none, [], 0⟩ : LfEx) :: s1.lf.q }

/-- CONFIRM (R193, R403). -/
def State.lfConfirm (s : State) (h : Halves) : State :=
  match s.lf.run with
  | none => s
  | some r =>
    if r.ex.kind ≠ .key || !r.replies then s
    else
      let s1 := s.lfCarrierOff.lfOver r.ex true
      let uid := ((s1.acc.learn.bind (·.xfer)).bind (·.uid)).getD []
      if ((lfOctets 8 h).map fun check => s1.coilCheck uid check).getD false then s1.xferConfirm else s1.xferFail

/-- LF_REQUEST at a worker (R613): an exchange under its own limiter. -/
def State.lfServe (s : State) (req chan gate tid : Nat) (nonce : Bytes) : State :=
  let x : LfEx := ⟨chan, gate, if tid = 0 then .poll else .slot tid 64, some req, nonce, 0⟩
  if s.lfUsable chan then { s with lf.q := s.lf.q ++ [x] } else s.sendReport 0 [] [] [lfRecord 0x04 chan req] Item.toBytes

/-! ### Diagnosis (R391) -/

/-- LfDiagRun begins (R391, R406, R407). In Quench it is served too (R721), with every transmitter off (R267). -/
def State.lfDiag (s : State) (who : Requester) (arg : Bytes) : Option Resp × State :=
  let c := byteAt 0 arg
  if arg.length ≠ 1 then (some ⟨Rc.type, Dt.length, []⟩, s)
  else if 4 ≤ c then (some ⟨Rc.range, 0, []⟩, s)
  else if !s.has (16 + c) then (some ⟨Rc.absent, 0, []⟩, s)
  else if s.lf.run.isSome || s.lf.q ≠ [] || s.lf.diag.isSome then (some ⟨Rc.busy, Dt.unitActive, []⟩, s)
  else
    let s1 := { s with lf.diag := some (who, c) }
    (none, if s.gate.quench then s1 else s1.limAdd 3 c (ms 1) false)

/-- LfDiagRun ends (R390, R391): it passes where no fault other than DETUNED shows, and clears the channel's faults then. The result is the
faults it found. In Quench no carrier stood, so the coil current is 0. -/
def State.lfDiagDone (s : State) (peakIn : Nat) (phase : Int) (short hot ovr : Bool) (vlf : Nat) : State :=
  match s.lf.diag with
  | none => s
  | some (who, c) =>
    let peak := if s.gate.quench then 0 else peakIn
    let f := b2n (decide (peak < 20)) + 2 * b2n short + 4 * b2n ovr + 8 * b2n (decide (450 < phase.natAbs)) + 16 * b2n hot +
      32 * b2n (decide (vlf < 5700))
    let s1 := (({ s with lf.diag := none }.put 0x3308 0 vlf).put 0x3307 (c + 1) peak).put 0x3307 (c + 5) (toTwos 16 phase)
    let s2 := if clrBit f 3 = 0 then s1.put 0x3306 (c + 1) 0 else s1
    s2.answer who 0x330B ⟨Rc.ok, 0, [BitVec.ofNat 8 f]⟩

/-- VLF is above 6.0 V again (R391). -/
def State.vlfBack (s : State) (vlf : Nat) : State :=
  let s1 := s.put 0x3308 0 vlf
  if vlf ≤ 6000 then s1 else (List.range 4).foldl (fun s c => s.put 0x3306 (c + 1) (clrBit (s.lfFaults c) 5)) s1

/-- An LF token session ends when its exchange is over and nothing of it is open (R154; log entry 35). -/
def State.lfSettle (s : State) : State :=
  let ovr := s.acc.ses.filterMap fun o => o.bind fun x =>
    match x.car with
    | .lf c =>
      if ((s.lf.run.map fun r => decide (r.ex.chan = c)).getD false) || (s.ts.reqs.any fun q => q.tsh = x.tsh) || !s.advClear x.tsh then none
      else some x.tsh
    | _ => none
  ovr.foldl (fun s t => s.endSession t none) s

end Sys2Proof.Machine
end

