-- ==== Sys2Proof/Machine/Nfc.lean ====
section
/-! DEFINITION. The NFC reader (R408 to R420): pings, activations, the exchange of Zarique messages and AT_COIL transfers, faults; and how a
Zarique message is judged on any carrier. -/
namespace Sys2Proof.Machine

/-- A reader port. -/
def State.nfcPort (s : State) (p : Nat) : NfcPort := s.nfc.ports.getD p ⟨0, none, 0, 0, 0, 0, none, 0, none, none⟩

/-- A reader port changed. -/
def State.modNfc (s : State) (p : Nat) (f : NfcPort → NfcPort) : State := { s with nfc.ports := modAt s.nfc.ports p f }

/-- The port is present, enabled, and this device is the MANAGER outside Quench (R409, R441). -/
def State.nfcOn (s : State) (p : Nat) : Bool :=
  p < 2 && s.has (7 + p) && bit (s.g 0x3500 0) p && s.seg.role = .manager && !s.gate.quench && s.bg.stage ≠ 4

/-- Faults latched on a port (R419). -/
def State.nfcFaults (s : State) (p : Nat) : Nat := s.g 0x3512 (p + 1)

/-- The carrier of a port goes off: its on-time ends, and with it the activation and its token session (R154, R416). A transfer that was under
way on it fails (R193, R420). -/
def State.nfcEnd (s : State) (p : Nat) : State :=
  match (s.nfcPort p).act with
  | none => s
  | some a =>
    let s1 := { s with gate.onTimes := s.gate.onTimes.map fun (o : OnTime) =>
      if o.lim = 4 && o.ch = p then { o with t1 := min o.t1 s.now } else o }
    let s2 := (s1.carrierEnd (.nfc p)).modNfc p fun x => { x with act := none, st := if x.st = 5 then 5 else 1 }
    if a.xfer ≠ 0 then s2.xferFail else s2

/-- A fault of a port is latched; but for DETUNED it ends the activation, which completes with NOT_READY (R419). -/
def State.nfcFault (s : State) (p f : Nat) : State :=
  let s1 := s.put 0x3512 (p + 1) (setBit (s.nfcFaults p) f)
  if f = 2 then s1
  else
    let s2 := s1.logEv 0x0F 0x06 0xA1 [0x01, BitVec.ofNat 8 p, BitVec.ofNat 8 (s1.nfcFaults p)]
    s2.nfcEnd p |>.modNfc p fun x => { x with st := 5, next := none, out := some (Rc.notReady, Dt.nfcFault) }

/-- The 300 mA cut acts on a carrier (R419). -/
def State.nfcCut (s : State) (p : Nat) : State := if s.nfcOn p then s.nfcFault p 1 else s

/-- The reference after `dt` of its filter (R412), by its first-order difference form (log entry 34). -/
def refFilter (tau dt : Nat) (r : Rat) (x : Int) : Rat := if tau ≤ dt then x else r + ((x : Rat) - r) * (dt : Rat) / (tau : Rat)

/-- A ping (R410 to R412): the field found before it in 0.1 A/m, and the amplitude and phase measured, in 0.1 %. A latched fault refuses
activations, not pings (R419); the port goes on showing FAULT (DEDUCED, log entry 68). -/
def State.nfcPing (s0 : State) (p ext : Nat) (amp phase : Int) : State :=
  let x0 := s0.nfcPort p
  let st := fun (v : Nat) => if x0.st = 5 then 5 else v
  if !s0.nfcOn p || x0.act.isSome || x0.next.isSome || (x0.pingAt ≠ 0 && s0.now < x0.pingAt + ms (s0.g 0x3501 0)) then s0
  else
    let s := s0.boundary .bNextPing
    if s.g 0x350D 0 < ext then (s.modNfc p fun x => { x with st := st 4, pingAt := s.now }).bump 0x3511 5
    else
      let s1 := (s.bump 0x3511 1).limAdd 4 p (us 20) false
      let x := s1.nfcPort p
      match x.ref with
      | none => s1.modNfc p fun x => { x with st := st 1, pingAt := s.now, lastA := amp, lastP := phase, ref := some ((amp : Rat), (phase : Rat)) }
      | some (ra, rp) =>
        let thr : Rat := s1.g 0x3502 0
        let far := fun (r : Rat) (v : Int) => decide (thr < (v : Rat) - r) || decide (thr < r - (v : Rat))
        if far ra amp || far rp phase then
          ((s1.boundary .bNextDetection).modNfc p fun x =>
            { x with st := st 1, pingAt := s.now, lastA := amp, lastP := phase, cards := 0, next := some (s.now, false) }).bump 0x3511 2
        else
          let tau := secs (s1.g 0x3503 0)
          let dt := if x.pingAt = 0 then ms (s1.g 0x3501 0) else s.now - x.pingAt
          s1.modNfc p fun x =>
            { x with st := st 1, pingAt := s.now, lastA := amp, lastP := phase, ref := some (refFilter tau dt ra amp, refFilter tau dt rp phase) }

/-- An activation's carrier goes on (R410, R413, R414, R417, R419): the field found before it in 0.1 A/m, VNFC in mV, the current 50 µs later in
mA, and how far the phase is from its trim in degrees. -/
def State.nfcStart (s0 : State) (p : Nat) (reserve : Bool) (ext vnfc cur : Nat) (phase : Int) : State :=
  match (s0.nfcPort p).next with
  | none => s0
  | some (t, r) =>
    if s0.now < t || r ≠ reserve || !s0.nfcOn p || !s0.deciding || !s0.clocksOk || !s0.drawOk then s0
    else
      let s := (s0.boundary .bNextCarrier).boundary .bNextActivation
      let s1 := s.modNfc p fun x => { x with next := none, out := none }
      if clrBit (s.nfcFaults p) 2 ≠ 0 then s1.modNfc p fun x => { x with st := 5, out := some (Rc.notReady, Dt.nfcFault) }
      else if s.g 0x350D 0 < ext then (s1.modNfc p fun x => { x with st := 4 }).bump 0x3511 5
      else if vnfc < 2900 then s1.nfcFault p 3
      else
        let i := if reserve then 250 else s.g 0x3504 (p + 1)
        let guard := us (s.g (if reserve then 0x3508 else 0x3507) 0)
        let x := s.nfcPort p
        let a : NfcAct :=
          { phase := .guard, start := s.now, due := s.now + guard, wupa := 0, wupb := 0, trig := none, reserve := reserve,
            req := 0 < x.cards && !reserve, typeB := false, rate := 0, await := none, lastAt := s.now, xfer := 0, capdu := [] }
        let s2 := ((s1.modNfc p fun x => { x with st := 2, act := some a, cards := if reserve then x.cards else x.cards + 1 }).limAdd 4 p
          (ms (s.g 0x3509 0)) false).bump 0x3511 (if reserve then 6 else 4)
        let s3 := if 30 < phase.natAbs then s2.nfcFault p 2 else s2
        if cur * 10 < i then s3.nfcFault p 0 else s3

/-- An activation changed. -/
def State.modAct (s : State) (p : Nat) (f : NfcAct → NfcAct) : State := s.modNfc p fun x => { x with act := x.act.map f }

/-- No card has answered (R412, R414, R417): the reserve attempt follows a ping's activation, and then it is a false wake. -/
def State.nfcNoCard (s : State) (p : Nat) (a : NfcAct) : State :=
  let s1 := s.nfcEnd p
  if a.req then s1
  else if !a.reserve then s1.modNfc p fun x => { x with next := some (s.now + ms 5, true) }
  else
    let s2 := s1.bump 0x3511 3
    s2.modNfc p fun x =>
      if s2.g 0x350C 0 ≤ x.falses + 1 then { x with falses := 0, ref := some ((x.lastA : Rat), (x.lastP : Rat)) }
      else { x with falses := x.falses + 1 }

/-- WUPA or WUPB is due (R413): the first after the guard, then 1 ms apart, up to three times each. -/
def State.nfcWup (s : State) (p : Nat) : State :=
  match (s.nfcPort p).act with
  | none => s
  | some a =>
    if s.now < a.due || (a.phase ≠ .guard && a.phase ≠ .wake) then s
    else
      let ta := bit (s.g 0x3505 0) 0
      let tb := bit (s.g 0x3505 0) 1
      let mark := some (a.trig.getD s.now)
      if ta && a.wupa < 3 && (a.wupa ≤ a.wupb || !tb) then
        s.modAct p fun a => { a with phase := .wake, wupa := a.wupa + 1, trig := mark, due := s.now + ms 1 }
      else if tb && a.wupb < 3 then
        s.modAct p fun a => { a with phase := .wake, wupb := a.wupb + 1, trig := mark, due := s.now + ms 1 }
      else s.nfcNoCard p a

/-- The highest bit rate of an interface byte TA(1) in both directions, not above `m` (R408, R413; PRESUMED: the ISO/IEC 14443 coding, log
entry 36). -/
def nfcRate (ta m : Nat) : Nat :=
  ((List.range 4).filter fun k => k ≤ m && (k = 0 || (bit ta (k - 1) && bit ta (k + 3)))).foldl max 0

/-- TA(1) of an ATS, 0 where it has none. -/
def atsTa (d : Bytes) : Nat := if bit (byteAt 1 d) 4 then byteAt 2 d else 0

/-- A vehicle message as C-APDU (R168). -/
def zqApdu (m : Bytes) : Bytes := [0x80, 0x5A, 0x00, 0x00, BitVec.ofNat 8 m.length] ++ m ++ [0x00]

/-- SELECT by the AID of R168 leaves after activation; Le is 0x00 (the APDU's own form is that of ISO/IEC 7816-4: PRESUMED, log 36). -/
def State.nfcSelect (s : State) (p : Nat) : State :=
  s.modAct p fun a => { a with
    phase := .app, await := some s.now, lastAt := s.now,
    capdu := [0x00, 0xA4, 0x04, 0x00, 0x06, 0xF0, 0x5A, 0x51, 0x01, 0x00, 0x01, 0x00] }

/-- The next waiting vehicle message of a port leaves in a C-APDU, unless a response is awaited (R168, R415). -/
def State.nfcSend (s : State) (p : Nat) : State :=
  match (s.nfcPort p).act with
  | none => s
  | some a =>
    if a.phase ≠ .exchange || a.await.isSome then s
    else
      match s.acc.tx.find? fun m => m.1 = Carrier.nfc p with
      | none => s
      | some m =>
        { s with acc.tx := s.acc.tx.erase m }.modAct p fun a => { a with capdu := zqApdu m.2, await := some s.now, lastAt := s.now }

/-- An AT_COIL transfer waits for this port (R190, R420). -/
def State.nfcXfer (s : State) (p : Nat) : Bool :=
  ((s.acc.learn.bind (·.xfer)).map fun x => decide (x.delivery = 1 && x.port = 0x10 + p && x.uid.isNone)).getD false

/-- SELECT has been answered 90 00: the exchange begins (R168, R413, R420). -/
def State.nfcBegin (s : State) (p : Nat) (a : NfcAct) : State :=
  let s1 := s.modNfc p fun x => { x with st := 3 }
  if s.nfcXfer p then
    s1.modAct p fun a => { a with phase := .exchange, xfer := 1, capdu := [0x80, 0x5B, 0x00, 0x00, 0x08], await := some s.now, lastAt := s.now }
  else if !s.drawOk then s1.nfcEnd p
  else
    let r := (s1.modAct p fun a => { a with phase := .exchange }).newNonce (.nfc p) 4 (s1.g 0x2223 (p + 1))
    let s2 := { r.2 with acc.nonces := r.2.acc.nonces.map fun (n : Nonce) => if n.bytes = r.1 then { n with left := a.trig } else n }
    (s2.vsend (.nfc p) (zqPlain 0x01 (s2.challengeBody 4 (s1.g 0x2223 (p + 1)) r.1))).nfcSend p

/-- A card answers a step of the activation (R413). -/
def State.nfcCard (s : State) (p : Nat) (step : CardStep) (d : Bytes) : State :=
  match (s.nfcPort p).act with
  | none => s
  | some a =>
    let s1 := s.modNfc p fun x => { x with falses := 0 }
    match step with
    | .atqA => if a.phase = .wake then s1.modAct p fun a => { a with phase := .select, typeB := false } else s
    | .atqB => if a.phase = .wake then s1.modAct p fun a => { a with phase := .rats, typeB := true, rate := nfcRate (byteAt 9 d) (s.g 0x3506 0) } else s
    | .select =>
      if a.phase ≠ .select then s
      else if bit (byteAt 0 d) 2 then s
      else if bit (byteAt 0 d) 5 then s.modAct p fun a => { a with phase := .rats }
      else s.nfcEnd p
    | .ats =>
      if a.phase ≠ .rats || a.typeB then s
      else
        let r := nfcRate (atsTa d) (s.g 0x3506 0)
        if r = 0 then (s.modAct p fun a => { a with rate := r }).nfcSelect p else s.modAct p fun a => { a with phase := .pps, rate := r }
    | .attrib => if a.phase = .rats && a.typeB then s.nfcSelect p else s
    | .pps => if a.phase = .pps then s.nfcSelect p else s
    | .app =>
      if a.phase ≠ .app then s
      else if d.drop (d.length - 2) = [0x90, 0x00] then (s.modAct p fun a => { a with await := none }).nfcBegin p a else s.nfcEnd p

/-! ### Zarique messages on any carrier (R156 to R168) -/

/-- A Zarique message of the phone is judged. True where it verified: an accepted proof, or an authenticated message (R205). -/
def State.zqJudge (s : State) (car : Carrier) (m : Bytes) : Bool × State :=
  let typ := byteAt 0 m
  match car with
  | .lf _ => (false, s)
  | _ =>
    if !s.deciding then (false, s)
    else if s.zqBad car m then (false, s.zqDrop)
    else if typ = 0x11 then s.tokenProof car (m.drop 2)
    else if typ = 0x12 then s.credProof car (m.drop 2)
    else if typ = 0x13 then (false, s.attestMsg car (m.drop 2))
    else (true, s.zqServe car typ m)

/-- A Zarique message is taken: on BLE from its connection's receive queue (R367); on NFC a message that verifies makes an NFC item, and the
next vehicle message leaves (R205, R418). -/
def State.zqTake (s : State) (car : Carrier) (m : Bytes) : State :=
  match car with
  | .lf _ => s.zqDrop
  | .ble c =>
    (({ s with ble.conns := modAt s.ble.conns c fun o => o.map fun (x : BleConn) =>
      { x with rxq := if x.rxq.head? = some m then x.rxq.tail else x.rxq } }).zqJudge car m).2
  | .nfc p =>
    let tsh := (s.sesOn car).map fun x => x.2.tsh
    let r := (s.modAct p fun a => { a with await := none, lastAt := s.now }).zqJudge car m
    let t := match r.2.sesOn car with | some x => some x.2.tsh | none => tsh
    let s1 := match r.1, t with
      | true, some t => r.2.tsAdmit ⟨5, r.2.seg.node, p, 0, t, 0, 0, 0, 0, 0⟩ (some s.now)
      | _, _ => r.2
    s1.nfcSend p

/-- An R-APDU of the exchange or of a transfer (R168, R193, R415, R420). -/
def State.nfcRapdu (s : State) (p : Nat) (d : Bytes) : State :=
  match (s.nfcPort p).act with
  | none => s
  | some a =>
    if a.phase ≠ .exchange || a.await.isNone then s
    else
      let ok := d.drop (d.length - 2) = [0x90, 0x00]
      let body := d.take (d.length - 2)
      if a.xfer = 1 then
        let s1 := match s.acc.learn with
          | none => s
          | some l => { s with acc.learn := some { l with xfer := l.xfer.map fun (x : Transfer) => { x with uid := some body } } }
        match if ok && body.length = 8 then s1.coilBlock body else none with
        | none => s.nfcEnd p
        | some b => s1.modAct p fun a =>
            { a with xfer := 2, await := some s.now, lastAt := s.now, capdu := [0x80, 0x5C, 0x00, 0x00, 0x20] ++ b ++ [0x08] }
      else if a.xfer = 2 then
        let uid := ((s.acc.learn.bind (·.xfer)).bind (·.uid)).getD []
        if ok && s.coilCheck uid body then ((s.modAct p fun a => { a with xfer := 0 }).xferConfirm).nfcEnd p else s.nfcEnd p
      else if !ok then s.nfcEnd p
      else if body = [] then (s.modAct p fun a => { a with await := none }).nfcSend p
      else s.zqTake (.nfc p) body

/-- A response has been awaited for more than 1,000 ms, or a block has failed three times (R415). -/
def State.nfcLost (s : State) (p : Nat) (failed : Bool) : State :=
  match (s.nfcPort p).act with
  | none => s
  | some a => if failed || (a.await.map fun t => decide (t + ms 1000 < s.now)).getD false then s.nfcEnd p else s

/-- NfcIdleEnd has passed with nothing pending (R416, R417). -/
def State.nfcIdle (s : State) (p : Nat) : State :=
  match (s.nfcPort p).act with
  | none => s
  | some a =>
    if a.phase = .exchange && a.await.isNone && a.lastAt + ms (s.g 0x350A 0) ≤ s.now &&
        !(s.acc.tx.any fun m => m.1 = Carrier.nfc p) then
      (s.nfcEnd p).modNfc p fun x => { x with next := if x.cards < s.g 0x350B 0 then some (s.now + ms 5, false) else none }
    else s

/-- NfcExchangeMax has passed (R416). -/
def State.nfcMax (s : State) (p : Nat) : State :=
  match (s.nfcPort p).act with
  | none => s
  | some a => if a.start + ms (s.g 0x3509 0) ≤ s.now then s.nfcEnd p else s

/-- NfcFaultClear (R419, R441). -/
def State.nfcClear (s : State) (arg : Bytes) : Resp × State :=
  let p := byteAt 0 arg
  if arg.length ≠ 1 then (⟨Rc.type, Dt.length, []⟩, s)
  else if 2 ≤ p then (⟨Rc.range, 0, []⟩, s)
  else if !s.has (7 + p) then (⟨Rc.absent, 0, []⟩, s)
  else (⟨Rc.ok, 0, []⟩, (s.put 0x3512 (p + 1) 0).modNfc p fun x => { x with st := if x.st = 5 then 0 else x.st })

/-- VNFC is above 3.0 V again (R419). -/
def State.vnfcBack (s : State) (vnfc : Nat) : State :=
  if vnfc ≤ 3000 then s
  else [0, 1].foldl (fun s p =>
    let f := clrBit (s.nfcFaults p) 3
    (s.put 0x3512 (p + 1) f).modNfc p fun x => { x with st := if x.st = 5 && clrBit f 2 = 0 then 0 else x.st }) s

/-- What waits on a port with nothing awaited leaves (R168). -/
def State.nfcSettle (s : State) : State := (s.nfcSend 0).nfcSend 1

end Sys2Proof.Machine
end

