-- ==== Sys2Proof/Machine/Segment.lean ====
section
/-! DEFINITION. The segment unit (R599 to R617): joining, presence, manager heartbeats at a worker, plans, reports and LF requests. -/
namespace Sys2Proof.Machine

/-- A worker's view of node 0 or 1. -/
def State.mgrLink (s : State) (n : Nat) : MgrLink := s.seg.mgrs.getD n ⟨none, 0, none, 0, none, 0, 0⟩

/-- That view changed. -/
def State.modMgr (s : State) (n : Nat) (f : MgrLink → MgrLink) : State := { s with seg.mgrs := modAt s.seg.mgrs n f }

/-- A node changed. -/
def State.modNode (s : State) (n : Nat) (f : WNode → WNode) : State := { s with seg.nodes := modAt s.seg.nodes n f }

/-- SegWorkerState (R606). -/
def State.workerState (s : State) (n : Nat) : Nat :=
  if s.g 0x4210 (n + 1) = 0xFFFF then 0
  else if (s.wnode n).lost then 3 else if (s.wnode n).online then 2 else 1

/-- SegWorkerCount (R606). -/
def State.workerCount (s : State) : Nat := ((List.range 16).filter fun n => s.workerState n ≠ 0).length

/-- SegBeatPeriod in time units. -/
def State.beat (s : State) : Nat := ms (s.g 0x4205 0)

/-- Workers whose latest PRESENCE, not before `since`, names `mgr` and is at most three periods old (R608). -/
def State.naming (s : State) (mgr since : Nat) : Nat :=
  ((List.range 16).filter fun n =>
    s.workerState n ≠ 0 && (s.wnode n).mgr = mgr &&
      ((s.wnode n).seen.map fun t => decide (since ≤ t && s.now ≤ t + 3 * s.beat)).getD false).length

/-- A strict majority of the workers, and never of none (R608). -/
def State.majority (s : State) (k : Nat) : Bool := s.workerCount < 2 * k

/-- SegWitness (R608). -/
def State.witnessed (s : State) : Bool := s.majority (s.naming s.seg.node 0)

/-- Whether this device is a worker, a twin or a single manager. -/
def State.isTwin (s : State) : Bool := s.seg.cfg ≠ 0

/-! ### Joining (R605) -/

/-- JOIN leaves for node `n` with a fresh nonce. -/
def State.sendJoin (s : State) (n : Nat) : State :=
  match s.slotKey (s.g 0x4203 0) with
  | none => s
  | some k =>
    if !s.drawOk && (s.mgrLink n).join.isNone then s
    else
      let r : Bytes × State := match (s.mgrLink n).join with | some x => (x, s) | none => s.draw 16
      (r.2.modMgr n fun m => { m with join := some r.1, due := s.now + ms 100 }).segSend k 0x25 (s.addrOf n)
        (r.1 ++ toLe 2 (productCode s.fuse.variant))

/-- 100 ms without a JOIN_ACK, or no session yet: JOIN is sent (R605). -/
def State.joinRepeat (s : State) : State :=
  if s.seg.role ≠ .worker || !s.pwr.core || s.gate.quench then s
  else [0, 1].foldl (fun s n => if (s.mgrLink n).kws.isNone && (s.mgrLink n).due ≤ s.now then s.sendJoin n else s) s

/-- K_ws (R605). -/
def segSession (link nw nt : Bytes) (worker twin : Nat) : Bytes :=
  kdf link (ascii "GZSEG-WS") (nw ++ nt ++ toLe 2 worker ++ toLe 2 twin) 16

/-- JOIN at a twin or single manager (R605). JOIN carries no replay check of its own: a worker's FCNT starts again at each reset (log entry
37). -/
def State.joinIn (s : State) (p : Bytes) : State :=
  match segParse p with
  | none => s.segCount 4
  | some f =>
    let n := f.src % 16
    if !s.isTwin || f.sub ≠ 0x25 || n < 2 || f.src / 16 ≠ s.seg.segNo || f.dst ≠ s.nodeAddr || f.body.length ≠ 18 then s.segCount 4
    else
      match s.linkKey n with
      | none => s.segCount 4
      | some l =>
        if cmac64 l f.head ≠ f.mac then s.segCount 2
        else if !s.drawOk || s.seg.kbc = [] then s.segCount 0
        else
          let d := (s.segCount 0).draw 16
          let k := segSession l (f.body.take 16) d.1 f.src s.nodeAddr
          let bf := if s.seg.role = .manager then s.seg.tx else s.seg.bcRx
          (d.2.modNode n fun w => { w with kNew := some k, nonceT := d.1 }).segSend k 0x26 f.src (d.1 ++ toLe 4 bf ++ kwWrap k s.seg.kbc)

/-- JOIN_ACK at a worker (R605). BC_FCNT bounds the broadcasts of the manager in force, where this worker hears one (log entry 37). -/
def State.joinAck (s : State) (p : Bytes) : State :=
  match segParse p with
  | none => s.segCount 4
  | some f =>
    let n := f.src % 16
    match s.slotKey (s.g 0x4203 0), (s.mgrLink n).join with
    | some l, some nw =>
      if s.seg.role ≠ .worker || f.sub ≠ 0x26 || 2 ≤ n || f.src / 16 ≠ s.seg.segNo || f.dst ≠ s.nodeAddr || f.body.length ≠ 44 then
        s.segCount 4
      else
        let k := segSession l nw (f.body.take 16) s.nodeAddr f.src
        if cmac64 k f.head ≠ f.mac then s.segCount 2
        else
          match kwUnwrap k (f.body.drop 20) with
          | none => s.segCount 2
          | some b =>
            let s1 := { (s.segCount 0).modMgr n fun m => { m with kws := some k, rx := f.fcnt, join := none } with seg.kbc := b }
            match s1.mgrNow with
            | some j => s1.modMgr j fun m => { m with bc := max m.bc (leAt 16 4 f.body) }
            | none => s1
    | _, _ => s.segCount 4

/-- A frame from worker `n` under its session with this twin: the session in use, or the one its last JOIN opened, which replaces it (R605). -/
def State.fromWorker (s : State) (f : SegIn) : Option State :=
  let n := f.src % 16
  let w := s.wnode n
  if n < 2 then none
  else if s.segJudge f w.kws w.rx = 0 then some ((s.segCount 0).modNode n fun w => { w with rx := f.fcnt })
  else if s.segJudge f w.kNew 0 = 0 then
    some ((s.segCount 0).modNode n fun w => { w with kws := w.kNew, kNew := none, rx := f.fcnt })
  else none

/-- The count of a worker's frame that is not accepted. -/
def State.workerRefused (s : State) (f : SegIn) : State :=
  s.segCount (s.segJudge f (s.wnode (f.src % 16)).kws (s.wnode (f.src % 16)).rx)

/-- A frame from the manager to this anchor (R603): under K_ws at a worker, under K_tw at the standby. With the key it came under. -/
def State.fromManager (s : State) (f : SegIn) : Bytes × Bool × State :=
  let n := f.src % 16
  if s.seg.role = .worker then
    let m := s.mgrLink n
    let r := if n < 2 then s.segJudge f m.kws m.rx else 4
    (m.kws.getD [], r = 0, if r = 0 then (s.segCount 0).modMgr n fun m => { m with rx := f.fcnt } else s.segCount r)
  else if s.seg.role = .standby && n = s.peerNode then
    let r := s.segJudge f s.ktw s.twin.rx
    (s.ktw.getD [], r = 0, if r = 0 then { s.segCount 0 with twin.rx := f.fcnt } else s.segCount r)
  else ([], false, s.segCount 4)

/-! ### Presence (R606, R607) -/

/-- A PRESENCE is broadcast by a worker (R607). Without a session with node 0 the frame's own MAC is zeros, as MAC_B is without one with
node 1 (log entry 37). -/
def State.presencePeriod (s : State) : State :=
  if s.seg.role ≠ .worker || !s.pwr.core || s.gate.quench || s.now < s.seg.beatDue ||
      (s.g 0x1101 0 = 0 && s.seg.mgrs.all fun m => (m.beat.map fun b => decide (b + 3 * s.beat ≤ s.now)).getD true) then s
  else
    let m := s.mgrNow
    let fl := b2n (s.time.qual = 2) + 2 * b2n (s.cap.ch.any (·.touched))
    let ep := (m.map fun n => (s.mgrLink n).epoch).getD 0
    let head := [BitVec.ofNat 8 (m.getD 0xFF), BitVec.ofNat 8 fl] ++ toLe 4 ep ++ [0, 0]
    let fc := s.fcntUp.seg.tx
    let h := [0x21, 0x02, 0xFF, 0xFF] ++ toLe 2 s.nodeAddr ++ toLe 4 fc ++ toLe 2 16 ++ head
    let macB := match (s.mgrLink 1).kws with | some k => cmac64 k h | none => zeros 8
    let mac := match (s.mgrLink 0).kws with | some k => cmac64 k (h ++ macB) | none => zeros 8
    (({ s.fcntUp with seg.beatDue := s.now + s.beat }.cxUse 2 (2 * cmacOps 28)).ethSend 2 (List.replicate 6 0xFF) 0x88B5
      (h ++ macB ++ mac)).fcntEnd

/-- The MAC under which this twin judges a PRESENCE (R607): node 0 the frame's own, node 1 MAC_B. -/
def State.presenceView (s : State) (f : SegIn) : SegIn :=
  if s.seg.node = 1 then { f with mac := f.body.drop 8, head := f.head.take 20 } else f

/-- A PRESENCE is received by a twin or single manager (R606, R607): the node's state. -/
def State.presenceIn (s : State) (p : Bytes) : State :=
  match segParse p with
  | none => s.segCount 4
  | some f =>
    let n := f.src % 16
    if !s.isTwin || f.sub ≠ 0x21 || f.body.length ≠ 16 then s.segCount 4
    else
      match s.fromWorker (s.presenceView f) with
      | none => s.workerRefused (s.presenceView f)
      | some s1 =>
        s1.modNode n fun w =>
          { w with online := true, lost := false, seen := some s.now, mgr := byteAt 0 f.body, locked := bit (byteAt 1 f.body) 0,
                   touched := bit (byteAt 1 f.body) 1 }

/-- Three SegBeatPeriods without PRESENCE (R606). -/
def State.workerLost (s : State) (n : Nat) : State :=
  if (s.wnode n).online && ((s.wnode n).seen.map fun t => decide (t + 3 * s.beat ≤ s.now)).getD true then
    s.modNode n fun w => { w with online := false, lost := true }
  else s

/-- SegMgrLossTime has passed without a manager HEARTBEAT at a worker (R607). -/
def State.mgrLoss (s : State) : State :=
  { s with seg.mgrs := s.seg.mgrs.map fun (m : MgrLink) =>
      { m with beat := m.beat.bind fun b => if b + ms (s.g 0x4206 0) ≤ s.now then none else some b } }

/-- A manager HEARTBEAT at a worker, under K_bc (R603, R607). -/
def State.heartbeatWorker (s : State) (f : SegIn) : State :=
  let n := f.src % 16
  let r := if n < 2 && f.dst = 0xFFFF && f.body.length = 16 && s.seg.kbc ≠ [] then s.segJudge f (some s.seg.kbc) (s.mgrLink n).bc else 4
  if r ≠ 0 then s.segCount r
  else
    (s.segCount 0).modMgr n fun m =>
      if byteAt 0 f.body = 1 then { m with bc := f.fcnt, beat := some s.now, epoch := leAt 4 4 f.body } else { m with bc := f.fcnt }

/-! ### Rounds, LF requests and reports (R609 to R614) -/

/-- ROUND_PLAN at an anchor (R609, R610). -/
def State.planIn (s : State) (p : Bytes) : State :=
  match segParse p with
  | none => s.segCount 4
  | some f =>
    if f.sub ≠ 0x22 || f.body.length ≠ 128 then s.segCount 4
    else
      let r := s.fromManager f
      if r.2.1 && !s.gate.quench then r.2.2.takePlan f.body r.1 else r.2.2

/-- LF_REQUEST at a worker (R613). -/
def State.lfRequestIn (s : State) (p : Bytes) : State :=
  match segParse p with
  | none => s.segCount 4
  | some f =>
    if f.sub ≠ 0x24 || f.body.length ≠ 24 || s.seg.role ≠ .worker then s.segCount 4
    else
      let r := s.fromManager f
      if r.2.1 && !s.gate.quench then
        r.2.2.lfServe (leAt 0 2 f.body) (byteAt 2 f.body) (byteAt 3 f.body) (leAt 4 4 f.body) (f.body.drop 8)
      else r.2.2

/-- An LF exchange of a worker is over: its request is closed, its nonce goes, and slot polling there moves on or stops. -/
def State.lfWorkerOver (s : State) (o : LfOut) (won : Bool) : State :=
  let s1 := { s with seg.lfOut := s.seg.lfOut.filter fun (x : LfOut) => x.req ≠ o.req,
                     acc.nonces := s.acc.nonces.filter fun (n : Nonce) => n.bytes ≠ o.nonce,
                     acc.tx := s.acc.tx.filter fun (m : Carrier × Bytes) => m.1 ≠ Carrier.lf o.chan }
  match s1.slotOn o.chan o.gate (some o.node) with
  | none => s1
  | some p =>
    if won then { s1 with lf.slots := s1.lf.slots.filter fun (y : SlotPoll) => y.chan ≠ o.chan || y.gate ≠ o.gate || y.node ≠ some o.node }
    else s1.slotNext p

/-- An event record of a REPORT from node `n` (R612, R614). -/
def State.segEvent (s : State) (n : Nat) (e : Bytes) : State :=
  let typ := byteAt 0 e
  let ch := byteAt 1 e
  if typ = 1 then
    let gate := byteAt 2 e
    let lf := byteAt 3 e
    if !s.deciding then s
    else
      let s1 := s.touch gate none (s.now - us (10 * leAt 4 2 e))
      if gate ≠ 0xFF && lf ≠ 0xFF then s1.lfRequest n lf gate 0 else s1
  else
    match s.seg.lfOut.find? fun o => o.req = leAt 4 2 e && o.node = n && o.chan = ch with
    | none => s
    | some o =>
      if typ = 2 then
        let r := s.lfProof ch o.gate (leAt 8 4 e) (leAt 12 4 e) (slice 16 8 e) (byteAt 3 e = 1)
        let s1 := if r.1 then
            (match r.2.sesOn (.lf ch) with
             | some (_, x) => r.2.tsAdmit ⟨4, n, ch, 0, x.tsh, 0, leAt 6 2 e, byteAt 2 e, 0, 0⟩ none
             | none => r.2)
          else r.2
        s1.lfWorkerOver o r.1
      else if typ = 3 then
        (match s.slotOn ch o.gate (some n) with
         | some _ => s.lfWorkerOver o false
         | none => (s.lfWorkerOver o false).slotStart ch o.gate (some n))
      else if typ = 4 then s.lfWorkerOver o false
      else s

/-- A time record of round `num` from node `n` (R611, R614, R616). -/
def State.timeRecord (s : State) (num n : Nat) (t : Bytes) : State :=
  let src := byteAt 0 t
  let ts := leAt 4 8 t % 2 ^ 42
  if src = n then s.syncTx num n ts
  else if src = 0xFE then s.blinkArrival num n ⟨ts, byteAt 1 t, bit (byteAt 2 t) 0, bit (byteAt 2 t) 1⟩
  else if byteAt 2 t = 1 then s.syncRx num n src ts else s

/-- Consecutive octetPieces of `n` octets. -/
def octetPieces (n : Nat) : Nat → Bytes → List Bytes
  | 0, _ => []
  | k + 1, b => b.take n :: octetPieces n k (b.drop n)

/-- A round that has its last REPORT is settled (R294). -/
def State.reportedBy (s : State) (num n : Nat) : State :=
  match s.awaitOf num with
  | none => s
  | some _ =>
    let s1 := s.modAwait num fun a => { a with left := a.left.filter (· ≠ n) }
    match s1.awaitOf num with
    | some a => if a.left.all (· = s1.seg.node) && s1.uwb.air.all fun r => r.num ≠ num then s1.settleRound a else s1
    | none => s1

/-- REPORT at the manager (R611, R614). -/
def State.reportIn (s : State) (p : Bytes) : State :=
  match segParse p with
  | none => s.segCount 4
  | some f =>
    let n := f.src % 16
    if f.sub ≠ 0x23 || s.seg.role ≠ .manager then s.segCount 4
    else
      let acc : Option State × State :=
        if 2 ≤ n then (s.fromWorker f, s.workerRefused f)
        else
          let r := if s.twinCfg && n = s.peerNode then s.segJudge f s.ktw s.twin.rx else 4
          (if r = 0 then some { s.segCount 0 with twin.rx := f.fcnt } else none, s.segCount r)
      match acc.1 with
      | none => acc.2
      | some s1 =>
        let num := leAt 0 2 f.body
        let ni := byteAt 2 f.body
        let ns := byteAt 3 f.body
        let ne := byteAt 4 f.body
        if f.body.length ≠ 6 + 16 * ni + 12 * ns + 24 * ne || s1.gate.quench then s1
        else
          let s2 := (octetPieces 16 ni (f.body.drop 6)).foldl (fun s b => s.uwbItem (Item.ofBytes b)) s1
          let s3 := (octetPieces 12 ns (f.body.drop (6 + 16 * ni))).foldl (fun s b => s.timeRecord num n b) s2
          let s4 := (octetPieces 24 ne (f.body.drop (6 + 16 * ni + 12 * ns))).foldl (fun s b => s.segEvent n b) s3
          s4.reportedBy num n

end Sys2Proof.Machine
end

