-- ==== Sys2Proof/Machine/Twin.lean ====
section
/-! DEFINITION. The twin pair (R618 to R630): heartbeats, election, Tinning, two-sided commit, loss of the peer, failover and
reconciliation. -/
namespace Sys2Proof.Machine

/-- The codes of TwinState (R633). -/
def twinCode : TwinState → Nat
  | .none_ => 0 | .electing => 1 | .tinning => 2 | .paired => 3 | .t1sOnly => 4 | .suspect => 5 | .solo => 6 | .isolated => 7

/-- SegRole as shown (R601): a twin in ISOLATED shows ISOLATED. -/
def State.roleCode (s : State) : Nat :=
  if s.twin.st = .isolated then 4
  else match s.seg.role with | .starting => 0 | .manager => 1 | .standby => 2 | .worker => 3 | .isolated => 4

/-- ACCESS_READY is reached (R651, R652): PwrStartTime is taken and the reset logged. -/
def State.accessReady (s : State) : State :=
  let us_ := min (2 ^ 32 - 1) ((s.now - s.pwr.relAt) / 2496)
  let s1 := { s with pwr.phase := .ready }.put 0x1114 0 us_
  s1.logEv 0x0D 0 0 ([BitVec.ofNat 8 s.pwr.cause] ++ toLe 4 us_)

/-- A start-up log record of the reset where ACCESS_READY is not reached (R677); PwrStartPhase then stays HELD (R652; in Quench DEDUCED, log
entry 42). -/
def State.startHeld (s : State) : State :=
  { s with pwr.phase := .held }.logEv 0x0D 0 0 (BitVec.ofNat 8 s.pwr.cause :: toLe 4 0)

/-- A twin whose start-up waited for the election and Tinning reaches ACCESS_READY (R620, R651), never in Quench (R268). -/
def State.twinReady (s : State) : State :=
  if s.pwr.phase ≠ .tinning then s else if s.gate.quench then s.startHeld else s.accessReady

/-- An entry to SOLO or ISOLATED, or a promotion, is shown and logged (R626). -/
def State.twinLog (s : State) (old : TwinState) : State :=
  (s.errBit 7 0x4300 0 0).logEv 0x07 0 0 ([BitVec.ofNat 8 (twinCode old), BitVec.ofNat 8 (twinCode s.twin.st)] ++ toLe 4 s.twin.epoch)

/-- The peer is heard on the Wairil link (R625). -/
def State.wlHeard (s : State) : Bool := s.net.wl = 2 && (s.twin.wlBeat.map fun b => decide (s.now < b + ms 3)).getD false

/-- The peer is heard on 10BASE-T1S (R625). -/
def State.t1sHeard (s : State) : Bool := (s.twin.t1sBeat.map fun b => decide (s.now < b + 3 * s.beat)).getD false

/-- TwinState of a twin that hears its peer and whose areas agree (R625). -/
def State.pairedState (s : State) : TwinState := if s.twin.wlBeat.isSome then .paired else .t1sOnly

/-! ### Heartbeats (R618) -/

/-- The body of HEARTBEAT. -/
def State.beatBody (s : State) : Bytes :=
  [BitVec.ofNat 8 s.roleCode, BitVec.ofNat 8 (twinCode s.twin.st), 0, 0] ++ toLe 4 s.twin.epoch ++
    toLe 4 (s.acc.jr.active.next - 1) ++ [BitVec.ofNat 8 (s.naming s.seg.node 0), 0, 0, 0]

/-- K_bc is drawn by the manager where it holds none (R603). -/
def State.drawBc (s : State) : State :=
  if s.seg.role = .manager && s.seg.kbc = [] && s.drawOk then let r := s.draw 16; { r.2 with seg.kbc := r.1 } else s

/-- The heartbeat period of a path ends and HEARTBEAT is sent (R618). -/
def State.heartbeatPeriod (s : State) (wl : Bool) : State :=
  if !s.isTwin || !s.pwr.core || s.gate.quench then s
  else if wl then
    if !s.twinCfg || s.net.wl ≠ 2 || s.now < s.twin.wlDue then s
    else
      match s.ktw with
      | none => s
      | some k =>
        let s1 := { s.fcntUp with twin.wlDue := s.now + ms 1 }.cxUse 2 (cmacOps 28)
        (s1.wlSend 0x20 ((segPayload k 0x20 (s.addrOf s.peerNode) s.nodeAddr s1.seg.tx s.beatBody).drop 1)).fcntEnd
  else if s.now < s.seg.beatDue then s
  else
    let s1 := { s with seg.beatDue := s.now + s.beat }.drawBc
    if s1.seg.role = .manager then (if s1.seg.kbc = [] then s1 else s1.segSend s1.seg.kbc 0x20 0xFFFF s1.beatBody)
    else
      match s1.ktw with
      | some k => if s1.twinCfg then s1.segSend k 0x20 (s1.addrOf s1.peerNode) s1.beatBody else s1
      | none => s1

/-! ### Area contents (R621; the encoding of an entry is log entry 20) -/

/-- The Touchstone table in force as octets (log entry 20). -/
def TsTable.bytes (t : TsTable) : Bytes :=
  toLe 4 t.ver ++ toLe 2 t.fresh ++ toLe 2 t.hold ++ toLe 2 t.grace ++
    (t.pol.map fun p => toLe 2 p.1 ++ toLe 2 p.2.1 ++ [BitVec.ofNat 8 p.2.2]).flatten ++
    (t.zones.map fun z => [BitVec.ofNat 8 (b2n z.1)] ++ (z.2.map (toLe 8)).flatten).flatten

/-- A Touchstone table read back from its octets. -/
def TsTable.ofBytes (b : Bytes) : TsTable :=
  { ver := leAt 0 4 b, fresh := leAt 4 2 b, hold := leAt 6 2 b, grace := leAt 8 2 b,
    pol := (List.range 4).map fun i => (leAt (10 + 5 * i) 2 b, leAt (12 + 5 * i) 2 b, byteAt (14 + 5 * i) b),
    zones := (List.range 16).map fun z => (byteAt (30 + 65 * z) b = 1, (List.range 8).map fun w => leAt (31 + 65 * z + 8 * w) 8 b) }

/-- The committed values in force (R42). -/
def State.bank (s : State) : List (Nat × Nat) := if s.dict.bankCur then s.dict.bankB else s.dict.bankA

/-- Objects that area 7 carries by DevCommit: committed P values of Acc, Ts, Gate, Uwb, Ble and Seg but for the node-specific ones. -/
def area7Commit (k : Nat) : Bool :=
  let i := k / 256
  [0x22, 0x23, 0x24, 0x30, 0x31, 0x42].contains (i / 256) && !([0x4200, 0x4202, 0x4203].contains i)

/-- Objects that area 4 carries: CredVehicleGroup, and state, key and permits of each authority. -/
def area4Key (k : Nat) : Bool :=
  let i := k / 256
  i = 0x2102 || (0x2110 ≤ i && i ≤ 0x2117 && 1 ≤ k % 256 && k % 256 ≤ 3)

/-- P values of Tok and Cred that area 7 carries as they stand. -/
def area7Live (k : Nat) : Bool := [0x2002, 0x2003, 0x2004, 0x2123, 0x2124, 0x2125].contains (k / 256)

/-- One object value in an area (log entry 20): INDEX, SUB, LEN, VALUE. -/
def objEntry (k v : Nat) : Bytes :=
  let n := ((findObj (k / 256) (k % 256)).map fun o => o.ty.size).getD 8
  toLe 2 (k / 256) ++ [BitVec.ofNat 8 (k % 256), BitVec.ofNat 8 n] ++ toLe n v

/-- A counter entry of area 1 (log entry 20): TYPE of R142, AUTHORITY, the token entry or the CRED_ID, and VALUE. A credential goes by
its identity, since its cache number may differ between the twins. -/
def ctrEntry (typ auth key value : Nat) : Bytes := [BitVec.ofNat 8 typ, BitVec.ofNat 8 auth] ++ toLe 8 key ++ toLe 8 value

/-- Cache entries ascending by AUTHORITY and CRED_ID. -/
def cacheIns (e : CacheEntry) : List CacheEntry → List CacheEntry
  | [] => [e]
  | x :: l => if e.auth < x.auth || (e.auth = x.auth && e.id ≤ x.id) then e :: x :: l else x :: cacheIns e l

/-- The cache in the order both twins give it. -/
def State.cacheSorted (s : State) : List CacheEntry := s.acc.cache.foldr (fun p l => cacheIns p.2 l) []

/-- A lock-out remainder of area 6: tier, interface, claim, seconds. -/
def State.lockEntry (s : State) (tier ifc : Nat) (claim : Bytes) (l : Option Lock) : List Bytes :=
  match l with
  | none => []
  | some x =>
    if s.now < x.until_ then [[BitVec.ofNat 8 tier, BitVec.ofNat 8 ifc] ++ fit 9 claim ++ toLe 2 ((x.until_ - s.now) / secs 1)] else []

/-- The entries of an area, in ascending order. -/
def State.tinEntries (s : State) (a : Nat) : List Bytes :=
  if a = 0 then s.acc.toks.map TokEntry.bytes
  else if a = 1 then
    ((s.acc.toks.zipIdx.filter fun p => p.1.st ≠ 0).map fun p => ctrEntry 1 0 p.2 (p.1.tid * 2 ^ 32 + p.1.ctr.comm)) ++
      (s.cacheSorted.map fun e => ctrEntry 2 e.auth e.id e.ctr.comm) ++ [ctrEntry 3 0 0 s.acc.vclk.floor]
  else if a = 2 then s.cacheSorted.map CacheEntry.bytes
  else if a = 3 then s.acc.revoked.map fun r => toLe 8 r.1 ++ [BitVec.ofNat 8 r.2.1] ++ toLe 6 r.2.2 ++ [0]
  else if a = 4 then (s.reg.filter fun p => area4Key p.1).map fun p => objEntry p.1 p.2
  else if a = 5 then
    (s.keys.zeroTwin.map fun h => s.zeroMirrorBody h) ++
      (((List.range 128).filter fun h => s.slotMirror h && s.slotSt h = .loaded).map fun h => s.keyMirrorBody h)
    |>.map fun b => BitVec.ofNat 8 b.length :: b
  else if a = 6 then
    (s.acc.fails.map fun f => s.lockEntry (claimBytes f.claim).1 f.iface (claimBytes f.claim).2 f.lock).flatten ++
      (s.acc.ifs.zipIdx.map fun p => s.lockEntry 1 p.2 [] p.1.lock).flatten ++ s.lockEntry 2 0 [] s.acc.code.lock
  else if a = 7 then
    (s.bank.filter fun p => area7Commit p.1).map (fun p => objEntry p.1 p.2) ++
      (s.reg.filter fun p => area7Live p.1).map (fun p => objEntry p.1 p.2) ++ [s.ts.cur.bytes, s.seg.kbc]
  else [toLe 4 s.twin.epoch]

/-- The octets of an area as TIN_DATA carries them: those of area 7 in three parts with their lengths. -/
def State.tinArea (s : State) (a : Nat) : Bytes :=
  if a = 7 then
    let c := ((s.bank.filter fun p => area7Commit p.1).map fun p => objEntry p.1 p.2).flatten
    let l := ((s.reg.filter fun p => area7Live p.1).map fun p => objEntry p.1 p.2).flatten
    toLe 2 c.length ++ c ++ toLe 2 l.length ++ l ++ s.ts.cur.bytes ++ s.seg.kbc
  else (s.tinEntries a).flatten

/-- The digest of an area (R621). -/
def State.tinDigest (s : State) (k : Bytes) (a : Nat) : Bytes := cmac64 k (s.tinEntries a).flatten

/-- The areas both twins send. -/
def tinBoth (a : Nat) : Bool := [1, 2, 3, 6, 8].contains a

/-- A Tinning run starts: TIN_DIGEST leaves the manager (R621). -/
def State.tinStart (s : State) : State :=
  match s.ktw with
  | none => s
  | some k =>
    if s.seg.role ≠ .manager || !s.twinCfg then s
    else
      let g := (s.twin.gen + 1) % 2 ^ 32
      let s1 := ({ s with twin.gen := g, twin.tinDue := s.now + secs (s.g 0x4304 0) }.bump 0x4310 5).put 0x4307 0 0
      s1.twinSend subTinDigest (toLe 4 g ++ ((List.range 9).map (s.tinDigest k)).flatten)

/-- TIN_DATA of an area, in pieces of at most 960 octets, the last with LAST (R621). -/
def State.tinSend (s : State) (a : Nat) : State :=
  let d := s.tinArea a
  let n := max 1 ((d.length + 959) / 960)
  ((octetPieces 960 n d).zipIdx.foldl (fun s p =>
    s.twinSend subTinData ([BitVec.ofNat 8 a, BitVec.ofNat 8 (b2n (p.2 + 1 = n)), 0, 0] ++ toLe 4 (960 * p.2) ++ p.1)) s).bump 0x4310 6

/-! ### Applying changes (R621, R622) -/

/-- A token entry from its octets; its counter stays (R621 area 0), unless the TID changes. -/
def State.tinToken (s : State) (n : Nat) (b : Bytes) : State :=
  { s with acc.toks := modAt s.acc.toks n fun e =>
      { st := byteAt 0 b, cls := byteAt 1 b, tid := leAt 2 4 b, handle := leAt 6 2 b, rights := leAt 8 4 b, zones := leAt 12 2 b,
        notAfter := leAt 14 8 b, ctr := if e.tid = leAt 2 4 b then e.ctr else s.newCtr 0 } }

/-- A counter of an entry that stands higher is taken, durably (R140, R151). -/
def State.raiseCtr (s : State) (k : KeyRef) (v : Nat) : State :=
  if ((s.ctrOf k).map fun c => decide (c.comm < v)).getD false then
    ((s.modCtr k fun c => { c with last := max c.last v }).exhausted k).jput (s.recOf k v)
  else s

/-- A cache number by the credential's identity. -/
def State.cacheFind (s : State) (id auth : Nat) : Option Nat :=
  (s.acc.cache.find? fun p => p.2.id = id && p.2.auth = auth).map (·.1)

/-- A counter entry of area 1, or the floor: the higher value stands (R151). -/
def State.tinCtr (s : State) (b : Bytes) : State :=
  let v := leAt 10 8 b
  if byteAt 0 b = 3 then (if s.acc.vclk.floor < v % 2 ^ 48 then s.jput ⟨3, 0, 0, v % 2 ^ 48⟩ else s)
  else if byteAt 0 b = 1 then
    match s.recKey ⟨1, leAt 2 8 b, 0, v⟩ with
    | some k => s.raiseCtr k (v % 2 ^ 32)
    | none => s
  else
    match s.cacheFind (leAt 2 8 b) (byteAt 1 b) with
    | some n => s.raiseCtr (.cred n) (v % 2 ^ 32)
    | none => s

/-- The lowest free cache number. -/
def State.cacheFree (s : State) : Option Nat := (List.range 1024).find? fun n => (s.cacheAt n).isNone

/-- A cache entry with what the octets of area 2 hold. -/
def State.cacheOf (s : State) (b : Bytes) : CacheEntry :=
  { st := byteAt 21 b, id := leAt 0 8 b, auth := byteAt 8 b, notAfter := leAt 9 8 b, notBefore := 0, rights := 0, zones := 0, flags := 0,
    base := leAt 17 4 b, ctr := s.newCtr (leAt 17 4 b) }

/-- A cache entry under a number, the numbers ascending. -/
def cachePut (l : List (Nat × CacheEntry)) (n : Nat) (e : CacheEntry) : List (Nat × CacheEntry) :=
  (l.filter fun p => p.1 < n) ++ [(n, e)] ++ l.filter fun p => n < p.1

/-- A cache entry under another number keeps its counter: it starts from its committed value there (R145, R151). -/
def CacheEntry.moved (e : CacheEntry) : CacheEntry := { e with base := e.ctr.comm }

/-- A cache entry joins the union by CRED_ID and AUTHORITY, its counter as area 1 (R621 area 2): at `n` where that number is free, else
at the lowest free number. -/
def State.tinCache (s : State) (n : Nat) (b : Bytes) : State :=
  let e := s.cacheOf b
  match s.cacheFind e.id e.auth with
  | some m =>
    ({ s with acc.cache := s.acc.cache.map fun (p : Nat × CacheEntry) =>
        if p.1 = m then (p.1, { p.2 with st := max p.2.st e.st, notAfter := max p.2.notAfter e.notAfter }) else p }).raiseCtr (.cred m) e.base
  | none =>
    match (if (s.cacheAt n).isNone && n < 1024 then some n else s.cacheFree) with
    | none => s
    | some m => { s with acc.cache := cachePut s.acc.cache m e }

/-- A revocation joins the union (R621 area 3). -/
def State.tinRevoke (s : State) (b : Bytes) : State :=
  let id := leAt 0 8 b
  let a := byteAt 8 b
  if s.onRevList id a || 512 ≤ s.acc.revoked.length then s
  else ({ s with acc.revoked := s.acc.revoked ++ [(id, a, leAt 9 6 b)] }).freeRevoked

/-- A lock-out remainder: the longer stands at Tinning; a MIRROR states the change itself (R621, R622). -/
def State.tinLock (s : State) (mirrored : Bool) (b : Bytes) : State :=
  let tier := byteAt 0 b
  let ifc := byteAt 1 b
  let d := secs (leAt 11 2 b)
  let f := fun (l : Option Lock) =>
    if mirrored then (if d = 0 then none else some (⟨s.now + d, d, s.now⟩ : Lock))
    else if (l.map fun x => decide (s.now + d ≤ x.until_)).getD (d = 0) then l else some ⟨s.now + d, d, s.now⟩
  if tier = 1 then { s with acc.ifs := modAt s.acc.ifs ifc fun (t : Tier) => ⟨t.times, f t.lock⟩ }
  else if tier = 2 then { s with acc.code := ⟨s.acc.code.times, f s.acc.code.lock⟩ }
  else
    let c : Claim := if tier = 0 then .tok (leAt 2 4 b) else .cred (byteAt 10 b) (leAt 2 8 b)
    match s.failOf c ifc with
    | some e =>
      let rest := s.acc.fails.filter fun x => x ≠ e
      (match f e.lock with
       | none => s.setFails rest
       | some l => s.setFails (rest ++ [{ e with lock := some l }]))
    | none =>
      if d = 0 then s
      else match s.failRoom with | none => s | some l => s.setFails (l ++ [⟨c, ifc, [], some ⟨s.now + d, d, s.now⟩⟩])

/-- Object entries of area 4 or 7, taken apart: keys and values. -/
def objPieces : Nat → Bytes → List (Nat × Nat)
  | 0, _ => []
  | k + 1, b =>
    if b.length < 4 then []
    else (okey (leAt 0 2 b) (byteAt 2 b), leAt 4 (byteAt 3 b) b) :: objPieces k (b.drop (4 + byteAt 3 b))

/-- The registers of a set replaced by a list (R621: replace). -/
def State.replaceRegs (s : State) (p : Nat → Bool) (l : List (Nat × Nat)) : State :=
  l.foldl (fun s e => s.put (e.1 / 256) (e.1 % 256) e.2) { s with reg := s.reg.filter fun e => !p e.1 }

/-- The current bank changed. -/
def State.setBank (s : State) (l : List (Nat × Nat)) : State :=
  if s.dict.bankCur then { s with dict.bankB := l } else { s with dict.bankA := l }

/-- The standby takes the DevCommit values of area 7: in force and committed at once (R621). -/
def State.takeCommitted (s : State) (l : List (Nat × Nat)) : State :=
  let s1 := s.replaceRegs (fun k => area7Commit k && ((findObj (k / 256) (k % 256)).map fun o => decide (o.per = .p)).getD false) l
  s1.setBank (l.foldl (fun b e => alPut b e.1 e.2) (s1.bank.filter fun e => !(area7Commit e.1)))

/-- Area 5 entries: each with its length in front. -/
def lenPieces : Nat → Bytes → List Bytes
  | 0, _ => []
  | k + 1, b => match b with | [] => [] | n :: r => r.take n.toNat :: lenPieces k (r.drop n.toNat)

/-- A whole area is applied by its rule (R621). -/
def State.tinApply (s : State) (a : Nat) (d : Bytes) : State :=
  if a = 0 then (octetPieces 22 64 d).zipIdx.foldl (fun s p => s.tinToken p.2 p.1) s
  else if a = 1 then (octetPieces 18 (d.length / 18) d).foldl State.tinCtr s
  else if a = 2 then (octetPieces 22 (d.length / 22) d).foldl (fun s b => s.tinCache 1024 b) s
  else if a = 3 then (octetPieces 16 (d.length / 16) d).foldl (fun s b => s.tinRevoke b) s
  else if a = 4 then s.replaceRegs area4Key (objPieces 64 d)
  else if a = 5 then
    let bs := lenPieces 256 d
    let keep := bs.map (leAt 0 2)
    let s1 := bs.foldl (fun s b => if s.slotVer (leAt 0 2 b) = leAt 2 2 b && s.slotSt (leAt 0 2 b) = .loaded then s else s.mirrorKey b) s
    ((List.range 128).filter fun h => s1.slotMirror h && !keep.contains h).foldl (fun s h => s.eraseSlot h) s1
  else if a = 6 then (octetPieces 13 (d.length / 13) d).foldl (fun s b => s.tinLock false b) s
  else if a = 7 then
    let n := leAt 0 2 d
    let m := leAt (2 + n) 2 d
    let r := d.drop (4 + n + m)
    let s1 := (s.takeCommitted (objPieces 4096 (slice 2 n d))).replaceRegs area7Live (objPieces 16 (slice (4 + n) m d))
    { s1 with ts.cur := .ofBytes r, seg.kbc := r.drop 1070 }
  else { s with twin.epoch := max s.twin.epoch (leAt 0 4 d) }

/-- MIRROR at the standby (R622): one change, applied. -/
def State.applyMirror (s : State) (a entry : Nat) (d : Bytes) : State :=
  if a = 0 then s.tinToken entry d
  else if a = 2 then s.tinCache entry d
  else if a = 3 then s.tinRevoke d
  else if a = 4 then (objPieces 4 d).foldl (fun s e => s.put (e.1 / 256) (e.1 % 256) e.2) s
  else if a = 6 then s.tinLock true d
  else if a = 7 then
    if entry = 1 then { s with ts.cur := .ofBytes d }
    else if entry = 2 then s.takeCommitted (objPieces 4096 d)
    else if entry = 3 then { s with seg.kbc := d }
    else (objPieces 4 d).foldl (fun s e => s.put (e.1 / 256) (e.1 % 256) e.2) s
  else s

/-! ### The two roles -/

/-- The MANAGER role is taken: Touchstone is empty, K_bc is drawn where none is held (R603, R626). -/
def State.takeManager (s : State) : State :=
  if s.seg.role = .manager then s.drawBc
  else { s.tsEmpty with seg.role := .manager, twin.commits := [], twin.ackWait := [] }.drawBc.t1sRole

/-- The role STANDBY is taken at once (R628): sessions end, gates close, what waited for a commit goes, and no round is planned here.
The drive latch stays with this device until IGN_IN falls, Quench or loss of VAON (R179, R627), its START_EN low. -/
def State.takeStandby (s : State) : State :=
  let s1 := if s.seg.role = .manager then s.endAll.gatesClose else s
  { s1.tsEmpty with seg.role := .standby, twin.commits := [], acc.adv := [],
                    twin.diff := List.range 9 }.t1sRole

/-- The twin that keeps or takes the MANAGER role (R620, R628). -/
def State.winsTwin (s : State) : Bool :=
  if s.twin.epoch ≠ s.twin.peerEpoch then decide (s.twin.peerEpoch < s.twin.epoch)
  else if s.twin.st = .solo then true
  else if s.twin.peerSt = 6 then false
  else s.seg.node = 0

/-- Election at the first hearing, and reconciliation at a later one (R620, R628): both lead to TINNING. -/
def State.settleRoles (s : State) : State :=
  let w := s.winsTwin
  let s1 := if w then s.takeManager else s.takeStandby
  let s2 := { s1 with twin.st := .tinning, twin.electDue := none, twin.susAt := none, twin.wit := false }
  if w then s2.tinStart else s2

/-- What hearing the peer changes (R620, R625, R628). -/
def State.twinHear (s : State) : State :=
  match s.twin.st with
  | .electing | .suspect | .solo | .isolated => s.settleRoles
  | .tinning =>
    if s.seg.role = .manager && (s.twin.peerSt = 3 || s.twin.peerSt = 4) then { s with twin.st := s.pairedState }.twinReady else s
  | .paired | .t1sOnly =>
    if s.twin.peerRole = 0 || (s.twin.peerRole = 1 && s.seg.role = .manager) || (s.twin.peerRole = 2 && s.seg.role = .standby) then s.settleRoles
    else { s with twin.st := s.pairedState }
  | .none_ => s

/-- HEARTBEAT of the peer, taken (R618): its roles, epochs and states. -/
def State.takeBeat (s : State) (f : SegIn) (wl : Bool) : State :=
  { s with
    twin.peerRole := byteAt 0 f.body, twin.peerSt := byteAt 1 f.body, twin.peerEpoch := leAt 4 4 f.body, twin.peerJseq := leAt 8 4 f.body,
    twin.wlBeat := if wl then some s.now else s.twin.wlBeat, twin.t1sBeat := if wl then s.twin.t1sBeat else some s.now,
    twin.susAt := if wl then s.twin.susAt else none }.twinHear

/-- HEARTBEAT is received (R603, R604, R618). -/
def State.heartbeatIn (s : State) (p : Bytes) (wl : Bool) : State :=
  match segParse p with
  | none => s.segCount 4
  | some f =>
    if f.sub ≠ 0x20 || f.body.length ≠ 16 then s.segCount 4
    else if s.seg.role = .worker && !wl then s.heartbeatWorker f
    else if !s.twinCfg || f.src % 16 ≠ s.peerNode || s.gate.quench then s.segCount 4
    else if f.dst = 0xFFFF then
      let r := if s.seg.kbc = [] then 4 else s.segJudge f (some s.seg.kbc) s.seg.bcRx
      if r ≠ 0 then s.segCount r else { s.segCount 0 with seg.bcRx := f.fcnt }.takeBeat f wl
    else
      let r := s.segJudge f s.ktw s.twin.rx
      if r ≠ 0 then s.segCount r else { s.segCount 0 with twin.rx := f.fcnt }.takeBeat f wl

/-! ### Loss, promotion and isolation (R625, R626) -/

/-- TwinState after a path of the peer has been lost (R625). -/
def State.pathLost (s : State) : State :=
  let s1 := s.bump 0x4310 1
  match s1.twin.st with
  | .paired | .t1sOnly | .tinning =>
    if s1.twin.wlBeat.isNone && s1.twin.t1sBeat.isNone then { s1 with twin.st := .suspect, twin.since := s.now, twin.peerRole := 0xFF }
    else if s1.twin.wlBeat.isNone && s1.twin.st = .paired then { s1 with twin.st := .t1sOnly }
    else s1
  | _ => s1

/-- The Wairil path is lost (R625): after three periods, or with the link. -/
def State.wlPathLost (s : State) : State := if s.twin.wlBeat.isSome then { s with twin.wlBeat := none }.pathLost else s

/-- Three periods of a path have passed without the peer's HEARTBEAT (R625). -/
def State.peerLoss (s : State) (wl : Bool) : State :=
  if !s.twinCfg then s
  else if wl then (if (s.twin.wlBeat.map fun b => decide (b + ms 3 ≤ s.now)).getD false then s.wlPathLost else s)
  else if (s.twin.t1sBeat.map fun b => decide (b + 3 * s.beat ≤ s.now)).getD false then
    { s with twin.t1sBeat := none, twin.susAt := some s.now }.pathLost
  else s

/-- Promotion of a standby (R619, R626, R630). -/
def State.promote (s : State) (wit : Bool) : State :=
  let old := s.twin.st
  let s1 := s.takeManager
  ({ s1 with twin.epoch := s.twin.epoch + 1, twin.st := .solo, twin.wit := wit, twin.grace := s.now + 3 * s.beat }.bump 0x4310 2).twinLog old

/-- Waiting commits complete on the manager's own journal (R626). -/
def State.soloCommits (s : State) : State :=
  { s with twin.commits := [], acc.adv := s.acc.adv.map fun (a : Advance) => { a with twin := true } }.advSettle

/-- A twin becomes ISOLATED (R626): Touchstone enters MIRROR, and its store is emptied (R720). -/
def State.isolate (s : State) : State :=
  let old := s.twin.st
  ({ s.tsEmpty with twin.st := .isolated }.bump 0x4310 4).twinLog old

/-- The majority that names a node, or none, in PRESENCE sent after the T1S path was lost (R626). -/
def State.twinMajority (s : State) (mgr : Nat) : Bool := s.majority (s.naming mgr (s.twin.susAt.getD s.twin.since))

/-- What the PRESENCE frames resolve (R626): promotion, SOLO, and the loss of a witness. -/
def State.twinSettle (s : State) : State :=
  if !s.twinCfg || s.gate.quench then s
  else
    match s.twin.st with
    | .suspect | .isolated =>
      if s.seg.role = .standby then (if s.twinMajority 0xFF then s.promote true else s)
      else if s.twinMajority s.seg.node then
        let old := s.twin.st
        (({ s with twin.st := .solo, twin.wit := true, twin.grace := 0 }.bump 0x4310 3).twinLog old).soloCommits
      else s
    | .solo =>
      if s.witnessed then { s with twin.wit := true }
      else if s.twin.wit && s.twin.grace ≤ s.now then s.isolate else s
    | _ => s

/-- SegMgrLossTime + 2 SegBeatPeriods have passed in SUSPECT without a resolution (R626). -/
def State.twinResolution (s : State) : State :=
  let s1 := s.twinSettle
  if s1.twin.st = .suspect && s1.twin.since + ms (s1.g 0x4206 0) + 2 * s1.beat ≤ s1.now then s1.isolate else s1

/-- PRESENCE, with what it resolves (R606, R626). -/
def State.presenceRx (s : State) (p : Bytes) : State := (s.presenceIn p).twinSettle

/-- A worker is LOST, with what that resolves (R606, R626). -/
def State.workerGone (s : State) (n : Nat) : State := (s.workerLost n).twinSettle

/-- No peer has been heard at start-up (R620): a majority that names no manager admits this twin, the lower node first. -/
def State.electionTimeout (s : State) : State :=
  if s.twin.st = .electing && (s.twin.electDue.map fun d => decide (d ≤ s.now)).getD false && s.majority (s.naming 0xFF 0) && !s.gate.quench then
    let s1 := s.takeManager
    (({ s1 with twin.st := .solo, twin.wit := true, twin.grace := s.now + 3 * s.beat, twin.electDue := none }.bump 0x4310 3).twinLog .electing).twinReady
  else s

/-- TwinTakeover (R630, R631): code and detail. -/
def State.takeover (s : State) (arg : Bytes) : (Nat × Nat) × State :=
  if arg.length ≠ 2 then ((Rc.type, Dt.length), s)
  else if s.seg.cfg ≠ 2 then ((Rc.range, Dt.notTwin), s)
  else if leAt 0 2 arg ≠ 0x544B then ((Rc.range, 0), s)
  else if s.wlHeard || s.t1sHeard then ((Rc.busy, Dt.peerPresent), s)
  else if s.seg.role = .standby && (s.twin.st = .suspect || s.twin.st = .isolated) then ((0, 0), s.promote false)
  else ((Rc.range, 0), s)

/-- TwinTinRun (R621, R631): code and detail. -/
def State.tinRun (s : State) : (Nat × Nat) × State :=
  if s.seg.cfg ≠ 2 then ((Rc.range, Dt.notTwin), s) else ((0, 0), s.tinStart)

/-- TwinTinPeriod has passed (R621). -/
def State.tinPeriod (s : State) : State :=
  if s.seg.role = .manager && s.twin.tinDue ≤ s.now &&
      (s.twin.st = .paired || s.twin.st = .t1sOnly || s.twin.st = .tinning) && !s.gate.quench then s.tinStart else s

/-! ### Twin messages received -/

/-- A twin message of a SUBTYPE, accepted under K_tw from the peer (R603, R604). -/
def State.twinIn (s : State) (sub : Nat) (p : Bytes) : Option Bytes × State :=
  match segParse p with
  | none => (none, s.segCount 4)
  | some f =>
    let r := if s.twinCfg && f.sub = sub && f.src % 16 = s.peerNode then s.segJudge f s.ktw s.twin.rx else 4
    if r ≠ 0 then (none, s.segCount r) else (some f.body, { s.segCount 0 with twin.rx := f.fcnt })

/-- MIRROR at the standby (R622). -/
def State.mirrorIn (s : State) (p : Bytes) : State :=
  let r := s.twinIn subMirror p
  match r.1 with
  | some b => if s.seg.role = .standby && b.length = 6 + leAt 4 2 b then r.2.applyMirror (byteAt 0 b) (leAt 2 2 b) (b.drop 6) else r.2
  | none => r.2

/-- KEY_MIRROR at the standby, and its acknowledgement at the manager (R501, R622). -/
def State.keyMirrorIn (s : State) (p : Bytes) : State :=
  let r := s.twinIn subKeyMirror p
  match r.1 with
  | some b => if s.seg.role = .standby then r.2.mirrorKey b else if b.length = 4 then r.2.mirrorAck b else r.2
  | none => r.2

/-- The standby's Tinning is over where no area differs any more (R621, R628). -/
def State.tinOver (s : State) : State :=
  if s.seg.role = .standby && s.twin.diff = [] && s.twin.st = .tinning then { s with twin.st := s.pairedState }.twinReady else s

/-- TIN_DIGEST at the standby (R621): areas that differ are pulled; those merged both ways are sent as well. -/
def State.tinDigestIn (s : State) (p : Bytes) : State :=
  let r := s.twinIn subTinDigest p
  match r.1, s.ktw with
  | some b, some k =>
    if s.seg.role ≠ .standby || b.length ≠ 76 then r.2
    else
      let d := (List.range 9).filter fun a => slice (4 + 8 * a) 8 b ≠ s.tinDigest k a
      let s1 := { r.2 with twin.diff := d, twin.gen := leAt 0 4 b, twin.rxArea := [] }.put 0x4307 0 (d.foldl setBit 0)
      (d.foldl (fun (s : State) a =>
        let s2 := s.twinSend subTinPull [BitVec.ofNat 8 a, 0]
        if tinBoth a then s2.tinSend a else s2) s1).tinOver
  | _, _ => r.2

/-- TIN_PULL at the manager (R621): the area differs in this run, and goes. -/
def State.tinPullIn (s : State) (p : Bytes) : State :=
  let r := s.twinIn subTinPull p
  match r.1 with
  | some b =>
    if s.seg.role = .manager && b.length = 2 && byteAt 0 b ≤ 8 then
      (r.2.put 0x4307 0 (setBit (r.2.g 0x4307 0) (byteAt 0 b))).tinSend (byteAt 0 b)
    else r.2
  | none => r.2

/-- TIN_DATA (R621): an area is gathered, and applied with its last part. -/
def State.tinDataIn (s : State) (p : Bytes) : State :=
  let r := s.twinIn subTinData p
  match r.1 with
  | none => r.2
  | some b =>
    let a := byteAt 0 b
    let old := ((r.2.twin.rxArea.find? fun x => x.1 = a).map (·.2)).getD []
    if 8 < a || b.length < 8 || (s.seg.role = .manager && !tinBoth a) then r.2
    else
      let d := old.take (leAt 4 4 b) ++ b.drop 8
      let rest := r.2.twin.rxArea.filter fun x => x.1 ≠ a
      if byteAt 1 b = 0 then { r.2 with twin.rxArea := rest ++ [(a, d)] }
      else ({ { r.2 with twin.rxArea := rest }.tinApply a d with twin.diff := r.2.twin.diff.filter (· ≠ a) }).tinOver

/-! ### Two-sided commit (R623, R624) -/

/-- COMMIT_ACK: CSEQ, CODE, STORED. -/
def ackBody (cseq code stored : Nat) : Bytes := toLe 4 cseq ++ [BitVec.ofNat 8 code, 0, 0, 0] ++ toLe 8 stored

/-- A COMMIT is acknowledged, and the answer kept among the last 16 (R624). -/
def State.ackCommit (s : State) (cseq : Nat) (body : Bytes) : State :=
  { s with twin.acked := ((cseq, body) :: s.twin.acked).take 16 }.twinSend 0x29 body

/-- Standby records that are committed are acknowledged (R150, R624). -/
def State.ackSettle (s : State) : State :=
  let done := s.twin.ackWait.filter fun w =>
    match w.2.1 with
    | some k => ((s.ctrOf k).map fun c => decide (w.2.2 ≤ c.comm)).getD false
    | none => decide (w.2.2 ≤ s.acc.vclk.floor)
  done.foldl (fun (s : State) w =>
    let v := match w.2.1 with | some k => (s.recOf k w.2.2).value | none => w.2.2
    { s with twin.ackWait := s.twin.ackWait.filter fun x => x.1 ≠ w.1 }.ackCommit w.1 (ackBody w.1 Rc.ok v)) s

/-- The cache entry a CRED COMMIT names, allocated where its number is free or holds another credential (R624 step 2). A copy of the
same credential under another number moves here with its counter, and the credential that stood here moves to a free number, so
that no counter falls (R151; DEDUCED, log entry 60). -/
def State.commitCache (s : State) (b : Bytes) : State :=
  let n := leAt 6 2 b
  let id := leAt 16 8 b
  if ((s.cacheAt n).map fun e => e.id = id && e.auth = byteAt 5 b).getD false then s
  else
    let old := (s.cacheFind id (byteAt 5 b)).bind s.cacheAt
    let e : CacheEntry := (old.map CacheEntry.moved).getD
        { st := 1, id := id, auth := byteAt 5 b, notAfter := leAt 24 6 b, notBefore := 0, rights := 0, zones := 0, flags := 0, base := 0,
          ctr := s.newCtr 0 }
    let s1 := { s with acc.cache := s.acc.cache.filter fun p => p.2.id ≠ id || p.2.auth ≠ byteAt 5 b }
    let s2 := { s1 with acc.cache := cachePut s1.acc.cache n e }
    match s1.cacheAt n, s2.cacheFree with
    | some x, some m => { s2 with acc.cache := cachePut s2.acc.cache m x.moved }
    | _, _ => s2

/-- COMMIT is judged against this standby's mirror (R624). -/
def State.judgeCommit (s : State) (b : Bytes) : State :=
  let cseq := leAt 0 4 b
  let kind := byteAt 4 b
  let val := leAt 8 8 b
  match s.twin.acked.find? fun x => x.1 = cseq with
  | some x => s.twinSend 0x29 x.2
  | none =>
    if s.twin.ackWait.any fun w => w.1 = cseq then s
    else if kind = 3 then
      if s.acc.vclk.floor < val then
        { s with twin.ackWait := s.twin.ackWait ++ [(cseq, none, val)] }.jput ⟨3, 0, 0, val⟩
      else (s.bump 0x4310 7).ackCommit cseq (ackBody cseq Rc.replay s.acc.vclk.floor)
    else
      let s1 := if kind = 2 then s.commitCache b else s
      let k : KeyRef := if kind = 2 then .cred (leAt 6 2 b) else .tok (leAt 6 2 b)
      match s1.ctrOf k with
      | none => s1
      | some c =>
        let v := val % 2 ^ 32
        if c.comm < v then
          let s2 := (s1.modCtr k fun x => { x with last := max x.last v }).exhausted k
          ({ s2 with twin.ackWait := s2.twin.ackWait ++ [(cseq, some k, v)] }).jput ⟨kind, leAt 6 2 b, 0, val⟩
        else (s1.bump 0x4310 7).ackCommit cseq (ackBody cseq Rc.replay (s1.recOf k c.comm).value)

/-- COMMIT at the standby (R624). -/
def State.commitIn (s : State) (p : Bytes) : State :=
  let r := s.twinIn 0x28 p
  match r.1 with
  | some b => if s.seg.role = .standby && b.length = 32 then r.2.judgeCommit b else r.2
  | none => r.2

/-- COMMIT_ACK REPLAY at the manager (R624): *last* rises to the stored counter, the presentation is answered REPLAY under the keys
of its proof, which is a counted failure (R162, R180), and no seal follows. -/
def State.commitReplayed (s : State) (a : Advance) (stored : Nat) : State :=
  let s1 := (s.modCtr a.key fun c => { c with last := max c.last stored }).exhausted a.key
  let f := fun (x : Advance) => if x = a then { x with failed := true, owed := false } else x
  let s2 := { s1 with acc.adv := s1.acc.adv.map f }
  (s2.countFail (some a.claim) a.iface).advResult a Rc.replay 0

/-- COMMIT_ACK at the manager (R624). -/
def State.commitAckIn (s : State) (p : Bytes) : State :=
  let r := s.twinIn 0x29 p
  match r.1 with
  | none => r.2
  | some b =>
    let cseq := leAt 0 4 b
    if s.seg.role ≠ .manager || b.length ≠ 16 || !(s.twin.commits.any fun c => c.cseq = cseq) then r.2
    else
      let s1 := { r.2 with twin.commits := r.2.twin.commits.filter fun (c : CommitOut) => c.cseq ≠ cseq }
      match s1.acc.adv.find? fun a => a.cseq = cseq with
      | none => s1
      | some a =>
        if byteAt 4 b = Rc.replay then s1.commitReplayed a (leAt 8 8 b % 2 ^ 32)
        else
          let f := fun (x : Advance) => if x.cseq = cseq then { x with twin := true } else x
          { s1 with acc.adv := s1.acc.adv.map f }.advSettle

/-- COMMITs whose acknowledgement is overdue are sent again while the peer is heard (R624). -/
def State.commitResend (s : State) : State :=
  if s.twin.wlBeat.isNone && s.twin.t1sBeat.isNone then s
  else
    (s.twin.commits.filter fun c => c.due ≤ s.now).foldl (fun (s : State) c =>
      let f := fun (x : CommitOut) => if x.cseq = c.cseq then { x with due := s.now + s.commitWait } else x
      { s.twinSend 0x28 c.body with twin.commits := s.twin.commits.map f }) s

/-- A journal record is read back (R143), and what waited for it at a standby is acknowledged. -/
def State.journalDone (s : State) (ok : Bool) : State := (s.recordDone ok).advSettle.ackSettle

/-! ### Start-up (R620) -/

/-- The role a reset gives (R600, R601, R620). -/
def State.roleStart (s : State) : State :=
  let cfg := s.g 0x4200 0
  let node := if cfg = 0 then s.g 0x4202 0 % 16 else if cfg = 1 then 0 else b2n s.seg.twinId
  let s1 := { s with seg.cfg := cfg, seg.node := node, seg.segNo := bits (s.g 0x4202 0) 4 8 }
  if cfg = 0 then { s1 with seg.role := .worker }
  else if cfg = 1 then { s1 with seg.role := .manager }
  else { s1 with seg.role := .starting, twin.st := .electing, twin.electDue := some (s.now + ms (if node = 1 then 40 else 20)) }

end Sys2Proof.Machine
end

