-- ==== Sys2Proof/Machine/Background.lean ====
section
/-! DEFINITION. Background services: Burnish, the thermal and duty limiter, CAN telemetry (R665 to R674), and the event log (R675 to
R684). -/
namespace Sys2Proof.Machine

/-! ### Burnish (R667 to R669) -/

/-- Words of the eNVM (R667). -/
def State.envmWords (s : State) : Nat := if s.fuse.variant = .gz4840 then 65536 else 262144

/-- The target position of the pass (R667). -/
def State.burnishTarget (s : State) : Nat :=
  min s.envmWords ((s.now - s.bg.passAt) * s.envmWords / secs (max 1 (s.g 0x6001 0)))

/-- A word of a partition is uncorrectable (R668): what the partition's row says. `item` names what the word belongs to (log entry 41). -/
def State.nvmBad (s : State) (part item : Nat) : State :=
  if part = 0 then { s with eng.es := modAt s.eng.es item fun (e : Engine) => { e with bad := true } }
  else if part = 1 then { s with keys.bad := if s.keys.bad.contains item then s.keys.bad else item :: s.keys.bad }.quench 1
  else if part = 2 then
    if item < 64 then
      if (s.tokAt item).st = 0 then s else (s.modTok item fun e => { e with st := 2 }).keyGone (.tok item) 0x0F 0x25
    else
      { s with acc.cache := s.acc.cache.map fun (p : Nat × CacheEntry) => if p.1 = item - 64 then (p.1, { p.2 with st := 2 }) else p }
  else if part = 3 then
    let b := s.acc.jr.active
    let s1 := { s with acc.jr := s.acc.jr.setActive { b with slots := modAt b.slots item JSlot.spoil } }
    if item < b.slots.length && ((b.slots[item]?).bind fun x => badAt x.r (b.slots.drop (item + 1))) = some true then
      { s1 with
        acc.jr.st := if s.acc.jr.st = JState.failed then JState.failed else JState.damaged,
        acc.toks := s1.acc.toks.map fun (e : TokEntry) => { e with ctr.conf := true },
        acc.cache := s1.acc.cache.map fun (p : Nat × CacheEntry) => (p.1, { p.2 with ctr.conf := true }) }
    else s1
  else if part = 5 then
    let n := item / 3
    let e := s.tagEnt n
    if 24 < n then s
    else if item % 3 = 0 then s.setTagEnt n { e with fa := e.fa.spoil (e.fa.flagCrc n) }
    else if item % 3 = 1 then s.setTagEnt n { e with fb := e.fb.spoil (e.fb.flagCrc n) }
    else
      let f := { e.inForce with len := 0 }.forFlag n
      s.setTagEnt n { e with fa := f, fb := f }
  else if part = 6 then
    if s.log.head.any fun p => p.1 = item then { s with log.head := s.log.head.filter fun p => p.1 ≠ item }.bump 0x6107 2 else s
  else s

/-- What a scrub read of one word finds (R668): 0 nothing, 1 a correctable, 2 an uncorrectable error. -/
def State.scrubWord (s : State) (err part word item : Nat) : State :=
  let data := [BitVec.ofNat 8 part] ++ toLe 4 word
  if err = 1 then (s.bump 0x6003 1).logEv 0x0C 0 0 (data ++ [0x00])
  else if err = 2 then (((s.bump 0x6003 2).errBit 2 0x6001 0 0).logEv 0x0C 0 0 (data ++ [0x01])).nvmBad part item
  else s

/-- The scrub position moves on by one word; after the last the pass is complete (R667). -/
def State.burnishNext (s : State) : State :=
  if s.bg.pos + 1 < s.envmWords then { s with bg.pos := s.bg.pos + 1 }
  else ({ s with bg.pos := 0, bg.passAt := s.now }.bump 0x6003 3).boundary .bNextPass

/-- No foreground eNVM access is queued (R665, R666). -/
def State.envmIdle (s : State) : Bool :=
  s.acc.jr.writes.isEmpty && s.acc.jr.copied.isNone && s.tag.wr.isNone && s.dict.commit.isNone

/-- One scrub step, while Burnish is behind its target and the eNVM is idle (R666, R667, R669). -/
def State.burnishStep (s : State) (err part word item : Nat) : State :=
  if s.pwr.core && s.envmIdle && s.bg.pos < s.burnishTarget then (s.scrubWord err part word item).burnishNext else s

/-- A slot wake has scrubbed until the lag is 0 (R667): every word read was good or is reported by a BURNISH_STEP of its own. -/
def State.burnishCatchUp (s : State) : State :=
  let t := s.burnishTarget
  if t < s.envmWords then { s with bg.pos := max s.bg.pos t } else ({ s with bg.pos := 0, bg.passAt := s.now }.bump 0x6003 3).boundary .bNextPass

/-! ### Thermal and duty limiter (R672, R673) -/

/-- The condition of a stage, with its margins where `calm` (R672, R673). -/
def State.stageCond (s : State) (n : Nat) (calm : Bool) : Bool :=
  let p := s.g 0x6013 0 * 100
  let l := s.g 0x6010 0
  let t := s.dieTemp + (if calm then 30 else 0)
  let tl : Int := 10 * s.g 0x6011 0
  let q := p + (if calm then 5 * l else 0)
  if n = 1 then decide (90 * l ≤ q) || decide (tl - 60 ≤ t)
  else if n = 2 then decide (100 * l ≤ q) || decide (tl - 30 ≤ t)
  else if n = 3 then decide (110 * l ≤ q) || decide (tl ≤ t)
  else decide (1250 ≤ t)

/-- A change of stage is logged (R673, R722). -/
def State.setStage (s : State) (n : Nat) : State :=
  { s with bg.stage := n, bg.calmAt := none }.logEv 0x08 0 0 [0x05, BitVec.ofNat 8 n]

/-- Every transmitter is cut on the AON path (R264, R672). -/
def State.thermalCut (s : State) : State := (s.txCut.coilsOff).errBit 4 0x6001 Rc.rateLimited Dt.thermal

/-- The limiter samples (R672, R673): the power of the last millisecond in mW, and every 10 ms the die temperature in tenths of a degree (R352). -/
def State.limiterSampleOn (s : State) (power : Nat) (temp : Option Int) : State :=
  let ps := (power :: s.bg.power).take 10000
  let s0 := { s with bg.power := ps }.put 0x6013 0 (ps.sum / 10000)
  let s1 := match temp with | some t => s0.put 0x3214 0 (toTwos 16 t) | none => s0
  let n := if s1.stageCond 4 false then 4 else if s1.stageCond 3 false then 3 else if s1.stageCond 2 false then 2
           else if s1.stageCond 1 false then 1 else 0
  if s1.bg.stage < n then (if n = 4 then (s1.setStage 4).thermalCut else s1.setStage n)
  else if s1.bg.stage = 0 || s1.stageCond s1.bg.stage true then { s1 with bg.calmAt := none }
  else { s1 with bg.calmAt := some (s1.bg.calmAt.getD s1.now) }

/-- The limiter samples while CORE is powered; on the AON path only the cut-off works (R665, R672). -/
def State.limiterSample (s : State) (power : Nat) (temp : Option Int) : State :=
  if s.pwr.core then s.limiterSampleOn power temp
  else if s.pwr.vaon && s.bg.stage < 4 && (temp.map fun t => decide (1250 ≤ t)).getD false then (s.setStage 4).thermalCut
  else s

/-- A stage's condition has been absent for 1 s (R673). -/
def State.stageFall (s : State) : State :=
  if s.pwr.core && 0 < s.bg.stage && (s.bg.calmAt.map fun c => decide (c + secs 1 ≤ s.now)).getD false then s.setStage (s.bg.stage - 1) else s

/-! ### CAN telemetry (R674) -/

/-- GateStateSummary (R271). -/
def State.gateSummary (s : State) : Nat :=
  let a := fun n => b2n (s.gate.aBall n).high
  a 0 + 2 * a 1 + 4 * a 2 + 8 * b2n s.gate.startEn + 16 * b2n (s.gate.b.any (·.high)) + 32 * b2n s.acc.drive.isSome +
    64 * b2n (s.gate.fault.any id) + 128 * b2n s.gate.quench

/-- The publish period ends and the telemetry frame is queued, in class 3 (R569, R674). -/
def State.canTelemetry (s : State) : State :=
  let p := s.g 0x6030 1
  if p = 0xFF || !s.pwr.core || s.now < s.bg.canDue then s
  else
    let d : Bytes := [BitVec.ofNat 8 s.gateSummary, BitVec.ofNat 8 s.bg.stage] ++ toLe 2 (s.g 0x3214 0) ++
      [BitVec.ofNat 8 (twinCode s.twin.st), BitVec.ofNat 8 s.time.qual, BitVec.ofNat 8 (s.g 0x1028 0), BitVec.ofNat 8 s.bg.canCnt]
    { s.canSend p ⟨3, none, 0, 0, 0, 0, s.g 0x6030 2, 0, 0, d, 0, 0⟩ with
      bg.canCnt := (s.bg.canCnt + 1) % 256, bg.canDue := s.now + ms (s.g 0x6030 3) }

/-! ### The event log (R675 to R684) -/

/-- A record as its 64 octets (R675, R676). -/
def LogRec.bytes (r : LogRec) : Bytes :=
  let b := toLe 4 r.seq ++ toLe 6 r.tsec ++ toLe 2 r.tfrac ++
    [BitVec.ofNat 8 r.typ, BitVec.ofNat 8 r.code, BitVec.ofNat 8 r.detail, BitVec.ofNat 8 (128 * b2n r.keep + 64 * b2n r.deferred)] ++ fit 46 r.data
  b ++ toLe 2 (crc16 b)

/-- The two keys of the external log (R682): different loaded AES slots of page 2, both 128 or both 256 bits, with ENC and DEC. -/
def State.logKeys (s : State) : Option (Bytes × Bytes) :=
  let k := s.g 0x6103 1
  let k2 := s.g 0x6103 2
  let ok := fun h => s.slotOwner h = 2 && s.slotKind h = 1 && s.slotUse h 0 && s.slotUse h 1 && s.slotLen h ≠ 1
  match s.slotKey k, s.slotKey k2 with
  | some a, some b => if k ≠ k2 && ok k && ok k2 && a.length = b.length then some (a, b) else none
  | _, _ => none

/-- LogState (R683, R687): 0 ON_CHIP, 1 EXTERNAL, 2 EXT_FAILED. -/
def State.logState (s : State) : Nat :=
  if 16 ≤ s.log.fails then 2 else if s.logKeys.isSome && s.net.qsType ≠ 0 then 1 else 0

/-- Sectors of the log area (R682). -/
def State.logSectors (s : State) : Nat := s.net.qsKb / 4 - s.g 0x6104 0

/-- The record in the head with a SEQ. -/
def State.headRec (s : State) (q : Nat) : Option LogRec :=
  (s.log.head.find? fun p => p.1 = q % 1024 && p.2.seq = q).map (·.2)

/-- What could not be written is reported by one LOG_LOST record (R680). -/
def State.reportLost (s : State) : State :=
  match s.log.lost with
  | none => s
  | some (f, n) => if s.log.buf.length < 64 then { s with log.lost := none }.logEv 0x13 0 0 (toLe 4 f ++ toLe 4 n) else s

/-- A head slot is about to be overwritten: a record that has not reached the memory is lost (R683). -/
def State.headEvict (s : State) (slot : Nat) : State :=
  match s.log.head.find? fun p => p.1 = slot with
  | none => s
  | some (_, r) =>
    if s.logState = 1 && s.log.nextSec ≤ r.seq / 64 then { s with log.lost := addLost s.log.lost r.seq }.bump 0x6107 2 else s

/-- The log writer writes the oldest buffered record into its head slot (R665, R679, R680). -/
def State.headWrite (s : State) : State :=
  match s.log.buf with
  | [] => s
  | r :: rest =>
    if !s.pwr.core || !s.envmIdle then s
    else
      let slot := r.seq % 1024
      let s1 := s.headEvict slot
      ({ s1 with log.buf := rest, log.head := (slot, r) :: s1.log.head.filter (fun p => p.1 ≠ slot) }.bump 0x6107 1).reportLost

/-- All records of a sector are in the head (R683); SEQ 0 belongs to no record. -/
def State.sectorFull (s : State) (q : Nat) : Bool :=
  (List.range 64).all fun i => q * 64 + i = 0 || (s.headRec (q * 64 + i)).isSome

/-- The next sector that can be written (R683). -/
def State.sectorReady (s : State) : Option Nat :=
  ((List.range 17).map (· + max s.log.nextSec (s.log.next / 64 - 16))).find? s.sectorFull

/-- The 4,096 octets of a sector. -/
def State.sectorPlain (s : State) (q : Nat) : Bytes :=
  ((List.range 64).map fun i => ((s.headRec (q * 64 + i)).map LogRec.bytes).getD (zeros 64)).flatten

/-- A sector is encrypted on the LOG page and its erase or program begins (R665, R682, R683). `first` says that it is a NAND block's
first; a NOR sector is always erased. -/
def State.sectorWrite (s0 : State) (first : Bool) : State :=
  let s := s0.boundary .bNextSector
  if s.logState ≠ 1 || s.log.sector.isSome || s.logSectors = 0 || !s.pwr.core then s0
  else
    match s.sectorReady with
    | none => s0
    | some q => { s with log.sector := some (q, !(s.net.qsType = 1 || first)) }.cxUse 3 257

/-- A sector could not be erased or programmed (R683). It is logged as an uncorrectable word of the log partition, with the sector as its
index (DESIGN CHOICE, log entry 71). -/
def State.sectorFail (s : State) (q : Nat) : State :=
  ({ s with log.sector := none, log.nextSec := q + 1, log.fails := s.log.fails + 1 }.bump 0x6107 4).logEv 0x0C 0 0
    ([0x06] ++ toLe 4 q ++ [0x01])

/-- An erase or program of the log memory ends with its status (R583, R683). -/
def State.qsDone (s : State) (ok : Bool) : State :=
  match s.log.sector with
  | none => s
  | some (q, erased) =>
    if !ok then s.sectorFail q
    else if !erased then { s with log.sector := some (q, true) }
    else
      match s.logKeys with
      | none => { s with log.sector := none }
      | some (k, k2) =>
        let a := s.g 0x6104 0 + q % s.logSectors
        { s with log.sector := none, log.nextSec := q + 1, log.fails := 0,
                 log.ext := (s.log.ext.filter fun (p : Nat × Bytes) => p.1 ≠ a) ++ [(a, xtsUnit false k k2 q (s.sectorPlain q))] }.bump 0x6107 3

/-- A record read from the external memory (R684). -/
def State.extRec (s : State) (q : Nat) : Option Bytes :=
  match s.logKeys with
  | none => none
  | some (k, k2) =>
    if s.gate.quench || s.logState ≠ 1 || s.logSectors = 0 then none
    else
      match s.log.ext.find? fun p => p.1 = s.g 0x6104 0 + q / 64 % s.logSectors with
      | none => none
      | some (_, d) =>
        let r := slice (64 * (q % 64)) 64 (xtsUnit true k k2 (q / 64) d)
        if crc16 (r.take 62) = leAt 62 2 r && leAt 0 4 r = q then some r else none

/-- One record of LogWindow: zeros where it is nowhere (R684). -/
def State.logRead (s : State) (q : Nat) : Bytes :=
  match s.headRec q with
  | some r => r.bytes
  | none => (s.extRec q).getD (zeros 64)

/-- LogWindow (R684). -/
def State.logWindow (s : State) : Bytes := ((List.range 16).map fun i => s.logRead (s.g 0x6105 0 + i)).flatten

/-- LogNewestSeq: the highest SEQ written. -/
def State.logNewest (s : State) : Nat := (s.log.head.map fun p => p.2.seq).foldl max 0

/-- LogOldestSeq: the lowest SEQ readable, 0 where none is. -/
def State.logOldest (s : State) : Nat :=
  let h := s.log.head.map fun p => p.2.seq
  let e := if s.logState = 1 && s.logSectors ≠ 0 then
    ((List.range (min s.log.nextSec s.logSectors)).map fun i => max 1 (64 * (s.log.nextSec - min s.log.nextSec s.logSectors + i))).filter
      fun q => (s.extRec q).isSome
    else []
  (h ++ e).foldl (fun m q => if m = 0 then q else min m q) 0

/-- The log at a start-up or a wake: AON markers become records with DEFERRED, the Quench marker first (R680, R681), each with the time at
which the marker was made (DESIGN CHOICE, log entry 71). -/
def State.logDeferred (s : State) : State :=
  let put := fun (s : State) (tm : Nat × Nat) (typ code detail : Nat) (data : Bytes) =>
    { s with log.next := s.log.next + 1 }.pushRec ⟨s.log.next, tm.1, tm.2, typ, code, detail, keepType typ, true, fit 46 data⟩
  let s1 := match s.log.quench with
    | some (c, tm) => put { s with log.quench := none } tm 0x05 0 0 [BitVec.ofNat 8 c]
    | none => s
  let s2 := s1.log.markers.foldl (fun (s : State) r => put s (r.tsec, r.tfrac) r.typ r.code r.detail r.data) { s1 with log.markers := [] }
  if s2.log.lostMk = 0 then s2
  else put { s2 with log.lostMk := 0 } s2.logTime 0x13 0 0 (toLe 4 0 ++ toLe 4 s2.log.lostMk)

/-- The log at a reset: the buffer is lost with CORE, and SEQ resumes one above the highest valid SEQ in the head (R678, R679). -/
def State.logReset (s : State) : State :=
  { s with log.buf := [], log.lost := none, log.sector := none, log.fails := 0, log.next := s.logNewest + 1 }

end Sys2Proof.Machine
end

