-- ==== Sys2Proof/Machine/Ports.lean ====
section
/-! DEFINITION. Domain time as a count (R14, R584 to R589), and the CAN and 10BASE-T1S queues, launch queues, filters and completion
records (R562 to R579). -/
namespace Sys2Proof.Machine

/-! ### The count of domain time -/

/-- One nanosecond in units of 2^-32 ns. -/
def nsU : Nat := 2 ^ 32

/-- One second in units of 2^-32 ns. -/
def secU : Nat := 1000000000 * 2 ^ 32

/-- A domain time as TIME96 (R14). -/
def toT96 (d : Nat) : Nat := d / secU % 2 ^ 48 * 2 ^ 48 + d % secU / 2 ^ 32 * 2 ^ 16 + d / 2 ^ 16 % 2 ^ 16

/-- A TIME96 as domain time (R14). -/
def ofT96 (v : Nat) : Nat := bits v 48 48 * secU + bits v 16 32 * nsU + v % 2 ^ 16 * 2 ^ 16

/-- The nanosecond field of a TIME96 is good (R15). -/
def t96Ok (v : Nat) : Bool := bits v 16 32 ≤ 999999999

/-- The increment in force for each CKC cycle (R584). -/
def State.timeInc (s : State) : Nat := ((s.g 0x4103 0 : Nat) + sext 32 (s.g 0x4105 0)).toNat

/-- What of a slew is applied in `n` CKC cycles (R588): at most TimeSlewMax of the increment. -/
def State.slewIn (s : State) (n : Nat) : Int :=
  let m : Int := (n * s.timeInc * s.g 0x4117 0 / 10000000 : Nat)
  if s.time.slew < 0 then -(min m (-s.time.slew)) else min m s.time.slew

/-- Domain time at a time (R584, R588). -/
def State.domainAt (s : State) (t : Nat) : Nat :=
  let n := (t - s.time.at_) / 5
  ((s.time.base + n * s.timeInc : Nat) + s.slewIn n).toNat

/-- Domain time now. -/
def State.domain (s : State) : Nat := s.domainAt s.now

/-- The count is brought to the present CKC cycle, so that its increment may change. -/
def State.timeSettle (s : State) : State :=
  let n := (s.now - s.time.at_) / 5
  { s with time.base := s.domain, time.at_ := s.time.at_ + 5 * n, time.slew := s.time.slew - s.slewIn n }

/-- Seconds of domain time while it is LOCKED (R122, R124). -/
def State.lockedSecs (s : State) : Option Nat := if s.time.qual = 2 then some (s.domain / secU) else none

/-! ### Completion records and receive queues -/

/-- The queue of a requester: engines 0 to 7, then the host. -/
def rxIx : Requester → Nat
  | .engine n => n
  | _ => 8

/-- The queues of a requester. -/
def State.rxq (s : State) (i : Nat) : RxQ := s.net.rxq.getD i ⟨[], false, [], false, [], 0⟩

/-- The queues of a requester changed. -/
def State.modRxq (s : State) (i : Nat) (f : RxQ → RxQ) : State := { s with net.rxq := modAt s.net.rxq i f }

/-- A completion record (R579): a ninth overwrites the oldest. -/
def State.txRecord (s : State) (who : Option Requester) (seq code detail stamp : Nat) : State :=
  match who with
  | none => s
  | some r =>
    let b := toLe 2 seq ++ [BitVec.ofNat 8 code, BitVec.ofNat 8 detail] ++ toLe 12 (if stamp = 0 then 0 else toT96 stamp)
    s.modRxq (rxIx r) fun q => { q with done := (q.done ++ [b]).drop (q.done.length + 1 - 8) }

/-- NetTxDone (R579). -/
def State.takeDone (s : State) (who : Requester) : Resp × State :=
  match (s.rxq (rxIx who)).done with
  | [] => (⟨Rc.notReady, Dt.noFrame, []⟩, s)
  | b :: bs => (⟨Rc.ok, 0, b⟩, s.modRxq (rxIx who) fun q => { q with done := bs })

/-- The next SEQ of a requester's send commands. -/
def State.nextSeq (s : State) (who : Requester) : Nat × State :=
  let v := ((s.rxq (rxIx who)).seq + 1) % 65536
  (v, s.modRxq (rxIx who) fun q => { q with seq := v })

/-- An engine takes frames: RUNNING or WAITING (R565). -/
def State.takesFrames (s : State) (n : Nat) : Bool :=
  ((s.eng.es[n]?).map fun e => e.st = .running || e.st = .waiting).getD false

/-- A frame goes to a destination of R565 (R566, R575): an engine or the host (0x10). `full` counts a drop. -/
def State.rxDeliver (s : State) (dest : Nat) (eth : Bool) (mk : Bool → Bytes) (ev : Nat) (full : State → State) : State :=
  let i := if dest = 0x10 then 8 else dest
  if i < 8 && !s.takesFrames i then full s
  else
    let q := s.rxq i
    if 16 ≤ (if eth then q.eth.length else q.can.length) then
      full (s.modRxq i fun q => if eth then { q with ethLost := true } else { q with canLost := true })
    else
      let s1 := s.modRxq i fun q =>
        if eth then { q with eth := q.eth ++ [mk q.ethLost], ethLost := false }
        else { q with can := q.can ++ [mk q.canLost], canLost := false }
      if i < 8 then s1.engEv i ev else s1

/-! ### CAN (R562 to R571) -/

/-- A controller. -/
def State.canCtl (s : State) (c : Nat) : CanCtl := s.net.can.getD c .reset

/-- A controller changed. -/
def State.modCan (s : State) (c : Nat) (f : CanCtl → CanCtl) : State := { s with net.can := modAt s.net.can c f }

/-- NetCanMode of a controller: 0 OFF, 1 CLASSICAL, 2 FD, 3 XL. -/
def State.canMode (s : State) (c : Nat) : Nat := s.g 0x4001 (c + 1)

/-- Data octets a frame format allows (R567). -/
def canLenOk (fmt n : Nat) : Bool :=
  if fmt = 0 then n ≤ 8
  else if fmt = 3 then 1 ≤ n && n ≤ 996
  else n ≤ 8 || [12, 16, 20, 24, 32, 48, 64].contains n

/-- A controller's mode allows a frame format (R562). -/
def canFmtOk (mode fmt : Nat) : Bool := if fmt = 0 then 1 ≤ mode else if fmt = 3 then mode = 3 else 2 ≤ mode

/-- An identifier that a unit of R564 uses on a controller (R568). -/
def State.idReserved (s : State) (c id : Nat) : Bool :=
  (id = s.g 0x2424 0 && c = s.g 0x2421 0 && s.g 0x2420 0 ≠ 0) ||
  (bit (s.g 0x1050 0) c && s.g 0x1052 0 ≤ id && id ≤ s.g 0x1052 0 + 15) ||
  (id = 0x7A8 && c = 0 && s.g 0x1048 0 = 1)

/-- The frame a descriptor of R567 asks for; none where a field does not suit. -/
def canParse (a : Bytes) : Option (Nat × CanTx) :=
  let fmt := byteAt 1 a
  let fl := byteAt 2 a
  let id := leAt 4 4 a
  let n := leAt 14 2 a
  let xl := fmt = 3
  if byteAt 0 a ≤ 1 && fmt ≤ 3 && fl < 8 && (xl || !bit fl 2) && (fmt = 0 || !bit fl 1) && (xl || byteAt 3 a = 0) &&
      (xl || (leAt 8 4 a = 0 && byteAt 12 a = 0)) && byteAt 13 a = 0 && bits id 29 2 = 0 &&
      (bit id 31 || id ≤ 0x7FF) && (!xl || id ≤ 0x7FF) && canLenOk fmt n && t96Ok (leAt 16 12 a) then
    some (byteAt 0 a, ⟨0, none, 0, fmt, fl, byteAt 3 a, id, leAt 8 4 a, byteAt 12 a, slice 28 n a, ofT96 (leAt 16 12 a), 0⟩)
  else none

/-- NetCanTx (R567 to R569, R577, R578): the response and the state. -/
def State.canTx (s : State) (who : Requester) (a : Bytes) : Resp × State :=
  if a.length < 28 || a.length ≠ 28 + leAt 14 2 a then (⟨Rc.type, Dt.length, []⟩, s)
  else
    match canParse a with
    | none => (⟨Rc.range, 0, []⟩, s)
    | some (c, f) =>
      if !s.has (5 + c) then (⟨Rc.absent, 0, []⟩, s)
      else if s.canMode c = 0 then (⟨Rc.notReady, Dt.portDown, []⟩, s)
      else if !canFmtOk (s.canMode c) f.fmt then (⟨Rc.range, 0, []⟩, s)
      else if s.idReserved c f.id then (⟨Rc.denied, Dt.idReserved, []⟩, s)
      else if s.domain + 60 * secU < f.time then (⟨Rc.range, 0, []⟩, s)
      else
        let timed := s.domain < f.time
        let k := s.canCtl c
        if (timed && 8 ≤ k.launch.length) || (!timed && 16 ≤ k.q.length) then (⟨Rc.busy, Dt.queueFull, []⟩, s)
        else
          let q := s.nextSeq who
          let f1 := { f with cls := (if who = .host then 3 else 4), who := some who, seq := q.1 }
          let s1 := if timed then q.2.modCan c fun k => { k with launch := k.launch ++ [f1] }
            else if f.time ≠ 0 && f.time < s.domain && !bit f.flags 0 then q.2.txRecord (some who) q.1 Rc.late 0 0
            else q.2.canSend c f1
          (⟨Rc.ok, 0, toLe 2 q.1⟩, s1)

/-- NetCanRx (R566). -/
def State.canRx (s : State) (who : Requester) : Resp × State :=
  match (s.rxq (rxIx who)).can with
  | [] => (⟨Rc.notReady, Dt.noFrame, []⟩, s)
  | b :: bs => (⟨Rc.ok, 0, b⟩, s.modRxq (rxIx who) fun q => { q with can := bs })

/-- The frame that wins its place at time `t`: the highest class, in order of submission, of those queued by then (R569). -/
def CanCtl.front (k : CanCtl) (t : Nat) : Option CanTx :=
  [1, 2, 3, 4].findSome? fun c => k.q.find? fun f => f.cls = c && f.at_ ≤ t

/-- The first element equal to `x` goes. -/
def eraseFirst {α : Type} [DecidableEq α] (x : α) (l : List α) : List α := l.erase x

/-- The error counters set NetCanState (R562, R597). -/
def CanCtl.settle (k : CanCtl) : CanCtl :=
  if k.st = 1 || k.st = 2 then { k with st := if 128 ≤ k.tec || 128 ≤ k.rec_ then 2 else 1 } else k

/-- A CAN frame completes on the wire (R563, R569, R579): `sof` is the time of the sample point of its SOF, its stamp, and `won` that at
which it won arbitration; a frame of a higher class queued since then has waited. -/
def State.canTxDone (s : State) (c sof won : Nat) : State :=
  match (s.canCtl c).front won, decide ((s.canCtl c).st = 1 || (s.canCtl c).st = 2) with
  | some f, true =>
    let s1 := s.modCan c fun k => { k with q := eraseFirst f k.q, sent := some f, tec := k.tec - 1 }.settle
    (s1.bump (0x4012 + c) 2).txRecord f.who f.seq Rc.ok 0 (s.domainAt sof)
  | _, _ => s

/-- A controller reaches bus-off (R570). -/
def State.busOff (s : State) (c : Nat) : State :=
  if (s.canCtl c).st = 1 || (s.canCtl c).st = 2 then
    let st := if s.g 0x4007 0 = 1 then 4 else 3
    (((s.modCan c fun k => { k with st := st }).bump (0x4012 + c) 5).logEv 0x14 0 0 [BitVec.ofNat 8 c, 3])
  else s

/-- A bus error (R562): 8 for a transmitter, 1 for a receiver. -/
def State.busError (s : State) (c : Nat) (tx : Bool) : State :=
  if (s.canCtl c).st = 1 || (s.canCtl c).st = 2 then
    let s1 := s.modCan c fun k =>
      (if tx then { k with tec := k.tec + 8 } else { k with rec_ := min (k.rec_ + 1) 65535 }).settle
    if 256 ≤ (s1.canCtl c).tec then s1.busOff c else s1
  else s

/-- NetCanRecover (R570). -/
def State.canRecover (s : State) (c : Nat) : State :=
  s.modCan c fun k => if k.st = 3 then { k with st := 4 } else k

/-- 128 occurrences of 11 recessive bits end the recovery (R570). -/
def State.canRecovered (s : State) (c : Nat) : State :=
  s.modCan c fun k => if k.st = 4 then { k with st := 1, tec := 0, rec_ := 0 } else k

/-- A controller starts, or is switched OFF with its queued frames completing as PORT_DOWN (R579). -/
def State.canStart (s : State) (c : Nat) : State :=
  if s.canMode c ≠ 0 then s.modCan c fun k => if k.st = 0 then { k with st := 1, tec := 0, rec_ := 0 } else k
  else
    let k := s.canCtl c
    let s1 := s.modCan c fun k => { k with st := 0, q := [], launch := [] }
    (k.q ++ k.launch).foldl (fun s f => s.txRecord f.who f.seq Rc.notReady Dt.portDown 0) s1

/-- A filter matches an identifier (R565). -/
def canMatch (f id : Nat) : Bool :=
  bit f 63 = bit id 31 && ((bits id 0 29) ^^^ bits f 34 29) &&& bits f 5 29 = 0

/-- The destination the filters of a controller give (R565). -/
def State.canDest (s : State) (c id : Nat) : Option Nat :=
  (List.range 16).findSome? fun i =>
    let f := s.g (0x4010 + c) (i + 1)
    if f % 32 ≠ 0x1F && canMatch f id then some (f % 32) else none

/-- The filters judge a received frame that no unit took (R564 to R567). -/
def State.canFilter (s : State) (c : Nat) (f : CanTx) (stamp : Nat) : State :=
  let drop := fun (s : State) => s.bump (0x4012 + c) 3
  if f.fmt = 3 && 996 < f.data.length then drop s
  else
    match s.canDest c f.id with
    | none => drop s
    | some d =>
      s.rxDeliver d false (fun lost =>
        [BitVec.ofNat 8 c, BitVec.ofNat 8 f.fmt, BitVec.ofNat 8 (putBit f.flags 0 lost), BitVec.ofNat 8 f.sdt] ++ toLe 4 f.id ++
          toLe 4 f.af ++ [BitVec.ofNat 8 f.vcid, 0] ++ toLe 2 f.data.length ++ toLe 12 (toT96 stamp) ++ f.data) (4 + c)
        fun s => s.bump (0x4012 + c) 4

/-! ### 10BASE-T1S (R572 to R579) -/

/-- NetEthTx (R576 to R578). -/
def State.ethTx (s : State) (who : Requester) (a : Bytes) : Resp × State :=
  let n := leAt 28 2 a
  if a.length < 30 || a.length ≠ 30 + n then (⟨Rc.type, Dt.length, []⟩, s)
  else if slice 6 6 a ≠ zeros 6 || 1 < byteAt 14 a || byteAt 15 a ≠ 0 || 994 < n || !t96Ok (leAt 16 12 a) then
    (⟨Rc.range, 0, []⟩, s)
  else if leAt 12 2 a = 0x88F7 || leAt 12 2 a = 0x88B5 then (⟨Rc.denied, Dt.idReserved, []⟩, s)
  else if s.net.t1s = 0 then (⟨Rc.notReady, Dt.portDown, []⟩, s)
  else
    let time := ofT96 (leAt 16 12 a)
    if s.domain + 60 * secU < time then (⟨Rc.range, 0, []⟩, s)
    else
      let timed := s.domain < time
      if (timed && 8 ≤ s.net.ethLaunch.length) || (!timed && 16 ≤ s.net.eth.length) then (⟨Rc.busy, Dt.queueFull, []⟩, s)
      else
        let q := s.nextSeq who
        let f : EthTx := ⟨if who = .host then 4 else 5, some who, q.1, a.take 6, leAt 12 2 a, slice 30 n a, byteAt 14 a, time⟩
        let s1 := if timed then { q.2 with net.ethLaunch := q.2.net.ethLaunch ++ [f] }
          else if time ≠ 0 && time < s.domain && !bit (byteAt 14 a) 0 then q.2.txRecord (some who) q.1 Rc.late 0 0
          else { q.2 with net.eth := q.2.net.eth ++ [f] }
        (⟨Rc.ok, 0, toLe 2 q.1⟩, s1)

/-- NetEthRx (R575). -/
def State.ethRx (s : State) (who : Requester) : Resp × State :=
  match (s.rxq (rxIx who)).eth with
  | [] => (⟨Rc.notReady, Dt.noFrame, []⟩, s)
  | b :: bs => (⟨Rc.ok, 0, b⟩, s.modRxq (rxIx who) fun q => { q with eth := bs })

/-- The filters of R575 judge a frame of another EtherType. -/
def State.ethFilter (s : State) (da sa : Bytes) (etype : Nat) (payload : Bytes) (stamp : Nat) : State :=
  let drop := fun (s : State) => s.bump 0x4027 6
  match (List.range 8).findSome? fun i =>
      let f := s.g 0x4028 (i + 1)
      if f % 32 ≠ 0x1F && bits f 16 16 = etype then some (f % 32) else none with
  | none => drop s
  | some d =>
    s.rxDeliver d true (fun lost =>
      fit 6 da ++ fit 6 sa ++ toLe 2 etype ++ [if lost then 1 else 0, 0] ++ toLe 12 (toT96 stamp) ++ toLe 2 payload.length ++ payload)
      6 drop

/-- The frame sent at the next transmit opportunity: the highest class, in order of submission (R576). -/
def State.ethFront (s : State) : Option EthTx := [1, 2, 3, 4, 5].findSome? fun c => s.net.eth.find? fun f => f.cls = c

/-- The octets of a frame on the wire (R576): the part's own address, the EtherType, the payload padded to 46 octets, the FCS. -/
def State.ethWire (s : State) (f : EthTx) : Bytes :=
  let b := fit 6 f.da ++ toLe 6 (s.g 0x4020 0) ++ toBe 2 f.etype ++ (f.payload ++ zeros (46 - f.payload.length))
  b ++ toLe 4 (crc32 b)

/-- A BEACON passes (R574): the PLCA settings waiting for it take hold, and a port in CSMA/CD returns to PLCA. -/
def State.beacon (s : State) : State :=
  if s.net.t1s = 0 then s else (s.boundary .bNextBEACON).t1sStart

/-- No BEACON for 4 cycle lengths (R574). The coordinator sends the BEACON itself. -/
def State.beaconLoss (s : State) : State :=
  if s.net.t1s = 2 then { s with net.t1s := 1 }.bump 0x4027 5 else s

/-! ### Launch queues (R577, R578) -/

/-- Timed frames whose TIME domain time has reached enter their class (R577). -/
def State.launchReached (s : State) : State :=
  let d := s.domain
  let s1 := { s with net.can := s.net.can.map fun (k : CanCtl) =>
    { k with q := k.q ++ (k.launch.filter fun (f : CanTx) => f.time ≤ d).map (fun (f : CanTx) => { f with at_ := s.now }), launch := k.launch.filter fun (f : CanTx) => d < f.time } }
  { s1 with net.eth := s1.net.eth ++ s1.net.ethLaunch.filter fun (f : EthTx) => f.time ≤ d,
            net.ethLaunch := s1.net.ethLaunch.filter fun (f : EthTx) => d < f.time }

/-- A forward step to `d` passes the TIME of timed frames: they complete LATE, or are sent at once with LATE_OK (R578). -/
def State.launchPassed (s : State) (d : Nat) : State :=
  let late := fun (t fl : Nat) => t < d && !bit fl 0
  let cans := (s.net.can.map fun k => (k.launch.filter fun f => late f.time f.flags).map fun f => (f.who, f.seq)).flatten
  let eths := (s.net.ethLaunch.filter fun f => late f.time f.flags).map fun f => (f.who, f.seq)
  let s1 := { s with
    net.can := s.net.can.map fun (k : CanCtl) => { k with launch := k.launch.filter fun f => !late f.time f.flags },
    net.ethLaunch := s.net.ethLaunch.filter fun (f : EthTx) => !late f.time f.flags }
  (cans ++ eths).foldl (fun s p => s.txRecord p.1 p.2 Rc.late 0 0) s1

end Sys2Proof.Machine
end

