-- ==== Sys2Proof/Machine/TimeUnit.lean ====
section
/-! DEFINITION. The time unit: quality, steps and slews, the servo, the 802.1AS instance, TS_IN and PPS_OUT (R584 to R595). The
octets of the 802.1AS messages and the timeout of an Announce are those of IEEE 802.1AS-2020 (log entry 25). -/
namespace Sys2Proof.Machine

/-! ### Quality (R587) -/

/-- TimeQuality changes. Leaving LOCKED sets TIME of DevErrorRegister and discards the TDOA slots (R94, R214). -/
def State.setQual (s : State) (q : Nat) : State :=
  if s.time.qual = q then s
  else
    let s1 := { s with time.qual := q, time.locks := 0, time.holdAt := if q = 3 then s.now else s.time.holdAt }
    if s.time.qual = 2 then ({ s1 with acc.vclk.held := 0 }.errBit 6 0x4100 0 0).tsDropTdoa else s1

/-- The interval of a message kind (0 Sync, 1 Pdelay, 2 Announce) from its logarithm (R590). -/
def State.ptpInterval (s : State) (k : Nat) : Nat :=
  let l := sext 16 (s.g 0x4124 (k + 1))
  if l < 0 then secs 1 / 2 ^ (-l).toNat else secs (2 ^ l.toNat)

/-- Sync has been received within 3 sync intervals on a port in SLAVE (R587). -/
def State.syncPresent (s : State) : Bool :=
  s.time.port = 3 && (s.time.syncAt.map fun t => decide (s.now < t + 3 * s.ptpInterval 0)).getD false

/-- A source is present (R587, R594); a grandmaster is its own. -/
def State.srcPresent (s : State) : Bool := s.syncPresent || s.time.port = 2 || s.time.tsSrc

/-- HOLDOVER and FREE go to ACQUIRING when the source is present, the path settled and no step held (R587). -/
def State.acquire (s : State) : State :=
  if !s.srcPresent then s
  else if s.time.qual = 0 then s.setQual 1
  else if s.time.qual = 3 && s.time.settled && s.time.held = 0 then s.setQual 1
  else s

/-- A source is lost (R587). -/
def State.sourceLost (s : State) : State :=
  let s1 := { s with time.srcLost := true, time.syncAt := none, time.sync := none }.bump 0x412A 4
  if s1.time.qual = 1 || s1.time.qual = 2 then s1.setQual 3 else s1

/-- TimePortState changes (R587, R590). A port that enters SLAVE takes TS_IN out of use (R594); the source is then lost as Sync is. -/
def State.setPort (s : State) (p : Nat) : State :=
  if s.time.port = p then s
  else
    let s1 := if p = 3 && s.time.tsSrc then { s with time.port := p, time.tsSrc := false, time.tsAt := none, time.syncAt := some s.now }
      else { s with time.port := p }
    let s2 := if s.time.port = 3 then s1.sourceLost else s1
    let s3 := if p = 2 then { s2 with time.locks := 0, time.srcLost := false }.acquire else s2
    { s3 with time.pdDue := s.now }

/-! ### Steps and slews (R588, R589) -/

/-- The amount of a step as TIME96 in the log (R677). -/
def stepBytes (a : Nat) : Bytes := toLe 12 (toT96 a)

/-- A step is applied (R588, R589, R578). A grandmaster stays LOCKED (log entry 28). -/
def State.stepApply (s : State) (amt : Int) : State :=
  let s1 := s.timeSettle
  let d := ((s1.time.base : Int) + amt).toNat
  let s2 := { s1 with time.base := d, tpins.stepSec := d / secU }
  let s3 := ((if 0 < amt then s2.launchPassed d else s2).bump 0x412A 1).logEv 0x12 0 0 (0 :: stepBytes amt.natAbs)
  let s4 := if s3.time.qual = 1 then { s3 with time.locks := 0 }
    else if s3.time.qual = 2 && s3.time.port ≠ 2 then s3.setQual 1 else s3
  s4.acquire

/-- A step asked for (R588): forward, or backward within TimeBackStepLimit, at once; a larger backward step is held. -/
def State.stepTime (s : State) (amt : Int) : State :=
  if amt < 0 && (s.g 0x4111 0 : Int) * 1000000 * nsU < -amt then
    let s1 := { s with time.held := amt.natAbs }
    ((s1.setQual 3).bump 0x412A 2).logEv 0x12 0 0 (1 :: stepBytes amt.natAbs)
  else s.stepApply amt

/-- TimeStepConfirm (R588). -/
def State.stepConfirm (s : State) (ceiling : Nat) : (Nat × Nat) × State :=
  if s.time.held = 0 || ceiling < s.time.held then ((Rc.range, Dt.heldValue), s)
  else ((Rc.ok, 0), { s with time.held := 0 }.stepApply (-(s.time.held : Int)))

/-- TimeSlew (R588): an amount in ns. -/
def State.slewTime (s : State) (ns : Int) : (Nat × Nat) × State :=
  if s.g 0x4104 0 ≠ 1 || s.g 0x4110 0 ≤ ns.natAbs then ((Rc.range, 0), s)
  else ((Rc.ok, 0), { s.timeSettle with time.slew := ns * nsU })

/-! ### The servo (R585) -/

/-- TimeServoCorr within ±200 ppm of the nominal increment (R584). -/
def corrLimit (c : Int) : Int := max (-1720740) (min 1720740 c)

/-- TimeServoCorr is set; reaching its ±200 ppm limit is logged (R671). -/
def State.setCorr (s : State) (c : Int) : State :=
  let v := corrLimit c
  let s1 := s.timeSettle.put 0x4105 0 (toTwos 32 v)
  if v.natAbs = 1720740 && s.g 0x4105 0 ≠ toTwos 32 v then s1.logClock else s1

/-- An offset counts towards LOCKED (R587). A grandmaster's lock follows its Sync messages. -/
def State.lockCount (s : State) (off : Int) : State :=
  if s.time.qual = 1 && s.time.port ≠ 2 then
    if off.natAbs ≤ s.g 0x4114 0 * nsU then
      let n := s.time.locks + 1
      if s.g 0x4115 0 ≤ n then s.setQual 2 else { s with time.locks := n }
    else { s with time.locks := 0 }
  else s

/-- The servo acts on a measured offset of local time ahead of its source (R585, R588). In HOLDOVER it holds its correction. -/
def State.servo (s : State) (off : Int) : State :=
  if s.time.qual = 3 then s
  else if s.g 0x4104 0 = 0 then
    if s.g 0x4110 0 * nsU ≤ off.natAbs then s.stepTime (-off)
    else
      let s1 := { (s.setCorr (Config.servoCorr s.time.servoCnt)) with time.slew := -off, time.servoCnt := s.time.servoCnt + 1 }
      s1.lockCount off
  else s.lockCount off

/-! ### 802.1AS (R590 to R593) -/

/-- The clock identity made from the MAC address (log entry 25). -/
def State.clockId (s : State) : Bytes :=
  let m := toLe 6 (s.g 0x4020 0)
  m.take 3 ++ [0xFF, 0xFE] ++ m.drop 3

/-- A timestamp on the wire: seconds and nanoseconds. -/
def ptpTime (d : Nat) : Bytes := toBe 6 (d / secU % 2 ^ 48) ++ toBe 4 (d % secU / nsU)

/-- The header of a message: type, length of the body, sequence number, flags, control and interval. -/
def State.ptpHead (s : State) (typ len seq flags ctl log : Nat) : Bytes :=
  [BitVec.ofNat 8 (0x10 + typ), 0x12] ++ toBe 2 (34 + len) ++ [BitVec.ofNat 8 (s.g 0x4121 0), 0] ++ toBe 2 flags ++ zeros 12 ++
    s.clockId ++ [0, 1] ++ toBe 2 seq ++ [BitVec.ofNat 8 ctl, BitVec.ofNat 8 log]

/-- The 802.1AS multicast address. -/
def ptpMac : Bytes := [0x01, 0x80, 0xC2, 0x00, 0x00, 0x0E]

/-- A message enters the 10BASE-T1S queue: event messages in class 1, others in class 3 (R576). -/
def State.ptpSend (s : State) (event : Bool) (m : Bytes) : State := s.ethSend (if event then 1 else 3) ptpMac 0x88F7 m

/-- The interval field of a message kind. -/
def State.ptpLog (s : State) (k : Nat) : Nat := s.g 0x4124 (k + 1) % 256

/-- The port starts or stops (R590): DISABLED without TimeGptpEnable or with the 10BASE-T1S port OFF. -/
def State.ptpEnable (s : State) : State :=
  if s.g 0x4120 0 = 0 || s.net.t1s = 0 then s.setPort 0
  else if s.time.port = 0 then { s with time.best := [], time.annAt := s.now }.setPort 1 else s

/-- This device's priority vector (R590): priority1, clockClass 248, clockAccuracy 0xFE, variance 0xFFFF, priority2, identity,
steps removed, source port identity. -/
def State.ownVector (s : State) : Bytes :=
  [BitVec.ofNat 8 (s.g 0x4122 0), 248, 0xFE, 0xFF, 0xFF, BitVec.ofNat 8 (s.g 0x4123 0)] ++ s.clockId ++ [0, 0] ++ s.clockId ++ [0, 1]

/-- TimeGmIdentity (R598). -/
def State.gmId (s : State) : Bytes :=
  if s.time.port = 2 then s.clockId else if s.time.port = 3 then slice 6 8 s.time.best else zeros 8

/-- An Announce is received: BMCA (R590). `pv` is the priority vector it carries. -/
def State.announce (s0 : State) (pv : Bytes) : State :=
  let s := s0.boundary .bNextAnnounce
  if s.time.port = 0 || pv.length ≠ 26 || slice 6 8 pv = s.clockId || slice 16 8 pv = s.clockId || 255 ≤ beNat (slice 14 2 pv) then s
  else if beNat pv < beNat s.ownVector then
    let stale := s.time.best = [] || s.time.annAt + 3 * s.ptpInterval 2 ≤ s.now || slice 16 10 pv = slice 16 10 s.time.best
    if stale || beNat pv ≤ beNat s.time.best then { s with time.best := pv, time.annAt := s.now }.setPort 3 else s
  else if s.time.port = 3 && slice 16 10 pv ≠ slice 16 10 s.time.best then s
  else { s with time.best := [] }.setPort 2

/-- The Announce interval expires (R590): a master sends Announce; a port that has heard none for 3 intervals becomes MASTER. -/
def State.announceInterval (s0 : State) : State :=
  if s0.now < s0.time.annDue then s0
  else
    let s := s0.applyPend 0x4124 3
    let s1 := { s with time.annDue := s.now + s.ptpInterval 2 }
    let s2 := if (s1.time.port = 1 || s1.time.port = 3) && s1.time.annAt + 3 * s1.ptpInterval 2 ≤ s1.now then
        { s1 with time.best := [] }.setPort 2 else s1
    if s2.time.port = 2 then
      let s3 := { (s2.boundary .bNextAnnounce) with time.txSeq := (s2.time.txSeq + 1) % 65536 }
      s3.ptpSend false (s3.ptpHead 0x0B 42 s3.time.txSeq 0x0008 5 (s3.ptpLog 2) ++ zeros 10 ++ [0, 37, 0] ++ s3.ownVector.take 14 ++
        [0, 0, 0xA0] ++ [0x00, 0x08, 0x00, 0x08] ++ s3.clockId)
    else s2

/-- The sync interval expires and a master sends Sync; after TimeLockCount of them it is LOCKED (R587, R590). -/
def State.syncInterval (s0 : State) : State :=
  if s0.now < s0.time.syncDue then s0
  else
    let s := s0.applyPend 0x4124 1
    let s1 := { s with time.syncDue := s.now + s.ptpInterval 0 }
    if s1.time.port = 2 then
      let s2 := { s1 with time.txSeq := (s1.time.txSeq + 1) % 65536 }
      let s3 := s2.ptpSend true (s2.ptpHead 0 10 s2.time.txSeq 0x0208 0 (s2.ptpLog 0) ++ zeros 10)
      if s3.time.qual = 1 then
        let n := s3.time.locks + 1
        if s3.g 0x4115 0 ≤ n then s3.setQual 2 else { s3 with time.locks := n }
      else s3.acquire
    else s1

/-- The Pdelay interval expires (R590, R592): every port but a MASTER measures, every 125 ms while the path is not settled. -/
def State.pdelayInterval (s0 : State) : State :=
  if s0.now < s0.time.pdDue then s0
  else
    let s := s0.applyPend 0x4124 2
    let s1 := { s with time.pdDue := s.now + if s.time.settled then s.ptpInterval 1 else ms 125 }
    if s1.time.port = 1 || s1.time.port = 3 || s1.time.port = 4 then
      let s2 := { s1 with time.txSeq := (s1.time.txSeq + 1) % 65536 }
      s2.ptpSend true (s2.ptpHead 2 20 s2.time.txSeq 0x0008 5 (s2.ptpLog 1) ++ zeros 20)
    else s1

/-- A Pdelay_Req arrives, stamped now: a MASTER answers (R590). `src` is the port identity of the sender. -/
def State.pdelayReq (s : State) (seq : Nat) (src : Bytes) : State :=
  if s.time.port = 2 then
    s.ptpSend true (s.ptpHead 3 20 seq 0x0208 5 0x7F ++ ptpTime s.domain ++ fit 10 src)
  else s

/-- A path delay measurement, in 0.1 ns (R592). -/
def State.pathMeasure (s : State) (m : Nat) : State :=
  let filt := s.g 0x4127 0
  let j := s.g 0x4112 0 * 10
  if s.time.settled && s.time.path ≠ [] && (filt + j < m || m + j < filt) then
    let amt := (if m < filt then filt - m else m - filt) * nsU / 10
    let s1 := { s with time.pathChg := true, time.settled := false, time.path := [], time.pdDue := s.now + ms 125 }
    let s2 := if s1.time.qual = 1 || s1.time.qual = 2 then s1.setQual 3 else s1
    (s2.bump 0x412A 3).logEv 0x12 0 0 (2 :: stepBytes amt)
  else
    let l := m :: s.time.path
    let s1 := { s with time.path := l }.put 0x4127 0 (min (2 ^ 32 - 1) (Config.pathFilter l))
    let w := l.take 8
    if !s1.time.settled && w.length = 8 && w.foldl max 0 ≤ w.foldl min m + j then
      { s1 with time.settled := true }.acquire
    else s1

/-- The two-step peer delay from its four stamps (R592): half the difference of the round trip and the turnaround, in 0.1 ns. -/
def pathOf (t1 t2 t3 t4 : Int) : Nat := (((t4 - t1) - (t3 - t2)) * 10 / (2 * 2 ^ 32)).toNat

/-- A Pdelay_Resp with t2, or its follow-up with t3, to this device's own request (R592). -/
def State.pdelayResp (s : State) (follow : Bool) (seq ts : Nat) : State :=
  match s.time.preq with
  | none => s
  | some q =>
    if q.seq ≠ seq then s
    else if follow then
      match s.time.presp with
      | none => s
      | some (t2, t4) => { s with time.preq := none, time.presp := none }.pathMeasure (pathOf q.ts t2 ts t4)
    else { s with time.presp := some (ts, s.domain) }

/-- An offset from the master, from the arrival stamp, the origin time and the correction in 2^-16 ns (R590, R593). -/
def State.offsetIn (s : State) (stamp origin : Nat) (corr : Int) : State :=
  let path : Int := (s.g 0x4127 0 * nsU / 10 : Nat)
  let asym : Int := sext 32 (s.g 0x4128 0) * nsU / 10
  let off : Int := (stamp : Int) - ((origin : Int) + corr * 65536 + path + asym)
  let s1 := s.put 0x4126 0 (toTwos 32 (max (-(2 ^ 31)) (min (2 ^ 31 - 1) (off * 10 / nsU))))
  s1.servo off

/-- A Sync is received and stamped (R587, R590, R591); a one-step Sync carries its origin. -/
def State.syncIn (s : State) (seq : Nat) (twoStep : Bool) (origin : Nat) (corr : Int) : State :=
  if s.time.port = 3 then
    let s1 := { s with time.syncAt := some s.now, time.srcLost := false }.acquire
    if twoStep then { s1 with time.sync := some ⟨seq, s1.domain⟩ } else s1.offsetIn s1.domain origin corr
  else s

/-- A Follow_Up completes the measurement of its Sync (R590). -/
def State.followUp (s : State) (seq origin : Nat) (corr : Int) : State :=
  match s.time.sync with
  | none => s
  | some y =>
    if s.time.port = 3 && y.seq = seq then { s with time.sync := none }.offsetIn y.ts origin corr else s

/-- An 802.1AS frame has left, stamped at the medium (R591): a Sync is followed by its Follow_Up, a Pdelay_Resp by its follow-up,
and a Pdelay_Req's stamp is kept. -/
def State.ptpSent (s : State) (m : Bytes) (stamp : Nat) : State :=
  let typ := byteAt 0 m % 16
  let seq := beNat (slice 30 2 m)
  if typ = 0 then
    s.ptpSend false (s.ptpHead 8 42 seq 0x0008 2 (s.ptpLog 0) ++ ptpTime stamp ++
      [0x00, 0x03, 0x00, 0x1C, 0x00, 0x80, 0xC2, 0x00, 0x00, 0x01] ++ zeros 22)
  else if typ = 2 then { s with time.preq := some ⟨seq, stamp⟩, time.presp := none }
  else if typ = 3 then s.ptpSend false (s.ptpHead 0x0A 20 seq 0x0008 5 0x7F ++ ptpTime stamp ++ slice 44 10 m)
  else s

/-- A timestamp of the wire. -/
def ptpTimeOf (b : Bytes) : Nat := beNat (b.take 6) * secU + beNat (slice 6 4 b) * nsU

/-- A received 802.1AS frame of this domain is taken by its type (R575, R590). -/
def State.ptpIn (s : State) (m : Bytes) : State :=
  if m.length < 44 || byteAt 0 m / 16 ≠ 1 || byteAt 4 m ≠ s.g 0x4121 0 then s
  else
    let typ := byteAt 0 m % 16
    let seq := beNat (slice 30 2 m)
    let corr := sext 64 (beNat (slice 8 8 m))
    let ts := ptpTimeOf (slice 34 10 m)
    let mine := slice 44 10 m = s.clockId ++ [0, 1]
    if typ = 0 then s.syncIn seq (bit (byteAt 6 m) 1) ts corr
    else if typ = 8 then s.followUp seq ts corr
    else if typ = 2 then s.pdelayReq seq (slice 20 10 m)
    else if typ = 3 then if mine then s.pdelayResp false seq ts else s
    else if typ = 0x0A then if mine then s.pdelayResp true seq (((ts : Int) + corr * 65536).toNat) else s
    else if typ = 0x0B then s.announce (slice 47 14 m ++ slice 61 2 m ++ slice 20 10 m)
    else s

/-- Three sync intervals without Sync, or three seconds without an edge of a TS_IN source (R587, log entry 29). -/
def State.sourceLoss (s : State) : State :=
  let s1 := if s.time.port = 3 && s.time.syncAt.isSome && !s.syncPresent then s.sourceLost else s
  if s1.time.tsSrc && (s1.time.tsAt.map fun t => decide (t + secs 3 ≤ s1.now)).getD true then
    { s1 with time.tsSrc := false, time.tsAt := none }.sourceLost
  else s1

/-- HOLDOVER longer than TimeHoldoverLimit becomes FREE (R587). -/
def State.holdoverLimit (s : State) : State :=
  if s.time.qual = 3 && s.time.holdAt + secs (s.g 0x4116 0) < s.now then s.setQual 0 else s

/-- A write of TimeAsymmetry clears PATH_CHANGED (R593). -/
def State.asymmetry (s : State) (v : Nat) : State := { s with time.pathChg := false }.put 0x4128 0 v

/-- TimeFlags (R598). -/
def State.timeFlags (s : State) : Nat :=
  8 * b2n (s.time.held ≠ 0) + 4 * b2n s.time.pathChg + 2 * b2n s.time.srcLost + b2n s.time.tsSrc

/-! ### TS_IN and PPS_OUT (R594, R595) -/

/-- An edge on TS_IN (R594). -/
def State.tsEdge (s : State) (i : Nat) (rising : Bool) : State :=
  let cfg := s.g 0x4130 (i + 1)
  if bit cfg (if rising then 0 else 1) then
    let d := s.domain
    let s1 := { s with
      tpins.tsTime := putAt s.tpins.tsTime i (toT96 d), tpins.tsRcnt := putAt s.tpins.tsRcnt i (s.rcnt s.now),
      tpins.ovr := if s.tpins.unread.getD i false then putAt s.tpins.ovr i true else s.tpins.ovr,
      tpins.unread := putAt s.tpins.unread i true }
    if bit cfg 2 && s1.time.port ≠ 3 then
      let f := d % secU
      let off : Int := if f * 2 < secU then (f : Int) else (f : Int) - secU
      ({ s1 with time.tsSrc := true, time.tsAt := some s.now, time.srcLost := false }.acquire).servo off
    else s1
  else s

/-- A read of TimeTsInTime (R594). -/
def State.tsRead (s : State) (i : Nat) : State :=
  { s with tpins.unread := putAt s.tpins.unread i false, tpins.ovr := putAt s.tpins.ovr i false }

/-- TimeTsInOverrun (R594). -/
def State.tsOver (s : State) : Nat := b2n (s.tpins.ovr.getD 0 false) + 2 * b2n (s.tpins.ovr.getD 1 false)

/-- Domain time has crossed a whole second (R589, R595): the engines' PPS event, and PPS_OUT where TimePpsCfg lets it. -/
def State.ppsTick (s : State) : State :=
  let sec := s.domain / secU
  if s.tpins.ppsSec < sec && s.tpins.stepSec < sec then
    let s1 := { s with tpins.ppsSec := sec }.engEvAll 22
    let cfg := s1.g 0x4138 0
    if bit cfg 0 && (!bit cfg 2 || s1.time.qual = 2) then
      let s2 := s1.applyPend 0x4139 0
      { s2 with tpins.pps := true, tpins.ppsDue := s2.now + ms (s2.g 0x4139 0) }
    else s1
  else s

/-- TimePpsWidth ends and PPS_OUT falls (R595). -/
def State.ppsEnd (s : State) : State :=
  if s.tpins.pps && s.tpins.ppsDue ≤ s.now then { s with tpins.pps := false } else s

/-- The level of PPS_OUT (R595). -/
def State.ppsPin (s : State) : Bool := (s.tpins.pps && bit (s.g 0x4138 0) 0) != bit (s.g 0x4138 0) 1

/-- Domain time at a reset: 0 s, FREE (R586). -/
def State.timeReset (s : State) : State := { s with time := { TimeU.reset with at_ := s.now }, tpins := .reset }

/-- Domain time at a wake: LOCKED becomes HOLDOVER (R586). -/
def State.timeWake (s : State) : State := if s.time.qual = 2 then s.setQual 3 else s

end Sys2Proof.Machine
end

