-- ==== Sys2Proof/Machine/Power.lean ====
section
/-! DEFINITION. Power, clocks and reset (R634 to R652, R661 to R663): resets, the start-up sequence, SHUTDOWN, CORE power-down and wake, and the
clocks. -/
namespace Sys2Proof.Machine

/-! ### What a reset keeps (R46, R47, R648) -/

/-- Objects that are durable at their write (R107, R438), and DevCommitCount. -/
def durableIdx (i : Nat) : Bool := (0x2000 ≤ i && i < 0x2200) || (0x3600 ≤ i && i < 0x3700) || i = 0x1011

/-- Whether an object's Persist is P. -/
def isP (k : Nat) : Bool :=
  match findObj (k / 256) (k % 256) with
  | some o => o.per = .p
  | none => false

/-- A register that a reset leaves: durable P objects, and with VAON the calibration results (R333) and PwrClockRatio. -/
def keptReg (cold : Bool) (k : Nat) : Bool :=
  let i := k / 256
  (durableIdx i && isP k) ||
    (!cold && (i = 0x3215 || (0x3220 ≤ i && i ≤ 0x3222) || (0x3230 ≤ i && i ≤ 0x3234) || i = 0x1111))

/-- An object whose value DevCommit captures and a reset loads (R42, R107, R438, R619). -/
def committable (k : Nat) : Bool := isP k && !durableIdx (k / 256) && k / 256 ≠ 0x4302 && k / 256 ≠ 0x2428

/-- The record whose words are being written at a reset: it stands where both words have been written (R143, R144). -/
def State.journalCut (s : State) : State :=
  match s.acc.jr.writes with
  | [] => s
  | w :: _ =>
    let j := { s.acc.jr with writes := [], waiting := [] }
    if w.due ≤ s.now + us 20 then { s with acc.jr := j.setActive (j.active.push true w.r) } else { s with acc.jr := j }

/-- CORE and RF are reset (R648): what the AON domain and the non-volatile memories hold is kept; `cold` clears the AON domain as well. -/
def State.coreReset (s0 : State) (cold : Bool) : State :=
  let s := ((s0.endAll.radioOff).journalCut).keysReset.logReset
  let es := s.eng.es.map fun (e : Engine) => { Engine.reset with image := e.startable, st := if e.startable.isSome then EngSt.stopped else EngSt.empty }
  let a1 : Acc := { Acc.reset with
    toks := s.acc.toks, cache := s.acc.cache, revoked := s.acc.revoked, vclk := { s.acc.vclk with taken := false, held := 0 }, jr := s.acc.jr,
    drive := s.acc.drive, fails := s.acc.fails, ifs := s.acc.ifs, code := s.acc.code, doors := s.acc.doors }
  let rf : Rfc := if cold then .reset else { Rfc.reset with uwb.dcoAt := s.rfc.uwb.dcoAt, ble.dcoAt := s.rfc.ble.dcoAt }
  let imm : Immo := { Gate.reset.immo with seq := s.gate.immo.resv, resv := s.gate.immo.resv }
  let g1 : Gate := { Gate.reset with
    a := s.gate.a, b := s.gate.b, dead := s.gate.dead, relock := s.gate.relock, startEn := s.gate.startEn, startAt := s.gate.startAt, hist := s.gate.hist,
    closeAt := s.gate.closeAt, chg := s.gate.chg, onTimes := s.gate.onTimes, vio := s.gate.vio, immo := imm }
  let np := fun (p : NfcPort) => ({ p with st := 0, falses := 0, act := none, cards := 0, next := none } : NfcPort)
  let z : State := { State.reset with
    now := s.now, pending := s.pending, fuse := s.fuse, reg := s.reg.filter fun (p : Nat × Nat) => keptReg cold p.1,
    pend := s.pend.filter fun (p : Nat × Nat) => durableIdx (p.1 / 256),
    dict := { Dict.reset with guards := s.dict.guards, bankA := s.dict.bankA, bankB := s.dict.bankB, bankCur := s.dict.bankCur, last := s.dict.last },
    log := s.log, keys := s.keys, acc := a1, gate := g1, twin := { Twin.reset with epoch := s.twin.epoch }, bg := { Bg.reset with passAt := s.now },
    eng := { Eng.reset with es := es, gpin := s.eng.gpin }, tag := s.tag, cap := s.cap, nfc := ⟨s.nfc.ports.map np⟩,
    net := { Net.reset with qsType := s.net.qsType, qsId := s.net.qsId, qsKb := s.net.qsKb },
    pwr := s.pwr, rfc := rf }
  let z1 := z.timeReset
  if cold then
    { z1.lockPowerUp.vcPowerUp with
      acc.drive := none, gate := { Gate.reset with immo := imm, vio := s.gate.vio }, cap := .reset, nfc := .reset,
      log := { z1.log with markers := [], lostMk := 0, quench := none } }
  else z1

/-- A reset source acts (R647): two in the same slow-clock cycle leave the cold kind, or the lower cause of one kind. -/
def State.resetTake (s : State) (cold : Bool) (cause : Nat) : State :=
  let both := s.pwr.held && aonTick s.now = aonTick s.pwr.relAt
  let cold' := cold || (both && s.pwr.cold)
  let cause' := if !both then cause
    else if s.pwr.cold = cold then min cause s.pwr.cause
    else if cold then cause else s.pwr.cause
  let z := s.coreReset cold'
  { z with pwr := { z.pwr with
      phase := .loading, core := true, held := true, shut := false, shutDue := none, pll := false, lostAt := none, refOk := false,
      slowRc := if cold' then true else z.pwr.slowRc, xtalFail := false, xtalDone := false, cause := cause', cold := cold', relAt := s.now,
      idleAt := none, downAt := none, monDue := none, wakes := 0, unitsUp := false } }

/-! ### Start-up (R651, R652) -/

/-- The current bank becomes the values in force (R46, R47); the table in force is the committed one (R226). -/
def State.loadBank (s : State) : State :=
  let s1 := (s.bank.filter fun p => committable p.1).foldl (fun s p => s.put (p.1 / 256) (p.1 % 256) p.2) s
  let es := s1.eng.es.map fun (e : Engine) =>
    match e.image with
    | some im => { e with data := s1.idleData im }
    | none => e
  { s1 with ts.cur := tsTableOf s1.g 0, eng.es := es }

/-- A reset is released and the start-up sequence runs to the self-test (R651 steps 1 to 10; the clocks come with their own commands, log
entry 42). `twinId` is the ball TWIN_ID (R582); the rest is what probing the log memory finds (R583). -/
def State.resetRelease (s : State) (twinId : Bool) (qsType : Nat) (qsId : Bytes) (qsKb : Nat) : State :=
  if !s.pwr.held || !s.pwr.vaon || (s.pwr.cause = 6 && !s.pwr.refOk) then s
  else
    let s1 := { s with
      pwr := { s.pwr with held := false, vsup := true, refOk := false, phase := .loading, relAt := s.now, rcntAt := s.now, wdtAt := s.now },
      seg.twinId := twinId, eng.cyc0 := s.now, bg.passAt := s.now, time.at_ := s.now, rng := .reset, net.qsType := qsType, net.qsId := qsId,
      net.qsKb := qsKb }
    let s2 := ((s1.loadBank).roleStart.journalScan).logDeferred
    let push := s2.gate.startEn && s2.g 0x2420 0 = 1
    { s2 with pwr.phase := .selftest, gate.immo.next := if push then some (s2.now + ms (s2.g 0x2426 0)) else none }

/-- The RF start-up calibration (R329, R333): a full set of both transceivers after a cold reset. -/
def State.startCal (s : State) : State :=
  if s.pwr.cold then [Xc.uwb, Xc.ble].foldl (fun s x => s.calDue x (fullSet x) true true) s else s


/-- Ports are enabled and engines with EngAutoStart started (R550, R651 step 12); a unit that failed its self-test stays off. -/
def State.unitsOn (s : State) (fail : Nat) : State :=
  let s1 := [0, 1].foldl (fun s c => if bit fail (5 + c) then s else s.canStart c) { s with pwr.unitsUp := true }
  let s2 := if bit fail 3 then s1 else s1.t1sStart
  (List.range (engCount s.fuse.variant)).foldl (fun s n =>
    if bit fail (24 + n) || !bit (s.g 0x5003 0) n then s else s.engStart n) s2

/-- The start-up self-test ends (R652): `fail` by the layout of DevUnitPresence, `sealBad` for the seal path or the gate latches, `deny` for the
access state machines or the key store. A cause of Quench that is still there brings it again (R268): a bad word in the key store. -/
def State.startTestDone (s : State) (fail : Nat) (sealBad deny : Bool) : State :=
  if s.pwr.phase ≠ .selftest || s.pwr.held || !s.pwr.core || !s.clocksOk then s
  else
    let f0 := fail &&& presence s.fuse.variant
    let f := if sealBad || deny then f0 ||| 0x400 else f0
    let cores := (presence s.fuse.variant) &&& 0x00F00000
    let s1 := s.put 0x1021 0 f
    let s2 := if f = 0 then s1 else s1.errBit 0 0x1000 0 0
    if deny || (f0 &&& cores) = cores then s2.startHeld
    else
      let q1 := if sealBad then s2.quench 3 else s2
      let q2 := if s.keys.bad = [] then q1 else q1.quench 1
      let s3 := q2.unitsOn f
      if s3.gate.quench then s3.startHeld
      else if s3.seg.cfg = 2 then
        { s3 with pwr.phase := .tinning, twin.electDue := some (s.now + ms (if s.seg.node = 1 then 40 else 20)) }
      else s3.accessReady

/-! ### Watchdog and SHUTDOWN (R639, R640, R650) -/

/-- The AON watchdog has not been restarted in time (R650). -/
def State.watchdog (s : State) : State :=
  if s.pwr.core && s.pwr.pll && !s.pwr.held && s.pwr.wdtAt + ms (s.g 0x110A 0) ≤ s.now then s.resetTake false 3 else s

/-- The access state machines, or the segment unit of a worker, restart the watchdog (R650). -/
def State.watchdogKick (s : State) : State := if s.pwr.core && s.pwr.pll then { s with pwr.wdtAt := s.now } else s

/-- PwrShutdown (R639): code, detail and state. -/
def State.shutdown (s : State) (arg : Bytes) : (Nat × Nat) × State :=
  if arg.length ≠ 2 then ((Rc.type, Dt.length), s)
  else if leAt 0 2 arg ≠ 0x5344 then ((Rc.range, 0), s)
  else if s.gate.startEn || s.acc.drive.isSome || s.acc.entry ≠ [] || s.acc.start ≠ [] then ((Rc.busy, Dt.unitActive), s)
  else
    let s1 := (s.acc.ses.foldl (fun (s : State) o => match o with | none => s | some x => s.endSession x.tsh (some (Rc.notReady, 0))) s).netDropAll
    ((0, 0), { s1.putFloor with pwr.shutDue := some (s.now + ms 1) })

/-- A wake source in SHUTDOWN (R640, R641): HSPI, or IGN, CAN0 or CAN1 where enabled. -/
def State.shutdownExit (s : State) (src : Nat) : State :=
  if s.pwr.shut && (src = 3 || ((src = 5 || src = 6 || src = 7) && bit (s.g 0x1104 0) src)) then s.resetTake false 7 else s

/-! ### CORE power-down and wake (R636 to R638, R641, R642, R661, R662) -/

/-- An engine is in a state in which CORE may power down (R538, R636). -/
def Engine.still (e : Engine) : Bool := e.st ≠ .running && e.st ≠ .debugHalt

/-- The conditions of R636 to R638 and R662 hold now. -/
def State.coreIdle (s : State) : Bool :=
  s.pwr.phase = .ready && s.g 0x1101 0 = 0 && (s.twin.st = .none_) &&
    (s.seg.role ≠ .worker || s.seg.mgrs.all fun m => (m.beat.map fun b => decide (b + 3 * s.beat ≤ s.now)).getD true) &&
    s.acc.ses.all (·.isNone) && s.acc.entry.isEmpty && s.acc.start.isEmpty && s.ts.reqs.isEmpty &&
    !(s.gate.a.any (·.high)) && !(s.gate.b.any (·.high)) && s.gate.dead.all (·.isNone) &&
    (!s.gate.startEn || s.g 0x2420 0 ≠ 1) &&
    s.ble.conns.all (·.isNone) && s.uwb.plan.isEmpty && s.uwb.air.isNone && s.uwb.aux.isEmpty && s.lf.q.isEmpty && s.lf.run.isNone &&
    s.nfc.ports.all (fun p => p.act.isNone && p.next.isNone) &&
    s.eng.es.all Engine.still &&
    s.dict.spi.req.isNone && s.dict.spi.rsp.isNone && s.dict.net.all (fun n => n.reqs.isEmpty) && s.dict.twinReqs.isEmpty &&
    s.dict.direct.isEmpty && s.dict.commit.isNone && s.dict.selfTest.isNone && s.cx.pages.all (fun p => p.reqs.isEmpty) && s.keys.waits.isEmpty && s.keys.defer.isEmpty &&
    s.keys.zeroing.isEmpty && s.acc.jr.writes.isEmpty && s.acc.jr.copied.isNone && s.rfc.cmds.isEmpty && s.rfc.uwb.run.isNone &&
    s.rfc.ble.run.isNone && s.net.can.all (fun c => c.q.isEmpty && c.launch.isEmpty) && s.net.eth.isEmpty && s.net.ethLaunch.isEmpty &&
    s.acc.learn.isNone && s.tmr.zipIdx.all (fun p => p.2 < 8 || !(p.1.run && bit p.1.ctrl 18))

/-- Since when the conditions hold (R636), kept at every command. -/
def State.noteIdle (s : State) : State :=
  { s with pwr.idleAt := if s.coreIdle && s.pwr.core then some (s.pwr.idleAt.getD s.now) else none }

/-- CORE is powered down (R485, R504, R214, R661): links and rounds that a SHUTDOWN finds are over. -/
def State.coreDown (s : State) : State :=
  let s1 := (s.tmrDown.timeSettle).radioOff
  { s1.tsEmpty.sourcesDown.keysVolatile with
    ble.conns := List.replicate 8 none, ble.event := none, uwb.plan := [], uwb.air := none, uwb.await := [], uwb.aux := [],
    pwr := { s1.pwr with core := false, pll := false, refOk := false, downAt := some s.now, idleAt := none, wakes := 0 }, dict.spi.alive := false }

/-- CORE powers down: for SHUTDOWN where it has been commanded (R639), else after PwrIdleDelay (R636). -/
def State.corePowerDown (s : State) : State :=
  if !s.pwr.core || s.pwr.held then s
  else
    match s.pwr.shutDue with
    | some d =>
      if d ≤ s.now && s.dict.commit.isNone && s.rfc.uwb.run.isNone && s.rfc.ble.run.isNone then
        { s.coreDown with pwr.shut := true, pwr.shutDue := none }
      else s
    | none =>
      if (s.pwr.idleAt.map fun i => decide (i + ms (s.g 0x1103 0) ≤ s.now)).getD false && s.coreIdle then s.coreDown else s

/-- CKS cycles that the tracked ratio gives for slow-clock ticks (R646). -/
def State.cksOfTicks (s : State) (ticks : Nat) : Nat := ticks * s.g 0x1111 0 / 65536

/-- The engines at a wake (R534, R538): CORE_WAKE, and a WAITT deadline that passed while CORE was down completes with TIMEOUT and
LATE_WAKE. -/
def State.engWakes (s : State) : State :=
  (List.range 8).foldl (fun (s : State) n =>
    let e := s.engine n
    match e.wait.bind fun w => w.dead.map fun d => (w, d) with
    | some (w, d) =>
      if e.st = .waiting && d ≤ s.cyc then
        s.setEngine n { ({ e with evt := e.evt ||| 0x01000001#32 }.wake w.rd (w.mask ||| 1)) with wdt := s.now }
      else s
    | none => s) (s.engEvAll 23)

/-- CORE wakes on the sources of a mask (R641, R643, R661, R680). -/
def State.coreWakeOn (s : State) (src : Nat) : State :=
  let down := s.pwr.downAt.getD s.now
  let ticks := aonTick s.now - aonTick down
  let s1 := { s with pwr := { s.pwr with core := true, monDue := some (s.now + us 1080), wakes := src, wdtAt := s.pwr.wdtAt + (s.now - down) } }
  let s2 := ((s1.put 0x1105 0 src).bump 0x1107 0).bumpBy 0x1109 0 ((s.now - down) / secs 1)
  let s3 := { s2.tmrWake ticks with eng.cyc0 := s.eng.cyc0 + (s.now - down) - min (s.eng.cyc0 + (s.now - down)) (cks (s.cksOfTicks ticks)) }
  ({ s3.timeWake with rng.st := if s3.rng.st = RngSt.fatal then RngSt.fatal else RngSt.starting, rng.cold := false }.logDeferred).engWakes

/-- Enabled sources of a mask: SCHED and HSPI are always enabled (R641). -/
def State.wakeMask (s : State) (src : Nat) : Nat := src &&& (s.g 0x1104 0 ||| 0x408) &&& 0x7FF

/-- An enabled wake source wakes CORE (R641, R642). -/
def State.coreWake (s : State) (src : Nat) : State :=
  if s.pwr.core || s.pwr.shut || s.pwr.held || s.wakeMask src = 0 then s else s.coreWakeOn (s.wakeMask src)

/-- The lead of the wake scheduler (R662): PwrWakeLead, the time to PLL lock, and 2 % of the power-down with the RC. -/
def State.wakeLead (s : State) : Nat :=
  us (s.g 0x1106 0) + us 260 + (if s.pwr.slowRc then (s.now - s.pwr.downAt.getD s.now) / 50 else 0)

/-- An engine deadline that the scheduler meets (R538). -/
def State.engDeadline (s : State) (e : Engine) : Bool :=
  match e.wait.bind (·.dead), e.image with
  | some d, some im => bit im.options 1 && decide (d * 10 + s.eng.cyc0 ≤ s.now + s.wakeLead)
  | _, _ => false

/-- The wake scheduler has something due (R641, R662, R670): a wake-critical channel or engine deadline, an advertising event, the FLOOR
period, or Anneal ahead of an advertising event. -/
def State.schedDue (s : State) : Bool :=
  (s.tmr.zipIdx.any fun p => p.2 < 8 && p.1.run && bit p.1.ctrl 18 && decide (p.1.nearest ≤ s.now + s.wakeLead)) ||
    (s.eng.es.any fun e => s.engDeadline e) ||
    (s.advProfile ≠ 0 && decide (s.ble.advAt ≤ s.now + ms 2)) ||
    decide (s.acc.vclk.floorAt + secs (s.g 0x2123 0) ≤ s.now)

/-- The wake scheduler wakes CORE (R641, R662). -/
def State.schedWake (s : State) : State :=
  if s.pwr.core || s.pwr.shut || s.pwr.held || !s.schedDue then s else s.coreWakeOn 0x400

/-- Burnish makes a slot wake at a lag of 4,096 words (R667). -/
def State.burnishWake (s : State) : State :=
  if s.pwr.core || s.pwr.shut || s.pwr.held || s.burnishTarget < s.bg.pos + 4096 then s else (s.coreWakeOn 0x400).burnishCatchUp

/-! ### Clocks (R643 to R646) -/

/-- The PLL locks: CKC and CKS start (R643). At a start-up RO and ML are powered and the RF calibrates; after a wake the units resume; at a
relock they go on from where they were held. -/
def State.pllLock (s : State) : State :=
  if s.pwr.pll || s.pwr.held || !s.pwr.core || !s.pwr.vsup then s
  else
    let s1 := { s with pwr.pll := true }
    match s.pwr.lostAt, s.pwr.downAt with
    | some l, _ =>
      let d := s.now - l
      { s1 with pwr.lostAt := none, pwr.rcntAt := s.pwr.rcntAt + d, pwr.wdtAt := s.pwr.wdtAt + d, eng.cyc0 := s.eng.cyc0 + d,
                time.at_ := s.time.at_ + d }.tmrResume.logClock
    | none, some dn =>
      let n := s.cksOfTicks (aonTick s.now - aonTick dn)
      let s2 := { s1 with pwr.downAt := none, pwr.rcntAt := s.now, time.base := s.time.base + n * 2 * s.timeInc, time.at_ := s.now, dict.spi.alive := true }
      s2.tmrResume.sourcesUp
    | none, none =>
      { s1 with pwr.rcntAt := s.now, eng.cyc0 := s.now, time.at_ := s.now, dict.spi.alive := true }.tmrResume.sourcesUp.startCal

/-- PLL lock is lost: CORE units are held (R643). -/
def State.pllLost (s : State) : State :=
  if !s.pwr.pll then s
  else { (s.tmrDown.timeSettle) with pwr.pll := false, pwr.lostAt := some s.now }.errBit 1 0x1100 0 0

/-- No relock within 1 ms (R643). -/
def State.relockTimeout (s : State) : State :=
  if (s.pwr.lostAt.map fun l => decide (l + ms 1 ≤ s.now)).getD false then s.resetTake false 6 else s

/-- The reference passes its monitor's 1 ms window (R643, R644). -/
def State.refPass (s : State) : State :=
  if s.pwr.core && s.pwr.vaon then { s with pwr.refOk := true, pwr.monDue := none } else s

/-- The reference is outside ±5 % (R644): Quench where a seal could be issued, else a reset held until it passes again. -/
def State.refLoss (s : State) : State :=
  if !s.pwr.core then s
  else if s.mayDecide then s.quench 2
  else s.resetTake false 6

/-- 2,048 good crystal periods (R645). -/
def State.xtalSwitch (s : State) : State :=
  if s.g 0x1112 0 = 1 && s.pwr.slowRc && !s.pwr.xtalDone && s.pwr.vaon then { s with pwr.slowRc := false } else s

/-- The crystal stops (R645). -/
def State.xtalFail (s : State) : State :=
  if s.pwr.slowRc then s
  else ({ s with pwr.slowRc := true, pwr.xtalFail := true, pwr.xtalDone := true }.errBit 1 0x1100 0 0).logClock

/-- 256 slow-clock ticks of CKS cycles have been measured (R646, R671). -/
def State.ratioMeasure (s : State) (cycles : Nat) : State :=
  if !s.cksOn then s
  else
    let h : Int := s.g 0x1111 0
    let v := h + ((cycles * 256 : Nat) - h) / 4
    let s1 := s.put 0x1111 0 (toTwos 32 v)
    if 500 * h < 1000000 * (v - h).natAbs then s1.logClock else s1

/-! ### Rails (R634, R696) -/

/-- VAON rises through its power-on level (R647). -/
def State.vaonPor (s : State) : State := ({ s with pwr.vaon := true }.resetTake true 0).fieldUp false

/-- VAON falls (R634): the part is held in cold reset; a tag write stops at `step`. -/
def State.vaonLoss (s : State) (step : Nat) : State :=
  let s1 := ({ s.tagPowerLoss step with pwr.vaon := false }).resetTake true 0
  if s1.tag.field then s1 else { s1.tagEndTxn with tag.st := .off, tag.fromHalt := false }

/-- VSUP falls below its brown-out level (R647): a system reset is held until it returns. -/
def State.vsupLow (s : State) : State := ({ s with pwr.vsup := false }).resetTake false 1

/-- VIO falls: outputs are undriven and readback is suspended (R696). -/
def State.vioLow (s : State) : State := { s with gate.vio := false }

/-- VIO returns: each comparison restarts after GateRbDelay (R696). -/
def State.vioBack (s : State) : State :=
  { s with gate.vio := true, gate.chg := s.gate.chg.map fun _ => s.now, gate.mism := s.gate.mism.map fun _ => 0 }

end Sys2Proof.Machine
end

