-- ==== Sys2Proof/Machine/Read.lean ====
section
/-! DEFINITION. What a READ of each object returns (the object tables of every chapter): values that the state holds in a
home of their own, and the register file for all others. -/
namespace Sys2Proof.Machine

/-- RfcUwbState and RfcBleState (R317). -/
def xcCode : XcState → Nat
  | .off => 0 | .idle => 1 | .settling => 2 | .ready => 3 | .tx => 4 | .rx => 5 | .cal => 6

/-- RngSourceState (R521). -/
def srcCode : SrcState → Nat
  | .off => 0 | .settling => 1 | .startup => 2 | .running => 3 | .restarting => 4 | .failed => 5 | .idle => 6

/-- RngState (R521). -/
def rngCode : RngSt → Nat
  | .starting => 0 | .seeded => 1 | .reseedWait => 2 | .fatal => 3

/-- EngState (R560). -/
def engStCode : EngSt → Nat
  | .empty => 0 | .stopped => 1 | .running => 2 | .waiting => 3 | .trapped => 4 | .halted => 5 | .debugHalt => 6

/-- TokJournalState (R151). -/
def jrCode : JState → Nat
  | .normal => 0 | .compacting => 1 | .damaged => 2 | .failed => 3

/-- PwrStartPhase (R663). -/
def phaseCode : StartPhase → Nat
  | .loading => 0 | .selftest => 1 | .tinning => 2 | .ready => 3 | .held => 4

/-- KeyState (R520). -/
def slotCode : SlotState → Nat
  | .empty => 0 | .loaded => 1 | .erasing => 2

/-- PwrIdleMode (R663): ACTIVE while CORE may not power down at all (R636, R637), else PARKED or LISTEN by BleAdvProfile. -/
def State.idleMode (s : State) : Nat :=
  if s.pwr.phase ≠ .ready || s.g 0x1101 0 = 1 || s.twin.st ≠ .none_ then 2 else if s.g 0x3101 0 = 0 then 0 else 1

/-- One element of DevNetSession (R93). -/
def NetSess.word (n : NetSess) : Nat :=
  if n.phase ≠ .opened then 0
  else (match n.via with | .t1s _ _ => 0 | .can c _ => (c + 1) * 1024) + 256 + n.rid

/-- Objects of Dev, Pwr, Tmr, Rng, Cx and Key with a home in the state. -/
def State.readCore (s : State) (who : Requester) (idx sub : Nat) : Option Nat :=
  if idx = 0x1012 then some (if s.dict.commit.isSome then 1 else s.g 0x1012 0)
  else if idx = 0x1041 && 1 ≤ sub then some (((s.dict.net[sub - 1]?).map NetSess.word).getD 0)
  else if idx = 0x1100 then some s.idleMode
  else if idx = 0x1108 then some s.pwr.cause
  else if idx = 0x1110 then some s.clockState
  else if idx = 0x1113 then some (phaseCode s.pwr.phase)
  else if 0x1210 ≤ idx && idx < 0x121C && 1 ≤ sub then
    let n := idx - 0x1210
    let c := (s.tmrOf n).settle (8 ≤ n) s.now
    some (match sub with
      | 1 => c.ctrlWord | 2 => c.base | 3 => c.end_ | 4 => c.cmp | 5 => c.cmpB | 6 => c.capAt s.now | 7 => c.stat | _ => c.mask)
  else if idx = 0x1300 then some (rngCode s.rng.st)
  else if idx = 0x1301 && 1 ≤ sub then some (srcCode (s.sourceShown (sub - 1)))
  else if idx = 0x1306 && 1 ≤ sub then some (s.source (sub - 1)).fails
  else if idx = 0x1309 then some s.seedAge
  else if idx = 0x1400 then some (coreCount s.fuse.variant)
  else if idx = 0x1401 then some s.cxState
  else if idx = 0x1412 then some (s.cxPending who)
  else if idx = 0x1501 then some s.slotsUsed
  else if idx = 0x1511 && 1 ≤ sub then
    let h := s.g 0x1510 0
    let k := s.keys.slots.getD h KeySlot.blank
    some (match sub with
      | 1 => slotCode k.st | 2 => k.attr | 3 => k.ver | 4 => s.keyUsers h | 5 => leNat (s.keyKcv h) | _ => k.mirror)
  else none

/-- Entry 0x2231 of the session selected (R201). -/
def State.readSession (s : State) (sub : Nat) : Nat :=
  match s.acc.ses.getD (s.g 0x2230 0) none with
  | none => 0
  | some x =>
    let dues := ((s.acc.entry.filter (·.tsh = x.tsh)).map (·.due)) ++ ((s.acc.start.filter (·.tsh = x.tsh)).map (·.due))
    match sub with
    | 1 => x.tsh
    | 2 => ifaceOf x.car
    | 3 => keyCode x.key
    | 4 =>
      b2n (s.acc.entry.any (·.tsh = x.tsh)) + 2 * b2n (s.acc.start.any (·.tsh = x.tsh)) +
        4 * b2n ((s.acc.drive.map fun d => decide (d.2 = x.tsh)).getD false)
    | 5 => ((dues.min?).map fun d => (d - s.now) / ms 1).getD 0
    | _ => x.seals

/-- TsEvidenceWindow (R236): each occupied slot of the selected page with its present age. -/
def State.readEvidence (s : State) : Bytes :=
  let sel := s.g 0x2360 0
  match s.acc.ses.getD (bits sel 4 4) none with
  | none => zeros 1024
  | some x =>
    let keys := (s.tsKeys.drop (64 * bits sel 0 2)).take 64
    fit 1024 ((keys.map fun k =>
      match s.slotOf x.tsh k with
      | some e =>
        ({ kind := e.key.1, src := e.key.2.1, src2 := e.key.2.2, flags := e.flags, tsh := e.tsh, round := e.round,
           age := min 65535 ((s.now - e.tm) / us 10), qual := e.qual, rsvd := 0, value := e.value } : Item).toBytes
      | none => zeros 16).flatten)

/-- CredRevokedWindow (R136): 64 entries from the selected position, as CredRevoke takes them. -/
def State.readRevoked (s : State) : Bytes :=
  fit 1024 (((s.acc.revoked.drop (s.g 0x2105 0)).take 64).map fun r =>
    toLe 8 r.1 ++ toLe 1 r.2.1 ++ toLe 6 r.2.2 ++ [0]).flatten

/-- One element of a token entry (R104). -/
def TokEntry.element (e : TokEntry) : Nat → Nat
  | 1 => e.st | 2 => e.cls | 3 => e.tid | 4 => e.handle | 5 => e.rights | 6 => e.zones | 7 => e.notAfter | _ => e.ctr.comm

/-- Objects of Tok, Cred, Acc, Ts and Gate with a home in the state. -/
def State.readAccess (s : State) (idx sub : Nat) : Option Nat :=
  if 0x2040 ≤ idx && idx < 0x2080 && 1 ≤ sub then some ((s.tokAt (idx - 0x2040)).element sub)
  else if idx = 0x2001 then some (s.acc.toks.filter (·.st ≠ 0)).length
  else if idx = 0x2008 then some (jrCode s.acc.jr.st)
  else if idx = 0x2009 then some s.acc.jr.active.fill
  else if idx = 0x200B then some s.acc.commitUs
  else if idx = 0x2101 then some s.acc.cache.length
  else if idx = 0x2104 then some s.acc.revoked.length
  else if idx = 0x2106 then some (leNat s.readRevoked)
  else if idx = 0x2120 then some s.acc.vclk.vc
  else if idx = 0x2121 then some s.acc.vclk.st
  else if idx = 0x2122 then some s.acc.vclk.floor
  else if idx = 0x2126 then some s.acc.vclk.held
  else if idx = 0x2131 && 1 ≤ sub then
    some (((s.cacheAt (s.g 0x2130 0)).map fun e =>
      match sub with | 1 => e.id | 2 => e.auth | 3 => e.notAfter | 4 => e.ctr.comm | _ => e.st).getD 0)
  else if idx = 0x2209 then
    some (match s.acc.learn with | none => 0 | some l => if l.xfer.isSome then 3 else if l.code then 2 else 1)
  else if idx = 0x2231 && 1 ≤ sub then some (s.readSession sub)
  else if idx = 0x2232 && 1 ≤ sub then
    some ((((s.acc.ifs[sub - 1]?).bind (·.lock)).map fun l => (l.until_ - s.now + secs 1 - 1) / secs 1).getD 0)
  else if idx = 0x2300 then
    some s.tsState
  else if idx = 0x2340 then
    some (s.acc.ses.zipIdx.foldl (fun a p => a + (if (p.1.map fun x => s.vetoed x.tsh s.now).getD false then 2 ^ p.2 else 0)) 0)
  else if idx = 0x2343 then some s.ts.store.length
  else if idx = 0x2361 then some (leNat s.readEvidence)
  else if idx = 0x2410 then some s.gateSummary
  else if idx = 0x2412 && 1 ≤ sub then some (s.gate.rateAt (sub - 1) s.now)
  else if idx = 0x2418 then some (s.gate.fault.zipIdx.foldl (fun a p => a + (if p.1 then 2 ^ p.2 else 0)) 0)
  else if idx = 0x2428 then some s.gate.immo.seq
  else none

/-- Objects of Uwb, Ble, Rfc, Lf, Cap, Nfc and Tag with a home in the state. -/
def State.readRadio (s : State) (idx sub : Nat) : Option Nat :=
  if idx = 0x3000 then some (if s.gate.quench then 0 else if s.uwb.air.isSome || !s.uwb.aux.isEmpty then 2 else 1)
  else if idx = 0x3070 then some (s.rcnt s.now)
  else if idx = 0x3110 then some s.bleHeld
  else if idx = 0x3112 && 1 ≤ sub then
    let c := s.g 0x3111 0
    some (match s.conn c with
      | none => if sub = 4 then 23 else 0
      | some x =>
        match sub with
        | 1 => 1 | 2 => x.phy | 3 => x.interval | 4 => x.mtu
        | 5 => ((s.sesOn (.ble c)).map fun p => p.2.tsh).getD 0
        | _ => toTwos 16 x.rssi)
  else if 0x3140 ≤ idx && idx < 0x3150 && sub = 3 then some (s.bleChar (idx - 0x3140)).owner
  else if idx = 0x3200 then some (xcCode s.rfc.uwb.st)
  else if idx = 0x3201 then some (xcCode s.rfc.ble.st)
  else if idx = 0x3260 then some s.femPins
  else if idx = 0x3410 && 1 ≤ sub then some (s.capCh (sub - 1)).raw
  else if idx = 0x3411 && 1 ≤ sub then some ((((s.capCh (sub - 1)).base.map fun b => (b.floor).toNat).getD 0))
  else if idx = 0x3414 then some s.touchState
  else if idx = 0x3510 && 1 ≤ sub then some (s.nfcPort (sub - 1)).st
  else if idx = 0x3600 then some s.tagState
  else if idx = 0x3603 then some (b2n s.tag.txn)
  else if idx = 0x3611 && 1 ≤ sub && sub ≤ 3 then
    let f := (s.tagEnt (s.g 0x3610 0)).inForce
    some (match sub with | 1 => f.len | 2 => f.acl | _ => f.seq)
  else if idx = 0x3620 then some (beNat (s.ndefFile.take 2))
  else if idx = 0x3624 then some (leNat (slice (s.g 0x3623 0) 1024 s.ndefFile))
  else if idx = 0x3631 && 1 ≤ sub then some (s.tag.fails.getD (sub - 1) 0)
  else none

/-- Objects of Net, Time, Seg, Twin, Eng, Bg and Log with a home in the state. -/
def State.readNet (s : State) (idx sub : Nat) : Option Nat :=
  if idx = 0x4005 && 1 ≤ sub then some (s.canCtl (sub - 1)).st
  else if idx = 0x4006 && 1 ≤ sub then some ((s.canCtl (sub - 1)).tec * 65536 + (s.canCtl (sub - 1)).rec_)
  else if idx = 0x4026 then some s.net.t1s
  else if idx = 0x4040 then some s.net.wl
  else if idx = 0x4042 then some (b2n s.seg.twinId)
  else if idx = 0x4050 then some s.net.qsType
  else if idx = 0x4052 then some (leNat s.net.qsId)
  else if idx = 0x4053 then some s.net.qsKb
  else if idx = 0x4100 then some (toT96 s.domain)
  else if idx = 0x4101 then some s.time.qual
  else if idx = 0x4102 then some s.timeFlags
  else if idx = 0x410A then some (toT96 s.time.held)
  else if idx = 0x4125 then some s.time.port
  else if idx = 0x4129 then some (leNat s.gmId)
  else if idx = 0x4131 && 1 ≤ sub then some (toT96 (s.tpins.tsTime.getD (sub - 1) 0))
  else if idx = 0x4132 && 1 ≤ sub then some (s.tpins.tsRcnt.getD (sub - 1) 0)
  else if idx = 0x4133 then some s.tsOver
  else if idx = 0x4201 then some s.roleCode
  else if idx = 0x4204 then some s.workerCount
  else if idx = 0x4208 then some (b2n s.witnessed)
  else if idx = 0x4211 && 1 ≤ sub then some (s.workerState (sub - 1))
  else if idx = 0x4213 && 1 ≤ sub then some (s.residual (sub - 1))
  else if idx = 0x4300 then some (twinCode s.twin.st)
  else if idx = 0x4302 then some s.twin.epoch
  else if idx = 0x4303 then some s.twin.peerRole
  else if idx = 0x5001 && 1 ≤ sub then some (engStCode (s.engine (sub - 1)).st)
  else if idx = 0x5009 && 1 ≤ sub then some ((((s.engine (sub - 1)).image).map Image.version).getD 0)
  else if idx = 0x5014 then some s.loadState
  else if idx = 0x5022 then some (leNat (memRead s.eng.mbx (s.g 0x5021 0) 1024))
  else if idx = 0x5033 then some s.eng.gpin
  else if idx = 0x6002 then some s.bg.pos
  else if idx = 0x6012 then some s.bg.stage
  else if idx = 0x6100 then some s.logState
  else if idx = 0x6101 then some s.logNewest
  else if idx = 0x6102 then some s.logOldest
  else if idx = 0x6106 then some (leNat s.logWindow)
  else none

/-- The value of an object of the hardware, as a number of its type's width. -/
def State.readNat (s : State) (who : Requester) (idx sub : Nat) : Nat :=
  let u := idx / 0x1000
  ((if u = 1 then s.readCore who idx sub else if u = 2 then s.readAccess idx sub else if u = 3 then s.readRadio idx sub
    else s.readNet idx sub).getD (s.g idx sub))

/-- The value that a READ returns (R49, R39): of the type's size, but BleEngValue and TagRecData have the length last written
(R374, R442); an engine-defined object is read from its engine's data memory (R540). -/
def State.readVal (s : State) (who : Requester) (idx sub : Nat) : Bytes :=
  if 0x8000 ≤ idx then
    match s.engObj idx sub with
    | some (n, o) => s.engObjRead n o
    | none => toLe 1 ((s.engCountAt idx).getD 0)
  else if 0x3140 ≤ idx && idx < 0x3150 && sub = 5 then (s.bleChar (idx - 0x3140)).val
  else if idx = 0x3611 && sub = 4 then (s.tagEnt (s.g 0x3610 0)).data
  else toLe (((findObj idx sub).map fun o => o.ty.size).getD 0) (s.readNat who idx sub)

end Sys2Proof.Machine
end

