-- ==== Sys2Proof/Machine/DictCheck.lean ====
section
/-! DEFINITION. The checks of R38 on a dictionary access, in their order: presence (R4), access class (R38 to R41, R92), form, Quench
(R721), start-up, permitted values and absent capabilities, IDLE units, and the checks particular to an object. -/
namespace Sys2Proof.Machine

/-- The letter of a class in an access string. -/
def Access5.letter (a : Access5) : Requester → Letter
  | .host => a.h
  | .net _ => a.n
  | .engine _ => a.e
  | .twin => a.t
  | .field => a.f

/-- The letter a 2-bit field of an image's ACCESS byte gives (R546). -/
def accLetter (n : Nat) : Letter :=
  match n with | 0 => .no | 1 => .r | 2 => .w | _ => .b

/-- The letter a requester has on an object of engine `n` (R540). -/
def EngObj.letter (o : EngObj) (n : Nat) : Requester → Letter
  | .host => accLetter (bits o.acc 6 2)
  | .net _ => accLetter (bits o.acc 4 2)
  | .engine k => if k = n then .b else accLetter (bits o.acc 2 2)
  | _ => .no

/-- The units of DevUnitPresence an object belongs to (R4, R5): it is present while one of them is. 0 for an object that every
variant has. -/
def unitMask (idx sub : Nat) : Nat :=
  let e := sub - 1
  if 0x1048 ≤ idx && idx ≤ 0x1052 then 0x60
  else if idx = 0x1404 || idx = 0x1405 then
    (if sub = 4 then 0x800 else if 6 ≤ sub && sub ≤ 13 then 2 ^ (18 + sub) else 0)
  else if idx = 0x2223 then (if sub = 2 then 0x100 else 0x400)
  else if 0x2000 ≤ idx && idx < 0x2500 then 0x400
  else if 0x3000 ≤ idx && idx < 0x3100 then 1
  else if 0x3100 ≤ idx && idx < 0x3200 then 2
  else if 0x3300 ≤ idx && idx < 0x3400 then
    (if sub = 0 || idx = 0x3309 then 0xF0000 else 2 ^ (16 + (if idx = 0x3307 then e % 4 else e)))
  else if 0x3400 ≤ idx && idx < 0x3500 then
    (if sub ≠ 0 && (idx = 0x3402 || idx = 0x3410 || idx = 0x3411 || idx = 0x3413) then 2 ^ (12 + e) else 0xF000)
  else if 0x3500 ≤ idx && idx < 0x3600 then
    (if sub ≠ 0 && (idx = 0x3504 || idx = 0x3510 || idx = 0x3512) then 2 ^ (7 + e) else 0x180)
  else if 0x3600 ≤ idx && idx < 0x3700 then 0x200
  else if 0x4001 ≤ idx && idx ≤ 0x4006 && sub ≠ 0 then 2 ^ (5 + e)
  else if idx = 0x4010 || idx = 0x4012 then 0x20
  else if idx = 0x4011 || idx = 0x4013 then 0x40
  else if 0x4001 ≤ idx && idx ≤ 0x4019 then 0x60
  else if 0x4020 ≤ idx && idx ≤ 0x402A then 8
  else if 0x4040 ≤ idx && idx ≤ 0x4042 then 0x800
  else if 0x4300 ≤ idx && idx < 0x4400 then 0x800
  else if 0x5001 ≤ idx && idx ≤ 0x5009 && idx ≠ 0x5002 && sub ≠ 0 then 2 ^ (24 + e)
  else if idx = 0x6030 then 0x60
  else if 0x8000 ≤ idx && idx < 0xC000 then 2 ^ (24 + (idx - 0x8000) / 0x800)
  else 0

/-- The object stands on this variant (R4, R89, R90). -/
def State.objHere (s : State) (idx sub : Nat) : Bool :=
  let m := unitMask idx sub
  if 0x8000 ≤ idx then (s.engObj idx sub).isSome || (sub = 0 && (s.engCountAt idx).isSome)
  else (findObj idx sub).isSome && (m = 0 || presence s.fuse.variant &&& m ≠ 0)

/-- Every present unit of the object has failed its self-test, and the object is not one of the units a self-test of which does not
stop (R652). -/
def State.objFailed (s : State) (idx sub : Nat) : Bool :=
  let m := presence s.fuse.variant &&& unitMask idx sub
  m ≠ 0 && m ≠ 0x400 && m &&& s.g 0x1021 0 = m

/-- Units that do not serve before step 12 of R651 (log entry 43). -/
def lateUnit (idx : Nat) : Bool :=
  (0x2300 ≤ idx && idx < 0x2500) || (0x3000 ≤ idx && idx < 0x3200) || (0x3300 ≤ idx && idx < 0x3600) || (0x4000 ≤ idx && idx < 0x4200) ||
    (0x5001 ≤ idx && idx < 0x5100) || 0x8000 ≤ idx

/-- The owning unit is started (check 7 of R38). -/
def State.unitUp (s : State) (idx sub : Nat) : Bool :=
  !(!s.pwr.unitsUp && lateUnit idx) && !(s.pwr.phase = .loading && 0x2000 ≤ idx && idx < 0x2300) && !s.objFailed idx sub

/-- A value within `lo` to `hi`. -/
def inR (lo hi v : Nat) : Bool := lo ≤ v && v ≤ hi

/-- No bit outside a mask. -/
def inMask (m v : Nat) : Bool := v ||| m = m

/-- A HANDLE's values (R12). -/
def isHandle (v : Nat) : Bool := v < 128 || v = 0xFFFF

/-- TmrCtrl without a reserved bit or value (R653). -/
def tmrCtrlOk (n v : Nat) : Bool :=
  v < 2 ^ 20 && bits v 4 2 = 0 && bits v 6 2 ≠ 3 && bits v 8 4 ≤ 0xB && bits v 12 4 ≤ 8 &&
    (8 ≤ n || bits v 12 4 = 0 && bits v 16 2 = 0)

/-- A filter destination that is not reserved (R565). -/
def destOk (d : Nat) : Bool := d < 8 || d = 0x10 || d = 0x1F

/-- A NetCanFilter value R565 permits. -/
def canFilterOk (v : Nat) : Bool :=
  destOk (bits v 0 5) && (v.testBit 63 || bits v 45 18 = 0 && bits v 16 18 = 0)

/-- A NetEthFilter value R575 permits. -/
def ethFilterOk (v : Nat) : Bool :=
  bits v 5 11 = 0 && destOk (bits v 0 5) && bits v 16 16 ≠ 0x88F7 && bits v 16 16 ≠ 0x88B5

/-- Timing ranges of the front-end modules (R352): element, and whether the 2.4 GHz module. -/
def femTimeOk (ble : Bool) (sub v : Nat) : Bool :=
  match sub with
  | 1 => inR 200 (if ble then 3900 else 2900) v
  | 2 => inR 100 2000 v
  | 3 => inR 200 3000 v
  | _ => inR 200 5000 v

/-- The values the objects' own rules permit (check 8 of R38), for the objects whose table row does not say it in a range. -/
def State.specialOk (s : State) (idx sub v : Nat) : Bool :=
  let e := sub - 1
  if 0x2040 ≤ idx && idx < 0x2080 then inMask 0x70F v
  else if idx = 0x2003 then 1 < v && v ≤ 65535
  else if idx = 0x2208 then inMask 0x10F v
  else if 0x2310 ≤ idx && idx < 0x2314 then inMask 3 v
  else if idx = 0x3006 then v ≤ 8
  else if idx = 0x3008 then inR 8 1000 v && v % 2 = 0
  else if idx = 0x3250 || idx = 0x3258 then inMask 0x1FF v
  else if idx = 0x3251 || idx = 0x3259 then femTimeOk (idx = 0x3259) sub v
  else if idx = 0x3101 then v ≤ 4
  else if 0x3140 ≤ idx && idx < 0x3150 then inMask 0x1F v
  else if idx = 0x5021 then v ≤ 64512 && v % 16 = 0
  else if idx = 0x5030 || idx = 0x5034 then v < 8 || v = 0xFF
  else if idx = 0x4002 then [125000, 250000, 500000, 1000000].contains v
  else if idx = 0x4003 then [1000000, 2000000, 4000000, 5000000, 8000000, 10000000].contains v
  else if idx = 0x4004 then inR 60 90 (bits v 8 8) && inR 60 90 (bits v 0 8)
  else if idx = 0x4010 || idx = 0x4011 then canFilterOk v
  else if idx = 0x4020 then v % 2 = 0
  else if idx = 0x4028 then ethFilterOk v
  else if idx = 0x4103 then inR (0x200D20D21 - 0x200D20D21 / 1000) (0x200D20D21 + 0x200D20D21 / 1000) v
  else if idx = 0x4124 then
    (let x := sext 16 v
     if sub = 1 then -5 ≤ x && x ≤ 0 else if sub = 2 then -3 ≤ x && x ≤ 3 else x = 0)
  else if idx = 0x4130 || idx = 0x4138 then inMask 7 v
  else if idx = 0x1104 then inMask 0x7FF v && bit v 3 && bit v 10
  else if 0x1210 ≤ idx && idx < 0x121C then
    (let n := idx - 0x1210
     match sub with
     | 1 => tmrCtrlOk n v
     | 3 => if n < 8 then 1 ≤ v else inR 2 65535 v
     | 4 => n < 8 || v ≤ 65535
     | 5 => if n < 8 then v = 0 else v ≤ 65535
     | _ => inMask 0x3FF v)
  else if idx = 0x4202 then inMask 0xFFF v && (s.gp 0x4200 0 ≠ 0 || 2 ≤ v % 16)
  else e < 0x100

/-- Objects whose row says a range and whose own rule says more. -/
def moreRules (idx sub : Nat) : Bool :=
  idx = 0x4202 || (0x1210 ≤ idx && idx < 0x121C && 3 ≤ sub && sub ≤ 5)

/-- Check 8 of R38: the value is permitted (R12, R13). -/
def State.permitted8 (s : State) (d : ObjDef) (idx sub v : Nat) : Bool :=
  (match d.perm with
   | .any => d.ty ≠ .bool || v ≤ 1
   | .bool => v ≤ 1
   | .handle => isHandle v
   | .special => s.specialOk idx sub v
   | .canBase => v ≤ 0x7F0 && v % 16 = 0
   | .range lo hi => inR lo hi v
   | .srange lo hi => (let x := sext (8 * d.ty.size) v; lo ≤ x && x ≤ hi)
   | .rangeOr lo hi x => inR lo hi v || v = x
   | .mask m => inMask m v
   | .vals vs => vs.contains v) &&
  (!moreRules idx sub || s.specialOk idx sub v) && (idx ≠ 0x3406 || s.fuse.variant ≠ .gz4840 || v = 2) &&
  (!(0x2320 ≤ idx && idx < 0x2330 && 2 ≤ sub && sub ≤ 9) || constraintOk v) &&
  (!(idx = 0x3611 && sub = 2) || aclOk v)

/-- An engine number that names an absent engine. -/
def State.noEngine (s : State) (n : Nat) : Bool := n < 8 && engCount s.fuse.variant ≤ n

/-- A bit set that names an absent engine. -/
def State.noEngines (s : State) (v : Nat) : Bool := (List.range 8).any fun n => bit v n && s.noEngine n

/-- Check 8 of R38: the value selects an absent capability (R4). -/
def State.selectsAbsent (s : State) (idx sub v : Nat) : Bool :=
  if idx = 0x4001 then v = 3 && !s.has 4
  else if idx = 0x4003 then (v = 8000000 || v = 10000000) && !s.has 4
  else if idx = 0x4200 then (v = 1 || v = 2) && !s.has 10 || v = 2 && !s.has 11
  else if idx = 0x2421 then !s.has (5 + v)
  else if idx = 0x2422 then v = 1 && !s.has (5 + s.g 0x2421 0)
  else if idx = 0x1050 then bit v 0 && !s.has 5 || bit v 1 && !s.has 6
  else if idx = 0x6030 then sub = 1 && v < 2 && !s.has (5 + v)
  else if idx = 0x1502 then v = 3 && !s.has 11 || 5 ≤ v && v ≤ 12 && s.noEngine (v - 5)
  else if idx = 0x5030 || idx = 0x5034 then s.noEngine v
  else if idx = 0x5003 || idx = 0x5004 then s.noEngines v
  else if idx = 0x5020 then s.noEngines (bits v 0 8) || s.noEngines (bits v 8 8)
  else if idx = 0x4010 || idx = 0x4011 || idx = 0x4028 then s.noEngine (bits v 0 5)
  else if idx = 0x3300 then (List.range 4).any fun n => bit v n && !s.has (16 + n)
  else if idx = 0x3400 then (List.range 4).any fun n => bit v n && !s.has (12 + n)
  else if idx = 0x3500 then (List.range 2).any fun n => bit v n && !s.has (7 + n)
  else if idx = 0x2221 || idx = 0x2222 || idx = 0x4215 then v < 4 && !s.has (16 + v)
  else false

/-- An engine runs or waits. -/
def State.engBusy (s : State) (n : Nat) : Bool :=
  n < 8 && ((s.engine n).st = .running || (s.engine n).st = .waiting)

/-- No CAN dictionary message is partly received or in progress. -/
def State.canDictIdle (s : State) : Bool :=
  s.dict.reasm.all (·.isNone) &&
    s.dict.net.all fun n => n.reqs.isEmpty || (match n.via with | .can _ _ => false | .t1s _ _ => true)

/-- No ENTRY, START or drive-latch session is open. -/
def State.noAccess (s : State) : Bool := s.acc.entry.isEmpty && s.acc.start.isEmpty && s.acc.drive.isNone

/-- Check 9 of R38: the unit that owns an IDLE object is idle, as its chapter defines it. -/
def State.unitIdle (s : State) (idx sub v : Nat) : Bool :=
  let e := sub - 1
  if 0x1050 ≤ idx && idx ≤ 0x1052 then s.canDictIdle
  else if idx = 0x1013 then s.dict.commit.isNone && s.noAccess && s.ts.reqs.isEmpty
  else if idx = 0x1020 then s.dict.selfTest.isNone && s.noAccess
  else if 0x2420 ≤ idx && idx ≤ 0x2427 then !s.gate.startEn
  else if idx = 0x300F || inR 0x3020 0x3032 idx then s.uwb.air.isNone && s.uwb.aux.isEmpty
  else if inR 0x3250 0x3253 idx then s.rfc.uwb.st = .off
  else if inR 0x3258 0x325B idx then s.rfc.ble.st = .off
  else if idx = 0x3300 || idx = 0x3302 || idx = 0x330B then s.lf.run.isNone && s.lf.q.isEmpty && s.lf.diag.isNone
  else if idx = 0x3500 then s.nfc.ports.all (·.act.isNone)
  else if idx = 0x1404 || idx = 0x1405 then (s.cxPage e).reqs.isEmpty
  else if idx = 0x1502 then s.slotSt e = .empty || e = 0
  else if idx = 0x5030 || idx = 0x5034 then !s.engBusy (s.g idx sub)
  else if idx = 0x4001 then s.canMode e = 0 || v = 0
  else if inR 0x4002 0x4004 idx then s.canMode e = 0
  else if idx = 0x4020 then s.net.eth.isEmpty && s.net.ethLaunch.isEmpty
  else if idx = 0x4203 then s.seg.mgrs.all (·.kws.isNone)
  else if idx = 0x4210 then !(s.wnode e).online
  else if idx = 0x4301 then s.twin.peerRole = 0xFF
  else if inR 0x1210 0x121B idx then !(((s.tmrOf (idx - 0x1210)).settle (8 ≤ idx - 0x1210) s.now).run)
  else if idx = 0x6030 then s.g 0x6030 1 = 0xFF || sub = 1 && v = 0xFF
  else true

/-- How a requester is named as an owner of pins and timer channels (R555). -/
def ownerCode : Requester → Nat
  | .host => 0xFF
  | .engine n => n
  | _ => 0xFE

/-- Every pin whose bits a write changes, at `w` bits a pin, belongs to the writer (R555). -/
def State.pinsOwned (s : State) (who : Requester) (w old new : Nat) : Bool :=
  (List.range 8).all fun n => bits old (w * n) w = bits new (w * n) w || s.g 0x5030 (n + 1) = ownerCode who

/-- A GPIO a TmrCtrl names belongs to the owner of the channel (R653). -/
def State.tmrPinsOk (s : State) (n v : Nat) : Bool :=
  let o := s.g 0x5034 (n + 1)
  let c := bits v 8 4
  let x := bits v 12 4
  (c < 3 || c = 0xB || s.g 0x5030 (c - 2) = o) && (x = 0 || s.g 0x5030 x = o)

/-- The checks of a timer write: LF ownership, then the owner (R386, R555, R653). -/
def State.tmrCheck (s : State) (who : Requester) (n sub v : Nat) : Option (Nat × Nat) :=
  if 8 ≤ n && s.lfUsable (n - 8) then some (Rc.busy, Dt.lfOwned)
  else if s.g 0x5034 (n + 1) ≠ ownerCode who then some (Rc.denied, Dt.pinNotOwned)
  else if sub = 1 && !s.tmrPinsOk n v then some (Rc.denied, Dt.pinNotOwned)
  else none

/-- A slot is loaded or in use, of a kind, and of a page. -/
def State.slotIs (s : State) (h kind page : Nat) : Bool :=
  s.slotSt h ≠ .empty && s.slotKind h = kind && s.slotOwner h = page

/-- The mailbox octets that a window write touches lie in partitions with H_WRITE (R553). -/
def State.hostMayWrite (s : State) : Bool :=
  let a := s.g 0x5021 0
  bit (s.g 0x5020 (a / 4096 + 1)) 16 && bit (s.g 0x5020 ((a + 1023) / 4096 + 1)) 16

/-- Refusal by RANGE without a detail unless a condition holds. -/
def rangeUnless (b : Bool) : Option (Nat × Nat) := if b then none else some (Rc.range, 0)

/-- The check of a write of a handle object that must name a slot of a kind (R724). -/
def State.kindCheck (s : State) (v kind : Nat) : Option (Nat × Nat) :=
  if v = 0xFFFF then none
  else if s.slotSt v = .empty then some (Rc.range, Dt.slotEmpty)
  else if s.slotKind v ≠ kind then some (Rc.range, Dt.keyKind)
  else none

/-- The output power check of BleTxPower (R348, R352). -/
def State.bleTxOk (s : State) (v : Nat) : Bool := s.femPowerOk (sext 16 v)

/-- Check 10 of R38 for a WRITE of an object of the hardware: the checks particular to the object, in its chapter. -/
def State.objCheck (s : State) (who : Requester) (idx sub v : Nat) : Option (Nat × Nat) :=
  let e := sub - 1
  if idx = 0x1040 then
    (let h := v % 65536
     rangeUnless (h = 0xFFFF || isHandle h && s.slotSt h ≠ .empty && s.slotKind h = 5))
  else if inR 0x2040 0x207F idx && sub = 1 then
    (let st := (s.tokAt (idx - 0x2040)).st
     rangeUnless ((st = 1 || st = 2) && (v = 1 || v = 2)))
  else if idx = 0x2002 then rangeUnless (v < s.gp 0x2003 0)
  else if idx = 0x2003 then rangeUnless (s.gp 0x2002 0 < v)
  else if inR 0x2110 0x2117 idx && sub = 2 then
    rangeUnless (v = 0xFFFF || s.slotSt v ≠ .empty && s.slotKind v = 4)
  else if inR 0x2110 0x2117 idx && sub = 1 then rangeUnless (v = 0 || s.g idx 2 ≠ 0xFFFF)
  else if idx = 0x2207 then s.kindCheck v 7
  else if idx = 0x220C then s.kindCheck v 6
  else if idx = 0x2425 then
    rangeUnless (v = 0xFFFF || s.slotSt v ≠ .empty && s.slotOwner v = 0 && s.slotKind v = 1 && s.slotLen v = 0)
  else if idx = 0x2420 then rangeUnless (v = 0 || s.g 0x2425 0 ≠ 0xFFFF)
  else if [0x3002, 0x3003, 0x3004, 0x3005, 0x3006, 0x3007, 0x3008, 0x300A].contains idx then
    (if uwbSettingOk (fun i => if i = idx then v else s.gp i 0) idx then none else some (Rc.range, Dt.combination))
  else if idx = 0x3250 || idx = 0x3258 then
    (if femCfgOk (idx = 0x3258) v then none else some (Rc.range, Dt.femConfig))
  else if idx = 0x3104 then (if s.bleTxOk v then none else some (Rc.range, Dt.femConfig))
  else if idx = 0x3211 then rangeUnless (v < s.g 0x3212 0)
  else if idx = 0x3212 then rangeUnless (s.g 0x3211 0 < v)
  else if inR 0x3140 0x314F idx then
    (let o := (s.bleChar (idx - 0x3140)).owner
     if o = 0xFF || o = engOf who then none else some (Rc.denied, Dt.notOwner))
  else if inR 0x1210 0x121B idx then s.tmrCheck who (idx - 0x1210) sub v
  else if idx = 0x5031 || idx = 0x5032 then
    (if s.pinsOwned who 1 (s.g idx 0) v then none else some (Rc.denied, Dt.pinNotOwned))
  else if idx = 0x5035 then (if s.pinsOwned who 2 (s.g idx 0) v then none else some (Rc.denied, Dt.pinNotOwned))
  else if idx = 0x5022 then (if s.hostMayWrite then none else some (Rc.denied, Dt.addr))
  else if idx = 0x1404 then
    rangeUnless (((List.range 16).filter fun p => s.objHere 0x1404 (p + 1)).foldl
      (fun a p => a + (if p = e then v else s.g 0x1404 (p + 1))) 0 ≤ 256)
  else if idx = 0x1502 then (if e = 0 then some (Rc.denied, Dt.keyFixed) else none)
  else if idx = 0x5008 then rangeUnless (s.g idx sub ≤ v)
  else if idx = 0x4210 then rangeUnless (3 ≤ sub && (v = 0xFFFF || s.slotIs v 8 0))
  else if idx = 0x4203 then rangeUnless (v = 0xFFFF || s.slotIs v 8 0)
  else if idx = 0x4206 then rangeUnless (2 * s.g 0x4205 0 ≤ v)
  else if idx = 0x4301 then rangeUnless (v = 0xFFFF || s.slotIs v 8 3)
  else none

/-- A Tag object that a host access may reach during a field transaction (R436). -/
def tagAlways (idx : Nat) : Bool := idx = 0x3600 || idx = 0x3601 || idx = 0x3603 || idx = 0x3640

/-- What R436 and a write under way refuse of host accesses to Tag objects. -/
def State.tagCheck (s : State) (who : Requester) (op idx : Nat) : Option (Nat × Nat) :=
  if !inR 0x3600 0x36FF idx || tagAlways idx then none
  else if who = .host && s.tag.txn then some (Rc.busy, Dt.tagFieldActive)
  else if who = .host && s.tag.st = .recovering then some (Rc.notReady, Dt.tagRecovering)
  else if (op = 2 || op = 3) && idx ≠ 0x3602 && idx ≠ 0x3610 && idx ≠ 0x3623 && s.tag.wr.isSome then
    some (Rc.busy, Dt.unitActive)
  else none

/-- The argument layouts of the commands (check 5 of R38), by length. -/
def argLenOk (idx : Nat) (a : Bytes) : Bool :=
  let n := a.length
  if [0x1010, 0x1013, 0x1020, 0x220B, 0x2301, 0x2408, 0x5012, 0x5013, 0x5024, 0x5025, 0x4019, 0x402A, 0x4030, 0x4305, 0x1411,
      0x3160].contains idx then n = 0
  else if [0x1018, 0x2409, 0x3210, 0x3162, 0x3163, 0x330B, 0x3513, 0x3632, 0x4008].contains idx then n = 1
  else if [0x220A, 0x2451, 0x3622, 0x1524, 0x1525, 0x1526, 0x5002, 0x4306, 0x1102].contains idx then n = 2
  else if [0x2210, 0x4108, 0x1523].contains idx then n = 4
  else if idx = 0x5010 || idx = 0x5023 then n = 5
  else if idx = 0x1521 then n = 6
  else if idx = 0x2127 then n = 8
  else if idx = 0x3061 then n = 10
  else if idx = 0x3060 then 10 ≤ n && n = 10 + byteAt 9 a
  else if idx = 0x2211 then n = 11
  else if idx = 0x4107 || idx = 0x4109 then n = 12
  else if idx = 0x4106 then n = 13
  else if idx = 0x2103 then n = 16
  else if idx = 0x1410 then n = 64
  else if idx = 0x1520 then n = 42 || n = 50 || n = 58
  else if idx = 0x1522 then 10 ≤ n && n = 10 + byteAt 8 a + byteAt (9 + byteAt 8 a) a
  else if idx = 0x3161 then n = 2
  else if idx = 0x3612 then 3 ≤ n && n = 3 + leAt 1 2 a
  else if idx = 0x3621 then 3 ≤ n && n ≤ 1002
  else if idx = 0x5011 then 5 ≤ n && n ≤ 1004
  else if idx = 0x4018 then 28 ≤ n && n = 28 + leAt 14 2 a
  else if idx = 0x4029 then 30 ≤ n && n = 30 + leAt 28 2 a
  else true

end Sys2Proof.Machine
end

