-- ==== Sys2Proof/Machine/DictWrite.lean ====
section
/-! DEFINITION. What a WRITE does once every check has passed (R38, R39), what each command object does, DevCommit, DevRestoreDefaults
and DevReset (R42 to R47, R95 to R97). -/
namespace Sys2Proof.Machine

/-- A token entry element written (R104 to R107): durable at once; a token set SUSPENDED loses its sessions (R197). -/
def State.storeTok (s : State) (n sub v : Nat) : State :=
  match sub with
  | 1 =>
    let s1 := s.modTok n fun e => { e with st := v }
    if v = 2 then s1.keyGone (.tok n) Rc.authFail Dt.tokenState else s1
  | 5 => s.modTok n fun e => { e with rights := v }
  | 6 => s.modTok n fun e => { e with zones := v }
  | _ => s.modTok n fun e => { e with notAfter := v }

/-- A value takes hold in an object whose Effect is IMM or IDLE, with what its chapter hangs on the write. -/
def State.store (s : State) (idx sub v : Nat) : State :=
  let p := s.put idx sub v
  if inR 0x2040 0x207F idx then s.storeTok (idx - 0x2040) sub v
  else if area4Key (okey idx sub) then p.mirror 4 0 (objEntry (okey idx sub) v)
  else if area7Live (okey idx sub) then p.mirror 7 0 (objEntry (okey idx sub) v)
  else if idx = 0x4001 then p.canStart (sub - 1)
  else if idx = 0x4007 then (if v = 1 then [0, 1].foldl State.canRecover p else p)
  else if idx = 0x4103 || idx = 0x4117 then s.timeSettle.put idx sub v
  else if idx = 0x4104 then (if v = 1 then (s.timeSettle.put idx sub v).setCorr 0 else p)
  else if idx = 0x4120 then p.ptpEnable
  else if idx = 0x4128 then s.asymmetry v
  else if idx = 0x5030 || idx = 0x5031 || idx = 0x5032 || idx = 0x5034 then State.gpioHolds s p
  else if idx = 0x6030 && sub = 1 then { p with bg.canDue := p.now + ms (p.g 0x6030 3) }
  else p

/-- A timer object written (R653 to R660). -/
def State.storeTmr (s : State) (n sub v : Nat) : Option Resp × State :=
  let ok : Option Resp := some ⟨Rc.ok, 0, []⟩
  match sub with
  | 1 => (ok, s.tmrCtrl n v)
  | 2 => (ok, s.tmrCount n v)
  | 3 =>
    let s1 := s.tmrEnd n v
    (some ⟨Rc.ok, if (s1.tmrOf n).pend.isSome then Dt.pending else 0, []⟩, s1)
  | 4 => (ok, s.tmrCmp n v)
  | 5 => (ok, s.tmrCmpB n v)
  | 7 => (ok, s.tmrStatus n v)
  | _ => (ok, s.tmrMask n v)

/-- A pending value replaces the one before it (R39). -/
def State.setPend (s : State) (idx sub v : Nat) : State := { s with pend := alPut s.pend (okey idx sub) v }

/-- An engine writes an element of a characteristic, claiming it where it is free (R371, R372, R374). -/
def State.storeChar (s : State) (who : Requester) (idx sub : Nat) (data : Bytes) : Option Resp × State :=
  let i := idx - 0x3140
  let r := s.charClaim i (engOf who)
  match r.1 with
  | some e => (some ⟨e.1, e.2, []⟩, s)
  | none =>
    if sub = 5 then (some ⟨Rc.ok, 0, []⟩, r.2.modChar i fun c => { c with val := data })
    else (some ⟨Rc.ok, Dt.pending, []⟩, r.2.setPend idx sub (leNat data))

/-- A WRITE that has passed every check is applied as the object's Effect states (R38, R39): its response, none where it runs on. -/
def State.applyWrite (s : State) (who : Requester) (idx sub : Nat) (data : Bytes) : Option Resp × State :=
  let v := leNat data
  let ok : Option Resp := some ⟨Rc.ok, 0, []⟩
  if 0x8000 ≤ idx then
    match s.engObj idx sub with
    | some (n, o) => (ok, s.engObjWrite who n o data)
    | none => (ok, s)
  else if inR 0x1210 0x1217 idx then s.storeTmr (idx - 0x1210) sub v
  else if inR 0x1218 0x121B idx then
    let s1 := s.tmrSettle (idx - 0x1210)
    let r := s.storeTmr (idx - 0x1210) sub v
    (r.1, State.gpioHolds s1 r.2)
  else if inR 0x3140 0x314F idx then s.storeChar who idx sub data
  else if idx = 0x3611 then (none, s.tagAclWrite who (s.g 0x3610 0) v)
  else if idx = 0x3630 then (let r := s.tagKeyWrite (sub - 1) data; (some r.1, r.2))
  else if idx = 0x5022 then (ok, { s with eng.mbx := memWrite s.eng.mbx (s.g 0x5021 0) data })
  else
    match (findObj idx sub).map ObjDef.eff with
    | some (.next _) =>
      let s1 := s.setPend idx sub v
      (some ⟨Rc.ok, Dt.pending, []⟩,
        if area7Live (okey idx sub) then s1.mirror 7 0 (objEntry (okey idx sub) v) else s1)
    | _ => (ok, s.store idx sub v)

/-! ### DevCommit and DevRestoreDefaults -/

/-- The working values that DevCommit captures, but for defaults (R42, R47): the pending value where one exists, except for objects that
wait for TsApply (R226); of each engine's P objects every one, from its data memory (R550). -/
def State.snapshot (s : State) : List (Nat × Nat) :=
  let ks := ([okey 0x4020 0, okey 0x4022 0, okey 0x4122 0] ++ (s.reg.map Prod.fst) ++ (s.pend.map Prod.fst)).filter committable
  let l := ks.foldl (fun l k =>
    let v := if atBoundary .bNextTsApply k then s.g (k / 256) (k % 256) else s.gp (k / 256) (k % 256)
    if v = dfltOf s (k / 256) (k % 256) && !followsRole (k / 256) then l else alPut l k v) []
  s.eng.es.foldl (fun l e =>
    match e.image with
    | none => l
    | some im => (im.objs.filter fun o => bit o.flags 0).foldl
        (fun l o => alPut l (okey o.idx o.sub) (o.bankVal (memRead e.data o.addr o.len))) l) l

/-- DevCommit (R42, R43). -/
def State.devCommit (s : State) (who : Requester) : Option Resp × State :=
  if s.dict.commit.isSome then (some ⟨Rc.busy, Dt.commitRunning, []⟩, s)
  else (none, { s with dict.commit := some ⟨who, s.snapshot⟩ })

/-- The written bank has been verified (R42, R45): the banks switch and DevCommitCount rises, or the commit ends with COMMIT_FAIL. -/
def State.devCommitDone (s : State) (ok : Bool) : State :=
  match s.dict.commit with
  | none => s
  | some c =>
    if ok then
      let s1 := { s with dict.commit := none, dict.bankCur := !s.dict.bankCur }
      let s2 := ((s1.setBank c.snap).bump 0x1011 0).put 0x1012 0 0
      let m := (c.snap.filter fun e => area7Commit e.1).map fun e => objEntry e.1 e.2
      (s2.mirror 7 2 m.flatten).answer c.who 0x1010 ⟨Rc.ok, 0, []⟩
    else
      let s1 := ({ s with dict.commit := none }.put 0x1012 0 2).errBit 2 0x1000 0x40 0
      (s1.logEv 0x0C 0x40 0 [4, 0, 0, 0, 0, 2]).answer c.who 0x1010 ⟨0x40, 0, []⟩

/-- One object takes its default as a write of it would, by its own Effect (R96). -/
def State.restoreOne (s : State) (k : Nat) : State :=
  let idx := k / 256
  let sub := k % 256
  let v := dfltOf s idx sub
  match (findObj idx sub).map ObjDef.eff with
  | some (.next _) => s.setPend idx sub v
  | some .idle => if s.unitIdle idx sub v then s.store idx sub v else { s with dict.idleWait := k :: s.dict.idleWait }
  | _ => if followsRole idx then { s with reg := alDel s.reg k } else s.store idx sub v

/-- The P objects of an engine take the values its image gives them (log entry 43). -/
def Engine.restore (e : Engine) : Engine :=
  match e.image with
  | none => e
  | some im =>
    let d := (im.objs.filter fun o => bit o.flags 0).foldl
      (fun m o => memWrite m o.addr (fit o.len (slice o.addr o.len im.data))) e.data
    { e with data := d }

/-- DevRestoreDefaults (R96). -/
def State.restoreAll (s : State) : State :=
  let ks := (((s.reg.map Prod.fst) ++ (s.pend.map Prod.fst)).filter committable).eraseDups
  let s1 := ks.foldl State.restoreOne s
  { s1 with eng.es := s1.eng.es.map Engine.restore }

/-- IDLE objects that wait for their unit take their defaults once it is idle (R96). -/
def State.idleSweep (s : State) : State :=
  if s.dict.idleWait.isEmpty then s
  else
    let w := s.dict.idleWait
    w.foldl (fun s k =>
      let v := dfltOf s (k / 256) (k % 256)
      if s.unitIdle (k / 256) (k % 256) v then s.store (k / 256) (k % 256) v
      else { s with dict.idleWait := k :: s.dict.idleWait }) { s with dict.idleWait := [] }

/-! ### Commands -/

/-- An outcome of a command as an answer. -/
def ret (r : (Nat × Nat) × State) : Option Resp × State := (some ⟨r.1.1, r.1.2, []⟩, r.2)

/-- A refusal of a command. -/
def State.no (s : State) (code detail : Nat) : Option Resp × State := (some ⟨code, detail, []⟩, s)

/-- DevReset (R97, R649): it answers OK before it acts. -/
def State.devReset (s : State) (kind : Nat) : Option Resp × State :=
  if kind ≠ 1 && kind ≠ 2 then s.no Rc.range 0
  else if kind = 2 && (s.gate.startEn || s.acc.drive.isSome) then s.no Rc.busy Dt.unitActive
  else (some ⟨Rc.ok, 0, []⟩, { s with dict.resetDue := some (kind = 2, none) })

/-- The response of a DevReset leaves its transport: the reset follows 100 µs later (R97). -/
def State.resetArm (s : State) : State :=
  match s.dict.resetDue with
  | some (c, none) => { s with dict.resetDue := some (c, some (s.now + us 100)) }
  | _ => s

/-- AccEnrolImport (R192, R193). -/
def State.enrolCmd (s : State) (arg : Bytes) : Option Resp × State :=
  if !isHandle (leAt 0 2 arg) then s.no Rc.range 0
  else
    let r := s.enrolImport (leAt 0 2 arg)
    (some ⟨r.1.1, r.1.2.1, if r.1.1 = 0 then r.1.2.2 else []⟩, r.2)

/-- AccRevokeToken (R195). -/
def State.revokeCmd (s : State) (tid : Nat) : Option Resp × State :=
  match s.tokFind tid with
  | none => s.no Rc.range 0
  | some n => (some ⟨Rc.ok, 0, []⟩, s.revokeTok n 0)

/-- TsApply, mirrored to the standby (R222, R622). -/
def State.tsApplyCmd (s : State) : Option Resp × State :=
  let r := s.tsApply
  ret (r.1, if r.1.1 = 0 then r.2.mirror 7 1 r.2.ts.cur.bytes else r.2)

/-- RfcCalRun (R334, R351): one that names IRR of the UWB transceiver alone has nothing to run. -/
def State.calCmd (s : State) (who : Requester) (arg : Nat) : Option Resp × State :=
  if 64 ≤ arg || arg % 16 = 0 || arg / 16 = 0 then s.no Rc.range 0
  else if s.gate.quench then s.no Rc.quenched 0
  else if s.calBusy arg then s.no Rc.busy Dt.calRunning
  else if [Xc.uwb, .ble].all fun x => calNamed x arg = [] then (some ⟨Rc.ok, 0, [BitVec.ofNat 8 (arg &&& 0x30)]⟩, s)
  else (none, s.calRun who arg)

/-- TagRecWrite, TagNdefStage, TagNdefCommit and TagKeyUnblock (R430, R435, R439). -/
def State.tagCmd (s : State) (who : Requester) (idx : Nat) (arg : Bytes) : Option Resp × State :=
  if idx = 0x3612 then
    if 24 ≤ byteAt 0 arg || 256 < leAt 1 2 arg then s.no Rc.range 0
    else (none, s.tagHostWrite who (byteAt 0 arg) (arg.drop 3))
  else if idx = 0x3621 then
    if 2048 < leAt 0 2 arg + (arg.length - 2) then s.no Rc.range 0
    else (some ⟨Rc.ok, 0, []⟩, s.ndefStage (leAt 0 2 arg) (arg.drop 2))
  else if idx = 0x3622 then
    if 2048 < leAt 0 2 arg + 2 then s.no Rc.range 0
    else if !s.tag.staged then s.no Rc.range Dt.noStage
    else (none, s.ndefCommit who (leAt 0 2 arg))
  else if 4 ≤ byteAt 0 arg then s.no Rc.range 0
  else (some ⟨Rc.ok, 0, []⟩, { s with tag.fails := putAt s.tag.fails (byteAt 0 arg) 0 })

/-- A command names an engine: none refused, or RANGE or ABSENT (R4). -/
def State.engArg (s : State) (n : Nat) : Option (Nat × Nat) :=
  if 8 ≤ n then some (Rc.range, 0) else if s.noEngine n then some (Rc.absent, 0) else none

/-- EngLoadAbort (R548). -/
def State.loadAbort (s : State) (who : Requester) : (Nat × Nat) × State :=
  match s.eng.load with
  | none => ((0, 0), s)
  | some l => if l.who ≠ who || l.img.isSome then ((Rc.busy, Dt.loadBusy), s) else ((0, 0), { s with eng.load := none })

/-- The engine unit's commands (R548, R549, R551, R554). -/
def State.engCmd (s : State) (who : Requester) (idx : Nat) (arg : Bytes) : Option Resp × State :=
  let n := byteAt 0 arg
  if idx = 0x5002 then
    match s.engArg n with
    | some e => s.no e.1 e.2
    | none => if byteAt 1 arg = 0 || 3 < byteAt 1 arg then s.no Rc.range 0 else ret (s.engControl n (byteAt 1 arg))
  else if idx = 0x5010 then
    match s.engArg n with
    | some e => s.no e.1 e.2
    | none => if !inR 68 50752 (leAt 1 4 arg) then s.no Rc.range 0 else ret (s.loadBegin who n (leAt 1 4 arg))
  else if idx = 0x5011 then ret (s.loadData who (leAt 0 4 arg) (arg.drop 4))
  else if idx = 0x5012 then (let r := s.loadCommit who; (r.1.map fun e => ⟨e.1, e.2, []⟩, r.2))
  else if idx = 0x5013 then ret (s.loadAbort who)
  else if idx = 0x5023 then
    match s.engArg n with
    | some e => s.no e.1 e.2
    | none => ret (s.doorbell n (leAt 1 4 arg))
  else if idx = 0x5024 then (let r := s.doorbellRx (engOf who); (some r.1, r.2))
  else (let r := s.objWriteRx (engOf who); (some r.1, r.2))

/-- The ports' and the time unit's commands (R566, R567, R570, R575, R576, R579, R588). -/
def State.netCmd (s : State) (who : Requester) (idx : Nat) (arg : Bytes) : Option Resp × State :=
  let one := fun (r : Resp × State) => ((some r.1, r.2) : Option Resp × State)
  let t := leAt 0 12 arg
  if idx = 0x4008 then
    (let c := byteAt 0 arg
     if 2 ≤ c then s.no Rc.range 0 else if !s.has (5 + c) then s.no Rc.absent 0 else (some ⟨Rc.ok, 0, []⟩, s.canRecover c))
  else if idx = 0x4018 then one (s.canTx who arg)
  else if idx = 0x4019 then one (s.canRx who)
  else if idx = 0x4029 then one (s.ethTx who arg)
  else if idx = 0x402A then one (s.ethRx who)
  else if idx = 0x4030 then one (s.takeDone who)
  else if idx = 0x4108 then ret (s.slewTime (sext 32 (leAt 0 4 arg)))
  else if !t96Ok t then s.no Rc.range 0
  else if idx = 0x4106 then
    if 1 < byteAt 12 arg then s.no Rc.range 0
    else (some ⟨Rc.ok, 0, []⟩, s.stepTime (if byteAt 12 arg = 1 then -(ofT96 t : Int) else (ofT96 t : Int)))
  else if idx = 0x4107 then (some ⟨Rc.ok, 0, []⟩, s.stepTime ((ofT96 t : Int) - (s.domain : Int)))
  else ret (s.stepConfirm (ofT96 t))

/-- A command object is executed (R36): its answer, none where it runs on. -/
def State.execCmd (s : State) (who : Requester) (idx : Nat) (arg : Bytes) : Option Resp × State :=
  let one := fun (r : Resp × State) => ((some r.1, r.2) : Option Resp × State)
  let ok : Option Resp := some ⟨Rc.ok, 0, []⟩
  let b := byteAt 0 arg
  if idx = 0x1010 then s.devCommit who
  else if idx = 0x1013 then (ok, s.restoreAll)
  else if idx = 0x1018 then s.devReset b
  else if idx = 0x1020 then (none, { s with dict.selfTest := some who })
  else if idx = 0x1102 then ret (s.shutdown arg)
  else if idx = 0x1410 then one (s.cxSubmit who arg)
  else if idx = 0x1411 then one (s.cxTake who)
  else if 0x1520 ≤ idx && idx ≤ 0x1526 then s.keyCmd who idx arg
  else if idx = 0x2103 then ret (s.credRevoke arg)
  else if idx = 0x2127 then ret (s.clockConfirm (leNat arg) s.lockedSecs)
  else if idx = 0x220A then s.enrolCmd arg
  else if idx = 0x220B then (ok, s.learnClose)
  else if idx = 0x2210 then s.revokeCmd (leNat arg)
  else if idx = 0x2211 then ret (s.lockClear arg)
  else if idx = 0x2301 then s.tsApplyCmd
  else if idx = 0x2408 then ret (s.gateLock)
  else if idx = 0x2409 then (if 4 ≤ b then s.no Rc.range 0 else (ok, s.faultClear b))
  else if idx = 0x2451 then (if leNat arg ≠ 0x5155 then s.no Rc.range 0 else (ok, s.quench 4))
  else if idx = 0x3060 then (let r := s.auxTx who arg; (r.1.map fun e => ⟨e.1, e.2, []⟩, r.2))
  else if idx = 0x3061 then (let r := s.auxRx who arg; (r.1.map fun e => ⟨e.1, e.2, []⟩, r.2))
  else if idx = 0x3160 then one (s.charPublish arg)
  else if idx = 0x3161 then one (s.charNotify (engOf who) arg)
  else if idx = 0x3162 then one (s.charRelease (engOf who) arg)
  else if idx = 0x3163 then one (s.charRx (engOf who) arg)
  else if idx = 0x3210 then s.calCmd who b
  else if idx = 0x330B then s.lfDiag who arg
  else if idx = 0x3513 then one (s.nfcClear arg)
  else if inR 0x3600 0x36FF idx then s.tagCmd who idx arg
  else if inR 0x4000 0x41FF idx then s.netCmd who idx arg
  else if idx = 0x4305 then ret s.tinRun
  else if idx = 0x4306 then ret (s.takeover arg)
  else s.engCmd who idx arg

end Sys2Proof.Machine
end

