-- ==== Sys2Proof/Machine/Dict.lean ====
section
/-! DEFINITION. Serving a dictionary access (R36 to R52, R81 to R84): the checks in order, reads, records, subscriptions and
notifications, and what surrounds every command of this model: the time, a reset that is due, and the sweep after it. -/
namespace Sys2Proof.Machine

/-! ### Requests and answers as octets -/

/-- A request PDU taken apart (R48, R59): its length agrees where it has 8 + LEN octets and LEN is at most 1,024. -/
def parseReq (b : Bytes) : Req :=
  { op := byteAt 0 b, seq := byteAt 1 b, idx := leAt 2 2 b, sub := byteAt 4 b, rsvd := byteAt 5 b, data := b.drop 8,
    lenOk := 8 ≤ b.length && b.length = 8 + leAt 6 2 b && leAt 6 2 b ≤ 1024 }

/-- The PDU of a response or a notification (R48, R49, R83). -/
def pduOf (op seq idx sub b5 : Nat) (data : Bytes) : Bytes :=
  [BitVec.ofNat 8 op, BitVec.ofNat 8 seq] ++ toLe 2 idx ++ [BitVec.ofNat 8 sub, BitVec.ofNat 8 b5] ++ toLe 2 data.length ++ data

/-- The response PDU of a request (R49): bit 6 of OP is set with an OK result that carries a detail, and clear with any other. -/
def respPdu (q : Req) (r : Resp) : Bytes :=
  if r.code ≠ 0 then pduOf (q.op % 64 ||| 0x80) q.seq q.idx q.sub r.code [BitVec.ofNat 8 r.detail]
  else if r.detail = 0 then pduOf (q.op ||| 0x80) q.seq q.idx q.sub 0 r.data
  else pduOf (q.op ||| 0xC0) q.seq q.idx q.sub 0 (r.data ++ [BitVec.ofNat 8 r.detail])

/-- The NOTIFY PDU of a queued notification (R83). -/
def Ntf.pdu (n : Ntf) : Bytes := pduOf 0x90 n.seq n.idx n.sub n.lost n.val

/-! ### The checks -/

/-- The object is a command (R40). -/
def isCommand (idx sub : Nat) : Bool := ((findObj idx sub).map fun o => decide (o.ty = .command)).getD false

/-- The letter of a requester on an object (R38, R540). -/
def State.letterOf (s : State) (who : Requester) (idx sub : Nat) : Letter :=
  if 0x8000 ≤ idx then
    match s.engObj idx sub with
    | some (n, o) => o.letter n who
    | none => match who with | .twin => .no | .field => .no | _ => .r
  else match findObj idx sub with
    | some o => o.acc.letter who
    | none => .no

/-- The object is a record (R10). -/
def State.isRecord (s : State) (idx : Nat) : Bool :=
  if 0x8000 ≤ idx then (s.engCountAt idx).isSome else (findObj idx 1).isSome

/-- Subindices of a record that stand on this variant. -/
def State.elements (s : State) (idx : Nat) : List Nat := ((List.range 255).map (· + 1)).filter fun i => s.objHere idx i

/-- A requester may read an object: its letter is r or b, and the object is not S (R38, R41). -/
def State.mayRead (s : State) (who : Requester) (idx sub : Nat) : Bool :=
  let l := s.letterOf who idx sub
  (l = .r || l = .b) && ((findObj idx sub).map ObjDef.per ≠ some .s)

/-- The class's letter allows the operation (R38, R41), and a network requester's own flags do (R92). A READ_RECORD of a record with an
element that the class may not read is refused as a whole (DESIGN CHOICE, log entry 43). -/
def State.mayOp (s : State) (who : Requester) (q : Req) : Bool :=
  let l := s.letterOf who q.idx q.sub
  let flag := fun b => match who with
    | .net sid => bit (s.g 0x1040 (((s.dict.net[sid - 1]?).map NetSess.rid).getD 0 + 1)) b
    | _ => true
  if q.op = 2 then (l = .w || l = .b) && flag 17
  else if q.op = 3 then l = .x && flag 18
  else if q.op = 4 then s.mayRead who q.idx q.sub && (s.elements q.idx).all fun i => s.mayRead who q.idx i
  else s.mayRead who q.idx q.sub

/-- The data length suits the operation and the object (check 5 of R38). -/
def State.dataLenOk (s : State) (q : Req) : Bool :=
  let n := q.data.length
  if q.op = 2 then
    (if 0x8000 ≤ q.idx then n = ((s.engObj q.idx q.sub).map fun p => p.2.len).getD 0
     else if inR 0x3140 0x314F q.idx && q.sub = 5 then n ≤ 244
     else n = ((findObj q.idx q.sub).map fun o => o.ty.size).getD 0)
  else if q.op = 3 then argLenOk q.idx q.data
  else if q.op = 5 then n = 5
  else n = 0

/-- An access that needs the cipher complex or the DRBG (R721). -/
def needsCipher (q : Req) : Bool :=
  (q.op = 3 && ([0x1410, 0x5012, 0x1020].contains q.idx || inR 0x1520 0x1523 q.idx)) || (q.op = 1 && q.idx = 0x1320) ||
    (q.op = 2 && q.idx = 0x3630)

/-- An access that needs the DRBG seeded (check 7 of R38, R515). -/
def needsSeed (q : Req) : Bool := (q.op = 1 && q.idx = 0x1320) || (q.op = 3 && q.idx = 0x1521)

/-- Check 8 of R38 for a WRITE. -/
def State.valueCheck (s : State) (q : Req) : Option (Nat × Nat) :=
  let v := leNat q.data
  if 0x8000 ≤ q.idx then
    match s.engObj q.idx q.sub with
    | some (_, o) => if (o.ty = 7 && 1 < v) || (o.ty = 12 && !t96Ok v) then some (Rc.range, 0) else none
    | none => none
  else match findObj q.idx q.sub with
    | none => none
    | some d =>
      if !s.permitted8 d q.idx q.sub v then some (Rc.range, 0)
      else if s.selectsAbsent q.idx q.sub v then some (Rc.absent, 0)
      else none

/-- Check 8 of R38 for a command whose unit must be idle and whose argument names a channel (R4, R407). -/
def State.argCheck (s : State) (q : Req) : Option (Nat × Nat) :=
  if q.idx ≠ 0x330B then none
  else if 4 ≤ byteAt 0 q.data then some (Rc.range, 0)
  else if !s.has (16 + byteAt 0 q.data) then some (Rc.absent, 0)
  else none

/-- SUBSCRIBE parameters that R81 permits. -/
def subParamsOk (d : Bytes) : Bool :=
  let mode := byteAt 0 d
  inR 1 3 mode && (if mode = 1 then leAt 1 2 d = 0 else inR 10 60000 (leAt 1 2 d)) && leAt 3 2 d ≤ 60000

/-- Check 9 of R38 applies: a WRITE or EXEC of an IDLE object. -/
def isIdle (idx sub : Nat) : Bool := (findObj idx sub).map ObjDef.eff = some .idle

/-- The checks of R38, in order: the first that fails. An unknown OP, which R50 gives no place in the order, is judged right after the length
(DESIGN CHOICE, log entry 43). -/
def State.reqCheck (s : State) (who : Requester) (q : Req) : Option (Nat × Nat) :=
  if !q.lenOk then some (Rc.type, Dt.length)
  else if q.op = 0 || 6 < q.op then some (Rc.type, Dt.unknownOp)
  else if !s.objHere q.idx q.sub then some (Rc.absent, 0)
  else if s.letterOf who q.idx q.sub = .no then some (Rc.denied, 0)
  else if isCommand q.idx q.sub ≠ decide (q.op = 3) then some (Rc.type, Dt.notCommand)
  else if !s.mayOp who q then some (Rc.denied, 0)
  else if q.rsvd ≠ 0 then some (Rc.type, 0)
  else if q.op = 4 && (q.sub ≠ 0 || !s.isRecord q.idx) then some (Rc.type, 0)
  else if !s.dataLenOk q then some (Rc.type, Dt.length)
  else if s.gate.quench && needsCipher q then some (Rc.quenched, 0)
  else if !s.unitUp q.idx q.sub || (needsSeed q && s.rng.st = .starting) then some (Rc.notReady, 0)
  else
    let v8 :=
      if q.op = 2 then s.valueCheck q else if q.op = 3 then s.argCheck q
      else if q.op = 5 && !subParamsOk q.data then some (Rc.range, 0) else none
    match v8 with
    | some e => some e
    | none =>
      if (q.op = 2 || q.op = 3) && isIdle q.idx q.sub && !s.unitIdle q.idx q.sub (leNat q.data) then some (Rc.busy, Dt.unitActive)
      else
        match s.tagCheck who q.op q.idx with
        | some e => some e
        | none => if q.op = 2 then s.objCheck who q.idx q.sub (leNat q.data) else none

/-! ### Reads -/

/-- What a read does beside returning the value (R594, R659). -/
def State.readEffect (s : State) (idx sub : Nat) : State :=
  if inR 0x1210 0x121B idx && sub = 6 then s.tmrCapRead (idx - 0x1210)
  else if idx = 0x4131 && 1 ≤ sub then s.tsRead (sub - 1)
  else s

/-- READ (R50): RngRandom draws, and a raw RO sample is taken (R515, R517). -/
def State.serveRead (s : State) (who : Requester) (idx sub : Nat) : Option Resp × State :=
  if idx = 0x1320 then s.rngRandom who
  else if idx = 0x1310 then (let r := s.rawRo; (some ⟨Rc.ok, 0, toLe 4 r.1⟩, r.2))
  else (some ⟨Rc.ok, 0, s.readVal who idx sub⟩, s.readEffect idx sub)

/-- READ_RECORD (R50, R51): the count, then every element that stands on this variant, from one snapshot. An engine-defined record of more
than 1,024 octets is answered whole (DESIGN CHOICE, log entry 43). -/
def State.serveRecord (s : State) (who : Requester) (idx : Nat) : Resp × State :=
  let es := s.elements idx
  (⟨Rc.ok, 0, s.readVal who idx 0 ++ (es.map fun i => s.readVal who idx i).flatten⟩,
   es.foldl (fun s i => s.readEffect idx i) s)

/-! ### Subscriptions and notifications (R81 to R84) -/

/-- The notification queue of a requester: the host's, a session's, the twin's. -/
def ntfIx : Requester → Option Nat
  | .host => some 0
  | .net sid => some sid
  | .twin => some 4
  | _ => none

/-- SUBSCRIBE (R81, R82). Subscribing again restarts PERIOD and GAP and forgets a change held back (DESIGN CHOICE, log entry 43). -/
def State.subscribe (s : State) (who : Requester) (idx sub : Nat) (d : Bytes) : (Nat × Nat) × State :=
  let p := leAt 1 2 d
  let x : Sub := ⟨who, idx, sub, byteAt 0 d, p, leAt 3 2 d, s.now + ms p, s.now, false, s.readVal who idx sub⟩
  let rest := s.dict.subs.filter fun (y : Sub) => !(y.who = who && y.idx = idx && y.sub = sub)
  if (ntfIx who).isNone then ((Rc.denied, 0), s)
  else if rest.length < s.dict.subs.length then ((0, 0), { s with dict.subs := rest ++ [x] })
  else if 64 ≤ rest.length || 16 ≤ (rest.filter fun (y : Sub) => y.who = who).length then ((Rc.busy, Dt.subsFull), s)
  else ((0, 0), { s with dict.subs := rest ++ [x] })

/-- UNSUBSCRIBE (R50). -/
def State.unsubscribe (s : State) (who : Requester) (idx sub : Nat) : State :=
  { s with dict.subs := s.dict.subs.filter fun (y : Sub) => !(y.who = who && y.idx = idx && y.sub = sub) }

/-- The newest queued notification of an object with its value replaced and LOST raised (R84); `l` is the queue, newest first. -/
def replaceNtf (idx sub : Nat) (val : Bytes) : List Ntf → List Ntf
  | [] => []
  | n :: l => if n.idx = idx && n.sub = sub then { n with val := val, lost := min 255 (n.lost + 1) } :: l else n :: replaceNtf idx sub val l

/-- A notification enters a queue (R84): on change it replaces the one of its object, of several the newest, whose LOST rises; in a full
queue it is lost, also where a periodic one finds its own object there (DESIGN CHOICE, log entry 43). -/
def NtfQ.push (q : NtfQ) (idx sub : Nat) (val : Bytes) (change : Bool) : NtfQ :=
  let k := okey idx sub
  if change && q.q.any (fun n => n.idx = idx && n.sub = sub) then { q with q := (replaceNtf idx sub val q.q.reverse).reverse }
  else if q.q.length < 16 then
    { q with q := q.q ++ [⟨idx, sub, q.seq, (alGet q.lost k).getD 0, val⟩], seq := (q.seq + 1) % 256, lost := alDel q.lost k }
  else { q with lost := alPut q.lost k (min 255 ((alGet q.lost k).getD 0 + 1)) }

/-- A notification of an object's present value for a requester. -/
def State.notify (s : State) (who : Requester) (idx sub : Nat) (change : Bool) : State :=
  match ntfIx who with
  | none => s
  | some i =>
    let r := if idx = 0x1320 || idx = 0x1310 then s.serveRead who idx sub else (none, s)
    let v := match r.1 with | some a => a.data | none => s.readVal who idx sub
    { r.2 with dict.ntfs := modAt r.2.dict.ntfs i fun q => q.push idx sub v change }

/-- One subscription of an object that has changed (R81): notified, or held back by the gap. -/
def State.changed (s : State) (x : Sub) : State :=
  let v := s.readVal x.who x.idx x.sub
  if x.mode % 2 = 0 then s
  else if s.now < x.gapEnd then
    { s with dict.subs := s.dict.subs.map fun (y : Sub) => if y = x then { y with held := true, seen := v } else y }
  else
    let s1 := { s with dict.subs := s.dict.subs.map fun (y : Sub) =>
      if y = x then { y with held := false, gapEnd := s.now + ms x.gap, seen := v } else y }
    s1.notify x.who x.idx x.sub true

/-- The subscriptions of objects of the hardware whose value has changed, by a command or with time alone (R81); those of an engine change
by dictionary writes alone (R540). -/
def State.notifyAll (s : State) : State :=
  (s.dict.subs.filter fun (x : Sub) => x.idx < 0x8000 && s.readVal x.who x.idx x.sub ≠ x.seen).foldl State.changed s

/-- The subscriptions of an engine-defined object after a write of it through the dictionary (R540). -/
def State.notifyEng (s old : State) (idx sub : Nat) : State :=
  (s.dict.subs.filter fun (x : Sub) => x.idx = idx && x.sub = sub && s.readVal x.who idx sub ≠ old.readVal x.who idx sub).foldl State.changed s

/-! ### Serving -/

/-- An access is served (R36, R38): its answer, none where the command runs on, and the state. -/
def State.serve (s : State) (who : Requester) (q : Req) : Option Resp × State :=
  match s.reqCheck who q with
  | some e => (some ⟨e.1, e.2, []⟩, s)
  | none =>
    if q.op = 1 then s.serveRead who q.idx q.sub
    else if q.op = 2 then
      let r := s.applyWrite who q.idx q.sub q.data
      if 0x8000 ≤ q.idx then (r.1, r.2.notifyEng s q.idx q.sub) else r
    else if q.op = 3 then s.execCmd who q.idx q.data
    else if q.op = 4 then (let r := s.serveRecord who q.idx; (some r.1, r.2))
    else if q.op = 5 then (let r := s.subscribe who q.idx q.sub q.data; (some ⟨r.1.1, r.1.2, []⟩, r.2))
    else (some ⟨Rc.ok, 0, []⟩, s.unsubscribe who q.idx q.sub)

/-- The dictionary serves accesses: CORE runs, started and with its clock (R54, R643). -/
def State.serving (s : State) : Bool := s.dict.spi.alive && s.pwr.pll && s.pwr.core && !s.pwr.held

/-- A requester stands that may ask: an open session, a present engine that runs, the configured twin. -/
def State.mayAsk (s : State) : Requester → Bool
  | .host => true
  | .net sid => 1 ≤ sid && ((s.dict.net[sid - 1]?).map fun n => decide (n.phase = .opened)).getD false
  | .engine n => n < engCount s.fuse.variant && (s.engine n).listens
  | .twin => s.ktw.isSome
  | .field => false

/-! ### Answers of commands that ran on -/

/-- Whether an answer given for an object index belongs to a request: the key commands, the Tag commands and the auxiliary commands answer
under one index each. -/
def answers (idx : Nat) (q : Req) : Bool :=
  q.idx = idx || (inR 0x1520 0x1525 q.idx && inR 0x1520 0x1525 idx) || (inR 0x3600 0x36FF q.idx && inR 0x3600 0x36FF idx) ||
    (inR 0x3060 0x3061 q.idx && inR 0x3060 0x3061 idx)

/-- Removes the first element that a test names, and gives it. -/
def takeFirst {α : Type} (p : α → Bool) : List α → Option α × List α
  | [] => (none, [])
  | x :: xs => if p x then (some x, xs) else (let r := takeFirst p xs; (r.1, x :: r.2))

/-- CMAC of a network message, 64 bits (R61). -/
def netMac (key : Bytes) (sid dir fcnt : Nat) (pdu : Bytes) : Bytes :=
  (cmac key ([BitVec.ofNat 8 sid, BitVec.ofNat 8 dir] ++ toLe 4 fcnt ++ pdu)).take 8

/-- The smallest CAN FD data length that holds `n` octets (R66). -/
def fdLen (n : Nat) : Nat := (([0, 1, 2, 3, 4, 5, 6, 7, 8, 12, 16, 20, 24, 32, 48].find? fun k => n ≤ k).getD 64)

/-- A message cut into CAN FD segments (R65, R66): transport octet, up to 63 octets, fill. -/
def fdSegments (n : Nat) (first : Bool) (i : Nat) (m : Bytes) : List Bytes :=
  match n with
  | 0 => []
  | k + 1 =>
    let last := m.length ≤ 63
    let tb := BitVec.ofNat 8 ((if first then 128 else 0) + (if last then 64 else 0) + i % 64)
    let d := tb :: m.take 63
    fit (fdLen d.length) d :: (if last then [] else fdSegments k false (i + 1) (m.drop 63))

/-- The payload of an own Ethernet frame, filled with 0x00 to the Ethernet minimum of 46 octets (R64). -/
def ethPad (p : Bytes) : Bytes := p ++ zeros (46 - p.length)

/-- The cipher page of a network session (R70). -/
def sesPage (sid : Nat) : Nat := 12 + sid

/-- A network message leaves on a transport (R62, R64 to R66, R68): on CAN in class 2, on 10BASE-T1S in class 3. -/
def State.viaSend (s : State) (via : Transport) (m : Bytes) : State :=
  match via with
  | .t1s mac node => s.ethSend 3 mac 0x88B5 (ethPad ([0x10, 0x02] ++ toLe 2 node ++ toLe 2 s.nodeAddr ++ m))
  | .can c xl =>
    let id := s.g 0x1052 0 + s.nodeAddr % 16
    if xl then s.canSend c ⟨2, none, 0, 3, 0, 0, id, 0, 0, m, 0, 0⟩
    else (fdSegments 18 true 0 m).foldl (fun s d => s.canSend c ⟨2, none, 0, 2, 0, 0, id, 0, 0, d, 0, 0⟩) s

/-- A network session changed. -/
def State.modNet (s : State) (sid : Nat) (f : NetSess → NetSess) : State :=
  { s with dict.net := modAt s.dict.net (sid - 1) f }

/-- A message of a network session leaves with its trailer (R61, R74); a session whose FCNT has reached its last value ends (R76). -/
def State.netSend (s : State) (sid : Nat) (pdu : Bytes) : State :=
  match s.dict.net[sid - 1]? with
  | none => s
  | some n =>
    if n.phase ≠ .opened then s
    else
      let f := n.tx + 1
      let m := [BitVec.ofNat 8 sid, 0] ++ pdu ++ toLe 4 f ++ netMac n.key sid 1 f pdu
      let s1 := ((s.modNet sid fun x => { x with tx := f }).cxOn (sesPage sid) (cmacOps (6 + pdu.length))).viaSend n.via m
      if f = 0xFFFFFFFF then s1.netDrop sid else s1

/-- A dictionary message to the twin (R78, R80): in a Wairil frame of TYPE 0x10 while the link is UP, else in a 10BASE-T1S dictionary
frame; the MAC is computed under the twin link key. -/
def State.twinMsg (s : State) (pdu : Bytes) : State :=
  match s.ktw with
  | none => s
  | some k =>
    let f := (s.dict.twinTx + 1) % 2 ^ 32
    let m := [0xFF, 0] ++ pdu ++ toLe 4 f ++ netMac k 0xFF 1 f pdu
    let s1 := { s with dict.twinTx := f }.cxUse 2 (cmacOps (6 + pdu.length))
    if s.net.wl = 2 then s1.wlSend 0x10 m
    else s1.viaSend (.t1s (nodeMac s.seg.segNo s.peerNode) (s.addrOf s.peerNode)) m

/-- The payload of the last frame that a transport's queue holds: after a message has been given to it, that message's last frame. -/
def State.lastFrame (s : State) (via : Transport) : Option Bytes :=
  match via with
  | .t1s _ _ => s.net.eth.getLast?.map EthTx.payload
  | .can c _ => ((s.net.can[c]?).bind fun k => k.q.getLast?).map CanTx.data

/-- A DevReset that this message answers waits until its last frame has left (R97). -/
def State.resetAfter (s : State) (via : Transport) : State :=
  match s.dict.resetDue with
  | some (_, none) => { s with dict.resetMsg := s.lastFrame via }
  | _ => s

/-- The answer of a DevReset has left its network: the reset follows 100 µs later (R97). -/
def State.resetSent (s : State) : State :=
  match s.dict.resetMsg with
  | none => s
  | some m =>
    if s.net.eth.any (fun f => f.payload = m) || s.net.can.any (fun k => k.q.any fun f => f.data = m) then s
    else { s with dict.resetMsg := none }.resetArm

/-- A request of a session is answered with the trailer (R61, R74). -/
def State.netSay (s : State) (sid : Nat) (q : Req) (a : Resp) : State :=
  let s1 := ({ s with dict.last := some (.net sid, q, a) } : State).netSend sid (respPdu q a)
  s1.resetAfter (((s.dict.net[sid - 1]?).map NetSess.via).getD (.can 0 false))

/-- A request of the twin is answered (R80). -/
def State.twinSay (s : State) (q : Req) (a : Resp) : State :=
  let s1 := ({ s with dict.last := some (.twin, q, a) } : State).twinMsg (respPdu q a)
  if s.net.wl = 2 then s1.resetArm else s1.resetAfter (.t1s [] 0)

/-- A session has carried one more valid request (R74, R76). -/
def State.netCount (s : State) (sid : Nat) : State :=
  if ((s.dict.net[sid - 1]?).map NetSess.phase) = some .opened then s.modNet sid fun x => { x with rx := x.rx + 1, due := s.now } else s

/-- A session whose accepted FCNT has reached its last value ends (R76). -/
def State.netLast (s : State) (sid : Nat) : State :=
  if ((s.dict.net[sid - 1]?).map NetSess.rx) = some 0xFFFFFFFF then s.netDrop sid else s

/-- The state once a request made by a command row has been answered with `a`: a session's request counts with the next FCNT and its answer
leaves with the trailer, the twin's leaves under the twin link key, and a DevReset that was answered is timed (R97). -/
def State.answered (s : State) (who : Requester) (q : Req) (a : Resp) : State :=
  match who with
  | .net sid => ((s.netCount sid).netSay sid q a).netLast sid
  | .twin => s.twinSay q a
  | _ => { s with dict.last := some (who, q, a) }.resetArm

/-- The state while the command of a request made by a command row runs on (R36). -/
def State.runsOn (s : State) (who : Requester) (q : Req) : State :=
  match who with
  | .net sid => ((s.netCount sid).modNet sid fun x => { x with reqs := x.reqs ++ [(q, true)] }).netLast sid
  | .twin => { s with dict.twinReqs := s.dict.twinReqs ++ [(q, true)] }
  | _ => { s with dict.direct := s.dict.direct ++ [(who, q)] }

/-- A session holds four requests in progress (R77). -/
def State.askFull (s : State) : Requester → Bool
  | .net sid => ((s.dict.net[sid - 1]?).map fun n => decide (4 ≤ n.reqs.length)).getD false
  | _ => false

/-- An access that a command row of its own makes, answered at once or when its command is done. -/
def State.ask (s : State) (who : Requester) (op idx sub : Nat) (data : Bytes) : State :=
  if !s.serving || !s.mayAsk who then s
  else
    let q : Req := ⟨op, 0, idx, sub, 0, data, true⟩
    if s.askFull who then s.answered who q ⟨Rc.busy, Dt.queueFull, []⟩
    else
      let r := s.serve who q
      match r.1 with
      | some a => r.2.answered who q a
      | none => r.2.runsOn who q

/-- The answer of the host's request stands in the SPI port (R56). -/
def State.spiAnswer (s : State) (q : Req) (r : Resp) : State :=
  { s with dict.spi.req := none, dict.spi.running := false, dict.spi.rsp := some (respPdu q r),
           dict.last := some (.host, q, r) }

/-- A command asked for by a row of its own is answered. -/
def State.answerDirect (s : State) (who : Requester) (idx : Nat) (r : Resp) : State :=
  match takeFirst (fun p => p.1 = who && answers idx p.2) s.dict.direct with
  | (some p, l) => { s with dict.direct := l, dict.last := some (who, p.2, r) }
  | (none, _) => s

/-- One answer of a command that ran on reaches its requester (R36). -/
def State.deliverOne (s : State) (who : Requester) (idx : Nat) (r : Resp) : State :=
  match who with
  | .host =>
    match s.dict.spi.req with
    | some b =>
      if s.dict.spi.running && answers idx (parseReq b) then s.spiAnswer (parseReq b) r else s.answerDirect who idx r
    | none => s.answerDirect who idx r
  | .net sid =>
    match takeFirst (fun (p : Req × Bool) => p.2 && answers idx p.1) (((s.dict.net[sid - 1]?).map NetSess.reqs).getD []) with
    | (some p, l) =>
      (s.modNet sid fun x => { x with reqs := l }).netSay sid p.1 r
    | (none, _) => s.answerDirect who idx r
  | .twin =>
    match takeFirst (fun (p : Req × Bool) => p.2 && answers idx p.1) s.dict.twinReqs with
    | (some p, l) => { s with dict.twinReqs := l }.twinSay p.1 r
    | (none, _) => s.answerDirect who idx r
  | .engine n =>
    let e := s.engine n
    match e.acc with
    | some a =>
      if a.rsp.isNone && answers idx ⟨0, 0, a.obj / 256 % 65536, a.obj % 256, 0, [], true⟩ then
        s.setEngine n { e with acc := some { a with rsp := some (r.code, r.detail, r.data) } }
      else s.answerDirect who idx r
    | none => s.answerDirect who idx r
  | .field => s

/-- Every answer that a step has produced is handed over. -/
def State.deliver (s : State) : State :=
  s.dict.done.foldl (fun s d => s.deliverOne d.1 d.2.1 d.2.2) { s with dict.done := [] }

/-- Queued notifications of the network sessions and of the twin leave at once (R83, R84). -/
def State.ntfFlush (s : State) : State :=
  let net := [1, 2, 3].foldl (fun (s : State) sid =>
    let q := s.dict.ntfs.getD sid ⟨0, [], []⟩
    if q.q.isEmpty then s
    else
      let s1 := { s with dict.ntfs := modAt s.dict.ntfs sid fun (x : NtfQ) => { x with q := [] } }
      q.q.foldl (fun s n => s.netSend sid n.pdu) s1) s
  let q := net.dict.ntfs.getD 4 ⟨0, [], []⟩
  if q.q.isEmpty || net.ktw.isNone then net
  else
    let s1 := { net with dict.ntfs := modAt net.dict.ntfs 4 fun (x : NtfQ) => { x with q := [] } }
    q.q.foldl (fun s n => s.twinMsg n.pdu) s1

/-! ### Around every command -/

/-- The time of a command: what has become due by then and follows of itself is the judging of evaluations that have started (R230) and a
reset that DevReset has answered (R97). -/
def State.tick (t : Nat) (s : State) : State :=
  let s0 := s.at t
  let s1 := (s0.tsSettle s0.now).radioSettle
  match s1.dict.resetDue with
  | some (cold, some d) =>
    if d ≤ s1.now then { ({ s1 with now := d }.resetTake cold (if cold then 5 else 4)) with now := s1.now } else s1
  | _ => s1

/-- What a session list shows to the engines' ACCESS event (R534). -/
def State.accessMarks (s : State) : List Nat × List Nat × List Nat × Option Nat :=
  (s.acc.ses.filterMap fun o => o.map TokSession.tsh, s.acc.entry.map (·.tsh), s.acc.start.map (·.tsh), s.acc.drive.map (·.2))

/-- After a command: answers, the engines' ACCESS and GATE events (R534), sessions and exchanges that are over, IDLE objects that wait
(R96), a DevReset whose answer has left (R97), notifications (R81), and the idle conditions of CORE (R636). `old` is the state at the command's time, before its effect. -/
def State.fin (s old : State) : State :=
  let s1 := (s.lfSettle.nfcSettle).deliver.resetSent
  let s2 := if s1.accessMarks ≠ old.accessMarks then s1.engEvAll 20 else s1
  let s3 := if s2.gateSummary ≠ old.gateSummary then s2.engEvAll 21 else s2
  let s4 := s3.idleSweep
  ((s4.notifyAll.ntfFlush).logOrder old).noteIdle

/-- A command at time `t` whose effect is `f`. -/
def State.run (t : Nat) (f : State → State) (s : State) : State :=
  let s0 := s.tick t
  (f s0).fin s0

end Sys2Proof.Machine
end

