-- ==== Sys2Proof/Machine/DictNet.lean ====
section
/-! DEFINITION. The transports of the dictionary: the host SPI slave (R53 to R59), network messages over 10BASE-T1S and CAN with their
logins and sessions (R60 to R77), the twin (R78 to R80), and transport version 1 (R85 to R88). -/
namespace Sys2Proof.Machine

/-! ### The host SPI slave -/

/-- The status byte (R54). -/
def State.spiStatus (s : State) : Nat :=
  128 * b2n s.dict.spi.alive + 32 * b2n (decide (s.pwr.phase = .ready)) + 16 * b2n s.dict.spi.cmdErr + 8 * b2n s.dict.spi.overrun +
    4 * b2n (decide ((s.dict.ntfs.getD 0 ⟨0, [], []⟩).q ≠ [])) + 2 * b2n s.dict.spi.rsp.isSome + b2n s.dict.spi.req.isSome

/-- HS_IRQ_N is low (R56). -/
def State.spiIrq (s : State) : Bool := s.dict.spi.rsp.isSome || !(s.dict.ntfs.getD 0 ⟨0, [], []⟩).q.isEmpty

/-- The fall of HS_CS_N while the dictionary does not serve the host: HS_MISO stays 0x00, and the fall is a wake source (R561, R640,
R641). -/
def State.spiDead (s : State) (n : Nat) : State :=
  let s1 := { s with dict.spi.miso := zeros n }
  if s1.pwr.shut then s1.shutdownExit 3 else s1.coreWake 8

/-- A transaction with a defined command: the status byte and `out` leave on HS_MISO, CMD_ERR clears (R53, R54). -/
def State.spiOut (s : State) (out : Bytes) : State :=
  { s with dict.spi.miso := BitVec.ofNat 8 s.spiStatus :: out, dict.spi.cmdErr := false }

/-- STATUS (R53). -/
def State.spiStatusCmd (s : State) : State := if !s.dict.spi.alive then s.spiDead 1 else s.spiOut []

/-- WRITE_REQ ends (R53, R55, R59): the request is taken, or answered with TYPE LENGTH; with a request in progress or a response unread it
is discarded and OVERRUN is set. -/
def State.spiWrite (s : State) (pdu : Bytes) : State :=
  if !s.dict.spi.alive then s.spiDead (1 + pdu.length)
  else
    let s1 := s.spiOut (zeros pdu.length)
    let q := parseReq pdu
    if s1.dict.spi.req.isSome || s1.dict.spi.rsp.isSome then { s1 with dict.spi.overrun := true }
    else if !q.lenOk then s1.spiAnswer q ⟨Rc.type, Dt.length, []⟩
    else { s1 with dict.spi.req := some pdu, dict.spi.running := false }

/-- READ_RSP clocked for `n` octets after the command (R57, R58): the response is consumed where every octet was clocked, and OVERRUN
clears with it. -/
def State.spiReadRsp (s : State) (n : Nat) : State :=
  if !s.dict.spi.alive then s.spiDead (1 + n)
  else
    match s.dict.spi.rsp with
    | none => s.spiOut (zeros n)
    | some r =>
      let s1 := s.spiOut (fit n r)
      if r.length ≤ n then { s1 with dict.spi.rsp := none, dict.spi.overrun := false }.resetArm else s1

/-- READ_NTF clocked for `n` octets after the command (R57, R58). -/
def State.spiReadNtf (s : State) (n : Nat) : State :=
  if !s.dict.spi.alive then s.spiDead (1 + n)
  else
    let q := s.dict.ntfs.getD 0 ⟨0, [], []⟩
    match q.q with
    | [] => s.spiOut (zeros n)
    | x :: l =>
      let s1 := s.spiOut (fit n x.pdu)
      if x.pdu.length ≤ n then { s1 with dict.ntfs := putAt s1.dict.ntfs 0 { q with q := l } } else s1

/-- An undefined command byte (R53). -/
def State.spiUndefined (s : State) (cmd n : Nat) : State :=
  if !s.dict.spi.alive then s.spiDead (1 + n)
  else if cmd < 4 then s
  else { s with dict.spi.miso := BitVec.ofNat 8 s.spiStatus :: zeros n, dict.spi.cmdErr := true }

/-- The host's request in the port is served (R36, R56). -/
def State.spiServe (s : State) : State :=
  match s.dict.spi.req with
  | none => s
  | some b =>
    if s.dict.spi.running || !s.serving then s
    else
      let q := parseReq b
      let r := s.serve .host q
      match r.1 with
      | some a => r.2.spiAnswer q a
      | none => { r.2 with dict.spi.running := true }

/-! ### Logins (R69 to R73) -/

/-- A message without a trailer leaves (R60). -/
def State.plainSend (s : State) (via : Transport) (q : Req) (r : Resp) : State :=
  s.viaSend via ([0, 0] ++ respPdu q r)

/-- The lock-out of a claimant is in force. -/
def Guard.locked (g : Guard) (now : Nat) : Bool := (g.lock.map fun l => decide (now < l.until_)).getD false

/-- One more wrong proof: the `k`-th within 10 minutes starts a lock-out of 5 minutes (R73, R87). -/
def Guard.fail (g : Guard) (k now : Nat) : Guard :=
  let w := (g.wrong.filter fun t => now ≤ t + secs 600) ++ [now]
  if k ≤ w.length then ⟨[], some ⟨now + secs 300, secs 300, now⟩⟩ else { g with wrong := w }

/-- LOGIN_HELLO (R69 to R73, R721): the answer, and the state. A DRBG that gives nothing is judged before the requester ID, and an ID above
7 is answered RANGE (DESIGN CHOICE, log entry 52). -/
def State.loginHello (s0 : State) (via : Transport) (rsvd : Nat) (d : Bytes) : Resp × State :=
  let no := fun (s : State) (c d : Nat) => ((⟨c, d, []⟩ : Resp), s)
  let rid := byteAt 0 d
  if rsvd ≠ 0 then no s0 Rc.type 0
  else if d.length ≠ 17 then no s0 Rc.type Dt.length
  else if s0.gate.quench then no s0 Rc.quenched 0
  else if !s0.drawOk then no s0 (if s0.rng.st = .fatal then Rc.entropyFatal else Rc.notReady) 0
  else if 7 < rid then no s0 Rc.range 0
  else
    let s := s0.boundary .bNextLogin
    let w := s.g 0x1040 (rid + 1)
    let h := w % 65536
    if !bit w 16 || s.slotKind h ≠ 5 || (s.slotKey h).isNone then no s Rc.authFail 0
    else if ((s.dict.guards[rid]?).map fun g => g.locked s.now).getD false then no s Rc.lockedOut 0
    else
      match (s.dict.net.zipIdx.find? fun p => p.1.phase = .free).map Prod.snd with
      | none => no s Rc.busy Dt.sessionsFull
      | some i =>
        let nd := s.draw 16
        let nr := d.drop 1
        let key := kdf ((s.slotKey h).getD []) (ascii "KAMZEL") (nr ++ nd.1 ++ [BitVec.ofNat 8 rid] ++ toLe 2 s.nodeAddr) 16
        let n : NetSess := ⟨.hello, rid, via, nr, nd.1, key, 0, 0, s.now + secs 1, []⟩
        (⟨Rc.ok, 0, BitVec.ofNat 8 (i + 1) :: nd.1⟩, { (nd.2.cxOn (sesPage (i + 1)) 5) with dict.net := putAt s.dict.net i n })

/-- LOGIN_PROOF (R69, R71, R73): the answer, and the state. A wrong proof frees the session and counts. One without a pending hello, or from
another transport than its hello's, is answered AUTH_FAIL and counts for nobody (DESIGN CHOICE, log entry 52). -/
def State.loginProof (s : State) (via : Transport) (rsvd : Nat) (d : Bytes) : Resp × State :=
  let sid := byteAt 0 d
  if rsvd ≠ 0 then (⟨Rc.type, 0, []⟩, s)
  else if d.length ≠ 9 then (⟨Rc.type, Dt.length, []⟩, s)
  else if s.gate.quench then (⟨Rc.quenched, 0, []⟩, s)
  else if sid = 0 then (⟨Rc.authFail, 0, []⟩, s)
  else
    match s.dict.net[sid - 1]? with
    | none => (⟨Rc.authFail, 0, []⟩, s)
    | some n =>
      if n.phase ≠ .hello || n.via ≠ via || n.due < s.now then (⟨Rc.authFail, 0, []⟩, s)
      else if cmac64 n.key ([0x01] ++ n.nd ++ n.nr) = d.drop 1 then
        (⟨Rc.ok, 0, cmac64 n.key ([0x02] ++ n.nr ++ n.nd)⟩,
         (s.cxOn (sesPage sid) 8).modNet sid fun x => { x with phase := .opened, due := s.now })
      else
        (⟨Rc.authFail, 0, []⟩, { (s.cxOn (sesPage sid) 4).netDrop sid with
          dict.guards := modAt s.dict.guards n.rid fun g => g.fail 5 s.now })

/-- No LOGIN_PROOF within 1 s (R71). -/
def State.loginTimeout (s : State) (sid : Nat) : State :=
  match s.dict.net[sid - 1]? with
  | some n => if 1 ≤ sid && n.phase = .hello && n.due ≤ s.now then s.netDrop sid else s
  | none => s

/-- A session has carried no valid request for DevNetIdleTimeout (R76). -/
def State.netIdle (s : State) (sid : Nat) : State :=
  match s.dict.net[sid - 1]? with
  | some n => if 1 ≤ sid && n.phase = .opened && n.due + secs (s.g 0x1042 0) ≤ s.now then s.netDrop sid else s
  | none => s

/-- A requester ID's lock-out ends (R73). -/
def State.guardEnd (s : State) (rid : Nat) : State :=
  { s with dict.guards := modAt s.dict.guards rid fun g => if g.locked s.now then g else { g with lock := none } }

/-! ### Network messages (R60, R61, R74 to R77) -/

/-- The length of the PDU in a network message. -/
def pduLen (m : Bytes) : Nat := 8 + leAt 8 2 m

/-- A request accepted in a session is served; its answer leaves with the trailer (R76, R77). -/
def State.netServe (s : State) (sid : Nat) (q : Req) : State :=
  let n := (s.dict.net[sid - 1]?).getD .reset
  if q.op = 0x12 then
    if q.rsvd ≠ 0 then s.netSay sid q ⟨Rc.type, 0, []⟩
    else if q.data ≠ [] then s.netSay sid q ⟨Rc.type, Dt.length, []⟩
    else (s.netSay sid q ⟨Rc.ok, 0, []⟩).netDrop sid
  else if 4 ≤ n.reqs.length then s.netSay sid q ⟨Rc.busy, Dt.queueFull, []⟩
  else
    let r := s.serve (.net sid) q
    match r.1 with
    | some a => r.2.netSay sid q a
    | none => r.2.modNet sid fun x => { x with reqs := x.reqs ++ [(q, true)] }

/-- An authenticated message of a session (R61, R74 to R76). -/
def State.netAuth (s : State) (via : Transport) (m : Bytes) : State :=
  let sid := byteAt 0 m
  let k := pduLen m
  let pdu := slice 2 k m
  let f := leAt (2 + k) 4 m
  let n := (s.dict.net[sid - 1]?).getD .reset
  if m.length < 14 + k then s
  else if n.phase ≠ .opened then s.bump 0x1043 0
  else if netMac n.key sid 0 f pdu ≠ slice (6 + k) 8 m then (s.cxOn (sesPage sid) (cmacOps (6 + k))).bump 0x1043 0
  else
    let s1 := (s.cxOn (sesPage sid) (cmacOps (6 + k))).modNet sid fun x => { x with via := via }
    let q := parseReq pdu
    if f ≤ n.rx then s1.netSend sid (respPdu q ⟨Rc.replay, 0, []⟩)
    else
      let s2 := (s1.modNet sid fun x => { x with rx := f, due := s.now }).netServe sid q
      if f = 0xFFFFFFFF then s2.netDrop sid else s2

/-- A dictionary message of the twin under the twin link key (R78, R80). -/
def State.twinDict (s : State) (m : Bytes) : State :=
  let k := pduLen m
  let pdu := slice 2 k m
  let f := leAt (2 + k) 4 m
  match s.ktw with
  | none => s.bump 0x1043 0
  | some key =>
    if m.length < 14 + k then s
    else if netMac key 0xFF 0 f pdu ≠ slice (6 + k) 8 m then s.bump 0x1043 0
    else
      let q := parseReq pdu
      if 0x80 ≤ q.op then s
      else if f ≤ s.dict.twinRx then s.twinMsg (respPdu q ⟨Rc.replay, 0, []⟩)
      else
        let r := { s with dict.twinRx := f }.serve .twin q
        match r.1 with
        | some a => r.2.twinSay q a
        | none => { r.2 with dict.twinReqs := r.2.dict.twinReqs ++ [(q, true)] }

/-- A network message arrives whole (R38 checks 1 and 2, R60): a login, a session's message, or the twin's; anything malformed is
dropped. A SID 0x00 message with another OP is dropped too, and the logins' OPs from the host, the twin or inside a session are answered
UNKNOWN_OP as any other OP is (DESIGN CHOICE, log entry 52). -/
def State.netMessage (s : State) (via : Transport) (m : Bytes) : State :=
  let k := pduLen m
  let q := parseReq (slice 2 k m)
  if !s.serving || m.length < 10 || byteAt 1 m ≠ 0 || 1032 < k || m.length < 2 + k then s
  else if byteAt 0 m = 0 then
    if q.op = 0x10 then (let r := s.loginHello via q.rsvd q.data; r.2.plainSend via q r.1)
    else if q.op = 0x11 then (let r := s.loginProof via q.rsvd q.data; r.2.plainSend via q r.1)
    else s
  else if byteAt 0 m ≤ 3 then s.netAuth via m
  else if byteAt 0 m = 0xFF then (match via with | .t1s _ _ => s.twinDict m | .can _ _ => s)
  else s

/-- A dictionary frame on 10BASE-T1S (R62 to R64): only to this part's own unicast address, its node address and VERSION 0x02. -/
def State.t1sDict (s : State) (da sa payload : Bytes) : State :=
  if s.net.t1s = 0 || leNat da ≠ s.g 0x4020 0 || byteAt 0 payload ≠ 0x10 || byteAt 1 payload ≠ 2 ||
      leAt 2 2 payload ≠ s.nodeAddr || 0xFFF < leAt 4 2 payload then s
  else s.netMessage (.t1s sa (leAt 4 2 payload)) (payload.drop 6)

/-- The dictionary is served on a CAN controller under this identifier (R65). -/
def State.canDictOn (s : State) (c id : Nat) : Bool :=
  c < 2 && s.has (5 + c) && bit (s.g 0x1050 0) c && s.canMode c ≠ 0 && (s.canCtl c).st ≠ 0 && (s.canCtl c).st ≠ 3 &&
    (s.canCtl c).st ≠ 4 && id = s.g 0x1051 0 + s.nodeAddr % 16

/-- The reassembly of a controller. -/
def State.setReasm (s : State) (c : Nat) (r : Option CanReasm) : State := { s with dict.reasm := putAt s.dict.reasm c r }

/-- A CAN FD segment (R65 to R67). A FIRST in the middle of a message discards that message and starts its own (DESIGN CHOICE, log entry 43). -/
def State.fdSegment (s : State) (c id : Nat) (d : Bytes) : State :=
  if !s.canDictOn c id || s.canMode c < 2 || d.isEmpty || !s.serving then s
  else
    let tb := byteAt 0 d
    let no := tb % 64
    let take := fun (s : State) (m : Bytes) =>
      if bit tb 6 then (s.setReasm c none).netMessage (.can c false) m
      else s.setReasm c (some ⟨m, (no + 1) % 64, s.now + ms 50⟩)
    let s1 := s.setReasm c none
    if bit tb 7 then (if no = 0 then take s1 (slice 1 63 d) else s1)
    else
      match (s.dict.reasm.getD c none) with
      | none => s
      | some r => if r.due < s.now || r.next ≠ no then s1 else take s (r.msg ++ slice 1 63 d)

/-- More than 50 ms pass between segments (R67). -/
def State.fdTimeout (s : State) (c : Nat) : State :=
  match s.dict.reasm.getD c none with
  | some r => if r.due < s.now then s.setReasm c none else s
  | none => s

/-- A CAN XL dictionary frame (R68). -/
def State.xlDict (s : State) (c id sdt : Nat) (d : Bytes) : State :=
  if !s.canDictOn c id || s.canMode c ≠ 3 || !s.has 4 || sdt ≠ 0 then s else s.netMessage (.can c true) d

/-! ### Transport version 1 (R85 to R88) -/

/-- The objects of R88 and whether version 1 may write them. -/
def v1Visible (idx sub : Nat) : Option Bool :=
  let k := okey idx sub
  if [0x100000, 0x100100, 0x100200, 0x102800, 0x131000, 0x200100, 0x241000].contains k then some false
  else if k = 0x220403 || k = 0x330100 then some true
  else none

/-- A version 1 frame leaves (R85). -/
def State.v1Send (s : State) (cmd : Nat) (f d : Bytes) : State :=
  s.canSend 0 ⟨2, none, 0, 0, 0, 0, 0x7A8, 0, 0, BitVec.ofNat 8 (cmd * 16 + d.length) :: (slice 1 3 f ++ fit 4 d), 0, 0⟩

/-- ERROR (R85, R86). -/
def State.v1Error (s : State) (f : Bytes) (code detail : Nat) : State :=
  s.v1Send 4 f (if detail = Dt.v1Locked then [BitVec.ofNat 8 code, BitVec.ofNat 8 detail] else [BitVec.ofNat 8 code])

/-- Version 1 is served now, its pending enable taken (R85). -/
def State.v1Take (s : State) : State := s.boundary .bNextV1Frame

/-- Whether a frame is a version 1 frame that is served. -/
def State.v1On (s : State) (f : Bytes) : Bool :=
  s.has 5 && s.g 0x1048 0 = 1 && s.serving && f.length = 8 && s.canMode 0 ≠ 0 && (s.canCtl 0).st ≠ 0 && (s.canCtl 0).st ≠ 3 &&
    (s.canCtl 0).st ≠ 4

/-- READ over version 1 (R85, R86, R88). -/
def State.v1Read (s0 : State) (f : Bytes) : State :=
  let s := s0.v1Take
  let idx := leAt 1 2 f
  let sub := byteAt 3 f
  if !s.v1On f || byteAt 0 f / 16 ≠ 1 then s
  else if (v1Visible idx sub).isNone || !s.objHere idx sub then s.v1Error f Rc.absent 0
  else if !s.mayRead (.net 1) idx sub then s.v1Error f Rc.denied 0
  else if byteAt 0 f % 16 ≠ 0 then s.v1Error f Rc.type Dt.length
  else if !s.unitUp idx sub then s.v1Error f Rc.notReady 0
  else
    let r := s.serveRead (.net 1) idx sub
    match r.1 with
    | some a => r.2.v1Send (if idx = 0x1310 then 5 else 3) f a.data
    | none => r.2

/-- WRITE over version 1 (R85, R86, R88). -/
def State.v1Write (s0 : State) (f : Bytes) : State :=
  let s := s0.v1Take
  let idx := leAt 1 2 f
  let sub := byteAt 3 f
  let n := byteAt 0 f % 16
  let q : Req := ⟨2, 0, idx, sub, 0, slice 4 n f, true⟩
  if !s.v1On f || byteAt 0 f / 16 ≠ 2 then s
  else if (v1Visible idx sub).isNone || !s.objHere idx sub then s.v1Error f Rc.absent 0
  else if s.letterOf (.net 1) idx sub = .no then s.v1Error f Rc.denied 0
  else if v1Visible idx sub ≠ some true || !((s.dict.v1.unlocked.map fun u => decide (s.now ≤ u)).getD false) then
    s.v1Error f Rc.denied Dt.v1Locked
  else if 4 < n || !s.dataLenOk q then s.v1Error f Rc.type Dt.length
  else if !s.unitUp idx sub then s.v1Error f Rc.notReady 0
  else
    match s.valueCheck q with
    | some e => s.v1Error f e.1 e.2
    | none => ((s.applyWrite (.net 1) idx sub q.data).2).v1Send 3 f []

/-- UNLOCK_REQ (R85, R87, R721). -/
def State.v1UnlockReq (s0 : State) (f : Bytes) : State :=
  let s := s0.v1Take
  if !s.v1On f || byteAt 0 f / 16 ≠ 6 then s
  else if s.gate.quench then s.v1Error f Rc.quenched 0
  else if s.dict.v1.guard.locked s.now then s.v1Error f Rc.lockedOut 0
  else if !s.drawOk then s.v1Error f (if s.rng.st = .fatal then Rc.entropyFatal else Rc.notReady) 0
  else
    let s1 := s.boundary .bNextUNLOCKREQ
    let c := s1.draw 4
    { c.2 with dict.v1 := { c.2.dict.v1 with challenge := some c.1 } }.v1Send 6 f c.1

/-- The key of version 1 (R85): a loaded AES-128 slot with MAC of a NETWORK page. -/
def State.v1Key (s : State) : Option Bytes :=
  let h := s.g 0x1049 0
  if s.slotKind h = 1 && s.slotLen h = 0 && s.slotUse h 2 && s.slotOwner h = 13 then s.slotKey h else none

/-- UNLOCK_PROOF (R85 to R87, R721): a wrong one ends the unlock and counts. The challenge is used up. One with no
challenge open or no usable key is a wrong one (DESIGN CHOICE, log entry 52). -/
def State.v1Proof (s0 : State) (f : Bytes) : State :=
  let s := s0.v1Take
  if !s.v1On f || byteAt 0 f / 16 ≠ 7 then s
  else if s.gate.quench then s.v1Error f Rc.quenched 0
  else
    let good := match s.dict.v1.challenge, s.v1Key with
      | some c, some k => (cmac k c).take 4 = slice 4 4 f && byteAt 0 f % 16 = 4
      | _, _ => false
    let v := s.dict.v1
    if good then
      { (s.cxUse 3 2) with dict.v1 := { v with challenge := none, unlocked := some (s.now + secs 30) } }.v1Send 3 f []
    else
      { s with dict.v1 := { v with challenge := none, unlocked := none, guard := v.guard.fail 3 s.now } }.v1Error f Rc.authFail 0

/-- 30 s after a correct UNLOCK_PROOF (R86). -/
def State.v1Expiry (s : State) : State :=
  match s.dict.v1.unlocked with
  | some u => if u ≤ s.now then { s with dict.v1 := { s.dict.v1 with unlocked := none } } else s
  | none => s

/-- The version 1 lock-out ends (R87). -/
def State.v1LockEnd (s : State) : State :=
  let g := s.dict.v1.guard
  if g.locked s.now then s else { s with dict.v1 := { s.dict.v1 with guard := { g with lock := none } } }

/-! ### Time-driven effects of the dictionary -/

/-- The PERIOD of a subscription expires (R81). -/
def State.periodic (s : State) (who : Requester) (idx sub : Nat) : State :=
  match s.dict.subs.find? fun (x : Sub) => x.who = who && x.idx = idx && x.sub = sub with
  | none => s
  | some x =>
    if x.mode < 2 || s.now < x.due || !s.serving then s
    else
      { s with dict.subs := s.dict.subs.map fun (y : Sub) => if y = x then { y with due := x.due + ms x.period } else y }.notify who idx sub
        false

/-- The GAP of a subscription runs out with a change held back (R81). -/
def State.gapExpiry (s : State) (who : Requester) (idx sub : Nat) : State :=
  match s.dict.subs.find? fun (x : Sub) => x.who = who && x.idx = idx && x.sub = sub with
  | none => s
  | some x =>
    if !x.held || s.now < x.gapEnd then s
    else
      { s with dict.subs := s.dict.subs.map fun (y : Sub) =>
          if y = x then { y with held := false, gapEnd := s.now + ms x.gap } else y }.notify who idx sub true

/-- A pending value of an object reaches its boundary (R39). The values that wait for TsApply or BleEngPublish take hold with those
commands, and those that wait for a reset are discarded at it unless committed (R47). -/
def State.pendApply (s : State) (idx sub : Nat) : State :=
  let k := okey idx sub
  if [Boundary.bNextTsApply, .bNextBleEngPublish, .bNextReset, .bNextColdReset, .bNextStartup].any fun b => atBoundary b k then s
  else s.applyPend idx sub

end Sys2Proof.Machine
end

