-- ==== Sys2Proof/Machine/EngineOps.lean ====
section
/-! DEFINITION. The instruction word of the Chaqua engines (R527, R528) and the operation of each opcode (R529), and the issue of the
instruction at an engine's PC. -/
namespace Sys2Proof.Machine

/-! ### Fields (R527, R528) -/

/-- The opcode. -/
def iOp (w : Nat) : Nat := bits w 22 6
/-- rd of R3, R3X, R2, RI, RSH, I18, U16 and SF; rs of a store; sr of ST. -/
def iRd (w : Nat) : Nat := bits w 18 4
/-- ra of R3, R3X, R2, R1, M, RI, RSH and ST; sr of SF. -/
def iRa (w : Nat) : Nat := bits w 14 4
/-- rb of R3, R3X and M. -/
def iRb (w : Nat) : Nat := bits w 10 4
/-- pd of C, CI and PL. -/
def iPd (w : Nat) : Nat := bits w 19 3
/-- cond of C and CI. -/
def iCond (w : Nat) : Nat := bits w 15 4
/-- The sign-extended 14-bit immediate of RI. -/
def iS14 (w : Nat) : Word32 := simm 14 (bits w 0 14)
/-- The zero-extended 14-bit immediate of RI. -/
def iU14 (w : Nat) : Word32 := BitVec.ofNat 32 (bits w 0 14)

/-! ### Operations (R529) -/

/-- An engine instruction's operation, from its word. -/
abbrev EngOp := Engine → Mem → Nat → ERes

def opAdd (w : Nat) : EngOp := opSet (iRd w) fun e => e.reg (iRa w) + e.reg (iRb w)
def opSub (w : Nat) : EngOp := opSet (iRd w) fun e => e.reg (iRa w) - e.reg (iRb w)
def opAnd (w : Nat) : EngOp := opSet (iRd w) fun e => e.reg (iRa w) &&& e.reg (iRb w)
def opOr (w : Nat) : EngOp := opSet (iRd w) fun e => e.reg (iRa w) ||| e.reg (iRb w)
def opXor (w : Nat) : EngOp := opSet (iRd w) fun e => e.reg (iRa w) ^^^ e.reg (iRb w)
/-- A shift amount in a register: rb [4:0] (R529). -/
def shAmt (v : Word32) : Nat := v.toNat % 32
def opShl (w : Nat) : EngOp := opSet (iRd w) fun e => e.reg (iRa w) <<< shAmt (e.reg (iRb w))
def opShr (w : Nat) : EngOp := opSet (iRd w) fun e => e.reg (iRa w) >>> shAmt (e.reg (iRb w))
def opSar (w : Nat) : EngOp := opSet (iRd w) fun e => (e.reg (iRa w)).sshiftRight (shAmt (e.reg (iRb w)))
def opAddi (w : Nat) : EngOp := opSet (iRd w) fun e => e.reg (iRa w) + iS14 w
def opAndi (w : Nat) : EngOp := opSet (iRd w) fun e => e.reg (iRa w) &&& iU14 w
def opOri (w : Nat) : EngOp := opSet (iRd w) fun e => e.reg (iRa w) ||| iU14 w
def opXori (w : Nat) : EngOp := opSet (iRd w) fun e => e.reg (iRa w) ^^^ iU14 w
def opShli (w : Nat) : EngOp := opSet (iRd w) fun e => e.reg (iRa w) <<< bits w 0 5
def opShri (w : Nat) : EngOp := opSet (iRd w) fun e => e.reg (iRa w) >>> bits w 0 5
def opSari (w : Nat) : EngOp := opSet (iRd w) fun e => (e.reg (iRa w)).sshiftRight (bits w 0 5)
def opLdi (w : Nat) : EngOp := opSet (iRd w) fun _ => simm 18 (bits w 0 18)
def opLui (w : Nat) : EngOp := opSet (iRd w) fun e => (BitVec.ofNat 32 (bits w 0 16) <<< 16) ||| (e.reg (iRd w) &&& 0xFFFF)
def opMulU (w : Nat) : EngOp := opMul fun e => (e.reg (iRa w)).zeroExtend 64 * (e.reg (iRb w)).zeroExtend 64
def opMulS (w : Nat) : EngOp := opMul fun e => (e.reg (iRa w)).signExtend 64 * (e.reg (iRb w)).signExtend 64
def opMov (w : Nat) : EngOp := opSet (iRd w) fun e => e.reg (iRa w)
def opClz (w : Nat) : EngOp := opSet (iRd w) fun e => BitVec.ofNat 32 (clz32 (e.reg (iRa w)))
def opBswap (w : Nat) : EngOp := opSet (iRd w) fun e => bswap32 (e.reg (iRa w))
def opCmp (w : Nat) : EngOp := opPred (iPd w) fun e => condHolds (iCond w) (e.reg (bits w 11 4)) (e.reg (bits w 7 4))
def opCmpi (w : Nat) : EngOp := opPred (iPd w) fun e => condHolds (iCond w) (e.reg (bits w 11 4)) (simm 11 (bits w 0 11))
def opPlog (w : Nat) : EngOp := opPred (iPd w) fun e => plogFn (bits w 11 2) (e.pred (bits w 16 3)) (e.pred (bits w 13 3))
/-- The address of a load or store: ra plus the immediate. -/
def eaOf (w : Nat) (e : Engine) : Word32 := e.reg (iRa w) + iS14 w
def opLdw (w : Nat) : EngOp := opLoad (iRd w) 4 (eaOf w) id
def opLdh (w : Nat) : EngOp := opLoad (iRd w) 2 (eaOf w) id
def opLdb (w : Nat) : EngOp := opLoad (iRd w) 1 (eaOf w) id
def opStw (w : Nat) : EngOp := opStore (iRd w) 4 (eaOf w) id
def opSth (w : Nat) : EngOp := opStore (iRd w) 2 (eaOf w) id
def opStb (w : Nat) : EngOp := opStore (iRd w) 1 (eaOf w) id
/-- The post-increment of LDWP and STWP. -/
def postInc (w : Nat) (e : Engine) : Engine := e.wr (iRa w) (eaOf w e)
def opLdwp (w : Nat) : EngOp := opLoad (iRd w) 4 (fun e => e.reg (iRa w)) (postInc w)
def opStwp (w : Nat) : EngOp := opStore (iRd w) 4 (fun e => e.reg (iRa w)) (postInc w)
def opBr (w : Nat) : EngOp := fun e _ _ => match relTarget (bits w 0 22) e with | some a => jumpTo e a | none => .trap 0x01
def opCallRel (w : Nat) : EngOp := opCall (relTarget (bits w 0 22))
def opJr (w : Nat) : EngOp := fun e _ _ => jumpTo e (e.reg (iRa w)).toNat
def opCallReg (w : Nat) : EngOp := opCall fun e => some (e.reg (iRa w)).toNat
def opRptImm (w : Nat) : EngOp := opRpt fun _ => bits w 0 16
def opRptReg (w : Nat) : EngOp := opRpt fun e => (e.reg (iRa w)).toNat % 65536
def opMfsW (w : Nat) : EngOp := opMfs (iRd w) (iRa w)
def opMtsW (w : Nat) : EngOp := opMts (iRd w) (iRa w)
def opNop (_ : Nat) : EngOp := fun e m _ => .go e m

/-! ### LDO and STO (R539) -/

/-- The octets from `a` lie in memory the engine may read, and write with `write` (R524, R525, R553). -/
def Engine.spanOk (e : Engine) (a n : Nat) (write : Bool) : Bool :=
  if a + n ≤ 0x4000 then true
  else 0x10000 ≤ a && a + n ≤ 0x20000 && (List.range 16).all fun k =>
    a + n ≤ 0x10000 + 0x1000 * k || 0x11000 + 0x1000 * k ≤ a || (bit e.mbxR k && (!write || bit e.mbxW k))

/-- Octets an engine reads at an address. -/
def Engine.peek (e : Engine) (m : Mem) (a n : Nat) : Bytes := if a < 0x10000 then memRead e.data a n else memRead m (a - 0x10000) n

/-- LDO and STO up to the dictionary access (R539): alignment, the buffer, its header. `kind` is 0 READ, 1 READ_RECORD, 2 WRITE,
3 EXEC. The buffer is its header and CAP octets, or LEN octets of a value or argument where these are more (log entry 45). -/
def opDict (kind w : Nat) : EngOp := fun e m _ =>
  let a := (e.reg (iRb w)).toNat
  if a % 4 ≠ 0 then .trap 0x07
  else if !e.spanOk a 4 false then .trap 0x08
  else
    let len := leNat (e.peek m a 2)
    let cap := leNat (e.peek m (a + 2) 2)
    let n := if kind < 2 then cap else max len cap
    if !e.spanOk a (4 + n) (kind ≠ 2) then .trap 0x08
    else .go { e with acc := some ⟨iRd w, a, kind, cap, (e.reg (iRa w)).toNat,
                                   if kind < 2 then [] else e.peek m (a + 4) len, none⟩ } m

/-! ### Issue -/

/-- The operation of an instruction word (R529); `now` is the time, for the watchdog. -/
def engOp (now w : Nat) : EngOp :=
  match iOp w with
  | 0x01 => opAdd w | 0x02 => opSub w | 0x03 => opAnd w | 0x04 => opOr w | 0x05 => opXor w
  | 0x06 => opShl w | 0x07 => opShr w | 0x08 => opSar w
  | 0x09 => opAddi w | 0x0A => opAndi w | 0x0B => opOri w | 0x0C => opXori w
  | 0x0D => opShli w | 0x0E => opShri w | 0x0F => opSari w
  | 0x10 => opLdi w | 0x11 => opLui w | 0x12 => opMulU w | 0x13 => opMulS w
  | 0x14 => opMov w | 0x15 => opClz w | 0x16 => opBswap w
  | 0x18 => opCmp w | 0x19 => opCmpi w | 0x1A => opPlog w
  | 0x20 => opLdw w | 0x21 => opLdh w | 0x22 => opLdb w | 0x23 => opStw w | 0x24 => opSth w | 0x25 => opStb w
  | 0x26 => opDict (bits w 9 1) w | 0x27 => opDict (2 + bits w 9 1) w
  | 0x28 => opLdwp w | 0x29 => opStwp w
  | 0x30 => opBr w | 0x31 => opCallRel w | 0x32 => opRet | 0x33 => opJr w | 0x34 => opCallReg w
  | 0x35 => opRptImm w | 0x36 => opRptReg w
  | 0x38 => opMfsW w | 0x39 => opMtsW w
  | 0x3A => opWfe now (iRd w) (iRa w) | 0x3B => opWaitt now (iRd w) (iRa w) (iRb w)
  | 0x3D => opStop
  | _ => opNop w

/-- The instruction at an engine's PC. -/
def State.fetched (s : State) (n : Nat) : Nat := (s.engine n).word (s.engine n).pc

/-- R532: the instruction at PC may not stand before the next one. -/
def Engine.comboBad (e : Engine) (w : Nat) : Bool := (iOp w = 0x35 || iOp w = 0x36) && e.rptNext.2

/-- The guard of a word holds (R527). -/
def Engine.guard (e : Engine) (w : Nat) : Bool := e.pred (bits w 29 3) ≠ bit w 28

/-- The instruction at PC passes the fetch and decode checks and its guard, so that its operation takes place (R543). -/
def State.executes (s : State) (n w : Nat) : Bool :=
  let e := s.engine n
  e.pc + 4 ≤ e.codeLen && (decodeTrap w).isNone && !e.comboBad w && e.guard w

/-- Engine `n` issues the instruction `w` at its PC with the operation `op`. -/
def State.issueWord (s : State) (n w : Nat) (op : EngOp) : State :=
  s.issueOn n (bits w 29 3) (bit w 28) (decodeTrap w) ((s.engine n).comboBad w) op

/-- A breakpoint stands at PC and has not yet been taken (R556, R557). -/
def State.atBreak (s : State) (n : Nat) : Bool :=
  let e := s.engine n
  s.g 0x5050 0 ≠ 0 && s.eng.dbg.open_ && bit ((e.image.map Image.options).getD 0) 2 && e.brk.contains (some e.pc) && !e.pass

/-- Engine `n` is present, RUNNING, has no dictionary access outstanding and no breakpoint to take, and CORE runs: it issues. -/
def State.mayIssue (s : State) (n : Nat) : Bool :=
  n < engCount s.fuse.variant && (s.engine n).st = .running && (s.engine n).acc.isNone && s.pwr.core && s.cksOn && !s.pwr.held &&
    !s.atBreak n

/-- A RUNNING engine whose instruction at PC has opcode `o` issues it (R527, R529). -/
def State.engStep (s : State) (n o : Nat) (op : Nat → EngOp) : State :=
  let w := s.fetched n
  if s.mayIssue n && iOp w = o then s.issueWord n w (op w) else s

end Sys2Proof.Machine
end

