-- ==== Sys2Proof/Machine/EngineDict.lean ====
section
/-! DEFINITION. The engines' dictionary accesses (R539 to R541), SEV (R537), breakpoints and the debug port (R556, R557). -/
namespace Sys2Proof.Machine

/-! ### LDO and STO -/

/-- The largest result that a command an engine may execute gives (R539). -/
def maxResult (idx : Nat) : Nat :=
  match idx with
  | 0x1410 => 2
  | 0x1411 => 40
  | 0x1520 => 2
  | 0x1521 => 2
  | 0x1522 => 2
  | 0x1523 => 58
  | 0x3060 => 8
  | 0x3061 => 135
  | 0x3163 => 246
  | 0x5024 => 4
  | 0x5025 => 3
  | 0x4018 => 2
  | 0x4029 => 2
  | 0x4019 => 1024
  | 0x402A => 1024
  | 0x4030 => 16
  | _ => 0

/-- The request a pending access of engine makes (R539). -/
def EngAcc.req (a : EngAcc) : Req :=
  ⟨match a.op with | 0 => 1 | 1 => 4 | 2 => 2 | _ => 3, 0, a.obj / 256 % 65536, a.obj % 256, 0, a.arg, true⟩

/-- The access of engine `n` that its LDO or STO has just issued is served (R38, R539): its answer, none where the command runs on.
A reference with bits [31:24] gives RANGE; a value above CAP, or a result that might be, gives TYPE LENGTH and nothing happens. -/
def State.accServe (s : State) (n : Nat) (a : EngAcc) : Option Resp × State :=
  let q := a.req
  let long : Option Resp := some ⟨Rc.type, Dt.length, []⟩
  if 2 ^ 24 ≤ a.obj then (some ⟨Rc.range, 0, []⟩, s)
  else if a.op = 3 && a.cap < maxResult q.idx && ((s.reqCheck (.engine n) q).map fun e => e.1 ≠ Rc.absent && e.1 ≠ Rc.denied) ≠ some false
  then (long, s)
  else
    let r := s.serve (.engine n) q
    match r.1 with
    | some v => if a.op < 2 && v.code = 0 && a.cap < v.data.length then (long, s) else r
    | none => if a.op < 2 && a.cap < 32 then (long, s) else r

/-- The access just issued by engine `n` goes to the dictionary. -/
def State.accStart (s : State) (n : Nat) : State :=
  match (s.engine n).acc with
  | none => s
  | some a =>
    let r := s.accServe n a
    match r.1 with
    | none => r.2
    | some v =>
      let e := r.2.engine n
      { (r.2.setEngine n { e with acc := some { a with rsp := some (v.code, v.detail, v.data) } }) with
        dict.last := some (.engine n, a.req, v) }

/-- LDO or STO at the PC of engine `n` (R539): opcode `o` with X bit `x`. -/
def State.engDict (s : State) (n o x : Nat) : State :=
  let w := s.fetched n
  if s.mayIssue n && iOp w = o && bits w 9 1 = x then
    (s.issueWord n w (opDict ((if o = 0x26 then 0 else 2) + x) w)).accStart n
  else s

/-- Octets stored at an address of an engine. -/
def State.engPoke (s : State) (n a : Nat) (b : Bytes) : State :=
  if a < 0x10000 then s.setEngine n { s.engine n with data := memWrite (s.engine n).data a b }
  else { s with eng.mbx := memWrite s.eng.mbx (a - 0x10000) b }

/-- The access of engine `n` completes (R539, R541): buffer, LEN, completion word; then a STOP that waited for it (R551). -/
def State.dictComplete (s : State) (n : Nat) : State :=
  let e := s.engine n
  match e.acc with
  | none => s
  | some a =>
    match a.rsp with
    | none => s
    | some (c, d, v) =>
      let stores := c = 0 && a.op ≠ 2
      let word := (if stores then v.length else 0) * 65536 + c % 256 * 256 + d % 256
      let s1 := if stores then s.engPoke n a.buf (toLe 2 v.length ++ (toLe 2 a.cap ++ v)) else s
      let s2 := s1.setEngine n { (s1.engine n).wr a.rd (BitVec.ofNat 32 word) with acc := none }
      match e.halt with
      | none => s2
      | some restart => if restart then (s2.engHold n).engStart n else s2.engHold n

/-- SEV at the PC of engine `n` (R537). -/
def State.engSev (s : State) (n : Nat) : State :=
  let w := s.fetched n
  if s.mayIssue n && iOp w = 0x3C then
    let s1 := s.issueWord n w (opNop w)
    if s.executes n w then s1.sev n (bits w 0 8) else s1
  else s

/-- The multiplier result of engine `n` arrives (R530). -/
def State.mulResult (s : State) (n : Nat) : State :=
  if n < engCount s.fuse.variant then s.setEngine n ((s.engine n).settle s.cyc) else s

/-- An undefined opcode at the PC of engine `n`, or a fetch beyond its code (R543). -/
def State.illegalOp (s : State) (n : Nat) : State :=
  let w := s.fetched n
  if s.mayIssue n && !opcodeKnown (iOp w) then s.issueWord n w (opNop w) else s

/-- An instruction of engine `n` at the time of its command: what follows every command is done where the instruction changed the
engine's state or the mailbox; a register, a predicate or the engine's own memory is seen by nothing else until an access asks. -/
def State.engRun (t n : Nat) (f : State → State) (s : State) : State :=
  let s0 := s.tick t
  let s1 := f s0
  if (s1.engine n).st = (s0.engine n).st && s1.eng.mbx = s0.eng.mbx then s1 else s1.fin s0

/-! ### Debug port (R556, R557) -/

/-- An engine enters DEBUG_HALT; its watchdog stands (R544). -/
def Engine.toHalt (e : Engine) (now : Nat) : Engine := { e with st := .debugHalt, wdt := now - e.wdt }
/-- An engine leaves DEBUG_HALT. -/
def Engine.fromHalt (e : Engine) (now : Nat) : Engine :=
  { e with st := if e.wait.isSome then .waiting else .running, wdt := now - e.wdt }

/-- An engine reaches a breakpoint (R557). -/
def State.breakHit (s : State) (n : Nat) : State :=
  let e := s.engine n
  if n < engCount s.fuse.variant && e.st = .running && e.acc.isNone && s.pwr.core && s.atBreak n then
    s.setEngine n { e.toHalt s.now with pass := true }
  else s

/-- An answer of the debug port: status byte, data, CRC. -/
def State.dbgAns (s : State) (st : Nat) (d : Bytes) : State :=
  let b := BitVec.ofNat 8 st :: d
  { s with eng.dbg.ans := b ++ toLe 2 (crc16 b) }

/-- The fields of a debug request with command byte `c`: its engine byte and fields, none where the command or the CRC is another
(log entry 46). -/
def dbgIn (c : Nat) (f : Bytes) : Option (Nat × Bytes) :=
  let b := f.take (f.length - 2)
  if 4 ≤ f.length && byteAt 0 f = c && leAt (f.length - 2) 2 f = crc16 b then some (byteAt 1 f, b.drop 2) else none

/-- ID (R556). -/
def State.dbgId (s : State) (f : Bytes) : State :=
  match dbgIn 0x01 f with
  | none => s
  | some _ =>
    if 3 ≤ s.eng.dbg.wrong then s.dbgAns Rc.lockedOut []
    else if !s.drawOk then s.dbgAns (if s.rng.st = .fatal then Rc.entropyFatal else Rc.notReady) []
    else
      let r := s.draw 16
      { r.2 with eng.dbg.chal := some r.1 }.dbgAns 0 (toLe 2 (productCode s.fuse.variant) ++ s.fuse.serial ++ r.1)

/-- UNLOCK (R556, R557). -/
def State.dbgUnlock (s : State) (f : Bytes) : State :=
  match dbgIn 0x02 f with
  | none => s
  | some (_, d) =>
    if 3 ≤ s.eng.dbg.wrong then s.dbgAns Rc.lockedOut []
    else
      match s.slotKey (s.g 0x5051 0) with
      | none => s.dbgAns Rc.notReady []
      | some k =>
        let good : Bool := match s.eng.dbg.chal with
          | some c => d = (cmac k (0x44 :: c ++ s.fuse.serial)).take 8
          | none => false
        let s1 := { s with eng.dbg.chal := none }.cxUse 3 (cmacOps 25)
        if good then { s1 with eng.dbg.open_ := true }.dbgAns 0 []
        else { s1 with eng.dbg.wrong := s1.eng.dbg.wrong + 1 }.dbgAns Rc.authFail []

/-- A command that needs the port open, for an engine it serves (R557). -/
def State.dbgFor (s : State) (c : Nat) (f : Bytes) (act : Nat → Bytes → State) : State :=
  match dbgIn c f with
  | none => s
  | some (n, d) =>
    if 3 ≤ s.eng.dbg.wrong then s.dbgAns Rc.lockedOut []
    else if !s.eng.dbg.open_ || s.g 0x5050 0 = 0 then s.dbgAns Rc.denied []
    else if engCount s.fuse.variant ≤ n then s.dbgAns Rc.absent []
    else if !bit (((s.engine n).image.map Image.options).getD 0) 2 then s.dbgAns Rc.denied []
    else act n d

/-- HALT (R556). -/
def State.dbgHalt (s : State) (f : Bytes) : State :=
  s.dbgFor 0x10 f fun n _ =>
    let e := s.engine n
    if e.st = .running || e.st = .waiting then (s.setEngine n (e.toHalt s.now)).dbgAns 0 []
    else if e.st = .debugHalt then s.dbgAns 0 []
    else s.dbgAns Rc.notReady []

/-- RUN (R556): an instruction at a breakpoint is passed. -/
def State.dbgRun (s : State) (f : Bytes) : State :=
  s.dbgFor 0x11 f fun n _ =>
    let e := s.engine n
    if e.st = .debugHalt then (s.setEngine n { e.fromHalt s.now with pass := true }).dbgAns 0 []
    else if e.st = .running || e.st = .waiting then s.dbgAns 0 []
    else s.dbgAns Rc.notReady []

/-- The instruction at the PC of a halted engine executes (R556): with its event sent, or its access begun. -/
def State.dbgExec (s : State) (n : Nat) : State :=
  let w := s.fetched n
  let s1 := s.issueWord n w (engOp s.now w)
  if iOp w = 0x3C && s.executes n w then s1.sev n (bits w 0 8)
  else if (iOp w = 0x26 || iOp w = 0x27) then s1.accStart n
  else s1

/-- STEP (R556): one instruction; status and PC. An engine that waits, or whose access is not over, has none to execute. -/
def State.dbgStep (s : State) (f : Bytes) : State :=
  s.dbgFor 0x12 f fun n _ =>
    let e := s.engine n
    if e.st ≠ .debugHalt || e.wait.isSome || e.acc.isSome then s.dbgAns Rc.notReady (toLe 2 e.pc)
    else
      let s1 := (s.setEngine n (e.fromHalt s.now)).dbgExec n
      let e1 := s1.engine n
      let s2 := if e1.st = .running || e1.st = .waiting then s1.setEngine n (e1.toHalt s.now) else s1
      s2.dbgAns 0 (toLe 2 e1.pc)

/-- REG_READ (R556): g0 to g15, the predicates, the special registers, PC, the hidden count. -/
def State.dbgRegs (s : State) (f : Bytes) : State :=
  s.dbgFor 0x13 f fun n _ =>
    let e := (s.engine n).settle s.cyc
    let ps := ((List.range 8).map fun i => if e.pred i then 2 ^ i else 0).sum
    s.dbgAns 0 ((e.g.map fun (v : Word32) => toLe 4 v.toNat).flatten ++ toLe 1 ps
      ++ ((List.range 8).map fun i => toLe 4 (e.special s.cyc i).toNat).flatten ++ toLe 2 e.pc ++ toLe 2 (e.rpt.getD 0))

/-- REG_WRITE (R556): register number U8 and value U32; 0 to 15 g0 to g15, 16 the predicates, 17 to 24 the special registers, 25 PC
(log entry 46). -/
def State.dbgRegWrite (s : State) (f : Bytes) : State :=
  s.dbgFor 0x14 f fun n d =>
    let e := (s.engine n).settle s.cyc
    let r := byteAt 0 d
    let v := leAt 1 4 d
    if d.length ≠ 5 then s.dbgAns Rc.type []
    else if r < 16 then (s.setEngine n (e.wr r (BitVec.ofNat 32 v))).dbgAns 0 []
    else if r = 16 then (s.setEngine n { e with p := true :: (List.range 7).map fun i => bit v (i + 1) }).dbgAns 0 []
    else if r = 17 then (s.setEngine n { e with mlo := BitVec.ofNat 32 v }).dbgAns 0 []
    else if r = 18 then (s.setEngine n { e with mhi := BitVec.ofNat 32 v }).dbgAns 0 []
    else if r = 19 then (s.setEngine n { e with rc := BitVec.ofNat 32 v, rcOwn := e.rpt.isSome }).dbgAns 0 []
    else if r = 22 then (s.setEngine n { e with evt := e.evt &&& ~~~BitVec.ofNat 32 v }).dbgAns 0 []
    else if r = 25 && v % 4 = 0 && v < 0x8000 then (s.setEngine n { e with pc := v, rpt := none, rcOwn := false }).dbgAns 0 []
    else s.dbgAns Rc.range []

/-- A range the debug port may reach (R557): the running copy of the code, or data memory and the mailbox partitions of the engine. -/
def Engine.dbgSpan (e : Engine) (space a n : Nat) (write : Bool) : Bool :=
  4 ≤ n && n ≤ 256 && (if space = 0 then a + n ≤ e.codeLen else space = 1 && e.spanOk a n write)

/-- MEM_READ (R556): space U8, address U32, length U16 (log entry 46). -/
def State.dbgMemRead (s : State) (f : Bytes) : State :=
  s.dbgFor 0x15 f fun n d =>
    let e := s.engine n
    let a := leAt 1 4 d
    let k := leAt 5 2 d
    if d.length ≠ 7 then s.dbgAns Rc.type []
    else if !e.dbgSpan (byteAt 0 d) a k false then s.dbgAns Rc.range []
    else s.dbgAns 0 (if byteAt 0 d = 0 then slice a k e.code else e.peek s.eng.mbx a k)

/-- MEM_WRITE (R556, R557): as MEM_READ, with the octets; for code the running copy only. -/
def State.dbgMemWrite (s : State) (f : Bytes) : State :=
  s.dbgFor 0x16 f fun n d =>
    let e := s.engine n
    let a := leAt 1 4 d
    let k := leAt 5 2 d
    if d.length ≠ 7 + k then s.dbgAns Rc.type []
    else if !e.dbgSpan (byteAt 0 d) a k true then s.dbgAns Rc.range []
    else if byteAt 0 d = 0 then (s.setEngine n { e with code := overlay a (d.drop 7) e.code }).dbgAns 0 []
    else (s.engPoke n a (d.drop 7)).dbgAns 0 []

/-- BREAK (R556): slot U8, code address U16, 0xFFFF to clear (log entry 46). -/
def State.dbgBreak (s : State) (f : Bytes) : State :=
  s.dbgFor 0x17 f fun n d =>
    let e := s.engine n
    let a := leAt 1 2 d
    if d.length ≠ 3 then s.dbgAns Rc.type []
    else if 4 ≤ byteAt 0 d || (a ≠ 0xFFFF && (a % 4 ≠ 0 || 0x8000 ≤ a)) then s.dbgAns Rc.range []
    else (s.setEngine n { e with brk := putAt e.brk (byteAt 0 d) (if a = 0xFFFF then none else some a) }).dbgAns 0 []

end Sys2Proof.Machine
end

