-- ==== Sys2Proof/Machine/Routes.lean ====
section
/-! DEFINITION. How the ports route what they receive: CAN frames (R563 to R566), 10BASE-T1S frames (R575), Wairil frames (R78 to R80)
and the states of the Wairil link (R581). -/
namespace Sys2Proof.Machine

/-! ### CAN -/

/-- An immobiliser frame in the format of GateImmoFormat (R253): the CAN frame format suits it. -/
def State.immoFmt (s : State) (f : CanFrame) : Bool :=
  if s.g 0x2422 0 = 1 then f.fmt = 1 || f.fmt = 2 || (f.fmt = 3 && f.sdt = 0) else f.fmt = 0 && !bit f.flags 1

/-- A CHALLENGE of the engine controller (R252, R256): answered at once while START_EN is high, else a start trigger whose nonce waits. -/
def State.immoChallenge (s : State) (nonce : Bytes) : State :=
  if s.g 0x2420 0 = 2 then
    if s.gate.startEn then s.immoResponse 1 nonce
    else
      let due := match s.gate.immo.nonce with | some p => p.2 | none => s.now + ms (s.g 0x2427 0)
      { s with gate.immo.nonce := some (nonce, due) }.startTrigger
  else s.startTrigger

/-- A frame on GateImmoRxId (R252 to R257): acted on by the device that decides. -/
def State.immoRx (s : State) (f : CanFrame) : State :=
  if !s.deciding then s
  else if !s.immoFmt f then s.immoReject
  else
    match s.immoChallengeOf f.data with
    | some n => s.immoChallenge n
    | none =>
      let src := ((s.acc.start.find? fun x => x.sealed_).map StartS.ack).getD (s.g 0x2203 0)
      if s.immoAckOk f.data && src ≠ 1 then s.startAck 0 else s.immoReject

/-- The immobiliser takes a frame (R564). -/
def State.immoTakes (s : State) (c : Nat) (f : CanFrame) : Bool :=
  s.hasAccess && s.g 0x2420 0 ≠ 0 && s.g 0x2421 0 = c && f.id = s.g 0x2423 0

/-- A version 1 frame by its command (R85). -/
def State.v1Frame (s : State) (f : Bytes) : State :=
  match byteAt 0 f / 16 with
  | 1 => s.v1Read f
  | 2 => s.v1Write f
  | 6 => s.v1UnlockReq f
  | 7 => s.v1Proof f
  | _ => s.v1Take

/-- A controller receives frames: on the bus, with CORE and its clock. -/
def State.canHears (s : State) (c : Nat) (fmt : Nat) : Bool :=
  c < 2 && s.has (5 + c) && ((s.canCtl c).st = 1 || (s.canCtl c).st = 2) && canFmtOk (s.canMode c) fmt && s.cksOn && !s.pwr.held &&
    s.gate.vio

/-- A CAN frame is received and offered to the units in the order of R564, then to the filters; `sof` is the time of the sample point of
its SOF (R563). The receive error counter falls as after every good frame (log entry 47). -/
def State.canFrameIn (s0 : State) (c : Nat) (f : CanFrame) (sof : Nat) : State :=
  if !s0.canHears c f.fmt then s0
  else
    let s := (s0.modCan c fun k => { k with rec_ := min (k.rec_ - 1) 127 }.settle).bump (0x4012 + c) 1
    if s.immoTakes c f then s.immoRx f
    else if s.canDictOn c f.id then
      if f.fmt = 3 then s.xlDict c f.id f.sdt f.data
      else if f.fmt = 0 then s
      else s.fdSegment c f.id f.data
    else if c = 0 && f.id = 0x7A0 && s.has 5 && s.gp 0x1048 0 = 1 && f.fmt = 0 then s.v1Frame f.data
    else s.canFilter c ⟨0, none, 0, f.fmt, f.flags, f.sdt, f.id, f.af, f.vcid, f.data, 0, 0⟩ (s.domainAt sof)

/-! ### 10BASE-T1S -/

/-- A segment or twin frame by its SUBTYPE (R575, R603); a reserved one is counted. -/
def State.segRoute (s : State) (p : Bytes) (wl : Bool) : State :=
  match byteAt 0 p with
  | 0x20 => s.heartbeatIn p wl
  | 0x21 => s.presenceRx p
  | 0x22 => s.planIn p
  | 0x23 => s.reportIn p
  | 0x24 => s.lfRequestIn p
  | 0x25 => s.joinIn p
  | 0x26 => s.joinAck p
  | 0x28 => s.commitIn p
  | 0x29 => s.commitAckIn p
  | 0x2A => s.mirrorIn p
  | 0x2B => s.keyMirrorIn p
  | 0x2C => s.tinDigestIn p
  | 0x2D => s.tinPullIn p
  | 0x2E => s.tinDataIn p
  | _ => s.segCount 4

/-- The MAC takes a destination address (R572): its own, broadcast, or the 802.1AS multicast. -/
def State.macTakes (s : State) (da : Bytes) : Bool :=
  leNat da = s.g 0x4020 0 || da = List.replicate 6 0xFF || da = ptpMac

/-- A 10BASE-T1S frame is received (R573, R575): `fcsOk` says that its FCS is good, `sfd` is the time of its stamp. -/
def State.t1sFrameIn (s : State) (da sa : Bytes) (etype : Nat) (payload : Bytes) (fcsOk : Bool) (sfd : Nat) : State :=
  if s.net.t1s = 0 || !s.cksOn || s.pwr.held || !s.gate.vio then s
  else if !fcsOk then s.bump 0x4027 3
  else if !s.macTakes da then s
  else
    let s1 := s.bump 0x4027 1
    if etype = 0x88F7 then s1.ptpIn payload
    else if etype = 0x88B5 then
      if byteAt 0 payload = 0x10 then s1.t1sDict da sa payload
      else if byteAt 0 payload / 16 = 2 then s1.segRoute payload false
      else s1.bump 0x4027 6
    else s1.ethFilter da sa etype payload (s1.domainAt sfd)

/-! ### Wairil -/

/-- A Wairil frame after 8b/10b decoding, between its control characters (R78, R79): TYPE, LEN, body, CRC-32. Frames are taken only with
the link UP (R581). -/
def State.wairilIn (s : State) (raw : Bytes) : State :=
  let n := leAt 1 2 raw
  if s.net.wl ≠ 2 || !s.cksOn || s.pwr.held then s
  else if raw.length ≠ 7 + n || crc32 (raw.take (3 + n)) ≠ leAt (3 + n) 4 raw then s.bump 0x4310 8
  else
    let typ := byteAt 0 raw
    let body := slice 3 n raw
    if typ = 0x10 then
      (if byteAt 0 body = 0xFF then s.netMessage (.t1s (nodeMac s.seg.segNo s.peerNode) (s.addrOf s.peerNode)) body else s)
    else if typ = 0x20 || (0x28 ≤ typ && typ ≤ 0x2E) then s.segRoute (BitVec.ofNat 8 typ :: body) true
    else s.segCount 4

/-- The Wairil link exists: GZ4880 and GZ4860 with the unit present (R5). -/
def State.wlHere (s : State) : Bool := s.has 11 && s.cksOn && !s.pwr.held

/-- Code violations or a lane without transitions take the link DOWN (R581), which loses its path to the peer (R625). `viol` says that
it was the violations. -/
def State.wlDown (s : State) (viol : Bool) : State :=
  let s1 := if viol then s.bumpBy 0x4041 1 4 else s
  if !s.wlHere || s.net.wl = 0 then s
  else
    let s2 := { s1 with net.wl := 0 }
    if s.net.wl = 2 then (s2.bump 0x4041 2).wlPathLost else s2

/-- A comma is found and the receiver aligns to it (R581). -/
def State.wlAlign (s : State) : State := if s.wlHere && s.net.wl = 0 then { s with net.wl := 1 } else s

/-- 256 valid characters with the aligned fill pair (R581). -/
def State.wlUp (s : State) : State := if s.wlHere && s.net.wl = 1 then { s with net.wl := 2, net.wlRd := false } else s

/-- The receiver has added or removed fill pairs since the frame before (R580, R597). -/
def State.wlFills (s : State) (n : Nat) : State := if s.wlHere && s.net.wl ≠ 0 then s.bumpBy 0x4041 3 n else s

end Sys2Proof.Machine
end

