-- ==== Sys2Proof/Machine/Rows.lean ====
section
/-! DEFINITION. What several commands share around the operations of the chapters: the units that need CORE and its clock, the wake
sources (R641, R642), the frames that reach a unit through a port, and commands that end an operation and answer who asked for it. -/
namespace Sys2Proof.Machine

/-! ### Power and wake -/

/-- CORE runs with its clock and no reset is held: the units of CORE act (R19, R643, R647). -/
def State.live (s : State) : Bool := s.cksOn && !s.pwr.held

/-- An effect of a unit of CORE: nothing happens while CORE is down, held or without its clock. -/
def State.whenLive (s : State) (f : State → State) : State := if s.live then f s else s

/-- An effect of the AON domain, which runs while VAON is present (R19, R21). -/
def State.whenVaon (s : State) (f : State → State) : State := if s.pwr.vaon then f s else s

/-- An effect of a unit of the AON domain that SHUTDOWN stops (R19, R640). -/
def State.whenAon (s : State) (f : State → State) : State := if !s.pwr.vaon || s.pwr.shut then s else f s

/-- An effect of the pins that a held reset and SHUTDOWN stop (R640, R648). -/
def State.whenUp (s : State) (f : State → State) : State := if s.pwr.held || s.pwr.shut then s else f s

/-- The balls of wake source `i` of R641 are connected on this variant (R3): DOOR_SW and IGN_IN serve access decision, the CAN ports, the
10BASE-T1S port and the Wairil port their own balls. -/
def State.wakeHas (s : State) (i : Nat) : Bool :=
  if i = 4 || i = 5 then s.hasAccess
  else if i = 6 then s.has 5 else if i = 7 then s.has 6 else if i = 8 then s.has 3 else if i = 9 then s.has 11
  else true

/-- Wake source `i` of R641 appears: it ends SHUTDOWN (R640) or wakes CORE where it is enabled. -/
def State.wakeBy (s : State) (i : Nat) : State :=
  if !s.wakeHas i then s else if s.pwr.shut then s.shutdownExit i else s.coreWake (2 ^ i)

/-- A frame or link event at a port whose wake source is `i`: with CORE down it only wakes CORE and is not received (R642). On a variant
without the port nothing is connected (R3). -/
def State.portIn (s : State) (i : Nat) (f : State → State) : State :=
  if !s.wakeHas i then s else if s.pwr.core then f s else s.wakeBy i

/-- DOOR_SW[n] has been at a level for `held` time units (R175): a level that has lasted AccDoorDebounce is the filtered one, and its
change to the open level is a door-open edge; either debounced edge is wake source 4 (R641). -/
def State.doorSwitch (s : State) (n : Nat) (level : Bool) (held : Nat) : State :=
  if !s.hasAccess || 4 ≤ n || held < ms (s.g 0x2225 0) || bit s.acc.doors n = level then s
  else
    let s1 := { s with acc.doors := putBit s.acc.doors n level }
    let s2 := if s.doorOpenAt n level then s1.doorEdge else s1
    if s2.pwr.core then s2 else s2.wakeBy 4

/-- An edge of IGN_IN, which is wake source 5 (R179, R641) and is connected where the part has access decision (R3). -/
def State.ignEdge (s : State) (f : State → State) : State :=
  if !s.hasAccess then s
  else
    let s1 := f s
    if s1.pwr.core then s1 else s1.wakeBy 5

/-- A step of the capacitive scanner, which runs in the AON domain: a touch found with CORE down wakes CORE, or is discarded where CAP is
not enabled (R642). -/
def State.capStep (s : State) (f : State → State) : State :=
  s.whenAon fun s =>
    let s1 := f s
    if s.pwr.core && !s.pwr.held || s1.cap.held.length ≤ s.cap.held.length then s1
    else if bit (s.g 0x1104 0) 1 && !s.pwr.held then s1.wakeBy 1
    else { s1 with cap.held := s.cap.held, ble.boost := s.ble.boost, ble.advAt := s.ble.advAt }

/-- A ping of the NFC reader, which runs in the AON domain: a detection with CORE down wakes CORE, or is discarded where NFC is not enabled
(R642). -/
def State.pingStep (s : State) (p : Nat) (f : State → State) : State :=
  s.whenAon fun s =>
    let s1 := f s
    if s.pwr.core && !s.pwr.held || (s1.nfcPort p).next.isNone then s1
    else if bit (s.g 0x1104 0) 2 && !s.pwr.held then s1.wakeBy 2
    else s1.modNfc p fun x => { x with next := none }

/-- An edge on a GPIO is selected by EngGpioEdge, and the engine that owns the pin is WAITING (R555, R641). -/
def State.gpioWakes (s : State) (pin : Nat) (level : Bool) : Bool :=
  let sel := bits (s.g 0x5035 0) (2 * pin) 2
  let o := s.g 0x5030 (pin + 1)
  pin < 8 && bit s.eng.gpin pin ≠ level && (sel = 3 || (sel = 1 && level) || (sel = 2 && !level)) && o ≠ 0xFF &&
    (s.engine o).st = .waiting

/-- An edge on a GPIO, with CORE running or down (R555, R641). -/
def State.gpioEdgeRow (s : State) (pin : Nat) (level : Bool) : State :=
  let s1 := s.gpioEdge pin level
  if !s.pwr.core && s.gpioWakes pin level then s1.wakeBy 0 else s1

/-! ### Messages and frames -/

/-- A login message of the network, as its transport delivers it whole (R60, R69). -/
def State.loginRow (s : State) (via : Transport) (op seq : Nat) (d : Bytes) : State :=
  s.netMessage via ([0, 0] ++ pduOf op seq 0 0 0 d)

/-- LOGOUT, a request of an open session with the next FCNT (R74, R76). -/
def State.logoutRow (s : State) (sid seq : Nat) : State :=
  if !s.serving || !s.mayAsk (.net sid) then s
  else
    (s.netCount sid).netServe sid ⟨0x12, seq, 0, 0, 0, [], true⟩

/-- A version 1 frame on CAN 0 with command `c` in its first octet (R85). -/
def State.v1Row (s : State) (c : Nat) (f : Bytes) : State :=
  if byteAt 0 f / 16 ≠ c then s else s.portIn 6 fun s => s.canFrameIn 0 ⟨0, 0, 0, 0x7A0, 0, 0, f⟩ s.now

/-- A frame of the engine controller on the immobiliser's port and identifier (R252, R253). -/
def State.immoRow (s : State) (f : Bytes) : State :=
  let c := s.g 0x2421 0
  s.portIn (6 + c) fun s =>
    s.canFrameIn c ⟨if s.g 0x2422 0 = 1 then 1 else 0, 0, 0, s.g 0x2423 0, 0, 0, f⟩ s.now

/-- A dictionary frame in format `fmt` on CAN (R65, R68). -/
def State.canDictRow (s : State) (c fmt sdt id : Nat) (d : Bytes) : State :=
  s.portIn (6 + c) fun s => if s.canDictOn c id then s.canFrameIn c ⟨fmt, 0, sdt, id, 0, 0, d⟩ s.now else s

/-- A Zarique message of a type arrives on a carrier whose link stands (R156). -/
def State.zqRow (s : State) (typ : Nat) (car : Carrier) (m : Bytes) : State :=
  s.whenLive fun s => if s.linkUp car && byteAt 0 m = typ then s.zqTake car m else s

/-- A Zarique message that R157 or R158 drops. -/
def State.zqDropRow (s : State) (car : Carrier) (m : Bytes) : State :=
  s.whenLive fun s => if s.linkUp car && s.zqBad car m then s.zqTake car m else s

/-- The 10BASE-T1S port receives (R574, R643). -/
def State.t1sHears (s : State) : Bool := s.net.t1s ≠ 0 && s.live && s.gate.vio

/-- A good 10BASE-T1S frame for a unit of this part reaches that unit: it is counted as received (R575, R597). -/
def State.t1sRow (s : State) (f : State → State) : State :=
  s.portIn 8 fun s => if s.t1sHears then f (s.bump 0x4027 1) else s

/-- A segment or twin frame of a SUBTYPE, on 10BASE-T1S or, where `wl`, on the Wairil link, which carries HEARTBEAT and the twin messages
(R602, R604). -/
def State.segRow (s : State) (sub : Nat) (p : Bytes) (wl : Bool) (f : State → State) : State :=
  if byteAt 0 p ≠ sub then s
  else if wl then
    s.portIn 9 fun s => if s.live && s.net.wl = 2 && (sub = 0x20 || (0x28 ≤ sub && sub ≤ 0x2E)) then f s else s
  else s.t1sRow f

/-! ### Operations that end -/

/-- The 10BASE-T1S frame in front is sent at its transmit opportunity, `sfd` its stamp (R574, R576, R579, R591); in CSMA/CD it may collide
instead, is counted and stays. -/
def State.t1sTxDone (s : State) (sfd : Nat) (coll : Bool) : State :=
  match s.t1sHears, s.ethFront with
  | true, some f =>
    if coll then (if s.net.t1s = 1 then s.bump 0x4027 4 else s)
    else
      let s1 := ({ s with net.eth := eraseFirst f s.net.eth, net.ethSent := s.ethWire f }.bump 0x4027 2).txRecord f.who f.seq Rc.ok 0
        (s.domainAt sfd)
      if f.etype = 0x88F7 then s1.ptpSent f.payload (s.domainAt sfd) else s1
  | _, _ => s

/-- DevReset through a command of its own (R97, R649): it answers, and the reset follows 100 µs later. Where the answer has to leave on a
network, that time runs from its departure, and the reset is taken by the first command that finds it past. -/
def State.devResetRow (s : State) (who : Requester) (kind : Nat) : State :=
  if s.dict.resetDue.isSome then s
  else
    let s1 := s.ask who 3 0x1018 0 [BitVec.ofNat 8 kind]
    match s1.dict.resetDue with
    | some (cold, some d) => { s1 with now := max s1.now d }.resetTake cold (if cold then 5 else 4)
    | _ => s1

/-- The self-test that DevSelfTest started ends (R95): `fail` by the layout of DevUnitPresence, `sealBad` for the seal path. -/
def State.selfTestDone (s : State) (fail : Nat) (sealBad : Bool) : State :=
  match s.dict.selfTest with
  | none => s
  | some who =>
    let f0 := fail &&& presence s.fuse.variant
    let f := if sealBad then f0 ||| 0x400 else f0
    let s1 := { s with dict.selfTest := none }.put 0x1021 0 f
    let s2 := if f = 0 then s1 else s1.errBit 0 0x1000 0 0
    let s3 := if sealBad then s2.quench 3 else s2
    s3.answer who 0x1020 ⟨Rc.ok, 0, []⟩

/-- A calibration ends, and with it each RfcCalRun of which it was the last: the result has the layout of the argument, with the calibrations
that failed (R351). -/
def State.calDoneRow (s : State) (x : Xc) (vals : List Int) (metric : Int) : State :=
  let s1 := s.calDone x vals metric
  (s1.rfc.cmds.filter s1.calCmdDone).foldl
    (fun s c => s.answer c.who 0x3210 ⟨Rc.ok, 0, [BitVec.ofNat 8 (c.arg &&& 0x30 ||| (c.bad &&& 0xF))]⟩)
    { s1 with rfc.cmds := s1.rfc.cmds.filter fun c => !s1.calCmdDone c }

/-- An auxiliary request completes (R313, R314): its requester is answered, and an engine takes the UWB_AUX event (R534). -/
def State.auxDoneRow (s : State) (onAir : Nat) (rx : Option (Bytes × AirRx)) : State :=
  let r := s.auxDone onAir rx
  match r.1 with
  | some (who, a) => r.2.auxAnswer who a
  | none => r.2

/-- A tag write reaches step 5 (R433): a host command that waited is answered. -/
def State.tagWriteRow (s : State) : State :=
  let r := s.tagWriteDone
  match r.1 with
  | some who => r.2.answer who 0x3612 ⟨Rc.ok, 0, []⟩
  | none => r.2

/-- An image commit ends (R547, R549): the loader is answered. -/
def State.loadDoneRow (s : State) : State :=
  let r := s.loadDone
  match r.1 with
  | some who => r.2.answer who 0x5012 ⟨Rc.ok, 0, []⟩
  | none => r.2

/-- A transmission ends where it is cut (R345). -/
def State.txEnd (s : State) (x : Xc) : State := if (s.xc x).st = .tx then s.packetEnd x none else s

/-- A limiter cuts a transmitter at its ceiling (R261, R262), and what it was sending ends. -/
def State.limiterCut (s : State) (lim ch : Nat) : State :=
  if !s.atCeiling lim ch || !(s.gate.onTimes.any fun o => o.lim = lim && o.ch = ch && s.now < o.t1) then s
  else
    let s1 := s.limCut lim ch
    match lim with
    | 1 => s1.uwbCut.txEnd .uwb
    | 2 => (if s1.paUsed .uwb then s1.uwbCut.txEnd .uwb else s1).txEnd .ble
    | 3 => s1.lfEnd
    | _ => s1.nfcEnd ch

/-- A packet ends (R320); the connection event it belonged to is over. -/
def State.packetEndRow (s : State) (x : Xc) (planned : Option Bool) : State :=
  let s1 := s.packetEnd x planned
  match x with
  | .uwb => s1
  | .ble => if planned.isNone then { s1 with ble.event := none } else s1

/-- A UWB receive window closes without a good frame (R323): its slot stays empty. -/
def State.uwbWindowEnd (s : State) : State := if (s.xc .uwb).st = .rx then s.packetEnd .uwb none else s

/-- LfDiagRun as one command (R391, R407): asked for, then its 1 ms test carrier and the measurement; where it was asked for through a port,
the end of the one that runs. -/
def State.lfDiagRow (s : State) (who : Requester) (ch peak : Nat) (phase : Int) (short hot ovr : Bool) (vlf : Nat) : State :=
  let s1 := if s.lf.diag.isNone then s.ask who 3 0x330B 0 [BitVec.ofNat 8 ch] else s
  if s1.lf.diag.isNone then s1 else { s1 with now := s1.now + ms 1 }.lfDiagDone peak phase short hot ovr vlf

end Sys2Proof.Machine
end

