-- ==== Sys2Proof/Machine/CmdAccess.lean ====
section
/-! DEFINITION. The meanings of the commands of Zarique messages, access sessions, lock-outs and learning (04), one definition per command. -/
namespace Sys2Proof.Machine

/-- ENROL_CODE (R189): An ENROL_CODE message is decrypted and compared, and may open a learning window. -/
def execEnrolCode (t : Nat) (car : Carrier) (m : Bytes) (s : State) : Host.Outcome State Fault Refusal :=
  .next (s.run t fun s => s.zqRow 0x14 car m)

/-- ENROL_REQUEST (R190): An ENROL_REQUEST in an open learning window draws a token key and TID and starts delivery. -/
def execEnrolRequest (t : Nat) (car : Carrier) (m : Bytes) (s : State) : Host.Outcome State Fault Refusal :=
  .next (s.run t fun s => s.zqRow 0x15 car m)

/-- REVOKE_REQUEST (R195): A REVOKE_REQUEST following an accepted REVOKE_TOKEN empties the named token entry. -/
def execRevokeRequest (t : Nat) (car : Carrier) (m : Bytes) (s : State) : Host.Outcome State Fault Refusal :=
  .next (s.run t fun s => s.zqRow 0x16 car m)

/-- END (R154): An END message from the phone ends its token session. -/
def execEndMessage (t : Nat) (car : Carrier) (m : Bytes) (s : State) : Host.Outcome State Fault Refusal :=
  .next (s.run t fun s => s.zqRow 0x17 car m)

/-- ZARIQUE_DROP (R158): A Zarique message of bad type, direction, length, MAC or MCTR is dropped and counted. -/
def execZariqueDrop (t : Nat) (car : Carrier) (m : Bytes) (s : State) : Host.Outcome State Fault Refusal :=
  .next (s.run t fun s => s.zqDropRow car m)

/-- CHALLENGE (R166): The first CHALLENGE is sent at the first connection event after notification is enabled with a sufficient MTU and a DRBG
seed exists. -/
def execChallenge (t : Nat) (conn : Nat) (s : State) : Host.Outcome State Fault Refusal :=
  .next (s.run t fun s => s.whenLive fun s => s.bleChallenge conn)

/-- PROMPT (R167): A PROMPT carrying a new nonce is sent at the next connection event after a touch or a start trigger. -/
def execPrompt (t : Nat) (conn : Nat) (s : State) : Host.Outcome State Fault Refusal :=
  .next (s.run t fun s => s.whenLive fun s => s.blePrompt conn)

/-- RANGING_SETUP (R163): RANGING_SETUP is sent at the next connection event after the first accepted proof, and K_sts is loaded. -/
def execRangingSetup (t : Nat) (conn : Nat) (s : State) : Host.Outcome State Fault Refusal :=
  .next (s.run t fun s => s.whenLive fun s => s.bleRanging conn)

/-- KEY_DELIVERY_ACK (R193): The link layer receives the phone's acknowledgement of KEY_DELIVERY, and the new token entry becomes ACTIVE. -/
def execKeyDeliveryAck (t : Nat) (car : Carrier) (s : State) : Host.Outcome State Fault Refusal :=
  .next (s.run t fun s => s.whenLive fun s => s.keyDelivered car)

/-- CHALLENGE_EXPIRY (R160): A nonce expires after AccChallengeLife. -/
def execChallengeExpiry (t : Nat) (s : State) : Host.Outcome State Fault Refusal :=
  .next (s.run t State.nonceExpiry)

/-- DOOR_OPEN_EDGE (R175): A debounced door-open edge on DOOR_SW ends ENTRY and START sessions on the AON path. -/
def execDoorOpenEdge (t : Nat) (n : Nat) (level : Bool) (held : Nat) (s : State) : Host.Outcome State Fault Refusal :=
  .next (s.run t fun s => s.whenAon fun s => s.doorSwitch n level held)

/-- ENTRY_TIMEOUT (R176): An ENTRY session reaches AccEntryTimeout and ends. -/
def execEntryTimeout (t : Nat) (s : State) : Host.Outcome State Fault Refusal :=
  .next (s.run t State.entryTimeout)

/-- START_TIMEOUT (R176): A START session reaches AccStartTimeout and ends. -/
def execStartTimeout (t : Nat) (s : State) : Host.Outcome State Fault Refusal :=
  .next (s.run t State.startTimeout)

/-- IGN_IN_FALL (R179): IGN_IN falls and ends the drive latch. -/
def execIgnInFall (t : Nat) (s : State) : Host.Outcome State Fault Refusal :=
  .next (s.run t fun s => s.whenVaon fun s => s.ignEdge State.ignFall)

/-- IGN_IN_RISE (R178): IGN_IN rises and is taken as the engine controller's acknowledgement where AccStartAckSource allows. -/
def execIgnInRise (t : Nat) (s : State) : Host.Outcome State Fault Refusal :=
  .next (s.run t fun s => s.whenVaon fun s => s.ignEdge fun s => s.startAck 1)

/-- LOCKOUT_END (R181): A claimed-key, interface or enrolment-code lock-out expires. -/
def execLockoutEnd (t : Nat) (s : State) : Host.Outcome State Fault Refusal :=
  .next (s.run t fun s => s.whenVaon State.lockEnd)

/-- LOCKOUT_PERSIST (R185): A further 60 s of a lock-out have elapsed, and its remainder is persisted. -/
def execLockoutPersist (t : Nat) (s : State) : Host.Outcome State Fault Refusal :=
  .next (s.run t fun s => s.whenVaon State.lockStore)

/-- LEARN_WINDOW_EXPIRY (R194): A learning window closes 120 s after it opened. -/
def execLearnWindowExpiry (t : Nat) (s : State) : Host.Outcome State Fault Refusal :=
  .next (s.run t State.learnExpiry)

/-- ACC_LEARN_CANCEL (R194): AccLearnCancel closes the learning window. -/
def execAccLearnCancel (t : Nat) (r : Requester) (s : State) : Host.Outcome State Fault Refusal :=
  .next (s.run t fun s => s.ask r 3 0x220B 0 [])

/-- ACC_REVOKE_TOKEN (R195): AccRevokeToken empties a token entry and erases its key slot. -/
def execAccRevokeToken (t : Nat) (r : Requester) (tid : Nat) (s : State) : Host.Outcome State Fault Refusal :=
  .next (s.run t fun s => s.ask r 3 0x2210 0 (toLe 4 tid))

/-- ACC_LOCKOUT_CLEAR (R187): AccLockoutClear ends one lock-out and logs the clearing. -/
def execAccLockoutClear (t : Nat) (r : Requester) (arg : Bytes) (s : State) : Host.Outcome State Fault Refusal :=
  .next (s.run t fun s => s.ask r 3 0x2211 0 arg)

/-- ACC_ENROL_IMPORT (R192): AccEnrolImport binds an imported TOKEN slot to the HOST_IMPORT enrolment and returns the TID. -/
def execAccEnrolImport (t : Nat) (r : Requester) (arg : Bytes) (s : State) : Host.Outcome State Fault Refusal :=
  .next (s.run t fun s => s.ask r 3 0x220A 0 arg)

end Sys2Proof.Machine
end

