-- ==== Sys2Proof/Machine/CmdBackground.lean ====
section
/-! DEFINITION. The meanings of the commands of background services and the event log (18), one definition per command. -/
namespace Sys2Proof.Machine

/-- ANNEAL_TICK (R670): Anneal evaluates the calibration triggers every 1 s and at each wake. -/
def execAnnealTick (t : Nat) (temp : Int) (s : State) : Host.Outcome State Fault Refusal :=
  .next (s.run t fun s => s.whenLive fun s => s.anneal temp)

/-- BURNISH_STEP (R667): Burnish scrubs one eNVM word and handles correctable or uncorrectable errors. -/
def execBurnishStep (t : Nat) (err part word item : Nat) (s : State) : Host.Outcome State Fault Refusal :=
  .next (s.run t fun s => s.whenLive fun s => s.burnishStep err part word item)

/-- BURNISH_SLOT_WAKE (R667): Burnish lags 4,096 words with CORE down and a slot wake scrubs until the lag is 0. -/
def execBurnishSlotWake (t : Nat) (s : State) : Host.Outcome State Fault Refusal :=
  .next (s.run t State.burnishWake)

/-- LIMITER_SAMPLE (R672): The thermal and duty limiter samples power and temperature and raises its stage. -/
def execLimiterSample (t : Nat) (power : Nat) (temp : Option Int) (s : State) : Host.Outcome State Fault Refusal :=
  .next (s.run t fun s => s.limiterSample power temp)

/-- LIMITER_STAGE_FALL (R673): A stage condition has been absent for 1 s and the stage falls by one. -/
def execLimiterStageFall (t : Nat) (s : State) : Host.Outcome State Fault Refusal :=
  .next (s.run t State.stageFall)

/-- CAN_TELEMETRY (R674): BgCanPeriod expires and the telemetry frame is sent. -/
def execCanTelemetry (t : Nat) (s : State) : Host.Outcome State Fault Refusal :=
  .next (s.run t fun s => s.whenLive State.canTelemetry)

/-- LOG_HEAD_WRITE (R679): The log writer writes a buffered record into its head slot. -/
def execLogHeadWrite (t : Nat) (s : State) : Host.Outcome State Fault Refusal :=
  .next (s.run t fun s => s.whenLive State.headWrite)

/-- LOG_SECTOR_WRITE (R683): 64 records of a sector are in the head, and the sector is encrypted and written to the external memory. -/
def execLogSectorWrite (t : Nat) (first : Bool) (s : State) : Host.Outcome State Fault Refusal :=
  .next (s.run t fun s => s.whenLive fun s => s.sectorWrite first)

end Sys2Proof.Machine
end

