-- ==== Sys2Proof/Machine/CmdBle.lean ====
section
/-! DEFINITION. The meanings of the commands of Bluetooth LE (09), one definition per command. -/
namespace Sys2Proof.Machine

/-- ADVERTISING_EVENT (R361): An advertising event is sent, with a new address drawn if EPOCH has changed. -/
def execAdvertisingEvent (t : Nat) (onAir : Nat) (s : State) : Host.Outcome State Fault Refusal :=
  .next (s.run t fun s => s.whenLive fun s => s.advertise onAir)

/-- CONNECTION_OPEN (R356): A central connects; the connection is set up and a PHY update is started. -/
def execConnectionOpen (t : Nat) (interval latency timeout phy : Nat) (update : Bool) (s : State) : Host.Outcome State Fault Refusal :=
  .next (s.run t fun s => s.whenLive fun s => s.bleOpen interval latency timeout phy update)

/-- CONNECTION_CLOSE (R154): A BLE connection closes and its token session ends. -/
def execConnectionClose (t : Nat) (conn : Nat) (s : State) : Host.Outcome State Fault Refusal :=
  .next (s.run t fun s => s.whenLive fun s => s.bleClose conn)

/-- CONNECTION_EVENT (R369): A connection event is served or skipped, its packets are exchanged and an RSSI item is made. -/
def execConnectionEvent (t : Nat) (conn : Nat) (overlap : List Nat) (rssi : Option Int) (dwell : Int × Int) (onAir more : Nat) (s : State) : Host.Outcome State Fault Refusal :=
  .next (s.run t fun s => s.whenLive fun s => s.connEvent conn overlap rssi dwell onAir more)

/-- MTU_EXCHANGE (R366): An ATT MTU exchange sets the connection MTU. -/
def execMtuExchange (t : Nat) (conn mtu : Nat) (s : State) : Host.Outcome State Fault Refusal :=
  .next (s.run t fun s => s.whenLive fun s => s.mtuExchange conn mtu)

/-- CCCD_WRITE (R166): The phone enables or disables notification on a characteristic. -/
def execCccdWrite (t : Nat) (conn handle value : Nat) (s : State) : Host.Outcome State Fault Refusal :=
  .next (s.run t fun s => s.whenLive fun s => s.cccdWrite conn handle value)

/-- SMP_PAIRING_REQUEST (R355): An SMP Pairing or Security Request is answered with Pairing Not Supported. -/
def execSmpPairingRequest (t : Nat) (conn : Nat) (s : State) : Host.Outcome State Fault Refusal :=
  .next (s.run t fun s => s.whenLive fun s => s.smpRefuse conn)

/-- LL_ENC_REQ (R355): LL_ENC_REQ is rejected with Unsupported Remote Feature. -/
def execLlEncReq (t : Nat) (conn : Nat) (s : State) : Host.Outcome State Fault Refusal :=
  .next (s.run t fun s => s.whenLive fun s => s.encRefuse conn)

/-- PHY_UPDATE (R356): A PHY update requested by the phone is accepted. -/
def execPhyUpdate (t : Nat) (conn phy : Nat) (s : State) : Host.Outcome State Fault Refusal :=
  .next (s.run t fun s => s.whenLive fun s => s.phyUpdate conn phy)

/-- CONNECTION_PARAM_REQUEST (R356): The phone requests connection parameters within the accepted ranges. -/
def execConnectionParamRequest (t : Nat) (conn interval latency timeout : Nat) (s : State) : Host.Outcome State Fault Refusal :=
  .next (s.run t fun s => s.whenLive fun s => s.paramRequest conn interval latency timeout)

/-- NO_SESSION_LIMIT (R363): A connection without a token session reaches BleNoSessionLimit and is terminated. -/
def execNoSessionLimit (t : Nat) (conn : Nat) (s : State) : Host.Outcome State Fault Refusal :=
  .next (s.run t fun s => s.whenLive fun s => s.noSessionLimit conn)

/-- BOOST_EXPIRY (R362): BleBoostTime expires and advertising returns to BleAdvProfile. -/
def execBoostExpiry (t : Nat) (s : State) : Host.Outcome State Fault Refusal :=
  .next (s.run t State.boostEnd)

/-- BLE_ENG_PUBLISH (R372): BleEngPublish checks the engine characteristics, rebuilds the Engine service and sends Service Changed. -/
def execBleEngPublish (t : Nat) (r : Requester) (arg : Bytes) (s : State) : Host.Outcome State Fault Refusal :=
  .next (s.run t fun s => s.ask r 3 0x3160 0 arg)

/-- BLE_ENG_NOTIFY (R375): BleEngNotify queues a notification of a characteristic to the named connections. -/
def execBleEngNotify (t : Nat) (r : Requester) (arg : Bytes) (s : State) : Host.Outcome State Fault Refusal :=
  .next (s.run t fun s => s.ask r 3 0x3161 0 arg)

/-- BLE_ENG_RELEASE (R371): BleEngRelease frees an owned characteristic. -/
def execBleEngRelease (t : Nat) (r : Requester) (arg : Bytes) (s : State) : Host.Outcome State Fault Refusal :=
  .next (s.run t fun s => s.ask r 3 0x3162 0 arg)

/-- BLE_ENG_RX (R374): BleEngRx takes the oldest phone write from a characteristic's queue. -/
def execBleEngRx (t : Nat) (r : Requester) (arg : Bytes) (s : State) : Host.Outcome State Fault Refusal :=
  .next (s.run t fun s => s.ask r 3 0x3163 0 arg)

/-- ENGINE_CHAR_WRITE (R374): A phone writes an engine characteristic; the write is queued and raises BLE_RX. -/
def execEngineCharWrite (t : Nat) (conn handle : Nat) (kind : AttWrite) (d : Bytes) (s : State) : Host.Outcome State Fault Refusal :=
  .next (s.run t fun s => s.whenLive fun s => s.attWrite conn handle kind d)

/-- ATT_READ (R374): A phone ATT read is answered with the value, or with Read Not Permitted for Access. -/
def execAttRead (t : Nat) (conn handle : Nat) (s : State) : Host.Outcome State Fault Refusal :=
  .next (s.run t fun s => s.whenLive fun s => s.attRead conn handle)

/-- INDICATION_CONFIRM (R375): A phone confirms an indication and frees its queue place. -/
def execIndicationConfirm (t : Nat) (conn : Nat) (s : State) : Host.Outcome State Fault Refusal :=
  .next (s.run t fun s => s.whenLive fun s => s.indConfirm conn)

end Sys2Proof.Machine
end

