-- ==== Sys2Proof/Machine/CmdCapLf.lean ====
section
/-! DEFINITION. The meanings of the commands of the capacitive scanner and the LF channels (10), one definition per command. -/
namespace Sys2Proof.Machine

/-- CAP_SCAN (R379): A scan period measures each enabled channel, tracks baselines and detects crossings, releases and gangs. -/
def execCapScan (t : Nat) (cs : List Nat) (s : State) : Host.Outcome State Fault Refusal :=
  .next (s.run t fun s => s.capStep fun s => s.capScan cs)

/-- CAP_CONFIRM_MEASURE (R381): A confirming measurement, 1 ms after the previous one, completes debounce of a crossing. -/
def execCapConfirmMeasure (t : Nat) (n c : Nat) (s : State) : Host.Outcome State Fault Refusal :=
  .next (s.run t fun s => s.capStep fun s => s.capConfirm n c)

/-- CAP_STUCK (R384): A channel touched for CapStuckTime is rebaselined and released without an event. -/
def execCapStuck (t : Nat) (n : Nat) (s : State) : Host.Outcome State Fault Refusal :=
  .next (s.run t fun s => s.whenAon fun s => s.capStuck n)

/-- TOUCH_HANDOFF (R385): A held touch is handed to the access state machines once the DRBG is seeded, and is served as R170 states. -/
def execTouchHandoff (t : Nat) (n : Nat) (s : State) : Host.Outcome State Fault Refusal :=
  .next (s.run t fun s => s.whenLive fun s => s.touchHandoff n)

/-- LF_EXCHANGE_START (R389): An LF exchange starts once limiter 3 leaves room for its planned on-time, and its downlink is driven. -/
def execLfExchangeStart (t : Nat) (vlf : Nat) (s : State) : Host.Outcome State Fault Refusal :=
  .next (s.run t fun s => s.whenLive fun s => s.lfStart vlf)

/-- LF_DRIVE_MEASURE (R390): After 500 µs of carrier the coil current and phase are recorded and faults are latched, aborting the exchange. -/
def execLfDriveMeasure (t : Nat) (peak : Nat) (phase : Int) (short hot : Bool) (s : State) : Host.Outcome State Fault Refusal :=
  .next (s.run t fun s => s.whenLive fun s => s.lfMeasure peak phase short hot)

/-- LF_OVERCURRENT_CUT (R387): The coil current reaches 1.5 A and the bridge turns off. -/
def execLfOvercurrentCut (t : Nat) (s : State) : Host.Outcome State Fault Refusal :=
  .next (s.run t State.lfOver15)

/-- LF_CARRIER_RETURN (R395): 500 µs after the last downlink bit the carrier returns for the reply. -/
def execLfCarrierReturn (t : Nat) (s : State) : Host.Outcome State Fault Refusal :=
  .next (s.run t fun s => s.whenLive State.lfReturn)

/-- SEG1 (R399): A Dunonaud SEG1 with TID and counter is received, and the lock-out checks run. -/
def execSeg1 (t : Nat) (halves : Halves) (s : State) : Host.Outcome State Fault Refusal :=
  .next (s.run t fun s => s.whenLive fun s => s.lfSeg1 halves)

/-- LF_NO_SYNC (R398): No SYNC arrives by the end of its cells; a legacy reply is awaited or the exchange ends. -/
def execLfNoSync (t : Nat) (s : State) : Host.Outcome State Fault Refusal :=
  .next (s.run t fun s => s.whenLive State.lfNoSync)

/-- SEG2 (R399): A SEG2 proof completes a Dunonaud reply, which is judged and makes an LF item if accepted. -/
def execSeg2 (t : Nat) (halves : Halves) (snr : Nat) (s : State) : Host.Outcome State Fault Refusal :=
  .next (s.run t fun s => s.whenLive fun s => s.lfSeg2 halves snr)

/-- REPLY (R399): A legacy REPLY is received and judged. -/
def execReply (t : Nat) (halves : Halves) (snr : Nat) (s : State) : Host.Outcome State Fault Refusal :=
  .next (s.run t fun s => s.whenLive fun s => s.lfReplyIn halves snr)

/-- UID (R402): A transponder's UID reply to UID_READ is received for an AT_COIL transfer. -/
def execUid (t : Nat) (halves : Halves) (s : State) : Host.Outcome State Fault Refusal :=
  .next (s.run t fun s => s.whenLive fun s => s.lfUid halves)

/-- CONFIRM (R403): A transponder's CONFIRM after KEY_LOAD is received and checked, completing the enrolment. -/
def execConfirm (t : Nat) (halves : Halves) (s : State) : Host.Outcome State Fault Refusal :=
  .next (s.run t fun s => s.whenLive fun s => s.lfConfirm halves)

/-- LF_DIAG_RUN (R391): LfDiagRun drives a 1 ms test carrier and clears faults if it passes. -/
def execLfDiagRun (t : Nat) (r : Requester) (ch peak : Nat) (phase : Int) (short hot ovr : Bool) (vlf : Nat) (s : State) : Host.Outcome State Fault Refusal :=
  .next (s.run t fun s => s.lfDiagRow r ch peak phase short hot ovr vlf)

/-- VLF_RECOVER (R391): VLF returns above 6.0 V and clears VLF_LOW. -/
def execVlfRecover (t : Nat) (vlf : Nat) (s : State) : Host.Outcome State Fault Refusal :=
  .next (s.run t fun s => s.vlfBack vlf)

end Sys2Proof.Machine
end

