-- ==== Sys2Proof/Machine/CmdCrypto.lean ====
section
/-! DEFINITION. The meanings of the commands of the cipher complex, the key store and the entropy unit (12, 13), one definition per command. -/
namespace Sys2Proof.Machine

/-- CX_SUBMIT (R459): CxSubmit checks a descriptor and queues the request on the caller's page. -/
def execCxSubmit (t : Nat) (r : Requester) (d : Bytes) (s : State) : Host.Outcome State Fault Refusal :=
  .next (s.run t fun s => s.ask r 3 0x1410 0 d)

/-- CX_TAKE_RESULT (R460): CxTakeResult returns and removes the page's oldest status record. -/
def execCxTakeResult (t : Nat) (r : Requester) (s : State) : Host.Outcome State Fault Refusal :=
  .next (s.run t fun s => s.ask r 3 0x1411 0 [])

/-- CX_BLOCK_DONE (R445): A core finishes an AES block and chooses its next block at the boundary. -/
def execCxBlockDone (t : Nat) (core : Nat) (s : State) : Host.Outcome State Fault Refusal :=
  .next (s.run t fun s => s.whenLive fun s => s.cxBlockDone core)

/-- CX_REQUEST_DONE (R460): A cipher request completes: the verdict is applied, held data is released or scrubbed, and the status record is
stored. -/
def execCxRequestDone (t : Nat) (page : Nat) (s : State) : Host.Outcome State Fault Refusal :=
  .next (s.run t fun s => s.whenLive fun s => s.cxRequestDone page)

/-- KEY_IMPORT (R496): KeyImport unwraps a key blob into a slot. -/
def execKeyImport (t : Nat) (r : Requester) (arg : Bytes) (s : State) : Host.Outcome State Fault Refusal :=
  .next (s.run t fun s => s.ask r 3 0x1520 0 arg)

/-- KEY_GENERATE (R497): KeyGenerate fills a slot from the DRBG. -/
def execKeyGenerate (t : Nat) (r : Requester) (arg : Bytes) (s : State) : Host.Outcome State Fault Refusal :=
  .next (s.run t fun s => s.ask r 3 0x1521 0 arg)

/-- KEY_DERIVE (R498): KeyDerive derives a key into a slot by the SP 800-108 KDF. -/
def execKeyDerive (t : Nat) (r : Requester) (arg : Bytes) (s : State) : Host.Outcome State Fault Refusal :=
  .next (s.run t fun s => s.ask r 3 0x1522 0 arg)

/-- KEY_EXPORT (R499): KeyExport returns an exportable slot as a wrapped blob. -/
def execKeyExport (t : Nat) (r : Requester) (arg : Bytes) (s : State) : Host.Outcome State Fault Refusal :=
  .next (s.run t fun s => s.ask r 3 0x1523 0 arg)

/-- KEY_ERASE (R490): KeyErase marks a slot ERASING. -/
def execKeyErase (t : Nat) (r : Requester) (arg : Bytes) (s : State) : Host.Outcome State Fault Refusal :=
  .next (s.run t fun s => s.ask r 3 0x1524 0 arg)

/-- KEY_ZEROIZE (R491): KeyZeroize urgently zeroizes one slot on the AON path. -/
def execKeyZeroize (t : Nat) (r : Requester) (arg : Bytes) (s : State) : Host.Outcome State Fault Refusal :=
  .next (s.run t fun s => s.ask r 3 0x1525 0 arg)

/-- KEY_ZEROIZE_ALL (R493): KeyZeroizeAll zeroizes slots 1 to 127, empties the token table, disables authorities and ends sessions. -/
def execKeyZeroizeAll (t : Nat) (r : Requester) (arg : Bytes) (s : State) : Host.Outcome State Fault Refusal :=
  .next (s.run t fun s => s.ask r 3 0x1526 0 arg)

/-- ZEROIZE_OVERWRITE_DONE (R491): The zeroize sequencer finishes overwriting a slot's eNVM bodies. -/
def execZeroizeOverwriteDone (t : Nat) (slot : Nat) (s : State) : Host.Outcome State Fault Refusal :=
  .next (s.run t fun s => s.zeroDone slot)

/-- KEY_MIRROR (R501): A KEY_MIRROR message at the standby stores the mirrored slot change and acknowledges it. -/
def execKeyMirror (t : Nat) (p : Bytes) (wl : Bool) (s : State) : Host.Outcome State Fault Refusal :=
  .next (s.run t fun s => if s.seg.role = .manager then s else s.segRow 0x2B p wl fun s => s.keyMirrorIn p)

/-- KEY_MIRROR_ACK (R501): The standby's acknowledgement completes a mirrored key change. -/
def execKeyMirrorAck (t : Nat) (p : Bytes) (wl : Bool) (s : State) : Host.Outcome State Fault Refusal :=
  .next (s.run t fun s => if s.seg.role = .manager then s.segRow 0x2B p wl fun s => s.keyMirrorIn p else s)

/-- KEY_MIRROR_TIMEOUT (R502): No acknowledgement arrives within 5 ms; the change completes locally with MIRROR_PENDING. -/
def execKeyMirrorTimeout (t : Nat) (s : State) : Host.Outcome State Fault Refusal :=
  .next (s.run t fun s => s.whenLive State.mirrorTimeout)

/-- SOURCE_SETTLED (R506): An entropy source finishes settling and begins its start-up test. -/
def execSourceSettled (t : Nat) (src : Nat) (s : State) : Host.Outcome State Fault Refusal :=
  .next (s.run t fun s => s.whenLive fun s => s.settled src)

/-- ASSAY_BLOCK (R505): A 1,024-sample block is judged; a pass feeds the conditioner, and a failure restarts the source or latches FAILED. -/
def execAssayBlock (t : Nat) (src : Nat) (blk : Bytes) (s : State) : Host.Outcome State Fault Refusal :=
  .next (s.run t fun s => s.whenLive fun s => s.assayBlock src blk)

/-- SOURCE_RESTART_DONE (R507): A source restart completes and its start-up test runs again. -/
def execSourceRestartDone (t : Nat) (src : Nat) (s : State) : Host.Outcome State Fault Refusal :=
  .next (s.run t fun s => s.whenLive fun s => s.restarted src)

/-- DRBG_RESEED (R513): The DRBG reseeds from three pool outputs once RngReseedMin has passed. -/
def execDrbgReseed (t : Nat) (s : State) : Host.Outcome State Fault Refusal :=
  .next (s.run t fun s => s.whenLive State.reseedNow)

/-- RESEED_LIMIT (R513): 1 s or 2^20 requests pass without a reseed, and the DRBG enters RESEED_WAIT. -/
def execReseedLimit (t : Nat) (s : State) : Host.Outcome State Fault Refusal :=
  .next (s.run t fun s => s.whenLive State.reseedLimit)

/-- DRBG_GENERATE (R514): A waiting generate request is served by class, including the mask reseeds of the cores. -/
def execDrbgGenerate (t : Nat) (s : State) : Host.Outcome State Fault Refusal :=
  .next (s.run t fun s => s.whenLive State.serveGen)

/-- RNG_RANDOM (R515): A read of RngRandom draws 32 bytes from the DRBG. -/
def execRngRandom (t : Nat) (r : Requester) (s : State) : Host.Outcome State Fault Refusal :=
  .next (s.run t fun s => s.ask r 1 0x1320 0 [])

end Sys2Proof.Machine
end

