-- ==== Sys2Proof/Machine/CmdDict.lean ====
section
/-! DEFINITION. The meanings of the commands of the dictionary and its transports (02_object_dictionary.md), one definition per command. -/
namespace Sys2Proof.Machine

/-- SPI_STATUS (R53): Host SPI STATUS command byte: the part returns the status byte and nothing more. -/
def execSpiStatus (t : Nat) (s : State) : Host.Outcome State Fault Refusal :=
  .next (s.run t State.spiStatusCmd)

/-- SPI_WRITE_REQ (R55): Host SPI WRITE_REQ transaction ends with HS_CS_N rising: the request PDU is taken, or answered with TYPE LENGTH if it
is incomplete or too long. -/
def execSpiWriteReq (t : Nat) (pdu : Bytes) (s : State) : Host.Outcome State Fault Refusal :=
  .next (s.run t fun s => s.spiWrite pdu)

/-- SPI_READ_RSP (R57): Host SPI READ_RSP clocks out the pending response, which is consumed only if the host clocks it out whole. -/
def execSpiReadRsp (t : Nat) (n : Nat) (s : State) : Host.Outcome State Fault Refusal :=
  .next (s.run t fun s => s.spiReadRsp n)

/-- SPI_READ_NTF (R57): Host SPI READ_NTF clocks out the oldest queued notification, which is consumed only if the host clocks it out whole. -/
def execSpiReadNtf (t : Nat) (n : Nat) (s : State) : Host.Outcome State Fault Refusal :=
  .next (s.run t fun s => s.spiReadNtf n)

/-- SPI_UNDEFINED_COMMAND (R53): An undefined SPI command byte sets CMD_ERR, and the rest of the transaction returns 0x00 and is ignored. -/
def execSpiUndefinedCommand (t : Nat) (cmd n : Nat) (s : State) : Host.Outcome State Fault Refusal :=
  .next (s.run t fun s => s.spiUndefined cmd n)

/-- DICT_RESPONSE_READY (R56): A dictionary access completes: its response is queued, RSP_READY is set and HS_IRQ_N falls. -/
def execDictResponseReady (t : Nat) (s : State) : Host.Outcome State Fault Refusal :=
  .next (s.run t State.spiServe)

/-- WRITE (R38): Dictionary WRITE to an object that has no row of its own, checked in the order of R38 and applied as its Effect states. -/
def execWrite (t : Nat) (r : Requester) (idx sub : Nat) (data : Bytes) (s : State) : Host.Outcome State Fault Refusal :=
  .next (s.run t fun s => s.ask r 2 idx sub data)

/-- PENDING_VALUE_APPLY (R39): A pending NEXT value takes hold at the boundary its object names. -/
def execPendingValueApply (t : Nat) (idx sub : Nat) (s : State) : Host.Outcome State Fault Refusal :=
  .next (s.run t fun s => s.whenLive fun s => s.pendApply idx sub)

/-- SUBSCRIBE (R81): SUBSCRIBE operation: a subscription is created or replaced, subject to the subscription limits. -/
def execSubscribe (t : Nat) (r : Requester) (idx sub mode period gap : Nat) (s : State) : Host.Outcome State Fault Refusal :=
  .next (s.run t fun s => s.ask r 5 idx sub (BitVec.ofNat 8 mode :: toLe 2 period ++ toLe 2 gap))

/-- UNSUBSCRIBE (R50): UNSUBSCRIBE operation removes the requester's subscription to the object. -/
def execUnsubscribe (t : Nat) (r : Requester) (idx sub : Nat) (s : State) : Host.Outcome State Fault Refusal :=
  .next (s.run t fun s => s.ask r 6 idx sub [])

/-- NOTIFY_PERIODIC (R81): The PERIOD of a periodic subscription expires and a NOTIFY is queued. -/
def execNotifyPeriodic (t : Nat) (r : Requester) (idx sub : Nat) (s : State) : Host.Outcome State Fault Refusal :=
  .next (s.run t fun s => s.whenLive fun s => s.periodic r idx sub)

/-- LOGIN_HELLO (R69): LOGIN_HELLO: a session ID is allocated and a device nonce is returned, or the login is refused. -/
def execLoginHello (t : Nat) (via : Transport) (seq : Nat) (d : Bytes) (s : State) : Host.Outcome State Fault Refusal :=
  .next (s.run t fun s => s.loginRow via 0x10 seq d)

/-- LOGIN_PROOF (R69): LOGIN_PROOF: the requester proof is checked and, if it is good, the session opens with the device proof. -/
def execLoginProof (t : Nat) (via : Transport) (seq : Nat) (d : Bytes) (s : State) : Host.Outcome State Fault Refusal :=
  .next (s.run t fun s => s.loginRow via 0x11 seq d)

/-- LOGOUT (R76): LOGOUT ends the network session and its subscriptions. -/
def execLogout (t : Nat) (sid seq : Nat) (s : State) : Host.Outcome State Fault Refusal :=
  .next (s.run t fun s => s.logoutRow sid seq)

/-- LOGIN_PROOF_TIMEOUT (R71): No LOGIN_PROOF has arrived 1 s after the LOGIN_HELLO answer, and the session is freed. -/
def execLoginProofTimeout (t : Nat) (sid : Nat) (s : State) : Host.Outcome State Fault Refusal :=
  .next (s.run t fun s => s.loginTimeout sid)

/-- SESSION_IDLE_TIMEOUT (R76): A network session has carried no valid request for DevNetIdleTimeout and ends. -/
def execSessionIdleTimeout (t : Nat) (sid : Nat) (s : State) : Host.Outcome State Fault Refusal :=
  .next (s.run t fun s => s.netIdle sid)

/-- REQUESTER_LOCKOUT_END (R73): The 5 min lock-out of a requester ID expires. -/
def execRequesterLockoutEnd (t : Nat) (rid : Nat) (s : State) : Host.Outcome State Fault Refusal :=
  .next (s.run t fun s => s.guardEnd rid)

/-- DICT_FRAME_T1S (R63): A Kamzel dictionary frame arrives on 10BASE-T1S and is authenticated and served, or dropped. -/
def execDictFrameT1s (t : Nat) (da sa payload : Bytes) (s : State) : Host.Outcome State Fault Refusal :=
  .next (s.run t fun s => s.portIn 8 fun s => if byteAt 0 payload = 0x10 then s.t1sFrameIn da sa 0x88B5 payload true s.now else s)

/-- CAN_FD_SEGMENT (R65): A CAN FD dictionary segment is received and reassembled; the message is served when the LAST segment arrives. -/
def execCanFdSegment (t : Nat) (c id : Nat) (d : Bytes) (s : State) : Host.Outcome State Fault Refusal :=
  .next (s.run t fun s => s.canDictRow c 1 0 id d)

/-- CAN_FD_SEGMENT_TIMEOUT (R67): More than 50 ms pass between segments, and the partly received message is discarded. -/
def execCanFdSegmentTimeout (t : Nat) (c : Nat) (s : State) : Host.Outcome State Fault Refusal :=
  .next (s.run t fun s => s.whenLive fun s => s.fdTimeout c)

/-- CAN_XL_DICT_FRAME (R68): A CAN XL frame with SDT 0x00 carrying a whole dictionary network message is received. -/
def execCanXlDictFrame (t : Nat) (c id sdt : Nat) (d : Bytes) (s : State) : Host.Outcome State Fault Refusal :=
  .next (s.run t fun s => s.canDictRow c 3 sdt id d)

/-- WAIRIL_FRAME (R78): A Wairil frame is received and decoded and routed by its TYPE. -/
def execWairilFrame (t : Nat) (raw : Bytes) (fills : Nat) (s : State) : Host.Outcome State Fault Refusal :=
  .next (s.run t fun s => s.portIn 9 fun s => (s.wlFills fills).wairilIn raw)

/-- V1_READ (R86): A version 1 READ frame is answered with RESPONSE, RESPONSE_UNVETTED or ERROR. -/
def execV1Read (t : Nat) (f : Bytes) (s : State) : Host.Outcome State Fault Refusal :=
  .next (s.run t fun s => s.v1Row 1 f)

/-- V1_WRITE (R86): A version 1 WRITE frame is accepted only on a w object within 30 s of an unlock; otherwise it is refused with V1_LOCKED. -/
def execV1Write (t : Nat) (f : Bytes) (s : State) : Host.Outcome State Fault Refusal :=
  .next (s.run t fun s => s.v1Row 2 f)

/-- UNLOCK_REQ (R85): Version 1 UNLOCK_REQ is answered with a 4-byte challenge, unless it is locked out. -/
def execUnlockReq (t : Nat) (f : Bytes) (s : State) : Host.Outcome State Fault Refusal :=
  .next (s.run t fun s => s.v1Row 6 f)

/-- UNLOCK_PROOF (R87): Version 1 UNLOCK_PROOF is checked; a correct proof unlocks writes, and a wrong proof ends the unlock and counts
towards the lock-out. -/
def execUnlockProof (t : Nat) (f : Bytes) (s : State) : Host.Outcome State Fault Refusal :=
  .next (s.run t fun s => s.v1Row 7 f)

/-- V1_UNLOCK_EXPIRY (R86): 30 s after a correct UNLOCK_PROOF, version 1 writes are locked again. -/
def execV1UnlockExpiry (t : Nat) (s : State) : Host.Outcome State Fault Refusal :=
  .next (s.run t State.v1Expiry)

/-- V1_LOCKOUT_END (R87): The 5 min version 1 UNLOCK_REQ lock-out expires. -/
def execV1LockoutEnd (t : Nat) (s : State) : Host.Outcome State Fault Refusal :=
  .next (s.run t State.v1LockEnd)

/-- DEV_COMMIT (R42): DevCommit takes an atomic snapshot of the P objects and starts writing the non-current bank. -/
def execDevCommit (t : Nat) (r : Requester) (s : State) : Host.Outcome State Fault Refusal :=
  .next (s.run t fun s => s.ask r 3 0x1010 0 [])

/-- DEV_COMMIT_DONE (R42): The bank write is verified: the banks switch and DevCommitCount rises, or the commit ends with COMMIT_FAIL. -/
def execDevCommitDone (t : Nat) (ok : Bool) (s : State) : Host.Outcome State Fault Refusal :=
  .next (s.run t fun s => s.whenLive fun s => s.devCommitDone ok)

/-- DEV_RESTORE_DEFAULTS (R96): DevRestoreDefaults sets the working value of every dictionary P object to its default. -/
def execDevRestoreDefaults (t : Nat) (r : Requester) (s : State) : Host.Outcome State Fault Refusal :=
  .next (s.run t fun s => s.ask r 3 0x1013 0 [])

/-- DEV_SELF_TEST (R95): DevSelfTest starts the built-in self-test and blocks seals while it runs. -/
def execDevSelfTest (t : Nat) (r : Requester) (s : State) : Host.Outcome State Fault Refusal :=
  .next (s.run t fun s => s.ask r 3 0x1020 0 [])

/-- DEV_SELF_TEST_DONE (R95): The self-test finishes, DevSelfTestResult is written and the command completes with OK. -/
def execDevSelfTestDone (t : Nat) (fail : Nat) (sealBad : Bool) (s : State) : Host.Outcome State Fault Refusal :=
  .next (s.run t fun s => s.whenLive fun s => s.selfTestDone fail sealBad)

/-- NOTIFY_GAP_EXPIRY (R81): The GAP of an on-change subscription runs out, and the change held back during the gap is queued as a NOTIFY. -/
def execNotifyGapExpiry (t : Nat) (r : Requester) (idx sub : Nat) (s : State) : Host.Outcome State Fault Refusal :=
  .next (s.run t fun s => s.whenLive fun s => s.gapExpiry r idx sub)

end Sys2Proof.Machine
end

