-- ==== Sys2Proof/Machine/CmdEngine.lean ====
section
/-! DEFINITION. The meanings of the commands of the engines and the debug port (14), one definition per command. -/
namespace Sys2Proof.Machine

/-- ADD (R529): Engine instruction ADD. -/
def execAdd (t : Nat) (e : Nat) (s : State) : Host.Outcome State Fault Refusal :=
  .next (s.engRun t e fun s => s.engStep e 0x01 opAdd)

/-- SUB (R529): Engine instruction SUB. -/
def execSub (t : Nat) (e : Nat) (s : State) : Host.Outcome State Fault Refusal :=
  .next (s.engRun t e fun s => s.engStep e 0x02 opSub)

/-- AND (R529): Engine instruction AND. -/
def execAnd (t : Nat) (e : Nat) (s : State) : Host.Outcome State Fault Refusal :=
  .next (s.engRun t e fun s => s.engStep e 0x03 opAnd)

/-- OR (R529): Engine instruction OR. -/
def execOr (t : Nat) (e : Nat) (s : State) : Host.Outcome State Fault Refusal :=
  .next (s.engRun t e fun s => s.engStep e 0x04 opOr)

/-- XOR (R529): Engine instruction XOR. -/
def execXor (t : Nat) (e : Nat) (s : State) : Host.Outcome State Fault Refusal :=
  .next (s.engRun t e fun s => s.engStep e 0x05 opXor)

/-- SHL (R529): Engine instruction SHL, logical left shift by register. -/
def execShl (t : Nat) (e : Nat) (s : State) : Host.Outcome State Fault Refusal :=
  .next (s.engRun t e fun s => s.engStep e 0x06 opShl)

/-- SHR (R529): Engine instruction SHR, logical right shift by register. -/
def execShr (t : Nat) (e : Nat) (s : State) : Host.Outcome State Fault Refusal :=
  .next (s.engRun t e fun s => s.engStep e 0x07 opShr)

/-- SAR (R529): Engine instruction SAR, arithmetic right shift by register. -/
def execSar (t : Nat) (e : Nat) (s : State) : Host.Outcome State Fault Refusal :=
  .next (s.engRun t e fun s => s.engStep e 0x08 opSar)

/-- ADDI (R529): Engine instruction ADDI. -/
def execAddi (t : Nat) (e : Nat) (s : State) : Host.Outcome State Fault Refusal :=
  .next (s.engRun t e fun s => s.engStep e 0x09 opAddi)

/-- ANDI (R529): Engine instruction ANDI. -/
def execAndi (t : Nat) (e : Nat) (s : State) : Host.Outcome State Fault Refusal :=
  .next (s.engRun t e fun s => s.engStep e 0x0A opAndi)

/-- ORI (R529): Engine instruction ORI. -/
def execOri (t : Nat) (e : Nat) (s : State) : Host.Outcome State Fault Refusal :=
  .next (s.engRun t e fun s => s.engStep e 0x0B opOri)

/-- XORI (R529): Engine instruction XORI. -/
def execXori (t : Nat) (e : Nat) (s : State) : Host.Outcome State Fault Refusal :=
  .next (s.engRun t e fun s => s.engStep e 0x0C opXori)

/-- SHLI (R529): Engine instruction SHLI. -/
def execShli (t : Nat) (e : Nat) (s : State) : Host.Outcome State Fault Refusal :=
  .next (s.engRun t e fun s => s.engStep e 0x0D opShli)

/-- SHRI (R529): Engine instruction SHRI. -/
def execShri (t : Nat) (e : Nat) (s : State) : Host.Outcome State Fault Refusal :=
  .next (s.engRun t e fun s => s.engStep e 0x0E opShri)

/-- SARI (R529): Engine instruction SARI. -/
def execSari (t : Nat) (e : Nat) (s : State) : Host.Outcome State Fault Refusal :=
  .next (s.engRun t e fun s => s.engStep e 0x0F opSari)

/-- LDI (R529): Engine instruction LDI. -/
def execLdi (t : Nat) (e : Nat) (s : State) : Host.Outcome State Fault Refusal :=
  .next (s.engRun t e fun s => s.engStep e 0x10 opLdi)

/-- LUI (R529): Engine instruction LUI. -/
def execLui (t : Nat) (e : Nat) (s : State) : Host.Outcome State Fault Refusal :=
  .next (s.engRun t e fun s => s.engStep e 0x11 opLui)

/-- MUL (R530): Engine instruction MUL issues an unsigned product. -/
def execMul (t : Nat) (e : Nat) (s : State) : Host.Outcome State Fault Refusal :=
  .next (s.engRun t e fun s => s.engStep e 0x12 opMulU)

/-- MULS (R530): Engine instruction MULS issues a signed product. -/
def execMuls (t : Nat) (e : Nat) (s : State) : Host.Outcome State Fault Refusal :=
  .next (s.engRun t e fun s => s.engStep e 0x13 opMulS)

/-- MUL_RESULT (R530): A multiplier result reaches MLO and MHI 3 cycles after issue. -/
def execMulResult (t : Nat) (e : Nat) (s : State) : Host.Outcome State Fault Refusal :=
  .next (s.run t fun s => s.whenLive fun s => s.mulResult e)

/-- MOV (R529): Engine instruction MOV. -/
def execMov (t : Nat) (e : Nat) (s : State) : Host.Outcome State Fault Refusal :=
  .next (s.engRun t e fun s => s.engStep e 0x14 opMov)

/-- CLZ (R529): Engine instruction CLZ. -/
def execClz (t : Nat) (e : Nat) (s : State) : Host.Outcome State Fault Refusal :=
  .next (s.engRun t e fun s => s.engStep e 0x15 opClz)

/-- BSWAP (R529): Engine instruction BSWAP. -/
def execBswap (t : Nat) (e : Nat) (s : State) : Host.Outcome State Fault Refusal :=
  .next (s.engRun t e fun s => s.engStep e 0x16 opBswap)

/-- CMP (R529): Engine instruction CMP sets a predicate. -/
def execCmp (t : Nat) (e : Nat) (s : State) : Host.Outcome State Fault Refusal :=
  .next (s.engRun t e fun s => s.engStep e 0x18 opCmp)

/-- CMPI (R529): Engine instruction CMPI sets a predicate against an immediate. -/
def execCmpi (t : Nat) (e : Nat) (s : State) : Host.Outcome State Fault Refusal :=
  .next (s.engRun t e fun s => s.engStep e 0x19 opCmpi)

/-- PLOG (R529): Engine instruction PLOG combines predicates. -/
def execPlog (t : Nat) (e : Nat) (s : State) : Host.Outcome State Fault Refusal :=
  .next (s.engRun t e fun s => s.engStep e 0x1A opPlog)

/-- LDW (R525): Engine instruction LDW loads a word. -/
def execLdw (t : Nat) (e : Nat) (s : State) : Host.Outcome State Fault Refusal :=
  .next (s.engRun t e fun s => s.engStep e 0x20 opLdw)

/-- LDH (R525): Engine instruction LDH loads a halfword. -/
def execLdh (t : Nat) (e : Nat) (s : State) : Host.Outcome State Fault Refusal :=
  .next (s.engRun t e fun s => s.engStep e 0x21 opLdh)

/-- LDB (R525): Engine instruction LDB loads a byte. -/
def execLdb (t : Nat) (e : Nat) (s : State) : Host.Outcome State Fault Refusal :=
  .next (s.engRun t e fun s => s.engStep e 0x22 opLdb)

/-- STW (R525): Engine instruction STW stores a word. -/
def execStw (t : Nat) (e : Nat) (s : State) : Host.Outcome State Fault Refusal :=
  .next (s.engRun t e fun s => s.engStep e 0x23 opStw)

/-- STH (R525): Engine instruction STH stores a halfword. -/
def execSth (t : Nat) (e : Nat) (s : State) : Host.Outcome State Fault Refusal :=
  .next (s.engRun t e fun s => s.engStep e 0x24 opSth)

/-- STB (R525): Engine instruction STB stores a byte. -/
def execStb (t : Nat) (e : Nat) (s : State) : Host.Outcome State Fault Refusal :=
  .next (s.engRun t e fun s => s.engStep e 0x25 opStb)

/-- LDWP (R529): Engine instruction LDWP loads a word with post-increment. -/
def execLdwp (t : Nat) (e : Nat) (s : State) : Host.Outcome State Fault Refusal :=
  .next (s.engRun t e fun s => s.engStep e 0x28 opLdwp)

/-- STWP (R529): Engine instruction STWP stores a word with post-increment. -/
def execStwp (t : Nat) (e : Nat) (s : State) : Host.Outcome State Fault Refusal :=
  .next (s.engRun t e fun s => s.engStep e 0x29 opStwp)

/-- LDO (R539): Engine instruction LDO with X = 0 issues a dictionary READ and stalls. -/
def execLdo (t : Nat) (e : Nat) (s : State) : Host.Outcome State Fault Refusal :=
  .next (s.engRun t e fun s => s.engDict e 0x26 0)

/-- LDO_READ_RECORD (R539): Engine instruction LDO with X = 1 issues a dictionary READ_RECORD and stalls. -/
def execLdoReadRecord (t : Nat) (e : Nat) (s : State) : Host.Outcome State Fault Refusal :=
  .next (s.engRun t e fun s => s.engDict e 0x26 1)

/-- STO (R539): Engine instruction STO with X = 0 issues a dictionary WRITE and stalls. -/
def execSto (t : Nat) (e : Nat) (s : State) : Host.Outcome State Fault Refusal :=
  .next (s.engRun t e fun s => s.engDict e 0x27 0)

/-- STO_EXEC (R539): Engine instruction STO with X = 1 issues a dictionary EXEC and stalls. -/
def execStoExec (t : Nat) (e : Nat) (s : State) : Host.Outcome State Fault Refusal :=
  .next (s.engRun t e fun s => s.engDict e 0x27 1)

/-- ENGINE_DICT_COMPLETE (R541): An engine's dictionary access completes and its completion word is written to rd. -/
def execEngineDictComplete (t : Nat) (e : Nat) (s : State) : Host.Outcome State Fault Refusal :=
  .next (s.run t fun s => s.whenLive fun s => s.dictComplete e)

/-- BR (R529): Engine instruction BR. -/
def execBr (t : Nat) (e : Nat) (s : State) : Host.Outcome State Fault Refusal :=
  .next (s.engRun t e fun s => s.engStep e 0x30 opBr)

/-- CALL (R533): Engine instruction CALL pushes the return address and branches. -/
def execCall (t : Nat) (e : Nat) (s : State) : Host.Outcome State Fault Refusal :=
  .next (s.engRun t e fun s => s.engStep e 0x31 opCallRel)

/-- RET (R533): Engine instruction RET pops the return address. -/
def execRet (t : Nat) (e : Nat) (s : State) : Host.Outcome State Fault Refusal :=
  .next (s.engRun t e fun s => s.engStep e 0x32 (fun _ => opRet))

/-- JR (R529): Engine instruction JR. -/
def execJr (t : Nat) (e : Nat) (s : State) : Host.Outcome State Fault Refusal :=
  .next (s.engRun t e fun s => s.engStep e 0x33 opJr)

/-- CALLR (R533): Engine instruction CALLR. -/
def execCallr (t : Nat) (e : Nat) (s : State) : Host.Outcome State Fault Refusal :=
  .next (s.engRun t e fun s => s.engStep e 0x34 opCallReg)

/-- RPT (R531): Engine instruction RPT repeats the next instruction by its count. -/
def execRpt (t : Nat) (e : Nat) (s : State) : Host.Outcome State Fault Refusal :=
  .next (s.engRun t e fun s => s.engStep e 0x35 opRptImm)

/-- RPTR (R531): Engine instruction RPTR repeats the next instruction by a register count. -/
def execRptr (t : Nat) (e : Nat) (s : State) : Host.Outcome State Fault Refusal :=
  .next (s.engRun t e fun s => s.engStep e 0x36 opRptReg)

/-- MFS (R523): Engine instruction MFS reads a special register. -/
def execMfs (t : Nat) (e : Nat) (s : State) : Host.Outcome State Fault Refusal :=
  .next (s.engRun t e fun s => s.engStep e 0x38 opMfsW)

/-- MTS (R523): Engine instruction MTS writes a special register or traps. -/
def execMts (t : Nat) (e : Nat) (s : State) : Host.Outcome State Fault Refusal :=
  .next (s.engRun t e fun s => s.engStep e 0x39 opMtsW)

/-- WFE (R535): Engine instruction WFE completes on a pending masked event or waits. -/
def execWfe (t : Nat) (e : Nat) (s : State) : Host.Outcome State Fault Refusal :=
  .next (s.engRun t e fun s => s.engStep e 0x3A (fun w => opWfe s.now (iRd w) (iRa w)))

/-- WAITT (R536): Engine instruction WAITT waits for an event with a deadline. -/
def execWaitt (t : Nat) (e : Nat) (s : State) : Host.Outcome State Fault Refusal :=
  .next (s.engRun t e fun s => s.engStep e 0x3B (fun w => opWaitt s.now (iRd w) (iRa w) (iRb w)))

/-- ENGINE_EVENT_WAKE (R535): An event in the wait mask arrives for a WAITING engine and its WFE or WAITT completes. -/
def execEngineEventWake (t : Nat) (e : Nat) (s : State) : Host.Outcome State Fault Refusal :=
  .next (s.run t fun s => s.whenLive fun s => s.eventWake e)

/-- WAITT_DEADLINE (R536): A WAITT deadline arrives, sets TIMEOUT and completes the wait. -/
def execWaittDeadline (t : Nat) (e : Nat) (s : State) : Host.Outcome State Fault Refusal :=
  .next (s.run t fun s => s.whenLive fun s => s.deadline e)

/-- SEV (R537): Engine instruction SEV sets the sender's event bit in the named engines. -/
def execSev (t : Nat) (e : Nat) (s : State) : Host.Outcome State Fault Refusal :=
  .next (s.engRun t e fun s => s.engSev e)

/-- STOP (R529): Engine instruction STOP halts the engine. -/
def execStop (t : Nat) (e : Nat) (s : State) : Host.Outcome State Fault Refusal :=
  .next (s.engRun t e fun s => s.engStep e 0x3D (fun _ => opStop))

/-- NOP (R529): Engine instruction NOP. -/
def execNop (t : Nat) (e : Nat) (s : State) : Host.Outcome State Fault Refusal :=
  .next (s.engRun t e fun s => s.engStep e 0x3E opNop)

/-- ILLEGAL_OP (R543): An undefined opcode is fetched and traps. -/
def execIllegalOp (t : Nat) (e : Nat) (s : State) : Host.Outcome State Fault Refusal :=
  .next (s.engRun t e fun s => s.illegalOp e)

/-- ENGINE_WATCHDOG (R544): An engine runs EngWatchdog without waiting and traps WATCHDOG. -/
def execEngineWatchdog (t : Nat) (e : Nat) (s : State) : Host.Outcome State Fault Refusal :=
  .next (s.run t fun s => s.whenLive fun s => s.engWatchdog e)

/-- TRAP_RESTART (R545): 1 ms after a trap, an engine with EngTrapRestart restarts. -/
def execTrapRestart (t : Nat) (e : Nat) (s : State) : Host.Outcome State Fault Refusal :=
  .next (s.run t fun s => s.whenLive fun s => s.trapRestart e)

/-- BREAKPOINT_HIT (R557): An engine reaches a debug breakpoint and enters DEBUG_HALT. -/
def execBreakpointHit (t : Nat) (e : Nat) (s : State) : Host.Outcome State Fault Refusal :=
  .next (s.run t fun s => s.whenLive fun s => s.breakHit e)

/-- ENG_CONTROL_START (R551): EngControl START starts an engine from its image. -/
def execEngControlStart (t : Nat) (r : Requester) (e : Nat) (s : State) : Host.Outcome State Fault Refusal :=
  .next (s.run t fun s => s.ask r 3 0x5002 0 [BitVec.ofNat 8 e, 1])

/-- ENG_CONTROL_STOP (R551): EngControl STOP holds an engine in reset at the next boundary. -/
def execEngControlStop (t : Nat) (r : Requester) (e : Nat) (s : State) : Host.Outcome State Fault Refusal :=
  .next (s.run t fun s => s.ask r 3 0x5002 0 [BitVec.ofNat 8 e, 2])

/-- ENG_CONTROL_RESTART (R551): EngControl RESTART stops and starts an engine. -/
def execEngControlRestart (t : Nat) (r : Requester) (e : Nat) (s : State) : Host.Outcome State Fault Refusal :=
  .next (s.run t fun s => s.ask r 3 0x5002 0 [BitVec.ofNat 8 e, 3])

/-- ENG_LOAD_BEGIN (R548): EngLoadBegin opens an image load for an engine. -/
def execEngLoadBegin (t : Nat) (r : Requester) (e total : Nat) (s : State) : Host.Outcome State Fault Refusal :=
  .next (s.run t fun s => s.ask r 3 0x5010 0 (BitVec.ofNat 8 e :: toLe 4 total))

/-- ENG_LOAD_DATA (R548): EngLoadData appends image bytes at the next offset. -/
def execEngLoadData (t : Nat) (r : Requester) (off : Nat) (data : Bytes) (s : State) : Host.Outcome State Fault Refusal :=
  .next (s.run t fun s => s.ask r 3 0x5011 0 (toLe 4 off ++ data))

/-- ENG_LOAD_COMMIT (R549): EngLoadCommit checks the load and starts authenticating and committing the image. -/
def execEngLoadCommit (t : Nat) (r : Requester) (s : State) : Host.Outcome State Fault Refusal :=
  .next (s.run t fun s => s.ask r 3 0x5012 0 [])

/-- ENG_LOAD_COMMIT_DONE (R547): The image directory switch completes; the engine is left STOPPED with the new image. -/
def execEngLoadCommitDone (t : Nat) (s : State) : Host.Outcome State Fault Refusal :=
  .next (s.run t fun s => s.whenLive State.loadDoneRow)

/-- ENG_LOAD_ABORT (R548): EngLoadAbort abandons the caller's load. -/
def execEngLoadAbort (t : Nat) (r : Requester) (s : State) : Host.Outcome State Fault Refusal :=
  .next (s.run t fun s => s.ask r 3 0x5013 0 [])

/-- ENG_LOAD_TIMEOUT (R548): A load with no command for 10 s is abandoned. -/
def execEngLoadTimeout (t : Nat) (s : State) : Host.Outcome State Fault Refusal :=
  .next (s.run t fun s => s.whenLive State.loadTimeout)

/-- ENG_DOORBELL (R554): EngDoorbell queues a value for an engine and raises DOORBELL. -/
def execEngDoorbell (t : Nat) (r : Requester) (e v : Nat) (s : State) : Host.Outcome State Fault Refusal :=
  .next (s.run t fun s => s.ask r 3 0x5023 0 (BitVec.ofNat 8 e :: toLe 4 v))

/-- ENG_DOORBELL_RX (R554): EngDoorbellRx takes the oldest doorbell value. -/
def execEngDoorbellRx (t : Nat) (r : Requester) (s : State) : Host.Outcome State Fault Refusal :=
  .next (s.run t fun s => s.ask r 3 0x5024 0 [])

/-- ENG_OBJ_WRITE_RX (R554): EngObjWriteRx takes the oldest object-write entry. -/
def execEngObjWriteRx (t : Nat) (r : Requester) (s : State) : Host.Outcome State Fault Refusal :=
  .next (s.run t fun s => s.ask r 3 0x5025 0 [])

/-- GPIO_EDGE (R555): A selected edge on an engine-owned GPIO raises its GPIO event or wakes CORE. -/
def execGpioEdge (t : Nat) (pin : Nat) (level : Bool) (s : State) : Host.Outcome State Fault Refusal :=
  .next (s.run t fun s => s.whenUp fun s => s.gpioEdgeRow pin level)

/-- ID (R556): Debug ID returns product code, serial number and a challenge. -/
def execDbgIdent (t : Nat) (f : Bytes) (s : State) : Host.Outcome State Fault Refusal :=
  .next (s.run t fun s => s.whenLive fun s => s.dbgId f)

/-- UNLOCK (R557): Debug UNLOCK checks the response to the challenge; three wrong tries lock the port. -/
def execDbgUnlock (t : Nat) (f : Bytes) (s : State) : Host.Outcome State Fault Refusal :=
  .next (s.run t fun s => s.whenLive fun s => s.dbgUnlock f)

/-- HALT (R556): Debug HALT places an engine in DEBUG_HALT. -/
def execDbgHalt (t : Nat) (f : Bytes) (s : State) : Host.Outcome State Fault Refusal :=
  .next (s.run t fun s => s.whenLive fun s => s.dbgHalt f)

/-- RUN (R556): Debug RUN resumes a halted engine. -/
def execDbgRun (t : Nat) (f : Bytes) (s : State) : Host.Outcome State Fault Refusal :=
  .next (s.run t fun s => s.whenLive fun s => s.dbgRun f)

/-- STEP (R556): Debug STEP executes one instruction. -/
def execDbgStep (t : Nat) (f : Bytes) (s : State) : Host.Outcome State Fault Refusal :=
  .next (s.run t fun s => s.whenLive fun s => s.dbgStep f)

/-- REG_READ (R556): Debug REG_READ returns an engine's registers. -/
def execDbgRegRead (t : Nat) (f : Bytes) (s : State) : Host.Outcome State Fault Refusal :=
  .next (s.run t fun s => s.whenLive fun s => s.dbgRegs f)

/-- REG_WRITE (R556): Debug REG_WRITE writes an engine register. -/
def execDbgRegWrite (t : Nat) (f : Bytes) (s : State) : Host.Outcome State Fault Refusal :=
  .next (s.run t fun s => s.whenLive fun s => s.dbgRegWrite f)

/-- MEM_READ (R556): Debug MEM_READ reads engine code or data memory. -/
def execDbgMemRead (t : Nat) (f : Bytes) (s : State) : Host.Outcome State Fault Refusal :=
  .next (s.run t fun s => s.whenLive fun s => s.dbgMemRead f)

/-- MEM_WRITE (R557): Debug MEM_WRITE writes engine memory, the running copy only for code. -/
def execDbgMemWrite (t : Nat) (f : Bytes) (s : State) : Host.Outcome State Fault Refusal :=
  .next (s.run t fun s => s.whenLive fun s => s.dbgMemWrite f)

/-- BREAK (R556): Debug BREAK sets or clears a breakpoint slot. -/
def execDbgBreak (t : Nat) (f : Bytes) (s : State) : Host.Outcome State Fault Refusal :=
  .next (s.run t fun s => s.whenLive fun s => s.dbgBreak f)

end Sys2Proof.Machine
end

