-- ==== Sys2Proof/Machine/CmdGate.lean ====
section
/-! DEFINITION. The meanings of the commands of gates and interlocks (06), one definition per command. -/
namespace Sys2Proof.Machine

/-- SEAL_ISSUE (R26): Once the verdict is SATISFIED and the counter commit is complete, the access state machines issue a seal and the gate
latch consumes it or voids it. -/
def execSealIssue (t : Nat) (tsh gate : Nat) (s : State) : Host.Outcome State Fault Refusal :=
  .next (s.run t fun s => s.whenLive fun s => s.sealIssue tsh gate)

/-- PULSE_END (R241): An A or B pulse reaches its width and the ball falls. -/
def execPulseEnd (t : Nat) (isB : Bool) (n : Nat) (s : State) : Host.Outcome State Fault Refusal :=
  .next (s.run t fun s => s.pulseEnd isB n)

/-- DEAD_TIME_END (R242): The 10 ms dead time ends and the last requested pulse starts. -/
def execDeadTimeEnd (t : Nat) (grp : Nat) (s : State) : Host.Outcome State Fault Refusal :=
  .next (s.run t fun s => s.deadEnd grp)

/-- GATE_LOCK (R241): GateLock raises a lock request that pulses LOCK_ALL_B, and TRUNK_B where enabled. -/
def execGateLock (t : Nat) (r : Requester) (s : State) : Host.Outcome State Fault Refusal :=
  .next (s.run t fun s => s.ask r 3 0x2408 0 [])

/-- GATE_RB_SAMPLE (R248): At a slow-clock tick, once GateRbDelay has passed, GATE_RB is compared with the commanded state of the gate. -/
def execGateRbSample (t : Nat) (gate : Nat) (level : Bool) (s : State) : Host.Outcome State Fault Refusal :=
  .next (s.run t fun s => s.whenUp fun s => s.rbSample gate level)

/-- START_EN_LIMIT (R244): Outside the drive latch, START_EN is lowered 600 s after it rose. -/
def execStartEnLimit (t : Nat) (s : State) : Host.Outcome State Fault Refusal :=
  .next (s.run t State.startLimit)

/-- GATE_FAULT_CLEAR (R249): GateFaultClear clears the FAULT bit of one gate. -/
def execGateFaultClear (t : Nat) (r : Requester) (gate : Nat) (s : State) : Host.Outcome State Fault Refusal :=
  .next (s.run t fun s => s.ask r 3 0x2409 0 [BitVec.ofNat 8 gate])

/-- GATE_QUENCH (R269): GateQuench with argument 0x5155 makes the part enter Quench with cause HOST. -/
def execGateQuench (t : Nat) (r : Requester) (arg : Nat) (s : State) : Host.Outcome State Fault Refusal :=
  .next (s.run t fun s => s.ask r 3 0x2451 0 (toLe 2 arg))

/-- SEAL_PATH_FAULT (R266): The seal path's hardware self-check fails and the part enters Quench with cause SEAL_PATH. -/
def execSealPathFault (t : Nat) (s : State) : Host.Outcome State Fault Refusal :=
  .next (s.run t fun s => s.quench 3)

/-- IMMO_CHALLENGE (R256): An immobiliser CHALLENGE frame is answered at once or acts as a start trigger. -/
def execImmoChallenge (t : Nat) (f : Bytes) (s : State) : Host.Outcome State Fault Refusal :=
  .next (s.run t fun s => if (s.immoChallengeOf f).isSome then s.immoRow f else s)

/-- IMMO_ACK (R257): An immobiliser ACK frame is verified and, if it is valid, turns the START session into the drive latch. -/
def execImmoAck (t : Nat) (f : Bytes) (s : State) : Host.Outcome State Fault Refusal :=
  .next (s.run t fun s => if (s.immoChallengeOf f).isSome then s else s.immoRow f)

/-- IMMO_RELEASE_PERIOD (R252): In PUSH mode GateImmoPeriod expires while START_EN is high, and a RELEASE frame is sent. -/
def execImmoReleasePeriod (t : Nat) (s : State) : Host.Outcome State Fault Refusal :=
  .next (s.run t fun s => s.whenLive State.immoPeriod)

/-- IMMO_WAIT_EXPIRY (R256): No START seal is issued within GateImmoWait, and a RESPONSE with NOT_RELEASED is sent. -/
def execImmoWaitExpiry (t : Nat) (s : State) : Host.Outcome State Fault Refusal :=
  .next (s.run t fun s => s.whenLive State.immoWaitEnd)

/-- LIMITER_CUT (R262): A transmitter reaches a hardware duty or continuous ceiling and is stopped by the AON-side cut-off. -/
def execLimiterCut (t : Nat) (lim ch : Nat) (s : State) : Host.Outcome State Fault Refusal :=
  .next (s.run t fun s => s.limiterCut lim ch)

/-- GPIO_HOLD_EXPIRY (R263): An engine-driven GPIO has been held active for GateGpioHold and is released to input. -/
def execGpioHoldExpiry (t : Nat) (pin : Nat) (s : State) : Host.Outcome State Fault Refusal :=
  .next (s.run t fun s => s.gpioHoldEnd pin)

end Sys2Proof.Machine
end

