-- ==== Sys2Proof/Machine/CmdKeys.lean ====
section
/-! DEFINITION. The meanings of the commands of tokens, credentials and the counter journal (03, 04), one definition per command. -/
namespace Sys2Proof.Machine

/-- CRED_CLOCK_CONFIRM (R124): CredClockConfirm applies the held forward step of the validity clock if it lies within the ceiling. -/
def execCredClockConfirm (t : Nat) (r : Requester) (ceiling : Nat) (s : State) : Host.Outcome State Fault Refusal :=
  .next (s.run t fun s => s.ask r 3 0x2127 0 (toLe 8 ceiling))

/-- CRED_REVOKE (R131): CredRevoke adds a credential to the revocation list and frees its cache entry. -/
def execCredRevoke (t : Nat) (r : Requester) (arg : Bytes) (s : State) : Host.Outcome State Fault Refusal :=
  .next (s.run t fun s => s.ask r 3 0x2103 0 arg)

/-- VC_SECOND (R122): An AON second elapses: VC advances and takes LOCKED domain time subject to the jump limits. -/
def execVcSecond (t : Nat) (s : State) : Host.Outcome State Fault Refusal :=
  .next (s.run t fun s => s.whenVaon fun s => s.vcSecond s.lockedSecs)

/-- FLOOR_PERIOD (R125): CredFloorPeriod has elapsed since the last FLOOR record, and a FLOOR record is written. -/
def execFloorPeriod (t : Nat) (s : State) : Host.Outcome State Fault Refusal :=
  .next (s.run t fun s => s.whenLive State.floorPeriod)

/-- RESYNC_TIMEOUT (R138): A pending resync is cleared after TokResyncTimeout. -/
def execResyncTimeout (t : Nat) (s : State) : Host.Outcome State Fault Refusal :=
  .next (s.run t State.resyncTimeout)

/-- JOURNAL_RECORD_DONE (R143): A journal record's read-back completes: the record is committed, or it is retried in the next slot, or the
journal becomes FAILED. -/
def execJournalRecordDone (t : Nat) (ok : Bool) (s : State) : Host.Outcome State Fault Refusal :=
  .next (s.run t fun s => s.whenLive fun s => s.journalDone ok)

/-- COMPACTION_START (R146): The active bank holds 3,072 records and compaction begins by writing the new bank's header word 0 and the live
set. -/
def execCompactionStart (t : Nat) (s : State) : Host.Outcome State Fault Refusal :=
  .next (s.run t fun s => s.whenLive State.compactStart)

/-- COMPACTION_PASS (R146): A compaction copy pass copies the records committed since the previous pass. -/
def execCompactionPass (t : Nat) (s : State) : Host.Outcome State Fault Refusal :=
  .next (s.run t fun s => s.whenLive State.compactPass)

/-- COMPACTION_SWITCH (R146): The last pass and the COMPLETE header word make the new bank active, and the journal returns to NORMAL. -/
def execCompactionSwitch (t : Nat) (s : State) : Host.Outcome State Fault Refusal :=
  .next (s.run t fun s => s.whenLive State.compactSwitch)

/-- TOKEN_PROOF (R110): A TOKEN_PROOF message is judged by the lock-out checks, R110 and the counter rule, and is answered. -/
def execTokenProof (t : Nat) (car : Carrier) (m : Bytes) (s : State) : Host.Outcome State Fault Refusal :=
  .next (s.run t fun s => s.zqRow 0x11 car m)

/-- CRED_PROOF (R118): A CRED_PROOF message is judged by the lock-out checks, R118 and the counter rule, and is answered. -/
def execCredProof (t : Nat) (car : Carrier) (m : Bytes) (s : State) : Host.Outcome State Fault Refusal :=
  .next (s.run t fun s => s.zqRow 0x12 car m)

/-- ATTEST (R129): An ATTEST message carrying a time attestation is judged and may raise VC. -/
def execAttest (t : Nat) (car : Carrier) (m : Bytes) (s : State) : Host.Outcome State Fault Refusal :=
  .next (s.run t fun s => s.zqRow 0x13 car m)

end Sys2Proof.Machine
end

