-- ==== Sys2Proof/Machine/CmdNfc.lean ====
section
/-! DEFINITION. The meanings of the commands of the NFC readers (11), one definition per command. -/
namespace Sys2Proof.Machine

/-- NFC_PING (R411): A port pings after checking for an external field, and detects a card or tracks its reference. -/
def execNfcPing (t : Nat) (p ext : Nat) (amp phase : Int) (s : State) : Host.Outcome State Fault Refusal :=
  .next (s.run t fun s => s.pingStep p fun s => s.nfcPing p ext amp phase)

/-- NFC_ACTIVATION (R413): An activation starts: carrier on, then WUPA and WUPB after NfcFieldGuard. -/
def execNfcActivation (t : Nat) (p ext vnfc cur : Nat) (phase : Int) (s : State) : Host.Outcome State Fault Refusal :=
  .next (s.run t fun s => s.whenLive fun s => if (s.nfcPort p).cards = 0 then s.nfcStart p false ext vnfc cur phase else s)

/-- NFC_CARD_FRAME (R413): A card answers a step of activation (ATQ, SAK, ATS, PPS or SELECT response). -/
def execNfcCardFrame (t : Nat) (p : Nat) (step : CardStep) (d : Bytes) (s : State) : Host.Outcome State Fault Refusal :=
  .next (s.run t fun s => s.whenLive fun s => s.nfcCard p step d)

/-- NFC_RESERVE_ATTEMPT (R414): 5 ms after an unanswered activation, the reserve attempt at 250 mA starts. -/
def execNfcReserveAttempt (t : Nat) (p ext vnfc cur : Nat) (phase : Int) (s : State) : Host.Outcome State Fault Refusal :=
  .next (s.run t fun s => s.whenLive fun s => s.nfcStart p true ext vnfc cur phase)

/-- NFC_R_APDU (R415): An R-APDU carrying a Zarique message or a transfer response is received. -/
def execNfcRApdu (t : Nat) (p : Nat) (d : Bytes) (s : State) : Host.Outcome State Fault Refusal :=
  .next (s.run t fun s => s.whenLive fun s => s.nfcRapdu p d)

/-- NFC_RESPONSE_TIMEOUT (R415): A response has been awaited more than 1,000 ms, or a block has failed three times; the card counts as gone. -/
def execNfcResponseTimeout (t : Nat) (p : Nat) (failed : Bool) (s : State) : Host.Outcome State Fault Refusal :=
  .next (s.run t fun s => s.whenLive fun s => s.nfcLost p failed)

/-- NFC_IDLE_END (R416): NfcIdleEnd passes with nothing pending and the activation ends. -/
def execNfcIdleEnd (t : Nat) (p : Nat) (s : State) : Host.Outcome State Fault Refusal :=
  .next (s.run t fun s => s.whenLive fun s => s.nfcIdle p)

/-- NFC_EXCHANGE_MAX (R416): NfcExchangeMax passes and the activation ends. -/
def execNfcExchangeMax (t : Nat) (p : Nat) (s : State) : Host.Outcome State Fault Refusal :=
  .next (s.run t fun s => s.whenLive fun s => s.nfcMax p)

/-- NFC_REACTIVATE (R417): 5 ms after an idle end the reader activates again with REQA and REQB. -/
def execNfcReactivate (t : Nat) (p ext vnfc cur : Nat) (phase : Int) (s : State) : Host.Outcome State Fault Refusal :=
  .next (s.run t fun s => s.whenLive fun s => if (s.nfcPort p).cards = 0 then s else s.nfcStart p false ext vnfc cur phase)

/-- NFC_OVERCURRENT_CUT (R419): The coil current exceeds 300 mA and the carrier turns off. -/
def execNfcOvercurrentCut (t : Nat) (p : Nat) (s : State) : Host.Outcome State Fault Refusal :=
  .next (s.run t fun s => s.nfcCut p)

/-- NFC_FAULT_CLEAR (R419): NfcFaultClear clears a port's latched faults. -/
def execNfcFaultClear (t : Nat) (r : Requester) (arg : Bytes) (s : State) : Host.Outcome State Fault Refusal :=
  .next (s.run t fun s => s.ask r 3 0x3513 0 arg)

/-- VNFC_RECOVER (R419): VNFC returns above 3.0 V and clears VNFC_LOW. -/
def execVnfcRecover (t : Nat) (vnfc : Nat) (s : State) : Host.Outcome State Fault Refusal :=
  .next (s.run t fun s => s.vnfcBack vnfc)

/-- NFC_WUP_RETRY (R413): 1 ms after an unanswered WUPA or WUPB the reader sends it again, and after the third unanswered attempt it turns the
carrier off for the reserve attempt or counts a false wake. -/
def execNfcWupRetry (t : Nat) (p : Nat) (s : State) : Host.Outcome State Fault Refusal :=
  .next (s.run t fun s => s.whenLive fun s => s.nfcWup p)

end Sys2Proof.Machine
end

