-- ==== Sys2Proof/Machine/CmdPorts.lean ====
section
/-! DEFINITION. The meanings of the commands of ports and domain time (15), one definition per command. -/
namespace Sys2Proof.Machine

/-- CAN_FRAME_RX (R564): A CAN frame is received, stamped and offered to the immobiliser, dictionary, version 1 and filters. -/
def execCanFrameRx (t : Nat) (c : Nat) (f : CanFrame) (sof : Nat) (s : State) : Host.Outcome State Fault Refusal :=
  .next (s.run t fun s => s.portIn (6 + c) fun s => s.canFrameIn c f sof)

/-- NET_CAN_TX (R567): NetCanTx queues a CAN frame, timed or immediate. -/
def execNetCanTx (t : Nat) (r : Requester) (arg : Bytes) (s : State) : Host.Outcome State Fault Refusal :=
  .next (s.run t fun s => s.ask r 3 0x4018 0 arg)

/-- NET_CAN_RX (R566): NetCanRx takes the oldest frame from the caller's queue. -/
def execNetCanRx (t : Nat) (r : Requester) (s : State) : Host.Outcome State Fault Refusal :=
  .next (s.run t fun s => s.ask r 3 0x4019 0 [])

/-- NET_CAN_RECOVER (R570): NetCanRecover starts recovery of a controller in BUS_OFF. -/
def execNetCanRecover (t : Nat) (r : Requester) (c : Nat) (s : State) : Host.Outcome State Fault Refusal :=
  .next (s.run t fun s => s.ask r 3 0x4008 0 [BitVec.ofNat 8 c])

/-- CAN_BUS_OFF (R570): A controller reaches bus-off, which is counted and logged. -/
def execCanBusOff (t : Nat) (c : Nat) (s : State) : Host.Outcome State Fault Refusal :=
  .next (s.run t fun s => s.whenLive fun s => s.busOff c)

/-- CAN_BUS_OFF_RECOVERY (R570): 128 occurrences of 11 recessive bits complete bus-off recovery. -/
def execCanBusOffRecovery (t : Nat) (c : Nat) (s : State) : Host.Outcome State Fault Refusal :=
  .next (s.run t fun s => s.whenLive fun s => s.canRecovered c)

/-- CAN_FRAME_TX_DONE (R579): A CAN frame completes on the wire, or is withdrawn, and a completion record is left. -/
def execCanFrameTxDone (t : Nat) (c : Nat) (sof won : Nat) (s : State) : Host.Outcome State Fault Refusal :=
  .next (s.run t fun s => s.whenLive fun s => s.canTxDone c sof won)

/-- LAUNCH_TIME_REACHED (R577): Domain time reaches a timed frame's TIME and it enters its class. -/
def execLaunchTimeReached (t : Nat) (s : State) : Host.Outcome State Fault Refusal :=
  .next (s.run t fun s => s.whenLive State.launchReached)

/-- NET_ETH_TX (R576): NetEthTx queues an Ethernet frame. -/
def execNetEthTx (t : Nat) (r : Requester) (arg : Bytes) (s : State) : Host.Outcome State Fault Refusal :=
  .next (s.run t fun s => s.ask r 3 0x4029 0 arg)

/-- NET_ETH_RX (R575): NetEthRx takes the oldest Ethernet frame from the caller's queue. -/
def execNetEthRx (t : Nat) (r : Requester) (s : State) : Host.Outcome State Fault Refusal :=
  .next (s.run t fun s => s.ask r 3 0x402A 0 [])

/-- NET_TX_DONE (R579): NetTxDone returns the caller's oldest completion record. -/
def execNetTxDone (t : Nat) (r : Requester) (s : State) : Host.Outcome State Fault Refusal :=
  .next (s.run t fun s => s.ask r 3 0x4030 0 [])

/-- T1S_FRAME_RX (R575): A 10BASE-T1S frame is received and routed by EtherType and SUBTYPE. -/
def execT1sFrameRx (t : Nat) (da sa : Bytes) (etype : Nat) (payload : Bytes) (fcsOk : Bool) (sfd : Nat) (s : State) : Host.Outcome State Fault Refusal :=
  .next (s.run t fun s => s.portIn 8 fun s => s.t1sFrameIn da sa etype payload fcsOk sfd)

/-- T1S_FRAME_TX_DONE (R579): A 10BASE-T1S frame is sent at its transmit opportunity. -/
def execT1sFrameTxDone (t : Nat) (sfd : Nat) (coll : Bool) (s : State) : Host.Outcome State Fault Refusal :=
  .next (s.run t fun s => s.whenLive fun s => s.t1sTxDone sfd coll)

/-- PLCA_BEACON_LOSS (R574): No BEACON for 4 cycle lengths, and the port falls back to CSMA/CD. -/
def execPlcaBeaconLoss (t : Nat) (s : State) : Host.Outcome State Fault Refusal :=
  .next (s.run t fun s => s.whenLive State.beaconLoss)

/-- WAIRIL_LINK_DOWN (R581): Code violations or 1 µs without transitions take the Wairil link DOWN. -/
def execWairilLinkDown (t : Nat) (viol : Bool) (fills : Nat) (s : State) : Host.Outcome State Fault Refusal :=
  .next (s.run t fun s => (s.wlFills fills).wlDown viol)

/-- WAIRIL_COMMA_ALIGN (R581): The receiver finds a comma and enters TRAINING. -/
def execWairilCommaAlign (t : Nat) (s : State) : Host.Outcome State Fault Refusal :=
  .next (s.run t fun s => s.portIn 9 State.wlAlign)

/-- WAIRIL_LINK_UP (R581): 256 valid characters with the aligned fill pair bring the link UP. -/
def execWairilLinkUp (t : Nat) (s : State) : Host.Outcome State Fault Refusal :=
  .next (s.run t State.wlUp)

/-- QS_OPERATION_DONE (R583): A log-memory program or erase completes and its status is reported. -/
def execQsOperationDone (t : Nat) (ok : Bool) (s : State) : Host.Outcome State Fault Refusal :=
  .next (s.run t fun s => s.whenLive fun s => s.qsDone ok)

/-- PPS (R595): Domain time crosses a whole second: PPS_OUT rises and the engines' PPS event is raised. -/
def execPps (t : Nat) (s : State) : Host.Outcome State Fault Refusal :=
  .next (s.run t fun s => s.whenLive State.ppsTick)

/-- PPS_WIDTH_END (R595): TimePpsWidth ends and PPS_OUT falls. -/
def execPpsWidthEnd (t : Nat) (s : State) : Host.Outcome State Fault Refusal :=
  .next (s.run t fun s => s.whenLive State.ppsEnd)

/-- TIME_STEP (R588): TimeStep applies or holds a step of domain time. -/
def execTimeStep (t : Nat) (r : Requester) (amount : Nat) (neg : Bool) (s : State) : Host.Outcome State Fault Refusal :=
  .next (s.run t fun s => s.ask r 3 0x4106 0 (toLe 12 amount ++ [if neg then 1 else 0]))

/-- TIME_SET (R588): TimeSet applies a new domain time as a step. -/
def execTimeSet (t : Nat) (r : Requester) (time : Nat) (s : State) : Host.Outcome State Fault Refusal :=
  .next (s.run t fun s => s.ask r 3 0x4107 0 (toLe 12 time))

/-- TIME_SLEW (R588): TimeSlew slews domain time in MANUAL mode. -/
def execTimeSlew (t : Nat) (r : Requester) (ns : Int) (s : State) : Host.Outcome State Fault Refusal :=
  .next (s.run t fun s => s.ask r 3 0x4108 0 (toLe 4 (toTwos 32 ns)))

/-- TIME_STEP_CONFIRM (R588): TimeStepConfirm applies a held backward step within the ceiling. -/
def execTimeStepConfirm (t : Nat) (r : Requester) (ceiling : Nat) (s : State) : Host.Outcome State Fault Refusal :=
  .next (s.run t fun s => s.ask r 3 0x4109 0 (toLe 12 ceiling))

/-- TIME_ASYMMETRY_WRITE (R593): A write of TimeAsymmetry sets the asymmetry and clears PATH_CHANGED. -/
def execTimeAsymmetryWrite (t : Nat) (r : Requester) (v : Int) (s : State) : Host.Outcome State Fault Refusal :=
  .next (s.run t fun s => s.ask r 2 0x4128 0 (toLe 4 (toTwos 32 v)))

/-- SYNC (R587): An 802.1AS Sync is received and stamped. -/
def execSync (t : Nat) (seq : Nat) (twoStep : Bool) (origin : Nat) (corr : Int) (s : State) : Host.Outcome State Fault Refusal :=
  .next (s.run t fun s => s.t1sRow fun s => s.syncIn seq twoStep origin corr)

/-- FOLLOW_UP (R590): A Follow_Up completes an offset measurement for the servo and quality states. -/
def execFollowUp (t : Nat) (seq origin : Nat) (corr : Int) (s : State) : Host.Outcome State Fault Refusal :=
  .next (s.run t fun s => s.t1sRow fun s => s.followUp seq origin corr)

/-- PDELAY_REQ (R590): A Pdelay_Req is answered when the port is MASTER. -/
def execPdelayReq (t : Nat) (seq : Nat) (src : Bytes) (s : State) : Host.Outcome State Fault Refusal :=
  .next (s.run t fun s => s.t1sRow fun s => s.pdelayReq seq src)

/-- PDELAY_RESP (R592): A Pdelay_Resp or its follow-up gives a path delay measurement, which may show a path change. -/
def execPdelayResp (t : Nat) (follow : Bool) (seq ts : Nat) (s : State) : Host.Outcome State Fault Refusal :=
  .next (s.run t fun s => s.t1sRow fun s => s.pdelayResp follow seq ts)

/-- ANNOUNCE (R590): An Announce is received and BMCA runs. -/
def execAnnounce (t : Nat) (pv : Bytes) (s : State) : Host.Outcome State Fault Refusal :=
  .next (s.run t fun s => s.t1sRow fun s => s.announce pv)

/-- SYNC_INTERVAL (R590): The sync interval expires and a master sends Sync. -/
def execSyncInterval (t : Nat) (s : State) : Host.Outcome State Fault Refusal :=
  .next (s.run t fun s => s.whenLive State.syncInterval)

/-- PDELAY_INTERVAL (R592): The Pdelay interval expires and Pdelay_Req is sent. -/
def execPdelayInterval (t : Nat) (s : State) : Host.Outcome State Fault Refusal :=
  .next (s.run t fun s => s.whenLive State.pdelayInterval)

/-- ANNOUNCE_INTERVAL (R590): The Announce interval expires and an Announce is sent. -/
def execAnnounceInterval (t : Nat) (s : State) : Host.Outcome State Fault Refusal :=
  .next (s.run t fun s => s.whenLive State.announceInterval)

/-- TIME_SOURCE_LOSS (R587): Three sync intervals pass without Sync and time enters HOLDOVER. -/
def execTimeSourceLoss (t : Nat) (s : State) : Host.Outcome State Fault Refusal :=
  .next (s.run t fun s => s.whenLive State.sourceLoss)

/-- HOLDOVER_LIMIT (R587): HOLDOVER lasts longer than TimeHoldoverLimit and time becomes FREE. -/
def execHoldoverLimit (t : Nat) (s : State) : Host.Outcome State Fault Refusal :=
  .next (s.run t fun s => s.whenLive State.holdoverLimit)

/-- TS_IN_EDGE (R594): An edge on TS_IN is stamped in domain time and RCNT, and may discipline time. -/
def execTsInEdge (t : Nat) (ch : Nat) (rising : Bool) (s : State) : Host.Outcome State Fault Refusal :=
  .next (s.run t fun s => s.whenLive fun s => s.tsEdge ch rising)

/-- CAN_BUS_ERROR (R562): A CAN controller detects a bus error, raises its error counters and may move between ERROR_ACTIVE and ERROR_PASSIVE. -/
def execCanBusError (t : Nat) (c : Nat) (tx : Bool) (s : State) : Host.Outcome State Fault Refusal :=
  .next (s.run t fun s => s.whenLive fun s => s.busError c tx)

/-- PLCA_BEACON_RETURN (R574): BEACONs are seen again on the segment, and a port sending in CSMA/CD returns to PLCA. -/
def execPlcaBeaconReturn (t : Nat) (s : State) : Host.Outcome State Fault Refusal :=
  .next (s.run t fun s => s.whenLive State.beacon)

end Sys2Proof.Machine
end

