-- ==== Sys2Proof/Machine/CmdPower.lean ====
section
/-! DEFINITION. The meanings of the commands of power, clocks and reset (17), one definition per command. -/
namespace Sys2Proof.Machine

/-- DEV_RESET_SYSTEM (R649): DevReset with kind SYSTEM answers OK and then takes a system reset. -/
def execDevResetSystem (t : Nat) (r : Requester) (s : State) : Host.Outcome State Fault Refusal :=
  .next (s.run t fun s => s.devResetRow r 1)

/-- DEV_RESET_COLD (R649): DevReset with kind COLD answers OK and then takes a cold reset, unless START_EN or the drive latch is held. -/
def execDevResetCold (t : Nat) (r : Requester) (s : State) : Host.Outcome State Fault Refusal :=
  .next (s.run t fun s => s.devResetRow r 2)

/-- VAON_POR (R647): VAON rises through its power-on level and a cold reset occurs. -/
def execVaonPor (t : Nat) (s : State) : Host.Outcome State Fault Refusal :=
  .next (s.run t State.vaonPor)

/-- VAON_LOSS (R634): VAON falls below its threshold; the part is held in cold reset and AON state is lost. -/
def execVaonLoss (t : Nat) (step : Nat) (s : State) : Host.Outcome State Fault Refusal :=
  .next (s.run t fun s => s.vaonLoss step)

/-- VSUP_BROWNOUT (R647): VSUP falls below its brown-out level and a system reset is held. -/
def execVsupBrownout (t : Nat) (s : State) : Host.Outcome State Fault Refusal :=
  .next (s.run t State.vsupLow)

/-- VIO_UNDERVOLTAGE (R696): VIO falls below its threshold; outputs are undriven and readback is suspended. -/
def execVioUndervoltage (t : Nat) (s : State) : Host.Outcome State Fault Refusal :=
  .next (s.run t State.vioLow)

/-- VIO_RETURN (R696): VIO returns and readback comparisons restart after GateRbDelay. -/
def execVioReturn (t : Nat) (s : State) : Host.Outcome State Fault Refusal :=
  .next (s.run t State.vioBack)

/-- RESET_N (R647): RESET_N is held low for 1 µs and a system reset occurs. -/
def execResetN (t : Nat) (s : State) : Host.Outcome State Fault Refusal :=
  .next (s.run t fun s => if s.pwr.vaon then s.resetTake false 2 else s)

/-- RESET_RELEASE (R651): A reset is released and the start-up sequence runs to self-test. -/
def execResetRelease (t : Nat) (twinId : Bool) (qsType : Nat) (qsId : Bytes) (qsKb : Nat) (s : State) : Host.Outcome State Fault Refusal :=
  .next (s.run t fun s => s.resetRelease twinId qsType qsId qsKb)

/-- START_UP_SELF_TEST_DONE (R652): The start-up self-test ends; ports and engines start and ACCESS_READY is reached, or the part is held. -/
def execStartUpSelfTestDone (t : Nat) (fail : Nat) (sealBad deny : Bool) (s : State) : Host.Outcome State Fault Refusal :=
  .next (s.run t fun s => s.startTestDone fail sealBad deny)

/-- AON_WATCHDOG (R650): PwrWdtTimeout passes without a restart and a system reset occurs. -/
def execAonWatchdog (t : Nat) (s : State) : Host.Outcome State Fault Refusal :=
  .next (s.run t State.watchdog)

/-- WATCHDOG_RESTART (R650): The AON watchdog is restarted every 1 ms while CORE runs. -/
def execWatchdogRestart (t : Nat) (s : State) : Host.Outcome State Fault Refusal :=
  .next (s.run t State.watchdogKick)

/-- PWR_SHUTDOWN (R639): PwrShutdown ends sessions, writes a FLOOR record and enters SHUTDOWN. -/
def execPwrShutdown (t : Nat) (r : Requester) (arg : Bytes) (s : State) : Host.Outcome State Fault Refusal :=
  .next (s.run t fun s => s.ask r 3 0x1102 0 arg)

/-- SHUTDOWN_EXIT (R640): A wake source in SHUTDOWN causes a system reset with cause SHUTDOWN_EXIT. -/
def execShutdownExit (t : Nat) (src : Nat) (s : State) : Host.Outcome State Fault Refusal :=
  .next (s.run t fun s => s.shutdownExit src)

/-- CORE_POWER_DOWN (R636): All idle conditions have held for PwrIdleDelay and CORE powers down. -/
def execCorePowerDown (t : Nat) (s : State) : Host.Outcome State Fault Refusal :=
  .next (s.run t State.corePowerDown)

/-- CORE_WAKE (R641): An enabled wake source wakes CORE; timers catch up and deferred markers are logged. -/
def execCoreWake (t : Nat) (src : Nat) (s : State) : Host.Outcome State Fault Refusal :=
  .next (s.run t fun s => s.coreWake src)

/-- SCHEDULED_WAKE (R662): The wake scheduler wakes CORE for a wake-critical deadline, advertising, Anneal or a FLOOR period. -/
def execScheduledWake (t : Nat) (s : State) : Host.Outcome State Fault Refusal :=
  .next (s.run t State.schedWake)

/-- PLL_LOCK (R643): The PLL locks and CKC and CKS start. -/
def execPllLock (t : Nat) (s : State) : Host.Outcome State Fault Refusal :=
  .next (s.run t State.pllLock)

/-- PLL_LOCK_LOSS (R643): PLL lock is lost; CORE units are held and relock is tried. -/
def execPllLockLoss (t : Nat) (s : State) : Host.Outcome State Fault Refusal :=
  .next (s.run t State.pllLost)

/-- PLL_RELOCK_TIMEOUT (R643): The PLL does not relock within 1 ms and a system reset with cause CLOCK occurs. -/
def execPllRelockTimeout (t : Nat) (s : State) : Host.Outcome State Fault Refusal :=
  .next (s.run t State.relockTimeout)

/-- REFERENCE_MONITOR_PASS (R644): The reference passes its 1 ms monitor window. -/
def execReferenceMonitorPass (t : Nat) (s : State) : Host.Outcome State Fault Refusal :=
  .next (s.run t State.refPass)

/-- REFERENCE_LOSS (R644): The reference falls outside ±5 % and a system reset with cause CLOCK occurs, or Quench with cause CLOCK while a
seal could be issued. -/
def execReferenceLoss (t : Nat) (s : State) : Host.Outcome State Fault Refusal :=
  .next (s.run t State.refLoss)

/-- SLOW_XTAL_SWITCH (R645): 2,048 good crystal periods move the slow clock to the crystal. -/
def execSlowXtalSwitch (t : Nat) (s : State) : Host.Outcome State Fault Refusal :=
  .next (s.run t State.xtalSwitch)

/-- SLOW_XTAL_FAIL (R645): Crystal edges stop for 4 RC periods and the slow clock returns to the RC. -/
def execSlowXtalFail (t : Nat) (s : State) : Host.Outcome State Fault Refusal :=
  .next (s.run t State.xtalFail)

/-- CLOCK_RATIO_MEASURE (R646): Every 256 slow-clock ticks PwrClockRatio is updated. -/
def execClockRatioMeasure (t : Nat) (cycles : Nat) (s : State) : Host.Outcome State Fault Refusal :=
  .next (s.run t fun s => s.whenLive fun s => s.ratioMeasure cycles)

end Sys2Proof.Machine
end

