-- ==== Sys2Proof/Machine/CmdRadio.lean ====
section
/-! DEFINITION. The meanings of the commands of radio control (08), one definition per command. -/
namespace Sys2Proof.Machine

/-- UWB_RX_WINDOW_END (R323): A UWB receive window closes without a good frame, leaving its slot empty. -/
def execUwbRxWindowEnd (t : Nat) (s : State) : Host.Outcome State Fault Refusal :=
  .next (s.run t fun s => s.whenLive State.uwbWindowEnd)

/-- TRANSCEIVER_REQUEST (R322): A request for a transceiver arrives and is served or queued by class; RXN sampling stops. -/
def execTransceiverRequest (t : Nat) (xc : Xc) (cls : Nat) (tx : Bool) (at_ fin : Option Nat) (chan : Nat) (lateOk : Bool) (who : Option Requester) (s : State) : Host.Outcome State Fault Refusal :=
  .next (s.run t fun s => s.whenLive fun s => s.xcRequest xc ⟨cls, tx, at_, fin, chan, lateOk, .asked who, none⟩)

/-- SYNTH_LOCKED (R318): The synthesiser locks and the transceiver reaches READY and serves its queue. -/
def execSynthLocked (t : Nat) (xc : Xc) (s : State) : Host.Outcome State Fault Refusal :=
  .next (s.run t fun s => s.whenLive fun s => s.synthLocked xc)

/-- SYNTH_LOCK_TIMEOUT (R326): A synthesiser has not locked 150 µs into SETTLING and runs OSC calibration, then retries once or fails. -/
def execSynthLockTimeout (t : Nat) (xc : Xc) (s : State) : Host.Outcome State Fault Refusal :=
  .next (s.run t fun s => s.whenLive fun s => s.synthTimeout xc)

/-- PACKET_END (R320): A packet ends and the transceiver goes to its next planned state or to RfcAutoReturn. -/
def execPacketEnd (t : Nat) (xc : Xc) (planned : Option Bool) (s : State) : Host.Outcome State Fault Refusal :=
  .next (s.run t fun s => s.whenLive fun s => s.packetEndRow xc planned)

/-- KEEP_READY_EXPIRY (R321): RfcKeepReady expires in READY with nothing queued, and the transceiver goes to IDLE. -/
def execKeepReadyExpiry (t : Nat) (xc : Xc) (s : State) : Host.Outcome State Fault Refusal :=
  .next (s.run t fun s => s.whenLive fun s => s.keepReadyEnd xc)

/-- OFF_DELAY_EXPIRY (R321): RfcOffDelay expires in IDLE, and the transceiver goes to OFF. -/
def execOffDelayExpiry (t : Nat) (xc : Xc) (s : State) : Host.Outcome State Fault Refusal :=
  .next (s.run t fun s => s.whenLive fun s => s.offDelayEnd xc)

/-- GAP_CALIBRATION_START (R330): A due gap calibration starts when a gap long enough exists. -/
def execGapCalibrationStart (t : Nat) (xc : Xc) (s : State) : Host.Outcome State Fault Refusal :=
  .next (s.run t fun s => s.whenLive fun s => s.gapCal xc)

/-- FORCED_CALIBRATION_START (R331): A forced calibration starts at the first moment outside a round or connection event. -/
def execForcedCalibrationStart (t : Nat) (xc : Xc) (s : State) : Host.Outcome State Fault Refusal :=
  .next (s.run t fun s => s.whenLive fun s => s.forcedCal xc)

/-- CALIBRATION_DONE (R328): A calibration ends and its result is stored or rejected against its acceptance limit. -/
def execCalibrationDone (t : Nat) (xc : Xc) (vals : List Int) (metric : Int) (s : State) : Host.Outcome State Fault Refusal :=
  .next (s.run t fun s => s.whenLive fun s => s.calDoneRow xc vals metric)

/-- RFC_CAL_RUN (R351): RfcCalRun requests the named calibrations. -/
def execRfcCalRun (t : Nat) (r : Requester) (arg : Nat) (s : State) : Host.Outcome State Fault Refusal :=
  .next (s.run t fun s => s.ask r 3 0x3210 0 [BitVec.ofNat 8 arg])

end Sys2Proof.Machine
end

