-- ==== Sys2Proof/Machine/CmdSegment.lean ====
section
/-! DEFINITION. The meanings of the commands of segments, workers and the twin pair (16), one definition per command. -/
namespace Sys2Proof.Machine

/-- UWB_SYNC (R616): An anchor SYNC frame is received and its stamp is kept as a time record. -/
def execUwbSync (t : Nat) (slot : Nat) (psdu : Bytes) (air : AirRx) (s : State) : Host.Outcome State Fault Refusal :=
  .next (s.run t fun s => s.whenLive fun s => s.uwbSync slot psdu air)

/-- HEARTBEAT (R618): A HEARTBEAT is received, refreshing the peer or manager and starting reconciliation if needed. -/
def execHeartbeat (t : Nat) (p : Bytes) (wl : Bool) (s : State) : Host.Outcome State Fault Refusal :=
  .next (s.run t fun s => s.segRow 0x20 p wl fun s => s.heartbeatIn p wl)

/-- HEARTBEAT_PERIOD (R618): The heartbeat period expires and a HEARTBEAT is sent. -/
def execHeartbeatPeriod (t : Nat) (wl : Bool) (s : State) : Host.Outcome State Fault Refusal :=
  .next (s.run t fun s => s.whenLive fun s => s.heartbeatPeriod wl)

/-- PRESENCE (R626): A PRESENCE is received and worker state and witness counts are updated. -/
def execPresence (t : Nat) (p : Bytes) (s : State) : Host.Outcome State Fault Refusal :=
  .next (s.run t fun s => s.segRow 0x21 p false fun s => s.presenceRx p)

/-- PRESENCE_PERIOD (R607): SegBeatPeriod expires and a worker broadcasts PRESENCE. -/
def execPresencePeriod (t : Nat) (s : State) : Host.Outcome State Fault Refusal :=
  .next (s.run t fun s => s.whenLive State.presencePeriod)

/-- ROUND_PLAN (R610): An anchor receives a ROUND_PLAN and loads its round keys, or counts it late. -/
def execRoundPlan (t : Nat) (p : Bytes) (s : State) : Host.Outcome State Fault Refusal :=
  .next (s.run t fun s => s.segRow 0x22 p false fun s => s.planIn p)

/-- REPORT (R614): The manager receives a segment REPORT and routes its items, time records and events. -/
def execReport (t : Nat) (p : Bytes) (s : State) : Host.Outcome State Fault Refusal :=
  .next (s.run t fun s => s.segRow 0x23 p false fun s => s.reportIn p)

/-- LF_REQUEST (R613): A worker receives LF_REQUEST and runs the LF exchange. -/
def execLfRequest (t : Nat) (p : Bytes) (s : State) : Host.Outcome State Fault Refusal :=
  .next (s.run t fun s => s.segRow 0x24 p false fun s => s.lfRequestIn p)

/-- JOIN (R605): A twin receives a JOIN, derives K_ws and answers JOIN_ACK. -/
def execJoin (t : Nat) (p : Bytes) (s : State) : Host.Outcome State Fault Refusal :=
  .next (s.run t fun s => s.segRow 0x25 p false fun s => s.joinIn p)

/-- JOIN_ACK (R605): A worker receives JOIN_ACK and opens its session. -/
def execJoinAck (t : Nat) (p : Bytes) (s : State) : Host.Outcome State Fault Refusal :=
  .next (s.run t fun s => s.segRow 0x26 p false fun s => s.joinAck p)

/-- JOIN_REPEAT (R605): 100 ms pass without a JOIN_ACK and the JOIN is sent again. -/
def execJoinRepeat (t : Nat) (s : State) : Host.Outcome State Fault Refusal :=
  .next (s.run t fun s => s.whenLive State.joinRepeat)

/-- WORKER_LOST (R606): Three SegBeatPeriods pass without PRESENCE, and the worker becomes LOST. -/
def execWorkerLost (t : Nat) (node : Nat) (s : State) : Host.Outcome State Fault Refusal :=
  .next (s.run t fun s => s.whenLive fun s => s.workerGone node)

/-- MGR_LOSS (R607): SegMgrLossTime passes without a manager HEARTBEAT at a worker. -/
def execMgrLoss (t : Nat) (s : State) : Host.Outcome State Fault Refusal :=
  .next (s.run t fun s => s.whenLive State.mgrLoss)

/-- PEER_LOSS (R625): Three periods pass without the peer's HEARTBEAT on a path, and TwinState changes. -/
def execPeerLoss (t : Nat) (wl : Bool) (s : State) : Host.Outcome State Fault Refusal :=
  .next (s.run t fun s => s.whenLive fun s => s.peerLoss wl)

/-- TWIN_RESOLUTION_TIMEOUT (R626): An unresolved SUSPECT twin becomes ISOLATED. -/
def execTwinResolutionTimeout (t : Nat) (s : State) : Host.Outcome State Fault Refusal :=
  .next (s.run t fun s => s.whenLive State.twinResolution)

/-- ELECTION_TIMEOUT (R620): No peer is heard within 20 ms at start-up. -/
def execElectionTimeout (t : Nat) (s : State) : Host.Outcome State Fault Refusal :=
  .next (s.run t fun s => s.whenLive State.electionTimeout)

/-- MIRROR (R622): The standby receives a MIRROR change and applies it. -/
def execMirror (t : Nat) (p : Bytes) (wl : Bool) (s : State) : Host.Outcome State Fault Refusal :=
  .next (s.run t fun s => s.segRow 0x2A p wl fun s => s.mirrorIn p)

/-- TIN_DIGEST (R621): The standby compares area digests and pulls areas that differ. -/
def execTinDigest (t : Nat) (p : Bytes) (wl : Bool) (s : State) : Host.Outcome State Fault Refusal :=
  .next (s.run t fun s => s.segRow 0x2C p wl fun s => s.tinDigestIn p)

/-- TIN_PULL (R621): A request for an area is answered with TIN_DATA. -/
def execTinPull (t : Nat) (p : Bytes) (wl : Bool) (s : State) : Host.Outcome State Fault Refusal :=
  .next (s.run t fun s => s.segRow 0x2D p wl fun s => s.tinPullIn p)

/-- TIN_DATA (R621): Area data is applied by the area's rule. -/
def execTinData (t : Nat) (p : Bytes) (wl : Bool) (s : State) : Host.Outcome State Fault Refusal :=
  .next (s.run t fun s => s.segRow 0x2E p wl fun s => s.tinDataIn p)

/-- TIN_PERIOD (R621): TwinTinPeriod expires and a Tinning run starts. -/
def execTinPeriod (t : Nat) (s : State) : Host.Outcome State Fault Refusal :=
  .next (s.run t fun s => s.whenLive State.tinPeriod)

/-- TWIN_TIN_RUN (R621): TwinTinRun starts a full Tinning. -/
def execTwinTinRun (t : Nat) (r : Requester) (s : State) : Host.Outcome State Fault Refusal :=
  .next (s.run t fun s => s.ask r 3 0x4305 0 [])

/-- TWIN_TAKEOVER (R630): TwinTakeover promotes a SUSPECT or ISOLATED standby without a witness. -/
def execTwinTakeover (t : Nat) (r : Requester) (arg : Bytes) (s : State) : Host.Outcome State Fault Refusal :=
  .next (s.run t fun s => s.ask r 3 0x4306 0 arg)

/-- COMMIT (R624): The standby judges a COMMIT against its mirror, writes its record and answers COMMIT_ACK. -/
def execCommit (t : Nat) (p : Bytes) (wl : Bool) (s : State) : Host.Outcome State Fault Refusal :=
  .next (s.run t fun s => s.segRow 0x28 p wl fun s => s.commitIn p)

/-- COMMIT_ACK (R624): The manager receives COMMIT_ACK, completing the counter commit or raising last on REPLAY. -/
def execCommitAck (t : Nat) (p : Bytes) (wl : Bool) (s : State) : Host.Outcome State Fault Refusal :=
  .next (s.run t fun s => s.segRow 0x29 p wl fun s => s.commitAckIn p)

/-- COMMIT_RESEND (R624): TwinCommitTimeout passes without COMMIT_ACK and the COMMIT is resent. -/
def execCommitResend (t : Nat) (s : State) : Host.Outcome State Fault Refusal :=
  .next (s.run t fun s => s.whenLive State.commitResend)

end Sys2Proof.Machine
end

