-- ==== Sys2Proof/Machine/CmdTag.lean ====
section
/-! DEFINITION. The meanings of the commands of the Hallmark tag (11), one definition per command. -/
namespace Sys2Proof.Machine

/-- FIELD_POWER_UP (R434): The FIELD domain powers up and tear recovery starts. -/
def execFieldPowerUp (t : Nat) (byField : Bool) (s : State) : Host.Outcome State Fault Refusal :=
  .next (s.run t fun s => s.fieldUp byField)

/-- TEAR_RECOVERY_END (R434): Tear recovery finishes flags and staged host writes, and the tag enters IDLE. -/
def execTearRecoveryEnd (t : Nat) (s : State) : Host.Outcome State Fault Refusal :=
  .next (s.run t State.tearEnd)

/-- FIELD_LOSS (R422): The reader's field is lost; the tag session and field transaction end. -/
def execFieldLoss (t : Nat) (step : Nat) (s : State) : Host.Outcome State Fault Refusal :=
  .next (s.run t fun s => s.fieldLoss step)

/-- REQA (R422): REQA moves the tag from IDLE to READY. -/
def execReqa (t : Nat) (s : State) : Host.Outcome State Fault Refusal :=
  .next (s.run t fun s => s.tagWake false)

/-- WUPA (R422): WUPA moves the tag from IDLE or HALT to READY. -/
def execWupa (t : Nat) (s : State) : Host.Outcome State Fault Refusal :=
  .next (s.run t fun s => s.tagWake true)

/-- ANTICOLLISION (R423): An anticollision or cascade SELECT frame is answered, reaching ACTIVE on the full UID. -/
def execAnticollision (t : Nat) (level : Nat) (select : Bool) (known : Bytes) (s : State) : Host.Outcome State Fault Refusal :=
  .next (s.run t fun s => s.tagAnticoll level select known)

/-- RATS (R436): RATS is answered with the ATS and opens a field transaction. -/
def execRats (t : Nat) (s : State) : Host.Outcome State Fault Refusal :=
  .next (s.run t State.tagRats)

/-- PPS_REQUEST (R423): A PPS request is answered only for 106 kbit/s. -/
def execPpsRequest (t : Nat) (pps1 : Nat) (s : State) : Host.Outcome State Fault Refusal :=
  .next (s.run t fun s => s.tagPps pps1)

/-- HLTA (R422): HLTA sends the tag to HALT and ends the field transaction. -/
def execHlta (t : Nat) (s : State) : Host.Outcome State Fault Refusal :=
  .next (s.run t State.tagHlta)

/-- S_DESELECT (R422): S(DESELECT) sends the tag to HALT and ends the field transaction. -/
def execSDeselect (t : Nat) (s : State) : Host.Outcome State Fault Refusal :=
  .next (s.run t State.tagDeselect)

/-- SELECT_APPLICATION (R424): SELECT by AID selects the NDEF or Hallmark application and ends any authentication. -/
def execSelectApplication (t : Nat) (aid : Bytes) (s : State) : Host.Outcome State Fault Refusal :=
  .next (s.run t fun s => s.tagSelectApp aid)

/-- SELECT_FILE (R425): SELECT of the CC or NDEF file in the NDEF application. -/
def execSelectFile (t : Nat) (fid : Nat) (s : State) : Host.Outcome State Fault Refusal :=
  .next (s.run t fun s => s.tagSelectFile fid)

/-- READ_BINARY (R425): READ BINARY of the selected NDEF file. -/
def execReadBinary (t : Nat) (off le : Nat) (s : State) : Host.Outcome State Fault Refusal :=
  .next (s.run t fun s => s.tagReadBinary off le)

/-- UPDATE_BINARY (R425): UPDATE BINARY is answered with 69 82. -/
def execUpdateBinary (t : Nat) (s : State) : Host.Outcome State Fault Refusal :=
  .next (s.run t State.tagUpdateBinary)

/-- GET_INFO (R426): GET_INFO returns the UID, version, record count, power source and serial number. -/
def execGetInfo (t : Nat) (s : State) : Host.Outcome State Fault Refusal :=
  .next (s.run t State.tagGetInfo)

/-- AUTH_BEGIN (R427): AUTH_BEGIN raises the nonce count and returns RndT. -/
def execAuthBegin (t : Nat) (key : Nat) (s : State) : Host.Outcome State Fault Refusal :=
  .next (s.run t fun s => s.tagAuthBegin key)

/-- AUTH_FINISH (R427): AUTH_FINISH verifies the reader MAC, opens a session or counts a failure. -/
def execAuthFinish (t : Nat) (key : Nat) (data : Bytes) (s : State) : Host.Outcome State Fault Refusal :=
  .next (s.run t fun s => s.tagAuthFinish key data)

/-- GET_RECORD_INFO (R426): GET_RECORD_INFO returns LEN, SEQ and ACL of a record. -/
def execGetRecordInfo (t : Nat) (n : Nat) (s : State) : Host.Outcome State Fault Refusal :=
  .next (s.run t fun s => s.tagGetRecordInfo n)

/-- READ_RECORD (R428): A field READ_RECORD is served under the ACL and session MAC rules, or deferred with S(WTX) behind a host write. -/
def execReadRecord (t : Nat) (n : Nat) (data : Bytes) (s : State) : Host.Outcome State Fault Refusal :=
  .next (s.run t fun s => s.tagRecordCmd false n data)

/-- WRITE_RECORD (R433): A field WRITE_RECORD is checked and starts the five-step write. -/
def execWriteRecord (t : Nat) (n : Nat) (data : Bytes) (s : State) : Host.Outcome State Fault Refusal :=
  .next (s.run t fun s => s.tagRecordCmd true n data)

/-- TAG_BAD_APDU (R426): An APDU with unknown CLA, INS, record or length is answered with its error status word. -/
def execTagBadApdu (t : Nat) (cla ins p1 : Nat) (s : State) : Host.Outcome State Fault Refusal :=
  .next (s.run t fun s => s.tagBadApdu cla ins p1)

/-- TAG_WRITE_DONE (R433): A five-step tag write reaches step 5; the new value stands and any deferred field command is served. -/
def execTagWriteDone (t : Nat) (s : State) : Host.Outcome State Fault Refusal :=
  .next (s.run t State.tagWriteRow)

/-- TAG_REC_WRITE (R435): TagRecWrite stages a host record write and starts the five steps. -/
def execTagRecWrite (t : Nat) (r : Requester) (n : Nat) (data : Bytes) (s : State) : Host.Outcome State Fault Refusal :=
  .next (s.run t fun s => s.ask r 3 0x3612 0 (BitVec.ofNat 8 n :: toLe 2 data.length ++ data))

/-- TAG_REC_ACL_WRITE (R433): A host write of TagRecAcl runs the five steps to change a record's ACL. -/
def execTagRecAclWrite (t : Nat) (r : Requester) (acl : Nat) (s : State) : Host.Outcome State Fault Refusal :=
  .next (s.run t fun s => s.ask r 2 0x3611 2 [BitVec.ofNat 8 acl])

/-- TAG_NDEF_STAGE (R439): TagNdefStage writes data into the NDEF shadow body. -/
def execTagNdefStage (t : Nat) (r : Requester) (off : Nat) (data : Bytes) (s : State) : Host.Outcome State Fault Refusal :=
  .next (s.run t fun s => s.ask r 3 0x3621 0 (toLe 2 off ++ data))

/-- TAG_NDEF_COMMIT (R439): TagNdefCommit writes NLEN and commits the NDEF shadow by steps 3 to 5. -/
def execTagNdefCommit (t : Nat) (r : Requester) (nlen : Nat) (s : State) : Host.Outcome State Fault Refusal :=
  .next (s.run t fun s => s.ask r 3 0x3622 0 (toLe 2 nlen))

/-- TAG_KEY_WRITE (R496): A wrapped TAG blob is written to a Hallmark tag key. -/
def execTagKeyWrite (t : Nat) (r : Requester) (k : Nat) (blob : Bytes) (s : State) : Host.Outcome State Fault Refusal :=
  .next (s.run t fun s => s.ask r 2 0x3630 (k + 1) blob)

/-- TAG_KEY_UNBLOCK (R430): TagKeyUnblock clears the failure count of a tag key. -/
def execTagKeyUnblock (t : Nat) (r : Requester) (k : Nat) (s : State) : Host.Outcome State Fault Refusal :=
  .next (s.run t fun s => s.ask r 3 0x3632 0 [BitVec.ofNat 8 k])

end Sys2Proof.Machine
end

