-- ==== Sys2Proof/Machine/CmdTimer.lean ====
section
/-! DEFINITION. The meanings of the commands of the timers (17), one definition per command. -/
namespace Sys2Proof.Machine

/-- TMR_CTRL_WRITE (R655): A TmrCtrl write starts or stops a timer channel and sets its configuration. -/
def execTmrCtrlWrite (t : Nat) (r : Requester) (n v : Nat) (s : State) : Host.Outcome State Fault Refusal :=
  .next (s.run t fun s => s.ask r 2 (0x1210 + n) 1 (toLe 4 v))

/-- TMR_END_WRITE (R655): A TmrEnd write sets END, possibly stopping the channel, or sets TOP as R658 states. -/
def execTmrEndWrite (t : Nat) (r : Requester) (n v : Nat) (s : State) : Host.Outcome State Fault Refusal :=
  .next (s.run t fun s => s.ask r 2 (0x1210 + n) 3 (toLe 4 v))

/-- TMR_CMP_WRITE (R656): A TmrCmp write sets CMP or CMPA with the outcomes of R656. -/
def execTmrCmpWrite (t : Nat) (r : Requester) (n v : Nat) (s : State) : Host.Outcome State Fault Refusal :=
  .next (s.run t fun s => s.ask r 2 (0x1210 + n) 4 (toLe 4 v))

/-- TMR_STATUS_WRITE (R660): A TmrStatus write clears the status bits written as 1. -/
def execTmrStatusWrite (t : Nat) (r : Requester) (n v : Nat) (s : State) : Host.Outcome State Fault Refusal :=
  .next (s.run t fun s => s.ask r 2 (0x1210 + n) 7 (toLe 2 v))

/-- TMR_CAPTURE_READ (R659): A read of TmrCapture returns the capture and clears CAPTURE. -/
def execTmrCaptureRead (t : Nat) (r : Requester) (n : Nat) (s : State) : Host.Outcome State Fault Refusal :=
  .next (s.run t fun s => s.ask r 1 (0x1210 + n) 6 [])

/-- TMR_COUNT_END (R655): A timeout-class count equals END and the channel stops. -/
def execTmrCountEnd (t : Nat) (n : Nat) (s : State) : Host.Outcome State Fault Refusal :=
  .next (s.run t fun s => s.whenLive fun s => s.tmrSettle n)

/-- TMR_MATCH (R656): The count equals CMP or CMPA and MATCH is set. -/
def execTmrMatch (t : Nat) (n : Nat) (s : State) : Host.Outcome State Fault Refusal :=
  .next (s.run t fun s => s.whenLive fun s => s.tmrSettle n)

/-- TMR_MATCH_B (R657): A waveform count equals CMPB and MATCH_B is set. -/
def execTmrMatchB (t : Nat) (n : Nat) (s : State) : Host.Outcome State Fault Refusal :=
  .next (s.run t fun s => s.whenLive fun s => s.tmrSettle n)

/-- TMR_ZERO_TURN (R657): A waveform count reaches 0, END is set and a pending TOP takes effect. -/
def execTmrZeroTurn (t : Nat) (n : Nat) (s : State) : Host.Outcome State Fault Refusal :=
  .next (s.run t fun s => s.whenLive fun s => s.tmrSettle n)

/-- TMR_CAPTURE_EDGE (R659): A selected capture edge latches the count. -/
def execTmrCaptureEdge (t : Nat) (n src : Nat) (rising : Bool) (s : State) : Host.Outcome State Fault Refusal :=
  .next (s.run t fun s => s.whenLive fun s => s.tmrCapture n src rising)

end Sys2Proof.Machine
end

