-- ==== Sys2Proof/Machine/CmdTouchstone.lean ====
section
/-! DEFINITION. The meanings of the commands of Touchstone (05), one definition per command. -/
namespace Sys2Proof.Machine

/-- EVIDENCE_ITEM (R210): An evidence item is admitted or rejected by Touchstone's checks, and the open requests of its session are evaluated. -/
def execEvidenceItem (t : Nat) (item : Bytes) (own : Option Nat) (s : State) : Host.Outcome State Fault Refusal :=
  .next (s.run t fun s => s.whenLive fun s => if item.length = 16 then s.tsAdmit (Item.ofBytes item) own else s)

/-- EVALUATION_DONE (R231): An evaluation completes after 50 CKS cycles: the request closes SATISFIED or stays open. -/
def execEvaluationDone (t : Nat) (s : State) : Host.Outcome State Fault Refusal :=
  .next (s.run t fun s => s.whenLive State.evalDone)

/-- REQUEST_WINDOW_END (R231): A request's TsPolicyWindow ends and its final evaluation closes it with NO_ZONE unless it is satisfied. -/
def execRequestWindowEnd (t : Nat) (tsh gate : Nat) (s : State) : Host.Outcome State Fault Refusal :=
  .next (s.run t fun s => s.whenLive fun s => s.windowEnd tsh gate)

/-- VETO_HOLD_END (R215): TsVetoHold expires and the session's veto lifts. -/
def execVetoHoldEnd (t : Nat) (s : State) : Host.Outcome State Fault Refusal :=
  .next (s.run t fun s => s.whenLive State.vetoEnd)

/-- ROUND_GRACE_EXPIRY (R234): TsRoundGrace has passed since the last demanded round with the request unsatisfied, and the ranging demand is
renewed. -/
def execRoundGraceExpiry (t : Nat) (tsh gate : Nat) (s : State) : Host.Outcome State Fault Refusal :=
  .next (s.run t fun s => s.whenLive fun s => s.graceEnd tsh gate)

/-- VERDICT_EXPIRY (R235): A SATISFIED verdict expires before its seal and the request reopens. -/
def execVerdictExpiry (t : Nat) (tsh gate : Nat) (s : State) : Host.Outcome State Fault Refusal :=
  .next (s.run t fun s => s.whenLive fun s => s.verdictExpire tsh gate)

/-- TS_APPLY (R222): TsApply checks the pending zone table and, if it is valid, makes it the table in force. -/
def execTsApply (t : Nat) (r : Requester) (s : State) : Host.Outcome State Fault Refusal :=
  .next (s.run t fun s => s.ask r 3 0x2301 0 [])

end Sys2Proof.Machine
end

