-- ==== Sys2Proof/Machine/CmdUwb.lean ====
section
/-! DEFINITION. The meanings of the commands of UWB ranging (07), one definition per command. -/
namespace Sys2Proof.Machine

/-- BLOCK_START (R291): A ranging block starts and an in-block round is planned. -/
def execBlockStart (t : Nat) (tsh : Nat) (s : State) : Host.Outcome State Fault Refusal :=
  .next (s.run t fun s => s.whenLive fun s => s.blockStart tsh)

/-- OPPORTUNITY_START (R293): A 2 ms opportunity starts: the planned round launches, and a sync round is planned if none has been launched
within UwbSyncPeriod. -/
def execOpportunityStart (t : Nat) (s : State) : Host.Outcome State Fault Refusal :=
  .next (s.run t fun s => s.whenLive State.opportunity)

/-- UWB_FRAME_LAUNCH (R280): A timed UWB frame reaches its launch time and is sent, or is dropped with LATE. -/
def execUwbFrameLaunch (t : Nat) (slot onAir : Nat) (s : State) : Host.Outcome State Fault Refusal :=
  .next (s.run t fun s => s.whenLive fun s => s.frameLaunch slot onAir)

/-- UWB_RESPONSE (R304): The phone's RESPONSE is received, stamped and checked, and an AOA item may be made. -/
def execUwbResponse (t : Nat) (psdu : Bytes) (air : AirRx) (s : State) : Host.Outcome State Fault Refusal :=
  .next (s.run t fun s => s.whenLive fun s => s.uwbResponse psdu air)

/-- UWB_REPORT (R305): The phone's REPORT is received and the anchor computes its TWR item. -/
def execUwbReport (t : Nat) (psdu : Bytes) (s : State) : Host.Outcome State Fault Refusal :=
  .next (s.run t fun s => s.whenLive fun s => s.uwbReport psdu)

/-- BLINK (R309): A phone BLINK of a TDOA round is received and stamped. -/
def execBlink (t : Nat) (psdu : Bytes) (air : AirRx) (s : State) : Host.Outcome State Fault Refusal :=
  .next (s.run t fun s => s.whenLive fun s => s.blink psdu air)

/-- ROUND_CLOSE (R310): A round's last slot ends: items are sent as a REPORT, round keys are erased and misses are counted. -/
def execRoundClose (t : Nat) (s : State) : Host.Outcome State Fault Refusal :=
  .next (s.run t fun s => s.whenLive State.roundClose)

/-- UWB_AUX_TX (R312): UwbAuxTx queues a timed auxiliary SP0 frame. -/
def execUwbAuxTx (t : Nat) (r : Requester) (arg : Bytes) (s : State) : Host.Outcome State Fault Refusal :=
  .next (s.run t fun s => s.ask r 3 0x3060 0 arg)

/-- UWB_AUX_RX (R313): UwbAuxRx queues an auxiliary receive window. -/
def execUwbAuxRx (t : Nat) (r : Requester) (arg : Bytes) (s : State) : Host.Outcome State Fault Refusal :=
  .next (s.run t fun s => s.ask r 3 0x3061 0 arg)

/-- UWB_AUX_DONE (R314): An auxiliary request completes with its stamp or frame, or with LATE or ROUND_HELD. -/
def execUwbAuxDone (t : Nat) (onAir : Nat) (rx : Option (Bytes × AirRx)) (s : State) : Host.Outcome State Fault Refusal :=
  .next (s.run t fun s => s.whenLive fun s => s.auxDoneRow onAir rx)

end Sys2Proof.Machine
end

