-- ==== Sys2Proof/Machine/Dispatch.lean ====
section
/-! DEFINITION. The dispatch of a command to its meaning: one arm per row of the command table. -/
namespace Sys2Proof.Machine

/-- What a command does to the state but for the queue. -/
def exec (i : Instr) (s : State) : Host.Outcome State Fault Refusal :=
  match i with
  | .spiStatus t => Sys2Proof.Machine.execSpiStatus t s
  | .spiWriteReq t pdu => Sys2Proof.Machine.execSpiWriteReq t pdu s
  | .spiReadRsp t n => Sys2Proof.Machine.execSpiReadRsp t n s
  | .spiReadNtf t n => Sys2Proof.Machine.execSpiReadNtf t n s
  | .spiUndefinedCommand t cmd n => Sys2Proof.Machine.execSpiUndefinedCommand t cmd n s
  | .dictResponseReady t => Sys2Proof.Machine.execDictResponseReady t s
  | .write t r idx sub data => Sys2Proof.Machine.execWrite t r idx sub data s
  | .pendingValueApply t idx sub => Sys2Proof.Machine.execPendingValueApply t idx sub s
  | .subscribe t r idx sub mode period gap => Sys2Proof.Machine.execSubscribe t r idx sub mode period gap s
  | .unsubscribe t r idx sub => Sys2Proof.Machine.execUnsubscribe t r idx sub s
  | .notifyPeriodic t r idx sub => Sys2Proof.Machine.execNotifyPeriodic t r idx sub s
  | .loginHello t via seq d => Sys2Proof.Machine.execLoginHello t via seq d s
  | .loginProof t via seq d => Sys2Proof.Machine.execLoginProof t via seq d s
  | .logout t sid seq => Sys2Proof.Machine.execLogout t sid seq s
  | .loginProofTimeout t sid => Sys2Proof.Machine.execLoginProofTimeout t sid s
  | .sessionIdleTimeout t sid => Sys2Proof.Machine.execSessionIdleTimeout t sid s
  | .requesterLockoutEnd t rid => Sys2Proof.Machine.execRequesterLockoutEnd t rid s
  | .dictFrameT1s t da sa payload => Sys2Proof.Machine.execDictFrameT1s t da sa payload s
  | .canFdSegment t c id d => Sys2Proof.Machine.execCanFdSegment t c id d s
  | .canFdSegmentTimeout t c => Sys2Proof.Machine.execCanFdSegmentTimeout t c s
  | .canXlDictFrame t c id sdt d => Sys2Proof.Machine.execCanXlDictFrame t c id sdt d s
  | .wairilFrame t raw fills => Sys2Proof.Machine.execWairilFrame t raw fills s
  | .v1Read t f => Sys2Proof.Machine.execV1Read t f s
  | .v1Write t f => Sys2Proof.Machine.execV1Write t f s
  | .unlockReq t f => Sys2Proof.Machine.execUnlockReq t f s
  | .unlockProof t f => Sys2Proof.Machine.execUnlockProof t f s
  | .v1UnlockExpiry t => Sys2Proof.Machine.execV1UnlockExpiry t s
  | .v1LockoutEnd t => Sys2Proof.Machine.execV1LockoutEnd t s
  | .devCommit t r => Sys2Proof.Machine.execDevCommit t r s
  | .devCommitDone t ok => Sys2Proof.Machine.execDevCommitDone t ok s
  | .devRestoreDefaults t r => Sys2Proof.Machine.execDevRestoreDefaults t r s
  | .devResetSystem t r => Sys2Proof.Machine.execDevResetSystem t r s
  | .devResetCold t r => Sys2Proof.Machine.execDevResetCold t r s
  | .devSelfTest t r => Sys2Proof.Machine.execDevSelfTest t r s
  | .devSelfTestDone t fail sealBad => Sys2Proof.Machine.execDevSelfTestDone t fail sealBad s
  | .credClockConfirm t r ceiling => Sys2Proof.Machine.execCredClockConfirm t r ceiling s
  | .credRevoke t r arg => Sys2Proof.Machine.execCredRevoke t r arg s
  | .vcSecond t => Sys2Proof.Machine.execVcSecond t s
  | .floorPeriod t => Sys2Proof.Machine.execFloorPeriod t s
  | .resyncTimeout t => Sys2Proof.Machine.execResyncTimeout t s
  | .journalRecordDone t ok => Sys2Proof.Machine.execJournalRecordDone t ok s
  | .compactionStart t => Sys2Proof.Machine.execCompactionStart t s
  | .compactionPass t => Sys2Proof.Machine.execCompactionPass t s
  | .compactionSwitch t => Sys2Proof.Machine.execCompactionSwitch t s
  | .tokenProof t car m => Sys2Proof.Machine.execTokenProof t car m s
  | .credProof t car m => Sys2Proof.Machine.execCredProof t car m s
  | .attest t car m => Sys2Proof.Machine.execAttest t car m s
  | .enrolCode t car m => Sys2Proof.Machine.execEnrolCode t car m s
  | .enrolRequest t car m => Sys2Proof.Machine.execEnrolRequest t car m s
  | .revokeRequest t car m => Sys2Proof.Machine.execRevokeRequest t car m s
  | .endMessage t car m => Sys2Proof.Machine.execEndMessage t car m s
  | .zariqueDrop t car m => Sys2Proof.Machine.execZariqueDrop t car m s
  | .challenge t conn => Sys2Proof.Machine.execChallenge t conn s
  | .prompt t conn => Sys2Proof.Machine.execPrompt t conn s
  | .rangingSetup t conn => Sys2Proof.Machine.execRangingSetup t conn s
  | .keyDeliveryAck t car => Sys2Proof.Machine.execKeyDeliveryAck t car s
  | .challengeExpiry t => Sys2Proof.Machine.execChallengeExpiry t s
  | .doorOpenEdge t n level held => Sys2Proof.Machine.execDoorOpenEdge t n level held s
  | .entryTimeout t => Sys2Proof.Machine.execEntryTimeout t s
  | .startTimeout t => Sys2Proof.Machine.execStartTimeout t s
  | .ignInFall t => Sys2Proof.Machine.execIgnInFall t s
  | .ignInRise t => Sys2Proof.Machine.execIgnInRise t s
  | .lockoutEnd t => Sys2Proof.Machine.execLockoutEnd t s
  | .lockoutPersist t => Sys2Proof.Machine.execLockoutPersist t s
  | .learnWindowExpiry t => Sys2Proof.Machine.execLearnWindowExpiry t s
  | .accLearnCancel t r => Sys2Proof.Machine.execAccLearnCancel t r s
  | .accRevokeToken t r tid => Sys2Proof.Machine.execAccRevokeToken t r tid s
  | .accLockoutClear t r arg => Sys2Proof.Machine.execAccLockoutClear t r arg s
  | .accEnrolImport t r arg => Sys2Proof.Machine.execAccEnrolImport t r arg s
  | .evidenceItem t item own => Sys2Proof.Machine.execEvidenceItem t item own s
  | .evaluationDone t => Sys2Proof.Machine.execEvaluationDone t s
  | .requestWindowEnd t tsh gate => Sys2Proof.Machine.execRequestWindowEnd t tsh gate s
  | .vetoHoldEnd t => Sys2Proof.Machine.execVetoHoldEnd t s
  | .roundGraceExpiry t tsh gate => Sys2Proof.Machine.execRoundGraceExpiry t tsh gate s
  | .verdictExpiry t tsh gate => Sys2Proof.Machine.execVerdictExpiry t tsh gate s
  | .tsApply t r => Sys2Proof.Machine.execTsApply t r s
  | .sealIssue t tsh gate => Sys2Proof.Machine.execSealIssue t tsh gate s
  | .pulseEnd t isB n => Sys2Proof.Machine.execPulseEnd t isB n s
  | .deadTimeEnd t grp => Sys2Proof.Machine.execDeadTimeEnd t grp s
  | .gateLock t r => Sys2Proof.Machine.execGateLock t r s
  | .gateRbSample t gate level => Sys2Proof.Machine.execGateRbSample t gate level s
  | .startEnLimit t => Sys2Proof.Machine.execStartEnLimit t s
  | .gateFaultClear t r gate => Sys2Proof.Machine.execGateFaultClear t r gate s
  | .gateQuench t r arg => Sys2Proof.Machine.execGateQuench t r arg s
  | .sealPathFault t => Sys2Proof.Machine.execSealPathFault t s
  | .immoChallenge t f => Sys2Proof.Machine.execImmoChallenge t f s
  | .immoAck t f => Sys2Proof.Machine.execImmoAck t f s
  | .immoReleasePeriod t => Sys2Proof.Machine.execImmoReleasePeriod t s
  | .immoWaitExpiry t => Sys2Proof.Machine.execImmoWaitExpiry t s
  | .limiterCut t lim ch => Sys2Proof.Machine.execLimiterCut t lim ch s
  | .gpioHoldExpiry t pin => Sys2Proof.Machine.execGpioHoldExpiry t pin s
  | .blockStart t tsh => Sys2Proof.Machine.execBlockStart t tsh s
  | .opportunityStart t => Sys2Proof.Machine.execOpportunityStart t s
  | .uwbFrameLaunch t slot onAir => Sys2Proof.Machine.execUwbFrameLaunch t slot onAir s
  | .uwbResponse t psdu air => Sys2Proof.Machine.execUwbResponse t psdu air s
  | .uwbReport t psdu => Sys2Proof.Machine.execUwbReport t psdu s
  | .blink t psdu air => Sys2Proof.Machine.execBlink t psdu air s
  | .uwbSync t slot psdu air => Sys2Proof.Machine.execUwbSync t slot psdu air s
  | .uwbRxWindowEnd t => Sys2Proof.Machine.execUwbRxWindowEnd t s
  | .roundClose t => Sys2Proof.Machine.execRoundClose t s
  | .uwbAuxTx t r arg => Sys2Proof.Machine.execUwbAuxTx t r arg s
  | .uwbAuxRx t r arg => Sys2Proof.Machine.execUwbAuxRx t r arg s
  | .uwbAuxDone t onAir rx => Sys2Proof.Machine.execUwbAuxDone t onAir rx s
  | .transceiverRequest t xc cls tx at_ fin chan lateOk who => Sys2Proof.Machine.execTransceiverRequest t xc cls tx at_ fin chan lateOk who s
  | .synthLocked t xc => Sys2Proof.Machine.execSynthLocked t xc s
  | .synthLockTimeout t xc => Sys2Proof.Machine.execSynthLockTimeout t xc s
  | .packetEnd t xc planned => Sys2Proof.Machine.execPacketEnd t xc planned s
  | .keepReadyExpiry t xc => Sys2Proof.Machine.execKeepReadyExpiry t xc s
  | .offDelayExpiry t xc => Sys2Proof.Machine.execOffDelayExpiry t xc s
  | .gapCalibrationStart t xc => Sys2Proof.Machine.execGapCalibrationStart t xc s
  | .forcedCalibrationStart t xc => Sys2Proof.Machine.execForcedCalibrationStart t xc s
  | .calibrationDone t xc vals metric => Sys2Proof.Machine.execCalibrationDone t xc vals metric s
  | .rfcCalRun t r arg => Sys2Proof.Machine.execRfcCalRun t r arg s
  | .annealTick t temp => Sys2Proof.Machine.execAnnealTick t temp s
  | .advertisingEvent t onAir => Sys2Proof.Machine.execAdvertisingEvent t onAir s
  | .connectionOpen t interval latency timeout phy update => Sys2Proof.Machine.execConnectionOpen t interval latency timeout phy update s
  | .connectionClose t conn => Sys2Proof.Machine.execConnectionClose t conn s
  | .connectionEvent t conn overlap rssi dwell onAir more => Sys2Proof.Machine.execConnectionEvent t conn overlap rssi dwell onAir more s
  | .mtuExchange t conn mtu => Sys2Proof.Machine.execMtuExchange t conn mtu s
  | .cccdWrite t conn handle value => Sys2Proof.Machine.execCccdWrite t conn handle value s
  | .smpPairingRequest t conn => Sys2Proof.Machine.execSmpPairingRequest t conn s
  | .llEncReq t conn => Sys2Proof.Machine.execLlEncReq t conn s
  | .phyUpdate t conn phy => Sys2Proof.Machine.execPhyUpdate t conn phy s
  | .connectionParamRequest t conn interval latency timeout => Sys2Proof.Machine.execConnectionParamRequest t conn interval latency timeout s
  | .noSessionLimit t conn => Sys2Proof.Machine.execNoSessionLimit t conn s
  | .boostExpiry t => Sys2Proof.Machine.execBoostExpiry t s
  | .bleEngPublish t r arg => Sys2Proof.Machine.execBleEngPublish t r arg s
  | .bleEngNotify t r arg => Sys2Proof.Machine.execBleEngNotify t r arg s
  | .bleEngRelease t r arg => Sys2Proof.Machine.execBleEngRelease t r arg s
  | .bleEngRx t r arg => Sys2Proof.Machine.execBleEngRx t r arg s
  | .engineCharWrite t conn handle kind d => Sys2Proof.Machine.execEngineCharWrite t conn handle kind d s
  | .attRead t conn handle => Sys2Proof.Machine.execAttRead t conn handle s
  | .indicationConfirm t conn => Sys2Proof.Machine.execIndicationConfirm t conn s
  | .capScan t cs => Sys2Proof.Machine.execCapScan t cs s
  | .capConfirmMeasure t n c => Sys2Proof.Machine.execCapConfirmMeasure t n c s
  | .capStuck t n => Sys2Proof.Machine.execCapStuck t n s
  | .touchHandoff t n => Sys2Proof.Machine.execTouchHandoff t n s
  | .lfExchangeStart t vlf => Sys2Proof.Machine.execLfExchangeStart t vlf s
  | .lfDriveMeasure t peak phase short hot => Sys2Proof.Machine.execLfDriveMeasure t peak phase short hot s
  | .lfOvercurrentCut t => Sys2Proof.Machine.execLfOvercurrentCut t s
  | .lfCarrierReturn t => Sys2Proof.Machine.execLfCarrierReturn t s
  | .seg1 t halves => Sys2Proof.Machine.execSeg1 t halves s
  | .lfNoSync t => Sys2Proof.Machine.execLfNoSync t s
  | .seg2 t halves snr => Sys2Proof.Machine.execSeg2 t halves snr s
  | .reply t halves snr => Sys2Proof.Machine.execReply t halves snr s
  | .uid t halves => Sys2Proof.Machine.execUid t halves s
  | .confirm t halves => Sys2Proof.Machine.execConfirm t halves s
  | .lfDiagRun t r ch peak phase short hot ovr vlf => Sys2Proof.Machine.execLfDiagRun t r ch peak phase short hot ovr vlf s
  | .vlfRecover t vlf => Sys2Proof.Machine.execVlfRecover t vlf s
  | .nfcPing t p ext amp phase => Sys2Proof.Machine.execNfcPing t p ext amp phase s
  | .nfcActivation t p ext vnfc cur phase => Sys2Proof.Machine.execNfcActivation t p ext vnfc cur phase s
  | .nfcCardFrame t p step d => Sys2Proof.Machine.execNfcCardFrame t p step d s
  | .nfcReserveAttempt t p ext vnfc cur phase => Sys2Proof.Machine.execNfcReserveAttempt t p ext vnfc cur phase s
  | .nfcRApdu t p d => Sys2Proof.Machine.execNfcRApdu t p d s
  | .nfcResponseTimeout t p failed => Sys2Proof.Machine.execNfcResponseTimeout t p failed s
  | .nfcIdleEnd t p => Sys2Proof.Machine.execNfcIdleEnd t p s
  | .nfcExchangeMax t p => Sys2Proof.Machine.execNfcExchangeMax t p s
  | .nfcReactivate t p ext vnfc cur phase => Sys2Proof.Machine.execNfcReactivate t p ext vnfc cur phase s
  | .nfcOvercurrentCut t p => Sys2Proof.Machine.execNfcOvercurrentCut t p s
  | .nfcFaultClear t r arg => Sys2Proof.Machine.execNfcFaultClear t r arg s
  | .vnfcRecover t vnfc => Sys2Proof.Machine.execVnfcRecover t vnfc s
  | .fieldPowerUp t byField => Sys2Proof.Machine.execFieldPowerUp t byField s
  | .tearRecoveryEnd t => Sys2Proof.Machine.execTearRecoveryEnd t s
  | .fieldLoss t step => Sys2Proof.Machine.execFieldLoss t step s
  | .reqa t => Sys2Proof.Machine.execReqa t s
  | .wupa t => Sys2Proof.Machine.execWupa t s
  | .anticollision t level select known => Sys2Proof.Machine.execAnticollision t level select known s
  | .rats t => Sys2Proof.Machine.execRats t s
  | .ppsRequest t pps1 => Sys2Proof.Machine.execPpsRequest t pps1 s
  | .hlta t => Sys2Proof.Machine.execHlta t s
  | .sDeselect t => Sys2Proof.Machine.execSDeselect t s
  | .selectApplication t aid => Sys2Proof.Machine.execSelectApplication t aid s
  | .selectFile t fid => Sys2Proof.Machine.execSelectFile t fid s
  | .readBinary t off le => Sys2Proof.Machine.execReadBinary t off le s
  | .updateBinary t => Sys2Proof.Machine.execUpdateBinary t s
  | .getInfo t => Sys2Proof.Machine.execGetInfo t s
  | .authBegin t key => Sys2Proof.Machine.execAuthBegin t key s
  | .authFinish t key data => Sys2Proof.Machine.execAuthFinish t key data s
  | .getRecordInfo t n => Sys2Proof.Machine.execGetRecordInfo t n s
  | .readRecord t n data => Sys2Proof.Machine.execReadRecord t n data s
  | .writeRecord t n data => Sys2Proof.Machine.execWriteRecord t n data s
  | .tagBadApdu t cla ins p1 => Sys2Proof.Machine.execTagBadApdu t cla ins p1 s
  | .tagWriteDone t => Sys2Proof.Machine.execTagWriteDone t s
  | .tagRecWrite t r n data => Sys2Proof.Machine.execTagRecWrite t r n data s
  | .tagRecAclWrite t r acl => Sys2Proof.Machine.execTagRecAclWrite t r acl s
  | .tagNdefStage t r off data => Sys2Proof.Machine.execTagNdefStage t r off data s
  | .tagNdefCommit t r nlen => Sys2Proof.Machine.execTagNdefCommit t r nlen s
  | .tagKeyWrite t r k blob => Sys2Proof.Machine.execTagKeyWrite t r k blob s
  | .tagKeyUnblock t r k => Sys2Proof.Machine.execTagKeyUnblock t r k s
  | .cxSubmit t r d => Sys2Proof.Machine.execCxSubmit t r d s
  | .cxTakeResult t r => Sys2Proof.Machine.execCxTakeResult t r s
  | .cxBlockDone t core => Sys2Proof.Machine.execCxBlockDone t core s
  | .cxRequestDone t page => Sys2Proof.Machine.execCxRequestDone t page s
  | .keyImport t r arg => Sys2Proof.Machine.execKeyImport t r arg s
  | .keyGenerate t r arg => Sys2Proof.Machine.execKeyGenerate t r arg s
  | .keyDerive t r arg => Sys2Proof.Machine.execKeyDerive t r arg s
  | .keyExport t r arg => Sys2Proof.Machine.execKeyExport t r arg s
  | .keyErase t r arg => Sys2Proof.Machine.execKeyErase t r arg s
  | .keyZeroize t r arg => Sys2Proof.Machine.execKeyZeroize t r arg s
  | .keyZeroizeAll t r arg => Sys2Proof.Machine.execKeyZeroizeAll t r arg s
  | .zeroizeOverwriteDone t slot => Sys2Proof.Machine.execZeroizeOverwriteDone t slot s
  | .keyMirror t p wl => Sys2Proof.Machine.execKeyMirror t p wl s
  | .keyMirrorAck t p wl => Sys2Proof.Machine.execKeyMirrorAck t p wl s
  | .keyMirrorTimeout t => Sys2Proof.Machine.execKeyMirrorTimeout t s
  | .sourceSettled t src => Sys2Proof.Machine.execSourceSettled t src s
  | .assayBlock t src blk => Sys2Proof.Machine.execAssayBlock t src blk s
  | .sourceRestartDone t src => Sys2Proof.Machine.execSourceRestartDone t src s
  | .drbgReseed t => Sys2Proof.Machine.execDrbgReseed t s
  | .reseedLimit t => Sys2Proof.Machine.execReseedLimit t s
  | .drbgGenerate t => Sys2Proof.Machine.execDrbgGenerate t s
  | .rngRandom t r => Sys2Proof.Machine.execRngRandom t r s
  | .add t e => Sys2Proof.Machine.execAdd t e s
  | .sub t e => Sys2Proof.Machine.execSub t e s
  | .and_ t e => Sys2Proof.Machine.execAnd t e s
  | .or_ t e => Sys2Proof.Machine.execOr t e s
  | .xor_ t e => Sys2Proof.Machine.execXor t e s
  | .shl t e => Sys2Proof.Machine.execShl t e s
  | .shr t e => Sys2Proof.Machine.execShr t e s
  | .sar t e => Sys2Proof.Machine.execSar t e s
  | .addi t e => Sys2Proof.Machine.execAddi t e s
  | .andi t e => Sys2Proof.Machine.execAndi t e s
  | .ori t e => Sys2Proof.Machine.execOri t e s
  | .xori t e => Sys2Proof.Machine.execXori t e s
  | .shli t e => Sys2Proof.Machine.execShli t e s
  | .shri t e => Sys2Proof.Machine.execShri t e s
  | .sari t e => Sys2Proof.Machine.execSari t e s
  | .ldi t e => Sys2Proof.Machine.execLdi t e s
  | .lui t e => Sys2Proof.Machine.execLui t e s
  | .mul t e => Sys2Proof.Machine.execMul t e s
  | .muls t e => Sys2Proof.Machine.execMuls t e s
  | .mulResult t e => Sys2Proof.Machine.execMulResult t e s
  | .mov t e => Sys2Proof.Machine.execMov t e s
  | .clz t e => Sys2Proof.Machine.execClz t e s
  | .bswap t e => Sys2Proof.Machine.execBswap t e s
  | .cmp t e => Sys2Proof.Machine.execCmp t e s
  | .cmpi t e => Sys2Proof.Machine.execCmpi t e s
  | .plog t e => Sys2Proof.Machine.execPlog t e s
  | .ldw t e => Sys2Proof.Machine.execLdw t e s
  | .ldh t e => Sys2Proof.Machine.execLdh t e s
  | .ldb t e => Sys2Proof.Machine.execLdb t e s
  | .stw t e => Sys2Proof.Machine.execStw t e s
  | .sth t e => Sys2Proof.Machine.execSth t e s
  | .stb t e => Sys2Proof.Machine.execStb t e s
  | .ldwp t e => Sys2Proof.Machine.execLdwp t e s
  | .stwp t e => Sys2Proof.Machine.execStwp t e s
  | .ldo t e => Sys2Proof.Machine.execLdo t e s
  | .ldoReadRecord t e => Sys2Proof.Machine.execLdoReadRecord t e s
  | .sto t e => Sys2Proof.Machine.execSto t e s
  | .stoExec t e => Sys2Proof.Machine.execStoExec t e s
  | .engineDictComplete t e => Sys2Proof.Machine.execEngineDictComplete t e s
  | .br t e => Sys2Proof.Machine.execBr t e s
  | .call t e => Sys2Proof.Machine.execCall t e s
  | .ret t e => Sys2Proof.Machine.execRet t e s
  | .jr t e => Sys2Proof.Machine.execJr t e s
  | .callr t e => Sys2Proof.Machine.execCallr t e s
  | .rpt t e => Sys2Proof.Machine.execRpt t e s
  | .rptr t e => Sys2Proof.Machine.execRptr t e s
  | .mfs t e => Sys2Proof.Machine.execMfs t e s
  | .mts t e => Sys2Proof.Machine.execMts t e s
  | .wfe t e => Sys2Proof.Machine.execWfe t e s
  | .waitt t e => Sys2Proof.Machine.execWaitt t e s
  | .engineEventWake t e => Sys2Proof.Machine.execEngineEventWake t e s
  | .waittDeadline t e => Sys2Proof.Machine.execWaittDeadline t e s
  | .sev t e => Sys2Proof.Machine.execSev t e s
  | .stop t e => Sys2Proof.Machine.execStop t e s
  | .nop t e => Sys2Proof.Machine.execNop t e s
  | .illegalOp t e => Sys2Proof.Machine.execIllegalOp t e s
  | .engineWatchdog t e => Sys2Proof.Machine.execEngineWatchdog t e s
  | .trapRestart t e => Sys2Proof.Machine.execTrapRestart t e s
  | .breakpointHit t e => Sys2Proof.Machine.execBreakpointHit t e s
  | .engControlStart t r e => Sys2Proof.Machine.execEngControlStart t r e s
  | .engControlStop t r e => Sys2Proof.Machine.execEngControlStop t r e s
  | .engControlRestart t r e => Sys2Proof.Machine.execEngControlRestart t r e s
  | .engLoadBegin t r e total => Sys2Proof.Machine.execEngLoadBegin t r e total s
  | .engLoadData t r off data => Sys2Proof.Machine.execEngLoadData t r off data s
  | .engLoadCommit t r => Sys2Proof.Machine.execEngLoadCommit t r s
  | .engLoadCommitDone t => Sys2Proof.Machine.execEngLoadCommitDone t s
  | .engLoadAbort t r => Sys2Proof.Machine.execEngLoadAbort t r s
  | .engLoadTimeout t => Sys2Proof.Machine.execEngLoadTimeout t s
  | .engDoorbell t r e v => Sys2Proof.Machine.execEngDoorbell t r e v s
  | .engDoorbellRx t r => Sys2Proof.Machine.execEngDoorbellRx t r s
  | .engObjWriteRx t r => Sys2Proof.Machine.execEngObjWriteRx t r s
  | .gpioEdge t pin level => Sys2Proof.Machine.execGpioEdge t pin level s
  | .dbgIdent t f => Sys2Proof.Machine.execDbgIdent t f s
  | .dbgUnlock t f => Sys2Proof.Machine.execDbgUnlock t f s
  | .dbgHalt t f => Sys2Proof.Machine.execDbgHalt t f s
  | .dbgRun t f => Sys2Proof.Machine.execDbgRun t f s
  | .dbgStep t f => Sys2Proof.Machine.execDbgStep t f s
  | .dbgRegRead t f => Sys2Proof.Machine.execDbgRegRead t f s
  | .dbgRegWrite t f => Sys2Proof.Machine.execDbgRegWrite t f s
  | .dbgMemRead t f => Sys2Proof.Machine.execDbgMemRead t f s
  | .dbgMemWrite t f => Sys2Proof.Machine.execDbgMemWrite t f s
  | .dbgBreak t f => Sys2Proof.Machine.execDbgBreak t f s
  | .canFrameRx t c f sof => Sys2Proof.Machine.execCanFrameRx t c f sof s
  | .netCanTx t r arg => Sys2Proof.Machine.execNetCanTx t r arg s
  | .netCanRx t r => Sys2Proof.Machine.execNetCanRx t r s
  | .netCanRecover t r c => Sys2Proof.Machine.execNetCanRecover t r c s
  | .canBusOff t c => Sys2Proof.Machine.execCanBusOff t c s
  | .canBusOffRecovery t c => Sys2Proof.Machine.execCanBusOffRecovery t c s
  | .canFrameTxDone t c sof won => Sys2Proof.Machine.execCanFrameTxDone t c sof won s
  | .launchTimeReached t => Sys2Proof.Machine.execLaunchTimeReached t s
  | .netEthTx t r arg => Sys2Proof.Machine.execNetEthTx t r arg s
  | .netEthRx t r => Sys2Proof.Machine.execNetEthRx t r s
  | .netTxDone t r => Sys2Proof.Machine.execNetTxDone t r s
  | .t1sFrameRx t da sa etype payload fcsOk sfd => Sys2Proof.Machine.execT1sFrameRx t da sa etype payload fcsOk sfd s
  | .t1sFrameTxDone t sfd coll => Sys2Proof.Machine.execT1sFrameTxDone t sfd coll s
  | .plcaBeaconLoss t => Sys2Proof.Machine.execPlcaBeaconLoss t s
  | .wairilLinkDown t viol fills => Sys2Proof.Machine.execWairilLinkDown t viol fills s
  | .wairilCommaAlign t => Sys2Proof.Machine.execWairilCommaAlign t s
  | .wairilLinkUp t => Sys2Proof.Machine.execWairilLinkUp t s
  | .qsOperationDone t ok => Sys2Proof.Machine.execQsOperationDone t ok s
  | .pps t => Sys2Proof.Machine.execPps t s
  | .ppsWidthEnd t => Sys2Proof.Machine.execPpsWidthEnd t s
  | .timeStep t r amount neg => Sys2Proof.Machine.execTimeStep t r amount neg s
  | .timeSet t r time => Sys2Proof.Machine.execTimeSet t r time s
  | .timeSlew t r ns => Sys2Proof.Machine.execTimeSlew t r ns s
  | .timeStepConfirm t r ceiling => Sys2Proof.Machine.execTimeStepConfirm t r ceiling s
  | .timeAsymmetryWrite t r v => Sys2Proof.Machine.execTimeAsymmetryWrite t r v s
  | .sync t seq twoStep origin corr => Sys2Proof.Machine.execSync t seq twoStep origin corr s
  | .followUp t seq origin corr => Sys2Proof.Machine.execFollowUp t seq origin corr s
  | .pdelayReq t seq src => Sys2Proof.Machine.execPdelayReq t seq src s
  | .pdelayResp t follow seq ts => Sys2Proof.Machine.execPdelayResp t follow seq ts s
  | .announce t pv => Sys2Proof.Machine.execAnnounce t pv s
  | .syncInterval t => Sys2Proof.Machine.execSyncInterval t s
  | .pdelayInterval t => Sys2Proof.Machine.execPdelayInterval t s
  | .announceInterval t => Sys2Proof.Machine.execAnnounceInterval t s
  | .timeSourceLoss t => Sys2Proof.Machine.execTimeSourceLoss t s
  | .holdoverLimit t => Sys2Proof.Machine.execHoldoverLimit t s
  | .tsInEdge t ch rising => Sys2Proof.Machine.execTsInEdge t ch rising s
  | .heartbeat t p wl => Sys2Proof.Machine.execHeartbeat t p wl s
  | .heartbeatPeriod t wl => Sys2Proof.Machine.execHeartbeatPeriod t wl s
  | .presence t p => Sys2Proof.Machine.execPresence t p s
  | .presencePeriod t => Sys2Proof.Machine.execPresencePeriod t s
  | .roundPlan t p => Sys2Proof.Machine.execRoundPlan t p s
  | .report t p => Sys2Proof.Machine.execReport t p s
  | .lfRequest t p => Sys2Proof.Machine.execLfRequest t p s
  | .join t p => Sys2Proof.Machine.execJoin t p s
  | .joinAck t p => Sys2Proof.Machine.execJoinAck t p s
  | .joinRepeat t => Sys2Proof.Machine.execJoinRepeat t s
  | .workerLost t node => Sys2Proof.Machine.execWorkerLost t node s
  | .mgrLoss t => Sys2Proof.Machine.execMgrLoss t s
  | .peerLoss t wl => Sys2Proof.Machine.execPeerLoss t wl s
  | .twinResolutionTimeout t => Sys2Proof.Machine.execTwinResolutionTimeout t s
  | .electionTimeout t => Sys2Proof.Machine.execElectionTimeout t s
  | .mirror t p wl => Sys2Proof.Machine.execMirror t p wl s
  | .tinDigest t p wl => Sys2Proof.Machine.execTinDigest t p wl s
  | .tinPull t p wl => Sys2Proof.Machine.execTinPull t p wl s
  | .tinData t p wl => Sys2Proof.Machine.execTinData t p wl s
  | .tinPeriod t => Sys2Proof.Machine.execTinPeriod t s
  | .twinTinRun t r => Sys2Proof.Machine.execTwinTinRun t r s
  | .twinTakeover t r arg => Sys2Proof.Machine.execTwinTakeover t r arg s
  | .commit t p wl => Sys2Proof.Machine.execCommit t p wl s
  | .commitAck t p wl => Sys2Proof.Machine.execCommitAck t p wl s
  | .commitResend t => Sys2Proof.Machine.execCommitResend t s
  | .vaonPor t => Sys2Proof.Machine.execVaonPor t s
  | .vaonLoss t step => Sys2Proof.Machine.execVaonLoss t step s
  | .vsupBrownout t => Sys2Proof.Machine.execVsupBrownout t s
  | .vioUndervoltage t => Sys2Proof.Machine.execVioUndervoltage t s
  | .vioReturn t => Sys2Proof.Machine.execVioReturn t s
  | .resetN t => Sys2Proof.Machine.execResetN t s
  | .resetRelease t twinId qsType qsId qsKb => Sys2Proof.Machine.execResetRelease t twinId qsType qsId qsKb s
  | .startUpSelfTestDone t fail sealBad deny => Sys2Proof.Machine.execStartUpSelfTestDone t fail sealBad deny s
  | .aonWatchdog t => Sys2Proof.Machine.execAonWatchdog t s
  | .watchdogRestart t => Sys2Proof.Machine.execWatchdogRestart t s
  | .pwrShutdown t r arg => Sys2Proof.Machine.execPwrShutdown t r arg s
  | .shutdownExit t src => Sys2Proof.Machine.execShutdownExit t src s
  | .corePowerDown t => Sys2Proof.Machine.execCorePowerDown t s
  | .coreWake t src => Sys2Proof.Machine.execCoreWake t src s
  | .scheduledWake t => Sys2Proof.Machine.execScheduledWake t s
  | .pllLock t => Sys2Proof.Machine.execPllLock t s
  | .pllLockLoss t => Sys2Proof.Machine.execPllLockLoss t s
  | .pllRelockTimeout t => Sys2Proof.Machine.execPllRelockTimeout t s
  | .referenceMonitorPass t => Sys2Proof.Machine.execReferenceMonitorPass t s
  | .referenceLoss t => Sys2Proof.Machine.execReferenceLoss t s
  | .slowXtalSwitch t => Sys2Proof.Machine.execSlowXtalSwitch t s
  | .slowXtalFail t => Sys2Proof.Machine.execSlowXtalFail t s
  | .clockRatioMeasure t cycles => Sys2Proof.Machine.execClockRatioMeasure t cycles s
  | .tmrCtrlWrite t r n v => Sys2Proof.Machine.execTmrCtrlWrite t r n v s
  | .tmrEndWrite t r n v => Sys2Proof.Machine.execTmrEndWrite t r n v s
  | .tmrCmpWrite t r n v => Sys2Proof.Machine.execTmrCmpWrite t r n v s
  | .tmrStatusWrite t r n v => Sys2Proof.Machine.execTmrStatusWrite t r n v s
  | .tmrCaptureRead t r n => Sys2Proof.Machine.execTmrCaptureRead t r n s
  | .tmrCountEnd t n => Sys2Proof.Machine.execTmrCountEnd t n s
  | .tmrMatch t n => Sys2Proof.Machine.execTmrMatch t n s
  | .tmrMatchB t n => Sys2Proof.Machine.execTmrMatchB t n s
  | .tmrZeroTurn t n => Sys2Proof.Machine.execTmrZeroTurn t n s
  | .tmrCaptureEdge t n src rising => Sys2Proof.Machine.execTmrCaptureEdge t n src rising s
  | .burnishStep t err part word item => Sys2Proof.Machine.execBurnishStep t err part word item s
  | .burnishSlotWake t => Sys2Proof.Machine.execBurnishSlotWake t s
  | .limiterSample t power temp => Sys2Proof.Machine.execLimiterSample t power temp s
  | .limiterStageFall t => Sys2Proof.Machine.execLimiterStageFall t s
  | .canTelemetry t => Sys2Proof.Machine.execCanTelemetry t s
  | .logHeadWrite t => Sys2Proof.Machine.execLogHeadWrite t s
  | .logSectorWrite t first => Sys2Proof.Machine.execLogSectorWrite t first s
  | .canBusError t c tx => Sys2Proof.Machine.execCanBusError t c tx s
  | .plcaBeaconReturn t => Sys2Proof.Machine.execPlcaBeaconReturn t s
  | .notifyGapExpiry t r idx sub => Sys2Proof.Machine.execNotifyGapExpiry t r idx sub s
  | .nfcWupRetry t p => Sys2Proof.Machine.execNfcWupRetry t p s

end Sys2Proof.Machine
end

