-- ==== Sys2Proof/Machine/Arrivals.lean ====
section
/-! DEFINITION. How commands come to the queue (R37, R209): in the order of their arrival, but that accesses of the dictionary which arrive
in the same CKS cycle stand in the order of their classes, and likewise what brings evidence. -/
namespace Sys2Proof
open Sys2Proof.Machine

/-- The time of a command. -/
def Instr.time : Instr → Nat
  | .spiStatus t => t
  | .spiWriteReq t _ => t
  | .spiReadRsp t _ => t
  | .spiReadNtf t _ => t
  | .spiUndefinedCommand t _ _ => t
  | .dictResponseReady t => t
  | .write t _ _ _ _ => t
  | .pendingValueApply t _ _ => t
  | .subscribe t _ _ _ _ _ _ => t
  | .unsubscribe t _ _ _ => t
  | .notifyPeriodic t _ _ _ => t
  | .loginHello t _ _ _ => t
  | .loginProof t _ _ _ => t
  | .logout t _ _ => t
  | .loginProofTimeout t _ => t
  | .sessionIdleTimeout t _ => t
  | .requesterLockoutEnd t _ => t
  | .dictFrameT1s t _ _ _ => t
  | .canFdSegment t _ _ _ => t
  | .canFdSegmentTimeout t _ => t
  | .canXlDictFrame t _ _ _ _ => t
  | .wairilFrame t _ _ => t
  | .v1Read t _ => t
  | .v1Write t _ => t
  | .unlockReq t _ => t
  | .unlockProof t _ => t
  | .v1UnlockExpiry t => t
  | .v1LockoutEnd t => t
  | .devCommit t _ => t
  | .devCommitDone t _ => t
  | .devRestoreDefaults t _ => t
  | .devResetSystem t _ => t
  | .devResetCold t _ => t
  | .devSelfTest t _ => t
  | .devSelfTestDone t _ _ => t
  | .credClockConfirm t _ _ => t
  | .credRevoke t _ _ => t
  | .vcSecond t => t
  | .floorPeriod t => t
  | .resyncTimeout t => t
  | .journalRecordDone t _ => t
  | .compactionStart t => t
  | .compactionPass t => t
  | .compactionSwitch t => t
  | .tokenProof t _ _ => t
  | .credProof t _ _ => t
  | .attest t _ _ => t
  | .enrolCode t _ _ => t
  | .enrolRequest t _ _ => t
  | .revokeRequest t _ _ => t
  | .endMessage t _ _ => t
  | .zariqueDrop t _ _ => t
  | .challenge t _ => t
  | .prompt t _ => t
  | .rangingSetup t _ => t
  | .keyDeliveryAck t _ => t
  | .challengeExpiry t => t
  | .doorOpenEdge t _ _ _ => t
  | .entryTimeout t => t
  | .startTimeout t => t
  | .ignInFall t => t
  | .ignInRise t => t
  | .lockoutEnd t => t
  | .lockoutPersist t => t
  | .learnWindowExpiry t => t
  | .accLearnCancel t _ => t
  | .accRevokeToken t _ _ => t
  | .accLockoutClear t _ _ => t
  | .accEnrolImport t _ _ => t
  | .evidenceItem t _ _ => t
  | .evaluationDone t => t
  | .requestWindowEnd t _ _ => t
  | .vetoHoldEnd t => t
  | .roundGraceExpiry t _ _ => t
  | .verdictExpiry t _ _ => t
  | .tsApply t _ => t
  | .sealIssue t _ _ => t
  | .pulseEnd t _ _ => t
  | .deadTimeEnd t _ => t
  | .gateLock t _ => t
  | .gateRbSample t _ _ => t
  | .startEnLimit t => t
  | .gateFaultClear t _ _ => t
  | .gateQuench t _ _ => t
  | .sealPathFault t => t
  | .immoChallenge t _ => t
  | .immoAck t _ => t
  | .immoReleasePeriod t => t
  | .immoWaitExpiry t => t
  | .limiterCut t _ _ => t
  | .gpioHoldExpiry t _ => t
  | .blockStart t _ => t
  | .opportunityStart t => t
  | .uwbFrameLaunch t _ _ => t
  | .uwbResponse t _ _ => t
  | .uwbReport t _ => t
  | .blink t _ _ => t
  | .uwbSync t _ _ _ => t
  | .uwbRxWindowEnd t => t
  | .roundClose t => t
  | .uwbAuxTx t _ _ => t
  | .uwbAuxRx t _ _ => t
  | .uwbAuxDone t _ _ => t
  | .transceiverRequest t _ _ _ _ _ _ _ _ => t
  | .synthLocked t _ => t
  | .synthLockTimeout t _ => t
  | .packetEnd t _ _ => t
  | .keepReadyExpiry t _ => t
  | .offDelayExpiry t _ => t
  | .gapCalibrationStart t _ => t
  | .forcedCalibrationStart t _ => t
  | .calibrationDone t _ _ _ => t
  | .rfcCalRun t _ _ => t
  | .annealTick t _ => t
  | .advertisingEvent t _ => t
  | .connectionOpen t _ _ _ _ _ => t
  | .connectionClose t _ => t
  | .connectionEvent t _ _ _ _ _ _ => t
  | .mtuExchange t _ _ => t
  | .cccdWrite t _ _ _ => t
  | .smpPairingRequest t _ => t
  | .llEncReq t _ => t
  | .phyUpdate t _ _ => t
  | .connectionParamRequest t _ _ _ _ => t
  | .noSessionLimit t _ => t
  | .boostExpiry t => t
  | .bleEngPublish t _ _ => t
  | .bleEngNotify t _ _ => t
  | .bleEngRelease t _ _ => t
  | .bleEngRx t _ _ => t
  | .engineCharWrite t _ _ _ _ => t
  | .attRead t _ _ => t
  | .indicationConfirm t _ => t
  | .capScan t _ => t
  | .capConfirmMeasure t _ _ => t
  | .capStuck t _ => t
  | .touchHandoff t _ => t
  | .lfExchangeStart t _ => t
  | .lfDriveMeasure t _ _ _ _ => t
  | .lfOvercurrentCut t => t
  | .lfCarrierReturn t => t
  | .seg1 t _ => t
  | .lfNoSync t => t
  | .seg2 t _ _ => t
  | .reply t _ _ => t
  | .uid t _ => t
  | .confirm t _ => t
  | .lfDiagRun t _ _ _ _ _ _ _ _ => t
  | .vlfRecover t _ => t
  | .nfcPing t _ _ _ _ => t
  | .nfcActivation t _ _ _ _ _ => t
  | .nfcCardFrame t _ _ _ => t
  | .nfcReserveAttempt t _ _ _ _ _ => t
  | .nfcRApdu t _ _ => t
  | .nfcResponseTimeout t _ _ => t
  | .nfcIdleEnd t _ => t
  | .nfcExchangeMax t _ => t
  | .nfcReactivate t _ _ _ _ _ => t
  | .nfcOvercurrentCut t _ => t
  | .nfcFaultClear t _ _ => t
  | .vnfcRecover t _ => t
  | .fieldPowerUp t _ => t
  | .tearRecoveryEnd t => t
  | .fieldLoss t _ => t
  | .reqa t => t
  | .wupa t => t
  | .anticollision t _ _ _ => t
  | .rats t => t
  | .ppsRequest t _ => t
  | .hlta t => t
  | .sDeselect t => t
  | .selectApplication t _ => t
  | .selectFile t _ => t
  | .readBinary t _ _ => t
  | .updateBinary t => t
  | .getInfo t => t
  | .authBegin t _ => t
  | .authFinish t _ _ => t
  | .getRecordInfo t _ => t
  | .readRecord t _ _ => t
  | .writeRecord t _ _ => t
  | .tagBadApdu t _ _ _ => t
  | .tagWriteDone t => t
  | .tagRecWrite t _ _ _ => t
  | .tagRecAclWrite t _ _ => t
  | .tagNdefStage t _ _ _ => t
  | .tagNdefCommit t _ _ => t
  | .tagKeyWrite t _ _ _ => t
  | .tagKeyUnblock t _ _ => t
  | .cxSubmit t _ _ => t
  | .cxTakeResult t _ => t
  | .cxBlockDone t _ => t
  | .cxRequestDone t _ => t
  | .keyImport t _ _ => t
  | .keyGenerate t _ _ => t
  | .keyDerive t _ _ => t
  | .keyExport t _ _ => t
  | .keyErase t _ _ => t
  | .keyZeroize t _ _ => t
  | .keyZeroizeAll t _ _ => t
  | .zeroizeOverwriteDone t _ => t
  | .keyMirror t _ _ => t
  | .keyMirrorAck t _ _ => t
  | .keyMirrorTimeout t => t
  | .sourceSettled t _ => t
  | .assayBlock t _ _ => t
  | .sourceRestartDone t _ => t
  | .drbgReseed t => t
  | .reseedLimit t => t
  | .drbgGenerate t => t
  | .rngRandom t _ => t
  | .add t _ => t
  | .sub t _ => t
  | .and_ t _ => t
  | .or_ t _ => t
  | .xor_ t _ => t
  | .shl t _ => t
  | .shr t _ => t
  | .sar t _ => t
  | .addi t _ => t
  | .andi t _ => t
  | .ori t _ => t
  | .xori t _ => t
  | .shli t _ => t
  | .shri t _ => t
  | .sari t _ => t
  | .ldi t _ => t
  | .lui t _ => t
  | .mul t _ => t
  | .muls t _ => t
  | .mulResult t _ => t
  | .mov t _ => t
  | .clz t _ => t
  | .bswap t _ => t
  | .cmp t _ => t
  | .cmpi t _ => t
  | .plog t _ => t
  | .ldw t _ => t
  | .ldh t _ => t
  | .ldb t _ => t
  | .stw t _ => t
  | .sth t _ => t
  | .stb t _ => t
  | .ldwp t _ => t
  | .stwp t _ => t
  | .ldo t _ => t
  | .ldoReadRecord t _ => t
  | .sto t _ => t
  | .stoExec t _ => t
  | .engineDictComplete t _ => t
  | .br t _ => t
  | .call t _ => t
  | .ret t _ => t
  | .jr t _ => t
  | .callr t _ => t
  | .rpt t _ => t
  | .rptr t _ => t
  | .mfs t _ => t
  | .mts t _ => t
  | .wfe t _ => t
  | .waitt t _ => t
  | .engineEventWake t _ => t
  | .waittDeadline t _ => t
  | .sev t _ => t
  | .stop t _ => t
  | .nop t _ => t
  | .illegalOp t _ => t
  | .engineWatchdog t _ => t
  | .trapRestart t _ => t
  | .breakpointHit t _ => t
  | .engControlStart t _ _ => t
  | .engControlStop t _ _ => t
  | .engControlRestart t _ _ => t
  | .engLoadBegin t _ _ _ => t
  | .engLoadData t _ _ _ => t
  | .engLoadCommit t _ => t
  | .engLoadCommitDone t => t
  | .engLoadAbort t _ => t
  | .engLoadTimeout t => t
  | .engDoorbell t _ _ _ => t
  | .engDoorbellRx t _ => t
  | .engObjWriteRx t _ => t
  | .gpioEdge t _ _ => t
  | .dbgIdent t _ => t
  | .dbgUnlock t _ => t
  | .dbgHalt t _ => t
  | .dbgRun t _ => t
  | .dbgStep t _ => t
  | .dbgRegRead t _ => t
  | .dbgRegWrite t _ => t
  | .dbgMemRead t _ => t
  | .dbgMemWrite t _ => t
  | .dbgBreak t _ => t
  | .canFrameRx t _ _ _ => t
  | .netCanTx t _ _ => t
  | .netCanRx t _ => t
  | .netCanRecover t _ _ => t
  | .canBusOff t _ => t
  | .canBusOffRecovery t _ => t
  | .canFrameTxDone t _ _ _ => t
  | .launchTimeReached t => t
  | .netEthTx t _ _ => t
  | .netEthRx t _ => t
  | .netTxDone t _ => t
  | .t1sFrameRx t _ _ _ _ _ _ => t
  | .t1sFrameTxDone t _ _ => t
  | .plcaBeaconLoss t => t
  | .wairilLinkDown t _ _ => t
  | .wairilCommaAlign t => t
  | .wairilLinkUp t => t
  | .qsOperationDone t _ => t
  | .pps t => t
  | .ppsWidthEnd t => t
  | .timeStep t _ _ _ => t
  | .timeSet t _ _ => t
  | .timeSlew t _ _ => t
  | .timeStepConfirm t _ _ => t
  | .timeAsymmetryWrite t _ _ => t
  | .sync t _ _ _ _ => t
  | .followUp t _ _ _ => t
  | .pdelayReq t _ _ => t
  | .pdelayResp t _ _ _ => t
  | .announce t _ => t
  | .syncInterval t => t
  | .pdelayInterval t => t
  | .announceInterval t => t
  | .timeSourceLoss t => t
  | .holdoverLimit t => t
  | .tsInEdge t _ _ => t
  | .heartbeat t _ _ => t
  | .heartbeatPeriod t _ => t
  | .presence t _ => t
  | .presencePeriod t => t
  | .roundPlan t _ => t
  | .report t _ => t
  | .lfRequest t _ => t
  | .join t _ => t
  | .joinAck t _ => t
  | .joinRepeat t => t
  | .workerLost t _ => t
  | .mgrLoss t => t
  | .peerLoss t _ => t
  | .twinResolutionTimeout t => t
  | .electionTimeout t => t
  | .mirror t _ _ => t
  | .tinDigest t _ _ => t
  | .tinPull t _ _ => t
  | .tinData t _ _ => t
  | .tinPeriod t => t
  | .twinTinRun t _ => t
  | .twinTakeover t _ _ => t
  | .commit t _ _ => t
  | .commitAck t _ _ => t
  | .commitResend t => t
  | .vaonPor t => t
  | .vaonLoss t _ => t
  | .vsupBrownout t => t
  | .vioUndervoltage t => t
  | .vioReturn t => t
  | .resetN t => t
  | .resetRelease t _ _ _ _ => t
  | .startUpSelfTestDone t _ _ _ => t
  | .aonWatchdog t => t
  | .watchdogRestart t => t
  | .pwrShutdown t _ _ => t
  | .shutdownExit t _ => t
  | .corePowerDown t => t
  | .coreWake t _ => t
  | .scheduledWake t => t
  | .pllLock t => t
  | .pllLockLoss t => t
  | .pllRelockTimeout t => t
  | .referenceMonitorPass t => t
  | .referenceLoss t => t
  | .slowXtalSwitch t => t
  | .slowXtalFail t => t
  | .clockRatioMeasure t _ => t
  | .tmrCtrlWrite t _ _ _ => t
  | .tmrEndWrite t _ _ _ => t
  | .tmrCmpWrite t _ _ _ => t
  | .tmrStatusWrite t _ _ _ => t
  | .tmrCaptureRead t _ _ => t
  | .tmrCountEnd t _ => t
  | .tmrMatch t _ => t
  | .tmrMatchB t _ => t
  | .tmrZeroTurn t _ => t
  | .tmrCaptureEdge t _ _ _ => t
  | .burnishStep t _ _ _ _ => t
  | .burnishSlotWake t => t
  | .limiterSample t _ _ => t
  | .limiterStageFall t => t
  | .canTelemetry t => t
  | .logHeadWrite t => t
  | .logSectorWrite t _ => t
  | .canBusError t _ _ => t
  | .plcaBeaconReturn t => t
  | .notifyGapExpiry t _ _ _ => t
  | .nfcWupRetry t _ => t

/-- Who sends a network message of a session ID: 0xFF is the twin (R60). -/
def netWho (sid : Nat) : Requester := if sid = 0xFF then .twin else .net sid

/-- Whose access of the dictionary a command is, where it is one (R37): a message of a login counts as one of session 0. A CAN FD segment
names its session in the first one only. -/
def Instr.asks : Instr → Option Requester
  | .spiStatus _ => none
  | .spiWriteReq _ _ => none
  | .spiReadRsp _ _ => none
  | .spiReadNtf _ _ => none
  | .spiUndefinedCommand _ _ _ => none
  | .dictResponseReady _ => some .host
  | .write _ r _ _ _ => some r
  | .pendingValueApply _ _ _ => none
  | .subscribe _ r _ _ _ _ _ => some r
  | .unsubscribe _ r _ _ => some r
  | .notifyPeriodic _ r _ _ => some r
  | .loginHello _ _ _ _ => some (.net 0)
  | .loginProof _ _ _ _ => some (.net 0)
  | .logout _ sid _ => some (.net sid)
  | .loginProofTimeout _ _ => none
  | .sessionIdleTimeout _ _ => none
  | .requesterLockoutEnd _ _ => none
  | .dictFrameT1s _ _ _ payload => some (netWho (byteAt 6 payload))
  | .canFdSegment _ _ _ d => some (netWho (if bit (byteAt 0 d) 7 then byteAt 1 d else 0))
  | .canFdSegmentTimeout _ _ => none
  | .canXlDictFrame _ _ _ _ d => some (netWho (byteAt 0 d))
  | .wairilFrame _ raw _ => if byteAt 0 raw = 0x10 then some .twin else none
  | .v1Read _ _ => some (.net 0)
  | .v1Write _ _ => some (.net 0)
  | .unlockReq _ _ => some (.net 0)
  | .unlockProof _ _ => some (.net 0)
  | .v1UnlockExpiry _ => none
  | .v1LockoutEnd _ => none
  | .devCommit _ r => some r
  | .devCommitDone _ _ => none
  | .devRestoreDefaults _ r => some r
  | .devResetSystem _ r => some r
  | .devResetCold _ r => some r
  | .devSelfTest _ r => some r
  | .devSelfTestDone _ _ _ => none
  | .credClockConfirm _ r _ => some r
  | .credRevoke _ r _ => some r
  | .vcSecond _ => none
  | .floorPeriod _ => none
  | .resyncTimeout _ => none
  | .journalRecordDone _ _ => none
  | .compactionStart _ => none
  | .compactionPass _ => none
  | .compactionSwitch _ => none
  | .tokenProof _ _ _ => none
  | .credProof _ _ _ => none
  | .attest _ _ _ => none
  | .enrolCode _ _ _ => none
  | .enrolRequest _ _ _ => none
  | .revokeRequest _ _ _ => none
  | .endMessage _ _ _ => none
  | .zariqueDrop _ _ _ => none
  | .challenge _ _ => none
  | .prompt _ _ => none
  | .rangingSetup _ _ => none
  | .keyDeliveryAck _ _ => none
  | .challengeExpiry _ => none
  | .doorOpenEdge _ _ _ _ => none
  | .entryTimeout _ => none
  | .startTimeout _ => none
  | .ignInFall _ => none
  | .ignInRise _ => none
  | .lockoutEnd _ => none
  | .lockoutPersist _ => none
  | .learnWindowExpiry _ => none
  | .accLearnCancel _ r => some r
  | .accRevokeToken _ r _ => some r
  | .accLockoutClear _ r _ => some r
  | .accEnrolImport _ r _ => some r
  | .evidenceItem _ _ _ => none
  | .evaluationDone _ => none
  | .requestWindowEnd _ _ _ => none
  | .vetoHoldEnd _ => none
  | .roundGraceExpiry _ _ _ => none
  | .verdictExpiry _ _ _ => none
  | .tsApply _ r => some r
  | .sealIssue _ _ _ => none
  | .pulseEnd _ _ _ => none
  | .deadTimeEnd _ _ => none
  | .gateLock _ r => some r
  | .gateRbSample _ _ _ => none
  | .startEnLimit _ => none
  | .gateFaultClear _ r _ => some r
  | .gateQuench _ r _ => some r
  | .sealPathFault _ => none
  | .immoChallenge _ _ => none
  | .immoAck _ _ => none
  | .immoReleasePeriod _ => none
  | .immoWaitExpiry _ => none
  | .limiterCut _ _ _ => none
  | .gpioHoldExpiry _ _ => none
  | .blockStart _ _ => none
  | .opportunityStart _ => none
  | .uwbFrameLaunch _ _ _ => none
  | .uwbResponse _ _ _ => none
  | .uwbReport _ _ => none
  | .blink _ _ _ => none
  | .uwbSync _ _ _ _ => none
  | .uwbRxWindowEnd _ => none
  | .roundClose _ => none
  | .uwbAuxTx _ r _ => some r
  | .uwbAuxRx _ r _ => some r
  | .uwbAuxDone _ _ _ => none
  | .transceiverRequest _ _ _ _ _ _ _ _ _ => none
  | .synthLocked _ _ => none
  | .synthLockTimeout _ _ => none
  | .packetEnd _ _ _ => none
  | .keepReadyExpiry _ _ => none
  | .offDelayExpiry _ _ => none
  | .gapCalibrationStart _ _ => none
  | .forcedCalibrationStart _ _ => none
  | .calibrationDone _ _ _ _ => none
  | .rfcCalRun _ r _ => some r
  | .annealTick _ _ => none
  | .advertisingEvent _ _ => none
  | .connectionOpen _ _ _ _ _ _ => none
  | .connectionClose _ _ => none
  | .connectionEvent _ _ _ _ _ _ _ => none
  | .mtuExchange _ _ _ => none
  | .cccdWrite _ _ _ _ => none
  | .smpPairingRequest _ _ => none
  | .llEncReq _ _ => none
  | .phyUpdate _ _ _ => none
  | .connectionParamRequest _ _ _ _ _ => none
  | .noSessionLimit _ _ => none
  | .boostExpiry _ => none
  | .bleEngPublish _ r _ => some r
  | .bleEngNotify _ r _ => some r
  | .bleEngRelease _ r _ => some r
  | .bleEngRx _ r _ => some r
  | .engineCharWrite _ _ _ _ _ => none
  | .attRead _ _ _ => none
  | .indicationConfirm _ _ => none
  | .capScan _ _ => none
  | .capConfirmMeasure _ _ _ => none
  | .capStuck _ _ => none
  | .touchHandoff _ _ => none
  | .lfExchangeStart _ _ => none
  | .lfDriveMeasure _ _ _ _ _ => none
  | .lfOvercurrentCut _ => none
  | .lfCarrierReturn _ => none
  | .seg1 _ _ => none
  | .lfNoSync _ => none
  | .seg2 _ _ _ => none
  | .reply _ _ _ => none
  | .uid _ _ => none
  | .confirm _ _ => none
  | .lfDiagRun _ r _ _ _ _ _ _ _ => some r
  | .vlfRecover _ _ => none
  | .nfcPing _ _ _ _ _ => none
  | .nfcActivation _ _ _ _ _ _ => none
  | .nfcCardFrame _ _ _ _ => none
  | .nfcReserveAttempt _ _ _ _ _ _ => none
  | .nfcRApdu _ _ _ => none
  | .nfcResponseTimeout _ _ _ => none
  | .nfcIdleEnd _ _ => none
  | .nfcExchangeMax _ _ => none
  | .nfcReactivate _ _ _ _ _ _ => none
  | .nfcOvercurrentCut _ _ => none
  | .nfcFaultClear _ r _ => some r
  | .vnfcRecover _ _ => none
  | .fieldPowerUp _ _ => none
  | .tearRecoveryEnd _ => none
  | .fieldLoss _ _ => none
  | .reqa _ => none
  | .wupa _ => none
  | .anticollision _ _ _ _ => none
  | .rats _ => none
  | .ppsRequest _ _ => none
  | .hlta _ => none
  | .sDeselect _ => none
  | .selectApplication _ _ => none
  | .selectFile _ _ => none
  | .readBinary _ _ _ => some .field
  | .updateBinary _ => some .field
  | .getInfo _ => some .field
  | .authBegin _ _ => none
  | .authFinish _ _ _ => none
  | .getRecordInfo _ _ => some .field
  | .readRecord _ _ _ => some .field
  | .writeRecord _ _ _ => some .field
  | .tagBadApdu _ _ _ _ => none
  | .tagWriteDone _ => none
  | .tagRecWrite _ r _ _ => some r
  | .tagRecAclWrite _ r _ => some r
  | .tagNdefStage _ r _ _ => some r
  | .tagNdefCommit _ r _ => some r
  | .tagKeyWrite _ r _ _ => some r
  | .tagKeyUnblock _ r _ => some r
  | .cxSubmit _ r _ => some r
  | .cxTakeResult _ r => some r
  | .cxBlockDone _ _ => none
  | .cxRequestDone _ _ => none
  | .keyImport _ r _ => some r
  | .keyGenerate _ r _ => some r
  | .keyDerive _ r _ => some r
  | .keyExport _ r _ => some r
  | .keyErase _ r _ => some r
  | .keyZeroize _ r _ => some r
  | .keyZeroizeAll _ r _ => some r
  | .zeroizeOverwriteDone _ _ => none
  | .keyMirror _ _ _ => none
  | .keyMirrorAck _ _ _ => none
  | .keyMirrorTimeout _ => none
  | .sourceSettled _ _ => none
  | .assayBlock _ _ _ => none
  | .sourceRestartDone _ _ => none
  | .drbgReseed _ => none
  | .reseedLimit _ => none
  | .drbgGenerate _ => none
  | .rngRandom _ r => some r
  | .add _ _ => none
  | .sub _ _ => none
  | .and_ _ _ => none
  | .or_ _ _ => none
  | .xor_ _ _ => none
  | .shl _ _ => none
  | .shr _ _ => none
  | .sar _ _ => none
  | .addi _ _ => none
  | .andi _ _ => none
  | .ori _ _ => none
  | .xori _ _ => none
  | .shli _ _ => none
  | .shri _ _ => none
  | .sari _ _ => none
  | .ldi _ _ => none
  | .lui _ _ => none
  | .mul _ _ => none
  | .muls _ _ => none
  | .mulResult _ _ => none
  | .mov _ _ => none
  | .clz _ _ => none
  | .bswap _ _ => none
  | .cmp _ _ => none
  | .cmpi _ _ => none
  | .plog _ _ => none
  | .ldw _ _ => none
  | .ldh _ _ => none
  | .ldb _ _ => none
  | .stw _ _ => none
  | .sth _ _ => none
  | .stb _ _ => none
  | .ldwp _ _ => none
  | .stwp _ _ => none
  | .ldo _ e => some (.engine e)
  | .ldoReadRecord _ e => some (.engine e)
  | .sto _ e => some (.engine e)
  | .stoExec _ e => some (.engine e)
  | .engineDictComplete _ _ => none
  | .br _ _ => none
  | .call _ _ => none
  | .ret _ _ => none
  | .jr _ _ => none
  | .callr _ _ => none
  | .rpt _ _ => none
  | .rptr _ _ => none
  | .mfs _ _ => none
  | .mts _ _ => none
  | .wfe _ _ => none
  | .waitt _ _ => none
  | .engineEventWake _ _ => none
  | .waittDeadline _ _ => none
  | .sev _ _ => none
  | .stop _ _ => none
  | .nop _ _ => none
  | .illegalOp _ _ => none
  | .engineWatchdog _ _ => none
  | .trapRestart _ _ => none
  | .breakpointHit _ _ => none
  | .engControlStart _ r _ => some r
  | .engControlStop _ r _ => some r
  | .engControlRestart _ r _ => some r
  | .engLoadBegin _ r _ _ => some r
  | .engLoadData _ r _ _ => some r
  | .engLoadCommit _ r => some r
  | .engLoadCommitDone _ => none
  | .engLoadAbort _ r => some r
  | .engLoadTimeout _ => none
  | .engDoorbell _ r _ _ => some r
  | .engDoorbellRx _ r => some r
  | .engObjWriteRx _ r => some r
  | .gpioEdge _ _ _ => none
  | .dbgIdent _ _ => none
  | .dbgUnlock _ _ => none
  | .dbgHalt _ _ => none
  | .dbgRun _ _ => none
  | .dbgStep _ _ => none
  | .dbgRegRead _ _ => none
  | .dbgRegWrite _ _ => none
  | .dbgMemRead _ _ => none
  | .dbgMemWrite _ _ => none
  | .dbgBreak _ _ => none
  | .canFrameRx _ _ _ _ => none
  | .netCanTx _ r _ => some r
  | .netCanRx _ r => some r
  | .netCanRecover _ r _ => some r
  | .canBusOff _ _ => none
  | .canBusOffRecovery _ _ => none
  | .canFrameTxDone _ _ _ _ => none
  | .launchTimeReached _ => none
  | .netEthTx _ r _ => some r
  | .netEthRx _ r => some r
  | .netTxDone _ r => some r
  | .t1sFrameRx _ _ _ _ _ _ _ => none
  | .t1sFrameTxDone _ _ _ => none
  | .plcaBeaconLoss _ => none
  | .wairilLinkDown _ _ _ => none
  | .wairilCommaAlign _ => none
  | .wairilLinkUp _ => none
  | .qsOperationDone _ _ => none
  | .pps _ => none
  | .ppsWidthEnd _ => none
  | .timeStep _ r _ _ => some r
  | .timeSet _ r _ => some r
  | .timeSlew _ r _ => some r
  | .timeStepConfirm _ r _ => some r
  | .timeAsymmetryWrite _ r _ => some r
  | .sync _ _ _ _ _ => none
  | .followUp _ _ _ _ => none
  | .pdelayReq _ _ _ => none
  | .pdelayResp _ _ _ _ => none
  | .announce _ _ => none
  | .syncInterval _ => none
  | .pdelayInterval _ => none
  | .announceInterval _ => none
  | .timeSourceLoss _ => none
  | .holdoverLimit _ => none
  | .tsInEdge _ _ _ => none
  | .heartbeat _ _ _ => none
  | .heartbeatPeriod _ _ => none
  | .presence _ _ => none
  | .presencePeriod _ => none
  | .roundPlan _ _ => none
  | .report _ _ => none
  | .lfRequest _ _ => none
  | .join _ _ => none
  | .joinAck _ _ => none
  | .joinRepeat _ => none
  | .workerLost _ _ => none
  | .mgrLoss _ => none
  | .peerLoss _ _ => none
  | .twinResolutionTimeout _ => none
  | .electionTimeout _ => none
  | .mirror _ _ _ => none
  | .tinDigest _ _ _ => none
  | .tinPull _ _ _ => none
  | .tinData _ _ _ => none
  | .tinPeriod _ => none
  | .twinTinRun _ r => some r
  | .twinTakeover _ r _ => some r
  | .commit _ _ _ => none
  | .commitAck _ _ _ => none
  | .commitResend _ => none
  | .vaonPor _ => none
  | .vaonLoss _ _ => none
  | .vsupBrownout _ => none
  | .vioUndervoltage _ => none
  | .vioReturn _ => none
  | .resetN _ => none
  | .resetRelease _ _ _ _ _ => none
  | .startUpSelfTestDone _ _ _ _ => none
  | .aonWatchdog _ => none
  | .watchdogRestart _ => none
  | .pwrShutdown _ r _ => some r
  | .shutdownExit _ _ => none
  | .corePowerDown _ => none
  | .coreWake _ _ => none
  | .scheduledWake _ => none
  | .pllLock _ => none
  | .pllLockLoss _ => none
  | .pllRelockTimeout _ => none
  | .referenceMonitorPass _ => none
  | .referenceLoss _ => none
  | .slowXtalSwitch _ => none
  | .slowXtalFail _ => none
  | .clockRatioMeasure _ _ => none
  | .tmrCtrlWrite _ r _ _ => some r
  | .tmrEndWrite _ r _ _ => some r
  | .tmrCmpWrite _ r _ _ => some r
  | .tmrStatusWrite _ r _ _ => some r
  | .tmrCaptureRead _ r _ => some r
  | .tmrCountEnd _ _ => none
  | .tmrMatch _ _ => none
  | .tmrMatchB _ _ => none
  | .tmrZeroTurn _ _ => none
  | .tmrCaptureEdge _ _ _ _ => none
  | .burnishStep _ _ _ _ _ => none
  | .burnishSlotWake _ => none
  | .limiterSample _ _ _ => none
  | .limiterStageFall _ => none
  | .canTelemetry _ => none
  | .logHeadWrite _ => none
  | .logSectorWrite _ _ => none
  | .canBusError _ _ _ => none
  | .plcaBeaconReturn _ => none
  | .notifyGapExpiry _ r _ _ => some r
  | .nfcWupRetry _ _ => none

/-- The place of an item of the manager's own units by its KIND (R209): UWB, LF, NFC, BLE. -/
def ownRank (kind : Nat) : Nat := if kind = 4 then 1 else if kind = 5 then 2 else if kind = 6 then 3 else 0

/-- A message on a carrier brings an NFC item, or none (R205). -/
def carRank : Carrier → Option Nat
  | .nfc _ => some 2
  | _ => none

/-- The place among the items of one CKS cycle of those a command may bring (R209): the units of the manager, then workers by node. -/
def Instr.brings : Instr → Option Nat
  | .spiStatus _ => none
  | .spiWriteReq _ _ => none
  | .spiReadRsp _ _ => none
  | .spiReadNtf _ _ => none
  | .spiUndefinedCommand _ _ _ => none
  | .dictResponseReady _ => none
  | .write _ _ _ _ _ => none
  | .pendingValueApply _ _ _ => none
  | .subscribe _ _ _ _ _ _ _ => none
  | .unsubscribe _ _ _ _ => none
  | .notifyPeriodic _ _ _ _ => none
  | .loginHello _ _ _ _ => none
  | .loginProof _ _ _ _ => none
  | .logout _ _ _ => none
  | .loginProofTimeout _ _ => none
  | .sessionIdleTimeout _ _ => none
  | .requesterLockoutEnd _ _ => none
  | .dictFrameT1s _ _ _ _ => none
  | .canFdSegment _ _ _ _ => none
  | .canFdSegmentTimeout _ _ => none
  | .canXlDictFrame _ _ _ _ _ => none
  | .wairilFrame _ _ _ => none
  | .v1Read _ _ => none
  | .v1Write _ _ => none
  | .unlockReq _ _ => none
  | .unlockProof _ _ => none
  | .v1UnlockExpiry _ => none
  | .v1LockoutEnd _ => none
  | .devCommit _ _ => none
  | .devCommitDone _ _ => none
  | .devRestoreDefaults _ _ => none
  | .devResetSystem _ _ => none
  | .devResetCold _ _ => none
  | .devSelfTest _ _ => none
  | .devSelfTestDone _ _ _ => none
  | .credClockConfirm _ _ _ => none
  | .credRevoke _ _ _ => none
  | .vcSecond _ => none
  | .floorPeriod _ => none
  | .resyncTimeout _ => none
  | .journalRecordDone _ _ => none
  | .compactionStart _ => none
  | .compactionPass _ => none
  | .compactionSwitch _ => none
  | .tokenProof _ car _ => carRank car
  | .credProof _ car _ => carRank car
  | .attest _ car _ => carRank car
  | .enrolCode _ car _ => carRank car
  | .enrolRequest _ car _ => carRank car
  | .revokeRequest _ car _ => carRank car
  | .endMessage _ car _ => carRank car
  | .zariqueDrop _ car _ => carRank car
  | .challenge _ _ => none
  | .prompt _ _ => none
  | .rangingSetup _ _ => none
  | .keyDeliveryAck _ car => carRank car
  | .challengeExpiry _ => none
  | .doorOpenEdge _ _ _ _ => none
  | .entryTimeout _ => none
  | .startTimeout _ => none
  | .ignInFall _ => none
  | .ignInRise _ => none
  | .lockoutEnd _ => none
  | .lockoutPersist _ => none
  | .learnWindowExpiry _ => none
  | .accLearnCancel _ _ => none
  | .accRevokeToken _ _ _ => none
  | .accLockoutClear _ _ _ => none
  | .accEnrolImport _ _ _ => none
  | .evidenceItem _ item own => some (if own.isSome then ownRank (byteAt 0 item) else 4 + byteAt 1 item)
  | .evaluationDone _ => none
  | .requestWindowEnd _ _ _ => none
  | .vetoHoldEnd _ => none
  | .roundGraceExpiry _ _ _ => none
  | .verdictExpiry _ _ _ => none
  | .tsApply _ _ => none
  | .sealIssue _ _ _ => none
  | .pulseEnd _ _ _ => none
  | .deadTimeEnd _ _ => none
  | .gateLock _ _ => none
  | .gateRbSample _ _ _ => none
  | .startEnLimit _ => none
  | .gateFaultClear _ _ _ => none
  | .gateQuench _ _ _ => none
  | .sealPathFault _ => none
  | .immoChallenge _ _ => none
  | .immoAck _ _ => none
  | .immoReleasePeriod _ => none
  | .immoWaitExpiry _ => none
  | .limiterCut _ _ _ => none
  | .gpioHoldExpiry _ _ => none
  | .blockStart _ _ => none
  | .opportunityStart _ => none
  | .uwbFrameLaunch _ _ _ => none
  | .uwbResponse _ _ _ => some 0
  | .uwbReport _ _ => some 0
  | .blink _ _ _ => some 0
  | .uwbSync _ _ _ _ => none
  | .uwbRxWindowEnd _ => none
  | .roundClose _ => none
  | .uwbAuxTx _ _ _ => none
  | .uwbAuxRx _ _ _ => none
  | .uwbAuxDone _ _ _ => none
  | .transceiverRequest _ _ _ _ _ _ _ _ _ => none
  | .synthLocked _ _ => none
  | .synthLockTimeout _ _ => none
  | .packetEnd _ _ _ => none
  | .keepReadyExpiry _ _ => none
  | .offDelayExpiry _ _ => none
  | .gapCalibrationStart _ _ => none
  | .forcedCalibrationStart _ _ => none
  | .calibrationDone _ _ _ _ => none
  | .rfcCalRun _ _ _ => none
  | .annealTick _ _ => none
  | .advertisingEvent _ _ => none
  | .connectionOpen _ _ _ _ _ _ => none
  | .connectionClose _ _ => none
  | .connectionEvent _ _ _ _ _ _ _ => some 3
  | .mtuExchange _ _ _ => none
  | .cccdWrite _ _ _ _ => none
  | .smpPairingRequest _ _ => none
  | .llEncReq _ _ => none
  | .phyUpdate _ _ _ => none
  | .connectionParamRequest _ _ _ _ _ => none
  | .noSessionLimit _ _ => none
  | .boostExpiry _ => none
  | .bleEngPublish _ _ _ => none
  | .bleEngNotify _ _ _ => none
  | .bleEngRelease _ _ _ => none
  | .bleEngRx _ _ _ => none
  | .engineCharWrite _ _ _ _ _ => none
  | .attRead _ _ _ => none
  | .indicationConfirm _ _ => none
  | .capScan _ _ => none
  | .capConfirmMeasure _ _ _ => none
  | .capStuck _ _ => none
  | .touchHandoff _ _ => none
  | .lfExchangeStart _ _ => none
  | .lfDriveMeasure _ _ _ _ _ => none
  | .lfOvercurrentCut _ => none
  | .lfCarrierReturn _ => none
  | .seg1 _ _ => none
  | .lfNoSync _ => none
  | .seg2 _ _ _ => some 1
  | .reply _ _ _ => some 1
  | .uid _ _ => none
  | .confirm _ _ => none
  | .lfDiagRun _ _ _ _ _ _ _ _ _ => none
  | .vlfRecover _ _ => none
  | .nfcPing _ _ _ _ _ => none
  | .nfcActivation _ _ _ _ _ _ => none
  | .nfcCardFrame _ _ _ _ => none
  | .nfcReserveAttempt _ _ _ _ _ _ => none
  | .nfcRApdu _ _ _ => some 2
  | .nfcResponseTimeout _ _ _ => none
  | .nfcIdleEnd _ _ => none
  | .nfcExchangeMax _ _ => none
  | .nfcReactivate _ _ _ _ _ _ => none
  | .nfcOvercurrentCut _ _ => none
  | .nfcFaultClear _ _ _ => none
  | .vnfcRecover _ _ => none
  | .fieldPowerUp _ _ => none
  | .tearRecoveryEnd _ => none
  | .fieldLoss _ _ => none
  | .reqa _ => none
  | .wupa _ => none
  | .anticollision _ _ _ _ => none
  | .rats _ => none
  | .ppsRequest _ _ => none
  | .hlta _ => none
  | .sDeselect _ => none
  | .selectApplication _ _ => none
  | .selectFile _ _ => none
  | .readBinary _ _ _ => none
  | .updateBinary _ => none
  | .getInfo _ => none
  | .authBegin _ _ => none
  | .authFinish _ _ _ => none
  | .getRecordInfo _ _ => none
  | .readRecord _ _ _ => none
  | .writeRecord _ _ _ => none
  | .tagBadApdu _ _ _ _ => none
  | .tagWriteDone _ => none
  | .tagRecWrite _ _ _ _ => none
  | .tagRecAclWrite _ _ _ => none
  | .tagNdefStage _ _ _ _ => none
  | .tagNdefCommit _ _ _ => none
  | .tagKeyWrite _ _ _ _ => none
  | .tagKeyUnblock _ _ _ => none
  | .cxSubmit _ _ _ => none
  | .cxTakeResult _ _ => none
  | .cxBlockDone _ _ => none
  | .cxRequestDone _ _ => none
  | .keyImport _ _ _ => none
  | .keyGenerate _ _ _ => none
  | .keyDerive _ _ _ => none
  | .keyExport _ _ _ => none
  | .keyErase _ _ _ => none
  | .keyZeroize _ _ _ => none
  | .keyZeroizeAll _ _ _ => none
  | .zeroizeOverwriteDone _ _ => none
  | .keyMirror _ _ _ => none
  | .keyMirrorAck _ _ _ => none
  | .keyMirrorTimeout _ => none
  | .sourceSettled _ _ => none
  | .assayBlock _ _ _ => none
  | .sourceRestartDone _ _ => none
  | .drbgReseed _ => none
  | .reseedLimit _ => none
  | .drbgGenerate _ => none
  | .rngRandom _ _ => none
  | .add _ _ => none
  | .sub _ _ => none
  | .and_ _ _ => none
  | .or_ _ _ => none
  | .xor_ _ _ => none
  | .shl _ _ => none
  | .shr _ _ => none
  | .sar _ _ => none
  | .addi _ _ => none
  | .andi _ _ => none
  | .ori _ _ => none
  | .xori _ _ => none
  | .shli _ _ => none
  | .shri _ _ => none
  | .sari _ _ => none
  | .ldi _ _ => none
  | .lui _ _ => none
  | .mul _ _ => none
  | .muls _ _ => none
  | .mulResult _ _ => none
  | .mov _ _ => none
  | .clz _ _ => none
  | .bswap _ _ => none
  | .cmp _ _ => none
  | .cmpi _ _ => none
  | .plog _ _ => none
  | .ldw _ _ => none
  | .ldh _ _ => none
  | .ldb _ _ => none
  | .stw _ _ => none
  | .sth _ _ => none
  | .stb _ _ => none
  | .ldwp _ _ => none
  | .stwp _ _ => none
  | .ldo _ _ => none
  | .ldoReadRecord _ _ => none
  | .sto _ _ => none
  | .stoExec _ _ => none
  | .engineDictComplete _ _ => none
  | .br _ _ => none
  | .call _ _ => none
  | .ret _ _ => none
  | .jr _ _ => none
  | .callr _ _ => none
  | .rpt _ _ => none
  | .rptr _ _ => none
  | .mfs _ _ => none
  | .mts _ _ => none
  | .wfe _ _ => none
  | .waitt _ _ => none
  | .engineEventWake _ _ => none
  | .waittDeadline _ _ => none
  | .sev _ _ => none
  | .stop _ _ => none
  | .nop _ _ => none
  | .illegalOp _ _ => none
  | .engineWatchdog _ _ => none
  | .trapRestart _ _ => none
  | .breakpointHit _ _ => none
  | .engControlStart _ _ _ => none
  | .engControlStop _ _ _ => none
  | .engControlRestart _ _ _ => none
  | .engLoadBegin _ _ _ _ => none
  | .engLoadData _ _ _ _ => none
  | .engLoadCommit _ _ => none
  | .engLoadCommitDone _ => none
  | .engLoadAbort _ _ => none
  | .engLoadTimeout _ => none
  | .engDoorbell _ _ _ _ => none
  | .engDoorbellRx _ _ => none
  | .engObjWriteRx _ _ => none
  | .gpioEdge _ _ _ => none
  | .dbgIdent _ _ => none
  | .dbgUnlock _ _ => none
  | .dbgHalt _ _ => none
  | .dbgRun _ _ => none
  | .dbgStep _ _ => none
  | .dbgRegRead _ _ => none
  | .dbgRegWrite _ _ => none
  | .dbgMemRead _ _ => none
  | .dbgMemWrite _ _ => none
  | .dbgBreak _ _ => none
  | .canFrameRx _ _ _ _ => none
  | .netCanTx _ _ _ => none
  | .netCanRx _ _ => none
  | .netCanRecover _ _ _ => none
  | .canBusOff _ _ => none
  | .canBusOffRecovery _ _ => none
  | .canFrameTxDone _ _ _ _ => none
  | .launchTimeReached _ => none
  | .netEthTx _ _ _ => none
  | .netEthRx _ _ => none
  | .netTxDone _ _ => none
  | .t1sFrameRx _ _ _ _ _ _ _ => none
  | .t1sFrameTxDone _ _ _ => none
  | .plcaBeaconLoss _ => none
  | .wairilLinkDown _ _ _ => none
  | .wairilCommaAlign _ => none
  | .wairilLinkUp _ => none
  | .qsOperationDone _ _ => none
  | .pps _ => none
  | .ppsWidthEnd _ => none
  | .timeStep _ _ _ _ => none
  | .timeSet _ _ _ => none
  | .timeSlew _ _ _ => none
  | .timeStepConfirm _ _ _ => none
  | .timeAsymmetryWrite _ _ _ => none
  | .sync _ _ _ _ _ => none
  | .followUp _ _ _ _ => none
  | .pdelayReq _ _ _ => none
  | .pdelayResp _ _ _ _ => none
  | .announce _ _ => none
  | .syncInterval _ => none
  | .pdelayInterval _ => none
  | .announceInterval _ => none
  | .timeSourceLoss _ => none
  | .holdoverLimit _ => none
  | .tsInEdge _ _ _ => none
  | .heartbeat _ _ _ => none
  | .heartbeatPeriod _ _ => none
  | .presence _ _ => none
  | .presencePeriod _ => none
  | .roundPlan _ _ => none
  | .report _ p => some (4 + leAt 2 2 p % 16)
  | .lfRequest _ _ => none
  | .join _ _ => none
  | .joinAck _ _ => none
  | .joinRepeat _ => none
  | .workerLost _ _ => none
  | .mgrLoss _ => none
  | .peerLoss _ _ => none
  | .twinResolutionTimeout _ => none
  | .electionTimeout _ => none
  | .mirror _ _ _ => none
  | .tinDigest _ _ _ => none
  | .tinPull _ _ _ => none
  | .tinData _ _ _ => none
  | .tinPeriod _ => none
  | .twinTinRun _ _ => none
  | .twinTakeover _ _ _ => none
  | .commit _ _ _ => none
  | .commitAck _ _ _ => none
  | .commitResend _ => none
  | .vaonPor _ => none
  | .vaonLoss _ _ => none
  | .vsupBrownout _ => none
  | .vioUndervoltage _ => none
  | .vioReturn _ => none
  | .resetN _ => none
  | .resetRelease _ _ _ _ _ => none
  | .startUpSelfTestDone _ _ _ _ => none
  | .aonWatchdog _ => none
  | .watchdogRestart _ => none
  | .pwrShutdown _ _ _ => none
  | .shutdownExit _ _ => none
  | .corePowerDown _ => none
  | .coreWake _ _ => none
  | .scheduledWake _ => none
  | .pllLock _ => none
  | .pllLockLoss _ => none
  | .pllRelockTimeout _ => none
  | .referenceMonitorPass _ => none
  | .referenceLoss _ => none
  | .slowXtalSwitch _ => none
  | .slowXtalFail _ => none
  | .clockRatioMeasure _ _ => none
  | .tmrCtrlWrite _ _ _ _ => none
  | .tmrEndWrite _ _ _ _ => none
  | .tmrCmpWrite _ _ _ _ => none
  | .tmrStatusWrite _ _ _ _ => none
  | .tmrCaptureRead _ _ _ => none
  | .tmrCountEnd _ _ => none
  | .tmrMatch _ _ => none
  | .tmrMatchB _ _ => none
  | .tmrZeroTurn _ _ => none
  | .tmrCaptureEdge _ _ _ _ => none
  | .burnishStep _ _ _ _ _ => none
  | .burnishSlotWake _ => none
  | .limiterSample _ _ _ => none
  | .limiterStageFall _ => none
  | .canTelemetry _ => none
  | .logHeadWrite _ => none
  | .logSectorWrite _ _ => none
  | .canBusError _ _ _ => none
  | .plcaBeaconReturn _ => none
  | .notifyGapExpiry _ _ _ _ => none
  | .nfcWupRetry _ _ => none

/-- The order of R37: host, twin, network sessions by ID, the field, engines by number. -/
def Requester.rank : Requester → Nat
  | .host => 0
  | .twin => 1
  | .net sid => 2 + sid % 256
  | .field => 258
  | .engine n => 259 + n

/-- The place of a command among those of its cycle: an access of the dictionary by its class (R37), after every access the end of a
cipher block or request (R476: a zeroize of the same cycle comes before it), and what brings evidence by its unit (R209). -/
def Instr.place (c : Instr) : Option (Nat × Nat) :=
  match c with
  | .cxBlockDone _ _ => some (0, 65536)
  | .cxRequestDone _ _ => some (0, 65536)
  | _ =>
    match c.asks with
    | some r => some (0, r.rank)
    | none => c.brings.map fun n => (1, n)

namespace Machine

/-- The place `b` comes before the place `a`, where both are there and of one kind. -/
def comesFirst (a b : Option (Nat × Nat)) : Bool :=
  match a, b with
  | some a, some b => a.1 = b.1 && b.2 < a.2
  | _, _ => false

/-- Two commands arrive in one CKS cycle of 10 time units, and the second is served before the first. -/
def overtakes (x c : Instr) : Bool := x.time / 10 = c.time / 10 && comesFirst x.place c.place

/-- A command enters a queue: behind all that wait, but in front of the first command that it overtakes. -/
def enqueue (c : Instr) : List Instr → List Instr
  | [] => [c]
  | x :: l => if overtakes x c then c :: x :: l else x :: enqueue c l

/-- A command arrives at the block. -/
def State.arrive (s : State) (c : Instr) : State := { s with pending := enqueue c s.pending }

/-- A queue keeps the order of R37 and R209: no command waits behind one of its cycle that it should precede. -/
def inOrder : List Instr → Bool
  | [] => true
  | x :: l => (l.all fun c => !overtakes x c) && inOrder l

end Machine
end Sys2Proof
end

