-- ==== Sys2Proof/Safety.lean ====
section
/-! DEFINITION. The terms claims are stated in: the canonical forms that every state keeps, and how a command ends. -/
namespace Sys2Proof.Machine

/-- Every octet memory of the part is in canonical form: each engine's data memory and the mailbox (R524, R553). -/
def MemoriesWf (s : State) : Prop := Mem.wf s.eng.mbx ∧ ∀ e ∈ s.eng.es, Mem.wf e.data

/-- The plain data of a state is canonical: the register file and the pending values (R39), and every octet memory. -/
def Canonical (s : State) : Prop := RegWf s ∧ MemoriesWf s

/-- The interlock of the release balls (R240, R242): in each group no B ball is high beside an A ball, none is high in a dead time, and the
pulses that wait for its end are the group's own; the B ball of gate 0 is never driven (R241). -/
def Gate.Interlocked (x : Gate) : Prop :=
  (x.b.getD 0 ⟨false, 0⟩).high = false ∧
    ∀ grp, ((x.bBall grp).high = true → x.groupA grp = false) ∧
      ∀ d, x.deadOf grp = some d → (x.bBall grp).high = false ∧ x.groupA grp = false ∧ ∀ g ∈ d.a, gateGroup g = grp

/-- Command `c` completes in `s`: `u` is the state its own effect leaves, and what surrounds every command follows; `s0` is the state at
the command's time. -/
def Ends (c : Instr) (s s0 u : State) : Prop := exec c s = .next (u.fin s0)

/-- The state after an engine's instruction: what surrounds every command follows only where the instruction changed the engine's state
or the mailbox. -/
def engFin (n : Nat) (s0 u : State) : State :=
  if (u.engine n).st = (s0.engine n).st && u.eng.mbx = s0.eng.mbx then u else u.fin s0

/-- The request that a command row of its own makes of the dictionary. -/
def rowReq (op idx sub : Nat) (data : Bytes) : Req := ⟨op, 0, idx, sub, 0, data, true⟩

/-- The requester may ask, the dictionary serves, a session has room for the request (R77), and every check of R38 passes. -/
def Admits (s : State) (who : Requester) (q : Req) : Prop :=
  s.serving = true ∧ s.mayAsk who = true ∧ s.askFull who = false ∧ s.reqCheck who q = none

/-- Where the requester may ask and every check passes, command `c` answers `a`, with `u` what its effect leaves. -/
def Answers (c : Instr) (s s0 : State) (who : Requester) (q : Req) (a : Resp) (u : State) : Prop :=
  Admits s0 who q → exec c s = .next ((u.answered who q a).fin s0)

/-- Where the requester may ask and every check passes, command `c` starts and runs on, with `u` what its start leaves. -/
def Starts (c : Instr) (s s0 : State) (who : Requester) (q : Req) (u : State) : Prop :=
  Admits s0 who q → exec c s = .next ((u.runsOn who q).fin s0)

/-- Engine `n` issues the word `w` with opcode `o`: it may issue, `w` stands at its PC within its code, decodes, may stand there, and its
guard holds; `e` is the engine with the products that have arrived (R527, R530, R543). -/
def Issues (s : State) (n w o : Nat) (e : Engine) : Prop :=
  s.mayIssue n = true ∧ s.fetched n = w ∧ iOp w = o ∧ (s.engine n).settle s.cyc = e ∧ e.pc + 4 ≤ e.codeLen ∧ decodeTrap w = none ∧
    (s.engine n).comboBad w = false ∧ e.pred (bits w 29 3) ≠ bit w 28

/-- The state after an instruction of engine `n` that left `e` and does not branch: the next address, or the next repetition. -/
def State.issued (s : State) (n : Nat) (e : Engine) : State := s.setEngine n { e.next with pass := false }

/-- Engine `n` completes an instruction with `u` what it leaves. -/
def Issued (c : Instr) (s s0 : State) (n : Nat) (u : State) : Prop := exec c s = .next (engFin n s0 u)

end Sys2Proof.Machine
end

