-- ==== Sys2Proof/Certificates/Slice0/Obligations.lean ====
section
/-! DEFINITION. The statements for the provers. In each, `s0` is the state at the time of the command: the present time is
the later of the state's and the command's, and a reset that was due by then has been taken. -/

open Sys2Proof Sys2Proof.Machine

/-- A step runs the command at the front of the queue, and idles where none waits. Where command c stands at the front of the queue, a step
is c's effect on the state with the rest of the queue. Where no command waits, a step answers the state it found: that is the model's
choice (log entry 50), since time passes only with the time that a command carries. -/
def Obligations.StepRunsTheFrontCommand : Prop :=
  ∀ s : State,
    (∀ (c : Instr) (rest : List Instr), s.pending = c :: rest → step s = exec c { s with pending := rest }) ∧
    (s.pending = [] → step s = .next s)

/-- Commands of one CKS cycle are served in the order of their requesters. Where a queue holds no command behind one of its cycle that it
should precede, a command that arrives leaves the queue so, adds itself and nothing else, and changes nothing but the queue. In such a
queue, of two accesses of the dictionary in one CKS cycle of 10 time units the one in front is of the host, else of the twin, else of a
network session with the lower ID, else of the field, else of the engine with the lower number. That a command arrives at its place in
the queue is the model's form of the arbitration (log entry 72). -/
def Obligations.ArrivalsKeepTheOrder : Prop :=
  ∀ (s u : State) (c : Instr), inOrder s.pending = true → s.arrive c = u →
    inOrder u.pending = true ∧ u.pending.Perm (c :: s.pending) ∧ { u with pending := s.pending } = s ∧
    ∀ (x y : Instr) (a b : Requester), [x, y].Sublist u.pending → x.time / 10 = y.time / 10 → x.asks = some a → y.asks = some b →
      a.rank ≤ b.rank

/-- No command stops the part. In every state every command answers a next state: none ends in a fault or a refusal. -/
def Obligations.EveryCommandAnswersNext : Prop :=
  ∀ (c : Instr) (s : State), ∃ u : State, exec c s = .next u

/-- The reset state is canonical and interlocked, and every object reads its default. At reset the queue is empty, the registers, pending
values and memories are in canonical form, every stored object holds the default that its table gives, no value is pending, every
release ball is low and no dead time runs, so the interlock holds. -/
def Obligations.ResetMeetsTheInvariants : Prop :=
  State.reset.pending = [] ∧ Canonical State.reset ∧ State.reset.gate.Interlocked ∧
    ∀ g : Nat, (State.reset.gate.aBall g).high = false ∧ (State.reset.gate.bBall g).high = false ∧ State.reset.gate.deadOf g = none ∧
      ∀ sub : Nat, State.reset.g g sub = dfltOf State.reset g sub ∧ State.reset.pendOf g sub = none

/-- Every step keeps registers, pending values and memories canonical. From every state whose register file, pending values, mailbox and
engine memories are in canonical form, a step with any command leaves them so: addresses strictly rising, and nothing listed that an
unlisted address reads as. -/
def Obligations.StepKeepsCanonicalForms : Prop :=
  ∀ s s' : State, Canonical s → step s = .next s' → Canonical s'

/-- No step drives both balls of an interlock group. From every state in which the interlock holds, a step with any command leaves it
holding: while an A ball is high, no B ball of a gate of its interlock group is, gates 0 and 1 being one group; in a dead time all of
the group's balls are low; and what waits for its end is a pulse of the group. -/
def Obligations.StepKeepsTheInterlock : Prop :=
  ∀ s s' : State, s.gate.Interlocked → step s = .next s' →
    s'.gate.Interlocked ∧
      ∀ g h : Nat, g < 3 → h < 3 → gateGroup g = gateGroup h → (s'.gate.aBall g).high = true → (s'.gate.b.getD h ⟨false, 0⟩).high = false

/-- Every step keeps the fuses, takes one command and never turns time back. Whatever command a step runs, the fuses and with them the
variant and the device's root key stay as they are, exactly the command at the front leaves the queue, and the present time does not run
back. -/
def Obligations.StepKeepsFusesQueueAndTime : Prop :=
  ∀ s s' : State, step s = .next s' → s'.fuse = s.fuse ∧ s'.pending = s.pending.tail ∧ s.now ≤ s'.now

/-- The layout of a response PDU. A response carries the request's OP with bit 7 set, its SEQ, INDEX and SUB, the result code in byte 5, and
LEN least significant octet first. An OK response, which only an OP below 64 has, carries its data where its detail is NONE; with
another detail it also has bit 6 of OP set, and its data is followed by the detail byte, which LEN counts. Any other result, whatever
the OP, has bit 6 of OP clear, LEN 1 and the detail byte. -/
def Obligations.ResponsesHaveTheirLayout : Prop :=
  ∀ (q : Req) (r : Resp),
    ∃ rest : Bytes,
      (r.code ≠ 0 → respPdu q r = BitVec.ofNat 8 (q.op % 64 + 0x80) :: rest ++ [1#8, 0#8, BitVec.ofNat 8 r.detail]) ∧
      (q.op < 64 → r.code = 0 → r.detail = 0 → respPdu q r = BitVec.ofNat 8 (q.op + 0x80) :: rest ++ toLe 2 r.data.length ++ r.data) ∧
      (q.op < 64 → r.code = 0 → r.detail ≠ 0 → respPdu q r = BitVec.ofNat 8 (q.op + 0x80 + 0x40) :: rest ++ toLe 2 (r.data.length + 1) ++ r.data ++
        [BitVec.ofNat 8 r.detail]) ∧
      rest = [BitVec.ofNat 8 q.seq, BitVec.ofNat 8 q.idx, BitVec.ofNat 8 (q.idx / 256), BitVec.ofNat 8 q.sub, BitVec.ofNat 8 r.code]

/-- When a twin is witnessed. A twin is witnessed exactly when the workers whose last PRESENCE named its node as MGR, each at most three
SegBeatPeriods ago, are more than half of SegWorkerCount. Object 0x4208.00 reads that result to every requester, and with no workers it
is false. -/
def Obligations.WitnessIsAStrictMajority : Prop :=
  ∀ (s : State) (who : Requester),
    (s.witnessed = true ↔ s.workerCount < 2 * (List.range 16).countP (fun n => decide (s.workerState n ≠ 0 ∧ (s.wnode n).mgr = s.seg.node ∧
      ∃ t ∈ (s.wnode n).seen, s.now ≤ t + 3 * ms (s.g 0x4205 0)))) ∧
    s.readVal who 0x4208 0 = toLe 1 (b2n s.witnessed) ∧
    (s.workerCount = 0 → s.witnessed = false)

/-- No majority of the workers can name two devices. Whichever PRESENCE frames a twin judges, those of the last three SegBeatPeriods or
those since its path was lost, two majorities name the same node, since each worker's last PRESENCE names one: at most one twin is
witnessed. -/
def Obligations.NoMajorityNamesTwoDevices : Prop :=
  ∀ (s : State) (m1 m2 t1 t2 : Nat), s.majority (s.naming m1 t1) = true → s.majority (s.naming m2 t2) = true → m1 = m2

/-- What a refused request does. A request that a check of the dictionary refuses leaves the refusal as its answer and nothing else; one of
a network session that has four waiting is answered BUSY with QUEUE_FULL; one that the dictionary does not serve, or that its requester
may not make, leaves the state as it is. -/
def Obligations.RefusedRequestsOnlyAnswer : Prop :=
  ∀ (s : State) (who : Requester) (op idx sub : Nat) (data : Bytes),
    (∀ c d : Nat, s.serving = true → s.mayAsk who = true → s.askFull who = false → s.reqCheck who (rowReq op idx sub data) = some (c, d) →
      s.ask who op idx sub data = s.answered who (rowReq op idx sub data) ⟨c, d, []⟩) ∧
    (s.serving = true → s.mayAsk who = true → s.askFull who = true →
      s.ask who op idx sub data = s.answered who (rowReq op idx sub data) ⟨Rc.busy, Dt.queueFull, []⟩) ∧
    (s.serving = false ∨ s.mayAsk who = false → s.ask who op idx sub data = s)

/-- The last pending value of a NEXT object takes hold. Where a write to an object whose effect is NEXT is accepted, it answers OK with the
detail PENDING and the object keeps its value in force; a second write replaces the pending value; and at the boundary the last value
written takes hold, with no other object changed. -/
def Obligations.PendingValueTakesHold : Prop :=
  ∀ (s s1 s2 : State) (who : Requester) (idx sub : Nat) (b : Boundary) (v1 v2 : Bytes), RegWf s → idx < 0x8000 → sub < 256 →
    (findObj idx sub).map ObjDef.eff = some (.next b) → inR 0x3140 0x314F idx = false →
    (s.applyWrite who idx sub v1).2 = s1 → (s1.applyWrite who idx sub v2).2 = s2 →
    (s.applyWrite who idx sub v1).1 = some ⟨0, 1, []⟩ ∧
    s2.g idx sub = s.g idx sub ∧ s2.pendOf idx sub = some (leNat v2) ∧
    (s2.applyPend idx sub).g idx sub = leNat v2 ∧ (s2.applyPend idx sub).pendOf idx sub = none ∧
    ∀ idx' sub' : Nat, okey idx' sub' ≠ okey idx sub → (s2.applyPend idx sub).g idx' sub' = s2.g idx' sub'

/-- Extending and judging the counter of the legacy LF link. The 16 bits received extend to the one counter above the last accepted that has
them and is at most 65,536 above it; the example of R141 and cases 1 to 6, 7, 9 and 11 of its table hold of the judgement, with W 16 and
V 4,096. -/
def Obligations.CounterOfTheLegacyLink : Prop :=
  (∀ last r : Nat, r < 65536 → extendCtr last r % 65536 = r ∧ last < extendCtr last r ∧ extendCtr last r ≤ last + 65536) ∧
    extendCtr 0x1FFF8 5 = 0x20005 ∧
    ∀ (x x2 x4 : Ctr), x = ⟨1000, 0, none, false⟩ → x2 = { x with last := 1016 } → x4 = { x with pend := some (1017, 0) } →
      x.judge none 16 4096 1001 = (.accepted, { x with last := 1001 }) ∧ x.judge none 16 4096 1016 = (.accepted, x2) ∧
      x.judge none 16 4096 1000 = (.replay, x) ∧ x.judge none 16 4096 1017 = (.resync, x4) ∧
      x.judge none 16 4096 5096 = (.resync, { x with pend := some (5096, 0) }) ∧ x.judge none 16 4096 5097 = (.replay, x) ∧
      (x.judge (some 1017) 16 4096 1018).1 = .accepted ∧ (x.judge (some 1017) 16 4096 1018).2.last = 1018 ∧
      (x.judge (some 1017) 16 4096 1005).1 = .accepted ∧ (x.judge (some 1017) 16 4096 1005).2.last = 1005 ∧
      x2.judge none 16 4096 1010 = (.replay, x2)

/-- The cyclic codes over the nine octets "123456789". Over the ASCII octets "123456789" the CRC-8 with initial value 0 gives 0xF4, the
CRC-16 gives 0x29B1, and the CRC-32 gives 0xCBF4_3926. -/
def Obligations.CyclicCodesMatchTheExamples : Prop :=
  crc8 0 (ascii "123456789") = 0xF4 ∧ crc16 (ascii "123456789") = 0x29B1 ∧ crc32 (ascii "123456789") = 0xCBF43926

/-- Which engines an event reaches. Where engine n issues SEV with a mask, bit 8 + n of EVT is set in every present engine of the mask that
runs or waits, the sender among them, no other bit of any EVT changes, and an engine that the mask does not name, or that is absent, is
left alone. -/
def Obligations.SetEventReachesTheNamedEngines : Prop :=
  ∀ (n mask : Nat) (s : State) (m : Nat), n < 8 → s.eng.es.length = 8 →
    (m < engCount s.fuse.variant → bit mask m = true → (s.engine m).listens = true →
      (s.sev n mask).engine m = { s.engine m with evt := (s.engine m).evt ||| BitVec.ofNat 32 (2 ^ (8 + n)) }) ∧
    (engCount s.fuse.variant ≤ m ∨ bit mask m = false ∨ (s.engine m).listens = false → (s.sev n mask).engine m = s.engine m)

/-- What surrounds a command where nothing waits. The frame of every command that ends in what surrounds it: where no session is open, no
card is active, no answer, reset, idle write or notification waits, nothing is subscribed, nothing has been logged, and the outputs show
what they showed, the state after the surroundings is the state before them, but for the time since which the CORE has been idle. -/
def Obligations.SurroundingsLeaveAQuietPartAlone : Prop :=
  ∀ s s0 : State, (∀ o ∈ s.acc.ses, o = none) → (∀ p ∈ s.nfc.ports, p.act = none) → s.dict.done = [] → s.dict.resetMsg = none →
    s.dict.idleWait = [] → s.log.next = s0.log.next → s.dict.subs = [] → (∀ x ∈ s.dict.ntfs, x.q = []) → s.accessMarks = s0.accessMarks → s.gateSummary = s0.gateSummary →
    s.fin s0 = { s with pwr.idleAt := if s.coreIdle && s.pwr.core then some (s.pwr.idleAt.getD s.now) else none }

/-- The memory frame of the engine stores. Where an engine issues STW, STH or STB to an aligned address in its own memory, exactly 4, 2 or 1
octets from that address change, to the low octets of rd, least significant first; every other octet of its memory, the mailbox, every
other engine and all state outside the engines is as before. -/
def Obligations.StoresWriteOnlyTheirOctets : Prop :=
  ∀ (t n w o k : Nat) (c : Instr) (s s0 : State) (e : Engine), s.tick t = s0 → Issues s0 n w o e → Mem.wf e.data →
    (o, k, c) ∈ [(0x23, 4, Instr.stw t n), (0x24, 2, .sth t n), (0x25, 1, .stb t n)] →
    ∀ a : Nat, (e.reg (iRa w) + iS14 w).toNat = a → a % k = 0 → a + k ≤ 0x4000 →
      ∃ u : State, exec c s = .next u ∧
        (∀ i : Nat, i < k → memGet (u.engine n).data (a + i) = (toLe k (e.reg (iRd w)).toNat).getD i 0) ∧
        (∀ b : Nat, b < a ∨ a + k ≤ b → memGet (u.engine n).data b = memGet e.data b) ∧
        (∀ m : Nat, m ≠ n → u.engine m = s0.engine m) ∧ { u with eng.es := s0.eng.es } = s0

/-- The frame of the engine instructions that write a register. Where an engine issues one of the instructions that write rd from registers
and immediates, it completes, and every other register of its own, its predicates, MLO, MHI, EVT, return addresses, memory, the mailbox,
every other engine and all state outside the engines is as before. -/
def Obligations.ArithmeticChangesOneRegister : Prop :=
  ∀ (t n w o : Nat) (c : Instr) (s s0 : State) (e : Engine), s.tick t = s0 → Issues s0 n w o e →
    (o, c) ∈ [(0x01, Instr.add t n), (0x02, .sub t n), (0x03, .and_ t n), (0x04, .or_ t n), (0x05, .xor_ t n), (0x06, .shl t n),
      (0x07, .shr t n), (0x08, .sar t n), (0x09, .addi t n), (0x0A, .andi t n), (0x0B, .ori t n), (0x0C, .xori t n), (0x0D, .shli t n),
      (0x0E, .shri t n), (0x0F, .sari t n), (0x10, .ldi t n), (0x11, .lui t n), (0x14, .mov t n), (0x15, .clz t n), (0x16, .bswap t n)] →
    ∃ u : State, exec c s = .next u ∧
      (∀ k : Nat, k ≠ iRd w → (u.engine n).reg k = e.reg k) ∧ (u.engine n).p = e.p ∧ (u.engine n).mlo = e.mlo ∧ (u.engine n).mhi = e.mhi ∧
      (u.engine n).evt = e.evt ∧ (u.engine n).ret = e.ret ∧ (u.engine n).data = e.data ∧
      (∀ m : Nat, m ≠ n → u.engine m = s0.engine m) ∧ { u with eng.es := s0.eng.es } = s0

/-- Host SPI commands: what each leaves in the port. With the dictionary alive, STATUS puts the status byte on HS_MISO and clears CMD_ERR;
WRITE_REQ takes a well-formed request when none is in progress and no response waits, and otherwise only sets OVERRUN; READ_RSP clocked
to its end consumes the response and clears OVERRUN, unless a DevReset was answered; READ_NTF clocked to its end consumes the oldest
notification; an undefined command byte sets CMD_ERR; the request in the port is answered with the first check of R38 that fails, and a
READ that passes them with the object's value. -/
def Obligations.SpiCommandsComplete : Prop :=
  ∀ (t : Nat) (s s0 : State), s.tick t = s0 → s0.dict.spi.alive = true →
    let out := fun (bs : Bytes) =>
      ({ s0 with dict.spi.miso := BitVec.ofNat 8 s0.spiStatus :: bs, dict.spi.cmdErr := false } : State)
    Ends (.spiStatus t) s s0 (out []) ∧
    (∀ pdu : Bytes, s0.dict.spi.req = none → s0.dict.spi.rsp = none → (parseReq pdu).lenOk = true →
      Ends (.spiWriteReq t pdu) s s0
        { out (zeros pdu.length) with dict.spi.req := some pdu, dict.spi.running := false }) ∧
    (∀ pdu : Bytes, s0.dict.spi.req.isSome = true ∨ s0.dict.spi.rsp.isSome = true →
      Ends (.spiWriteReq t pdu) s s0 { out (zeros pdu.length) with dict.spi.overrun := true }) ∧
    (∀ (n : Nat) (r : Bytes), s0.dict.spi.rsp = some r → r.length ≤ n → s0.dict.resetDue = none →
      Ends (.spiReadRsp t n) s s0 { out (fit n r) with dict.spi.rsp := none, dict.spi.overrun := false }) ∧
    (∀ (n : Nat) (q : NtfQ) (x : Ntf) (l : List Ntf), s0.dict.ntfs.getD 0 ⟨0, [], []⟩ = q → q.q = x :: l → x.pdu.length ≤ n →
      Ends (.spiReadNtf t n) s s0 { out (fit n x.pdu) with dict.ntfs := putAt s0.dict.ntfs 0 { q with q := l } }) ∧
    (∀ cmd n : Nat, 4 ≤ cmd →
      Ends (.spiUndefinedCommand t cmd n) s s0
        { s0 with dict.spi.miso := BitVec.ofNat 8 s0.spiStatus :: zeros n, dict.spi.cmdErr := true }) ∧
    (∀ b : Bytes, s0.dict.spi.req = some b → s0.dict.spi.running = false → s0.serving = true →
      (∀ e : Nat × Nat, s0.reqCheck .host (parseReq b) = some e →
        Ends (.dictResponseReady t) s s0 (s0.spiAnswer (parseReq b) ⟨e.1, e.2, []⟩)) ∧
      (s0.reqCheck .host (parseReq b) = none → (parseReq b).op = 1 → (parseReq b).idx ≠ 0x1320 → (parseReq b).idx ≠ 0x1310 →
        Ends (.dictResponseReady t) s s0
          ((s0.readEffect (parseReq b).idx (parseReq b).sub).spiAnswer (parseReq b)
            ⟨0, 0, s0.readVal .host (parseReq b).idx (parseReq b).sub⟩)))

/-- Writes, pending values, subscriptions and notifications. A WRITE that passes every check of an object with a NEXT boundary leaves its
value pending and answers OK with the detail PENDING; one of an object that takes effect at once stores it and answers OK; any other
write that passes the checks is answered as its object's unit answers it, or runs on; a pending value whose boundary comes replaces the
value in force; SUBSCRIBE replaces the requester's subscription to the object or adds one, with its period, its gap and the value at
that time, and is answered BUSY with SUBS_FULL where 64, or 16 of the requester's, exist; UNSUBSCRIBE removes it; the end of a
subscription's period, and of the gap with a change held back, queue a notification of the value and set the next due time. -/
def Obligations.DictionaryRowsComplete : Prop :=
  ∀ (t : Nat) (s s0 : State) (r : Requester) (idx sub : Nat), s.tick t = s0 → idx < 0x8000 →
    (∀ (data : Bytes) (o : ObjDef) (b : Boundary), Admits s0 r (rowReq 2 idx sub data) → findObj idx sub = some o →
      o.eff = .next b → inR 0x1210 0x1217 idx = false → inR 0x1218 0x121B idx = false → inR 0x3140 0x314F idx = false → idx ≠ 0x3611 → idx ≠ 0x3630 →
      idx ≠ 0x5022 → area7Live (okey idx sub) = false →
      Ends (.write t r idx sub data) s s0
        (({ s0 with pend := alPut s0.pend (okey idx sub) (leNat data) } : State).answered r (rowReq 2 idx sub data)
          ⟨0, Dt.pending, []⟩)) ∧
    (∀ (data : Bytes) (o : ObjDef), Admits s0 r (rowReq 2 idx sub data) → findObj idx sub = some o →
      o.eff = .imm → inR 0x1210 0x1217 idx = false → inR 0x1218 0x121B idx = false → inR 0x3140 0x314F idx = false → idx ≠ 0x3611 →
      idx ≠ 0x3630 →
      idx ≠ 0x5022 →
      Ends (.write t r idx sub data) s s0
        ((s0.store idx sub (leNat data)).answered r (rowReq 2 idx sub data) ⟨0, 0, []⟩)) ∧
    (∀ (data : Bytes) (u : State), Admits s0 r (rowReq 2 idx sub data) →
      (∀ a : Resp, s0.applyWrite r idx sub data = (some a, u) →
        Ends (.write t r idx sub data) s s0 (u.answered r (rowReq 2 idx sub data) a)) ∧
      (s0.applyWrite r idx sub data = (none, u) → Ends (.write t r idx sub data) s s0 (u.runsOn r (rowReq 2 idx sub data)))) ∧
    (∀ v : Nat, s0.live = true → s0.pendOf idx sub = some v →
      (∀ b ∈ [Boundary.bNextTsApply, .bNextBleEngPublish, .bNextReset, .bNextColdReset, .bNextStartup],
        atBoundary b (okey idx sub) = false) →
      Ends (.pendingValueApply t idx sub) s s0 { s0.put idx sub v with pend := alDel s0.pend (okey idx sub) }) ∧
    (∀ mode period gap : Nat,
      let d : Bytes := BitVec.ofNat 8 mode :: toLe 2 period ++ toLe 2 gap
      let rest := s0.dict.subs.filter fun (y : Sub) => !(y.who = r && y.idx = idx && y.sub = sub)
      Admits s0 r (rowReq 5 idx sub d) → (ntfIx r).isSome = true →
      ((∃ y ∈ s0.dict.subs, y.who = r ∧ y.idx = idx ∧ y.sub = sub) ∨
          s0.dict.subs.length < 64 ∧ (s0.dict.subs.filter fun (y : Sub) => y.who = r).length < 16 →
        Ends (.subscribe t r idx sub mode period gap) s s0
          (({ s0 with dict.subs := rest ++ [⟨r, idx, sub, byteAt 0 d, leAt 1 2 d, leAt 3 2 d, s0.now + ms (leAt 1 2 d),
              s0.now, false, s0.readVal r idx sub⟩] } : State).answered r (rowReq 5 idx sub d) ⟨0, 0, []⟩)) ∧
      ((∀ y ∈ s0.dict.subs, ¬ (y.who = r ∧ y.idx = idx ∧ y.sub = sub)) →
        64 ≤ s0.dict.subs.length ∨ 16 ≤ (s0.dict.subs.filter fun (y : Sub) => y.who = r).length →
        Ends (.subscribe t r idx sub mode period gap) s s0
          (s0.answered r (rowReq 5 idx sub d) ⟨Rc.busy, Dt.subsFull, []⟩))) ∧
    (Admits s0 r (rowReq 6 idx sub []) →
      Ends (.unsubscribe t r idx sub) s s0
        (({ s0 with dict.subs := s0.dict.subs.filter fun (y : Sub) => !(y.who = r && y.idx = idx && y.sub = sub) } : State).answered
          r (rowReq 6 idx sub []) ⟨0, 0, []⟩)) ∧
    (∀ x : Sub, s0.live = true → s0.serving = true →
      (s0.dict.subs.find? fun (x : Sub) => x.who = r && x.idx = idx && x.sub = sub) = some x →
      (2 ≤ x.mode → x.due ≤ s0.now →
        Ends (.notifyPeriodic t r idx sub) s s0
          (({ s0 with dict.subs := s0.dict.subs.map fun (y : Sub) =>
              if y = x then { y with due := x.due + ms x.period } else y } : State).notify r idx sub false)) ∧
      (x.held = true → x.gapEnd ≤ s0.now →
        Ends (.notifyGapExpiry t r idx sub) s s0
          (({ s0 with dict.subs := s0.dict.subs.map fun (y : Sub) =>
              if y = x then { y with held := false, gapEnd := s0.now + ms x.gap } else y } : State).notify r idx sub true)))

/-- Network logins, LOGOUT and the timers of sessions and lock-outs. LOGIN_HELLO of an enabled requester whose slot holds a LOGIN key opens
the first free session slot with the key derived from both nonces, and answers the session number and the device nonce; a LOGIN_PROOF
whose CMAC agrees opens the session and answers the device's proof, and one that does not frees it, counts against the requester ID and
answers AUTH_FAIL; LOGOUT is answered and frees the session; a session with no proof within its second, or idle for its time-out, is
freed; a lock-out whose end has come is lifted. -/
def Obligations.NetworkLoginCompletes : Prop :=
  ∀ (t : Nat) (s s0 : State), s.tick t = s0 →
    (∀ (via : Transport) (seq : Nat) (d : Bytes) (s1 : State) (h i : Nat) (k : Bytes), d.length = 17 → s0.serving = true →
      s0.gate.quench = false → s0.drawOk = true → byteAt 0 d ≤ 7 → s0.boundary .bNextLogin = s1 →
      bit (s1.g 0x1040 (byteAt 0 d + 1)) 16 = true → s1.g 0x1040 (byteAt 0 d + 1) % 65536 = h → s1.slotKind h = 5 →
      s1.slotKey h = some k → (s1.dict.guards[byteAt 0 d]?.map fun g => g.locked s1.now).getD false = false →
      (s1.dict.net.zipIdx.find? fun p => p.1.phase = .free).map Prod.snd = some i →
      let nd := s1.draw 16
      let key := kdf k (ascii "KAMZEL") (d.drop 1 ++ nd.1 ++ [BitVec.ofNat 8 (byteAt 0 d)] ++ toLe 2 s1.nodeAddr) 16
      Ends (.loginHello t via seq d) s s0
        (({ nd.2.cxOn (sesPage (i + 1)) 5 with
            dict.net := putAt s1.dict.net i ⟨.hello, byteAt 0 d, via, d.drop 1, nd.1, key, 0, 0, s1.now + secs 1, []⟩ } : State).plainSend via
          (parseReq (pduOf 0x10 seq 0 0 0 d)) ⟨0, 0, BitVec.ofNat 8 (i + 1) :: nd.1⟩)) ∧
    (∀ (via : Transport) (seq : Nat) (d : Bytes) (n : NetSess), d.length = 9 → s0.serving = true → s0.gate.quench = false →
      byteAt 0 d ≠ 0 → s0.dict.net[byteAt 0 d - 1]? = some n → n.phase = .hello → n.via = via → s0.now ≤ n.due →
      (cmac64 n.key ([0x01] ++ n.nd ++ n.nr) = d.drop 1 →
        Ends (.loginProof t via seq d) s s0
          (((s0.cxOn (sesPage (byteAt 0 d)) 8).modNet (byteAt 0 d) fun x => { x with phase := .opened, due := s0.now }).plainSend
            via (parseReq (pduOf 0x11 seq 0 0 0 d)) ⟨0, 0, cmac64 n.key ([0x02] ++ n.nr ++ n.nd)⟩)) ∧
      (cmac64 n.key ([0x01] ++ n.nd ++ n.nr) ≠ d.drop 1 →
        Ends (.loginProof t via seq d) s s0
          (({ (s0.cxOn (sesPage (byteAt 0 d)) 4).netDrop (byteAt 0 d) with
              dict.guards := modAt s0.dict.guards n.rid fun g => g.fail 5 s0.now } : State).plainSend
            via (parseReq (pduOf 0x11 seq 0 0 0 d)) ⟨Rc.authFail, 0, []⟩))) ∧
    (∀ sid seq : Nat, s0.serving = true → s0.mayAsk (.net sid) = true →
      Ends (.logout t sid seq) s s0
        (((s0.modNet sid fun x => { x with rx := x.rx + 1, due := s0.now }).netSay sid ⟨0x12, seq, 0, 0, 0, [], true⟩ ⟨0, 0, []⟩).netDrop
          sid)) ∧
    (∀ (sid : Nat) (n : NetSess), 1 ≤ sid → s0.dict.net[sid - 1]? = some n →
      (n.phase = .hello → n.due ≤ s0.now → Ends (.loginProofTimeout t sid) s s0 (s0.netDrop sid)) ∧
      (n.phase = .opened → n.due + secs (s0.g 0x1042 0) ≤ s0.now → Ends (.sessionIdleTimeout t sid) s s0 (s0.netDrop sid))) ∧
    (∀ rid : Nat, Ends (.requesterLockoutEnd t rid) s s0
      { s0 with dict.guards := modAt s0.dict.guards rid fun g =>
          if g.locked s0.now then g else { g with lock := none } })

/-- Dictionary frames of 10BASE-T1S, CAN FD, CAN XL and the Wairil link. A dictionary frame on 10BASE-T1S for this part's address and node
is counted and its message is taken; a CAN FD segment that is first and last is counted and its message is taken, one that is first only
opens the reassembly for 50 ms, and a reassembly whose 50 ms are over is dropped; a CAN XL dictionary frame is counted and its message
taken; the fill pairs added or removed since the last Wairil frame are counted, a frame whose CRC-32 fails is counted, a good one of
TYPE 0x10 carries a dictionary message and one of a segment TYPE goes to its unit. -/
def Obligations.DictionaryFramesComplete : Prop :=
  ∀ (t : Nat) (s s0 : State), s.tick t = s0 → s0.pwr.core = true →
    (∀ (da sa payload : Bytes) (s1 : State), s0.wakeHas 8 = true → s0.net.t1s ≠ 0 → s0.cksOn = true → s0.pwr.held = false → s0.gate.vio = true →
      s0.macTakes da = true → s0.bump 0x4027 1 = s1 → s1.net.t1s ≠ 0 → leNat da = s1.g 0x4020 0 → byteAt 0 payload = 0x10 →
      byteAt 1 payload = 2 → leAt 2 2 payload = s1.nodeAddr → leAt 4 2 payload ≤ 0xFFF →
      Ends (.dictFrameT1s t da sa payload) s s0 (s1.netMessage (.t1s sa (leAt 4 2 payload)) (payload.drop 6))) ∧
    (∀ (c id : Nat) (s1 : State), s0.wakeHas (6 + c) = true → s0.canDictOn c id = true →
      (s0.modCan c fun k => { k with rec_ := min (k.rec_ - 1) 127 }.settle).bump (0x4012 + c) 1 = s1 →
      s1.canDictOn c id = true →
      (∀ d : Bytes, s0.canHears c 1 = true → s1.immoTakes c ⟨1, 0, 0, id, 0, 0, d⟩ = false → 2 ≤ s1.canMode c → s1.serving = true →
        d ≠ [] → byteAt 0 d % 64 = 0 → bit (byteAt 0 d) 7 = true →
        (bit (byteAt 0 d) 6 = true →
          Ends (.canFdSegment t c id d) s s0
            (((s1.setReasm c none).setReasm c none).netMessage (.can c false) (slice 1 63 d))) ∧
        (bit (byteAt 0 d) 6 = false →
          Ends (.canFdSegment t c id d) s s0
            ((s1.setReasm c none).setReasm c (some ⟨slice 1 63 d, 1, s1.now + ms 50⟩)))) ∧
      (∀ d : Bytes, s0.canHears c 3 = true → s1.immoTakes c ⟨3, 0, 0, id, 0, 0, d⟩ = false → s1.canMode c = 3 → s1.has 4 = true →
        Ends (.canXlDictFrame t c id 0 d) s s0 (s1.netMessage (.can c true) d))) ∧
    (∀ (c : Nat) (r : CanReasm), s0.live = true → s0.dict.reasm.getD c none = some r → r.due < s0.now →
      Ends (.canFdSegmentTimeout t c) s s0 (s0.setReasm c none)) ∧
    (∀ (raw : Bytes) (fills : Nat) (s1 : State), s0.wakeHas 9 = true → s0.wlFills fills = s1 → s1.net.wl = 2 → s1.cksOn = true →
      s1.pwr.held = false →
      let n := leAt 1 2 raw
      (raw.length = 7 + n → crc32 (raw.take (3 + n)) ≠ leAt (3 + n) 4 raw →
        Ends (.wairilFrame t raw fills) s s0 (s1.bump 0x4310 8)) ∧
      (raw.length = 7 + n → crc32 (raw.take (3 + n)) = leAt (3 + n) 4 raw →
        (byteAt 0 raw = 0x10 → byteAt 0 (slice 3 n raw) = 0xFF →
          Ends (.wairilFrame t raw fills) s s0
            (s1.netMessage (.t1s (nodeMac s1.seg.segNo s1.peerNode) (s1.addrOf s1.peerNode)) (slice 3 n raw))) ∧
        (byteAt 0 raw = 0x20 ∨ (0x28 ≤ byteAt 0 raw ∧ byteAt 0 raw ≤ 0x2E) →
          Ends (.wairilFrame t raw fills) s s0 (s1.segRoute (BitVec.ofNat 8 (byteAt 0 raw) :: slice 3 n raw) true))))

/-- Transport version 1: reads, writes, unlocking and its two timers. A version 1 READ of a visible, readable object is answered with its
value; a WRITE of a writable one while the writes are unlocked is applied and answered; UNLOCK_REQ draws a challenge of 4 octets and
sends it; an UNLOCK_PROOF that is the CMAC of the challenge unlocks the writes for 30 s and uses the challenge up, and a wrong one ends
the unlock, uses the challenge up and counts; the unlock ends after its 30 s, and a lock-out whose end has come is lifted. -/
def Obligations.VersionOneFramesComplete : Prop :=
  ∀ (t : Nat) (s s0 : State), s.tick t = s0 →
    (∀ (f : Bytes) (s1 s2 : State), s0.pwr.core = true → s0.wakeHas 6 = true → s0.canHears 0 0 = true →
      (s0.modCan 0 fun k => { k with rec_ := min (k.rec_ - 1) 127 }.settle).bump 0x4012 1 = s1 →
      s1.immoTakes 0 ⟨0, 0, 0, 0x7A0, 0, 0, f⟩ = false → s1.canDictOn 0 0x7A0 = false → s1.has 5 = true → s1.gp 0x1048 0 = 1 →
      s1.boundary .bNextV1Frame = s2 → s2.v1On f = true →
      let idx := leAt 1 2 f
      let sub := byteAt 3 f
      (byteAt 0 f = 0x10 → (v1Visible idx sub).isSome = true → s2.objHere idx sub = true → s2.mayRead (.net 1) idx sub = true →
        s2.unitUp idx sub = true → idx ≠ 0x1310 → idx ≠ 0x1320 →
        Ends (.v1Read t f) s s0 ((s2.readEffect idx sub).v1Send 3 f (s2.readVal (.net 1) idx sub))) ∧
      (∀ u : Nat, byteAt 0 f / 16 = 2 → v1Visible idx sub = some true → s2.objHere idx sub = true →
        s2.letterOf (.net 1) idx sub ≠ .no → s2.dict.v1.unlocked = some u → s2.now ≤ u → byteAt 0 f % 16 ≤ 4 →
        s2.dataLenOk ⟨2, 0, idx, sub, 0, slice 4 (byteAt 0 f % 16) f, true⟩ = true → s2.unitUp idx sub = true →
        s2.valueCheck ⟨2, 0, idx, sub, 0, slice 4 (byteAt 0 f % 16) f, true⟩ = none →
        Ends (.v1Write t f) s s0
          ((s2.applyWrite (.net 1) idx sub (slice 4 (byteAt 0 f % 16) f)).2.v1Send 3 f [])) ∧
      (s2.gate.quench = false →
        (byteAt 0 f / 16 = 6 → s2.dict.v1.guard.locked s2.now = false → s2.drawOk = true →
          let c := (s2.boundary .bNextUNLOCKREQ).draw 4
          Ends (.unlockReq t f) s s0
            (({ c.2 with dict.v1.challenge := some c.1 } : State).v1Send 6 f c.1)) ∧
        (∀ c k : Bytes, byteAt 0 f = 0x74 → s2.dict.v1.challenge = some c → s2.v1Key = some k →
          ((cmac k c).take 4 = slice 4 4 f →
            Ends (.unlockProof t f) s s0
              (({ s2.cxUse 3 2 with
                  dict.v1 := { s2.dict.v1 with challenge := none, unlocked := some (s2.now + secs 30) } } : State).v1Send 3 f [])) ∧
          ((cmac k c).take 4 ≠ slice 4 4 f →
            Ends (.unlockProof t f) s s0
              (({ s2 with
                  dict.v1 := ⟨none, none, s2.dict.v1.guard.fail 3 s2.now⟩ } : State).v1Error f Rc.authFail 0))))) ∧
    (∀ u : Nat, s0.dict.v1.unlocked = some u → u ≤ s0.now →
      Ends (.v1UnlockExpiry t) s s0 { s0 with dict.v1.unlocked := none }) ∧
    (s0.dict.v1.guard.locked s0.now = false →
      Ends (.v1LockoutEnd t) s s0 { s0 with dict.v1.guard.lock := none })

/-- DevCommit, DevRestoreDefaults, DevReset and DevSelfTest. With every check passed, DevCommit takes its snapshot and runs on, and its end
switches the banks, counts and answers OK, or leaves the banks and ends with code 0x40; DevRestoreDefaults answers OK with every
committable object at its default; DevReset of either kind is answered and the reset is taken 100 us later, cold only for kind 2, or,
where the answer goes by a port, waits until the answer has left; DevSelfTest runs on, and its end stores the failed units, sets the
summary bit where one failed, enters Quench where the seal path failed, and answers. -/
def Obligations.DeviceCommandsComplete : Prop :=
  ∀ (t : Nat) (s s0 : State) (r : Requester), s.tick t = s0 →
    (s0.dict.commit = none →
      Starts (.devCommit t r) s s0 r (rowReq 3 0x1010 0 []) { s0 with dict.commit := some ⟨r, s0.snapshot⟩ }) ∧
    (∀ c : Commit, s0.live = true → s0.dict.commit = some c →
      Ends (.devCommitDone t true) s s0
        ((((({ s0 with dict.commit := none, dict.bankCur := !s0.dict.bankCur } : State).setBank c.snap).bump 0x1011 0).put 0x1012 0 0).mirror 7 2
          ((c.snap.filter fun e => area7Commit e.1).map fun e => objEntry e.1 e.2).flatten |>.answer c.who 0x1010 ⟨0, 0, []⟩) ∧
      Ends (.devCommitDone t false) s s0
        ((((({ s0 with dict.commit := none } : State).put 0x1012 0 2).errBit 2 0x1000 0x40 0).logEv 0x0C 0x40 0 [4, 0, 0, 0, 0, 2]).answer
          c.who 0x1010 ⟨0x40, 0, []⟩)) ∧
    Answers (.devRestoreDefaults t r) s s0 r (rowReq 3 0x1013 0 []) ⟨0, 0, []⟩ s0.restoreAll ∧
    (s0.dict.resetDue = none →
      (∀ q : Req, q = rowReq 3 0x1018 0 [1] → Admits s0 r q →
        (r = .host ∨ (∃ n : Nat, r = .engine n) →
          Ends (.devResetSystem t r) s s0
            (({ s0 with dict.resetDue := some (false, some (s0.now + us 100)), dict.last := some (r, q, ⟨0, 0, []⟩),
                        now := s0.now + us 100 } : State).resetTake false 4)) ∧
        (∀ s1 : State, ({ s0 with dict.resetDue := some (false, none) } : State).answered r q ⟨0, 0, []⟩ = s1 →
          s1.dict.resetDue = some (false, none) → Ends (.devResetSystem t r) s s0 s1)) ∧
      (∀ q : Req, q = rowReq 3 0x1018 0 [2] → Admits s0 r q → s0.gate.startEn = false → s0.acc.drive = none →
        (r = .host ∨ (∃ n : Nat, r = .engine n) →
          Ends (.devResetCold t r) s s0
            (({ s0 with dict.resetDue := some (true, some (s0.now + us 100)), dict.last := some (r, q, ⟨0, 0, []⟩),
                        now := s0.now + us 100 } : State).resetTake true 5)) ∧
        (∀ s1 : State, ({ s0 with dict.resetDue := some (true, none) } : State).answered r q ⟨0, 0, []⟩ = s1 →
          s1.dict.resetDue = some (true, none) → Ends (.devResetCold t r) s s0 s1))) ∧
    Starts (.devSelfTest t r) s s0 r (rowReq 3 0x1020 0 []) { s0 with dict.selfTest := some r } ∧
    (∀ (who : Requester) (fail : Nat), s0.live = true → s0.dict.selfTest = some who →
      let f := fail &&& presence s0.fuse.variant
      let s1 : State := { s0 with dict.selfTest := none }
      (f = 0 → Ends (.devSelfTestDone t fail false) s s0 ((s1.put 0x1021 0 0).answer who 0x1020 ⟨0, 0, []⟩)) ∧
      (f ≠ 0 → Ends (.devSelfTestDone t fail false) s s0
        (((s1.put 0x1021 0 f).errBit 0 0x1000 0 0).answer who 0x1020 ⟨0, 0, []⟩)) ∧
      (f ||| 0x400 ≠ 0 → Ends (.devSelfTestDone t fail true) s s0
        ((((s1.put 0x1021 0 (f ||| 0x400)).errBit 0 0x1000 0 0).quench 3).answer who 0x1020 ⟨0, 0, []⟩)))

/-- The validity clock, revocation and the counter journal. CredClockConfirm of a held step not above the ceiling raises VC to LOCKED domain
time, which then tracks, and writes a FLOOR record; CredRevoke of a credential not yet listed, with room, lists and mirrors it and ends
what its cache entry holds; a second of the AON clock raises VC by one, with no domain time taken while it is not LOCKED; a FLOOR record
follows each CredFloorPeriod; a pending resync whose time is over is dropped; the read-back of a good record commits it, a bad one is
written once more in the next slot, and the second failure of a record fails the journal and the advance it belongs to; compaction
starts at 3,072 records, holds new commits once a pass finds at most one new record, and switches the banks. -/
def Obligations.ValidityAndJournalComplete : Prop :=
  ∀ (t : Nat) (s s0 : State) (r : Requester), s.tick t = s0 →
    (∀ ceiling d : Nat, s0.lockedSecs = some d → s0.acc.vclk.held ≠ 0 → s0.acc.vclk.held ≤ leNat (toLe 8 ceiling) →
      Answers (.credClockConfirm t r ceiling) s s0 r (rowReq 3 0x2127 0 (toLe 8 ceiling)) ⟨0, 0, []⟩
        (({ s0 with acc.vclk.vc := max s0.acc.vclk.vc d, acc.vclk.st := 2, acc.vclk.held := 0,
                    acc.vclk.taken := true } : State).putFloor.expirySweep)) ∧
    (∀ arg : Bytes, byteAt 8 arg ≤ 7 → byteAt 15 arg = 0 → s0.onRevList (leAt 0 8 arg) (byteAt 8 arg) = false →
      s0.acc.revoked.length < 512 →
      (∀ p ∈ s0.acc.cache, ¬ (p.2.id = leAt 0 8 arg ∧ p.2.auth = byteAt 8 arg)) →
      (∀ (l : List (Nat × Nat × Nat)) (u : State), l = s0.acc.revoked ++ [(leAt 0 8 arg, byteAt 8 arg, leAt 9 6 arg)] →
        ({ s0 with acc.revoked := l } : State).mirror 3 s0.acc.revoked.length arg = u → u.acc.cache = s0.acc.cache →
        Answers (.credRevoke t r arg) s s0 r (rowReq 3 0x2103 0 arg) ⟨0, 0, []⟩ u.freeRevoked)) ∧
    (s0.pwr.vaon = true → s0.acc.vclk.secAt + secs 1 ≤ s0.now → s0.time.qual ≠ 2 →
      Ends (.vcSecond t) s s0
        (({ s0 with acc.vclk.vc := min (s0.acc.vclk.vc + 1) (2 ^ 48 - 1), acc.vclk.secAt := s0.acc.vclk.secAt + secs 1,
                    acc.vclk.held := 0 } : State).expirySweep)) ∧
    (s0.live = true → s0.acc.vclk.floorAt + secs (s0.g 0x2123 0) ≤ s0.now → Ends (.floorPeriod t) s s0 s0.putFloor) ∧
    (let f := fun (c : Ctr) =>
        (match c.pend with | some p => if p.2 ≤ s0.now then { c with pend := none } else c | none => c);
      Ends (.resyncTimeout t) s s0
        { s0 with acc.toks := s0.acc.toks.map fun (e : TokEntry) => { e with ctr := f e.ctr },
                  acc.cache := s0.acc.cache.map fun (p : Nat × CacheEntry) => (p.1, { p.2 with ctr := f p.2.ctr }) }) ∧
    (∀ w : JWrite, s0.live = true → s0.acc.jr.writes = [w] → w.due ≤ s0.now →
      Ends (.journalRecordDone t true) s s0
        ((({ s0 with acc.jr := { s0.acc.jr.setActive (s0.acc.jr.active.push true w.r) with writes := [] } } : State).jcommitted
          w.r).advSettle.ackSettle) ∧
      (∀ j : Journal, s0.acc.jr.setActive (s0.acc.jr.active.push false w.r) = j →
        (w.retry = false → j.active.slots.length < 4094 → Ends (.journalRecordDone t false) s s0
          (({ s0 with acc.jr := { j with writes := [⟨w.r, true, s0.now + us 80⟩], waiting := j.waiting } } :
            State).advSettle.ackSettle)) ∧
        (w.retry = true → Ends (.journalRecordDone t false) s s0
          (({ s0 with
              acc.jr := { j with writes := [], st := .failed },
              acc.adv := s0.acc.adv.map fun (a : Advance) =>
                if s0.recOf a.key a.value = { w.r with seq := 0 } then { a with failed := true, owed := true } else a } :
            State).advSettle.ackSettle)))) ∧
    (s0.live = true → s0.acc.jr.copied = none → s0.acc.jr.st ≠ .failed → 3072 ≤ s0.acc.jr.active.fill →
      Ends (.compactionStart t) s s0
        { s0 with acc.jr := { s0.acc.jr.setOther (s0.liveRecs.foldl (fun b r => b.push true r)
            ⟨s0.acc.jr.active.gen + 1, s0.acc.jr.active.next, false, []⟩) with
          copied := some s0.acc.jr.active.slots.length, st := if s0.acc.jr.st = .damaged then .damaged else .compacting } }) ∧
    (∀ n : Nat, s0.live = true → s0.acc.jr.copied = some n →
      ((s0.acc.jr.active.since n).length ≤ 1 → Ends (.compactionPass t) s s0 { s0 with acc.jr.hold := true }) ∧
      (1 < (s0.acc.jr.active.since n).length →
        Ends (.compactionPass t) s s0
          { s0 with acc.jr := { s0.acc.jr.setOther ((s0.acc.jr.active.since n).foldl (fun b r => b.push true r) s0.acc.jr.other) with
              copied := some s0.acc.jr.active.slots.length } }) ∧
      (s0.acc.jr.hold = true → s0.acc.jr.writes = [] → s0.acc.jr.waiting = [] → s0.acc.jr.st ≠ .failed →
        Ends (.compactionSwitch t) s s0
          (({ s0 with
              acc.jr := { s0.acc.jr.setOther { (s0.acc.jr.active.since n).foldl (fun b r => b.push true r) s0.acc.jr.other with
                  complete := true } with
                bAct := !s0.acc.jr.bAct, copied := none, hold := false, st := .normal, waiting := [] },
              acc.toks := s0.acc.toks.map fun (e : TokEntry) => { e with ctr.conf := false },
              acc.cache := s0.acc.cache.map fun (p : Nat × CacheEntry) => (p.1, { p.2 with ctr.conf := false }) } : State).bump 0x200A 0)))

/-- Zarique messages over a BLE connection. On the deciding part a well-formed TOKEN_PROOF or CRED_PROOF is judged; an ATTEST that a
CHALLENGE asked for, that verifies and is ahead of VC raises VC and is answered with OK; ENROL_CODE, ENROL_REQUEST and REVOKE_REQUEST
that continue the session's count are served in the session and END ends it with OK; a message that is malformed or does not continue
the count is dropped and counted; a notified CHALLENGE leaves once per connection with a fresh nonce; a waiting prompt leaves with a
fresh nonce; RANGING_SETUP leaves with the session's ranging key loaded; the acknowledgement of KEY_DELIVERY confirms the transfer;
nonces past their life are forgotten. -/
def Obligations.ZariqueMessagesComplete : Prop :=
  ∀ (t c : Nat) (s s0 : State), s.tick t = s0 →
    (∀ (m : Bytes) (s1 : State), s0.live = true → s0.linkUp (.ble c) = true →
      ({ s0 with ble.conns := modAt s0.ble.conns c fun o => o.map fun (x : BleConn) =>
          { x with rxq := if x.rxq.head? = some m then x.rxq.tail else x.rxq } } : State) = s1 → s1.deciding = true →
      (s1.zqBad (.ble c) m = false →
        (byteAt 0 m = 0x11 → Ends (.tokenProof t (.ble c) m) s s0 (s1.tokenProof (.ble c) (m.drop 2)).2) ∧
        (byteAt 0 m = 0x12 → Ends (.credProof t (.ble c) m) s s0 (s1.credProof (.ble c) (m.drop 2)).2) ∧
        (∀ (x : BleConn) (k : Bytes), byteAt 0 m = 0x13 → s1.conn c = some x → x.chal = true →
          let b := m.drop 2
          b.length = 40 → byteAt 0 b = 2 → leAt 2 2 b < 2 → slice 10 6 b = zeros 6 → s1.authCheck (byteAt 1 b) 1 = (0, 0) →
          kdf (s1.fak (byteAt 1 b)) (ascii "GZTIME-ATT") [BitVec.ofNat 8 (byteAt 1 b)] 16 = k → cmac k (b.take 24) = b.drop 24 →
          s1.targetOk (bit (leAt 2 2 b) 0) (slice 16 8 b) = true → s1.acc.vclk.vc < leAt 4 6 b →
          Ends (.attest t (.ble c) m) s s0
            ((({ s1 with acc.vclk.vc := leAt 4 6 b,
                         acc.vclk.st := if s1.acc.vclk.st = 0 then 1 else s1.acc.vclk.st } : State).putFloor.authUse
              (byteAt 1 b)).resultPlain (.ble c) 0 0)) ∧
        (∀ (i : Nat) (x : TokSession) (b : Bytes) (s2 : State), s1.zqIn (.ble c) (byteAt 0 m) m = some (i, x, b, s2) →
          (byteAt 0 m = 0x14 → Ends (.enrolCode t (.ble c) m) s s0
            (((s2.enrolCode x b).2.sesResult x.tsh (s2.enrolCode x b).1.1 (s2.enrolCode x b).1.2 0x10 (s2.lastOfSes x)).mctrEnd x.tsh)) ∧
          (byteAt 0 m = 0x15 → (s2.enrolRequest x b).2.1 = none → (s2.enrolRequest x b).1.1 ≠ 0 ∨ s2.drawOk = true →
            Ends (.enrolRequest t (.ble c) m) s s0
              (((s2.enrolRequest x b).2.2.sesResult x.tsh (s2.enrolRequest x b).1.1 (s2.enrolRequest x b).1.2 0x10
                (s2.lastOfSes x)).mctrEnd x.tsh)) ∧
          (byteAt 0 m = 0x16 → Ends (.revokeRequest t (.ble c) m) s s0 ((s2.revokeRequest i x b).mctrEnd x.tsh)) ∧
          (byteAt 0 m = 0x17 → Ends (.endMessage t (.ble c) m) s s0 ((s2.endSession x.tsh (some (0, 0))).mctrEnd x.tsh)))) ∧
      (s0.zqBad (.ble c) m = true → s1.zqBad (.ble c) m = true → Ends (.zariqueDrop t (.ble c) m) s s0 (s1.bump 0x2234 0))) ∧
    (∀ x : BleConn, s0.live = true → s0.conn c = some x → s0.deciding = true → s0.drawOk = true → x.chal = false →
      bit (x.cccdOf 0x0013) 0 = true → 83 ≤ x.mtu →
      let r := s0.newNonce (.ble c) 1 0xFF
      Ends (.challenge t c) s s0
        (((r.2.modConn c fun y => { y with chal := true }).vsend (.ble c) (zqPlain 0x01 (r.2.challengeBody 1 0xFF r.1))).bleFlush c)) ∧
    (∀ (n : Nonce) (i : Nat) (x : TokSession), s0.live = true →
      (s0.acc.nonces.filter fun n => n.car = .ble c && n.left.isNone) = [n] → ∀ s1 : State,
      ({ s0 with acc.nonces := s0.acc.nonces.filter fun (m : Nonce) => m.car ≠ Carrier.ble c || m.left.isSome } : State) = s1 →
      s1.sesOn (.ble c) = some (i, x) → s0.deciding = true → s0.drawOk = true →
      let r := s1.newNonce (.ble c) n.reason n.gate
      Ends (.prompt t c) s s0
        (((r.2.sesSendRaw i x.kmac 0x05 ([BitVec.ofNat 8 n.reason, BitVec.ofNat 8 n.gate] ++ r.1)).bleFlush c).mctrEnd x.tsh)) ∧
    (∀ (i h : Nat) (x : TokSession) (s1 : State), s0.live = true → s0.sesOn (.ble c) = some (i, x) → x.setup = true →
      s0.drawOk = true → s0.gate.quench = false → (s0.modSes i fun y => { y with setup := false }) = s1 → s1.freeSlot 1 = some h →
      let r := ((s1.loadSlot h stsAttr x.ksts).modSes i fun y => { y with sts := some h }).openUwb x.tsh h s0.now
      Ends (.rangingSetup t c) s s0 (((r.2.sesSendRaw i x.kmac 0x04 r.1).bleFlush c).mctrEnd x.tsh)) ∧
    (∀ (car : Carrier) (l : Learn) (i : Nat) (x : TokSession) (y : Transfer), s0.live = true → s0.acc.learn = some l →
      s0.sesOn car = some (i, x) → l.tsh = x.tsh → l.xfer = some y → y.sent = true →
      ((s0.keys.waits.any fun w => w.slot = y.slot) = false → Ends (.keyDeliveryAck t car) s s0 (s0.xferActive l y y.slot)) ∧
      ((s0.keys.waits.any fun w => w.slot = y.slot) = true →
        Ends (.keyDeliveryAck t car) s s0 { s0 with acc.learn := some { l with xfer := some { y with conf := true } } })) ∧
    Ends (.challengeExpiry t) s s0
      { s0 with acc.nonces := s0.acc.nonces.filter fun n => n.left.isNone || s0.now ≤ n.due }

/-- Door, ignition and the time-outs of the access state machines. A DOOR_SW level that differs from the debounced one and has stood for
AccDoorDebounce becomes the debounced level; where that is the open level the door-open edge marks every ENTRY session that has a seal
and ends all ENTRY sessions without relock and all START sessions, and where CORE is off the edge wakes it; sessions whose time has come
end, an ENTRY session with its relock rule; IGN_IN falling ends the drive latch and lowers START_EN, and IGN_IN rising makes the sealed
START session the drive latch where it may acknowledge, and ends every START session; lock-outs whose end has come go; the remainder of
each lock-out in force is stored once in 60 s; the learning window closes at its end. -/
def Obligations.AccessTimersAndEdgesComplete : Prop :=
  ∀ (t : Nat) (s s0 : State), s.tick t = s0 →
    (∀ (n held : Nat) (lv : Bool) (s1 s2 : State), s0.pwr.vaon = true → s0.pwr.shut = false → s0.hasAccess = true → n < 4 →
      ms (s0.g 0x2225 0) ≤ held → bit s0.acc.doors n ≠ lv →
      { s0 with acc.doors := putBit s0.acc.doors n lv } = s1 → (if s0.doorOpenAt n lv then s1.doorEdge else s1) = s2 →
      (s2.pwr.core = true → Ends (.doorOpenEdge t n lv held) s s0 s2) ∧
      (s2.pwr.core = false → s2.wakeHas 4 = true → s2.pwr.shut = false →
        Ends (.doorOpenEdge t n lv held) s s0 (s2.coreWake 16))) ∧
    Ends (.entryTimeout t) s s0
      ((s0.acc.entry.filter fun e => e.due ≤ s0.now).foldl (fun s e => s.endEntry e.key true) s0) ∧
    Ends (.startTimeout t) s s0
      ((s0.acc.start.filter fun e => e.due ≤ s0.now).foldl (fun s e => s.endStart e.key true) s0) ∧
    (∀ (d : KeyRef × Nat) (s1 : State), s0.pwr.vaon = true → s0.hasAccess = true →
      s0.acc.drive = some d → ({ s0 with acc.drive := none } : State).lowerStart = s1 →
      s1.pwr.core = true → Ends (.ignInFall t) s s0 s1) ∧
    (∀ (x : StartS) (s1 : State), s0.pwr.vaon = true → s0.hasAccess = true →
      (s0.acc.start.find? fun x => x.sealed_) = some x → s0.gate.startEn = true → s0.acc.drive = none → x.ack = 1 ∨ x.ack = 2 →
      s0.acc.start.foldl (fun s e => let s2 := s.endStart e.key false
        if e.key = x.key then s2 else s2.refuseReq e.tsh 3 0x03 0x50) { s0 with acc.drive := some (x.key, x.tsh) } = s1 →
      s1.pwr.core = true → Ends (.ignInRise t) s s0 s1) ∧
    (s0.pwr.vaon = true → (∀ f ∈ s0.acc.fails, f.lock = none) → (∀ f ∈ s0.acc.ifs, f.lock = none) →
      (∀ l : Lock, s0.acc.code.lock = some l → l.until_ ≤ s0.now →
        Ends (.lockoutEnd t) s s0
          ((({ s0 with acc.code := ⟨[], none⟩ } : State).logLock 2 0 [] 0 1).mirrorLock 2 0 [] 0))) ∧
    (let f := fun (l : Option Lock) => l.map fun (x : Lock) =>
        (if x.at_ + secs 60 ≤ s0.now && s0.now < x.until_ then ⟨x.until_, x.until_ - s0.now, s0.now⟩ else x);
      s0.pwr.vaon = true → Ends (.lockoutPersist t) s s0
        { s0 with acc.fails := s0.acc.fails.map fun (e : FailEntry) => { e with lock := f e.lock },
                  acc.ifs := s0.acc.ifs.map fun (t : Tier) => ⟨t.times, f t.lock⟩,
                  acc.code := ⟨s0.acc.code.times, f s0.acc.code.lock⟩,
                  dict.guards := s0.dict.guards.map fun (g : Guard) => { g with lock := f g.lock } }) ∧
    (∀ l : Learn, s0.acc.learn = some l → l.due ≤ s0.now → Ends (.learnWindowExpiry t) s s0 s0.learnClose)

/-- AccLearnCancel, AccRevokeToken, AccLockoutClear and AccEnrolImport. With every check passed, AccLearnCancel closes the learning window
and answers OK; AccRevokeToken of a TID in the table revokes that entry, and of any other is refused with RANGE; AccLockoutClear of an
interface in lock-out lifts it, logs and mirrors that and answers OK; AccEnrolImport of a loaded 128-bit TOKEN slot during a HOST_IMPORT
transfer makes the entry active with that slot and answers the TID. -/
def Obligations.AccessCommandsComplete : Prop :=
  ∀ (t : Nat) (s s0 : State) (r : Requester), s.tick t = s0 →
    Answers (.accLearnCancel t r) s s0 r (rowReq 3 0x220B 0 []) ⟨0, 0, []⟩ s0.learnClose ∧
    (∀ tid n : Nat, s0.tokFind (leNat (toLe 4 tid)) = some n →
      Answers (.accRevokeToken t r tid) s s0 r (rowReq 3 0x2210 0 (toLe 4 tid)) ⟨0, 0, []⟩ (s0.revokeTok n 0)) ∧
    (∀ tid : Nat, s0.tokFind (leNat (toLe 4 tid)) = none →
      Answers (.accRevokeToken t r tid) s s0 r (rowReq 3 0x2210 0 (toLe 4 tid)) ⟨Rc.range, 0, []⟩ s0) ∧
    (∀ (arg : Bytes) (x : Tier), byteAt 0 arg = 1 → byteAt 1 arg ≤ 6 → arg.drop 2 = zeros 9 →
      s0.acc.ifs[byteAt 1 arg]? = some x → s0.inLock x.lock = true →
      Answers (.accLockoutClear t r arg) s s0 r (rowReq 3 0x2211 0 arg) ⟨0, 0, []⟩
        ((({ s0 with acc.ifs := modAt s0.acc.ifs (byteAt 1 arg) fun (t : Tier) => ⟨t.times, none⟩ } : State).logLock 1 (byteAt 1 arg)
          (zeros 9) (s0.minutesLeft x.lock) 2).mirrorLock 1 (byteAt 1 arg) (zeros 9) 0)) ∧
    (∀ (arg : Bytes) (l : Learn) (x : Transfer), isHandle (leAt 0 2 arg) = true → s0.acc.learn = some l → l.xfer = some x →
      x.delivery = 3 → s0.slotSt (leAt 0 2 arg) = .loaded → s0.slotOwner (leAt 0 2 arg) = 0 → s0.slotKind (leAt 0 2 arg) = 3 →
      s0.slotLen (leAt 0 2 arg) = 0 →
      Answers (.accEnrolImport t r arg) s s0 r (rowReq 3 0x220A 0 arg) ⟨0, 0, toLe 4 x.tid⟩
        ((s0.eraseMirrored x.slot).xferActive l x (leAt 0 2 arg)))

/-- Touchstone: evidence, evaluations, windows, vetoes, verdicts, TsApply and seals. A good fresh item of a known session and source is
admitted at the next free CKS cycle, replaces the item of its slot, is counted, and starts the evaluations of its session; a SATISFIED
evaluation that ends becomes the request's verdict and takes its ranging demands away; the window's end starts one closing evaluation;
vetoes past their hold go; a demand whose round has no item within the grace time is raised again; a SATISFIED verdict that expires with
no seal opens the window again; TsApply of a sound table takes the pending table into force under a new version; a seal is issued for a
verdict that stands, and its gate takes it. -/
def Obligations.TouchstoneCommandsComplete : Prop :=
  ∀ (t tsh gate : Nat) (s s0 : State) (r : Requester), s.tick t = s0 →
    (∀ (b : Bytes) (own : Option Nat) (i : Item) (c tm : Nat) (s1 : State), s0.live = true → b.length = 16 → Item.ofBytes b = i →
      s0.tsState = 1 → s0.hasAccess = true → max s0.now s0.ts.admAt = c →
      ({ s0.tsSettle c with ts.admAt := c + cks 1 } : State) = s1 → i.formatOk = true →
      (s1.acc.ses.any fun x => (x.map fun e => e.tsh == i.tsh).getD false) = true → s1.tsKeys.contains i.key = true →
      s1.itemTm i own c = some tm → c - tm ≤ ms s1.ts.cur.fresh → i.kind ≠ 2 →
      (isRadio i.kind = true → bit i.flags 0 = true ∧ bit i.flags 1 = false) →
      Ends (.evidenceItem t b own) s s0
        ((({ s1 with ts.store := ⟨i.tsh, i.key, i.flags, i.round, i.qual, i.value, tm⟩ ::
            s1.ts.store.filter fun x => x.tsh ≠ i.tsh || x.key ≠ i.key } : State).bump 0x2342 0).evalAll i.tsh c)) ∧
    (∀ (e : Eval) (es : List Eval) (q : VReq) (v : Verdict), s0.live = true → s0.ts.evals = e :: es → e.due ≤ s0.now →
      (s0.ts.reqs.find? fun q => q.tsh = e.tsh && q.gate = e.gate && q.ok.isNone) = some q → e.res = some v → v.sat = true →
      let s1 : State := { s0 with ts.evals := es }
      Ends (.evaluationDone t) s s0
        (({ s1.putReq { q with ok := some (v, s0.now) } with
            ts.demands := s0.ts.demands.filter fun (d : Demand) => d.tsh ≠ q.tsh || d.gate ≠ q.gate } : State).showVerdict q v)) ∧
    (∀ q : VReq, s0.live = true →
      (s0.ts.reqs.find? fun q => q.tsh = tsh && q.gate = gate && q.ok.isNone && q.wend ≤ s0.now) = some q →
      (s0.ts.evals.any fun e => e.tsh = tsh && e.gate = gate && q.wend ≤ e.start) = false →
      let st := max s0.now s0.ts.evAt
      Ends (.requestWindowEnd t tsh gate) s s0
        { s0 with ts.evals := s0.ts.evals ++ [⟨q.tsh, q.gate, st, none⟩], ts.evAt := st + cks 1 }) ∧
    (s0.live = true → Ends (.vetoHoldEnd t) s s0 { s0 with ts.vetoes := s0.ts.vetoes.filter fun v => s0.now < v.2 }) ∧
    (∀ (q : VReq) (l : Nat), s0.live = true →
      (s0.ts.reqs.find? fun q => q.tsh = tsh && q.gate = gate && q.ok.isNone) = some q → q.launch = some l →
      q.asked = false → l + ms q.table.grace ≤ s0.now → Ends (.roundGraceExpiry t tsh gate) s s0 (s0.raiseDemand q)) ∧
    (∀ (q q1 : VReq) (v : Verdict × Nat), s0.live = true →
      (s0.ts.reqs.find? fun q => q.tsh = tsh && q.gate = gate) = some q → q.ok = some v → v.1.expiry ≤ s0.now →
      { q with ok := none, wend := s0.now + ms (q.table.policy gate).2.1, opened := s0.now, stale := [], asked := false } = q1 →
      Ends (.verdictExpiry t tsh gate) s s0 (((s0.putReq q1).startEval q1 s0.now).raiseDemand q1)) ∧
    (∀ s1 : State, (∀ q ∈ s0.ts.reqs, q.table.ver = s0.ts.cur.ver) → tableFault (tsTableOf s0.gp 0) = none →
      ((s0.boundary .bNextTsApply).put 0x2306 0 0) = s1 →
      let v := (s1.g 0x2305 0 + 1) % 2 ^ 32
      let u : State := ({ s1.put 0x2305 0 v with ts.cur := tsTableOf (s1.put 0x2305 0 v).g v } : State).tsPrune
      Answers (.tsApply t r) s s0 r (rowReq 3 0x2301 0 []) ⟨0, 0, []⟩ (u.mirror 7 1 u.ts.cur.bytes)) ∧
    (∀ (q : VReq) (v : Verdict × Nat) (s1 s2 : State), s0.live = true →
      (s0.ts.reqs.find? fun q => q.tsh = tsh && q.gate = gate) = some q → q.ok = some v → s0.mayDecide = true →
      s0.now < v.1.expiry → s0.advClear tsh = true → (gate = 3 → s0.startBefore tsh v.2 = false) → s0.sealCheck q.key gate = (0, 0) →
      (s0.keyZones q.key).testBit v.1.zone = true →
      (let u := s0.dropReqs fun r => r.tsh = tsh && r.gate = gate
       let n := (u.gate.seq + 1) % 2 ^ 32
       let mine := s0.acc.drive.isNone && s0.acc.start.any fun x => x.key = q.key && x.up
       let ctr := ((u.ctrOf q.key).map (·.comm)).getD 0
       (({ u with gate.seq := n } : State).gateTake gate mine (s0.gate.startEn && !mine)) = ((0, 0), s1) →
       ([n, gate, tsh, keyCode q.key, v.1.zone, q.table.ver, ctr, u.rcnt u.now].zipIdx.foldl
          (fun s p => s.put 0x2430 (p.2 + 1) p.1) s1).logEv 0x01 0 0
          (sealBytes n gate tsh (keyCode q.key) v.1.zone q.table.ver ctr (u.rcnt u.now)) = s2 →
       Ends (.sealIssue t tsh gate) s s0 (s2.sealCount q)))

/-- Release gates: pulse ends, dead times, lock requests, readback, START_EN and Quench. A pulse whose time is over leaves its output low,
marks its gate's close, and lets a relock that waited for it go; a dead time that is over starts the pulses that waited for it while
CORE is up, and none while it is not; GateLock at the manager raises a lock request from the host; a readback sample that agrees clears
the count of mismatches, a first one that does not is noted, and a second in a row sets the gate's FAULT, is logged and sets the summary
bit; START_EN falls 600 s after it rose outside the drive latch; GateFaultClear clears one gate's FAULT; GateQuench with 0x5155 enters
Quench with cause HOST, and a failed seal path with its own cause. -/
def Obligations.GateCommandsComplete : Prop :=
  ∀ (t n : Nat) (s s0 : State) (r : Requester), s.tick t = s0 →
    ((s0.gate.aBall n).high = true → (s0.gate.aBall n).due ≤ s0.now →
      Ends (.pulseEnd t false n) s s0
        (s0.noteChg { s0 with gate.a := putAt s0.gate.a n ⟨false, s0.now⟩,
                              gate.closeAt := putAt s0.gate.closeAt n (some s0.now) }).relockDue) ∧
    ((s0.gate.bBall n).high = true → (s0.gate.bBall n).due ≤ s0.now →
      Ends (.pulseEnd t true n) s s0
        (s0.noteChg { s0.cutB n with
          gate.closeAt := putAt (s0.cutB n).gate.closeAt (if n = 0 then 1 else 2) (some s0.now) }).relockDue) ∧
    (∀ d : Dead, s0.gate.deadOf n = some d → d.due ≤ s0.now →
      let s1 : State := { s0 with gate.dead := putAt s0.gate.dead n none }
      let up := s0.pwr.core && !s0.pwr.held && !s0.pwr.shut
      (d.b = true → up = true → Ends (.deadTimeEnd t n) s s0 (s0.noteChg (s1.startB n))) ∧
      (d.b = false → up = true → Ends (.deadTimeEnd t n) s s0 (s0.noteChg (d.a.foldl State.startA s1))) ∧
      (up = false → Ends (.deadTimeEnd t n) s s0 s1)) ∧
    (s0.hasAccess = true → s0.seg.role = .manager → s0.gate.quench = false → s0.closing 1 = false → s0.gate.bBusy 0 = false →
      s0.g 0x2406 0 = 0 →
      let s1 : State := { s0 with gate.relock := false }
      Answers (.gateLock t r) s s0 r (rowReq 3 0x2408 0 []) ⟨0, 0, []⟩ (s1.noteChg (s1.askB 0))) ∧
    (∀ level : Bool, s0.pwr.held = false → s0.pwr.shut = false → (s0.g 0x2405 0).testBit n = true → s0.gate.vio = true →
      s0.gate.chg.getD n 0 + ms (s0.g 0x2404 0) ≤ s0.now →
      let act := if (s0.g 0x2403 0).testBit n then level else !level
      (act = s0.gate.active n →
        Ends (.gateRbSample t n level) s s0 { s0 with gate.mism := putAt s0.gate.mism n 0 }) ∧
      (act ≠ s0.gate.active n → s0.gate.mism.getD n 0 = 0 →
        Ends (.gateRbSample t n level) s s0 { s0 with gate.mism := putAt s0.gate.mism n 1 }) ∧
      (act ≠ s0.gate.active n → s0.gate.mism.getD n 0 = 1 →
        Ends (.gateRbSample t n level) s s0
          ((({ s0 with gate.mism := putAt s0.gate.mism n 2, gate.fault := putAt s0.gate.fault n true } : State).errBit 5 0x2401 0x06
            0x51).logEv 0x09 0 0 [BitVec.ofNat 8 n, BitVec.ofNat 8 (b2n level)]))) ∧
    (s0.gate.startEn = true → s0.acc.drive = none → s0.gate.startAt + secs 600 ≤ s0.now →
      Ends (.startEnLimit t) s s0
        ({ s0.lowerStart with acc.start := s0.lowerStart.acc.start.map fun (x : StartS) => { x with up := false } } : State).wakeHeld) ∧
    (n < 4 → Answers (.gateFaultClear t r n) s s0 r (rowReq 3 0x2409 0 [BitVec.ofNat 8 n]) ⟨0, 0, []⟩
      { s0 with gate.fault := putAt s0.gate.fault n false, gate.mism := putAt s0.gate.mism n 0 }) ∧
    Answers (.gateQuench t r 0x5155) s s0 r (rowReq 3 0x2451 0 (toLe 2 0x5155)) ⟨0, 0, []⟩ (s0.quench 4) ∧
    Ends (.sealPathFault t) s s0 (s0.quench 3)

/-- Immobiliser frames and timers, limiter cuts and GPIO holds. On the deciding part a CHALLENGE that reaches the immobiliser with START_EN
high is answered RELEASED at once in response mode, and with START_EN low its nonce waits and a start trigger follows; a good
acknowledgement counts as the engine controller's; in PUSH mode a RELEASE leaves each period while START_EN is high; a waiting nonce
whose wait is over is answered NOT_RELEASED; a limiter at its ceiling cuts the transmission and counts it; a GPIO whose hold is over is
an input driven by nobody. -/
def Obligations.ImmobiliserAndLimitsComplete : Prop :=
  ∀ (t : Nat) (s s0 : State), s.tick t = s0 →
    (∀ (f : Bytes) (c : Nat) (s1 : State) (x : CanFrame), s0.wakeHas (6 + c) = true → s0.pwr.core = true → s0.g 0x2421 0 = c →
      ⟨if s0.g 0x2422 0 = 1 then 1 else 0, 0, 0, s0.g 0x2423 0, 0, 0, f⟩ = x → s0.canHears c x.fmt = true →
      ((s0.modCan c fun k => { k with rec_ := min (k.rec_ - 1) 127 }.settle).bump (0x4012 + c) 1) = s1 →
      s1.immoTakes c x = true → s1.deciding = true → s1.immoFmt x = true →
      (∀ n : Bytes, s0.immoChallengeOf f = some n → s1.immoChallengeOf f = some n → s1.g 0x2420 0 = 2 →
        (s1.gate.startEn = true → Ends (.immoChallenge t f) s s0 (s1.immoResponse 1 n)) ∧
        (s1.gate.startEn = false → s1.gate.immo.nonce = none →
          Ends (.immoChallenge t f) s s0
            ({ s1 with gate.immo.nonce := some (n, s1.now + ms (s1.g 0x2427 0)) } : State).startTrigger)) ∧
      (s0.immoChallengeOf f = none → s1.immoChallengeOf f = none → s1.immoAckOk f = true →
        ((s1.acc.start.find? fun x => x.sealed_).map StartS.ack).getD (s1.g 0x2203 0) ≠ 1 →
        Ends (.immoAck t f) s s0 (s1.startAck 0))) ∧
    (∀ d : Nat, s0.live = true → s0.gate.immo.next = some d → d ≤ s0.now → s0.gate.startEn = true → s0.g 0x2420 0 = 1 →
      s0.gate.quench = false →
      Ends (.immoReleasePeriod t) s s0 { s0.immoRelease 1 with gate.immo.next := some (d + ms (s0.g 0x2426 0)) }) ∧
    (∀ n : Bytes × Nat, s0.live = true → s0.gate.immo.nonce = some n → n.2 ≤ s0.now →
      Ends (.immoWaitExpiry t) s s0 { s0.immoResponse 0 n.1 with gate.immo.nonce := none }) ∧
    (∀ lim ch : Nat, s0.atCeiling lim ch = true →
      (s0.gate.onTimes.any fun o => o.lim = lim && o.ch = ch && s0.now < o.t1) = true →
      (lim = 1 → Ends (.limiterCut t lim ch) s s0 ((s0.limCut lim ch).uwbCut.txEnd .uwb)) ∧
      (lim = 2 → Ends (.limiterCut t lim ch) s s0
        ((if (s0.limCut lim ch).paUsed .uwb then (s0.limCut lim ch).uwbCut.txEnd .uwb else s0.limCut lim ch).txEnd .ble)) ∧
      (lim = 3 → Ends (.limiterCut t lim ch) s s0 (s0.limCut lim ch).lfEnd) ∧
      (lim = 4 → Ends (.limiterCut t lim ch) s s0 ((s0.limCut lim ch).nfcEnd ch))) ∧
    (∀ (pin : Nat) (s1 : State), s0.tmrSettleAll = s1 → pin < 8 → s1.gpioOn pin = true →
      s1.gpioSince pin + ms (s1.g 0x2442 0) ≤ s1.now →
      Ends (.gpioHoldExpiry t pin) s s0
        { s1.put 0x5031 0 (clrBit (s1.g 0x5031 0) pin) with gate.hold := putAt s1.gate.hold pin none })

/-- UWB: block starts, opportunities, frames, responses, reports, blinks, sync and the close of a round. At a block start the earlier rounds
are settled and the in-block round of the enabled anchors is placed; at an opportunity the round planned for it is launched; a frame of
this part leaves at its slot with its RMARKER stamped, its MAC and its STS stream under the round's keys and its FCS appended; a
response and a blink that the phone sent are heard and kept for the round; a REPORT completes the double-sided range of this anchor; a
sync frame of another anchor is kept or handed to the synchronisation; a window without a good frame ends the reception; a round that is
over erases its keys and reports to the manager, and the manager settles a round whose only anchor is itself. -/
def Obligations.UwbRoundsComplete : Prop :=
  ∀ (t : Nat) (s s0 : State), s.tick t = s0 → s0.live = true →
    (∀ (tsh : Nat) (u0 u : UwbSess) (s1 : State), s0.uwbSess tsh = some u0 → s0.seg.role = .manager → u0.first ≤ s0.now →
      (s0.now - u0.first) % ms u0.block = 0 →
      ((s0.uwb.plan ++ s0.uwb.air.toList).any fun r => r.tsh = tsh && r.cls = 1 && s0.now ≤ r.at_) = false → s0.drawOk = true →
      s0.gate.quench = false →
      ((((s0.uwb.await.filter fun a => a.tsh = tsh).foldl State.settleRound s0).boundary .bNextBlock).boundary .bNextRound) = s1 →
      s1.uwbSess tsh = some u → u.miss < s1.g 0x300C 0 → s1.blockAllowed (u.blockNo s1.now) = true →
      (let as := ((List.range 16).filter fun n => (s1.g 0x300B 0).testBit n).take u.slots
       let nb := u.blockNo s1.now
       as ≠ [] → Ends (.blockStart t tsh) s s0 (s1.placeRounds (4 + s1.uwb.plan.length)
        [s1.mkRound u 1 (if u.phy.getD 1 0 = 3 then 0 else s1.g 0x300A 0) as (u.oppAt (u.first + nb * ms u.block))
          (u.first + (nb + 1) * ms u.block - ms 2) []]))) ∧
    (∀ r : Round, s0.isOpp s0.now = true → s0.pwr.core = true → s0.seg.role ≠ .manager → s0.uwb.air = none →
      (s0.uwb.plan.find? fun r => r.at_ = s0.now) = some r → Ends (.opportunityStart t) s s0 (s0.launchRound r)) ∧
    (∀ (slot onAir msg : Nat) (r : Round) (s1 : State), s0.uwb.air = some r → r.ownMsg slot = some msg →
      s0.now = r.at_ + slot * r.slot → (s0.rfc.uwb.q.any fun q => q.use = .slot r.num slot) = true →
      ((s0.boundary .bNextFrame).xcDrop .uwb fun u => u = XcUse.slot r.num slot) = s1 → s1.now = s0.now →
      s1.armed .uwb s0.now = true → s1.rfc.uwb.chan = r.phy.getD 0 9 → s1.gate.quench = false → s1.roundLive r = true →
      s1.atCeiling 1 0 = false → (s1.paUsed .uwb = true → s1.atCeiling 2 0 = false) → msg ≠ 0x20 → r.phy.getD 1 1 ≠ 3 →
      let ts := (s1.rcnt s0.now * 4 + Config.rmarkerOffset (r.phy.getD 5 0) (r.phy.getD 2 0) +
        s1.antDelay (s1.g 0x300F 0) (r.phy.getD 0 9) false) % 2 ^ 42 / 4 * 4
      let h := psduHead slot (r.sid % 65536) r.addr (0xA500 + s1.seg.node) msg r.opp (r.bodyOf msg slot s1.seg.node ts)
      let n := stsBlocks (r.phy.getD 2 0)
      Ends (.uwbFrameLaunch t slot onAir) s s0
        ((({ s1 with
          uwb.out := some ⟨slot, s1.g 0x300F 0, s1.g 0x300E 0, withFcs (h ++ cmac64 r.keys.kmic h),
            stsStream r.keys.krnd r.keys.vup (r.idx0 + 256 * slot) n, ts⟩,
          uwb.air := some { r with sent := r.sent ++ [(slot, ts)] } } : State).cxUse 1 (n + cmacOps h.length)).uwbOnAir onAir false)) ∧
    (∀ (r : Round) (raw psdu : Bytes) (a : AirRx), s0.uwb.air = some r → s0.rfc.uwb.st = .rx → fcsOk raw = some psdu →
      (∀ (s1 : State) (h : Heard), r.mode = 0 → r.ix.isSome = true → r.phy.getD 1 1 ≠ 3 → r.phoneOk 0x02 r.s_ psdu = true →
        s0.hear true r.phy r.addr a = (some h, s1) →
        Ends (.uwbResponse t raw a) s s0
          (({ s1 with uwb.air := some { r with resp := some h, cfo := a.cfo } } : State).aoaItem r a)) ∧
      (∀ (p f : Nat × Nat) (h : Heard) (i : Nat), r.mode = 0 → r.ix = some i → r.phoneOk 0x04 (2 * r.s_ + 1) psdu = true →
        (r.sent.find? fun p => p.1 = i) = some p → (r.sent.find? fun p => p.1 = r.s_ + 1 + i) = some f → r.resp = some h →
        (let e := phoneEntry psdu i 11
         bit e.1 0 = true → bit e.1 1 = true →
         Ends (.uwbReport t raw) s s0
          (s0.twrItem r h (bit e.1 2) (dsTwr (diff42 h.ts p.2) e.2.2 (diff42 f.2 h.ts) e.2.1)))) ∧
      (∀ (s1 s2 : State) (h : Heard), r.mode = 2 → r.ix.isSome = true → r.phoneOk 0x05 1 psdu = true →
        s0.hear true r.phy r.addr a = (some h, s1) →
        ({ s1 with uwb.air := some { r with resp := some h } } : State).aoaItem r a = s2 → s0.seg.role = .manager →
        Ends (.blink t raw a) s s0 (s2.blinkArrival r.num s0.seg.node h)) ∧
      (∀ (slot : Nat) (s1 : State) (h : Heard), psdu.length = 30 → cmac64 r.keys.ksymic (psdu.take 22) = psdu.drop 22 →
        psdu.take 16 = psduHead slot (0x5A00 + s0.seg.segNo) 0xFFFF (0xA500 + byteAt 14 psdu) 0x20 r.opp
          [BitVec.ofNat 8 (byteAt 14 psdu), 0] →
        s0.hear false r.phy (0xA500 + byteAt 14 psdu) a = (some h, s1) → s0.seg.role ≠ .manager →
        Ends (.uwbSync t slot raw a) s s0
          { s1 with uwb.air := some { r with recs := r.recs ++ [⟨byteAt 14 psdu, h.snr, h.check, h.ts⟩] } }) ∧
      ((s0.xc .uwb).st = .rx → Ends (.uwbRxWindowEnd t) s s0 (s0.packetEnd .uwb none)) ∧
      (∀ s1 : State, r.fin ≤ s0.now → (s0.rfc.uwb.q.filter fun q => q.tx && q.use.ofRound r.num) = [] →
        (((s0.xcDrop .uwb (XcUse.ofRound r.num)).bumpBy 0x3205 1 0).bumpBy 0x3040 4 0) = s1 →
        (s0.seg.role ≠ .manager →
          Ends (.roundClose t) s s0
            ((r.kslots.foldl State.eraseSlot { s1 with uwb.air := none }).sendReport r.num r.items
              (((r.sent.filter fun p => r.ownMsg p.1 = some 0x20).map fun p => ⟨s0.seg.node, 0, 1, p.2⟩) ++ r.recs) [] Item.toBytes)) ∧
        (∀ (s2 : State) (a : Await), s0.seg.role = .manager →
          (r.sent.filter fun p => r.ownMsg p.1 = some 0x20).foldl (fun s p => s.syncTx r.num s.seg.node p.2)
            (r.kslots.foldl State.eraseSlot { s1 with uwb.air := none }) = s2 →
          s2.awaitOf r.num = some a → (a.left.all (· = s2.seg.node)) = true →
          Ends (.roundClose t) s s0 (s2.settleRound a))))

/-- Auxiliary UWB transmissions and receptions. With every check passed, UwbAuxTx and UwbAuxRx with sound arguments, room in their queue and
no round over them wait for their time; an auxiliary frame of the host at its time is sent with its RMARKER stamped and answered with
that stamp, and one that missed its time without LATE_OK answers LATE; a window in which nothing came answers an empty frame. -/
def Obligations.UwbAuxiliaryCompletes : Prop :=
  ∀ (t : Nat) (s s0 : State) (r : Requester), s.tick t = s0 →
    (∀ (arg : Bytes) (e : Nat), 10 ≤ arg.length → leAt 0 8 arg % 512 = 0 → leAt 0 8 arg < 2 ^ 40 → byteAt 8 arg ≤ 1 →
      3 ≤ byteAt 9 arg → byteAt 9 arg ≤ 125 → (arg.drop 10).length = byteAt 9 arg → s0.gate.quench = false → s0.auxOf r < 4 →
      r = .engine e ∨ r = .host → s0.bg.stage = 0 →
      (let at_ := (s0.rcntTime (leAt 0 8 arg)).getD s0.now
       s0.roundOver at_ (at_ + s0.auxAir (byteAt 9 arg + 2)) = false →
       Starts (.uwbAuxTx t r arg) s s0 r (rowReq 3 0x3060 0 arg)
        (s0.auxPut ⟨r, some (arg.drop 10, bit (byteAt 8 arg) 0), leAt 0 8 arg, at_, 0⟩))) ∧
    (∀ arg : Bytes, arg.length = 10 → 10 ≤ leAt 8 2 arg → leAt 8 2 arg ≤ 10000 → leAt 0 8 arg < 2 ^ 40 → s0.gate.quench = false →
      s0.auxOf r < 4 →
      (let at_ := (s0.rcntTime (leAt 0 8 arg)).getD s0.now
       s0.roundOver at_ (at_ + us (leAt 8 2 arg)) = false →
       Starts (.uwbAuxRx t r arg) s s0 r (rowReq 3 0x3061 0 arg)
        (s0.auxPut ⟨r, none, leAt 0 8 arg, at_, us (leAt 8 2 arg)⟩))) ∧
    (∀ (x : Aux) (onAir : Nat) (s1 : State), s0.live = true → s0.auxNext = some x → x.who = .host →
      ({ s0 with uwb.aux := s0.uwb.aux.eraseP fun y => y = x } : State).xcDropAux x = s1 →
      s0.gate.quench = false → x.at_ + x.dur ≤ s0.now →
      (∀ (psdu : Bytes) (lateOk : Bool), x.tx = some (psdu, lateOk) →
        s0.roundOver x.at_ (max (s0.auxFin x) (x.at_ + onAir)) = false →
        ((s0.rcntTime x.rcnt).getD (s0.now - 1) < s0.now ∨ s0.armed .uwb x.at_ = false → lateOk = false →
          Ends (.uwbAuxDone t onAir none) s s0 ((s1.bump 0x3205 1).answer .host 0x3060 ⟨Rc.late, 0, []⟩)) ∧
        ((s0.now ≤ (s0.rcntTime x.rcnt).getD (s0.now - 1) ∧ s0.armed .uwb x.at_ = true) ∨ lateOk = true →
          s0.rfc.uwb.st = .ready → s0.roundOver s0.now (s0.now + onAir) = false → s0.atCeiling 1 0 = false → ∀ s2 : State,
          s1.boundary .bNextFrame = s2 →
          let at_ := (s2.now + 19 - s2.pwr.rcntAt) / 20 * 20 + s2.pwr.rcntAt
          let ts := (s2.rcnt at_ * 4 + Config.rmarkerOffset (s2.g 0x3006 0) (s2.g 0x3003 0) +
            s2.antDelay (s2.g 0x300F 0) (s2.g 0x3001 0) false) % 2 ^ 42 / 4 * 4
          Ends (.uwbAuxDone t onAir none) s s0
            ((({ s2 with uwb.out := some ⟨0, s2.g 0x300F 0, s2.g 0x300E 0, withFcs psdu, [], ts⟩ } : State).uwbOnAir onAir
              false).answer .host 0x3060 ⟨0, 0, toLe 8 ts⟩))) ∧
      (x.tx = none → s0.roundOver x.at_ (x.at_ + x.dur) = false →
        Ends (.uwbAuxDone t onAir none) s s0
          ((s1.packetEnd .uwb none).answer .host 0x3060 ⟨0, 0, [0] ++ toLe 8 0 ++ [0]⟩)))

/-- The two transceivers: requests, locking, packets, idle times and calibrations. A request for a transceiver that is OFF waits in its
queue and wakes the transceiver, which is IDLE after its wake time; one for an idle transceiver with no other request starts settling on
its channel; a synthesiser that locks makes the transceiver READY and serves its queue; a lock that takes 150 us is tried again after an
oscillator calibration and then fails, its requests dropped and answered; a BLE packet that ends goes on to the planned action, and a
packet with nothing queued to the state RfcAutoReturn names; READY and IDLE with nothing queued end after their times; a calibration
starts in a gap that is long enough or, once forced, outside a round or event; a calibration that ends in its limits is stored;
RfcCalRun with an argument that names a calibration asks for those it names; Anneal stores the die temperature and asks for what its
triggers say. -/
def Obligations.TransceiverCommandsComplete : Prop :=
  ∀ (t : Nat) (s s0 : State) (r : Requester), s.tick t = s0 →
    (∀ (x : Xc) (v : Xcvr), s0.live = true → s0.xc x = v →
      (∀ (cls chan : Nat) (tx lateOk : Bool) (at_ fin : Option Nat) (who : Option Requester) (q : XcReq),
        ⟨cls, tx, at_, fin, chan, lateOk, .asked who, none⟩ = q → s0.gate.quench = false → s0.pwr.vsup = true → s0.bg.stage ≠ 4 →
        (v.st = .off → Ends (.transceiverRequest t x cls tx at_ fin chan lateOk who) s s0
          (s0.setXc x (({ v with q := insReq q v.q } : Xcvr).enter .idle (s0.now + s0.wakeXc x)))) ∧
        (v.st = .idle → v.q = [] → v.run = none → v.since ≤ s0.now →
          Ends (.transceiverRequest t x cls tx at_ fin chan lateOk who) s s0
            (s0.setXc x { ({ v with q := [q], since := s0.now } : Xcvr).enter .settling s0.now with chan := chan, retry := false }))) ∧
      (v.st = .settling → v.run = none →
        Ends (.synthLocked t x) s s0 ((s0.setXc x { v.enter .ready s0.now with retry := false }).serveXc x) ∧
        (v.since + us 150 ≤ s0.now → v.retry = false →
          Ends (.synthLockTimeout t x) s s0
            (s0.setXc x { v with retry := true, run := some (oscJob x v.chan, s0.now + calDur x (oscJob x v.chan)) })) ∧
        (v.since + us 150 ≤ s0.now → v.retry = true →
          Ends (.synthLockTimeout t x) s s0
            ((v.q.filter fun r => r.chan = v.chan).foldl (fun s r => s.unlockDrop x r)
              (((s0.setXc x { v.enter .idle s0.now with retry := false, q := v.q.filter fun r => r.chan ≠ v.chan }).bump 0x3206
                0).logEv 0x0E 0x06 0x70 [BitVec.ofNat 8 ((xcSub x) - 1), 0xFF])))) ∧
      (v.st = .tx ∨ v.st = .rx →
        (∀ tx : Bool, x = .ble → Ends (.packetEnd t x (some tx)) s s0
          ((s0.boundary .bNextPacket).setXc x { v.enter (if tx then .tx else .rx) s0.now with pkt := some (s0.now, none) })) ∧
        (x = .uwb → v.q = [] → (s0.boundary .bNextPacket).g 0x3202 (xcSub x) ≠ 2 →
          Ends (.packetEnd t x none) s s0
            ((s0.boundary .bNextPacket).setXc x
              (v.enter (if (s0.boundary .bNextPacket).g 0x3202 (xcSub x) = 1 then .ready else .idle) s0.now)))) ∧
      (v.st = .ready → v.q = [] → v.since + us (s0.g 0x3203 0) ≤ s0.now →
        Ends (.keepReadyExpiry t x) s s0 (s0.setXc x (v.enter .idle s0.now))) ∧
      (v.st = .idle → v.q = [] → v.cals = [] → v.since + us (s0.g 0x3204 0) ≤ s0.now →
        Ends (.offDelayExpiry t x) s s0 (s0.setXc x (v.enter .off s0.now))) ∧
      (∀ (j : CalJob) (js : List CalJob), v.cals = j :: js → v.st = .idle ∨ v.st = .ready → v.since ≤ s0.now →
        s0.gate.quench = false →
        (v.q = [] → s0.nextUse x = none → Ends (.gapCalibrationStart t x) s s0 (s0.calStart x j)) ∧
        (v.forced = true → s0.inRound x = false →
          Ends (.forcedCalibrationStart t x) s s0 ((s0.setXc x { v with forced := true }).calStart x j))) ∧
      (∀ (j : CalJob) (due : Nat) (vals : List Int) (metric : Int) (s1 : State), v.run = some (j, due) → due ≤ s0.now →
        calAccepted j vals metric = true → v.st = .settling → s0.rfc.cmds = [] →
        ((((s0.bump 0x3215 5).calStore x j vals).put 0x3215 1
          ((s0.bump 0x3215 5).g 0x3215 1 ||| (2 ^ j.kind ||| 2 ^ (xcCalBit x)))).put 0x3215 2
          (clrBit ((s0.bump 0x3215 5).g 0x3215 2) j.kind)) = s1 →
        Ends (.calibrationDone t x vals metric) s s0
          (s1.setXc x { v with run := none, dcoAt := if j.kind = 3 then s0.now else v.dcoAt, since := s0.now }))) ∧
    (∀ arg : Nat, arg < 64 → arg % 16 ≠ 0 → arg / 16 ≠ 0 → arg ≠ 0x14 → s0.gate.quench = false → s0.calBusy arg = false →
      Starts (.rfcCalRun t r arg) s s0 r (rowReq 3 0x3210 0 [BitVec.ofNat 8 arg]) (s0.calRun r arg)) ∧
    (∀ temp : Int, s0.live = true → Ends (.annealTick t temp) s s0 (s0.anneal temp))

/-- The BLE link: advertising, connections, their events and the link layer's answers. An advertising event at its time with an unchanged
epoch and an armed transceiver sends the advertisement, whose air time the limiter adds, and is counted, the next one being the
profile's interval later; a central that connects takes the lowest free number with the parameters it asked for, is counted and raises
BLE_CONN in every engine; a close ends the carrier's session and frees the number; an event that is late is missed and counted, one that
is served takes its reception, flushes and sends; the MTU is bounded by 23 and 247; a CCCD, a PHY update and connection parameters are
taken; pairing and encryption are refused and counted; a connection that opened no session in BleNoSessionLimit is closed; a boost that
is over ends. -/
def Obligations.BleLinkCommandsComplete : Prop :=
  ∀ (t : Nat) (s s0 : State), s.tick t = s0 →
    (s0.live = true → s0.ble.advAt ≤ s0.now → s0.gate.quench = false → s0.bg.stage ≠ 4 → s0.pwr.core = true →
      (∀ (s1 s2 : State) (onAir : Nat), s0.boundary .bNextAdvertisingEvent = s1 → s1.advProfile ≠ 0 → s1.rng.st ≠ .starting →
        s1.ble.epoch = some s1.advEpoch → s1.armed .ble s1.now = true → s1.atCeiling 2 0 = false →
        ((s1.xcDrop .ble fun u => u = XcUse.adv).limAdd 2 0 (s1.bleAir onAir) false).bleOnAir .tx onAir = s2 → s2.oneAnt .ble = true →
        Ends (.advertisingEvent t onAir) s s0
          (({ s2 with ble.advAt := s2.now + advInterval s1.advProfile, ble.advAnt := false,
                      ble.adv := some ⟨toLe 6 (s2.g 0x310A 0), s2.bleHeld < 8, s2.bleManager, s1.advProfile,
                       if s2.bleManager then s2.advData else [], false⟩ } : State).bump 0x3120 1))) ∧
    (∀ (interval latency timeout phy c : Nat) (s1 s2 : State), s0.live = true → s0.gate.quench = false → s0.pwr.core = true →
      6 ≤ interval → interval ≤ 3200 → latency ≤ 499 → 100 ≤ timeout → timeout ≤ 32000 → s0.boundary .bNextConnection = s1 →
      s1.ble.conns.findIdx? Option.isNone = some c →
      ((({ s1 with ble.conns := putAt s1.ble.conns c (some
          { at_ := s1.now, phy := phy, interval := interval, latency := latency, timeout := timeout, mtu := 23, cccd := [],
            chal := false, had := false, rxq := [], ntf := [], svc := false, param := false, rssi := 0, served := s1.now,
            anchor := s1.now + us (1250 * interval), hist0 := [], hist1 := [], evs := 0, ant := false, sent := [] }) } : State).bump
          0x3120 2).engEvAll 3) = s2 → s2.bleHeld < 8 →
      Ends (.connectionOpen t interval latency timeout phy false) s s0 s2) ∧
    (∀ (c : Nat) (x : BleConn), s0.live = true → s0.conn c = some x →
      (∀ s1 : State, s0.carrierEnd (.ble c) = s1 →
        Ends (.connectionClose t c) s s0
          ((({ s1 with ble.conns := putAt s1.ble.conns c none, ble.event := if s1.ble.event = some c then none else s1.ble.event } :
            State).xcDrop .ble fun u => u = XcUse.event c).engEvAll 3)) ∧
      (x.had = false → x.at_ + secs (s0.g 0x3106 0) ≤ s0.now → Ends (.noSessionLimit t c) s s0 (s0.bleTerminate c)) ∧
      (s0.gate.quench = false → s0.pwr.core = true → ∀ (s1 : State) (rssi : Option Int) (dwell : Int × Int) (onAir more : Nat),
        s0.boundary .bNextConnectionEvent = s1 →
        (s1.armed .ble s1.now = false → Ends (.connectionEvent t c [] rssi dwell onAir more) s s0
          ((((s1.modConn c fun x => { x with anchor := x.anchor + us (1250 * x.interval) }).xcDrop .ble fun u =>
            u = XcUse.event c).bump 0x3120 3).bump 0x3205 2)) ∧
        (∀ (y : BleConn) (s2 s3 : State), s1.armed .ble s1.now = true → s1.conn c = some y → y.param = false →
          ((s1.modConn c fun z =>
            { z with sent := [], ant := s1.bleAnt y dwell, served := s1.now, anchor := s1.now + us (1250 * z.interval), param := false,
                     evs := if 2 ≤ y.phy || y.evs + 1 < s1.g 0x3243 0 then z.evs + 1 else 0 }).xcDrop .ble fun u =>
            u = XcUse.event c) = s2 →
          { (s2.bleOnAir .rx onAir).bleHeard c rssi (s1.bleAnt y dwell) with
              ble.event := some c, rfc.ble.byp := s1.bleBypRx y.lastRssi } = s3 →
          (s3.sesOn (.ble c)).isNone = false → s3.atCeiling 2 0 = false →
          Ends (.connectionEvent t c [] rssi dwell onAir more) s s0
            (((s3.bleFlush c).bleData c).limAdd 2 0 (s3.bleAir onAir - ((s3.ntfPick y).1.map (s3.ntfTime y.phy)).sum) false))) ∧
      (∀ mtu : Nat, Ends (.mtuExchange t c mtu) s s0
        { s0.modConn c fun x => { x with mtu := min 247 (max 23 mtu) } with ble.rsp := .value (toLe 2 247) }) ∧
      (∀ v : Nat, Ends (.cccdWrite t c 0x09 v) s s0
        { s0.modConn c fun x => { x with cccd := cccdPut x.cccd 0x09 (v % 4) } with ble.rsp := .ok }) ∧
      Ends (.smpPairingRequest t c) s s0 (({ s0 with ble.rsp := .reject 0x05 } : State).bump 0x3120 5) ∧
      Ends (.llEncReq t c) s s0 (({ s0 with ble.rsp := .reject 0x1A } : State).bump 0x3120 5) ∧
      (∀ phy : Nat, phy ≤ 3 →
        Ends (.phyUpdate t c phy) s s0 { s0.modConn c fun x => { x with phy := phy } with ble.rsp := .accept }) ∧
      (∀ interval latency timeout : Nat, 6 ≤ interval → interval ≤ 3200 → latency ≤ 499 → 100 ≤ timeout → timeout ≤ 32000 →
        Ends (.connectionParamRequest t c interval latency timeout) s s0
          { s0.modConn c fun x => { x with interval := interval, latency := latency, timeout := timeout, param := false } with
            ble.rsp := .accept })) ∧
    (∀ d : Nat, s0.ble.boost = some d → d ≤ s0.now → Ends (.boostExpiry t) s s0 { s0 with ble.boost := none })

/-- Engine characteristics and the phone's reads, writes and confirmations. With every check passed: BleEngPublish with no characteristic
claimed answers OK and tells every phone that enabled Service Changed; BleEngNotify of an engine's own published characteristic queues
it to the one connection it names and answers its bit; BleEngRelease frees an owned characteristic; BleEngRx hands over the oldest
write. A phone's write request to a published writable characteristic is queued with its connection, raises BLE_RX in the owner and is
acknowledged; a read of the Info value answers it, and a read of the Access value is not permitted; a confirmed indication leaves its
queue place. -/
def Obligations.EngineCharacteristicsComplete : Prop :=
  ∀ (t : Nat) (s s0 : State) (r : Requester) (e i : Nat), s.tick t = s0 → i < 16 →
    ((∀ n < 16, (s0.bleChar n).owner = 0xFF) →
      Answers (.bleEngPublish t r []) s s0 r (rowReq 3 0x3160 0 []) ⟨0, 0, []⟩
        { s0 with ble.conns := s0.ble.conns.map fun o => o.map fun (x : BleConn) =>
          { x with svc := x.svc || bit (x.cccdOf 0x09) 1 } }) ∧
    ((s0.bleChar i).owner = engOf r → r = .engine e →
      (∀ (c : Nat) (x : BleConn), c < 8 → s0.gate.quench = false → s0.bg.stage = 0 → s0.conn c = some x → (s0.bleChar i).pub = true →
        bit (s0.charProps i) 3 = true → bit (x.cccdOf (0x23 + 3 * i)) 0 = true → x.ntf.length < 8 →
        s0.overShare 2 0 ((s0.ble.conns.map fun o =>
            (o.map fun (y : BleConn) => ((y.ntf.filter fun n => !n.sent).map (s0.ntfTime y.phy)).sum).getD 0).sum +
          s0.bleAir (us (ntfAir x.phy ((s0.bleChar i).val.take (s0.g (0x3140 + i) 4)).length))) = false →
        Answers (.bleEngNotify t r [BitVec.ofNat 8 i, BitVec.ofNat 8 (2 ^ c)]) s s0 r
          (rowReq 3 0x3161 0 [BitVec.ofNat 8 i, BitVec.ofNat 8 (2 ^ c)]) ⟨0, 0, [BitVec.ofNat 8 (2 ^ c)]⟩
          (s0.modConn c fun y =>
            { y with ntf := y.ntf ++
                [⟨i, e, (s0.bleChar i).val.take (s0.g (0x3140 + i) 4), !bit (y.cccdOf (0x23 + 3 * i)) 0, false⟩] })) ∧
      Answers (.bleEngRelease t r [BitVec.ofNat 8 i]) s s0 r (rowReq 3 0x3162 0 [BitVec.ofNat 8 i]) ⟨0, 0, []⟩
        (s0.modChar i fun _ => ⟨0xFF, [], [], false⟩) ∧
      ((s0.bleChar i).rxq = [] →
        Answers (.bleEngRx t r [BitVec.ofNat 8 i]) s s0 r (rowReq 3 0x3163 0 [BitVec.ofNat 8 i]) ⟨0, 0, [0, 0]⟩ s0) ∧
      (∀ (c : Nat) (d : Bytes) (qs : List (Nat × Bytes)), (s0.bleChar i).rxq = (c, d) :: qs →
        Answers (.bleEngRx t r [BitVec.ofNat 8 i]) s s0 r (rowReq 3 0x3163 0 [BitVec.ofNat 8 i])
          ⟨0, 0, [BitVec.ofNat 8 c, BitVec.ofNat 8 d.length] ++ d⟩ (s0.modChar i fun x => { x with rxq := qs }))) ∧
    (∀ (c : Nat) (x : BleConn), s0.live = true → s0.conn c = some x →
      (∀ d : Bytes, (s0.bleChar i).pub = true → bit (s0.charProps i) 1 = true → d.length ≤ s0.g (0x3140 + i) 4 →
        (s0.bleChar i).rxq.length < 4 →
        Ends (.engineCharWrite t c (0x22 + 3 * i) .request d) s s0
          { (s0.modChar i fun y => { y with rxq := y.rxq ++ [(c, d)] }).engEv (s0.bleChar i).owner 2 with ble.rsp := .ok }) ∧
      (s0.bleManager = true →
        Ends (.attRead t c 0x15) s s0 { s0 with ble.rsp := .value [0x01, 83, BitVec.ofNat 8 c] } ∧
        Ends (.attRead t c 0x12) s s0 { s0 with ble.rsp := .error 0x02 }) ∧
      (s0.bleManager = false → Ends (.attRead t c 0x15) s s0 { s0 with ble.rsp := .error 0x01 }) ∧
      Ends (.indicationConfirm t c) s s0 (s0.modConn c fun x =>
        match x.ntf.findIdx? fun n => n.ind && n.sent with
        | some k => { x with ntf := x.ntf.eraseIdx k }
        | none => x))

/-- Capacitive scans, confirmations, stuck channels and handing a touch on. While VAON is there, CORE runs and no reset is held: a scan at
its period measures each enabled channel and, where fewer channels than CapGangLimit cross, each crossing counts its first measurement;
where as many cross, all are blocked and the gang is counted. A confirming measurement moves the baseline, clears the count where it
falls short, counts it where more are needed, and otherwise makes the channel touched. A channel touched for CapStuckTime is released,
rebaselined and counted. A held touch of a MANAGER that decides is served on its gate and LF channel; in Quench it is dropped. -/
def Obligations.CapacitiveCommandsComplete : Prop :=
  ∀ (t : Nat) (s s0 : State), s.tick t = s0 → s0.pwr.vaon = true → s0.pwr.held = false → s0.pwr.shut = false → s0.pwr.core = true →
    (∀ (cs : List Nat) (s1 : State), s0.cap.scanAt + s0.scanPeriod ≤ s0.now →
      ((List.range 4).foldl (fun (s : State) n =>
          if s.capOn n then
            (let r := s.capMeasure n (cs.getD n 0)
             if r.2 then { s.setCap n r.1 with cap.cross := (s.setCap n r.1).cap.cross ++ [n] } else s.setCap n r.1)
          else s) { s0.boundary .bNextScan with cap.scanAt := s0.now, cap.cross := [], cap.gang := false }) = s1 →
      (s1.cap.cross.length < s1.g 0x3406 0 → Ends (.capScan t cs) s s0 (s1.cap.cross.foldl State.capCross s1)) ∧
      (s1.g 0x3406 0 ≤ s1.cap.cross.length →
        Ends (.capScan t cs) s s0
          ((s1.cap.cross.foldl (fun (s : State) n => s.setCap n { s.capCh n with blk := true }) { s1 with cap.gang := true }).bump
            0x3412 0))) ∧
    (∀ (n c : Nat) (x : CapCh) (b : Rat), s0.capCh n = x → s0.capOn n = true → x.touched = false → x.ovr ≠ 0 → x.due ≤ s0.now →
      x.base = some b →
      ((c : Rat) - b < (s0.g 0x3402 (n + 1) : Nat) →
        Ends (.capConfirmMeasure t n c) s s0
          (s0.setCap n { x with raw := c, base := some (s0.capFilter b c (ms 1)), ovr := 0 })) ∧
      ((s0.g 0x3402 (n + 1) : Nat) ≤ (c : Rat) - b → x.ovr + 1 < s0.g 0x3404 0 →
        Ends (.capConfirmMeasure t n c) s s0
          (s0.setCap n { x with raw := c, base := some (s0.capFilter b c (ms 1)), ovr := x.ovr + 1, due := s0.now + ms 1 })) ∧
      ((s0.g 0x3402 (n + 1) : Nat) ≤ (c : Rat) - b → s0.g 0x3404 0 ≤ x.ovr + 1 →
        Ends (.capConfirmMeasure t n c) s s0
          ((s0.setCap n { x with raw := c, base := some (s0.capFilter b c (ms 1)) }).capTouch n))) ∧
    (∀ (n : Nat) (x : CapCh), s0.capCh n = x → x.touched = true → x.since + secs (s0.g 0x3407 0) ≤ s0.now →
      Ends (.capStuck t n) s s0 ((s0.setCap n { x with touched := false, base := some x.raw }).bump 0x3413 (n + 1))) ∧
    (∀ (n at_ : Nat) (s1 : State), s0.live = true → s0.cap.held.find? (fun h => h.1 = n) = some (n, at_) → s0.clocksOk = true →
      s0.rng.st = .seeded →
      { s0 with cap.held := s0.cap.held.filter fun (x : Nat × Nat) => x ≠ (n, at_) } = s1 →
      (s0.gate.quench = true → Ends (.touchHandoff t n) s s0 s1) ∧
      (s0.gate.quench = false → s0.pwr.phase = .ready → s0.hasAccess = true → s0.seg.role = .manager → s1.deciding = true →
        Ends (.touchHandoff t n) s s0
          (s1.touch (s1.g 0x2220 (n + 1)) (s1.lfPollOf (s1.g 0x2221 (n + 1)) (s1.g 0x2220 (n + 1))) at_)))

/-- LF exchanges, replies, key transfer, faults and diagnosis. A poll of the manager's own with room under limiter 3 starts with a fresh
nonce, is driven and counted; its drive measurement stores peak and phase; 1.5 A of coil current latches OVERCURRENT; the carrier
returns 500 us after the downlink; SEG1 during the carrier keeps TID and counter, and half-bits that are no Manchester code of it are a
collision; where nothing syncs a poll awaits a legacy reply, and a reply window ends; a SEG2 or a legacy REPLY in time is judged; a UID
goes on with KEY_LOAD; a good CONFIRM confirms the transfer and a bad one fails it; LfDiagRun with no fault clears the channel's faults
and answers 0; VLF above 6.0 V clears VLF_LOW. -/
def Obligations.LfCommandsComplete : Prop :=
  ∀ (t : Nat) (s s0 : State), s.tick t = s0 →
    (s0.live = true →
      (∀ (vlf : Nat) (s1 s2 : State) (x : LfEx) (rest : List LfEx) (nonce fr : Bytes),
        (s0.put 0x3308 0 vlf).boundary .bNextExchange = s1 → s1.lf.q = x :: rest → x.kind = .poll → x.req = none →
        s1.lf.run = none → s1.lf.diag = none → s1.gate.quench = false → s1.bg.stage ≠ 4 → s1.pwr.core = true → s1.clocksOk = true →
        s1.drawOk = true → s1.lfUsable x.chan = true → clrBit (s1.lfFaults x.chan) 3 = 0 → 5700 ≤ vlf →
        s1.lfRoom x.chan (s1.lfPlan .poll) = true →
        ({ s1 with lf.q := rest, lf.waited := false } : State).newNonce (.lf x.chan) 0 x.gate = (nonce, s2) → s2.lfFrame x nonce = some fr →
        (∀ (d : Nat) (run : LfRun), lfDown (s1.g 0x3304 0) .poll = d →
          { ex := x, nonce := nonce, start := s1.now, dlEnd := s1.now + d, on := true, seg1 := none, legacy := false, back := false,
            meas := false, plan := s1.now + d + us 500 + s1.lfReply .poll, frame := fr, wave := [lfPauses fr] } = run →
          Ends (.lfExchangeStart t vlf) s s0
            ((({ s2 with lf.run := some run, lf.out := none } : State).limAdd 3 x.chan d false).bump 0x3309 1))) ∧
      (∀ r : LfRun, s0.lf.run = some r →
        (∀ (peak : Nat) (phase : Int) (s1 : State), r.meas = false → phase.natAbs ≤ 450 →
          (({ s0 with lf.run := some { r with meas := true } } : State).put 0x3307 (r.ex.chan + 1) peak).put 0x3307 (r.ex.chan + 5)
            (toTwos 16 phase) = s1 → s1.g 0x3303 (r.ex.chan + 1) ≤ peak * 5 →
          Ends (.lfDriveMeasure t peak phase false false) s s0 (s1.put 0x3306 (r.ex.chan + 1) (s1.lfFaults r.ex.chan ||| 0))) ∧
        (r.dlEnd + us 500 ≤ s0.now → r.back = false → r.seg1.isSome = true →
          Ends (.lfCarrierReturn t) s s0
            (({ s0 with lf.run := some { r with on := true, back := true, legacy := r.legacy } } : State).limAdd 3 r.ex.chan
              (s0.lfReply r.ex.kind) false)) ∧
        (r.ex.kind = .poll →
          (r.on = true → r.legacy = false → r.seg1 = none → s0.now < r.dlEnd →
            (∀ hs : Halves,
              (∀ d : Bytes, lfOctets 8 hs = some d →
                Ends (.seg1 t hs) s s0 { s0 with lf.run := some { r with seg1 := some (leAt 0 4 d, leAt 4 4 d) } }) ∧
              (lfOctets 8 hs = none → Ends (.seg1 t hs) s s0 s0.lfCollision))) ∧
          (r.seg1 = none → r.replies = false → Ends (.lfNoSync t) s s0 { s0 with lf.run := some { r with legacy := true } }) ∧
          (r.replies = true → Ends (.lfNoSync t) s s0 s0.lfEnd) ∧
          (r.replies = true → ∀ (tid c : Nat) (d : Bytes) (hs : Halves) (snr : Nat),
            (r.seg1 = some (tid, c) →
              (lfOctets 8 hs = some d → Ends (.seg2 t hs snr) s s0 (s0.lfPresented r tid c d false snr)) ∧
              (lfOctets 8 hs = none → Ends (.seg2 t hs snr) s s0 s0.lfEnd)) ∧
            (r.legacy = true →
              (lfOctets 14 hs = some d →
                Ends (.reply t hs snr) s s0 (s0.lfPresented r (leAt 0 4 d) (leAt 4 2 d) (d.drop 6) true snr)) ∧
              (lfOctets 14 hs = none → Ends (.reply t hs snr) s s0 s0.lfCollision)))) ∧
        (∀ (id : Bytes) (hs : Halves) (s1 : State) (l : Learn), r.ex.kind = .uid → r.replies = true → lfOctets 8 hs = some id →
          s0.lfCarrierOff.lfOver r.ex true = s1 → s1.acc.learn = some l →
          Ends (.uid t hs) s s0
            { s1 with acc.learn := some { l with xfer := l.xfer.map fun (x : Transfer) => { x with uid := some id } },
                      lf.q := (⟨r.ex.chan, 0xFF, LfKind.key, none, [], 0⟩ : LfEx) :: s1.lf.q }) ∧
        (∀ (check : Bytes) (hs : Halves) (s1 : State), r.ex.kind = .key → r.replies = true → lfOctets 8 hs = some check →
          s0.lfCarrierOff.lfOver r.ex true = s1 →
          (s1.coilCheck (((s1.acc.learn.bind (·.xfer)).bind (·.uid)).getD []) check = true →
            Ends (.confirm t hs) s s0 s1.xferConfirm) ∧
          (s1.coilCheck (((s1.acc.learn.bind (·.xfer)).bind (·.uid)).getD []) check = false →
            Ends (.confirm t hs) s s0 s1.xferFail)))) ∧
    (∀ (r : LfRun) (s1 s2 : State), s0.lf.run = some r → s0.put 0x3306 (r.ex.chan + 1) (s0.lfFaults r.ex.chan ||| 4) = s1 →
      (((s1.bump 0x3309 4).logEv 0x0F 0x06 0x90 [0x00, BitVec.ofNat 8 r.ex.chan, BitVec.ofNat 8 (s1.lfFaults r.ex.chan)]).errBit 4 0x3300
        0x06 0x90) = s2 →
      Ends (.lfOvercurrentCut t) s s0 ({ s2 with lf.out := some (r.ex.chan, Rc.notReady, Dt.lfFault) } : State).lfEnd) ∧
    (∀ (who : Requester) (ch peak vlf : Nat) (phase : Int) (q : Req) (s1 : State), ch < 4 → s0.has (16 + ch) = true → s0.lf.run = none →
      s0.lf.q = [] → s0.lf.diag = none → s0.gate.quench = false → 20 ≤ peak → 5700 ≤ vlf → phase.natAbs ≤ 450 →
      q = rowReq 3 0x330B 0 [BitVec.ofNat 8 ch] → Admits s0 who q →
      (({ s0 with lf.diag := some (who, ch) } : State).limAdd 3 ch (ms 1) false).runsOn who q = s1 →
      Ends (.lfDiagRun t who ch peak phase false false false vlf) s s0
        ((((({ s1 with now := s1.now + ms 1, lf.diag := none } : State).put 0x3308 0 vlf).put 0x3307 (ch + 1) peak).put 0x3307 (ch + 5)
          (toTwos 16 phase)).put 0x3306 (ch + 1) 0 |>.answer who 0x330B ⟨0, 0, [0]⟩)) ∧
    (∀ vlf : Nat, 6000 < vlf →
      Ends (.vlfRecover t vlf) s s0
        ((List.range 4).foldl (fun s c => s.put 0x3306 (c + 1) (clrBit (s.lfFaults c) 5)) (s0.put 0x3308 0 vlf)))

/-- The NFC readers: pings, activations, exchanges, ends and faults. An external field found before a ping sets the port's state and is
counted; a first ping sets the reference, and under a latched fault the port goes on showing the fault; an activation due, with no
fault, no field, VNFC and current sound, turns the carrier on with its guard, at the reserve current for a reserve attempt, and counts
it; a WUPA is sent and repeated after 1 ms; a card's ATQA, PPS and refusal of the application move the activation on or end it; an empty
R-APDU asks for the next message; a response waited for more than 1,000 ms, the exchange maximum and the idle end turn the carrier off,
the last followed by another activation while cards may be left; an overcurrent is latched, logged and ends the activation;
NfcFaultClear clears the faults; VNFC above 3.0 V clears VNFC_LOW on both ports. -/
def Obligations.NfcReaderCommandsComplete : Prop :=
  ∀ (t : Nat) (s s0 : State) (p : Nat), s.tick t = s0 →
    (∀ (x : NfcPort) (ext : Nat) (amp phase : Int) (s1 : State), s0.pwr.vaon = true → s0.pwr.core = true → s0.pwr.held = false →
      s0.pwr.shut = false → s0.nfcPort p = x → s0.nfcOn p = true → x.act = none → x.next = none →
      x.pingAt + ms (s0.g 0x3501 0) ≤ s0.now → s0.boundary .bNextPing = s1 →
      (s1.g 0x350D 0 < ext →
        Ends (.nfcPing t p ext amp phase) s s0
          ((s1.modNfc p fun y => { y with st := if x.st = 5 then 5 else 4, pingAt := s1.now }).bump 0x3511 5)) ∧
      (ext ≤ s1.g 0x350D 0 → ∀ s2 : State, (s1.bump 0x3511 1).limAdd 4 p (us 20) false = s2 → (s2.nfcPort p).ref = none →
        Ends (.nfcPing t p ext amp phase) s s0 (s2.modNfc p fun y =>
          { y with st := if x.st = 5 then 5 else 1, pingAt := s1.now, lastA := amp, lastP := phase,
                   ref := some ((amp : Rat), (phase : Rat)) }))) ∧
    (s0.live = true →
      (∀ (at_ ext vnfc cur : Nat) (phase : Int) (reserve : Bool) (s1 : State), (s0.nfcPort p).next = some (at_, reserve) → at_ ≤ s0.now →
        s0.nfcOn p = true → s0.deciding = true → s0.clocksOk = true → s0.drawOk = true →
        (s0.boundary .bNextCarrier).boundary .bNextActivation = s1 → clrBit (s1.nfcFaults p) 2 = 0 → ext ≤ s1.g 0x350D 0 → 2900 ≤ vnfc →
        phase.natAbs ≤ 30 → (if reserve then 250 else s1.g 0x3504 (p + 1)) ≤ cur * 10 →
        (∀ u : State,
          ((((s1.modNfc p fun x => { x with next := none, out := none }).modNfc p fun x =>
            { x with st := 2,
                     act := some { phase := .guard, start := s1.now,
                                   due := s1.now + us (s1.g (if reserve then 0x3508 else 0x3507) 0), wupa := 0, wupb := 0, trig := none,
                                   reserve := reserve, req := 0 < (s1.nfcPort p).cards && !reserve, typeB := false, rate := 0,
                                   await := none, lastAt := s1.now, xfer := 0, capdu := [] },
                     cards := if reserve then x.cards else x.cards + 1 }).limAdd 4 p (ms (s1.g 0x3509 0)) false).bump 0x3511
              (if reserve then 6 else 4)) = u →
          (reserve = false → (s0.nfcPort p).cards = 0 → Ends (.nfcActivation t p ext vnfc cur phase) s s0 u) ∧
          (reserve = false → (s0.nfcPort p).cards ≠ 0 → Ends (.nfcReactivate t p ext vnfc cur phase) s s0 u) ∧
          (reserve = true → Ends (.nfcReserveAttempt t p ext vnfc cur phase) s s0 u))) ∧
      (∀ a : NfcAct, (s0.nfcPort p).act = some a →
        (a.due ≤ s0.now → a.phase = .guard → bit (s0.g 0x3505 0) 0 = true → a.wupa = 0 →
          Ends (.nfcWupRetry t p) s s0 (s0.modAct p fun b =>
            { b with phase := .wake, wupa := b.wupa + 1, trig := some (a.trig.getD s0.now), due := s0.now + ms 1 })) ∧
        (∀ d : Bytes, a.phase = .wake →
          Ends (.nfcCardFrame t p .atqA d) s s0 ((s0.modNfc p fun x => { x with falses := 0 }).modAct p fun a =>
            { a with phase := .select, typeB := false })) ∧
        (∀ d : Bytes, a.phase = .pps → Ends (.nfcCardFrame t p .pps d) s s0 (s0.nfcSelect p)) ∧
        (a.phase = .app → Ends (.nfcCardFrame t p .app [0x6A, 0x82]) s s0 (s0.nfcEnd p)) ∧
        (a.phase = .exchange → a.await.isSome = true → a.xfer = 0 →
          Ends (.nfcRApdu t p [0x90, 0x00]) s s0 ((s0.modAct p fun a => { a with await := none }).nfcSend p) ∧
          Ends (.nfcRApdu t p [0x69, 0x85]) s s0 (s0.nfcEnd p)) ∧
        (∀ w : Nat, a.await = some w → w + ms 1000 < s0.now → Ends (.nfcResponseTimeout t p false) s s0 (s0.nfcEnd p)) ∧
        Ends (.nfcResponseTimeout t p true) s s0 (s0.nfcEnd p) ∧
        (a.start + ms (s0.g 0x3509 0) ≤ s0.now → Ends (.nfcExchangeMax t p) s s0 (s0.nfcEnd p)) ∧
        (a.phase = .exchange → a.await = none → a.lastAt + ms (s0.g 0x350A 0) ≤ s0.now → (∀ m ∈ s0.acc.tx, m.1 ≠ Carrier.nfc p) →
          Ends (.nfcIdleEnd t p) s s0 ((s0.nfcEnd p).modNfc p fun x =>
            { x with next := if x.cards < s0.g 0x350B 0 then some (s0.now + ms 5, false) else none })))) ∧
    (∀ s1 s2 : State, s0.put 0x3512 (p + 1) (setBit (s0.nfcFaults p) 1) = s1 →
      s1.logEv 0x0F 0x06 0xA1 [0x01, BitVec.ofNat 8 p, BitVec.ofNat 8 (s1.nfcFaults p)] = s2 →
      s0.nfcOn p = true → Ends (.nfcOvercurrentCut t p) s s0
        ((s2.nfcEnd p).modNfc p fun x => { x with st := 5, next := none, out := some (Rc.notReady, Dt.nfcFault) })) ∧
    (∀ r : Requester, p < 2 → s0.has (7 + p) = true →
      Answers (.nfcFaultClear t r [BitVec.ofNat 8 p]) s s0 r (rowReq 3 0x3513 0 [BitVec.ofNat 8 p]) ⟨0, 0, []⟩
        ((s0.put 0x3512 (p + 1) 0).modNfc p fun x => { x with st := if x.st = 5 then 0 else x.st })) ∧
    (∀ vnfc : Nat, 3000 < vnfc →
      Ends (.vnfcRecover t vnfc) s s0 ([0, 1].foldl (fun s q =>
        (s.put 0x3512 (q + 1) (clrBit (s.nfcFaults q) 3)).modNfc q fun x =>
          { x with st := if x.st = 5 && clrBit (clrBit (s.nfcFaults q) 3) 2 = 0 then 0 else x.st }) s0))

/-- The Hallmark tag in a reader's field. The FIELD domain powers up into tear recovery, and a field that finds it up changes no more than
the field mark; the recovery makes the flag copies equal, counts the torn records, finishes a valid stage and ends in IDLE; the loss of
the field ends the transaction and leaves the tag OFF where VAON is absent, else IDLE or still in its tear recovery; REQA and WUPA move
IDLE to READY with ATQA 44 00, and WUPA alone moves HALT; a cascade level's SELECT is answered with SAK 04 and then 20 with the tag
ACTIVE; RATS opens a transaction, PPS is answered for 106 kbit/s only, HLTA and S(DESELECT) end in HALT. An APDU of an open transaction:
the two applications and the two files are selected, the file is read, UPDATE BINARY is refused, GET_INFO and GET_RECORD_INFO answer,
AUTH_BEGIN raises the count and answers RndT, AUTH_FINISH opens a session on a good MAC and counts a failure on a bad one, a free record
is read and its write starts, and an unknown INS is answered 6D 00; a field write ends with its answer. -/
def Obligations.TagFieldCommandsComplete : Prop :=
  ∀ (t : Nat) (s s0 : State), s.tick t = s0 →
    (s0.has 9 = true →
      (s0.tag.st = .off →
        Ends (.fieldPowerUp t false) s s0 { s0 with tag.st := .recovering } ∧
        (s0.tagIsolated = false → Ends (.fieldPowerUp t true) s s0 { s0 with tag.st := .recovering, tag.field := true })) ∧
      (s0.tag.st ≠ .off → s0.tagIsolated = false → Ends (.fieldPowerUp t true) s s0 { s0 with tag.field := true })) ∧
    (s0.tag.st = .recovering → ∀ s1 : State,
      (({ s0 with
          tag.ents := s0.tag.ents.map fun e =>
            if e.torn then { e with fa := e.inForce.forFlag e.no, fb := e.inForce.forFlag e.no } else e,
          tag.st := .idle, tag.wr := none, tag.stage := none, tag.staged := false } : State).bumpBy 0x3640 4
            (s0.tag.ents.filter TagEnt.torn).length) = s1 →
      (s0.tag.stage = none → Ends (.tearRecoveryEnd t) s s0 s1) ∧
      (∀ (r : Nat) (d : Bytes), s0.tag.stage = some (r, d, true) →
        Ends (.tearRecoveryEnd t) s s0 ((s1.setTagEnt r ((s1.tagEnt r).finish d)).bump 0x3640 3))) ∧
    (∀ step : Nat, s0.tag.field = true → s0.tag.wr = none →
      Ends (.fieldLoss t step) s s0
        { s0.tagEndTxn with
          tag.field := false, tag.fromHalt := false,
          tag.st := if !s0.pwr.vaon then .off else if s0.tag.st = .recovering then .recovering else .idle }) ∧
    (s0.tagHears = true →
      (s0.tag.st = .idle →
        Ends (.reqa t) s s0 { s0 with tag.st := .ready, tag.fromHalt := false, tag.casc := 0, tag.reply := [0x44, 0x00] } ∧
        Ends (.wupa t) s s0 { s0 with tag.st := .ready, tag.fromHalt := false, tag.casc := 0, tag.reply := [0x44, 0x00] }) ∧
      (s0.tag.st = .halt →
        Ends (.reqa t) s s0 s0 ∧
        Ends (.wupa t) s s0 { s0 with tag.st := .ready, tag.fromHalt := true, tag.casc := 0, tag.reply := [0x44, 0x00] }) ∧
      (s0.tag.st = .ready →
        (s0.tag.casc = 0 → (s0.uidCl 1).length = 5 →
          Ends (.anticollision t 1 true (s0.uidCl 1)) s s0 { s0 with tag.casc := 1, tag.reply := [0x04] }) ∧
        (s0.tag.casc = 1 → (s0.uidCl 2).length = 5 →
          Ends (.anticollision t 2 true (s0.uidCl 2)) s s0 { s0 with tag.casc := 2, tag.st := .active, tag.reply := [0x20] }) ∧
        (s0.tag.casc = 0 → Ends (.anticollision t 1 false []) s s0 { s0 with tag.reply := s0.uidCl 1 })) ∧
      (s0.tag.st = .active →
        (s0.tag.txn = false →
          Ends (.rats t) s s0 (({ s0 with tag.txn := true, tag.reply := [0x05, 0x78, 0x00, 0x40, 0x00] } : State).bump 0x3640 1)) ∧
        Ends (.hlta t) s s0 { s0.tagEndTxn with tag.st := .halt } ∧
        (s0.tag.txn = true →
          Ends (.ppsRequest t 0) s s0 { s0 with tag.reply := [0xD0] } ∧
          Ends (.sDeselect t) s s0 { s0.tagEndTxn with tag.st := .halt, tag.reply := [0xC2] } ∧
          (s0.tag.wr = none →
            Ends (.selectApplication t [0xD2, 0x76, 0x00, 0x00, 0x85, 0x01, 0x01]) s s0
              { s0 with tag.app := 1, tag.file := 0, tag.sess := none, tag.auth := none, tag.reply := [0x90, 0x00] } ∧
            Ends (.selectApplication t [0xF0, 0x5A, 0x51, 0x48, 0x4D, 0x01]) s s0
              { s0 with tag.app := 2, tag.file := 0, tag.sess := none, tag.auth := none, tag.reply := [0x90, 0x00] } ∧
            (s0.tag.app = 1 →
              Ends (.selectFile t 0xE103) s s0 { s0 with tag.file := 1, tag.reply := [0x90, 0x00] } ∧
              Ends (.selectFile t 0xE104) s s0 { s0 with tag.file := 2, tag.reply := [0x90, 0x00] } ∧
              (s0.tag.file = 2 → ∀ off le : Nat, off < 2048 →
                Ends (.readBinary t off le) s s0 { s0 with tag.reply := slice off (min le 255) s0.ndefFile ++ [0x90, 0x00] }) ∧
              Ends (.updateBinary t) s s0 { s0 with tag.reply := [0x69, 0x82] }) ∧
            (s0.tag.app = 2 →
              Ends (.getInfo t) s s0
                { s0 with tag.reply := s0.fuse.uid ++ [0x01, 24, if s0.pwr.vaon then 1 else 0] ++ s0.tag.serial ++ [0x90, 0x00] } ∧
              (∀ r < 24, Ends (.getRecordInfo t r) s s0
                { s0 with tag.reply := toLe 2 (s0.tagEnt r).inForce.len ++ toLe 3 (s0.tagEnt r).inForce.seq ++
                    [BitVec.ofNat 8 (s0.tagEnt r).inForce.acl, 0x90, 0x00] }) ∧
              (∀ (n : Nat) (k : Bytes), n ≤ 3 → s0.tag.keys.getD n none = some k →
                (s0.tag.fails.getD n 0 < 16 →
                  Ends (.authBegin t n) s s0
                    { s0 with tag.count := s0.tag.count + 1, tag.auth := some (n, aesEnc s0.fuse.tagKey (toBe 16 (s0.tag.count + 1))),
                              tag.reply := aesEnc s0.fuse.tagKey (toBe 16 (s0.tag.count + 1)) ++ [0x90, 0x00] }) ∧
                (∀ (rT rR : Bytes), s0.tag.auth = some (n, rT) → rR.length = 16 →
                  (∀ m : Bytes, m.length = 8 → cmac64 k ([0x01] ++ rT ++ rR) = m →
                    Ends (.authFinish t n (rR ++ m)) s s0
                      { s0 with tag.fails := putAt s0.tag.fails n 0, tag.auth := none,
                                tag.sess := some ⟨n, kdf k (ascii "HM-SESS") (rT ++ rR ++ s0.fuse.uid) 16, 0⟩,
                                tag.reply := cmac64 k ([0x02] ++ rR ++ rT) ++ [0x90, 0x00] }) ∧
                  (∀ m : Bytes, m.length = 8 → cmac64 k ([0x01] ++ rT ++ rR) ≠ m →
                    Ends (.authFinish t n (rR ++ m)) s s0
                      { s0 with tag.fails := modAt s0.tag.fails n (fun c => min 255 (c + 1)), tag.auth := none,
                                tag.reply := [0x63, 0x00] }))) ∧
              (∀ r < 24, s0.tag.sess = none →
                ((s0.tagEnt r).inForce.acl / 16 = 0 →
                  Ends (.readRecord t r []) s s0 { s0 with tag.reply := (s0.tagEnt r).data ++ [0x90, 0x00] }) ∧
                ((s0.tagEnt r).inForce.acl % 16 = 0 → ∀ d : Bytes, d.length ≤ 256 →
                  Ends (.writeRecord t r d) s s0
                    { s0 with tag.wr := some ⟨none, r, d.length, (s0.tagEnt r).inForce.acl, d, false, [0x90, 0x00]⟩,
                              tag.reply := [] })) ∧
              Ends (.tagBadApdu t 0x80 0x63 0) s s0 { s0 with tag.reply := [0x6D, 0x00] }))))) ∧
    (∀ w : TagWrite, s0.tag.wr = some w → w.host = none →
      Ends (.tagWriteDone t) s s0
        (({ s0.setTagEnt w.ent ((s0.tagEnt w.ent).writeTo w 7) with
            tag.wr := none, tag.stage := none, tag.staged := if w.ndef then false else s0.tag.staged, tag.reply := w.rsp } :
          State).bump 0x3640 2))

/-- The Hallmark tag from the host: records, access, NDEF and keys. With every check passed: TagRecWrite stages its record and its five
steps start; a write of TagRecAcl starts the five steps with the record's data and the new ACL; TagNdefStage puts octets into the shadow
of the NDEF body and the shadow is staged; TagNdefCommit of a staged shadow starts its steps with NLEN; TagKeyUnblock clears the
failures of its key; a good TAG blob replaces its tag key; a host's write that ends makes the new value stand and is answered. -/
def Obligations.TagHostCommandsComplete : Prop :=
  ∀ (t : Nat) (s s0 : State) (r : Requester), s.tick t = s0 →
    (∀ (n : Nat) (d : Bytes), n < 24 → d.length ≤ 256 →
      Starts (.tagRecWrite t r n d) s s0 r (rowReq 3 0x3612 0 (BitVec.ofNat 8 n :: toLe 2 d.length ++ d))
        { s0 with tag.stage := some (n, d, true),
                  tag.wr := some ⟨some r, n, d.length, (s0.tagEnt n).inForce.acl, d, false, []⟩ }) ∧
    (∀ acl : Nat, acl < 256 →
      Starts (.tagRecAclWrite t r acl) s s0 r (rowReq 2 0x3611 2 [BitVec.ofNat 8 acl])
        { s0 with tag.wr := some ⟨some r, s0.g 0x3610 0, (s0.tagEnt (s0.g 0x3610 0)).inForce.len, acl, (s0.tagEnt (s0.g 0x3610 0)).data,
            false, []⟩ }) ∧
    (∀ (off : Nat) (d : Bytes), off + d.length ≤ 2048 →
      Answers (.tagNdefStage t r off d) s s0 r (rowReq 3 0x3621 0 (toLe 2 off ++ d)) ⟨0, 0, []⟩
        { s0.setTagEnt 24 ((s0.tagEnt 24).writeShadow ⟨((s0.tagEnt 24).inForce.seq + 1) % 2 ^ 24, 0, 0, 0⟩ false
            (overlay off d (fit 2048 (s0.tagEnt 24).shadow))) with tag.staged := true }) ∧
    (∀ nlen : Nat, nlen + 2 ≤ 2048 → s0.tag.staged = true →
      Starts (.tagNdefCommit t r nlen) s s0 r (rowReq 3 0x3622 0 (toLe 2 nlen))
        { s0 with tag.wr := some ⟨some r, 24, nlen + 2, 0, overlay 0 (toBe 2 nlen) (fit 2048 (s0.tagEnt 24).shadow), true, []⟩ }) ∧
    (∀ k : Nat, k < 4 →
      Answers (.tagKeyUnblock t r k) s s0 r (rowReq 3 0x3632 0 [BitVec.ofNat 8 k]) ⟨0, 0, []⟩
        { s0 with tag.fails := putAt s0.tag.fails k 0 }) ∧
    (∀ (k : Nat) (b p : Bytes), k < 4 → blobForm b 0xFFFF = none → s0.kekCheck 4 (leAt 2 2 b) = none →
      kwUnwrap ((s0.slotKey (leAt 2 2 b)).getD []) (b.drop 8) = some p → leAt 4 2 p = 0xFFFF → bits (leAt 0 4 p) 20 4 = 0xA →
      bits (leAt 0 4 p) 14 2 = 0 →
      Answers (.tagKeyWrite t r k b) s s0 r (rowReq 2 0x3630 (k + 1) b) ⟨0, 0, []⟩
        { s0 with tag.keys := putAt s0.tag.keys k (some (p.drop 8)) }) ∧
    (∀ (w : TagWrite) (who : Requester), s0.tag.wr = some w → w.host = some who → s0.tag.defer = none →
      Ends (.tagWriteDone t) s s0
        (({ s0.setTagEnt w.ent ((s0.tagEnt w.ent).writeTo w 7) with
            tag.wr := none, tag.stage := none, tag.staged := if w.ndef then false else s0.tag.staged } :
          State).answer who 0x3612 ⟨0, 0, []⟩))

/-- The cipher complex: submission, blocks, completion and status records. With every check passed and the complex past its start, CxSubmit
of a descriptor that passes every check of the complex queues it on the caller's page and answers its SEQ, and the cores are fed;
CxTakeResult removes and answers the oldest status record; a core whose block is due counts it for the host or the engines, raises the
request's count, releases what is due and takes its next block; the oldest request of a page, once all its blocks are done, completes,
and the queue goes on. -/
def Obligations.CipherComplexCommandsComplete : Prop :=
  ∀ (t : Nat) (s s0 : State) (r : Requester), s.tick t = s0 →
    (∀ (d : Bytes) (q : Nat), s0.cxState ≠ 0 → s0.cxCheck (pageOf r) d = none → ((s0.cxPage (pageOf r)).seq + 1) % 65536 = q →
      Answers (.cxSubmit t r d) s s0 r (rowReq 3 0x1410 0 d) ⟨0, 0, toLe 2 q⟩
        ((s0.modPage (pageOf r) fun p =>
          { p with reqs := p.reqs ++ [⟨q, d, false, [], [], 0, 0, 0, [], [], false, 0, 0, none, false⟩], seq := q }).cxRun.cxSettle)) ∧
    (∀ (b : Bool) (x : Bytes) (xs : List (Bool × Bytes)), (s0.cxPage (pageOf r)).recs = (b, x) :: xs →
      Answers (.cxTakeResult t r) s s0 r (rowReq 3 0x1411 0 []) ⟨0, 0, x⟩
        (s0.modPage (pageOf r) fun p => { p with recs := xs }).cxRun) ∧
    (s0.live = true →
      (∀ (c p q : Nat) (k : CxCore) (s1 : State), s0.cx.cores[c]? = some k → k.cur = some (p, q) → k.due ≤ s0.now → k.blocks < 32767 →
        ((({ s0 with cx.cores := putAt s0.cx.cores c { k with cur := none, blocks := k.blocks + 1 } } : State).cxUse
          (if p = 4 then 3 else 4) 1).modReq p q fun r => { r with done := r.done + 1, busy := r.busy - 1 }) = s1 →
        (∀ x : CxReq, (s1.cxPage p).req q = some x →
          Ends (.cxBlockDone t c) s s0 (s1.cxRelease p x (s1.cxDue p x x.done)).cxRun)) ∧
      (∀ (p : Nat) (x : CxReq) (xs : List CxReq), (s0.cxPage p).reqs = x :: xs → x.ovr = true →
        Ends (.cxRequestDone t p) s s0 (s0.cxFinish p x).cxSettle))

/-- The key store: import, generation, derivation, export, erase, zeroize and mirroring. With every check passed and no command waiting on
the slot: KeyImport of a blob that unwraps to an ATTR that suits its slot loads it, is counted and logged, and answers the version;
KeyGenerate draws the key; KeyDerive takes the KDF's octets; KeyExport answers the wrapped blob and is logged; KeyErase of a LOADED slot
that is neither slot 0 nor of kind TOKEN is erased, is counted and logged, and is answered at once, or where the slot is mirrored once
the standby has it, and of an EMPTY slot it answers at once; KeyZeroize answers at once with the slot zeroized; KeyZeroizeAll ends the
sessions, zeroizes slots 1 to 127, empties the token table but for its counters, the tag keys and the authorities, and runs on; the last
slot overwritten answers it. A KEY_MIRROR that authenticates is taken by the standby and an acknowledgement by the MANAGER; changes
unacknowledged for 5 ms end with MIRROR_PENDING. -/
def Obligations.KeyStoreCommandsComplete : Prop :=
  ∀ (t : Nat) (s s0 : State) (r : Requester), s.tick t = s0 →
    (∀ (n h : Nat) (arg : Bytes), keyTarget n arg = h → (∀ w ∈ s0.keys.waits, w.slot ≠ h) → s0.rng.waiting = [] →
      (n = 0x1520 → ∀ (b p : Bytes), leAt 0 2 arg = h → arg.drop 2 = b → h < 128 → s0.mirrorOnly h = false → blobForm b h = none →
        s0.targetCheck r h = none → s0.kekCheck (kekPage r) (leAt 2 2 b) = none →
        kwUnwrap ((s0.slotKey (leAt 2 2 b)).getD []) (b.drop 8) = some p → leAt 4 2 p = h → leAt 6 2 p = 0 →
        bits (leAt 0 4 p) 14 2 = byteAt 1 b → s0.attrOk h (leAt 0 4 p) = true → bits (leAt 0 4 p) 20 4 ≠ 7 → s0.seg.role ≠ .standby →
        (∀ s1 : State, (s0.loadSlot h (leAt 0 4 p) (p.drop 8)).bump 0x1530 1 = s1 →
          ((s1.logKey h 0x1520).mirrors h = false →
            Answers (.keyImport t r arg) s s0 r (rowReq 3 0x1520 0 arg) ⟨0, 0, toLe 2 (s1.slotVer h)⟩ (s1.logKey h 0x1520)) ∧
          ((s1.logKey h 0x1520).mirrors h = true →
            Starts (.keyImport t r arg) s s0 r (rowReq 3 0x1520 0 arg)
              ((s1.logKey h 0x1520).sendKey h (some r) (toLe 2 (s1.slotVer h)))))) ∧
      (n = 0x1521 → arg.length = 6 → s0.genCheck r h (leAt 2 4 arg) = none → s0.rng.st = .seeded → s0.drawOk = true →
        (∀ (k : Bytes) (s1 s2 : State), s0.draw (attrBytes (leAt 2 4 arg)) = (k, s1) → s1.loadSlot h (leAt 2 4 arg) k = s2 →
          (s2.logKey h 0x1521).mirrors h = false →
          Answers (.keyGenerate t r arg) s s0 r (rowReq 3 0x1521 0 arg) ⟨0, 0, toLe 2 (s2.slotVer h)⟩ (s2.logKey h 0x1521))) ∧
      (n = 0x1522 → ∀ (src attr ll cl : Nat), leAt 0 2 arg = src → leAt 4 4 arg = attr → byteAt 8 arg = ll → byteAt (9 + ll) arg = cl →
        arg.length = 10 + ll + cl → 0 < ll → ll ≤ 32 → cl ≤ 64 → src < 128 → h < 128 → s0.mirrorOnly h = false → s0.slotSt src = .loaded →
        s0.notOwnPage r src = false → s0.slotOwner src = s0.slotOwner h → s0.slotUse src 3 = true → s0.slotKind src ≠ 9 →
        s0.targetCheck r h = none → (bits attr 20 4 = 1 ∨ bits attr 20 4 = 2) → s0.attrOk h attr = true →
        (∀ s1 : State,
          (s0.loadSlot h attr (kdf ((s0.slotKey src).getD []) (slice 9 ll arg) (slice (10 + ll) cl arg) (attrBytes attr))).cxUse
            (keyClass r) ((attrBytes attr + 15) / 16 * 2) = s1 →
          (s1.logKey h 0x1522).mirrors h = false →
          Answers (.keyDerive t r arg) s s0 r (rowReq 3 0x1522 0 arg) ⟨0, 0, toLe 2 (s1.slotVer h)⟩ (s1.logKey h 0x1522))) ∧
      (n = 0x1523 → ∀ kek : Nat, arg.length = 4 → leAt 2 2 arg = kek → h < 128 → kek < 128 → s0.slotSt h = .loaded →
        s0.notOwnPage r h = false → s0.slotUse h 8 = true → s0.kekCheck (kekPage r) kek = none →
        Answers (.keyExport t r arg) s s0 r (rowReq 3 0x1523 0 arg) ⟨0, 0, s0.keyBlob h kek ((s0.slotKey kek).getD [])⟩
          (s0.logKey h 0x1523)) ∧
      (n = 0x1524 → arg.length = 2 → 0 < h → h < 128 → s0.notOwnPage r h = false → s0.mirrorOnly h = false →
        (s0.slotSt h = .empty → Answers (.keyErase t r arg) s s0 r (rowReq 3 0x1524 0 arg) ⟨0, 0, []⟩ s0) ∧
        (s0.slotSt h = .loaded → s0.slotKind h ≠ 3 → ∀ s1 : State, ((s0.logKey h 0x1524).bump 0x1530 3).eraseSlot h = s1 →
          (s0.mirrors h = false → Answers (.keyErase t r arg) s s0 r (rowReq 3 0x1524 0 arg) ⟨0, 0, []⟩ s1) ∧
          (s0.mirrors h = true → Starts (.keyErase t r arg) s s0 r (rowReq 3 0x1524 0 arg) (s1.sendKey h (some r) []))))) ∧
    (∀ (h : Nat) (arg : Bytes), arg.length = 2 → leAt 0 2 arg = h → 0 < h → h < 128 → s0.notOwnPage r h = false →
      s0.mirrorOnly h = false →
      Answers (.keyZeroize t r arg) s s0 r (rowReq 3 0x1525 0 arg) ⟨0, 0, []⟩ (s0.zeroizeSlot h 0x1525)) ∧
    (∀ (arg : Bytes) (s2 : State), arg.length = 2 → leAt 0 2 arg = 0x5A5A → s0.zeroSessions.endAll.netDropAll.zeroizeSlots = s2 →
      Starts (.keyZeroizeAll t r arg) s s0 r (rowReq 3 0x1526 0 arg)
        ((List.range 8).foldl (fun s a => s.put (0x2110 + a) 1 0)
          { s2 with acc.toks := s2.acc.toks.map fun (e : TokEntry) => { TokEntry.reset with ctr := e.ctr },
                    tag.keys := [none, none, none, none], keys.zeroAll := some r })) ∧
    (∀ h : Nat,
      (s0.keys.zeroAll = none →
        Ends (.zeroizeOverwriteDone t h) s s0
          (({ s0 with keys.zeroing := s0.keys.zeroing.filter fun x => x ≠ h } : State).bodyWritten h)) ∧
      (s0.keys.zeroAll = some r → s0.keys.zeroing = [h] →
        Ends (.zeroizeOverwriteDone t h) s s0
          (({ ({ s0 with keys.zeroing := [] } : State).bodyWritten h with keys.zeroAll := none } : State).answer r 0x1526 ⟨0, 0, []⟩))) ∧
    (∀ (p b : Bytes) (s1 : State), byteAt 0 p = 0x2B → s0.wakeHas 9 = true → s0.pwr.core = true → s0.live = true → s0.net.wl = 2 →
      s0.twinIn subKeyMirror p = (some b, s1) →
      (s0.seg.role = .standby → Ends (.keyMirror t p true) s s0 (s1.mirrorKey b)) ∧
      (s0.seg.role = .manager → b.length = 4 → Ends (.keyMirrorAck t p true) s s0 (s1.mirrorAck b))) ∧
    (s0.live = true →
      Ends (.keyMirrorTimeout t) s s0
        ((s0.keys.waits.filter fun w => w.due ≤ s0.now).foldl (fun s w => s.mirrorEnd w false) s0))

/-- The entropy sources and the DRBG. A source that settled begins its start-up test, and one that restarted begins it again; a block of a
source in its start-up test that passes both cutoffs is counted, the fifth making the source RUNNING; one that fails restarts the source
for 100 us and is counted twice; a reseed takes three outputs of the pool that may seed together once its time has come; a second or
2^20 requests without one end in RESEED_WAIT; a waiting read is served by class with 32 octets; RngRandom answers 32 octets of the DRBG. -/
def Obligations.EntropyCommandsComplete : Prop :=
  ∀ (t : Nat) (s s0 : State) (r : Requester) (i : Nat) (x : Source), s.tick t = s0 → s0.source i = x →
    (s0.live = true → i < 2 →
      Ends (.sourceSettled t i) s s0
        (s0.modSource i fun y => if y.st = .settling && y.due ≤ s0.now then { y with st := .startup, passed := 0 } else y) ∧
      Ends (.sourceRestartDone t i) s s0
        (s0.modSource i fun y => if y.st = .restarting && y.due ≤ s0.now then { y with st := .startup, passed := 0 } else y) ∧
      (∀ (blk : Bytes) (s1 : State) (ok : Bool), x.st = .startup → blk.length = 128 → s0.cksOn = true → assayOk i blk = ok →
        (s0.modSource i fun y => { y with hist := ((!ok) :: x.hist).take 32 }).bump 0x1307 (if ok then 1 else 2) = s1 →
        (ok = true →
          Ends (.assayBlock t i blk) s s0
            (s1.modSource i fun y => { y with passed := y.passed + 1, st := if 4 ≤ y.passed + 1 then .running else .startup })) ∧
        (ok = false → ((((!ok) :: x.hist).take 32).filter id).length < 4 →
          Ends (.assayBlock t i blk) s s0
            ((s1.modSource i fun y => { y with st := .restarting, due := s0.now + us 100, passed := 0 }).bump 0x1307 3)))) ∧
    (s0.live = true →
      (∀ p : List (Nat × Bytes), s0.gate.quench = false → s0.rng.st = .seeded ∨ s0.rng.st = .reseedWait →
        s0.rng.seedAt + ms (s0.g 0x1308 0) ≤ s0.now → pickSeed false s0.rng.pool = some p →
        Ends (.drbgReseed t) s s0
          (({ s0 with rng.drbg := drbgReseed s0.rng.drbg (p.map (·.2)).flatten, rng.st := .seeded, rng.cold := false, rng.seedAt := s0.now,
                      rng.reqs := 0, rng.pool := s0.rng.pool.filter fun (x : Nat × Bytes) => !p.contains x } : State).bump 0x1307 4)) ∧
      (s0.rng.st = .seeded → s0.rng.seedAt + secs 1 ≤ s0.now ∨ 2 ^ 20 ≤ s0.rng.reqs →
        Ends (.reseedLimit t) s s0 (({ s0 with rng.st := .reseedWait } : State).bump 0x1307 5)) ∧
      (∀ (w : GenUse × Nat) (who : Requester) (b : Bytes) (s1 : State), nextGen s0.rng.waiting = some w → w.1 = .random who →
        s0.drawOk = true → ({ s0 with rng.waiting := s0.rng.waiting.erase w } : State).draw 32 = (b, s1) →
        Ends (.drbgGenerate t) s s0 (s1.answer who 0x1320 ⟨0, 0, b⟩))) ∧
    (s0.rng.st = .seeded → s0.drawOk = true → ∀ (b : Bytes) (s1 : State), s0.draw 32 = (b, s1) →
      Answers (.rngRandom t r) s s0 r (rowReq 1 0x1320 0 []) ⟨0, 0, b⟩ s1)

/-- Engine instructions on registers and predicates. Where an engine issues one of these words, exactly its destination changes, and then
the next address or repetition follows: ADD, SUB, AND, OR, XOR and the shifts by rb [4:0] write rd from ra and rb; the immediate forms
take the 14-bit immediate sign-extended for ADDI and zero-extended for ANDI, ORI and XORI, and a shift of 0 to 31; LDI writes the
sign-extended 18-bit immediate and LUI the upper half, keeping the lower; MOV copies, CLZ counts leading zeros with 32 for 0, BSWAP
reverses the octets; CMP and CMPI write pd from the condition and PLOG from two predicates; MUL and MULS put the unsigned or signed
64-bit product in flight for 3 cycles, and MUL_RESULT brings the products that are due to MLO and MHI; NOP changes nothing. -/
def Obligations.EngineArithmeticCompletes : Prop :=
  ∀ (t n w o : Nat) (s s0 : State) (e : Engine), s.tick t = s0 →
    (Issues s0 n w o e →
      ∀ (a b : Word32) (rd : Nat), e.reg (iRa w) = a → e.reg (iRb w) = b → iRd w = rd →
      (o = 0x01 → Issued (.add t n) s s0 n (s0.issued n (e.wr rd (a + b)))) ∧
      (o = 0x02 → Issued (.sub t n) s s0 n (s0.issued n (e.wr rd (a - b)))) ∧
      (o = 0x03 → Issued (.and_ t n) s s0 n (s0.issued n (e.wr rd (a &&& b)))) ∧
      (o = 0x04 → Issued (.or_ t n) s s0 n (s0.issued n (e.wr rd (a ||| b)))) ∧
      (o = 0x05 → Issued (.xor_ t n) s s0 n (s0.issued n (e.wr rd (a ^^^ b)))) ∧
      (o = 0x06 → Issued (.shl t n) s s0 n (s0.issued n (e.wr rd (a <<< (b.toNat % 32))))) ∧
      (o = 0x07 → Issued (.shr t n) s s0 n (s0.issued n (e.wr rd (a >>> (b.toNat % 32))))) ∧
      (o = 0x08 → Issued (.sar t n) s s0 n (s0.issued n (e.wr rd (a.sshiftRight (b.toNat % 32))))) ∧
      (o = 0x09 → Issued (.addi t n) s s0 n (s0.issued n (e.wr rd (a + BitVec.ofInt 32 (sext 14 (w % 2 ^ 14)))))) ∧
      (o = 0x0A → Issued (.andi t n) s s0 n (s0.issued n (e.wr rd (a &&& BitVec.ofNat 32 (w % 2 ^ 14))))) ∧
      (o = 0x0B → Issued (.ori t n) s s0 n (s0.issued n (e.wr rd (a ||| BitVec.ofNat 32 (w % 2 ^ 14))))) ∧
      (o = 0x0C → Issued (.xori t n) s s0 n (s0.issued n (e.wr rd (a ^^^ BitVec.ofNat 32 (w % 2 ^ 14))))) ∧
      (o = 0x0D → Issued (.shli t n) s s0 n (s0.issued n (e.wr rd (a <<< (w % 32))))) ∧
      (o = 0x0E → Issued (.shri t n) s s0 n (s0.issued n (e.wr rd (a >>> (w % 32))))) ∧
      (o = 0x0F → Issued (.sari t n) s s0 n (s0.issued n (e.wr rd (a.sshiftRight (w % 32))))) ∧
      (o = 0x10 → Issued (.ldi t n) s s0 n (s0.issued n (e.wr rd (BitVec.ofInt 32 (sext 18 (w % 2 ^ 18)))))) ∧
      (o = 0x11 → Issued (.lui t n) s s0 n (s0.issued n (e.wr rd (BitVec.ofNat 32 (w % 2 ^ 16) <<< 16 ||| e.reg rd &&& 0xFFFF)))) ∧
      (o = 0x12 → Issued (.mul t n) s s0 n (s0.issued n { e with mul := e.mul ++ [(s0.cyc + 3, a.zeroExtend 64 * b.zeroExtend 64)] })) ∧
      (o = 0x13 → Issued (.muls t n) s s0 n (s0.issued n { e with mul := e.mul ++ [(s0.cyc + 3, a.signExtend 64 * b.signExtend 64)] })) ∧
      (o = 0x14 → Issued (.mov t n) s s0 n (s0.issued n (e.wr rd a))) ∧
      (o = 0x15 → Issued (.clz t n) s s0 n (s0.issued n (e.wr rd (BitVec.ofNat 32 (if a = 0 then 32 else 31 - a.toNat.log2))))) ∧
      (o = 0x16 → Issued (.bswap t n) s s0 n (s0.issued n (e.wr rd (BitVec.ofNat 32 (beNat (toLe 4 a.toNat)))))) ∧
      (o = 0x18 → Issued (.cmp t n) s s0 n (s0.issued n
        { e with p := putAt e.p (bits w 19 3) (condHolds (bits w 15 4) (e.reg (bits w 11 4)) (e.reg (bits w 7 4))) })) ∧
      (o = 0x19 → Issued (.cmpi t n) s s0 n (s0.issued n
        { e with p := putAt e.p (bits w 19 3) (condHolds (bits w 15 4) (e.reg (bits w 11 4)) (BitVec.ofInt 32 (sext 11 (w % 2 ^ 11)))) })) ∧
      (o = 0x1A → Issued (.plog t n) s s0 n (s0.issued n
        { e with p := putAt e.p (bits w 19 3) (plogFn (bits w 11 2) (e.pred (bits w 16 3)) (e.pred (bits w 13 3))) })) ∧
      (o = 0x3E → Issued (.nop t n) s s0 n (s0.issued n e))) ∧
    (∀ (c : Nat) (x : BitVec 64), s0.live = true → n < engCount s0.fuse.variant → (s0.engine n).mul = [(c, x)] → c ≤ s0.cyc →
      Ends (.mulResult t n) s s0
        (s0.setEngine n { s0.engine n with mlo := x.truncate 32, mhi := (x >>> 32).truncate 32, mul := [] }))

/-- Engine loads, stores, special registers and dictionary accesses. Where an engine issues one of these words: a load of an aligned 4, 2 or
1 octets below 0x4000 writes rd from the engine's memory, least significant octet first and zero-extended, and from the mailbox at
0x10000 where a right stands; a store writes exactly those octets; LDWP and STWP use ra itself and then raise it by the immediate; MFS
reads a special register, CYCL latching CYCH; MTS writes MLO, MHI, RC, or clears the bits of EVT. LDO and STO with an aligned buffer in
memory the engine may use put the access to the dictionary; its completion stores LEN and the value and writes the completion word to
rd. -/
def Obligations.EngineMemoryCompletes : Prop :=
  ∀ (t n w o : Nat) (s s0 : State) (e : Engine), s.tick t = s0 →
    (Issues s0 n w o e →
      ∀ (a : Nat) (rd : Nat), (e.reg (iRa w) + iS14 w).toNat = a → iRd w = rd →
      (o = 0x20 → a % 4 = 0 → a + 4 ≤ 0x4000 →
        Issued (.ldw t n) s s0 n (s0.issued n (e.wr rd (BitVec.ofNat 32 (leNat (memRead e.data a 4)))))) ∧
      (o = 0x20 → a % 4 = 0 → 0x10000 ≤ a → a + 4 ≤ 0x20000 → bit e.mbxR ((a - 0x10000) / 0x1000) = true →
        Issued (.ldw t n) s s0 n (s0.issued n (e.wr rd (BitVec.ofNat 32 (leNat (memRead s0.eng.mbx (a - 0x10000) 4)))))) ∧
      (o = 0x21 → a % 2 = 0 → a + 2 ≤ 0x4000 →
        Issued (.ldh t n) s s0 n (s0.issued n (e.wr rd (BitVec.ofNat 32 (leNat (memRead e.data a 2)))))) ∧
      (o = 0x22 → a + 1 ≤ 0x4000 →
        Issued (.ldb t n) s s0 n (s0.issued n (e.wr rd (BitVec.ofNat 32 (leNat (memRead e.data a 1)))))) ∧
      (o = 0x23 → a % 4 = 0 → a + 4 ≤ 0x4000 →
        Issued (.stw t n) s s0 n (s0.issued n { e with data := memWrite e.data a (toLe 4 (e.reg rd).toNat) })) ∧
      (o = 0x23 → a % 4 = 0 → 0x10000 ≤ a → a + 4 ≤ 0x20000 → bit e.mbxW ((a - 0x10000) / 0x1000) = true →
        Issued (.stw t n) s s0 n
          { s0.issued n e with eng.mbx := memWrite s0.eng.mbx (a - 0x10000) (toLe 4 (e.reg rd).toNat) }) ∧
      (o = 0x24 → a % 2 = 0 → a + 2 ≤ 0x4000 →
        Issued (.sth t n) s s0 n (s0.issued n { e with data := memWrite e.data a (toLe 2 (e.reg rd).toNat) })) ∧
      (o = 0x25 → a + 1 ≤ 0x4000 →
        Issued (.stb t n) s s0 n (s0.issued n { e with data := memWrite e.data a (toLe 1 (e.reg rd).toNat) })) ∧
      (∀ b : Nat, (e.reg (iRa w)).toNat = b → b % 4 = 0 → b + 4 ≤ 0x4000 →
        (o = 0x28 → Issued (.ldwp t n) s s0 n
          (s0.issued n ((e.wr (iRa w) (e.reg (iRa w) + iS14 w)).wr rd (BitVec.ofNat 32 (leNat (memRead e.data b 4)))))) ∧
        (∀ e1 : Engine, { e with data := memWrite e.data b (toLe 4 (e.reg rd).toNat) } = e1 →
          o = 0x29 → Issued (.stwp t n) s s0 n (s0.issued n (e1.wr (iRa w) (e.reg (iRa w) + iS14 w))))) ∧
      (o = 0x38 → iRa w ≠ 3 → Issued (.mfs t n) s s0 n (s0.issued n (e.wr rd (e.special s0.cyc (iRa w))))) ∧
      (o = 0x38 → iRa w = 3 → Issued (.mfs t n) s s0 n
        (s0.issued n (({ e with cych := BitVec.ofNat 32 (s0.cyc / 2 ^ 32) } : Engine).wr rd (BitVec.ofNat 32 s0.cyc)))) ∧
      (o = 0x39 → rd = 0 → Issued (.mts t n) s s0 n (s0.issued n { e with mlo := e.reg (iRa w) })) ∧
      (o = 0x39 → rd = 1 → Issued (.mts t n) s s0 n (s0.issued n { e with mhi := e.reg (iRa w) })) ∧
      (o = 0x39 → rd = 2 → Issued (.mts t n) s s0 n (s0.issued n { e with rc := e.reg (iRa w), rcOwn := e.rpt.isSome })) ∧
      (o = 0x39 → rd = 5 → Issued (.mts t n) s s0 n (s0.issued n { e with evt := e.evt &&& ~~~(e.reg (iRa w)) })) ∧
      (∀ (b len cap : Nat) (v : Bytes), (e.reg (iRb w)).toNat = b → b % 4 = 0 → leNat (memRead e.data b 2) = len →
        leNat (memRead e.data (b + 2) 2) = cap → b + 4 + max len cap ≤ 0x4000 → memRead e.data (b + 4) len = v →
        (∀ acc : EngAcc, acc = ⟨rd, b, 0, cap, (e.reg (iRa w)).toNat, [], none⟩ → o = 0x26 → bits w 9 1 = 0 →
          Issued (.ldo t n) s s0 n ((s0.issued n { e with acc := some acc }).accStart n)) ∧
        (∀ acc : EngAcc, acc = ⟨rd, b, 1, cap, (e.reg (iRa w)).toNat, [], none⟩ → o = 0x26 → bits w 9 1 = 1 →
          Issued (.ldoReadRecord t n) s s0 n ((s0.issued n { e with acc := some acc }).accStart n)) ∧
        (∀ acc : EngAcc, acc = ⟨rd, b, 2, cap, (e.reg (iRa w)).toNat, v, none⟩ → o = 0x27 → bits w 9 1 = 0 →
          Issued (.sto t n) s s0 n ((s0.issued n { e with acc := some acc }).accStart n)) ∧
        (∀ acc : EngAcc, acc = ⟨rd, b, 3, cap, (e.reg (iRa w)).toNat, v, none⟩ → o = 0x27 → bits w 9 1 = 1 →
          Issued (.stoExec t n) s s0 n ((s0.issued n { e with acc := some acc }).accStart n)))) ∧
    (∀ (a : EngAcc) (v : Bytes) (s1 : State), s0.live = true → (s0.engine n).acc = some a → (s0.engine n).halt = none → a.buf < 0x4000 →
      a.op ≠ 2 → a.rsp = some (0, 0, v) →
      s0.setEngine n { s0.engine n with data := memWrite (s0.engine n).data a.buf (toLe 2 v.length ++ (toLe 2 a.cap ++ v)) } = s1 →
      Ends (.engineDictComplete t n) s s0
        (s1.setEngine n { (s1.engine n).wr a.rd (BitVec.ofNat 32 (v.length * 65536)) with acc := none })) ∧
    (∀ (a : EngAcc) (c d : Nat) (v : Bytes), s0.live = true → (s0.engine n).acc = some a → (s0.engine n).halt = none → c ≠ 0 →
      a.rsp = some (c, d, v) →
      Ends (.engineDictComplete t n) s s0
        (s0.setEngine n { (s0.engine n).wr a.rd (BitVec.ofNat 32 (c % 256 * 256 + d % 256)) with acc := none }))

/-- Engine branches, calls, repetition, waits, events, stops and traps. Where an engine issues one of these words: BR and CALL go to the PC
plus four times the immediate, JR and CALLR to ra, and the calls push the return address, which RET pops; RPT and RPTR hold the next
instruction for their count; WFE and WAITT with a masked event pending write it to rd and clear it, and otherwise wait, WAITT with its
deadline; SEV sets the sender's event bit in the engines it names; STOP halts. A waiting engine completes with a masked event, or with
TIMEOUT at its deadline. An undefined opcode traps ILLEGAL_OP and the watchdog traps WATCHDOG at the PC; a trapped engine restarts 1 ms
later where that was asked for; an engine at a breakpoint enters DEBUG_HALT. -/
def Obligations.EngineFlowCompletes : Prop :=
  ∀ (t n w o : Nat) (s s0 : State) (e : Engine), s.tick t = s0 →
    (Issues s0 n w o e →
      (∀ a : Nat, (e.pc : Int) + 4 * sext 22 (w % 2 ^ 22) = a → a < e.codeLen →
        (o = 0x30 → Issued (.br t n) s s0 n (s0.setEngine n { e with pc := a / 4 * 4, pass := false })) ∧
        (o = 0x31 → e.ret.length < 8 →
          Issued (.call t n) s s0 n (s0.setEngine n { e with ret := (e.pc + 4) :: e.ret, pc := a / 4 * 4, pass := false }))) ∧
      (∀ a : Nat, (e.reg (iRa w)).toNat = a → a < e.codeLen →
        (o = 0x33 → Issued (.jr t n) s s0 n (s0.setEngine n { e with pc := a / 4 * 4, pass := false })) ∧
        (o = 0x34 → e.ret.length < 8 →
          Issued (.callr t n) s s0 n (s0.setEngine n { e with ret := (e.pc + 4) :: e.ret, pc := a / 4 * 4, pass := false }))) ∧
      (∀ (a : Nat) (r : List Nat), o = 0x32 → e.ret = a :: r → a < e.codeLen →
        Issued (.ret t n) s s0 n (s0.setEngine n { e with ret := r, pc := a / 4 * 4, pass := false })) ∧
      (o = 0x35 → w % 2 ^ 16 ≠ 0 →
        Issued (.rpt t n) s s0 n (s0.setEngine n
          { e with rc := BitVec.ofNat 32 (w % 2 ^ 16), rcOwn := false, rpt := some (w % 2 ^ 16), pc := e.pc + 4, pass := false })) ∧
      (∀ k : Nat, o = 0x36 → (e.reg (iRa w)).toNat % 65536 = k → k ≠ 0 →
        Issued (.rptr t n) s s0 n (s0.setEngine n
          { e with rc := BitVec.ofNat 32 k, rcOwn := false, rpt := some k, pc := e.pc + 4, pass := false })) ∧
      (∀ k : Word32, e.reg (iRa w) &&& 0x03FFFFFF = k →
        (e.evt &&& k ≠ 0 → ∀ e1 : Engine,
          { e.wr (iRd w) (e.evt &&& k) with wdt := s0.now, evt := e.evt &&& ~~~k, st := .running, wait := none } = e1 →
          (o = 0x3A → Issued (.wfe t n) s s0 n (s0.issued n e1)) ∧ (o = 0x3B → Issued (.waitt t n) s s0 n (s0.issued n e1))) ∧
        (e.evt &&& k = 0 →
          (o = 0x3A →
            Issued (.wfe t n) s s0 n (s0.issued n { e with wdt := s0.now, st := .waiting, wait := some ⟨iRd w, k, none⟩ })) ∧
          (o = 0x3B → e.reg (iRb w) ≠ 0 →
            Issued (.waitt t n) s s0 n (s0.issued n
              { e with wdt := s0.now, st := .waiting, wait := some ⟨iRd w, k, some (s0.cyc + (e.reg (iRb w)).toNat)⟩ })))) ∧
      (o = 0x3C → Issued (.sev t n) s s0 n
        ((List.range (engCount s0.fuse.variant)).foldl (fun s i => if bit (w % 2 ^ 8) i then s.engEv i (8 + n) else s) (s0.issued n e))) ∧
      (o = 0x3D → Issued (.stop t n) s s0 n (s0.issued n { e with st := .halted, rpt := none, rcOwn := false }))) ∧
    (s0.mayIssue n = true → s0.fetched n = w → opcodeKnown (iOp w) = false → (s0.engine n).pc + 4 ≤ (s0.engine n).codeLen →
      Issued (.illegalOp t n) s s0 n (s0.engTrap n 0x02 (s0.engine n).pc)) ∧
    (s0.live = true → s0.engine n = e →
      (∀ x : EngWait, e.wait = some x → e.st = .waiting → s0.pwr.core = true →
        (e.evt &&& x.mask ≠ 0 →
          Ends (.engineEventWake t n) s s0 (s0.setEngine n
            { e.wr x.rd (e.evt &&& x.mask) with evt := e.evt &&& ~~~x.mask, st := .running, wait := none, wdt := s0.now })) ∧
        (∀ d : Nat, x.dead = some d → d ≤ s0.cyc →
          Ends (.waittDeadline t n) s s0 (s0.setEngine n
            { e.wr x.rd ((e.evt ||| 1) &&& (x.mask ||| 1)) with
              evt := (e.evt ||| 1) &&& ~~~(x.mask ||| 1), st := .running, wait := none, wdt := s0.now }))) ∧
      (n < engCount s0.fuse.variant → e.st = .running →
        (e.wdt + ms (s0.g 0x5007 (n + 1)) ≤ s0.now → Ends (.engineWatchdog t n) s s0 (s0.engTrap n 0x0A e.pc)) ∧
        (e.acc = none → s0.pwr.core = true → s0.atBreak n = true →
          Ends (.breakpointHit t n) s s0 (s0.setEngine n { e with st := .debugHalt, wdt := s0.now - e.wdt, pass := true }))) ∧
      (∀ d : Nat, e.again = some d → e.st = .trapped → d ≤ s0.now → Ends (.trapRestart t n) s s0 (s0.engStart n)))

/-- Engines from outside: control, image loads, doorbells and GPIO. With every check passed, for an engine of the part: START of a stopped
engine with a good image starts it; STOP holds it in reset, or waits for its access; RESTART does both in turn. EngLoadBegin opens a
load where none is open; EngLoadData at the next offset appends and restarts the time-out; EngLoadCommit of a complete, well-formed,
authentic image of a version not below the minimum goes on; its end leaves the engine STOPPED with the image and answers; EngLoadAbort
and 10 s without a command drop a load that is open. EngDoorbell queues its value and raises DOORBELL; EngDoorbellRx and EngObjWriteRx
take the oldest entry. A selected edge of an owned GPIO raises GPIO in its engine. -/
def Obligations.EngineControlCommandsComplete : Prop :=
  ∀ (t n : Nat) (s s0 : State) (r : Requester), s.tick t = s0 → n < engCount s0.fuse.variant →
    (∀ im : Image, (s0.engine n).startable = some im →
      ((s0.engine n).st = .stopped →
        Answers (.engControlStart t r n) s s0 r (rowReq 3 0x5002 0 [BitVec.ofNat 8 n, 1]) ⟨0, 0, []⟩ (s0.engStart n)) ∧
      ((s0.engine n).acc = none →
        Answers (.engControlStop t r n) s s0 r (rowReq 3 0x5002 0 [BitVec.ofNat 8 n, 2]) ⟨0, 0, []⟩ (s0.engHold n) ∧
        Answers (.engControlRestart t r n) s s0 r (rowReq 3 0x5002 0 [BitVec.ofNat 8 n, 3]) ⟨0, 0, []⟩ ((s0.engHold n).engStart n)) ∧
      ((s0.engine n).acc.isSome = true →
        Answers (.engControlStop t r n) s s0 r (rowReq 3 0x5002 0 [BitVec.ofNat 8 n, 2]) ⟨0, 0, []⟩
          (s0.setEngine n { s0.engine n with halt := some false }))) ∧
    (∀ total : Nat, 68 ≤ total → total ≤ 50752 → s0.eng.load = none →
      Answers (.engLoadBegin t r n total) s s0 r (rowReq 3 0x5010 0 (BitVec.ofNat 8 n :: toLe 4 total)) ⟨0, 0, []⟩
        { s0 with eng.load := some ⟨r, n, total, [], s0.now, none⟩ }) ∧
    (∀ l : EngLoad, s0.eng.load = some l → l.who = r →
      (l.img = none →
        (∀ (off : Nat) (d : Bytes), off = l.got.length → off + d.length ≤ l.total → off < 2 ^ 32 →
          Answers (.engLoadData t r off d) s s0 r (rowReq 3 0x5011 0 (toLe 4 off ++ d)) ⟨0, 0, []⟩
            { s0 with eng.load := some { l with got := l.got ++ d, at_ := s0.now } }) ∧
        (∀ (e : Engine) (h : Nat), s0.engine l.eng = e → s0.g 0x500A 0 = h → e.st = .stopped ∨ e.st = .empty → l.got.length = l.total →
          imageOk l.eng l.got = true → s0.slotSt h = .loaded → s0.slotKind h = 1 → s0.slotUse h 2 = true → s0.slotOwner h = 4 →
          cmac ((s0.slotKey h).getD []) (imageMacced l.got) = slice 48 16 l.got →
          s0.g 0x5008 (l.eng + 1) ≤ (imageOf l.got).version →
          Starts (.engLoadCommit t r) s s0 r (rowReq 3 0x5012 0 [])
            { s0.cxUse 3 (cmacOps l.got.length) with eng.load := some { l with img := some (imageOf l.got), at_ := s0.now } }) ∧
        Answers (.engLoadAbort t r) s s0 r (rowReq 3 0x5013 0 []) ⟨0, 0, []⟩ { s0 with eng.load := none } ∧
        (s0.live = true → l.at_ + secs 10 ≤ s0.now → Ends (.engLoadTimeout t) s s0 { s0 with eng.load := none })) ∧
      (∀ (im : Image) (s1 : State), s0.live = true → l.img = some im →
        s0.setEngine l.eng { Engine.reset with
          st := .stopped, image := some im, trapc := (s0.engine l.eng).trapc, traps := (s0.engine l.eng).traps } = s1 →
        Ends (.engLoadCommitDone t) s s0
          (({ s1 with
            eng.load := none,
            ble.chars := s1.ble.chars.map fun (c : BleChar) => if c.owner = l.eng then ⟨0xFF, [], [], false⟩ else c } :
            State).answer l.who 0x5012 ⟨0, 0, []⟩))) ∧
    (∀ v : Nat, v < 2 ^ 32 → (s0.engine n).bell.length < 4 →
      Answers (.engDoorbell t r n v) s s0 r (rowReq 3 0x5023 0 (BitVec.ofNat 8 n :: toLe 4 v)) ⟨0, 0, []⟩
        ((s0.setEngine n { s0.engine n with bell := (s0.engine n).bell ++ [v] }).engEv n 7)) ∧
    (∀ (v : Nat) (vs : List Nat), engOf r = n → (s0.engine n).bell = v :: vs →
      Answers (.engDoorbellRx t r) s s0 r (rowReq 3 0x5024 0 []) ⟨0, 0, toLe 4 v⟩ (s0.setEngine n { s0.engine n with bell := vs })) ∧
    (∀ (v : Nat × Nat) (vs : List (Nat × Nat)), engOf r = n → (s0.engine n).ow = v :: vs →
      Answers (.engObjWriteRx t r) s s0 r (rowReq 3 0x5025 0 []) ⟨0, 0, toLe 2 v.1 ++ [BitVec.ofNat 8 v.2]⟩
        (s0.setEngine n { s0.engine n with ow := vs })) ∧
    (∀ pin : Nat, pin < 8 → s0.pwr.held = false → s0.pwr.shut = false → s0.pwr.core = true → bit s0.eng.gpin pin = false →
      bits (s0.g 0x5035 0) (2 * pin) 2 = 1 → s0.g 0x5030 (pin + 1) = n →
      Ends (.gpioEdge t pin true) s s0 (({ s0 with eng.gpin := putBit s0.eng.gpin pin true } : State).engEv n 18))

/-- The debug port. While fewer than three UNLOCK tries have failed: ID draws a challenge and answers product code, serial number and
challenge; UNLOCK with the CMAC of challenge and serial number opens the port, and any other counts a wrong try and answers AUTH_FAIL,
the challenge used up in both. With the port open and allowed, for an engine whose image permits it: HALT stops a running engine in
DEBUG_HALT, RUN lets it go on past a breakpoint, STEP executes its one instruction, REG_READ answers the registers and REG_WRITE writes
one, MEM_READ and MEM_WRITE reach its code and memory, and BREAK sets or clears a breakpoint. -/
def Obligations.DebugPortCommandsComplete : Prop :=
  ∀ (t : Nat) (s s0 : State) (f d : Bytes), s.tick t = s0 → s0.live = true → s0.eng.dbg.wrong < 3 →
    (∀ (n : Nat) (b : Bytes) (s1 : State), dbgIn 0x01 f = some (n, d) → s0.drawOk = true → s0.draw 16 = (b, s1) →
      Ends (.dbgIdent t f) s s0
        (({ s1 with eng.dbg.chal := some b } : State).dbgAns 0 (toLe 2 (productCode s1.fuse.variant) ++ s1.fuse.serial ++ b))) ∧
    (∀ (n : Nat) (c k : Bytes) (s1 : State), dbgIn 0x02 f = some (n, d) → s0.slotKey (s0.g 0x5051 0) = some k →
      s0.eng.dbg.chal = some c → ({ s0 with eng.dbg.chal := none } : State).cxUse 3 (cmacOps 25) = s1 →
      (d = (cmac k (0x44 :: c ++ s0.fuse.serial)).take 8 →
        Ends (.dbgUnlock t f) s s0 (({ s1 with eng.dbg.open_ := true } : State).dbgAns 0 [])) ∧
      (d ≠ (cmac k (0x44 :: c ++ s0.fuse.serial)).take 8 →
        Ends (.dbgUnlock t f) s s0 (({ s1 with eng.dbg.wrong := s1.eng.dbg.wrong + 1 } : State).dbgAns Rc.authFail []))) ∧
    (∀ (n : Nat) (e : Engine), s0.eng.dbg.open_ = true → s0.g 0x5050 0 ≠ 0 → n < engCount s0.fuse.variant →
      bit (((s0.engine n).image.map Image.options).getD 0) 2 = true → s0.engine n = e →
      (dbgIn 0x10 f = some (n, d) → e.st = .running →
        Ends (.dbgHalt t f) s s0 ((s0.setEngine n { e with st := .debugHalt, wdt := s0.now - e.wdt }).dbgAns 0 [])) ∧
      (dbgIn 0x11 f = some (n, d) → e.st = .debugHalt → e.wait = none →
        Ends (.dbgRun t f) s s0 ((s0.setEngine n { e with st := .running, wdt := s0.now - e.wdt, pass := true }).dbgAns 0 [])) ∧
      (∀ s1 : State, dbgIn 0x12 f = some (n, d) → e.st = .debugHalt → e.wait = none → e.acc = none →
        (s0.setEngine n { e with st := .running, wdt := s0.now - e.wdt }).dbgExec n = s1 → (s1.engine n).st = .running →
        Ends (.dbgStep t f) s s0 ((s1.setEngine n
          { s1.engine n with st := .debugHalt, wdt := s0.now - (s1.engine n).wdt }).dbgAns 0 (toLe 2 (s1.engine n).pc))) ∧
      (∀ x : Engine, dbgIn 0x13 f = some (n, d) → e.settle s0.cyc = x →
        Ends (.dbgRegRead t f) s s0 (s0.dbgAns 0 ((x.g.map fun (v : Word32) => toLe 4 v.toNat).flatten ++
          toLe 1 (((List.range 8).map fun i => if x.pred i then 2 ^ i else 0).sum) ++
          ((List.range 8).map fun i => toLe 4 (x.special s0.cyc i).toNat).flatten ++ toLe 2 x.pc ++ toLe 2 (x.rpt.getD 0)))) ∧
      (∀ k v : Nat, dbgIn 0x14 f = some (n, d) → d.length = 5 → byteAt 0 d = k → leAt 1 4 d = v →
        (k < 16 → Ends (.dbgRegWrite t f) s s0 ((s0.setEngine n ((e.settle s0.cyc).wr k (BitVec.ofNat 32 v))).dbgAns 0 [])) ∧
        (k = 25 → v % 4 = 0 → v < 0x8000 →
          Ends (.dbgRegWrite t f) s s0
            ((s0.setEngine n { e.settle s0.cyc with pc := v, rpt := none, rcOwn := false }).dbgAns 0 []))) ∧
      (∀ a k : Nat, leAt 1 4 d = a → leAt 5 2 d = k →
        (dbgIn 0x15 f = some (n, d) → d.length = 7 → e.dbgSpan (byteAt 0 d) a k false = true →
          Ends (.dbgMemRead t f) s s0 (s0.dbgAns 0 (if byteAt 0 d = 0 then slice a k e.code else e.peek s0.eng.mbx a k))) ∧
        (dbgIn 0x16 f = some (n, d) → d.length = 7 + k → e.dbgSpan (byteAt 0 d) a k true = true →
          (byteAt 0 d = 0 →
            Ends (.dbgMemWrite t f) s s0 ((s0.setEngine n { e with code := overlay a (d.drop 7) e.code }).dbgAns 0 [])) ∧
          (byteAt 0 d ≠ 0 → a < 0x10000 →
            Ends (.dbgMemWrite t f) s s0 ((s0.setEngine n { e with data := memWrite e.data a (d.drop 7) }).dbgAns 0 [])))) ∧
      (∀ k a : Nat, dbgIn 0x17 f = some (n, d) → d.length = 3 → byteAt 0 d = k → leAt 1 2 d = a → k < 4 →
        (a = 0xFFFF → Ends (.dbgBreak t f) s s0 ((s0.setEngine n { e with brk := putAt e.brk k none }).dbgAns 0 [])) ∧
        (a % 4 = 0 → a < 0x8000 →
          Ends (.dbgBreak t f) s s0 ((s0.setEngine n { e with brk := putAt e.brk k (some a) }).dbgAns 0 []))))

/-- CAN frames, queues, launch times, bus-off and recovery. A frame that a controller hears is counted, lowers the receive error counter,
and where no unit takes its identifier is judged by the filters with the stamp of its SOF. NetCanTx of a sound immediate frame, with
room and the port up, takes the next SEQ and enters its class; NetCanRx and NetTxDone take the oldest frame and completion record of the
caller. The frame of the highest class that had entered when it won the bus completes with its record and lowers the transmit error
counter; timed frames whose time domain time has reached enter their class. A bus error adds 8 or 1; bus-off is counted and logged and
waits or recovers by itself; NetCanRecover starts the recovery, whose end clears both counters. -/
def Obligations.CanCommandsComplete : Prop :=
  ∀ (t c : Nat) (s s0 : State) (r : Requester), s.tick t = s0 →
    (∀ (f : CanFrame) (sof : Nat) (s1 : State), s0.wakeHas (6 + c) = true → s0.pwr.core = true → s0.canHears c f.fmt = true →
      (s0.modCan c fun k => { k with rec_ := min (k.rec_ - 1) 127 }.settle).bump (0x4012 + c) 1 = s1 → s1.immoTakes c f = false →
      s1.canDictOn c f.id = false → f.id ≠ 0x7A0 →
      Ends (.canFrameRx t c f sof) s s0
        (s1.canFilter c ⟨0, none, 0, f.fmt, f.flags, f.sdt, f.id, f.af, f.vcid, f.data, 0, 0⟩ (s1.domainAt sof))) ∧
    (∀ (a : Bytes) (f : CanTx) (q : Nat) (s1 : State), 28 ≤ a.length → a.length = 28 + leAt 14 2 a → canParse a = some (c, f) → c < 2 →
      s0.has (5 + c) = true → s0.canMode c ≠ 0 → canFmtOk (s0.canMode c) f.fmt = true → s0.idReserved c f.id = false → f.time = 0 →
      (s0.canCtl c).q.length < 16 → s0.nextSeq r = (q, s1) →
      Answers (.netCanTx t r a) s s0 r (rowReq 3 0x4018 0 a) ⟨0, 0, toLe 2 q⟩
        (s1.modCan c fun k =>
          { k with q := k.q ++ [{ f with cls := (if r = .host then 3 else 4), who := some r, seq := q, at_ := s1.now }] })) ∧
    (∀ (b : Bytes) (bs : List Bytes), (s0.rxq (rxIx r)).can = b :: bs →
      Answers (.netCanRx t r) s s0 r (rowReq 3 0x4019 0 []) ⟨0, 0, b⟩ (s0.modRxq (rxIx r) fun q => { q with can := bs })) ∧
    (∀ (b : Bytes) (bs : List Bytes), (s0.rxq (rxIx r)).done = b :: bs →
      Answers (.netTxDone t r) s s0 r (rowReq 3 0x4030 0 []) ⟨0, 0, b⟩ (s0.modRxq (rxIx r) fun q => { q with done := bs })) ∧
    (s0.live = true → ((s0.canCtl c).st = 1 ∨ (s0.canCtl c).st = 2) →
      (∀ (f : CanTx) (sof won : Nat), (s0.canCtl c).front won = some f →
        Ends (.canFrameTxDone t c sof won) s s0
          (((s0.modCan c fun k => { k with q := k.q.erase f, sent := some f, tec := k.tec - 1 }.settle).bump (0x4012 + c) 2).txRecord
            f.who f.seq Rc.ok 0 (s0.domainAt sof))) ∧
      Ends (.canBusOff t c) s s0
        (((s0.modCan c fun k => { k with st := if s0.g 0x4007 0 = 1 then 4 else 3 }).bump (0x4012 + c) 5).logEv 0x14 0 0
          [BitVec.ofNat 8 c, 3]) ∧
      (∀ s1 : State, s0.modCan c (fun k => { k with tec := k.tec + 8 }.settle) = s1 → (s1.canCtl c).tec < 256 →
        Ends (.canBusError t c true) s s0 s1) ∧
      (∀ s1 : State, s0.modCan c (fun k => { k with rec_ := min (k.rec_ + 1) 65535 }.settle) = s1 → (s1.canCtl c).tec < 256 →
        Ends (.canBusError t c false) s s0 s1)) ∧
    (s0.live = true →
      Ends (.canBusOffRecovery t c) s s0 (s0.modCan c fun k => if k.st = 4 then { k with st := 1, tec := 0, rec_ := 0 } else k)) ∧
    (c < 2 → s0.has (5 + c) = true →
      Answers (.netCanRecover t r c) s s0 r (rowReq 3 0x4008 0 [BitVec.ofNat 8 c]) ⟨0, 0, []⟩
        (s0.modCan c fun k => if k.st = 3 then { k with st := 4 } else k)) ∧
    (s0.live = true →
      Ends (.launchTimeReached t) s s0
        { s0 with
          net.can := s0.net.can.map fun (k : CanCtl) =>
            { k with q := k.q ++ (k.launch.filter fun (f : CanTx) => f.time ≤ s0.domain).map fun (f : CanTx) => { f with at_ := s0.now },
                     launch := k.launch.filter fun (f : CanTx) => s0.domain < f.time },
          net.eth := s0.net.eth ++ s0.net.ethLaunch.filter fun (f : EthTx) => f.time ≤ s0.domain,
          net.ethLaunch := s0.net.ethLaunch.filter fun (f : EthTx) => s0.domain < f.time })

/-- 10BASE-T1S, Wairil and the log memory. A 10BASE-T1S frame for this port with a good FCS is counted and, of another EtherType, judged by
the filters with the stamp of its SFD; one with a bad FCS is counted apart. NetEthTx of a sound immediate frame, with room and the port
up, takes the next SEQ and enters its class; NetEthRx takes the oldest frame of the caller; the frame of the highest class completes
with its record, and a collision is counted in CSMA/CD. The loss of BEACONs falls back to CSMA/CD and is counted, and their return takes
the waiting PLCA settings. The Wairil link goes DOWN, counting the fill pairs added or removed until then, violations and the loss,
aligns to TRAINING and comes UP. A log-memory erase that ends well is followed by the program. -/
def Obligations.EthernetAndLinkCommandsComplete : Prop :=
  ∀ (t : Nat) (s s0 : State) (r : Requester), s.tick t = s0 →
    (∀ (da sa : Bytes) (etype : Nat) (payload : Bytes) (sfd : Nat), s0.wakeHas 8 = true → s0.pwr.core = true → s0.net.t1s ≠ 0 → s0.cksOn = true →
      s0.pwr.held = false → s0.gate.vio = true →
      Ends (.t1sFrameRx t da sa etype payload false sfd) s s0 (s0.bump 0x4027 3) ∧
      (s0.macTakes da = true → etype ≠ 0x88F7 → etype ≠ 0x88B5 →
        Ends (.t1sFrameRx t da sa etype payload true sfd) s s0
          ((s0.bump 0x4027 1).ethFilter da sa etype payload ((s0.bump 0x4027 1).domainAt sfd)))) ∧
    (∀ (a : Bytes) (q : Nat) (s1 : State), 30 ≤ a.length → a.length = 30 + leAt 28 2 a → slice 6 6 a = zeros 6 → byteAt 14 a ≤ 1 →
      byteAt 15 a = 0 → leAt 28 2 a ≤ 994 → leAt 16 12 a = 0 → leAt 12 2 a ≠ 0x88F7 → leAt 12 2 a ≠ 0x88B5 → s0.net.t1s ≠ 0 →
      s0.net.eth.length < 16 → s0.nextSeq r = (q, s1) →
      Answers (.netEthTx t r a) s s0 r (rowReq 3 0x4029 0 a) ⟨0, 0, toLe 2 q⟩
        { s1 with net.eth := s1.net.eth ++
            [⟨if r = .host then 4 else 5, some r, q, a.take 6, leAt 12 2 a, slice 30 (leAt 28 2 a) a, byteAt 14 a, 0⟩] }) ∧
    (∀ (b : Bytes) (bs : List Bytes), (s0.rxq (rxIx r)).eth = b :: bs →
      Answers (.netEthRx t r) s s0 r (rowReq 3 0x402A 0 []) ⟨0, 0, b⟩ (s0.modRxq (rxIx r) fun q => { q with eth := bs })) ∧
    (s0.live = true → s0.t1sHears = true →
      (∀ (f : EthTx) (sfd : Nat), s0.ethFront = some f →
        (f.etype ≠ 0x88F7 →
          Ends (.t1sFrameTxDone t sfd false) s s0
            ((({ s0 with net.eth := s0.net.eth.erase f, net.ethSent := s0.ethWire f } : State).bump 0x4027 2).txRecord f.who f.seq Rc.ok 0
              (s0.domainAt sfd))) ∧
        (s0.net.t1s = 1 → Ends (.t1sFrameTxDone t sfd true) s s0 (s0.bump 0x4027 4)))) ∧
    (s0.live = true →
      (s0.net.t1s = 2 → Ends (.plcaBeaconLoss t) s s0 (({ s0 with net.t1s := 1 } : State).bump 0x4027 5)) ∧
      (s0.net.t1s ≠ 0 → Ends (.plcaBeaconReturn t) s s0
        { s0.boundary .bNextBEACON with net.t1s := (s0.boundary .bNextBEACON).t1sMode })) ∧
    (∀ (fills : Nat) (s1 : State), s0.wlFills fills = s1 → s1.wlHere = true →
      (s1.net.wl = 1 → Ends (.wairilLinkDown t true fills) s s0 { s1.bumpBy 0x4041 1 4 with net.wl := 0 }) ∧
      (s1.net.wl = 2 → Ends (.wairilLinkDown t false fills) s s0 (({ s1 with net.wl := 0 } : State).bump 0x4041 2).wlPathLost)) ∧
    (s0.wlHere = true →
      (s0.net.wl = 0 → s0.wakeHas 9 = true → s0.pwr.core = true → Ends (.wairilCommaAlign t) s s0 { s0 with net.wl := 1 }) ∧
      (s0.net.wl = 1 → Ends (.wairilLinkUp t) s s0 { s0 with net.wl := 2, net.wlRd := false })) ∧
    (∀ q : Nat, s0.live = true → s0.log.sector = some (q, false) →
      Ends (.qsOperationDone t true) s s0 { s0 with log.sector := some (q, true) })

/-- Steps, slews, the asymmetry, PPS, TS_IN and the timeouts of domain time. TimeStep and TimeSet step forward, or backward within
TimeBackStepLimit, at once; a larger backward step is held, domain time goes to HOLDOVER, and both are counted and logged;
TimeStepConfirm whose ceiling covers the held step applies it. TimeSlew below TimeSlewMax in its mode slews the amount, and a write of
TimeAsymmetry clears PATH_CHANGED. A whole second that no step has passed over is the PPS event of the engines and raises PPS_OUT where
TimePpsCfg lets it; TimePpsWidth lowers it. A selected edge on TS_IN latches both times and counts as an overrun where the last was not
read. Three sync intervals without Sync lose the source, and a HOLDOVER longer than its limit becomes FREE. -/
def Obligations.DomainTimeCommandsComplete : Prop :=
  ∀ (t : Nat) (s s0 : State) (r : Requester), s.tick t = s0 →
    (∀ (amount : Nat) (neg : Bool), amount < 2 ^ 96 → t96Ok amount = true →
      (neg = false ∨ (ofT96 amount : Int) ≤ (s0.g 0x4111 0 : Int) * 1000000 * nsU →
        Answers (.timeStep t r amount neg) s s0 r (rowReq 3 0x4106 0 (toLe 12 amount ++ [if neg then 1 else 0])) ⟨0, 0, []⟩
          (s0.stepApply (if neg then -(ofT96 amount : Int) else (ofT96 amount : Int)))) ∧
      ((s0.g 0x4111 0 : Int) * 1000000 * nsU < (ofT96 amount : Int) →
        Answers (.timeStep t r amount true) s s0 r (rowReq 3 0x4106 0 (toLe 12 amount ++ [1])) ⟨0, 0, []⟩
          (((({ s0 with time.held := ofT96 amount } : State).setQual 3).bump 0x412A 2).logEv 0x12 0 0 (1 :: stepBytes (ofT96 amount))))) ∧
    (∀ time : Nat, time < 2 ^ 96 → t96Ok time = true → s0.domain ≤ ofT96 time →
      Answers (.timeSet t r time) s s0 r (rowReq 3 0x4107 0 (toLe 12 time)) ⟨0, 0, []⟩
        (s0.stepApply ((ofT96 time : Int) - (s0.domain : Int)))) ∧
    (∀ ns : Int, -(2 ^ 31) ≤ ns → ns < 2 ^ 31 → s0.g 0x4104 0 = 1 → ns.natAbs < s0.g 0x4110 0 →
      Answers (.timeSlew t r ns) s s0 r (rowReq 3 0x4108 0 (toLe 4 (toTwos 32 ns))) ⟨0, 0, []⟩
        { s0.timeSettle with time.slew := ns * nsU }) ∧
    (∀ ceiling : Nat, ceiling < 2 ^ 96 → t96Ok ceiling = true → s0.time.held ≠ 0 → s0.time.held ≤ ofT96 ceiling →
      Answers (.timeStepConfirm t r ceiling) s s0 r (rowReq 3 0x4109 0 (toLe 12 ceiling)) ⟨0, 0, []⟩
        (({ s0 with time.held := 0 } : State).stepApply (-(s0.time.held : Int)))) ∧
    (∀ v : Int,
      Answers (.timeAsymmetryWrite t r v) s s0 r (rowReq 2 0x4128 0 (toLe 4 (toTwos 32 v))) ⟨0, 0, []⟩
        (({ s0 with time.pathChg := false } : State).put 0x4128 0 (toTwos 32 v))) ∧
    (s0.live = true →
      (∀ s1 s2 : State, s0.tpins.ppsSec < s0.domain / secU → s0.tpins.stepSec < s0.domain / secU →
        ({ s0 with tpins.ppsSec := s0.domain / secU } : State).engEvAll 22 = s1 →
        (bit (s1.g 0x4138 0) 0 = false → Ends (.pps t) s s0 s1) ∧
        (bit (s1.g 0x4138 0) 0 = true → bit (s1.g 0x4138 0) 2 = false ∨ s1.time.qual = 2 → s1.applyPend 0x4139 0 = s2 →
          Ends (.pps t) s s0 { s2 with tpins.pps := true, tpins.ppsDue := s2.now + ms (s2.g 0x4139 0) })) ∧
      (s0.tpins.pps = true → s0.tpins.ppsDue ≤ s0.now → Ends (.ppsWidthEnd t) s s0 { s0 with tpins.pps := false }) ∧
      (∀ (ch : Nat) (rising : Bool), bit (s0.g 0x4130 (ch + 1)) (if rising then 0 else 1) = true → bit (s0.g 0x4130 (ch + 1)) 2 = false →
        Ends (.tsInEdge t ch rising) s s0
          { s0 with
            tpins.tsTime := putAt s0.tpins.tsTime ch (toT96 s0.domain), tpins.tsRcnt := putAt s0.tpins.tsRcnt ch (s0.rcnt s0.now),
            tpins.ovr := if s0.tpins.unread.getD ch false then putAt s0.tpins.ovr ch true else s0.tpins.ovr,
            tpins.unread := putAt s0.tpins.unread ch true }) ∧
      (s0.time.port = 3 → s0.time.syncAt.isSome = true → s0.syncPresent = false → s0.time.tsSrc = false →
        Ends (.timeSourceLoss t) s s0 s0.sourceLost) ∧
      (s0.time.qual = 3 → s0.time.holdAt + secs (s0.g 0x4116 0) < s0.now → Ends (.holdoverLimit t) s s0 (s0.setQual 0)))

/-- 802.1AS messages and intervals. A gPTP message that reaches a listening port is counted. At a SLAVE, Sync renews the source and either
waits with its stamp for its Follow_Up or measures the offset at once; the Follow_Up of the same sequence number completes the
measurement. A MASTER answers Pdelay_Req with its own stamp. Pdelay_Resp and its follow-up to this device's own request complete a path
measurement. An Announce better than this device's own vector and than the best heard makes the port SLAVE, a worse one from nobody
else's master makes it MASTER. At the end of its interval a MASTER sends Sync and Announce, every other port sends Pdelay_Req, and a
port that has heard no Announce for three intervals becomes MASTER. -/
def Obligations.GptpMessagesComplete : Prop :=
  ∀ (t : Nat) (s s0 s1 : State), s.tick t = s0 → s0.bump 0x4027 1 = s1 →
    (s0.wakeHas 8 = true → s0.pwr.core = true → s0.t1sHears = true →
      (∀ (seq origin : Nat) (corr : Int) (s2 : State), s1.time.port = 3 →
        ({ s1 with time.syncAt := some s1.now, time.srcLost := false } : State).acquire = s2 →
        Ends (.sync t seq true origin corr) s s0 { s2 with time.sync := some ⟨seq, s2.domain⟩ } ∧
        Ends (.sync t seq false origin corr) s s0 (s2.offsetIn s2.domain origin corr)) ∧
      (∀ (y : Stamped) (origin : Nat) (corr : Int), s1.time.port = 3 → s1.time.sync = some y →
        Ends (.followUp t y.seq origin corr) s s0 (({ s1 with time.sync := none } : State).offsetIn y.ts origin corr)) ∧
      (∀ (seq : Nat) (src : Bytes), s1.time.port = 2 →
        Ends (.pdelayReq t seq src) s s0
          (s1.ptpSend true (s1.ptpHead 3 20 seq 0x0208 5 0x7F ++ ptpTime s1.domain ++ fit 10 src))) ∧
      (∀ (q : Stamped) (ts : Nat), s1.time.preq = some q →
        Ends (.pdelayResp t false q.seq ts) s s0 { s1 with time.presp := some (ts, s1.domain) } ∧
        (∀ t2 t4 : Nat, s1.time.presp = some (t2, t4) →
          Ends (.pdelayResp t true q.seq ts) s s0
            (({ s1 with time.preq := none, time.presp := none } : State).pathMeasure (pathOf q.ts t2 ts t4)))) ∧
      (∀ (pv : Bytes) (s2 : State), s1.boundary .bNextAnnounce = s2 → s2.time.port ≠ 0 → pv.length = 26 → slice 6 8 pv ≠ s2.clockId →
        slice 16 8 pv ≠ s2.clockId → beNat (slice 14 2 pv) < 255 →
        (beNat pv < beNat s2.ownVector → s2.time.best = [] ∨ beNat pv ≤ beNat s2.time.best →
          Ends (.announce t pv) s s0 (({ s2 with time.best := pv, time.annAt := s2.now } : State).setPort 3)) ∧
        (beNat s2.ownVector ≤ beNat pv → s2.time.port ≠ 3 →
          Ends (.announce t pv) s s0 (({ s2 with time.best := [] } : State).setPort 2)))) ∧
    (s0.live = true →
      (∀ s2 s3 s4 : State, s0.time.syncDue ≤ s0.now → s0.applyPend 0x4124 1 = s2 → s2.time.port = 2 →
        ({ s2 with time.txSeq := (s2.time.txSeq + 1) % 65536, time.syncDue := s2.now + s2.ptpInterval 0 } : State) = s3 →
        s3.ptpSend true (s3.ptpHead 0 10 s3.time.txSeq 0x0208 0 (s3.ptpLog 0) ++ zeros 10) = s4 →
        (s4.time.qual ≠ 1 → Ends (.syncInterval t) s s0 s4.acquire) ∧
        (s4.time.qual = 1 → s4.time.locks + 1 < s4.g 0x4115 0 →
          Ends (.syncInterval t) s s0 { s4 with time.locks := s4.time.locks + 1 }) ∧
        (s4.time.qual = 1 → s4.g 0x4115 0 ≤ s4.time.locks + 1 → Ends (.syncInterval t) s s0 (s4.setQual 2))) ∧
      (∀ s2 s3 : State, s0.time.pdDue ≤ s0.now → s0.applyPend 0x4124 2 = s2 → s2.time.port = 1 ∨ s2.time.port = 3 →
        ({ s2 with time.pdDue := s2.now + (if s2.time.settled then s2.ptpInterval 1 else ms 125),
                   time.txSeq := (s2.time.txSeq + 1) % 65536 } : State) = s3 →
        Ends (.pdelayInterval t) s s0 (s3.ptpSend true (s3.ptpHead 2 20 s3.time.txSeq 0x0008 5 (s3.ptpLog 1) ++ zeros 20))) ∧
      (∀ s2 s3 s4 : State, s0.time.annDue ≤ s0.now → s0.applyPend 0x4124 3 = s2 →
        ({ s2 with time.annDue := s2.now + s2.ptpInterval 2 } : State) = s3 → s2.time.port = 2 →
        { s3.boundary .bNextAnnounce with time.txSeq := (s3.time.txSeq + 1) % 65536 } = s4 →
        Ends (.announceInterval t) s s0
          (s4.ptpSend false (s4.ptpHead 0x0B 42 s4.time.txSeq 0x0008 5 (s4.ptpLog 2) ++ zeros 10 ++ [0, 37, 0] ++ s4.ownVector.take 14 ++
            [0, 0, 0xA0] ++ [0x00, 0x08, 0x00, 0x08] ++ s4.clockId))))

/-- Joining, presence, manager heartbeats, plans, reports and LF requests. A segment frame by 10BASE-T1S is counted at the port, and where
it stands under its key with a fresh counter it is accepted and takes effect. A worker takes the manager's HEARTBEAT with its epoch, a
JOIN_ACK whose K_bc unwraps, a ROUND_PLAN and an LF_REQUEST; a twin or single manager answers JOIN with a fresh nonce and the wrapped
K_bc, takes PRESENCE as the node's state and settles what it resolves; a manager takes the results, time records and events of a REPORT
and closes the node's part of the round. A worker broadcasts PRESENCE with a MAC for either twin at each period and repeats JOIN after
100 ms without an answer; the manager broadcasts HEARTBEAT. Three periods without PRESENCE make a worker LOST, SegMgrLossTime without a
HEARTBEAT forgets the manager, and three periods without the peer lose its path. -/
def Obligations.SegmentCommandsComplete : Prop :=
  ∀ (t : Nat) (s s0 s1 : State), s.tick t = s0 → s0.bump 0x4027 1 = s1 →
    (s0.wakeHas 8 = true → s0.pwr.core = true → s0.t1sHears = true →
      (∀ (p : Bytes) (f : SegIn), segParse p = some f →
        (byteAt 0 p = 0x20 → f.body.length = 16 → s1.seg.role = .worker → f.src % 16 < 2 → f.dst = 0xFFFF → s1.seg.kbc ≠ [] →
          s1.segJudge f (some s1.seg.kbc) (s1.mgrLink (f.src % 16)).bc = 0 → byteAt 0 f.body = 1 →
          Ends (.heartbeat t p false) s s0 ((s1.segCount 0).modMgr (f.src % 16) fun m =>
            { m with bc := f.fcnt, beat := some s1.now, epoch := leAt 4 4 f.body })) ∧
        (∀ s2 : State, byteAt 0 p = 0x21 → s1.isTwin = true → f.body.length = 16 → s1.fromWorker (s1.presenceView f) = some s2 →
          Ends (.presence t p) s s0 (s2.modNode (f.src % 16) fun w =>
            { w with online := true, lost := false, seen := some s1.now, mgr := byteAt 0 f.body, locked := bit (byteAt 1 f.body) 0,
                     touched := bit (byteAt 1 f.body) 1 }).twinSettle) ∧
        (∀ (k : Bytes) (s2 : State), byteAt 0 p = 0x22 → f.body.length = 128 → s1.gate.quench = false → s1.fromManager f = (k, true, s2) →
          Ends (.roundPlan t p) s s0 (s2.takePlan f.body k)) ∧
        (∀ s2 s3 s4 s5 : State, byteAt 0 p = 0x23 → s1.seg.role = .manager → 2 ≤ f.src % 16 → s1.fromWorker f = some s2 →
          f.body.length = 6 + 16 * byteAt 2 f.body + 12 * byteAt 3 f.body + 24 * byteAt 4 f.body → s2.gate.quench = false →
          (octetPieces 16 (byteAt 2 f.body) (f.body.drop 6)).foldl (fun s b => s.uwbItem (Item.ofBytes b)) s2 = s3 →
          (octetPieces 12 (byteAt 3 f.body) (f.body.drop (6 + 16 * byteAt 2 f.body))).foldl
            (fun s b => s.timeRecord (leAt 0 2 f.body) (f.src % 16) b) s3 = s4 →
          (octetPieces 24 (byteAt 4 f.body) (f.body.drop (6 + 16 * byteAt 2 f.body + 12 * byteAt 3 f.body))).foldl
            (fun s b => s.segEvent (f.src % 16) b) s4 = s5 →
          Ends (.report t p) s s0 (s5.reportedBy (leAt 0 2 f.body) (f.src % 16))) ∧
        (∀ (k : Bytes) (s2 : State), byteAt 0 p = 0x24 → f.body.length = 24 → s1.seg.role = .worker → s1.gate.quench = false →
          s1.fromManager f = (k, true, s2) →
          Ends (.lfRequest t p) s s0
            (s2.lfServe (leAt 0 2 f.body) (byteAt 2 f.body) (byteAt 3 f.body) (leAt 4 4 f.body) (f.body.drop 8))) ∧
        (∀ (l nt : Bytes) (s2 : State), byteAt 0 p = 0x25 → s1.isTwin = true → 2 ≤ f.src % 16 → f.src / 16 = s1.seg.segNo →
          f.dst = s1.nodeAddr → f.body.length = 18 → s1.linkKey (f.src % 16) = some l → cmac64 l f.head = f.mac → s1.drawOk = true →
          s1.seg.kbc ≠ [] → (s1.segCount 0).draw 16 = (nt, s2) →
          Ends (.join t p) s s0
            ((s2.modNode (f.src % 16) fun w =>
              { w with kNew := some (segSession l (f.body.take 16) nt f.src s1.nodeAddr), nonceT := nt }).segSend
                (segSession l (f.body.take 16) nt f.src s1.nodeAddr) 0x26 f.src
                (nt ++ toLe 4 (if s1.seg.role = .manager then s1.seg.tx else s1.seg.bcRx) ++
                  kwWrap (segSession l (f.body.take 16) nt f.src s1.nodeAddr) s1.seg.kbc))) ∧
        (∀ (l nw b k : Bytes) (s2 : State), byteAt 0 p = 0x26 → s1.seg.role = .worker → f.src % 16 < 2 → f.src / 16 = s1.seg.segNo →
          f.dst = s1.nodeAddr → f.body.length = 44 → s1.slotKey (s1.g 0x4203 0) = some l → (s1.mgrLink (f.src % 16)).join = some nw →
          segSession l nw (f.body.take 16) s1.nodeAddr f.src = k → cmac64 k f.head = f.mac → kwUnwrap k (f.body.drop 20) = some b →
          { (s1.segCount 0).modMgr (f.src % 16) fun m => { m with kws := some k, rx := f.fcnt, join := none } with seg.kbc := b } = s2 →
          (s2.mgrNow = none → Ends (.joinAck t p) s s0 s2) ∧
          (∀ j : Nat, s2.mgrNow = some j →
            Ends (.joinAck t p) s s0 (s2.modMgr j fun m => { m with bc := max m.bc (leAt 16 4 f.body) }))))) ∧
    (s0.live = true →
      (s0.isTwin = true → s0.gate.quench = false → s0.pwr.core = true → s0.seg.beatDue ≤ s0.now →
        ∀ s2 : State, ({ s0 with seg.beatDue := s0.now + s0.beat } : State).drawBc = s2 → s2.seg.role = .manager → s2.seg.kbc ≠ [] →
          Ends (.heartbeatPeriod t false) s s0 (s2.segSend s2.seg.kbc 0x20 0xFFFF s2.beatBody)) ∧
      (∀ (n : Nat) (k0 k1 : Bytes), s0.seg.role = .worker → s0.pwr.core = true → s0.gate.quench = false → s0.seg.beatDue ≤ s0.now →
        (s0.g 0x1101 0 = 0 → (s0.seg.mgrs.all fun m => (m.beat.map fun b => decide (b + 3 * s0.beat ≤ s0.now)).getD true) = false) →
        s0.mgrNow = some n → (s0.mgrLink 0).kws = some k0 → (s0.mgrLink 1).kws = some k1 →
        let fc := (s0.seg.tx + 1) % 2 ^ 32
        let head : Bytes := [BitVec.ofNat 8 n, BitVec.ofNat 8 (b2n (s0.time.qual = 2) + 2 * b2n (s0.cap.ch.any (·.touched)))] ++
          toLe 4 (s0.mgrLink n).epoch ++ [0, 0]
        let h : Bytes := [0x21, 0x02, 0xFF, 0xFF] ++ toLe 2 s0.nodeAddr ++ toLe 4 fc ++ toLe 2 16 ++ head
        let macB := cmac64 k1 h
        Ends (.presencePeriod t) s s0
          ((({ s0 with seg.tx := fc, seg.beatDue := s0.now + s0.beat } : State).cxUse 2 (2 * cmacOps 28)).ethSend 2
            (List.replicate 6 0xFF) 0x88B5 (h ++ macB ++ cmac64 k0 (h ++ macB))).fcntEnd) ∧
      (∀ s2 : State, s0.seg.role = .worker → s0.pwr.core = true → s0.gate.quench = false → (s0.mgrLink 0).kws = none →
        (s0.mgrLink 0).due ≤ s0.now → s0.sendJoin 0 = s2 → (s2.mgrLink 1).kws.isSome = true → Ends (.joinRepeat t) s s0 s2) ∧
      (∀ (n seen : Nat), (s0.wnode n).online = true → (s0.wnode n).seen = some seen → seen + 3 * s0.beat ≤ s0.now →
        Ends (.workerLost t n) s s0 (s0.modNode n fun w => { w with online := false, lost := true }).twinSettle) ∧
      Ends (.mgrLoss t) s s0
        { s0 with seg.mgrs := s0.seg.mgrs.map fun (m : MgrLink) =>
            { m with beat := m.beat.bind fun b => if b + ms (s0.g 0x4206 0) ≤ s0.now then none else some b } } ∧
      (∀ b : Nat, s0.twinCfg = true →
        (s0.twin.wlBeat = some b → b + ms 3 ≤ s0.now →
          Ends (.peerLoss t true) s s0 (({ s0 with twin.wlBeat := none } : State).pathLost)) ∧
        (s0.twin.t1sBeat = some b → b + 3 * s0.beat ≤ s0.now →
          Ends (.peerLoss t false) s s0 (({ s0 with twin.t1sBeat := none, twin.susAt := some s0.now } : State).pathLost))))

/-- Election, Tinning, mirrors, two-sided commit and takeover. A twin message accepted under K_tw takes effect: the standby applies MIRROR,
pulls the areas whose digest differs and sends those merged both ways, gathers TIN_DATA and applies an area with its last part, and
judges COMMIT; the manager notes a pulled area and sends it, and a COMMIT_ACK OK marks the advance confirmed and releases what waited
for it. TwinTinRun on a twin starts a run, and so does TwinTinPeriod at a paired manager; TwinTakeover with its key promotes a standby
in SUSPECT or ISOLATED that hears no peer. An election that hears nobody, with a majority of the workers naming no manager, ends in
SOLO, and a twin whose SUSPECT is not resolved in time becomes ISOLATED with an empty evidence store. -/
def Obligations.TwinCommandsComplete : Prop :=
  ∀ (t : Nat) (s s0 : State) (r : Requester), s.tick t = s0 →
    (s0.wakeHas 9 = true → s0.live = true → s0.pwr.core = true → s0.net.wl = 2 →
      (∀ (p b : Bytes) (s1 : State), byteAt 0 p = 0x2A → s0.twinIn 0x2A p = (some b, s1) → s0.seg.role = .standby →
        b.length = 6 + leAt 4 2 b → Ends (.mirror t p true) s s0 (s1.applyMirror (byteAt 0 b) (leAt 2 2 b) (b.drop 6))) ∧
      (∀ (p b k : Bytes) (s1 s2 : State) (d : List Nat), byteAt 0 p = 0x2C → s0.twinIn 0x2C p = (some b, s1) → s0.ktw = some k →
        s0.seg.role = .standby → b.length = 76 → (List.range 9).filter (fun a => slice (4 + 8 * a) 8 b ≠ s0.tinDigest k a) = d →
        ({ s1 with twin.diff := d, twin.gen := leAt 0 4 b, twin.rxArea := [] } : State).put 0x4307 0 (d.foldl setBit 0) = s2 →
        Ends (.tinDigest t p true) s s0
          (d.foldl (fun (s : State) a => if tinBoth a then (s.twinSend 0x2D [BitVec.ofNat 8 a, 0]).tinSend a
                                         else s.twinSend 0x2D [BitVec.ofNat 8 a, 0]) s2).tinOver) ∧
      (∀ (p b : Bytes) (s1 : State), byteAt 0 p = 0x2D → s0.twinIn 0x2D p = (some b, s1) → s0.seg.role = .manager → b.length = 2 →
        byteAt 0 b ≤ 8 → Ends (.tinPull t p true) s s0 ((s1.put 0x4307 0 (setBit (s1.g 0x4307 0) (byteAt 0 b))).tinSend (byteAt 0 b))) ∧
      (∀ (p b old : Bytes) (s1 : State), byteAt 0 p = 0x2E → s0.twinIn 0x2E p = (some b, s1) → byteAt 0 b ≤ 8 → 8 ≤ b.length →
        s0.seg.role = .standby → ((s1.twin.rxArea.find? fun x => x.1 = byteAt 0 b).map (·.2)).getD [] = old →
        (byteAt 1 b = 0 →
          Ends (.tinData t p true) s s0 { s1 with
            twin.rxArea := (s1.twin.rxArea.filter fun x => x.1 ≠ byteAt 0 b) ++ [(byteAt 0 b, old.take (leAt 4 4 b) ++ b.drop 8)] }) ∧
        (byteAt 1 b ≠ 0 →
          Ends (.tinData t p true) s s0
            ({ ({ s1 with twin.rxArea := s1.twin.rxArea.filter fun x => x.1 ≠ byteAt 0 b } : State).tinApply (byteAt 0 b)
                (old.take (leAt 4 4 b) ++ b.drop 8) with twin.diff := s1.twin.diff.filter (· ≠ byteAt 0 b) } : State).tinOver)) ∧
      (∀ (p b : Bytes) (s1 : State), byteAt 0 p = 0x28 → s0.twinIn 0x28 p = (some b, s1) → s0.seg.role = .standby → b.length = 32 →
        Ends (.commit t p true) s s0 (s1.judgeCommit b)) ∧
      (∀ (p b : Bytes) (s1 s2 : State) (a : Advance), byteAt 0 p = 0x29 → s0.twinIn 0x29 p = (some b, s1) → s0.seg.role = .manager →
        b.length = 16 → (s0.twin.commits.any fun c => c.cseq = leAt 0 4 b) = true →
        ({ s1 with twin.commits := s1.twin.commits.filter fun (c : CommitOut) => c.cseq ≠ leAt 0 4 b } : State) = s2 →
        (s2.acc.adv.find? fun a => a.cseq = leAt 0 4 b) = some a →
        (byteAt 4 b ≠ Rc.replay →
          Ends (.commitAck t p true) s s0
            ({ s2 with acc.adv := s2.acc.adv.map fun (x : Advance) =>
                if x.cseq = leAt 0 4 b then { x with twin := true } else x } : State).advSettle) ∧
        (byteAt 4 b = Rc.replay → Ends (.commitAck t p true) s s0 (s2.commitReplayed a (leAt 8 8 b % 2 ^ 32))))) ∧
    (s0.seg.cfg = 2 →
      Answers (.twinTinRun t r) s s0 r (rowReq 3 0x4305 0 []) ⟨0, 0, []⟩ s0.tinStart ∧
      (s0.wlHeard = false → s0.t1sHeard = false → s0.seg.role = .standby → s0.twin.st = .suspect ∨ s0.twin.st = .isolated →
        Answers (.twinTakeover t r (toLe 2 0x544B)) s s0 r (rowReq 3 0x4306 0 (toLe 2 0x544B)) ⟨0, 0, []⟩ (s0.promote false))) ∧
    (s0.live = true →
      (s0.seg.role = .manager → s0.twin.tinDue ≤ s0.now → s0.twin.st = .paired ∨ s0.twin.st = .t1sOnly → s0.gate.quench = false →
        Ends (.tinPeriod t) s s0 s0.tinStart) ∧
      (∀ (d : Nat) (s1 : State), s0.twin.st = .electing → s0.twin.electDue = some d → d ≤ s0.now → s0.majority (s0.naming 0xFF 0) = true →
        s0.gate.quench = false → s0.takeManager = s1 →
        Ends (.electionTimeout t) s s0
          ((({ s1 with twin.st := .solo, twin.wit := true, twin.grace := s0.now + 3 * s0.beat, twin.electDue := none } : State).bump
            0x4310 3).twinLog .electing).twinReady) ∧
      (∀ s1 : State, s0.twinSettle = s1 → s1.twin.st = .suspect → s1.twin.since + ms (s1.g 0x4206 0) + 2 * s1.beat ≤ s1.now →
        Ends (.twinResolutionTimeout t) s s0 ((({ s1.tsEmpty with twin.st := .isolated } : State).bump 0x4310 4).twinLog .suspect)) ∧
      (∀ (b : Nat) (c : CommitOut), s0.twin.t1sBeat = some b → s0.twin.commits = [c] → c.due ≤ s0.now →
        Ends (.commitResend t) s s0
          { s0.twinSend 0x28 c.body with twin.commits := [{ c with due := s0.now + s0.commitWait }] }))

/-- Resets, rails, the watchdog and the exit from SHUTDOWN. A rise of VAON is a cold reset of cause 0, after which the tag knows whether its
field is there; the loss of VAON powers the AON domain down and holds the part, and ends the tag's transaction unless the tag lives on
from the field; a brown-out of VSUP is a reset of cause 1, RESET_N one of cause 2, the watchdog that was not restarted in time one of
cause 3, and an enabled source in SHUTDOWN one of cause 7. A reset taken while the part is not held holds it, with its cause, in the
first phase of start-up, PLL and reference off, its ranging, radio, LF, segment and cipher units and its dictionary requests at their
reset values. VIO going leaves the outputs undriven, and its return restarts the comparisons; a restart of the watchdog takes the
present time. -/
def Obligations.ResetAndSupplyCommandsComplete : Prop :=
  (∀ (t : Nat) (s s0 : State), s.tick t = s0 →
    Ends (.vaonPor t) s s0 ((({ s0 with pwr.vaon := true } : State).resetTake true 0).fieldUp false) ∧
    (∀ (step : Nat) (s1 : State), ({ s0.tagPowerLoss step with pwr.vaon := false } : State).resetTake true 0 = s1 →
      (s1.tag.field = true → Ends (.vaonLoss t step) s s0 s1) ∧
      (s1.tag.field = false → Ends (.vaonLoss t step) s s0 { s1.tagEndTxn with tag.st := .off, tag.fromHalt := false })) ∧
    Ends (.vsupBrownout t) s s0 (({ s0 with pwr.vsup := false } : State).resetTake false 1) ∧
    Ends (.vioUndervoltage t) s s0 { s0 with gate.vio := false } ∧
    Ends (.vioReturn t) s s0
      { s0 with gate.vio := true, gate.chg := s0.gate.chg.map fun _ => s0.now, gate.mism := s0.gate.mism.map fun _ => 0 } ∧
    (s0.pwr.vaon = true → Ends (.resetN t) s s0 (s0.resetTake false 2)) ∧
    (s0.pwr.core = true → s0.pwr.pll = true → Ends (.watchdogRestart t) s s0 { s0 with pwr.wdtAt := s0.now }) ∧
    (s0.pwr.core = true → s0.pwr.pll = true → s0.pwr.held = false → s0.pwr.wdtAt + ms (s0.g 0x110A 0) ≤ s0.now →
      Ends (.aonWatchdog t) s s0 (s0.resetTake false 3)) ∧
    (s0.pwr.shut = true → Ends (.shutdownExit t 3) s s0 (s0.resetTake false 7)) ∧
    (∀ i : Nat, 5 ≤ i → i ≤ 7 → s0.pwr.shut = true → bit (s0.g 0x1104 0) i = true →
      Ends (.shutdownExit t i) s s0 (s0.resetTake false 7))) ∧
  (∀ (s : State) (cold : Bool) (cause : Nat), s.pwr.held = false →
    let u := s.resetTake cold cause
    u.pwr.held = true ∧ u.pwr.phase = .loading ∧ u.pwr.cold = cold ∧ u.pwr.cause = cause ∧ u.pwr.pll = false ∧ u.pwr.refOk = false ∧
    u.uwb = Uwb.reset ∧ u.lf = Lf.reset ∧ u.ble = Ble.reset ∧ u.seg = Seg.reset ∧ u.cx = Cx.reset ∧ u.ts = Ts.reset ∧ u.time.qual = 0 ∧
    u.dict.spi = Dict.reset.spi)

/-- Start-up, shutdown, power-down and wake. The release of a reset loads the committed bank, takes the role, scans the journal, logs what
waited and goes to the self-test, in PUSH mode with START_EN high restarting the periodic RELEASE; a passed self-test with no cause of
Quench on a node without a twin enables the units and reaches ACCESS_READY. PwrShutdown with its key ends the sessions with NOT_READY,
drops the network sessions, puts the FLOOR and is timed; CORE powers down for it, or after PwrIdleDelay while nothing holds it up; an
enabled source or the scheduler wakes it. -/
def Obligations.StartUpAndSleepCommandsComplete : Prop :=
  ∀ (t : Nat) (s s0 : State) (r : Requester), s.tick t = s0 →
    (∀ (twinId : Bool) (qsType : Nat) (qsId : Bytes) (qsKb : Nat) (s1 s2 : State), s0.pwr.held = true → s0.pwr.vaon = true →
      s0.pwr.cause ≠ 6 →
      ({ s0 with
          pwr := { s0.pwr with held := false, vsup := true, refOk := false, phase := .loading, relAt := s0.now, rcntAt := s0.now,
                               wdtAt := s0.now },
          seg.twinId := twinId, eng.cyc0 := s0.now, bg.passAt := s0.now, time.at_ := s0.now, rng := .reset, net.qsType := qsType,
          net.qsId := qsId, net.qsKb := qsKb } : State) = s1 →
      (s1.loadBank.roleStart.journalScan).logDeferred = s2 →
      Ends (.resetRelease t twinId qsType qsId qsKb) s s0
        { s2 with pwr.phase := .selftest,
                  gate.immo.next := if s2.gate.startEn && s2.g 0x2420 0 = 1 then some (s2.now + ms (s2.g 0x2426 0)) else none }) ∧
    (∀ s1 : State, s0.pwr.phase = .selftest → s0.pwr.held = false → s0.pwr.core = true → s0.clocksOk = true →
      presence s0.fuse.variant &&& 0x00F00000 ≠ 0 → s0.keys.bad = [] → (s0.put 0x1021 0 0).unitsOn 0 = s1 → s1.gate.quench = false →
      s1.seg.cfg ≠ 2 →
      Ends (.startUpSelfTestDone t 0 false false) s s0 s1.accessReady) ∧
    (∀ s1 : State, s0.gate.startEn = false → s0.acc.drive = none → s0.acc.entry = [] → s0.acc.start = [] →
      ((s0.acc.ses.filterMap id).foldl (fun (s : State) x => s.endSession x.tsh (some (Rc.notReady, 0))) s0).netDropAll = s1 →
      Answers (.pwrShutdown t r (toLe 2 0x5344)) s s0 r (rowReq 3 0x1102 0 (toLe 2 0x5344)) ⟨0, 0, []⟩
        { s1.putFloor with pwr.shutDue := some (s0.now + ms 1) }) ∧
    (s0.pwr.core = true → s0.pwr.held = false →
      (∀ d : Nat, s0.pwr.shutDue = some d → d ≤ s0.now → s0.dict.commit = none → s0.rfc.uwb.run = none → s0.rfc.ble.run = none →
        Ends (.corePowerDown t) s s0 { s0.coreDown with pwr.shut := true, pwr.shutDue := none }) ∧
      (∀ i : Nat, s0.pwr.shutDue = none → s0.pwr.idleAt = some i → i + ms (s0.g 0x1103 0) ≤ s0.now → s0.coreIdle = true →
        Ends (.corePowerDown t) s s0 s0.coreDown)) ∧
    (s0.pwr.core = false → s0.pwr.shut = false → s0.pwr.held = false →
      (∀ src : Nat, src &&& (s0.g 0x1104 0 ||| 0x408) &&& 0x7FF ≠ 0 →
        Ends (.coreWake t src) s s0 (s0.coreWakeOn (src &&& (s0.g 0x1104 0 ||| 0x408) &&& 0x7FF))) ∧
      (s0.schedDue = true → Ends (.scheduledWake t) s s0 (s0.coreWakeOn 0x400)))

/-- The PLL, the reference monitor, the slow clock and its ratio. When the PLL locks, a start-up starts the clocks, the entropy sources and
the calibration, a wake adds the domain time that passed, and a relock carries every count on from where it was held. Loss of lock holds
the units and raises an error; no relock within 1 ms is a reset of cause 6, as is a reference outside its window where no seal could be
issued, else it is Quench. The window passing marks the reference good. The crystal takes the slow clock over where it is selected, and
when it stops the RC returns with an error and a record; a measured ratio is filtered, and a jump of more than 500 ppm is logged. -/
def Obligations.ClockCommandsComplete : Prop :=
  ∀ (t : Nat) (s s0 : State), s.tick t = s0 →
    (s0.pwr.pll = false → s0.pwr.held = false → s0.pwr.core = true → s0.pwr.vsup = true →
      (∀ l : Nat, s0.pwr.lostAt = some l →
        Ends (.pllLock t) s s0
          (({ s0 with pwr.pll := true, pwr.lostAt := none, pwr.rcntAt := s0.pwr.rcntAt + (s0.now - l), pwr.wdtAt := s0.pwr.wdtAt + (s0.now - l),
                      eng.cyc0 := s0.eng.cyc0 + (s0.now - l), time.at_ := s0.time.at_ + (s0.now - l) } : State).tmrResume.logClock)) ∧
      (∀ dn : Nat, s0.pwr.lostAt = none → s0.pwr.downAt = some dn →
        Ends (.pllLock t) s s0
          (({ s0 with pwr.pll := true, pwr.downAt := none, pwr.rcntAt := s0.now,
                      time.base := s0.time.base + ((aonTick s0.now - aonTick dn) * s0.g 0x1111 0 / 65536) * 2 * s0.timeInc,
                      time.at_ := s0.now, dict.spi.alive := true } : State).tmrResume.sourcesUp)) ∧
      (s0.pwr.lostAt = none → s0.pwr.downAt = none →
        Ends (.pllLock t) s s0
          (({ s0 with pwr.pll := true, pwr.rcntAt := s0.now, eng.cyc0 := s0.now, time.at_ := s0.now,
                      dict.spi.alive := true } : State).tmrResume.sourcesUp.startCal))) ∧
    (s0.pwr.pll = true →
      Ends (.pllLockLoss t) s s0
        (({ (s0.tmrDown.timeSettle) with pwr.pll := false, pwr.lostAt := some s0.now } : State).errBit 1 0x1100 0 0)) ∧
    (∀ l : Nat, s0.pwr.lostAt = some l → l + ms 1 ≤ s0.now → Ends (.pllRelockTimeout t) s s0 (s0.resetTake false 6)) ∧
    (s0.pwr.core = true → s0.pwr.vaon = true →
      Ends (.referenceMonitorPass t) s s0 { s0 with pwr.refOk := true, pwr.monDue := none }) ∧
    (s0.pwr.core = true →
      (s0.mayDecide = true → Ends (.referenceLoss t) s s0 (s0.quench 2)) ∧
      (s0.mayDecide = false → Ends (.referenceLoss t) s s0 (s0.resetTake false 6))) ∧
    (s0.g 0x1112 0 = 1 → s0.pwr.slowRc = true → s0.pwr.xtalDone = false → s0.pwr.vaon = true →
      Ends (.slowXtalSwitch t) s s0 { s0 with pwr.slowRc := false }) ∧
    (s0.pwr.slowRc = false →
      Ends (.slowXtalFail t) s s0
        ((({ s0 with pwr.slowRc := true, pwr.xtalFail := true, pwr.xtalDone := true } : State).errBit 1 0x1100 0 0).logClock)) ∧
    (∀ (cycles : Nat) (v : Int), s0.live = true →
      (s0.g 0x1111 0 : Int) + ((cycles * 256 : Nat) - (s0.g 0x1111 0 : Int)) / 4 = v →
      (500 * (s0.g 0x1111 0 : Int) < 1000000 * (v - (s0.g 0x1111 0 : Int)).natAbs →
        Ends (.clockRatioMeasure t cycles) s s0 (s0.put 0x1111 0 (toTwos 32 v)).logClock) ∧
      (1000000 * ((v - (s0.g 0x1111 0 : Int)).natAbs : Int) ≤ 500 * (s0.g 0x1111 0 : Int) →
        Ends (.clockRatioMeasure t cycles) s s0 (s0.put 0x1111 0 (toTwos 32 v))))

/-- Timer channels: starting, ends, compares, status, captures and the waveform. With the channel brought to the present: TmrCtrl with RUN
starts a stopped channel from 0 and without it stops it; TmrEnd above the count moves the end of a timeout-class channel; TmrCmp above
the count arms the compare; a write of TmrStatus clears the bits written as 1; a read of TmrCapture answers it and clears CAPTURE, and
one in the CKS cycle of the latch leaves CAPTURE set and OVERRUN as it was before that latch. While it runs, a timeout-class channel
that reaches its END stops there with END set, and one that reaches its compare below END sets MATCH; a waveform channel that passes
CMPB on the way sets MATCH_B, and at its zero turning point takes the pending TOP and sets END, and a pin that the new TOP leaves active
counts from the compare it passed last. A write to a waveform channel's registers follows the active pins for the engine GPIO limit. A
selected edge latches the count two CKS cycles later and sets CAPTURE, or OVERRUN where CAPTURE stood. -/
def Obligations.TimerCommandsComplete : Prop :=
  ∀ (t n : Nat) (s s0 s1 : State) (r : Requester), s.tick t = s0 → n < 12 → s0.tmrSettle n = s1 →
    (∀ (v : Nat) (hold : State → State), v < 2 ^ 32 → (fun u => if n < 8 then u else s1.gpioHolds u) = hold →
      (bit v 19 = true → (s1.tmrOf n).run = false →
        Answers (.tmrCtrlWrite t r n v) s s0 r (rowReq 2 (0x1210 + n) 1 (toLe 4 v)) ⟨0, 0, []⟩
          (hold (s1.setTmr n (({ s1.tmrOf n with ctrl := clrBit v 19 } : Tmr).start (8 ≤ n) s1.now)))) ∧
      (bit v 19 = false →
        Answers (.tmrCtrlWrite t r n v) s s0 r (rowReq 2 (0x1210 + n) 1 (toLe 4 v)) ⟨0, 0, []⟩
          (hold (s1.setTmr n { s1.tmrOf n with ctrl := clrBit v 19, run := false }))) ∧
      (∀ s2 : State, n < 8 → (s1.tmrOf n).base < v → s1.setTmr n { s1.tmrOf n with end_ := v } = s2 → (s2.tmrOf n).pend = none →
        Answers (.tmrEndWrite t r n v) s s0 r (rowReq 2 (0x1210 + n) 3 (toLe 4 v)) ⟨0, 0, []⟩ s2) ∧
      (n < 8 → (s1.tmrOf n).run = true → (s1.tmrOf n).base < v →
        Answers (.tmrCmpWrite t r n v) s s0 r (rowReq 2 (0x1210 + n) 4 (toLe 4 v)) ⟨0, 0, []⟩
          (s1.setTmr n { s1.tmrOf n with cmp := v, armed := true })) ∧
      (v < 2 ^ 16 →
        Answers (.tmrStatusWrite t r n v) s s0 r (rowReq 2 (0x1210 + n) 7 (toLe 2 v)) ⟨0, 0, []⟩
          (hold { s1 with tmr := putAt s1.tmr n { s1.tmrOf n with stat := (s1.tmrOf n).stat &&& (v ^^^ 0xFFFF) } }))) ∧
    (∀ st : Nat,
      ((s0.tmrOf n).capBefore s0.now = none ∧ st = clrBit (s0.tmrOf n).stat 7 ∨
        ∃ w, (s0.tmrOf n).capBefore s0.now = some w ∧ st = putBit (s0.tmrOf n).stat 8 (bit w.2 8)) →
      Answers (.tmrCaptureRead t r n) s s0 r (rowReq 1 (0x1210 + n) 6 []) ⟨0, 0, s0.readVal r (0x1210 + n) 6⟩
        { s0 with tmr := putAt s0.tmr n { s0.tmrOf n with stat := st } }) ∧
    (∀ (c c1 : Tmr) (k : Nat), s0.live = true → s0.tmrOf n = c → c.run = true → (s0.now - c.at_) / c.unit = k → 0 < k →
      { c with at_ := c.at_ + k * c.unit } = c1 →
      (n < 8 → c.end_ ≤ c.base + k →
        Ends (.tmrCountEnd t n) s s0 (s0.setTmr n (({ c1.matchTo c.end_ 0 with base := c.end_, run := false } : Tmr).flag 1))) ∧
      (n < 8 → c.base + k < c.end_ → c.armed = true → c.cmp ≤ c.base + k →
        Ends (.tmrMatch t n) s s0 (s0.setTmr n { (({ c1 with armed := false } : Tmr).flag 2) with base := c.base + k })) ∧
      (8 ≤ n → k < c1.toZero → waveMeets c.base c.end_ c.up k c.cmp = false → waveMeets c.base c.end_ c.up k c.cmpB = true →
        Ends (.tmrMatchB t n) s s0 (s0.setTmr n ((c1.flag 4).waveMove k))) ∧
      (∀ c2 : Tmr, 8 ≤ n → c1.toZero = k → (c1.waveFlags k).zeroTurn.end_ ≠ 0 →
        (((c1.waveFlags k).zeroTurn).waveFlags 0).waveMove 0 = c2 →
        Ends (.tmrZeroTurn t n) s s0 ((s0.topHold c c2).setTmr n c2))) ∧
    (∀ (src : Nat) (rising : Bool), s0.live = true → s1.cksOn = true → (s1.tmrOf n).run = true → src ≠ 0 →
      bits (s1.tmrOf n).ctrl 8 4 = src → bits (s1.tmrOf n).ctrl 6 2 = 2 →
      Ends (.tmrCaptureEdge t n src rising) s s0
        (s1.setTmr n (({ s1.tmrOf n with
            cap := ((s1.tmrOf n).settle (8 ≤ n) (s1.now + cks 2)).base,
            capWas := some (s1.now / 10 + 2, (s1.tmrOf n).cap, (s1.tmrOf n).stat) } : Tmr).flag
          (if bit (s1.tmrOf n).stat 7 then 0x100 else 0x80))))

/-- Burnish, the limiter, CAN telemetry and the event log's memories. A step of Burnish over a good word moves on, counting a pass and
starting again after the last word; an error that one bit made is counted and logged on the way, and CORE wakes for Burnish at a lag of
4,096 words. A power sample enters the 1 s average and raises the stage its conditions ask for, with its record; a second of calm lowers
it by one, with its record; with CORE off only the 125 C limit acts, and cuts to stage 4. CAN telemetry that is due sends the state of
the gates, limiter, temperature, twin, time, errors and its counter. The oldest buffered record enters the head while the memory is
free, and a full sector starts its write to the log memory. -/
def Obligations.BackgroundCommandsComplete : Prop :=
  ∀ (t : Nat) (s s0 : State), s.tick t = s0 →
    (s0.live = true → s0.pwr.core = true →
      (∀ part word item : Nat, s0.envmIdle = true → s0.bg.pos < s0.burnishTarget →
        (s0.bg.pos + 1 < s0.envmWords → Ends (.burnishStep t 0 part word item) s s0 { s0 with bg.pos := s0.bg.pos + 1 }) ∧
        (s0.envmWords ≤ s0.bg.pos + 1 → Ends (.burnishStep t 0 part word item) s s0
          ((({ s0 with bg.pos := 0, bg.passAt := s0.now } : State).bump 0x6003 3).boundary .bNextPass)) ∧
        (∀ s1 : State, (s0.bump 0x6003 1).logEv 0x0C 0 0 ([BitVec.ofNat 8 part] ++ toLe 4 word ++ [0x00]) = s1 →
          Ends (.burnishStep t 1 part word item) s s0 s1.burnishNext)) ∧
      (s0.g 0x6030 1 ≠ 0xFF → s0.bg.canDue ≤ s0.now →
        Ends (.canTelemetry t) s s0
          { s0.canSend (s0.g 0x6030 1) ⟨3, none, 0, 0, 0, 0, s0.g 0x6030 2, 0, 0,
              [BitVec.ofNat 8 s0.gateSummary, BitVec.ofNat 8 s0.bg.stage] ++ toLe 2 (s0.g 0x3214 0) ++
                [BitVec.ofNat 8 (twinCode s0.twin.st), BitVec.ofNat 8 s0.time.qual, BitVec.ofNat 8 (s0.g 0x1028 0),
                  BitVec.ofNat 8 s0.bg.canCnt], 0, 0⟩ with
            bg.canCnt := (s0.bg.canCnt + 1) % 256, bg.canDue := s0.now + ms (s0.g 0x6030 3) }) ∧
      (∀ (e : LogRec) (rest : List LogRec) (s1 : State), s0.log.buf = e :: rest → s0.envmIdle = true → s0.headEvict (e.seq % 1024) = s1 →
        Ends (.logHeadWrite t) s s0
          ((({ s1 with log.buf := rest,
                       log.head := (e.seq % 1024, e) :: s1.log.head.filter (fun p => p.1 ≠ e.seq % 1024) } : State).bump 0x6107 1).reportLost)) ∧
      (∀ (first : Bool) (q : Nat) (s1 : State), s0.boundary .bNextSector = s1 → s1.logState = 1 → s1.log.sector = none → s1.logSectors ≠ 0 →
        s1.pwr.core = true → s1.sectorReady = some q →
        Ends (.logSectorWrite t first) s s0
          (({ s1 with log.sector := some (q, !(s1.net.qsType = 1 || first)) } : State).cxUse 3 257))) ∧
    (s0.pwr.core = false → s0.pwr.shut = false → s0.pwr.held = false → s0.bg.pos + 4096 ≤ s0.burnishTarget →
      Ends (.burnishSlotWake t) s s0 (s0.coreWakeOn 0x400).burnishCatchUp) ∧
    (∀ (power : Nat) (s1 : State), s0.pwr.core = true →
      ({ s0 with bg.power := (power :: s0.bg.power).take 10000 } : State).put 0x6013 0 (((power :: s0.bg.power).take 10000).sum / 10000) = s1 →
      s1.stageCond 4 false = false →
      (s1.stageCond 3 false = true → s1.bg.stage < 3 → Ends (.limiterSample t power none) s s0 (s1.setStage 3)) ∧
      (s1.stageCond 3 false = false → s1.stageCond 2 false = true → s1.bg.stage < 2 →
        Ends (.limiterSample t power none) s s0 (s1.setStage 2)) ∧
      (s1.stageCond 3 false = false → s1.stageCond 2 false = false → s1.stageCond 1 false = true → s1.bg.stage = 0 →
        Ends (.limiterSample t power none) s s0 (s1.setStage 1)) ∧
      (s1.stageCond 3 false = false → s1.stageCond 2 false = false → s1.stageCond 1 false = false → s1.bg.stage ≠ 0 →
        s1.stageCond s1.bg.stage true = false →
        Ends (.limiterSample t power none) s s0 { s1 with bg.calmAt := some (s1.bg.calmAt.getD s1.now) })) ∧
    (∀ (power : Nat) (temp : Int), s0.pwr.core = false → s0.pwr.vaon = true → s0.bg.stage < 4 → 1250 ≤ temp →
      Ends (.limiterSample t power (some temp)) s s0 (s0.setStage 4).thermalCut) ∧
    (∀ c : Nat, s0.pwr.core = true → 0 < s0.bg.stage → s0.bg.calmAt = some c → c + secs 1 ≤ s0.now →
      Ends (.limiterStageFall t) s s0
        (({ s0 with bg.stage := s0.bg.stage - 1, bg.calmAt := none } : State).logEv 0x08 0 0 [0x05, BitVec.ofNat 8 (s0.bg.stage - 1)]))
end

