-- ==== Sys2Proof/Laws/Bits.lean ====
section
/-! SUPPORT. A value laid out in octets reads back (R11), and a signed value from its two's complement. -/
namespace Sys2Proof.Machine

@[simp] theorem toLe_length (n v : Nat) : (toLe n v).length = n := by
  induction n generalizing v with
  | zero => rfl
  | succ n ih => simp [toLe, ih]

theorem leNat_toLe {n v : Nat} (h : v < 256 ^ n) : leNat (toLe n v) = v := by
  induction n generalizing v with
  | zero => simp [toLe, leNat] at *; omega
  | succ n ih =>
    have h' : v / 256 < 256 ^ n := by rw [Nat.pow_succ] at h; omega
    simp only [toLe, leNat, ih h', BitVec.toNat_ofNat]
    omega

theorem leAt_toLe_append {n v : Nat} (l : Bytes) (h : v < 256 ^ n) : leAt 0 n (toLe n v ++ l) = v := by
  have e : slice 0 n (toLe n v ++ l) = toLe n v := by simp [slice]
  rw [leAt, e, leNat_toLe h]

theorem leAt_toLe {n v : Nat} (h : v < 256 ^ n) : leAt 0 n (toLe n v) = v := by
  simpa using leAt_toLe_append [] h

theorem toTwos_lt (w : Nat) (i : Int) : toTwos w i < 2 ^ w := by
  have h : (0 : Int) < (2 ^ w : Nat) := by exact_mod_cast Nat.two_pow_pos w
  have h1 := Int.emod_lt_of_pos i h
  have h2 : (0 : Int) ≤ i % (2 ^ w : Nat) := Int.emod_nonneg i (fun e => by rw [e] at h; exact absurd h (by decide))
  unfold toTwos
  omega

theorem sext_toTwos_32 {i : Int} (h1 : -(2 ^ 31) ≤ i) (h2 : i < 2 ^ 31) : sext 32 (toTwos 32 i) = i := by
  have e1 : (2 ^ 32 : Nat) = 4294967296 := by decide
  have e2 : (2 ^ (32 - 1) : Nat) = 2147483648 := by decide
  simp only [sext, toTwos, e1, e2]
  by_cases h : (i % (4294967296 : Nat)).toNat % 4294967296 < 2147483648
  · rw [if_pos h]; omega
  · rw [if_neg h]; omega

end Sys2Proof.Machine
end

