-- ==== Sys2Proof/Laws/Ends.lean ====
section
/-! SUPPORT. How a command is shown to complete: its meaning is an effect around which `State.run` stands. -/
namespace Sys2Proof.Machine

/-- A command whose meaning is the effect `f` completes with what `f` leaves. -/
theorem ends_of_run {c : Instr} {s s0 u : State} {t : Nat} {f : State → State} (hc : exec c s = .next (s.run t f))
    (h0 : s.tick t = s0) (hf : f s0 = u) : Ends c s s0 u := by
  subst h0; subst hf; exact hc

/-- A command of an engine whose meaning is the effect `f` completes with what `f` leaves. -/
theorem ends_of_engRun {c : Instr} {s s0 u : State} {t n : Nat} {f : State → State} (hc : exec c s = .next (s.engRun t n f))
    (h0 : s.tick t = s0) (hf : f s0 = u) : exec c s = .next (engFin n s0 u) := by
  subst h0; subst hf; exact hc

/-- A command that asks the dictionary, when the request passes every check and is answered. -/
theorem ask_answered {s u : State} {who : Requester} {op idx sub : Nat} {data : Bytes} {a : Resp}
    (h : Admits s who (rowReq op idx sub data)) (hs : s.serve who (rowReq op idx sub data) = (some a, u)) :
    s.ask who op idx sub data = u.answered who (rowReq op idx sub data) a := by
  obtain ⟨h1, h2, h3, -⟩ := h
  unfold rowReq at *
  simp only [State.ask, h1, h2, h3, Bool.not_true, Bool.or_self, Bool.false_eq_true, if_false, hs]

/-- A command that asks the dictionary, when the request passes every check and its command runs on. -/
theorem ask_runsOn {s u : State} {who : Requester} {op idx sub : Nat} {data : Bytes}
    (h : Admits s who (rowReq op idx sub data)) (hs : s.serve who (rowReq op idx sub data) = (none, u)) :
    s.ask who op idx sub data = u.runsOn who (rowReq op idx sub data) := by
  obtain ⟨h1, h2, h3, -⟩ := h
  unfold rowReq at *
  simp only [State.ask, h1, h2, h3, Bool.not_true, Bool.or_self, Bool.false_eq_true, if_false, hs]

/-- A command object that passes every check is executed. -/
theorem serve_exec {s : State} {who : Requester} {idx sub : Nat} {data : Bytes} (h : Admits s who (rowReq 3 idx sub data)) :
    s.serve who (rowReq 3 idx sub data) = s.execCmd who idx data := by
  simp [State.serve, h.2.2.2]; simp [rowReq]

/-- A write that passes every check is applied. -/
theorem serve_write {s : State} {who : Requester} {idx sub : Nat} {data : Bytes} (h : Admits s who (rowReq 2 idx sub data))
    (hi : idx < 0x8000) : s.serve who (rowReq 2 idx sub data) = s.applyWrite who idx sub data := by
  have hn : ¬ 0x8000 ≤ idx := by omega
  simp [State.serve, h.2.2.2]; simp [rowReq, hn]

/-- A command object that is answered at once. -/
theorem answers_exec {c : Instr} {s s0 u : State} {t idx sub : Nat} {who : Requester} {data : Bytes} {a : Resp}
    (hc : exec c s = .next (s.run t fun s => s.ask who 3 idx sub data)) (h0 : s.tick t = s0)
    (he : s0.execCmd who idx data = (some a, u)) : Answers c s s0 who (rowReq 3 idx sub data) a u := by
  intro h
  subst h0
  rw [hc]
  simp only [State.run]
  rw [ask_answered h (by rw [serve_exec h, he])]

/-- A command object whose command runs on. -/
theorem starts_exec {c : Instr} {s s0 u : State} {t idx sub : Nat} {who : Requester} {data : Bytes}
    (hc : exec c s = .next (s.run t fun s => s.ask who 3 idx sub data)) (h0 : s.tick t = s0)
    (he : s0.execCmd who idx data = (none, u)) : Starts c s s0 who (rowReq 3 idx sub data) u := by
  intro h
  subst h0
  rw [hc]
  simp only [State.run]
  rw [ask_runsOn h (by rw [serve_exec h, he])]

/-- A read that passes every check is served. -/
theorem serve_read {s : State} {who : Requester} {idx sub : Nat} {data : Bytes} (h : Admits s who (rowReq 1 idx sub data)) :
    s.serve who (rowReq 1 idx sub data) = s.serveRead who idx sub := by
  simp [State.serve, h.2.2.2]; simp [rowReq]

/-- A read that is answered at once. -/
theorem answers_read {c : Instr} {s s0 u : State} {t idx sub : Nat} {who : Requester} {data : Bytes} {a : Resp}
    (hc : exec c s = .next (s.run t fun s => s.ask who 1 idx sub data)) (h0 : s.tick t = s0)
    (he : s0.serveRead who idx sub = (some a, u)) : Answers c s s0 who (rowReq 1 idx sub data) a u := by
  intro h
  subst h0
  rw [hc]
  simp only [State.run]
  rw [ask_answered h (by rw [serve_read h, he])]

/-- A write that is answered at once. -/
theorem answers_write {c : Instr} {s s0 u : State} {t idx sub : Nat} {who : Requester} {data : Bytes} {a : Resp}
    (hc : exec c s = .next (s.run t fun s => s.ask who 2 idx sub data)) (h0 : s.tick t = s0) (hi : idx < 0x8000)
    (he : s0.applyWrite who idx sub data = (some a, u)) : Answers c s s0 who (rowReq 2 idx sub data) a u := by
  intro h
  subst h0
  rw [hc]
  simp only [State.run]
  rw [ask_answered h (by rw [serve_write h hi, he])]

/-- A write whose command runs on. -/
theorem starts_write {c : Instr} {s s0 u : State} {t idx sub : Nat} {who : Requester} {data : Bytes}
    (hc : exec c s = .next (s.run t fun s => s.ask who 2 idx sub data)) (h0 : s.tick t = s0) (hi : idx < 0x8000)
    (he : s0.applyWrite who idx sub data = (none, u)) : Starts c s s0 who (rowReq 2 idx sub data) u := by
  intro h
  subst h0
  rw [hc]
  simp only [State.run]
  rw [ask_runsOn h (by rw [serve_write h hi, he])]

/-- An effect of a unit of CORE while CORE runs. -/
@[simp] theorem whenLive_live {s : State} {f : State → State} (h : s.live = true) : s.whenLive f = f s := by
  simp [State.whenLive, h]

/-- An effect of a unit of the AON domain while it has power and the part is not shut down. -/
@[simp] theorem whenAon_up {s : State} {f : State → State} (h1 : s.pwr.vaon = true) (h2 : s.pwr.shut = false) :
    s.whenAon f = f s := by
  simp [State.whenAon, h1, h2]

/-- An effect of the AON domain while VAON is there. -/
@[simp] theorem whenVaon_on {s : State} {f : State → State} (h : s.pwr.vaon = true) : s.whenVaon f = f s := by
  simp [State.whenVaon, h]

/-- A frame that reaches a port of the part while CORE runs. -/
@[simp] theorem portIn_core {s : State} {i : Nat} {f : State → State} (hw : s.wakeHas i = true) (h : s.pwr.core = true) :
    s.portIn i f = f s := by
  simp [State.portIn, hw, h]

/-- A pending value that takes hold changes the register file and the pending values, and nothing else. -/
theorem applyPend_frame (s : State) (idx sub : Nat) : ∃ r q, s.applyPend idx sub = { s with reg := r, pend := q } := by
  unfold State.applyPend
  split
  · exact ⟨_, _, rfl⟩
  · exact ⟨_, _, rfl⟩

/-- A boundary changes the register file and the pending values, and nothing else. -/
theorem boundary_frame (s : State) (b : Boundary) : ∃ r q, s.boundary b = { s with reg := r, pend := q } := by
  unfold State.boundary
  generalize s.pend.filter (fun p => atBoundary b p.1) = l
  induction l generalizing s with
  | nil => exact ⟨_, _, rfl⟩
  | cons p l ih =>
    simp only [List.foldl_cons]
    obtain ⟨r, q, h⟩ := applyPend_frame s (p.1 / 256) (p.1 % 256)
    obtain ⟨r', q', h'⟩ := ih (s.applyPend (p.1 / 256) (p.1 % 256))
    rw [h', h]
    exact ⟨_, _, rfl⟩

/-- No time passes at a boundary. -/
@[simp] theorem boundary_now (s : State) (b : Boundary) : (s.boundary b).now = s.now := by
  obtain ⟨r, q, h⟩ := boundary_frame s b
  rw [h]

/-- The SUBTYPE of a segment frame is its first octet (R602). -/
theorem segParse_sub {p : Bytes} {f : SegIn} (h : segParse p = some f) : f.sub = byteAt 0 p := by
  unfold segParse at h
  simp only [Option.ite_none_left_eq_some, Option.some.injEq] at h
  obtain ⟨-, rfl⟩ := h
  rfl

/-- A segment frame that comes by 10BASE-T1S while the port listens. -/
theorem segRow_t1s {s s1 : State} {sub : Nat} {p : Bytes} {f : State → State} (hw : s.wakeHas 8 = true) (hc : s.pwr.core = true) (ht : s.t1sHears = true)
    (hb : byteAt 0 p = sub) (h1 : s.bump 0x4027 1 = s1) : s.segRow sub p false f = f s1 := by
  subst h1
  simp [State.segRow, State.t1sRow, portIn_core hw hc, ht, hb]

/-- A twin message that comes by the Wairil link while it is UP. -/
theorem segRow_wl {s : State} {sub : Nat} {p : Bytes} {f : State → State} (hp : s.wakeHas 9 = true) (hl : s.live = true)
    (hc : s.pwr.core = true) (hw : s.net.wl = 2) (hb : byteAt 0 p = sub) (hs : sub = 0x20 ∨ (0x28 ≤ sub ∧ sub ≤ 0x2E)) : s.segRow sub p true f = f s := by
  have h1 : (decide (sub = 0x20) || (decide (0x28 ≤ sub) && decide (sub ≤ 0x2E))) = true := by
    rcases hs with hs | ⟨h1, h2⟩
    · simp [hs]
    · simp [h1, h2]
  simp only [State.segRow, hb, ne_eq, not_true_eq_false, if_false, if_true, portIn_core hp hc, hl, hw, decide_true, h1, Bool.and_self]

end Sys2Proof.Machine
end

