-- ==== Sys2Proof/Laws/Engine.lean ====
section
/-! SUPPORT. What an engine's issued instruction leaves, said once for every operation. -/
namespace Sys2Proof.Machine

/-- What an issued word whose operation goes on leaves. -/
theorem issueWord_go {s : State} {n w o : Nat} {e e1 : Engine} {m : Mem} {op : EngOp} (h : Issues s n w o e)
    (ho : op e s.eng.mbx s.cyc = .go e1 m) : s.issueWord n w op = { s.issued n e1 with eng.mbx := m } := by
  obtain ⟨-, -, -, h4, h5, h6, h7, h8⟩ := h
  have h5' : ¬ e.codeLen < e.pc + 4 := by omega
  simp only [State.issueWord, State.issueOn, h4, h5', h6, h7, h8, if_false, Bool.false_eq_true, ho, State.issued]

/-- What an issued word whose operation branches leaves. -/
theorem issueWord_jump {s : State} {n w o a : Nat} {e e1 : Engine} {op : EngOp} (h : Issues s n w o e)
    (ho : op e s.eng.mbx s.cyc = .jump e1 a) : s.issueWord n w op = s.setEngine n { e1 with pc := a, pass := false } := by
  obtain ⟨-, -, -, h4, h5, h6, h7, h8⟩ := h
  have h5' : ¬ e.codeLen < e.pc + 4 := by omega
  simp only [State.issueWord, State.issueOn, h4, h5', h6, h7, h8, if_false, Bool.false_eq_true, ho]

/-- What an issued word whose operation traps leaves. -/
theorem issueWord_trap {s : State} {n w o c : Nat} {e : Engine} {op : EngOp} (h : Issues s n w o e)
    (ho : op e s.eng.mbx s.cyc = .trap c) : s.issueWord n w op = (s.setEngine n e).engTrap n c e.pc := by
  obtain ⟨-, -, -, h4, h5, h6, h7, h8⟩ := h
  have h5' : ¬ e.codeLen < e.pc + 4 := by omega
  simp only [State.issueWord, State.issueOn, h4, h5', h6, h7, h8, if_false, Bool.false_eq_true, ho]

/-- An engine's instruction takes place where it is issued. -/
theorem engStep_issues {s : State} {n w o : Nat} {e : Engine} {op : Nat → EngOp} (h : Issues s n w o e) :
    s.engStep n o op = s.issueWord n w (op w) := by
  obtain ⟨h1, h2, h3, -⟩ := h
  simp [State.engStep, h1, h2, h3]

/-- A command of an engine whose instruction is issued and goes on in its own state. -/
theorem issued_go {c : Instr} {s s0 : State} {t n w o : Nat} {e e1 : Engine} {op : Nat → EngOp}
    (hc : exec c s = .next (s.engRun t n fun s => s.engStep n o op)) (h0 : s.tick t = s0) (h : Issues s0 n w o e)
    (ho : op w e s0.eng.mbx s0.cyc = .go e1 s0.eng.mbx) : Issued c s s0 n (s0.issued n e1) := by
  refine ends_of_engRun hc h0 ?_
  rw [engStep_issues h, issueWord_go h ho]
  rfl

/-- Products that arrive change MLO, MHI and what is in flight, and nothing else. -/
theorem settle_frame (e : Engine) (c : Nat) : ∃ a b m, e.settle c = { e with mlo := a, mhi := b, mul := m } := by
  unfold Engine.settle
  have : ∀ (l : List (Nat × BitVec 64)) (e : Engine), ∃ a b,
      l.foldl (fun e m => { e with mlo := m.2.truncate 32, mhi := (m.2 >>> 32).truncate 32 }) e = { e with mlo := a, mhi := b } := by
    intro l
    induction l with
    | nil => intro e; exact ⟨_, _, rfl⟩
    | cons x l ih => intro e; obtain ⟨a, b, h⟩ := ih { e with mlo := x.2.truncate 32, mhi := (x.2 >>> 32).truncate 32 }; exact ⟨a, b, h⟩
  obtain ⟨a, b, h⟩ := this (e.mul.filter fun m => m.1 ≤ c) e
  exact ⟨a, b, e.mul.filter fun m => c < m.1, by simp only [h]⟩

@[simp] theorem settle_pc (e : Engine) (c : Nat) : (e.settle c).pc = e.pc := by
  obtain ⟨a, b, m, h⟩ := settle_frame e c
  rw [h]
@[simp] theorem settle_codeLen (e : Engine) (c : Nat) : (e.settle c).codeLen = e.codeLen := by
  obtain ⟨a, b, m, h⟩ := settle_frame e c
  rw [h]; rfl
@[simp] theorem settle_pred (e : Engine) (c p : Nat) : (e.settle c).pred p = e.pred p := by
  obtain ⟨a, b, m, h⟩ := settle_frame e c
  rw [h]; rfl

/-- An instruction that is issued executes. -/
theorem Issues.executes {s : State} {n w o : Nat} {e : Engine} (h : Issues s n w o e) : s.executes n w = true := by
  obtain ⟨-, -, -, h4, h5, h6, h7, h8⟩ := h
  subst h4
  simp only [settle_pc, settle_codeLen, settle_pred] at h5 h8
  simp [State.executes, h5, h6, h7, Engine.guard, h8]

end Sys2Proof.Machine
end

