-- ==== Sys2Proof/Laws/Mem.lean ====
section
/-! SUPPORT. Octet memories: every operation keeps the canonical form, and reads follow writes (R524, R525, R553). -/
namespace Sys2Proof.Machine

/-- The least address of a sorted memory is below what follows. -/
theorem memSorted_cons {c : Nat × BitVec 8} {m : Mem} :
    memSorted (c :: m) = true ↔ (∀ d ∈ m, c.1 < d.1) ∧ memSorted m = true := by
  induction m generalizing c with
  | nil => simp [memSorted]
  | cons d m ih =>
    simp only [memSorted, Bool.and_eq_true, decide_eq_true_eq]
    constructor
    · rintro ⟨h1, h2⟩
      refine ⟨?_, h2⟩
      intro e he
      rcases List.mem_cons.mp he with rfl | he
      · exact h1
      · exact Nat.lt_trans h1 ((ih.mp h2).1 e he)
    · rintro ⟨h1, h2⟩
      exact ⟨h1 d (by simp), h2⟩

theorem mem_memIns {m : Mem} {a : Nat} {x : BitVec 8} {c : Nat × BitVec 8} (h : c ∈ memIns m a x) : c = (a, x) ∨ c ∈ m := by
  induction m with
  | nil => simpa [memIns] using h
  | cons d m ih =>
    obtain ⟨k, v⟩ := d
    simp only [memIns] at h
    split at h
    · simpa using h
    · split at h
      · rcases List.mem_cons.mp h with h | h
        · exact .inl h
        · exact .inr (List.mem_cons_of_mem _ h)
      · rcases List.mem_cons.mp h with h | h
        · exact .inr (by simp [h])
        · rcases ih h with h | h
          · exact .inl h
          · exact .inr (List.mem_cons_of_mem _ h)

theorem mem_memDel {m : Mem} {a : Nat} {c : Nat × BitVec 8} (h : c ∈ memDel m a) : c ∈ m := by
  induction m with
  | nil => simp [memDel] at h
  | cons d m ih =>
    obtain ⟨k, v⟩ := d
    simp only [memDel] at h
    split at h
    · exact List.mem_cons_of_mem _ h
    · rcases List.mem_cons.mp h with h | h
      · simp [h]
      · exact List.mem_cons_of_mem _ (ih h)

theorem memIns_sorted {m : Mem} (h : memSorted m = true) (a : Nat) (x : BitVec 8) : memSorted (memIns m a x) = true := by
  induction m with
  | nil => rfl
  | cons d m ih =>
    obtain ⟨k, v⟩ := d
    have h' := memSorted_cons.mp h
    simp only [memIns]
    split
    · next hk =>
      refine memSorted_cons.mpr ⟨?_, h⟩
      intro e he
      rcases List.mem_cons.mp he with rfl | he
      · exact hk
      · exact Nat.lt_trans hk (h'.1 e he)
    · split
      · next hk => subst hk; exact memSorted_cons.mpr ⟨h'.1, h'.2⟩
      · next h1 h2 =>
        refine memSorted_cons.mpr ⟨?_, ih h'.2⟩
        intro e he
        rcases mem_memIns he with rfl | he
        · simp only; omega
        · exact h'.1 e he

theorem memDel_sorted {m : Mem} (h : memSorted m = true) (a : Nat) : memSorted (memDel m a) = true := by
  induction m with
  | nil => rfl
  | cons d m ih =>
    obtain ⟨k, v⟩ := d
    have h' := memSorted_cons.mp h
    simp only [memDel]
    split
    · exact h'.2
    · exact memSorted_cons.mpr ⟨fun e he => h'.1 e (mem_memDel he), ih h'.2⟩

/-- Writing one octet keeps the canonical form. -/
theorem memPut_wf {m : Mem} (h : Mem.wf m) (a : Nat) (x : BitVec 8) : Mem.wf (memPut m a x) := by
  obtain ⟨h1, h2⟩ := h
  simp only [List.all_eq_true, decide_eq_true_eq] at h2
  unfold memPut
  split
  · exact ⟨memDel_sorted h1 a, by simp only [List.all_eq_true, decide_eq_true_eq]; exact fun c hc => h2 c (mem_memDel hc)⟩
  · next hx =>
    refine ⟨memIns_sorted h1 a x, ?_⟩
    simp only [List.all_eq_true, decide_eq_true_eq]
    intro c hc
    rcases mem_memIns hc with rfl | hc
    · exact hx
    · exact h2 c hc

/-- Writing a string of octets keeps the canonical form. -/
theorem memWrite_wf {m : Mem} (h : Mem.wf m) (a : Nat) (bs : Bytes) : Mem.wf (memWrite m a bs) := by
  induction bs generalizing m a with
  | nil => exact h
  | cons b bs ih => exact ih (memPut_wf h a b) (a + 1)

theorem memGet_of_lt {m : Mem} {a : Nat} (h : ∀ c ∈ m, a < c.1) : memGet m a = 0 := by
  induction m with
  | nil => rfl
  | cons d m ih =>
    obtain ⟨k, v⟩ := d
    have := h (k, v) (by simp)
    simp only [memGet]
    rw [if_neg (by simp only at this; omega)]
    exact ih fun c hc => h c (List.mem_cons_of_mem _ hc)

theorem memGet_memIns (m : Mem) (a b : Nat) (x : BitVec 8) : memGet (memIns m a x) b = if a = b then x else memGet m b := by
  induction m with
  | nil => simp [memIns, memGet]
  | cons d m ih =>
    obtain ⟨k, v⟩ := d
    simp only [memIns]
    split
    · simp [memGet]
    · split
      · next h => subst h; simp only [memGet]; split <;> simp_all
      · simp only [memGet, ih]
        split
        · next h1 h2 h3 => subst h3; rw [if_neg h2]
        · rfl

theorem memGet_memDel {m : Mem} (h : memSorted m = true) (a b : Nat) : memGet (memDel m a) b = if a = b then 0 else memGet m b := by
  induction m with
  | nil => simp [memDel, memGet]
  | cons d m ih =>
    obtain ⟨k, v⟩ := d
    have h' := memSorted_cons.mp h
    simp only [memDel]
    split
    · next hk =>
      subst hk
      simp only [memGet]
      split
      · next hb => subst hb; exact memGet_of_lt h'.1
      · rfl
    · next hk =>
      simp only [memGet, ih h'.2]
      split
      · next hb => subst hb; rw [if_neg (Ne.symm hk)]
      · rfl

/-- A read after the write of one octet: the octet written there, and every other octet as before. -/
theorem memGet_memPut {m : Mem} (h : Mem.wf m) (a b : Nat) (x : BitVec 8) :
    memGet (memPut m a x) b = if a = b then x else memGet m b := by
  unfold memPut
  split
  · next hx => rw [memGet_memDel h.1, hx]
  · exact memGet_memIns m a b x

/-- A read of one octet after the write of a string. -/
theorem memGet_memWrite {m : Mem} (h : Mem.wf m) (a b : Nat) (bs : Bytes) :
    memGet (memWrite m a bs) b = if a ≤ b ∧ b < a + bs.length then bs.getD (b - a) 0 else memGet m b := by
  induction bs generalizing m a with
  | nil =>
    simp only [memWrite, List.length_nil, Nat.add_zero]
    rw [if_neg (by omega)]
  | cons x bs ih =>
    simp only [memWrite]
    rw [ih (memPut_wf h a x), memGet_memPut h]
    simp only [List.length_cons]
    by_cases hab : a = b
    · subst hab
      rw [if_neg (by omega), if_pos rfl, if_pos (by omega)]
      simp
    · by_cases hr : a + 1 ≤ b ∧ b < a + 1 + bs.length
      · rw [if_pos hr, if_pos (by omega)]
        have e : b - a = (b - (a + 1)) + 1 := by omega
        rw [e]
        simp
      · rw [if_neg hr, if_neg hab, if_neg (by omega)]

/-- Two canonical memories that read alike are the same data. -/
theorem mem_ext {m1 m2 : Mem} (h1 : Mem.wf m1) (h2 : Mem.wf m2) (h : ∀ a, memGet m1 a = memGet m2 a) : m1 = m2 := by
  induction m1 generalizing m2 with
  | nil =>
    cases m2 with
    | nil => rfl
    | cons d m2 =>
      obtain ⟨k, v⟩ := d
      have e := h k
      simp only [memGet, if_true] at e
      have hv := h2.2
      simp only [List.all_cons, Bool.and_eq_true, decide_eq_true_eq] at hv
      exact absurd e.symm hv.1
  | cons d m1 ih =>
    obtain ⟨k, v⟩ := d
    have s1 := memSorted_cons.mp h1.1
    have v1 := h1.2
    simp only [List.all_cons, Bool.and_eq_true, decide_eq_true_eq] at v1
    cases m2 with
    | nil =>
      have e := h k
      simp only [memGet, if_true] at e
      exact absurd e v1.1
    | cons d2 m2 =>
      obtain ⟨k2, v2⟩ := d2
      have s2 := memSorted_cons.mp h2.1
      have w2 := h2.2
      simp only [List.all_cons, Bool.and_eq_true, decide_eq_true_eq] at w2
      have hk : k = k2 := by
        rcases Nat.lt_trichotomy k k2 with hlt | heq | hgt
        · have e := h k
          rw [memGet_of_lt (m := (k2, v2) :: m2)] at e
          · simp only [memGet, if_true] at e
            exact absurd e v1.1
          · intro c hc
            rcases List.mem_cons.mp hc with rfl | hc
            · exact hlt
            · exact Nat.lt_trans hlt (s2.1 c hc)
        · exact heq
        · have e := h k2
          rw [memGet_of_lt (m := (k, v) :: m1)] at e
          · simp only [memGet, if_true] at e
            exact absurd e.symm w2.1
          · intro c hc
            rcases List.mem_cons.mp hc with rfl | hc
            · exact hgt
            · exact Nat.lt_trans hgt (s1.1 c hc)
      subst hk
      have hv : v = v2 := by
        have e := h k
        simpa [memGet] using e
      subst hv
      congr 1
      refine ih ⟨s1.2, v1.2⟩ ⟨s2.2, w2.2⟩ ?_
      intro a
      by_cases ha : k = a
      · subst ha
        rw [memGet_of_lt s1.1, memGet_of_lt s2.1]
      · have e := h a
        simpa [memGet, ha] using e

end Sys2Proof.Machine
end

