-- ==== Sys2Proof/Laws/EngineData.lean ====
section
/-! SUPPORT. The data memory of an engine: what leaves it, and every operation keeps its canonical form (R524). -/
namespace Sys2Proof.Machine

@[simp] theorem wr_data (e : Engine) (r : Nat) (v : Word32) : (e.wr r v).data = e.data := rfl
@[simp] theorem wake_data (e : Engine) (rd : Nat) (m : Word32) : (e.wake rd m).data = e.data := rfl
@[simp] theorem toHalt_data (e : Engine) (t : Nat) : (e.toHalt t).data = e.data := rfl
@[simp] theorem fromHalt_data (e : Engine) (t : Nat) : (e.fromHalt t).data = e.data := rfl
@[simp] theorem postInc_data (w : Nat) (e : Engine) : (postInc w e).data = e.data := rfl

@[simp] theorem rcStep_data (e : Engine) (k : Nat) : (e.rcStep k).data = e.data := by
  unfold Engine.rcStep; split <;> rfl

@[simp] theorem next_data (e : Engine) : e.next.data = e.data := by
  unfold Engine.next
  split
  · rfl
  · dsimp only
    split <;> exact rcStep_data e _

@[simp] theorem settle_data (e : Engine) (c : Nat) : (e.settle c).data = e.data := by
  unfold Engine.settle
  generalize e.mul.filter (fun m => m.1 ≤ c) = l
  show (l.foldl _ e).data = e.data
  induction l generalizing e with
  | nil => rfl
  | cons m l ih => exact ih _

theorem push_data {e e1 : Engine} {a : Nat} (h : e.push a = some e1) : e1.data = e.data := by
  unfold Engine.push at h
  split at h
  · cases h; rfl
  · split at h
    · cases h; rfl
    · cases h

/-- The images' data laid over a canonical memory is canonical. -/
theorem overlay_wf {α : Type} {l : List α} {m : Mem} {f : Mem → α → Mem} (hf : ∀ m i, Mem.wf m → Mem.wf (f m i)) (h : Mem.wf m) :
    Mem.wf (l.foldl f m) := by
  induction l generalizing m with
  | nil => exact h
  | cons i l ih => exact ih (hf m i h)

theorem nil_wf : Mem.wf [] := ⟨rfl, rfl⟩

theorem loadP_wf (s : State) (im : Image) {m : Mem} (h : Mem.wf m) : Mem.wf (s.loadP im m) := by
  unfold State.loadP
  refine overlay_wf (fun m i hm => ?_) h
  split
  · split
    · split
      · exact memWrite_wf hm _ _
      · exact hm
    · exact hm
  · exact hm

theorem idleData_wf (s : State) (im : Image) : Mem.wf (s.idleData im) :=
  loadP_wf s im (overlay_wf (fun _ _ hm => memWrite_wf hm _ _) nil_wf)

/-- What an instruction leaves is canonical. -/
def ResWf : ERes → Prop
  | .trap _ => True
  | .trapNext e _ => Mem.wf e.data
  | .go e m => Mem.wf e.data ∧ Mem.wf m
  | .jump e _ => Mem.wf e.data

/-- An instruction keeps the data memory and the mailbox canonical. -/
def OpWf (op : EngOp) : Prop := ∀ e m c, Mem.wf e.data → Mem.wf m → ResWf (op e m c)

theorem jumpTo_wf {e : Engine} (a : Nat) (h : Mem.wf e.data) : ResWf (jumpTo e a) := by
  unfold jumpTo; split
  · exact trivial
  · exact h

theorem opNop_wf (w : Nat) : OpWf (opNop w) := fun _ _ _ h hm => ⟨h, hm⟩
theorem opSet_wf (rd : Nat) (f : Engine → Word32) : OpWf (opSet rd f) := fun _ _ _ h hm => ⟨h, hm⟩
theorem opPred_wf (pd : Nat) (f : Engine → Bool) : OpWf (opPred pd f) := fun _ _ _ h hm => ⟨h, hm⟩
theorem opMul_wf (f : Engine → BitVec 64) : OpWf (opMul f) := fun _ _ _ h hm => ⟨h, hm⟩
theorem opStop_wf : OpWf opStop := fun _ _ _ h hm => ⟨h, hm⟩

theorem opRpt_wf (f : Engine → Nat) : OpWf (opRpt f) := by
  intro e m c h hm
  unfold opRpt
  dsimp only
  split
  · split <;> exact h
  · exact h

theorem opLoad_wf (rd n : Nat) (f : Engine → Word32) {p : Engine → Engine} (hp : ∀ e, (p e).data = e.data) : OpWf (opLoad rd n f p) := by
  intro e m c h hm
  unfold opLoad
  split
  · exact trivial
  · exact ⟨by rw [wr_data, hp]; exact h, hm⟩
  · exact ⟨by rw [wr_data, hp]; exact h, hm⟩

theorem opStore_wf (rs n : Nat) (f : Engine → Word32) {p : Engine → Engine} (hp : ∀ e, (p e).data = e.data) : OpWf (opStore rs n f p) := by
  intro e m c h hm
  unfold opStore
  dsimp only
  split
  · exact trivial
  · exact ⟨by rw [hp]; exact memWrite_wf h _ _, hm⟩
  · exact ⟨by rw [hp]; exact h, memWrite_wf hm _ _⟩

theorem opMfs_wf (rd sr : Nat) : OpWf (opMfs rd sr) := by
  intro e m c h hm
  refine ⟨?_, hm⟩
  rw [wr_data]
  split <;> exact h

theorem opMts_wf (sr ra : Nat) : OpWf (opMts sr ra) := by
  intro e m c h hm
  unfold opMts
  dsimp only
  split <;> first | exact ⟨h, hm⟩ | exact trivial

theorem opWfe_wf (now rd ra : Nat) : OpWf (opWfe now rd ra) := by
  intro e m c h hm
  unfold opWfe
  dsimp only
  split <;> exact ⟨h, hm⟩

theorem opWaitt_wf (now rd ra rb : Nat) : OpWf (opWaitt now rd ra rb) := by
  intro e m c h hm
  unfold opWaitt
  dsimp only
  split
  · exact ⟨h, hm⟩
  · split <;> exact ⟨h, hm⟩

theorem opCall_wf (f : Engine → Option Nat) : OpWf (opCall f) := by
  intro e m c h hm
  unfold opCall
  split
  · exact trivial
  · split
    · exact trivial
    · exact trivial
    · exact trivial
    · split
      · next hp =>
        show Mem.wf _
        rw [push_data hp]
        exact h
      · exact trivial

theorem opRet_wf : OpWf opRet := by
  intro e m c h hm
  unfold opRet
  split
  · exact trivial
  · exact jumpTo_wf _ h

theorem opJr_wf (w : Nat) : OpWf (opJr w) := fun _ _ _ h _ => jumpTo_wf _ h

theorem opBr_wf (w : Nat) : OpWf (opBr w) := by
  intro e m c h hm
  unfold opBr
  split
  · exact jumpTo_wf _ h
  · exact trivial

theorem opDict_wf (k w : Nat) : OpWf (opDict k w) := by
  intro e m c h hm
  unfold opDict
  dsimp only
  repeat' split
  all_goals first | exact trivial | exact ⟨h, hm⟩

/-- Every instruction of the set keeps the memories canonical. -/
theorem engOp_wf (now w : Nat) : OpWf (engOp now w) := by
  unfold engOp
  split <;> first
    | exact opSet_wf _ _ | exact opPred_wf _ _ | exact opMul_wf _ | exact opLoad_wf _ _ _ fun _ => rfl
    | exact opStore_wf _ _ _ fun _ => rfl | exact opDict_wf _ _ | exact opBr_wf _ | exact opCall_wf _ | exact opRet_wf
    | exact opJr_wf _ | exact opRpt_wf _ | exact opMfs_wf _ _ | exact opMts_wf _ _ | exact opWfe_wf _ _ _ | exact opWaitt_wf _ _ _ _
    | exact opStop_wf | exact opNop_wf _

theorem restore_wf {e : Engine} (h : Mem.wf e.data) : Mem.wf e.restore.data := by
  unfold Engine.restore
  split
  · exact h
  · exact overlay_wf (fun _ _ hm => memWrite_wf hm _ _) h

end Sys2Proof.Machine
end

