-- ==== Sys2Proof/Laws/Interlock.lean ====
section
/-! SUPPORT. The interlock of the release balls is kept by every change of a ball and of a dead time (R240 to R242). -/
namespace Sys2Proof.Machine

theorem groupA_false {x : Gate} {grp : Nat} :
    x.groupA grp = false ↔ ∀ i b, x.a[i]? = some b → gateGroup i = grp → b.high = false := by
  unfold Gate.groupA
  rw [List.any_eq_false]
  constructor
  · intro h i b hi hg
    have hm : (b, i) ∈ x.a.zipIdx := List.mem_zipIdx_iff_getElem?.mpr hi
    have := h (b, i) hm
    simpa [hg] using this
  · intro h p hp
    have hi := List.mem_zipIdx_iff_getElem?.mp hp
    simp only [Bool.and_eq_true, decide_eq_true_eq, not_and, Bool.not_eq_true]
    intro hg
    exact h p.2 p.1 hi hg

theorem putAt_getElem? {α : Type} (l : List α) (i j : Nat) (v b : α) (h : (putAt l i v)[j]? = some b) :
    (j = i ∧ b = v) ∨ (j ≠ i ∧ l[j]? = some b) := by
  unfold putAt at h
  by_cases hij : i = j
  · subst hij
    rw [List.getElem?_set_self'] at h
    cases hl : l[i]? with
    | none => rw [hl] at h; simp at h
    | some c => rw [hl] at h; simp at h; exact .inl ⟨rfl, h.symm⟩
  · rw [List.getElem?_set_ne hij] at h
    exact .inr ⟨Ne.symm hij, h⟩

theorem putAt_getD {α : Type} (l : List α) (i j : Nat) (v d : α) (h : i ≠ j) : (putAt l i v).getD j d = l.getD j d := by
  unfold putAt
  rw [List.getD_eq_getElem?_getD, List.getElem?_set_ne h, ← List.getD_eq_getElem?_getD]

theorem putAt_getD_self {α : Type} (l : List α) (i : Nat) (v d : α) : (putAt l i v).getD i d = v ∨ (putAt l i v).getD i d = d := by
  unfold putAt
  rw [List.getD_eq_getElem?_getD, List.getElem?_set_self']
  cases l[i]? <;> simp

/-- A B ball falls. -/
theorem Gate.Interlocked.lowB {x : Gate} (h : x.Interlocked) (grp t : Nat) :
    Gate.Interlocked { x with b := putAt x.b (grp + 1) ⟨false, t⟩ } := by
  have hb : ∀ k, ((putAt x.b (grp + 1) ⟨false, t⟩).getD k ⟨false, 0⟩ : Ball).high = true → (x.b.getD k ⟨false, 0⟩).high = true := by
    intro k hk
    by_cases hg : grp + 1 = k
    · subst hg
      rcases putAt_getD_self x.b (grp + 1) ⟨false, t⟩ ⟨false, 0⟩ with e | e <;> rw [e] at hk <;> cases hk
    · rwa [putAt_getD _ _ _ _ _ hg] at hk
  have hl : ∀ k, (x.b.getD k ⟨false, 0⟩).high = false → ((putAt x.b (grp + 1) ⟨false, t⟩).getD k ⟨false, 0⟩ : Ball).high = false := by
    intro k hk
    rw [Bool.eq_false_iff] at *
    exact fun h2 => hk (hb k h2)
  refine ⟨hl 0 h.1, fun g => ⟨fun hh => (h.2 g).1 (hb _ hh), fun d hd => ?_⟩⟩
  obtain ⟨h1, h2, h3⟩ := (h.2 g).2 d hd
  exact ⟨hl _ h1, h2, h3⟩

/-- A balls fall: every A ball that is high afterwards was high before. -/
theorem Gate.Interlocked.lowA {x : Gate} (h : x.Interlocked) (a : List Ball)
    (ha : ∀ (i : Nat) (b : Ball), a[i]? = some b → b.high = true → ∃ b' : Ball, x.a[i]? = some b' ∧ b'.high = true) : Gate.Interlocked { x with a := a } := by
  have hg : ∀ grp, x.groupA grp = false → Gate.groupA { x with a := a } grp = false := by
    intro grp hx
    rw [groupA_false] at *
    intro i b hi hgr
    rw [Bool.eq_false_iff]
    intro hh
    obtain ⟨b', hb', hh'⟩ := ha i b hi hh
    have := hx i b' hb' hgr
    rw [this] at hh'
    cases hh'
  refine ⟨h.1, fun g => ⟨fun hh => hg g ((h.2 g).1 hh), fun d hd => ?_⟩⟩
  obtain ⟨h1, h2, h3⟩ := (h.2 g).2 d hd
  exact ⟨h1, hg g h2, h3⟩

/-- An A ball rises where the group's B ball is low and no dead time runs. -/
theorem Gate.Interlocked.riseA {x : Gate} (h : x.Interlocked) (g t : Nat) (hb : (x.bBall (gateGroup g)).high = false)
    (hd : x.deadOf (gateGroup g) = none) : Gate.Interlocked { x with a := putAt x.a g ⟨true, t⟩ } := by
  have hg : ∀ grp, grp ≠ gateGroup g → x.groupA grp = false → Gate.groupA { x with a := putAt x.a g ⟨true, t⟩ } grp = false := by
    intro grp hne hx
    rw [groupA_false] at *
    intro i b hi hgr
    rcases putAt_getElem? _ _ _ _ _ hi with ⟨e, -⟩ | ⟨-, e⟩
    · subst e; exact absurd hgr.symm hne
    · exact hx i b e hgr
  refine ⟨h.1, fun grp => ?_⟩
  by_cases he : grp = gateGroup g
  · subst he
    refine ⟨fun hh => ?_, fun d hdd => ?_⟩
    · exact absurd (hb.symm.trans hh) (by decide)
    · exact absurd (hd.symm.trans hdd) (by simp)
  · refine ⟨fun hh => hg grp he ((h.2 grp).1 hh), fun d hdd => ?_⟩
    obtain ⟨h1, h2, h3⟩ := (h.2 grp).2 d hdd
    exact ⟨h1, hg grp he h2, h3⟩

/-- The B ball of a group rises where its A balls are low and no dead time runs. -/
theorem Gate.Interlocked.riseB {x : Gate} (h : x.Interlocked) (grp t : Nat) (ha : x.groupA grp = false) (hd : x.deadOf grp = none) :
    Gate.Interlocked { x with b := putAt x.b (grp + 1) ⟨true, t⟩ } := by
  refine ⟨?_, fun g => ?_⟩
  · rw [putAt_getD _ _ _ _ _ (by omega)]; exact h.1
  · by_cases he : g = grp
    · subst he
      exact ⟨fun _ => ha, fun d hdd => absurd (hd.symm.trans hdd) (by simp)⟩
    · have e : Gate.bBall { x with b := putAt x.b (grp + 1) ⟨true, t⟩ } g = x.bBall g := putAt_getD _ _ _ _ _ (by omega)
      exact ⟨fun hh => (h.2 g).1 (e ▸ hh), fun d hdd => e ▸ (h.2 g).2 d hdd⟩

/-- A dead time begins or changes where both balls of the group are low. -/
theorem Gate.Interlocked.setDead {x : Gate} (h : x.Interlocked) (grp : Nat) (d : Dead) (hb : (x.bBall grp).high = false)
    (ha : x.groupA grp = false) (hd : ∀ g ∈ d.a, gateGroup g = grp) : Gate.Interlocked { x with dead := putAt x.dead grp (some d) } := by
  refine ⟨h.1, fun g => ⟨(h.2 g).1, fun d' hd' => ?_⟩⟩
  by_cases he : grp = g
  · subst he
    rcases putAt_getD_self x.dead grp (some d) none with e | e
    · have : d' = d := by
        have h1 : (putAt x.dead grp (some d)).getD grp none = some d' := hd'
        rw [e] at h1
        exact (Option.some.inj h1).symm
      subst this
      exact ⟨hb, ha, hd⟩
    · have h1 : (putAt x.dead grp (some d)).getD grp none = some d' := hd'
      rw [e] at h1
      cases h1
  · have h1 : (putAt x.dead grp (some d)).getD g none = some d' := hd'
    rw [putAt_getD _ _ _ _ _ he] at h1
    exact (h.2 g).2 d' h1

/-- A dead time ends. -/
theorem Gate.Interlocked.endDead {x : Gate} (h : x.Interlocked) (grp : Nat) : Gate.Interlocked { x with dead := putAt x.dead grp none } := by
  refine ⟨h.1, fun g => ⟨(h.2 g).1, fun d' hd' => ?_⟩⟩
  have h1 : (putAt x.dead grp none).getD g none = some d' := hd'
  by_cases he : grp = g
  · subst he
    rcases putAt_getD_self x.dead grp none none with e | e <;> rw [e] at h1 <;> cases h1
  · rw [putAt_getD _ _ _ _ _ he] at h1
    exact (h.2 g).2 d' h1

/-- Every ball low and no dead time. -/
theorem Gate.Interlocked.closed {x : Gate} (ha : ∀ b ∈ x.a, b.high = false) (hb : ∀ b ∈ x.b, b.high = false)
    (hd : ∀ g, x.deadOf g = none) : x.Interlocked := by
  have hl : ∀ k, (x.b.getD k ⟨false, 0⟩).high = false := by
    intro k
    rw [List.getD_eq_getElem?_getD]
    cases e : x.b[k]? with
    | none => rfl
    | some b => exact hb b (List.mem_of_getElem? e)
  have hg : ∀ grp, x.groupA grp = false := by
    intro grp
    rw [groupA_false]
    intro i b hi _
    exact ha b (List.mem_of_getElem? hi)
  exact ⟨hl 0, fun g => ⟨fun _ => hg g, fun d hdd => absurd ((hd g).symm.trans hdd) (by simp)⟩⟩

/-- A balls fall, each by itself. -/
theorem Gate.Interlocked.lowMap {x : Gate} (h : x.Interlocked) (f : Ball × Nat → Ball) (hf : ∀ p, (f p).high = true → p.1.high = true) :
    Gate.Interlocked { x with a := x.a.zipIdx.map f } := by
  refine h.lowA _ fun i b hi hb => ?_
  rw [List.getElem?_map, List.getElem?_zipIdx] at hi
  cases e : x.a[i]? with
  | none => rw [e] at hi; cases hi
  | some b' =>
    rw [e] at hi
    cases hi
    exact ⟨b', rfl, hf _ hb⟩

/-- One A ball falls. -/
theorem Gate.Interlocked.lowOne {x : Gate} (h : x.Interlocked) (n t : Nat) : Gate.Interlocked { x with a := putAt x.a n ⟨false, t⟩ } := by
  refine h.lowA _ fun i b hi hb => ?_
  rcases putAt_getElem? _ _ _ _ _ hi with ⟨-, e⟩ | ⟨-, e⟩
  · subst e; cases hb
  · exact ⟨b, e, hb⟩

/-- A group's A balls once they have fallen. -/
theorem groupA_cut (x : Gate) (grp t : Nat) :
    Gate.groupA { x with a := x.a.zipIdx.map fun p => if gateGroup p.2 = grp then ⟨false, t⟩ else p.1 } grp = false := by
  rw [groupA_false]
  intro i b hi hg
  rw [List.getElem?_map, List.getElem?_zipIdx] at hi
  cases e : x.a[i]? with
  | none => rw [e] at hi; cases hi
  | some b' =>
    rw [e] at hi
    cases hi
    simp [hg]

theorem bBall_low (x : Gate) (grp t : Nat) : (Gate.bBall { x with b := putAt x.b (grp + 1) ⟨false, t⟩ } grp).high = false := by
  unfold Gate.bBall
  rcases putAt_getD_self x.b (grp + 1) ⟨false, t⟩ ⟨false, 0⟩ with e | e <;> rw [e]

theorem deadOf_none (x : Gate) (grp : Nat) : Gate.deadOf { x with dead := putAt x.dead grp none } grp = none := by
  unfold Gate.deadOf
  rcases putAt_getD_self x.dead grp none none with e | e <;> exact e

theorem interlocked_iff {x y : Gate} (ha : x.a = y.a) (hb : x.b = y.b) (hd : x.dead = y.dead) : x.Interlocked ↔ y.Interlocked := by
  unfold Gate.Interlocked Gate.bBall Gate.groupA Gate.deadOf
  rw [ha, hb, hd]

theorem interlocked_reset : Gate.reset.Interlocked := by
  refine Gate.Interlocked.closed ?_ ?_ fun g => ?_
  · intro b hb; obtain rfl := List.eq_of_mem_replicate hb; rfl
  · intro b hb; obtain rfl := List.eq_of_mem_replicate hb; rfl
  · match g with
    | 0 => rfl
    | 1 => rfl
    | _ + 2 => rfl

end Sys2Proof.Machine
end

