-- ==== Sys2Proof/Laws/Reg.lean ====
section
/-! SUPPORT. The register file: every operation keeps the canonical form, and reads follow writes (R33, R39). -/
namespace Sys2Proof.Machine

/-- The least key of a sorted list is below what follows. -/
theorem alSorted_cons {c : Nat × Nat} {l : List (Nat × Nat)} : alSorted (c :: l) = true ↔ (∀ d ∈ l, c.1 < d.1) ∧ alSorted l = true := by
  induction l generalizing c with
  | nil => simp [alSorted]
  | cons d l ih =>
    simp only [alSorted, Bool.and_eq_true, decide_eq_true_eq]
    constructor
    · rintro ⟨h1, h2⟩
      refine ⟨?_, h2⟩
      intro e he
      rcases List.mem_cons.mp he with rfl | he
      · exact h1
      · exact Nat.lt_trans h1 ((ih.mp h2).1 e he)
    · rintro ⟨h1, h2⟩
      exact ⟨h1 d (by simp), h2⟩

theorem mem_alPut {l : List (Nat × Nat)} {x v : Nat} {c : Nat × Nat} (h : c ∈ alPut l x v) : c = (x, v) ∨ c ∈ l := by
  induction l with
  | nil => simpa [alPut] using h
  | cons d l ih =>
    obtain ⟨k, w⟩ := d
    simp only [alPut] at h
    split at h
    · simpa using h
    · split at h
      · rcases List.mem_cons.mp h with h | h
        · exact .inl h
        · exact .inr (List.mem_cons_of_mem _ h)
      · rcases List.mem_cons.mp h with h | h
        · exact .inr (by simp [h])
        · rcases ih h with h | h
          · exact .inl h
          · exact .inr (List.mem_cons_of_mem _ h)

theorem mem_alDel {l : List (Nat × Nat)} {x : Nat} {c : Nat × Nat} (h : c ∈ alDel l x) : c ∈ l := by
  induction l with
  | nil => simp [alDel] at h
  | cons d l ih =>
    obtain ⟨k, w⟩ := d
    simp only [alDel] at h
    split at h
    · exact List.mem_cons_of_mem _ h
    · rcases List.mem_cons.mp h with h | h
      · simp [h]
      · exact List.mem_cons_of_mem _ (ih h)

/-- Writing a value keeps the keys rising. -/
theorem alPut_sorted {l : List (Nat × Nat)} (h : alSorted l = true) (x v : Nat) : alSorted (alPut l x v) = true := by
  induction l with
  | nil => rfl
  | cons d l ih =>
    obtain ⟨k, w⟩ := d
    have h' := alSorted_cons.mp h
    simp only [alPut]
    split
    · next hk =>
      refine alSorted_cons.mpr ⟨?_, h⟩
      intro e he
      rcases List.mem_cons.mp he with rfl | he
      · exact hk
      · exact Nat.lt_trans hk (h'.1 e he)
    · split
      · next hk => subst hk; exact alSorted_cons.mpr ⟨h'.1, h'.2⟩
      · next h1 h2 =>
        refine alSorted_cons.mpr ⟨?_, ih h'.2⟩
        intro e he
        rcases mem_alPut he with rfl | he
        · simp only; omega
        · exact h'.1 e he

/-- Removing a value keeps the keys rising. -/
theorem alDel_sorted {l : List (Nat × Nat)} (h : alSorted l = true) (x : Nat) : alSorted (alDel l x) = true := by
  induction l with
  | nil => rfl
  | cons d l ih =>
    obtain ⟨k, w⟩ := d
    have h' := alSorted_cons.mp h
    simp only [alDel]
    split
    · exact h'.2
    · exact alSorted_cons.mpr ⟨fun e he => h'.1 e (mem_alDel he), ih h'.2⟩

/-- A part of a sorted list is sorted. -/
theorem alFilter_sorted {l : List (Nat × Nat)} (h : alSorted l = true) (p : Nat × Nat → Bool) : alSorted (l.filter p) = true := by
  induction l with
  | nil => rfl
  | cons d l ih =>
    have h' := alSorted_cons.mp h
    simp only [List.filter_cons]
    split
    · exact alSorted_cons.mpr ⟨fun e he => h'.1 e (List.mem_filter.mp he).1, ih h'.2⟩
    · exact ih h'.2

theorem alGet_of_lt {l : List (Nat × Nat)} {x : Nat} (h : ∀ c ∈ l, x < c.1) : alGet l x = none := by
  induction l with
  | nil => rfl
  | cons d l ih =>
    obtain ⟨k, v⟩ := d
    have := h (k, v) (by simp)
    simp only [alGet]
    rw [if_neg (by simp only at this; omega)]
    exact ih fun c hc => h c (List.mem_cons_of_mem _ hc)

theorem alGet_alPut (l : List (Nat × Nat)) (x y v : Nat) : alGet (alPut l x v) y = if x = y then some v else alGet l y := by
  induction l with
  | nil => simp [alPut, alGet]
  | cons d l ih =>
    obtain ⟨k, w⟩ := d
    simp only [alPut]
    split
    · simp [alGet]
    · split
      · next h => subst h; simp only [alGet]; split <;> simp_all
      · simp only [alGet, ih]
        split
        · next h1 h2 h3 => subst h3; rw [if_neg h2]
        · rfl

theorem alGet_alDel {l : List (Nat × Nat)} (h : alSorted l = true) (x y : Nat) :
    alGet (alDel l x) y = if x = y then none else alGet l y := by
  induction l with
  | nil => simp [alDel, alGet]
  | cons d l ih =>
    obtain ⟨k, v⟩ := d
    have h' := alSorted_cons.mp h
    simp only [alDel]
    split
    · next hk =>
      subst hk
      simp only [alGet]
      split
      · next hb => subst hb; exact alGet_of_lt h'.1
      · rfl
    · next hk =>
      simp only [alGet, ih h'.2]
      split
      · next hb => subst hb; rw [if_neg (Ne.symm hk)]
      · rfl

theorem okey_inj {i j a b : Nat} (ha : a < 256) (hb : b < 256) : okey i a = okey j b ↔ i = j ∧ a = b := by
  unfold okey; omega

/-- The row of an object is a row of the table, and covers the object's index and subindex. -/
theorem findObj_some {idx sub : Nat} {o : ObjDef} (h : findObj idx sub = some o) :
    o ∈ objTable ∧ o.idx ≤ idx ∧ idx < o.idx + o.count ∧ o.sub0 ≤ sub ∧ sub ≤ o.sub1 := by
  have h1 := List.find?_some h
  simp only [Bool.and_eq_true, decide_eq_true_eq, and_assoc] at h1
  exact ⟨List.mem_of_find?_eq_some h, h1⟩

/-- A default depends on the fuses, the segment, the node and the role, and on nothing else. -/
theorem dfltOf_congr {s u : State} (h1 : u.fuse = s.fuse) (h2 : u.seg.segNo = s.seg.segNo) (h3 : u.seg.node = s.seg.node)
    (h4 : u.seg.role = s.seg.role) (idx sub : Nat) : dfltOf u idx sub = dfltOf s idx sub := by
  unfold dfltOf specialDflt
  rw [h1, h2, h3, h4]

/-- What an object reads depends on the register file and on its default. -/
theorem g_congr {s u : State} (h : u.reg = s.reg) (h1 : u.fuse = s.fuse) (h2 : u.seg.segNo = s.seg.segNo) (h3 : u.seg.node = s.seg.node)
    (h4 : u.seg.role = s.seg.role) (idx sub : Nat) : u.g idx sub = s.g idx sub := by
  unfold State.g
  rw [h, dfltOf_congr h1 h2 h3 h4]

/-- A value written is read back. -/
theorem put_g_same {s : State} (h : RegWf s) (idx sub v : Nat) : (s.put idx sub v).g idx sub = v := by
  have hd : dfltOf (s.put idx sub v) idx sub = dfltOf s idx sub := rfl
  unfold State.g
  rw [hd]
  simp only [State.put]
  split
  · next hv =>
    simp only [Bool.and_eq_true, decide_eq_true_eq] at hv
    rw [alGet_alDel h.1]; simp [hv.1]
  · rw [alGet_alPut]; simp

/-- A write leaves every other register as it was. -/
theorem put_g_other {s : State} (h : RegWf s) {idx sub idx' sub' : Nat} (v : Nat) (hne : okey idx sub ≠ okey idx' sub') :
    (s.put idx sub v).g idx' sub' = s.g idx' sub' := by
  have hd : dfltOf (s.put idx sub v) idx' sub' = dfltOf s idx' sub' := rfl
  unfold State.g
  rw [hd]
  simp only [State.put]
  split
  · rw [alGet_alDel h.1, if_neg hne]
  · rw [alGet_alPut, if_neg hne]

/-- Writing a register keeps the canonical form. -/
theorem put_regWf {s : State} (h : RegWf s) (idx sub v : Nat) : RegWf (s.put idx sub v) := by
  refine ⟨?_, h.2⟩
  simp only [State.put]
  split
  · exact alDel_sorted h.1 _
  · exact alPut_sorted h.1 _ _

/-- A pending value that takes hold keeps the canonical form. -/
theorem applyPend_regWf {s : State} (h : RegWf s) (idx sub : Nat) : RegWf (s.applyPend idx sub) := by
  unfold State.applyPend
  split
  · exact h
  · exact ⟨(put_regWf h idx sub _).1, alDel_sorted h.2 _⟩

end Sys2Proof.Machine
end

