-- ==== Sys2Proof/Laws/Kept.lean ====
section
/-! SUPPORT. What every effect keeps, as one relation between a state and the state after: the fuses, the queue, time's direction, the
canonical forms and the interlock. It is reflexive and transitive, so an effect keeps what its parts keep. -/
namespace Sys2Proof.Machine

/-- The state `s'` keeps what every command keeps of `s`. -/
structure Kept (s s' : State) : Prop where
  fuse : s'.fuse = s.fuse
  pending : s'.pending = s.pending
  now : s.now ≤ s'.now
  canon : Canonical s → Canonical s'
  lock : s.gate.Interlocked → s'.gate.Interlocked

theorem Kept.refl (s : State) : Kept s s := ⟨rfl, rfl, Nat.le_refl _, id, id⟩

theorem Kept.trans {a b c : State} (h1 : Kept a b) (h2 : Kept b c) : Kept a c :=
  ⟨h2.fuse.trans h1.fuse, h2.pending.trans h1.pending, Nat.le_trans h1.now h2.now, fun h => h2.canon (h1.canon h),
    fun h => h2.lock (h1.lock h)⟩

/-- An update of parts that no kept property is about. -/
theorem Kept.upd {a x : State} {dict log keys cx rng acc ts gate seg twin pwr tmr bg eng uwb rfc ble cap lf nfc tag net time tpins}
    (h : Kept a x) (h1 : gate.a = x.gate.a) (h2 : gate.b = x.gate.b) (h3 : gate.dead = x.gate.dead) (h4 : eng.mbx = x.eng.mbx)
    (h5 : eng.es = x.eng.es) :
    Kept a (State.mk x.now x.pending x.fuse x.reg x.pend dict log keys cx rng acc ts gate seg twin pwr tmr bg eng uwb rfc ble cap lf nfc
      tag net time tpins) := by
  refine h.trans ⟨rfl, rfl, Nat.le_refl _, ?_, ?_⟩
  · rintro ⟨hr, hm⟩
    refine ⟨hr, ?_⟩
    unfold MemoriesWf
    rw [h4, h5]
    exact hm
  · unfold Gate.Interlocked Gate.bBall Gate.groupA Gate.deadOf
    rw [h1, h2, h3]
    exact id

theorem Kept.ite {a x y : State} {c : Prop} [Decidable c] (hx : Kept a x) (hy : Kept a y) : Kept a (if c then x else y) := by
  split <;> assumption

theorem Kept.foldl {α : Type} {a x : State} {f : State → α → State} {l : List α} (hf : ∀ s i, Kept s (f s i)) (h : Kept a x) :
    Kept a (l.foldl f x) := by
  induction l generalizing x with
  | nil => exact h
  | cons i l ih => exact ih (h.trans (hf x i))

theorem Kept.foldl_snd {α β : Type} {a : State} {x : β × State} {f : β × State → α → β × State} {l : List α}
    (hf : ∀ s i, Kept s.2 (f s i).2) (h : Kept a x.2) : Kept a (l.foldl f x).2 := by
  induction l generalizing x with
  | nil => exact h
  | cons i l ih => exact ih (h.trans (hf x i))

/-- An update of the register file that keeps its form. -/
theorem Kept.updReg {a x : State} {r p} (h : Kept a x) (h1 : RegWf x → RegWf { x with reg := r, pend := p }) :
    Kept a { x with reg := r, pend := p } :=
  h.trans ⟨rfl, rfl, Nat.le_refl _, fun hc => ⟨h1 hc.1, hc.2⟩, id⟩

/-- The data memory of an engine is canonical where every engine's is. -/
theorem engine_wf {x : State} (h : ∀ e ∈ x.eng.es, Mem.wf e.data) (n : Nat) : Mem.wf (x.engine n).data := by
  unfold State.engine
  rw [List.getD_eq_getElem?_getD]
  cases hn : x.eng.es[n]? with
  | none => exact ⟨rfl, rfl⟩
  | some e => exact h e (List.mem_of_getElem? hn)

/-- An update of one engine that keeps the form of its data memory. -/
theorem Kept.updEng {a x : State} {n : Nat} {e : Engine} (h : Kept a x) (h1 : Canonical a → Canonical x → Mem.wf e.data) :
    Kept a (x.setEngine n e) := by
  refine ⟨h.fuse, h.pending, h.now, fun ha => ?_, h.lock⟩
  have hx := h.canon ha
  refine ⟨hx.1, hx.2.1, ?_⟩
  intro e' he'
  rcases List.mem_or_eq_of_mem_set he' with h2 | h2
  · exact hx.2.2 e' h2
  · exact h2 ▸ h1 ha hx

/-- An update of the engines that keeps the form of every memory. -/
theorem Kept.updEngs {a x : State} {eng : Eng} (h : Kept a x)
    (h1 : Canonical x → Mem.wf eng.mbx ∧ ∀ e ∈ eng.es, Mem.wf e.data) : Kept a { x with eng := eng } :=
  h.trans ⟨rfl, rfl, Nat.le_refl _, fun hc => ⟨hc.1, h1 hc⟩, id⟩

/-- An update of the release balls that keeps the interlock. -/
theorem Kept.updGate {a x : State} {gate : Gate} (h : Kept a x) (h1 : x.gate.Interlocked → gate.Interlocked) :
    Kept a { x with gate := gate } :=
  h.trans ⟨rfl, rfl, Nat.le_refl _, fun hc => ⟨hc.1, hc.2⟩, h1⟩

theorem Kept.ite_snd {β : Type} {a : State} {x y : β × State} {c : Prop} [Decidable c] (hx : Kept a x.2) (hy : Kept a y.2) :
    Kept a (if c then x else y).2 := by
  split <;> assumption

/-- An update of the time that does not run back. -/
theorem Kept.updNow {a x : State} {n : Nat} (h : Kept a x) (h1 : x.now ≤ n) : Kept a { x with now := n } :=
  h.trans ⟨rfl, rfl, h1, fun hc => ⟨hc.1, hc.2⟩, id⟩

theorem wf_modAt {es : List Engine} (h : ∀ e ∈ es, Mem.wf e.data) {n : Nat} {f : Engine → Engine}
    (hf : ∀ e, Mem.wf e.data → Mem.wf (f e).data) : ∀ e ∈ modAt es n f, Mem.wf e.data := by
  intro e he
  obtain ⟨i, hi, rfl⟩ := List.mem_iff_getElem.mp he
  have hl : i < es.length := by simpa [modAt] using hi
  have h1 : (modAt es n f)[i] = if n = i then f es[i] else es[i] := by simp [modAt, List.getElem_modify]
  rw [h1]
  split
  · exact hf _ (h _ (List.getElem_mem hl))
  · exact h _ (List.getElem_mem hl)

theorem wf_map {es : List Engine} (h : ∀ e ∈ es, Mem.wf e.data) {f : Engine → Engine}
    (hf : ∀ e, Mem.wf e.data → Mem.wf (f e).data) : ∀ e ∈ es.map f, Mem.wf e.data := by
  intro e he
  obtain ⟨e', h', rfl⟩ := List.mem_map.mp he
  exact hf e' (h e' h')

/-- `Kept` but for the interlock, which a rise of a release ball keeps only under its guards. -/
structure KeptBut (s s' : State) : Prop where
  fuse : s'.fuse = s.fuse
  pending : s'.pending = s.pending
  now : s.now ≤ s'.now
  canon : Canonical s → Canonical s'

theorem Kept.but {a b : State} (h : Kept a b) : KeptBut a b := ⟨h.fuse, h.pending, h.now, h.canon⟩

theorem KeptBut.trans {a b c : State} (h1 : KeptBut a b) (h2 : KeptBut b c) : KeptBut a c :=
  ⟨h2.fuse.trans h1.fuse, h2.pending.trans h1.pending, Nat.le_trans h1.now h2.now, fun h => h2.canon (h1.canon h)⟩

theorem KeptBut.gate (s : State) (g : Gate) : KeptBut s { s with gate := g } :=
  ⟨rfl, rfl, Nat.le_refl _, fun hc => ⟨hc.1, hc.2⟩⟩

theorem KeptBut.foldl {α : Type} {a x : State} {f : State → α → State} {l : List α} (hf : ∀ s i, KeptBut s (f s i)) (h : KeptBut a x) :
    KeptBut a (l.foldl f x) := by
  induction l generalizing x with
  | nil => exact h
  | cons i l ih => exact ih (h.trans (hf x i))

theorem KeptBut.kept {a b : State} (h : KeptBut a b) (h1 : a.gate.Interlocked → b.gate.Interlocked) : Kept a b :=
  ⟨h.fuse, h.pending, h.now, h.canon, h1⟩

/-- Registers written and pending values put (R33, R39). -/
theorem kept_put : ∀ s x1 x2 x3, Kept s (State.put s x1 x2 x3) := fun s x1 x2 x3 =>
  Kept.updReg (Kept.refl s) fun h => put_regWf h x1 x2 x3

theorem kept_applyPend : ∀ s x1 x2, Kept s (State.applyPend s x1 x2) := by
  intro s x1 x2
  unfold State.applyPend
  split
  · exact Kept.refl _
  · exact (kept_put s x1 x2 _).trans (Kept.updReg (Kept.refl _) fun h => ⟨h.1, alDel_sorted h.2 _⟩)

theorem kept_setPend : ∀ s x1 x2 x3, Kept s (State.setPend s x1 x2 x3) := fun s _ _ _ =>
  Kept.updReg (Kept.refl s) fun h => ⟨h.1, alPut_sorted h.2 _ _⟩

theorem applyPend_gate (s : State) (idx sub : Nat) : (s.applyPend idx sub).gate = s.gate := by
  unfold State.applyPend; split <;> rfl

end Sys2Proof.Machine
end

