-- ==== Sys2Proof/Laws/KeptPart1.lean ====
section
/-! SUPPORT. Every effect of the model keeps what `Kept` says, part 1: one lemma per definition, in the order in which they call
each other. -/
namespace Sys2Proof.Machine

theorem kept_bumpBy : ∀ s x1 x2 x3, Kept s (State.bumpBy s x1 x2 x3) := by
  intro s x1 x2 x3
  unfold State.bumpBy
  exact kept_put _ _ _ _

theorem kept_cxUse : ∀ s x1 x2, Kept s (State.cxUse s x1 x2) := by
  intro s x1 x2
  unfold State.cxUse
  exact Kept.trans (kept_bumpBy _ _ _ _) (kept_bumpBy _ _ _ _)

theorem kept_cxOn : ∀ s x1 x2, Kept s (State.cxOn s x1 x2) := by
  intro s x1 x2
  unfold State.cxOn
  exact kept_cxUse _ _ _

theorem kept_modRxq : ∀ s x1 x2, Kept s (State.modRxq s x1 x2) := by
  intro s x1 x2
  unfold State.modRxq
  refine Kept.upd ?_ rfl rfl rfl rfl rfl
  exact Kept.refl _

theorem kept_txRecord : ∀ s x1 x2 x3 x4 x5, Kept s (State.txRecord s x1 x2 x3 x4 x5) := by
  intro s x1 x2 x3 x4 x5
  unfold State.txRecord
  split
  · exact Kept.refl _
  · extract_lets -lift l0
    exact kept_modRxq _ _ _

theorem kept_withPsdu : ∀ s x1 x2 x3, (∀ y0, Kept s (x3 y0)) → Kept s (State.withPsdu s x1 x2 x3) := by
  intro s x1 x2 x3 h0
  unfold State.withPsdu
  refine Kept.ite (h0 _) ?_
  split
  · exact h0 _
  · exact Kept.refl _

theorem kept_bump : ∀ s x1 x2, Kept s (State.bump s x1 x2) := by
  intro s x1 x2
  unfold State.bump
  exact kept_bumpBy _ _ _ _

theorem kept_boundary : ∀ s x1, Kept s (State.boundary s x1) := by
  intro s x1
  unfold State.boundary
  refine Kept.foldl (fun s0 i0 => ?_) ?_
  · exact kept_applyPend _ _ _
  · exact Kept.refl _

theorem kept_keepLevel : ∀ s x1 x2, Kept s (State.keepLevel s x1 x2) := by
  intro s x1 x2
  unfold State.keepLevel
  refine Kept.upd ?_ rfl rfl rfl rfl rfl
  exact Kept.refl _

theorem kept_hearBy : ∀ s x1 x2 x3 x4 x5, Kept s (State.hearBy s x1 x2 x3 x4 x5).2 := by
  intro s x1 x2 x3 x4 x5
  unfold State.hearBy
  extract_lets -lift l0 l1 l2 l3 l4 l5
  have k6 : Kept s l0 := by
    unfold l0
    exact kept_boundary _ _
  clear_value l0
  have k7 : Kept s l4 := by
    unfold l4
    exact k6.trans (kept_keepLevel _ _ _)
  clear_value l4
  dsimp -zeta only [ret]
  refine Kept.upd ?_ rfl rfl rfl rfl rfl
  exact k7

theorem kept_hear : ∀ s x1 x2 x3 x4, Kept s (State.hear s x1 x2 x3 x4).2 := by
  intro s x1 x2 x3 x4
  unfold State.hear
  extract_lets -lift l0 l1
  have k2 : Kept s l0.2 := by
    unfold l0
    exact kept_hearBy _ _ _ _ _ _
  clear_value l0
  have k3 : Kept s l1 := by
    unfold l1
    exact k2
  clear_value l1
  split
  · dsimp -zeta only [ret]
    exact k3
  · extract_lets -lift l4
    have k5 : Kept s l4 := by
      unfold l4
      exact Kept.ite k3 (k3.trans (kept_bump _ _ _))
    clear_value l4
    dsimp -zeta only [ret]
    exact Kept.ite (k5.trans (kept_bump _ _ _)) k5

theorem kept_tsSettle : ∀ s x1, Kept s (State.tsSettle s x1) := by
  intro s x1
  unfold State.tsSettle
  refine Kept.upd ?_ rfl rfl rfl rfl rfl
  exact Kept.refl _

theorem kept_tsReject : ∀ s x1, Kept s (State.tsReject s x1) := by
  intro s x1
  unfold State.tsReject
  exact kept_bump _ _ _

theorem kept_putReq : ∀ s x1, Kept s (State.putReq s x1) := by
  intro s x1
  unfold State.putReq
  refine Kept.upd ?_ rfl rfl rfl rfl rfl
  exact Kept.refl _

theorem kept_raiseDemand : ∀ s x1, Kept s (State.raiseDemand s x1) := by
  intro s x1
  unfold State.raiseDemand
  split
  · exact Kept.refl _
  · extract_lets -lift l0 l1
    have k2 : Kept s l0 := by
      unfold l0
      exact kept_putReq _ _
    clear_value l0
    refine Kept.upd ?_ rfl rfl rfl rfl rfl
    exact k2

theorem kept_tsStale : ∀ s x1, Kept s (State.tsStale s x1) := by
  intro s x1
  unfold State.tsStale
  refine Kept.foldl (fun s0 i0 => ?_) ?_
  · extract_lets -lift l1 l2 l3
    have k4 : Kept s0 l2 := by
      unfold l2
      exact kept_putReq _ _
    clear_value l2
    exact Kept.ite k4 (k4.trans (kept_raiseDemand _ _))
  · exact kept_tsReject _ _

theorem kept_startEval : ∀ s x1 x2, Kept s (State.startEval s x1 x2) := by
  intro s x1 x2
  unfold State.startEval
  extract_lets -lift l0 l1
  refine Kept.upd ?_ rfl rfl rfl rfl rfl
  exact Kept.refl _

theorem kept_evalAll : ∀ s x1 x2, Kept s (State.evalAll s x1 x2) := by
  intro s x1 x2
  unfold State.evalAll
  refine Kept.foldl (fun s0 i0 => ?_) ?_
  · exact kept_startEval _ _ _
  · exact Kept.refl _

theorem kept_pushRec : ∀ s x1, Kept s (State.pushRec s x1) := by
  intro s x1
  unfold State.pushRec
  refine Kept.ite ?_ ?_
  · refine Kept.upd ?_ rfl rfl rfl rfl rfl
    exact Kept.refl _
  · split
    · refine Kept.trans ?_ (kept_bump _ _ _)
      refine Kept.upd ?_ rfl rfl rfl rfl rfl
      exact Kept.refl _
    · refine Kept.trans ?_ (kept_bump _ _ _)
      refine Kept.upd ?_ rfl rfl rfl rfl rfl
      exact Kept.refl _

theorem kept_logEv : ∀ s x1 x2 x3 x4, Kept s (State.logEv s x1 x2 x3 x4) := by
  intro s x1 x2 x3 x4
  unfold State.logEv
  extract_lets -lift l0 l1 l2
  refine Kept.ite ?_ ?_
  · refine Kept.trans ?_ (kept_pushRec _ _)
    refine Kept.upd ?_ rfl rfl rfl rfl rfl
    exact Kept.refl _
  · refine Kept.ite ?_ ?_
    · refine Kept.upd ?_ rfl rfl rfl rfl rfl
      exact Kept.refl _
    · refine Kept.trans ?_ (kept_bump _ _ _)
      refine Kept.upd ?_ rfl rfl rfl rfl rfl
      exact Kept.refl _

theorem kept_tsVeto : ∀ s x1 x2, Kept s (State.tsVeto s x1 x2) := by
  intro s x1 x2
  unfold State.tsVeto
  extract_lets -lift l0 l1
  have k2 : Kept s l1 := by
    unfold l1
    refine Kept.upd ?_ rfl rfl rfl rfl rfl
    exact Kept.refl _
  clear_value l1
  exact Kept.trans (Kept.trans (k2.trans (kept_tsReject _ _)) (kept_logEv _ _ _ _ _)) (kept_evalAll _ _ _)

theorem kept_tsJudge : ∀ s x1 x2 x3, Kept s (State.tsJudge s x1 x2 x3) := by
  intro s x1 x2 x3
  unfold State.tsJudge
  refine Kept.ite (kept_tsReject _ _) ?_
  refine Kept.ite (kept_tsReject _ _) ?_
  refine Kept.ite (kept_tsReject _ _) ?_
  split
  · exact kept_tsStale _ _
  · refine Kept.ite (kept_tsStale _ _) ?_
    refine Kept.ite (kept_tsReject _ _) ?_
    refine Kept.ite (kept_tsVeto _ _ _) ?_
    extract_lets -lift l0 l1 l2 l3
    have k4 : Kept s l3 := by
      unfold l3
      refine Kept.upd ?_ rfl rfl rfl rfl rfl
      exact Kept.refl _
    clear_value l3
    exact Kept.trans (k4.trans (kept_bump _ _ _)) (kept_evalAll _ _ _)

theorem kept_tsAdmit : ∀ s x1 x2, Kept s (State.tsAdmit s x1 x2) := by
  intro s x1 x2
  unfold State.tsAdmit
  refine Kept.ite (Kept.refl _) ?_
  extract_lets -lift l0 l1 l2
  have k3 : Kept s l1 := by
    unfold l1
    exact kept_tsSettle _ _
  clear_value l1
  refine Kept.trans ?_ (kept_tsJudge _ _ _ _)
  refine Kept.upd ?_ rfl rfl rfl rfl rfl
  exact k3

theorem kept_uwbItem : ∀ s x1, Kept s (State.uwbItem s x1) := by
  intro s x1
  unfold State.uwbItem
  refine Kept.ite ?_ ?_
  · extract_lets -lift l0 l1
    have k2 : Kept s l1 := by
      unfold l1
      refine Kept.upd ?_ rfl rfl rfl rfl rfl
      exact Kept.refl _
    clear_value l1
    exact k2.trans (kept_tsAdmit _ _ _)
  · split
    · exact Kept.refl _
    · refine Kept.upd ?_ rfl rfl rfl rfl rfl
      exact Kept.refl _

theorem kept_aoaItem : ∀ s x1 x2, Kept s (State.aoaItem s x1 x2) := by
  intro s x1 x2
  unfold State.aoaItem
  split
  · split
    · extract_lets -lift l0 l1 l2 l3 l4 l5 l6 l7 l8
      exact Kept.ite (Kept.refl _) (kept_uwbItem _ _)
    · exact Kept.refl _
  · exact Kept.refl _

theorem kept_modAwait : ∀ s x1 x2, Kept s (State.modAwait s x1 x2) := by
  intro s x1 x2
  unfold State.modAwait
  refine Kept.upd ?_ rfl rfl rfl rfl rfl
  exact Kept.refl _

theorem kept_blinkArrival : ∀ s x1 x2 x3, Kept s (State.blinkArrival s x1 x2 x3) := by
  intro s x1 x2 x3
  unfold State.blinkArrival
  split
  · exact Kept.refl _
  · extract_lets -lift l0 l1
    have k2 : Kept s l0 := by
      unfold l0
      exact kept_modAwait _ _ _
    clear_value l0
    refine Kept.foldl (fun s3 i3 => ?_) ?_
    · extract_lets -lift l4 l5 l6 l7 l8 l9
      exact Kept.ite (kept_uwbItem _ _) (Kept.refl _)
    · exact k2

theorem kept_blink : ∀ s x1 x2, Kept s (State.blink s x1 x2) := by
  intro s x1 x2
  unfold State.blink
  split
  · exact Kept.refl _
  · refine Kept.ite (Kept.refl _) ?_
    refine kept_withPsdu _ _ _ _ ?_
    intro z0
    refine Kept.ite (kept_bump _ _ _) ?_
    extract_lets -lift l1 l2 l3
    have k4 : Kept s l1.2 := by
      unfold l1
      exact kept_hear _ _ _ _ _
    clear_value l1
    have k5 : Kept s l2 := by
      unfold l2
      exact k4
    clear_value l2
    split
    · exact k4
    · extract_lets -lift l6 l7
      have k8 : Kept s l6 := by
        unfold l6
        refine Kept.trans ?_ (kept_aoaItem _ _ _)
        refine Kept.upd ?_ rfl rfl rfl rfl rfl
        exact k5
      clear_value l6
      refine Kept.ite (k8.trans (kept_blinkArrival _ _ _ _)) ?_
      split
      · exact k8
      · refine Kept.upd ?_ rfl rfl rfl rfl rfl
        exact k8

theorem kept_at : ∀ t s, Kept s (State.at t s) := fun t s =>
  (Kept.refl s).updNow (Nat.le_max_left s.now t)

theorem kept_setXc : ∀ s x1 x2, Kept s (State.setXc s x1 x2) := by
  intro s x1 x2
  unfold State.setXc
  split
  · refine Kept.upd ?_ rfl rfl rfl rfl rfl
    exact Kept.refl _
  · refine Kept.upd ?_ rfl rfl rfl rfl rfl
    exact Kept.refl _

theorem kept_dropLate : ∀ s x1, Kept s (State.dropLate s x1) := by
  intro s x1
  unfold State.dropLate
  extract_lets -lift l0 l1 l2 l3 l4
  have k5 : Kept s l4 := by
    unfold l4
    exact Kept.trans (kept_setXc _ _ _) (kept_bumpBy _ _ _ _)
  clear_value l4
  exact Kept.trans (k5.trans (kept_bumpBy _ _ _ _)) (kept_bumpBy _ _ _ _)

theorem kept_serveXc : ∀ s x1, Kept s (State.serveXc s x1) := by
  intro s x1
  unfold State.serveXc
  extract_lets -lift l0 l1 l2
  have k3 : Kept s l0 := by
    unfold l0
    exact kept_dropLate _ _
  clear_value l0
  split
  · exact k3
  · refine Kept.ite (k3.trans (kept_setXc _ _ _)) ?_
    refine Kept.ite k3 ?_
    extract_lets -lift l4 l5
    exact k3.trans (kept_setXc _ _ _)

theorem kept_xcSettle : ∀ s x1, Kept s (State.xcSettle s x1) := by
  intro s x1
  unfold State.xcSettle
  extract_lets -lift l0 l1
  refine Kept.ite ?_ (Kept.ite (kept_serveXc _ _) (Kept.refl _))
  split
  · exact Kept.refl _
  · exact kept_setXc _ _ _

theorem kept_xcRequestAt : ∀ s x1 x2 x3, Kept s (State.xcRequestAt s x1 x2 x3) := by
  intro s x1 x2 x3
  unfold State.xcRequestAt
  refine Kept.ite (Kept.refl _) ?_
  extract_lets -lift l0 l1 l2
  exact Kept.trans (kept_setXc _ _ _) (kept_xcSettle _ _)

theorem kept_radioSettle : ∀ s, Kept s (State.radioSettle s) := by
  intro s
  unfold State.radioSettle
  refine Kept.ite (Kept.refl _) ?_
  extract_lets -lift l0
  have k1 : Kept s l0 := by
    unfold l0
    refine Kept.foldl (fun s2 i2 => ?_) ?_
    · exact Kept.ite (Kept.refl _) (kept_xcRequestAt _ _ _ _)
    · exact Kept.refl _
  clear_value l0
  exact Kept.trans (k1.trans (kept_xcSettle _ _)) (kept_xcSettle _ _)

theorem kept_logReset : ∀ s, Kept s (State.logReset s) := by
  intro s
  unfold State.logReset
  refine Kept.upd ?_ rfl rfl rfl rfl rfl
  exact Kept.refl _

theorem kept_keysVolatile : ∀ s, Kept s (State.keysVolatile s) := by
  intro s
  unfold State.keysVolatile
  refine Kept.upd ?_ rfl rfl rfl rfl rfl
  exact Kept.refl _

theorem kept_keysReset : ∀ s, Kept s (State.keysReset s) := by
  intro s
  unfold State.keysReset
  extract_lets -lift l0 l1
  have k2 : Kept s l0 := by
    unfold l0
    exact kept_keysVolatile _
  clear_value l0
  refine Kept.upd ?_ rfl rfl rfl rfl rfl
  exact k2

theorem kept_journalCut : ∀ s, Kept s (State.journalCut s) := by
  intro s
  unfold State.journalCut
  split
  · exact Kept.refl _
  · extract_lets -lift l0 l1 l2
    refine Kept.ite ?_ ?_
    · refine Kept.upd ?_ rfl rfl rfl rfl rfl
      exact Kept.refl _
    · refine Kept.upd ?_ rfl rfl rfl rfl rfl
      exact Kept.refl _

theorem kept_answer : ∀ s x1 x2 x3, Kept s (State.answer s x1 x2 x3) := by
  intro s x1 x2 x3
  unfold State.answer
  refine Kept.upd ?_ rfl rfl rfl rfl rfl
  exact Kept.refl _

theorem kept_radioOff : ∀ s, Kept s (State.radioOff s) := by
  intro s
  unfold State.radioOff
  extract_lets -lift l0 l1 l2
  have k3 : Kept s l2 := by
    unfold l2
    refine Kept.upd ?_ rfl rfl rfl rfl rfl
    exact Kept.refl _
  clear_value l2
  refine Kept.foldl (fun s4 i4 => ?_) ?_
  · exact kept_answer _ _ _ _
  · exact k3

theorem kept_vsend : ∀ s x1 x2, Kept s (State.vsend s x1 x2) := by
  intro s x1 x2
  unfold State.vsend
  split
  · exact Kept.refl _
  · refine Kept.upd ?_ rfl rfl rfl rfl rfl
    exact Kept.refl _

theorem kept_modSes : ∀ s x1 x2, Kept s (State.modSes s x1 x2) := by
  intro s x1 x2
  unfold State.modSes
  refine Kept.upd ?_ rfl rfl rfl rfl rfl
  exact Kept.refl _

theorem kept_sesSendRaw : ∀ s x1 x2 x3 x4, Kept s (State.sesSendRaw s x1 x2 x3 x4) := by
  intro s x1 x2 x3 x4
  unfold State.sesSendRaw
  split
  · exact Kept.refl _
  · exact Kept.trans (Kept.trans (kept_modSes _ _ _) (kept_cxUse _ _ _)) (kept_vsend _ _ _)

theorem kept_tsPrune : ∀ s, Kept s (State.tsPrune s) := by
  intro s
  unfold State.tsPrune
  extract_lets -lift l0 l1
  refine Kept.upd ?_ rfl rfl rfl rfl rfl
  exact Kept.refl _

theorem kept_dropReqs : ∀ s x1, Kept s (State.dropReqs s x1) := by
  intro s x1
  unfold State.dropReqs
  extract_lets -lift l0 l1
  refine Kept.trans ?_ (kept_tsPrune _)
  refine Kept.upd ?_ rfl rfl rfl rfl rfl
  exact Kept.refl _

theorem kept_tsDropSession : ∀ s x1, Kept s (State.tsDropSession s x1) := by
  intro s x1
  unfold State.tsDropSession
  extract_lets -lift l0 l1
  have k2 : Kept s l0 := by
    unfold l0
    exact kept_dropReqs _ _
  clear_value l0
  refine Kept.upd ?_ rfl rfl rfl rfl rfl
  exact k2

theorem kept_xcDrop : ∀ s x1 x2, Kept s (State.xcDrop s x1 x2) := by
  intro s x1 x2
  unfold State.xcDrop
  exact kept_setXc _ _ _

theorem kept_bodyWritten : ∀ s x1, Kept s (State.bodyWritten s x1) := by
  intro s x1
  unfold State.bodyWritten
  refine Kept.upd ?_ rfl rfl rfl rfl rfl
  exact Kept.refl _

theorem kept_modSlot : ∀ s x1 x2, Kept s (State.modSlot s x1 x2) := by
  intro s x1 x2
  unfold State.modSlot
  refine Kept.upd ?_ rfl rfl rfl rfl rfl
  exact Kept.refl _

theorem kept_clearSlot : ∀ s x1, Kept s (State.clearSlot s x1) := by
  intro s x1
  unfold State.clearSlot
  exact Kept.trans (kept_modSlot _ _ _) (kept_bodyWritten _ _)

theorem kept_eraseDone : ∀ s x1, Kept s (State.eraseDone s x1) := by
  intro s x1
  unfold State.eraseDone
  exact Kept.ite (kept_clearSlot _ _) (Kept.refl _)

theorem kept_eraseSlot : ∀ s x1, Kept s (State.eraseSlot s x1) := by
  intro s x1
  unfold State.eraseSlot
  exact Kept.ite (Kept.trans (kept_modSlot _ _ _) (kept_eraseDone _ _)) (Kept.refl _)

theorem kept_closeUwb : ∀ s x1, Kept s (State.closeUwb s x1) := by
  intro s x1
  unfold State.closeUwb
  split
  · exact Kept.refl _
  · extract_lets -lift l0 l1 l2 l3
    have k4 : Kept s l1 := by
      unfold l1
      exact kept_xcDrop _ _ _
    clear_value l1
    have k5 : Kept s l2 := by
      unfold l2
      exact k4.trans (kept_eraseSlot _ _)
    clear_value l2
    refine Kept.upd ?_ rfl rfl rfl rfl rfl
    exact k5

theorem kept_noteChg : ∀ x0 s, Kept s (State.noteChg x0 s) := by
  intro x0 s
  unfold State.noteChg
  refine Kept.foldl (fun s0 i0 => ?_) ?_
  · refine Kept.ite (Kept.refl _) ?_
    refine Kept.upd ?_ rfl rfl rfl rfl rfl
    exact Kept.refl _
  · exact Kept.refl _

theorem kept_cutA : ∀ s x1, Kept s (State.cutA s x1) := fun s grp =>
  (Kept.refl s).updGate fun h => h.lowMap _ fun p hp => by split at hp <;> first | cases hp | exact hp

theorem keptBut_startB (s : State) (grp : Nat) : KeptBut s (s.startB grp) :=
  (kept_applyPend s _ _).but.trans (KeptBut.gate _ _)

theorem lock_startB {s : State} {grp : Nat} (h : s.gate.Interlocked) (ha : s.gate.groupA grp = false) (hd : s.gate.deadOf grp = none) :
    (s.startB grp).gate.Interlocked := by
  have hg := applyPend_gate s 0x2402 0
  unfold State.startB
  exact (hg ▸ h : (s.applyPend 0x2402 0).gate.Interlocked).riseB grp _ (hg ▸ ha) (hg ▸ hd)

theorem kept_askB : ∀ s x1, Kept s (State.askB s x1) := by
  intro s grp
  unfold State.askB
  split
  · next d hd =>
    refine (Kept.refl s).updGate fun h => ?_
    have hk := (h.2 grp).2 d hd
    exact h.setDead grp _ hk.1 hk.2.1 fun g' hg' => nomatch hg'
  · next hd =>
    split
    · next ha =>
      refine (Kept.refl s).updGate fun h => ?_
      have hb : (s.gate.bBall grp).high = false := Bool.eq_false_iff.mpr fun hh => Bool.noConfusion (((h.2 grp).1 hh).symm.trans ha)
      exact (h.lowMap (fun p => if gateGroup p.2 = grp then ⟨false, s.now⟩ else p.1)
        fun p hp => by split at hp <;> first | cases hp | exact hp).setDead grp _ hb (groupA_cut s.gate grp s.now) fun g' hg' => nomatch hg'
    · next ha => exact (keptBut_startB s grp).kept fun h => lock_startB h (Bool.eq_false_iff.mpr ha) hd

theorem kept_lockGroup : ∀ s x1 x2, Kept s (State.lockGroup s x1 x2).2 := by
  intro s x1 x2
  unfold State.lockGroup
  extract_lets -lift l0
  refine Kept.ite_snd ?_ ?_
  · dsimp -zeta only [ret]
    exact kept_logEv _ _ _ _ _
  · refine Kept.ite_snd ?_ ?_
    · dsimp -zeta only [ret]
      exact kept_logEv _ _ _ _ _
    · refine Kept.ite_snd (Kept.refl _) ?_
      dsimp -zeta only [ret]
      exact Kept.trans (kept_askB _ _) (kept_noteChg _ _)

theorem kept_lockRequest : ∀ s x1, Kept s (State.lockRequest s x1).2 := by
  intro s x1
  unfold State.lockRequest
  extract_lets -lift l0 l1
  have k2 : Kept s l1.2 := by
    unfold l1
    refine Kept.trans ?_ (kept_lockGroup _ _ _)
    refine Kept.upd ?_ rfl rfl rfl rfl rfl
    exact Kept.refl _
  clear_value l1
  refine Kept.ite_snd ?_ k2
  dsimp -zeta only [ret]
  exact k2.trans (kept_lockGroup _ _ _)

theorem kept_endEntry : ∀ s x1 x2, Kept s (State.endEntry s x1 x2) := by
  intro s x1 x2
  unfold State.endEntry
  split
  · exact Kept.refl _
  · extract_lets -lift l0 l1
    have k2 : Kept s l1 := by
      unfold l1
      refine Kept.trans ?_ (kept_dropReqs _ _)
      refine Kept.upd ?_ rfl rfl rfl rfl rfl
      exact Kept.refl _
    clear_value l1
    exact Kept.ite (k2.trans (kept_lockRequest _ _)) k2

theorem kept_canSend : ∀ s x1 x2, Kept s (State.canSend s x1 x2) := by
  intro s x1 x2
  unfold State.canSend
  refine Kept.upd ?_ rfl rfl rfl rfl rfl
  exact Kept.refl _

theorem kept_immoSend : ∀ s x1 x2, Kept s (State.immoSend s x1 x2) := by
  intro s x1 x2
  unfold State.immoSend
  split
  · exact Kept.refl _
  · exact Kept.ite (Kept.refl _) (Kept.trans (kept_canSend _ _ _) (kept_cxUse _ _ _))

theorem kept_immoRelease : ∀ s x1, Kept s (State.immoRelease s x1) := by
  intro s x1
  unfold State.immoRelease
  extract_lets -lift l0 l1 l2 l3 l4 l5 l6 l7
  have k8 : Kept s l4 := by
    unfold l4
    refine Kept.upd ?_ rfl rfl rfl rfl rfl
    exact Kept.refl _
  clear_value l4
  have k9 : Kept s l5 := by
    unfold l5
    exact k8.trans (kept_immoSend _ _ _)
  clear_value l5
  refine Kept.ite ?_ k9
  refine Kept.upd ?_ rfl rfl rfl rfl rfl
  exact k9

theorem kept_lowerStart : ∀ s, Kept s (State.lowerStart s) := by
  intro s
  unfold State.lowerStart
  refine Kept.ite ?_ (Kept.refl _)
  extract_lets -lift l0 l1 l2
  have k3 : Kept s l2 := by
    unfold l2
    refine Kept.trans ?_ (kept_noteChg _ _)
    refine Kept.upd ?_ rfl rfl rfl rfl rfl
    exact Kept.refl _
  clear_value l2
  exact Kept.ite (k3.trans (kept_immoRelease _ _)) k3

theorem kept_openReq : ∀ s x1 x2 x3 x4 x5, Kept s (State.openReq s x1 x2 x3 x4 x5) := by
  intro s x1 x2 x3 x4 x5
  unfold State.openReq
  refine Kept.ite (Kept.refl _) ?_
  extract_lets -lift l0 l1 l2
  have k3 : Kept s l2 := by
    unfold l2
    refine Kept.upd ?_ rfl rfl rfl rfl rfl
    exact Kept.refl _
  clear_value l2
  exact Kept.trans (k3.trans (kept_startEval _ _ _)) (kept_raiseDemand _ _)

theorem kept_wakeHeld : ∀ s, Kept s (State.wakeHeld s) := by
  intro s
  unfold State.wakeHeld
  extract_lets -lift l0 l1
  refine Kept.foldl (fun s2 i2 => ?_) ?_
  · exact kept_openReq _ _ _ _ _ _
  · refine Kept.upd ?_ rfl rfl rfl rfl rfl
    exact Kept.refl _

theorem kept_endStart : ∀ s x1 x2, Kept s (State.endStart s x1 x2) := by
  intro s x1 x2
  unfold State.endStart
  split
  · exact Kept.refl _
  · extract_lets -lift l0 l1 l2
    have k3 : Kept s l1 := by
      unfold l1
      refine Kept.trans ?_ (kept_dropReqs _ _)
      refine Kept.upd ?_ rfl rfl rfl rfl rfl
      exact Kept.refl _
    clear_value l1
    have k4 : Kept s l2 := by
      unfold l2
      exact k3.trans (kept_lowerStart _)
    clear_value l2
    exact Kept.ite (Kept.ite (k4.trans (kept_wakeHeld _)) k4) k3

theorem kept_fcntUp : ∀ s, Kept s (State.fcntUp s) := by
  intro s
  unfold State.fcntUp
  refine Kept.upd ?_ rfl rfl rfl rfl rfl
  exact Kept.refl _

theorem kept_fcntEnd : ∀ s, Kept s (State.fcntEnd s) := by
  intro s
  unfold State.fcntEnd
  refine Kept.ite ?_ (Kept.refl _)
  refine Kept.upd ?_ rfl rfl rfl rfl rfl
  exact Kept.refl _

theorem kept_wlSend : ∀ s x1 x2, Kept s (State.wlSend s x1 x2) := by
  intro s x1 x2
  unfold State.wlSend
  extract_lets -lift l0 l1 l2
  refine Kept.trans ?_ (kept_bump _ _ _)
  refine Kept.upd ?_ rfl rfl rfl rfl rfl
  exact Kept.refl _

theorem kept_ethSend : ∀ s x1 x2 x3 x4, Kept s (State.ethSend s x1 x2 x3 x4) := by
  intro s x1 x2 x3 x4
  unfold State.ethSend
  refine Kept.upd ?_ rfl rfl rfl rfl rfl
  exact Kept.refl _

theorem kept_segSend : ∀ s x1 x2 x3 x4, Kept s (State.segSend s x1 x2 x3 x4) := by
  intro s x1 x2 x3 x4
  unfold State.segSend
  extract_lets -lift l0
  have k1 : Kept s l0 := by
    unfold l0
    exact Kept.trans (kept_fcntUp _) (kept_cxUse _ _ _)
  clear_value l0
  exact Kept.trans (k1.trans (kept_ethSend _ _ _ _ _)) (kept_fcntEnd _)

theorem kept_twinSend : ∀ s x1 x2, Kept s (State.twinSend s x1 x2) := by
  intro s x1 x2
  unfold State.twinSend
  split
  · exact Kept.refl _
  · refine Kept.ite ?_ (kept_segSend _ _ _ _ _)
    extract_lets -lift l0
    have k1 : Kept s l0 := by
      unfold l0
      exact Kept.trans (kept_fcntUp _) (kept_cxUse _ _ _)
    clear_value l0
    exact Kept.trans (k1.trans (kept_wlSend _ _ _)) (kept_fcntEnd _)

theorem kept_eraseMirrored : ∀ s x1, Kept s (State.eraseMirrored s x1) := by
  intro s x1
  unfold State.eraseMirrored
  extract_lets -lift l0 l1
  have k2 : Kept s l1 := by
    unfold l1
    exact kept_eraseSlot _ _
  clear_value l1
  exact Kept.ite (k2.trans (kept_twinSend _ _ _)) k2

theorem kept_learnClose : ∀ s, Kept s (State.learnClose s) := by
  intro s
  unfold State.learnClose
  split
  · exact Kept.refl _
  · extract_lets -lift l0 l1
    have k2 : Kept s l1 := by
      unfold l1
      refine Kept.upd ?_ rfl rfl rfl rfl rfl
      exact Kept.refl _
    clear_value l1
    split
    · exact k2
    · exact k2.trans (kept_eraseMirrored _ _)

theorem kept_endSession : ∀ s x1 x2, Kept s (State.endSession s x1 x2) := by
  intro s x1 x2
  unfold State.endSession
  split
  · exact Kept.refl _
  · extract_lets -lift l0 l1 l2 l3 l4 l5 l6 l7 l8
    have k9 : Kept s l0 := by
      unfold l0
      split
      · exact Kept.ite (kept_sesSendRaw _ _ _ _ _) (Kept.refl _)
      · exact Kept.refl _
    clear_value l0
    have k10 : Kept s l2 := by
      unfold l2
      refine Kept.upd ?_ rfl rfl rfl rfl rfl
      exact k9
    clear_value l2
    have k11 : Kept s l3 := by
      unfold l3
      exact Kept.trans (k10.trans (kept_closeUwb _ _)) (kept_tsDropSession _ _)
    clear_value l3
    have k12 : Kept s l4 := by
      unfold l4
      split
      · exact k11
      · exact k11.trans (kept_eraseSlot _ _)
    clear_value l4
    have k13 : Kept s l6 := by
      unfold l6
      refine Kept.foldl (fun s14 i14 => ?_) ?_
      · exact kept_endEntry _ _ _
      · exact k12
    clear_value l6
    have k15 : Kept s l8 := by
      unfold l8
      refine Kept.foldl (fun s16 i16 => ?_) ?_
      · exact kept_endStart _ _ _
      · exact k13
    clear_value l8
    split
    · exact k15
    · extract_lets -lift l17
      exact Kept.ite (k15.trans (kept_learnClose _)) k15

theorem kept_endAll : ∀ s, Kept s (State.endAll s) := by
  intro s
  unfold State.endAll
  extract_lets -lift l0 l1 l2 l3 l4
  have k5 : Kept s l0 := by
    unfold l0
    refine Kept.foldl (fun s6 i6 => ?_) ?_
    · split
      · exact Kept.refl _
      · exact kept_endSession _ _ _
    · exact Kept.refl _
  clear_value l0
  have k7 : Kept s l1 := by
    unfold l1
    refine Kept.foldl (fun s8 i8 => ?_) ?_
    · exact kept_endEntry _ _ _
    · exact k5
  clear_value l1
  have k9 : Kept s l2 := by
    unfold l2
    refine Kept.foldl (fun s10 i10 => ?_) ?_
    · exact kept_endStart _ _ _
    · exact k7
  clear_value l2
  have k11 : Kept s l3 := by
    unfold l3
    exact k9.trans (kept_learnClose _)
  clear_value l3
  refine Kept.upd ?_ rfl rfl rfl rfl rfl
  exact k11

theorem kept_timeReset : ∀ s, Kept s (State.timeReset s) := by
  intro s
  unfold State.timeReset
  refine Kept.upd ?_ rfl rfl rfl rfl rfl
  exact Kept.refl _

theorem kept_vcPowerUp : ∀ s, Kept s (State.vcPowerUp s) := by
  intro s
  unfold State.vcPowerUp
  refine Kept.upd ?_ rfl rfl rfl rfl rfl
  exact Kept.refl _

theorem kept_lockPowerUp : ∀ s, Kept s (State.lockPowerUp s) := by
  intro s
  unfold State.lockPowerUp
  extract_lets -lift l0 l1 l2
  refine Kept.upd ?_ rfl rfl rfl rfl rfl
  exact Kept.refl _

theorem kept_coreReset : ∀ s x1, Kept s (State.coreReset s x1) := by
  intro s0 cold
  unfold State.coreReset
  have hs : Kept s0 ((s0.endAll.radioOff).journalCut).keysReset.logReset :=
    ((((kept_endAll s0).trans (kept_radioOff _)).trans (kept_journalCut _)).trans (kept_keysReset _)).trans (kept_logReset _)
  refine hs.trans ?_
  generalize ((s0.endAll.radioOff).journalCut).keysReset.logReset = s
  extract_lets -lift q w0 es w1 w2 a1 w3 w4 w5 rf w6 imm w7 g1 np w8 w9 w10 w11 w12 w13 z z1 w14 w15
  have hz : Kept s z := by
    refine ⟨rfl, rfl, Nat.le_refl _, fun hc => ⟨⟨alFilter_sorted hc.1.1 _, alFilter_sorted hc.1.2 _⟩, nil_wf, ?_⟩, fun h => ?_⟩
    · exact fun e he => wf_map (f := fun (e : Engine) => { Engine.reset with image := e.startable, st := if e.startable.isSome then EngSt.stopped else EngSt.empty }) hc.2.2
        (fun _ _ => nil_wf) e he
    · exact (interlocked_iff rfl rfl rfl).mpr h
  have hz1 : Kept s z1 := hz.trans (kept_timeReset z)
  clear_value z1
  refine Kept.ite ?_ hz1
  have h2 : Kept s w14 := (hz1.trans (kept_lockPowerUp _)).trans (kept_vcPowerUp _)
  clear_value w14
  exact ⟨h2.fuse, h2.pending, h2.now, fun hc => h2.canon hc, fun _ => (interlocked_iff rfl rfl rfl).mpr interlocked_reset⟩

theorem kept_resetTake : ∀ s x1 x2, Kept s (State.resetTake s x1 x2) := by
  intro s x1 x2
  unfold State.resetTake
  extract_lets -lift l0 l1 l2 l3 l4
  have k5 : Kept s l3 := by
    unfold l3
    exact kept_coreReset _ _
  clear_value l3
  refine Kept.upd ?_ rfl rfl rfl rfl rfl
  exact k5

theorem kept_tick : ∀ t s, Kept s (State.tick t s) := by
  intro t s
  unfold State.tick
  have h1 : Kept s ((State.at t s).tsSettle (State.at t s).now).radioSettle :=
    ((kept_at t s).trans (kept_tsSettle _ _)).trans (kept_radioSettle _)
  dsimp only
  generalize (State.radioSettle _) = s1 at h1 ⊢
  refine h1.trans ?_
  split
  · next cold d he =>
    split
    · next hd =>
      have hr := kept_resetTake { s1 with now := d } cold (if cold then 5 else 4)
      exact ⟨hr.fuse, hr.pending, Nat.le_refl _, fun hc => hr.canon hc, fun h => hr.lock h⟩
    · exact Kept.refl _
  · exact Kept.refl _

theorem kept_resetArm : ∀ s, Kept s (State.resetArm s) := by
  intro s
  unfold State.resetArm
  split
  · refine Kept.upd ?_ rfl rfl rfl rfl rfl
    exact Kept.refl _
  · exact Kept.refl _

theorem kept_resetSent : ∀ s, Kept s (State.resetSent s) := by
  intro s
  unfold State.resetSent
  split
  · exact Kept.refl _
  · refine Kept.ite (Kept.refl _) ?_
    refine Kept.trans ?_ (kept_resetArm _)
    refine Kept.upd ?_ rfl rfl rfl rfl rfl
    exact Kept.refl _

theorem kept_spiAnswer : ∀ s x1 x2, Kept s (State.spiAnswer s x1 x2) := by
  intro s x1 x2
  unfold State.spiAnswer
  refine Kept.upd ?_ rfl rfl rfl rfl rfl
  exact Kept.refl _

theorem kept_answerDirect : ∀ s x1 x2 x3, Kept s (State.answerDirect s x1 x2 x3) := by
  intro s x1 x2 x3
  unfold State.answerDirect
  split
  · refine Kept.upd ?_ rfl rfl rfl rfl rfl
    exact Kept.refl _
  · exact Kept.refl _

theorem kept_viaSend : ∀ s x1 x2, Kept s (State.viaSend s x1 x2) := by
  intro s x1 x2
  unfold State.viaSend
  split
  · exact kept_ethSend _ _ _ _ _
  · extract_lets -lift l0
    refine Kept.ite (kept_canSend _ _ _) ?_
    refine Kept.foldl (fun s1 i1 => ?_) ?_
    · exact kept_canSend _ _ _
    · exact Kept.refl _

theorem kept_modNet : ∀ s x1 x2, Kept s (State.modNet s x1 x2) := by
  intro s x1 x2
  unfold State.modNet
  refine Kept.upd ?_ rfl rfl rfl rfl rfl
  exact Kept.refl _

theorem kept_netDrop : ∀ s x1, Kept s (State.netDrop s x1) := by
  intro s x1
  unfold State.netDrop
  refine Kept.upd ?_ rfl rfl rfl rfl rfl
  exact Kept.refl _

theorem kept_netSend : ∀ s x1 x2, Kept s (State.netSend s x1 x2) := by
  intro s x1 x2
  unfold State.netSend
  split
  · exact Kept.refl _
  · refine Kept.ite (Kept.refl _) ?_
    extract_lets -lift l0 l1 l2
    have k3 : Kept s l2 := by
      unfold l2
      exact Kept.trans (Kept.trans (kept_modNet _ _ _) (kept_cxOn _ _ _)) (kept_viaSend _ _ _)
    clear_value l2
    exact Kept.ite (k3.trans (kept_netDrop _ _)) k3

theorem kept_resetAfter : ∀ s x1, Kept s (State.resetAfter s x1) := by
  intro s x1
  unfold State.resetAfter
  split
  · refine Kept.upd ?_ rfl rfl rfl rfl rfl
    exact Kept.refl _
  · exact Kept.refl _

theorem kept_netSay : ∀ s x1 x2 x3, Kept s (State.netSay s x1 x2 x3) := by
  intro s x1 x2 x3
  unfold State.netSay
  extract_lets -lift l0 l1
  have k2 : Kept s l1 := by
    unfold l1
    refine Kept.trans ?_ (kept_netSend _ _ _)
    refine Kept.upd ?_ rfl rfl rfl rfl rfl
    exact Kept.refl _
  clear_value l1
  exact k2.trans (kept_resetAfter _ _)

theorem kept_twinMsg : ∀ s x1, Kept s (State.twinMsg s x1) := by
  intro s x1
  unfold State.twinMsg
  split
  · exact Kept.refl _
  · extract_lets -lift l0 l1 l2 l3
    have k4 : Kept s l3 := by
      unfold l3
      refine Kept.trans ?_ (kept_cxUse _ _ _)
      refine Kept.upd ?_ rfl rfl rfl rfl rfl
      exact Kept.refl _
    clear_value l3
    exact Kept.ite (k4.trans (kept_wlSend _ _ _)) (k4.trans (kept_viaSend _ _ _))

theorem kept_twinSay : ∀ s x1 x2, Kept s (State.twinSay s x1 x2) := by
  intro s x1 x2
  unfold State.twinSay
  extract_lets -lift l0 l1
  have k2 : Kept s l1 := by
    unfold l1
    refine Kept.trans ?_ (kept_twinMsg _ _)
    refine Kept.upd ?_ rfl rfl rfl rfl rfl
    exact Kept.refl _
  clear_value l1
  exact Kept.ite (k2.trans (kept_resetArm _)) (k2.trans (kept_resetAfter _ _))

theorem kept_deliverOne : ∀ s x1 x2 x3, Kept s (State.deliverOne s x1 x2 x3) := by
  intro s x1 x2 x3
  unfold State.deliverOne
  split
  · split
    · exact Kept.ite (kept_spiAnswer _ _ _) (kept_answerDirect _ _ _ _)
    · exact kept_answerDirect _ _ _ _
  · split
    · exact Kept.trans (kept_modNet _ _ _) (kept_netSay _ _ _ _)
    · exact kept_answerDirect _ _ _ _
  · split
    · refine Kept.trans ?_ (kept_twinSay _ _ _)
      refine Kept.upd ?_ rfl rfl rfl rfl rfl
      exact Kept.refl _
    · exact kept_answerDirect _ _ _ _
  · extract_lets -lift l0
    split
    · refine Kept.ite ?_ (kept_answerDirect _ _ _ _)
      refine Kept.updEng ?_ (fun ca1 cx1 => ?_)
      · exact Kept.refl _
      · exact engine_wf cx1.2.2 _
    · exact kept_answerDirect _ _ _ _
  · exact Kept.refl _

theorem kept_deliver : ∀ s, Kept s (State.deliver s) := by
  intro s
  unfold State.deliver
  refine Kept.foldl (fun s0 i0 => ?_) ?_
  · exact kept_deliverOne _ _ _ _
  · refine Kept.upd ?_ rfl rfl rfl rfl rfl
    exact Kept.refl _

theorem kept_modNfc : ∀ s x1 x2, Kept s (State.modNfc s x1 x2) := by
  intro s x1 x2
  unfold State.modNfc
  refine Kept.upd ?_ rfl rfl rfl rfl rfl
  exact Kept.refl _

theorem kept_modAct : ∀ s x1 x2, Kept s (State.modAct s x1 x2) := by
  intro s x1 x2
  unfold State.modAct
  exact kept_modNfc _ _ _

theorem kept_nfcSend : ∀ s x1, Kept s (State.nfcSend s x1) := by
  intro s x1
  unfold State.nfcSend
  split
  · exact Kept.refl _
  · refine Kept.ite (Kept.refl _) ?_
    split
    · exact Kept.refl _
    · refine Kept.trans ?_ (kept_modAct _ _ _)
      refine Kept.upd ?_ rfl rfl rfl rfl rfl
      exact Kept.refl _

theorem kept_nfcSettle : ∀ s, Kept s (State.nfcSettle s) := by
  intro s
  unfold State.nfcSettle
  exact Kept.trans (kept_nfcSend _ _) (kept_nfcSend _ _)

theorem kept_lfSettle : ∀ s, Kept s (State.lfSettle s) := by
  intro s
  unfold State.lfSettle
  extract_lets -lift l0
  refine Kept.foldl (fun s1 i1 => ?_) ?_
  · exact kept_endSession _ _ _
  · exact Kept.refl _

theorem kept_engEv : ∀ s n b, Kept s (State.engEv s n b) := by
  intro s n b
  refine Kept.updEngs (Kept.refl s) fun h => ⟨h.2.1, wf_modAt h.2.2 fun e he => ?_⟩
  split <;> exact he

theorem kept_engEvAll : ∀ s x1, Kept s (State.engEvAll s x1) := by
  intro s x1
  unfold State.engEvAll
  refine Kept.foldl (fun s0 i0 => ?_) ?_
  · exact kept_engEv _ _ _
  · exact Kept.refl _

theorem kept_mirror : ∀ s x1 x2 x3, Kept s (State.mirror s x1 x2 x3) := by
  intro s x1 x2 x3
  unfold State.mirror
  exact Kept.ite (kept_twinSend _ _ _) (Kept.refl _)

theorem kept_modTok : ∀ s x1 x2, Kept s (State.modTok s x1 x2) := by
  intro s x1 x2
  unfold State.modTok
  extract_lets -lift l0 l1
  have k2 : Kept s l1 := by
    unfold l1
    refine Kept.upd ?_ rfl rfl rfl rfl rfl
    exact Kept.refl _
  clear_value l1
  exact k2.trans (kept_mirror _ _ _ _)

theorem kept_endRevoked : ∀ s x1, Kept s (State.endRevoked s x1) := by
  intro s x1
  unfold State.endRevoked
  refine Kept.ite ?_ (kept_endEntry _ _ _)
  extract_lets -lift l0 l1
  have k2 : Kept s l0 := by
    unfold l0
    exact kept_endEntry _ _ _
  clear_value l0
  refine Kept.upd ?_ rfl rfl rfl rfl rfl
  exact k2

theorem kept_keyGone : ∀ s x1 x2 x3, Kept s (State.keyGone s x1 x2 x3) := by
  intro s x1 x2 x3
  unfold State.keyGone
  extract_lets -lift l0 l1 l2
  have k3 : Kept s l0 := by
    unfold l0
    exact Kept.trans (kept_endRevoked _ _) (kept_endStart _ _ _)
  clear_value l0
  have k4 : Kept s l2 := by
    unfold l2
    refine Kept.foldl (fun s5 i5 => ?_) ?_
    · exact kept_endSession _ _ _
    · exact k3
  clear_value l2
  split
  · exact k4
  · exact Kept.ite (k4.trans (kept_learnClose _)) k4

theorem kept_storeTok : ∀ s x1 x2 x3, Kept s (State.storeTok s x1 x2 x3) := by
  intro s x1 x2 x3
  unfold State.storeTok
  split
  · extract_lets -lift l0
    have k1 : Kept s l0 := by
      unfold l0
      exact kept_modTok _ _ _
    clear_value l0
    exact Kept.ite (k1.trans (kept_keyGone _ _ _ _)) k1
  · exact kept_modTok _ _ _
  · exact kept_modTok _ _ _
  · exact kept_modTok _ _ _

theorem kept_modCan : ∀ s x1 x2, Kept s (State.modCan s x1 x2) := by
  intro s x1 x2
  unfold State.modCan
  refine Kept.upd ?_ rfl rfl rfl rfl rfl
  exact Kept.refl _

theorem kept_canStart : ∀ s x1, Kept s (State.canStart s x1) := by
  intro s x1
  unfold State.canStart
  refine Kept.ite (kept_modCan _ _ _) ?_
  extract_lets -lift l0 l1
  have k2 : Kept s l1 := by
    unfold l1
    exact kept_modCan _ _ _
  clear_value l1
  refine Kept.foldl (fun s3 i3 => ?_) ?_
  · exact kept_txRecord _ _ _ _ _ _
  · exact k2

theorem kept_canRecover : ∀ s x1, Kept s (State.canRecover s x1) := by
  intro s x1
  unfold State.canRecover
  exact kept_modCan _ _ _

theorem kept_timeSettle : ∀ s, Kept s (State.timeSettle s) := by
  intro s
  unfold State.timeSettle
  extract_lets -lift l0 l1
  refine Kept.upd ?_ rfl rfl rfl rfl rfl
  exact Kept.refl _

theorem kept_logClock : ∀ s, Kept s (State.logClock s) := by
  intro s
  unfold State.logClock
  exact kept_logEv _ _ _ _ _

theorem kept_setCorr : ∀ s x1, Kept s (State.setCorr s x1) := by
  intro s x1
  unfold State.setCorr
  extract_lets -lift l0 l1
  have k2 : Kept s l1 := by
    unfold l1
    exact Kept.trans (kept_timeSettle _) (kept_put _ _ _ _)
  clear_value l1
  exact Kept.ite (k2.trans (kept_logClock _)) k2

theorem kept_tsDropTdoa : ∀ s, Kept s (State.tsDropTdoa s) := by
  intro s
  unfold State.tsDropTdoa
  refine Kept.upd ?_ rfl rfl rfl rfl rfl
  exact Kept.refl _

theorem kept_errBit : ∀ s x1 x2 x3 x4, Kept s (State.errBit s x1 x2 x3 x4) := by
  intro s x1 x2 x3 x4
  unfold State.errBit
  extract_lets -lift l0 l1
  have k2 : Kept s l1 := by
    unfold l1
    exact kept_put _ _ _ _
  clear_value l1
  refine Kept.foldl (fun s3 i3 => ?_) ?_
  · exact kept_put _ _ _ _
  · exact k2

theorem kept_setQual : ∀ s x1, Kept s (State.setQual s x1) := by
  intro s x1
  unfold State.setQual
  refine Kept.ite (Kept.refl _) ?_
  extract_lets -lift l0 l1 l2 l3
  have k4 : Kept s l1 := by
    unfold l1
    refine Kept.upd ?_ rfl rfl rfl rfl rfl
    exact Kept.refl _
  clear_value l1
  refine Kept.ite ?_ k4
  refine Kept.trans ?_ (kept_tsDropTdoa _)
  refine Kept.trans ?_ (kept_errBit _ _ _ _ _)
  refine Kept.upd ?_ rfl rfl rfl rfl rfl
  exact k4

theorem kept_sourceLost : ∀ s, Kept s (State.sourceLost s) := by
  intro s
  unfold State.sourceLost
  extract_lets -lift l0 l1
  have k2 : Kept s l1 := by
    unfold l1
    refine Kept.trans ?_ (kept_bump _ _ _)
    refine Kept.upd ?_ rfl rfl rfl rfl rfl
    exact Kept.refl _
  clear_value l1
  exact Kept.ite (k2.trans (kept_setQual _ _)) k2

theorem kept_acquire : ∀ s, Kept s (State.acquire s) := by
  intro s
  unfold State.acquire
  exact Kept.ite (Kept.refl _) (Kept.ite (kept_setQual _ _) (Kept.ite (kept_setQual _ _) (Kept.refl _)))

theorem kept_setPort : ∀ s x1, Kept s (State.setPort s x1) := by
  intro s x1
  unfold State.setPort
  refine Kept.ite (Kept.refl _) ?_
  extract_lets -lift l0 l1 l2 l3 l4 l5
  have k6 : Kept s l1 := by
    unfold l1
    refine Kept.ite ?_ ?_
    · refine Kept.upd ?_ rfl rfl rfl rfl rfl
      exact Kept.refl _
    · refine Kept.upd ?_ rfl rfl rfl rfl rfl
      exact Kept.refl _
  clear_value l1
  have k7 : Kept s l2 := by
    unfold l2
    exact Kept.ite (k6.trans (kept_sourceLost _)) k6
  clear_value l2
  have k8 : Kept s l4 := by
    unfold l4
    refine Kept.ite ?_ k7
    refine Kept.trans ?_ (kept_acquire _)
    refine Kept.upd ?_ rfl rfl rfl rfl rfl
    exact k7
  clear_value l4
  refine Kept.upd ?_ rfl rfl rfl rfl rfl
  exact k8

theorem kept_ptpEnable : ∀ s, Kept s (State.ptpEnable s) := by
  intro s
  unfold State.ptpEnable
  refine Kept.ite (kept_setPort _ _) ?_
  refine Kept.ite ?_ (Kept.refl _)
  refine Kept.trans ?_ (kept_setPort _ _)
  refine Kept.upd ?_ rfl rfl rfl rfl rfl
  exact Kept.refl _

theorem kept_asymmetry : ∀ s x1, Kept s (State.asymmetry s x1) := by
  intro s x1
  unfold State.asymmetry
  refine Kept.trans ?_ (kept_put _ _ _ _)
  refine Kept.upd ?_ rfl rfl rfl rfl rfl
  exact Kept.refl _

theorem kept_gpioHolds : ∀ x0 s, Kept s (State.gpioHolds x0 s) := fun x0 s =>
  Kept.upd (Kept.refl s) rfl rfl rfl rfl rfl

theorem kept_store : ∀ s x1 x2 x3, Kept s (State.store s x1 x2 x3) := by
  intro s x1 x2 x3
  unfold State.store
  extract_lets -lift l0 l1
  have k2 : Kept s l0 := by
    unfold l0
    exact kept_put _ _ _ _
  clear_value l0
  refine Kept.ite (kept_storeTok _ _ _ _) ?_
  refine Kept.ite (k2.trans (kept_mirror _ _ _ _)) ?_
  refine Kept.ite (k2.trans (kept_mirror _ _ _ _)) ?_
  refine Kept.ite (k2.trans (kept_canStart _ _)) ?_
  refine Kept.ite ?_ ?_
  · refine Kept.ite ?_ k2
    refine Kept.foldl (fun s3 i3 => ?_) ?_
    · exact kept_canRecover _ _
    · exact k2
  · refine Kept.ite (Kept.trans (kept_timeSettle _) (kept_put _ _ _ _)) ?_
    refine Kept.ite ?_ ?_
    · exact Kept.ite (Kept.trans (Kept.trans (kept_timeSettle _) (kept_put _ _ _ _)) (kept_setCorr _ _)) k2
    · refine Kept.ite (k2.trans (kept_ptpEnable _)) ?_
      refine Kept.ite (kept_asymmetry _ _) ?_
      refine Kept.ite (k2.trans (kept_gpioHolds _ _)) ?_
      refine Kept.ite ?_ k2
      refine Kept.upd ?_ rfl rfl rfl rfl rfl
      exact k2

theorem kept_idleSweep : ∀ s, Kept s (State.idleSweep s) := by
  intro s
  unfold State.idleSweep
  refine Kept.ite (Kept.refl _) ?_
  extract_lets -lift l0 l1
  refine Kept.foldl (fun s2 i2 => ?_) ?_
  · extract_lets -lift l3 l4
    refine Kept.ite (kept_store _ _ _ _) ?_
    refine Kept.upd ?_ rfl rfl rfl rfl rfl
    exact Kept.refl _
  · refine Kept.upd ?_ rfl rfl rfl rfl rfl
    exact Kept.refl _

theorem kept_noteIdle : ∀ s, Kept s (State.noteIdle s) := by
  intro s
  unfold State.noteIdle
  refine Kept.upd ?_ rfl rfl rfl rfl rfl
  exact Kept.refl _

theorem kept_logOrder : ∀ s x1, Kept s (State.logOrder s x1) := by
  intro s x1
  unfold State.logOrder
  refine Kept.ite (Kept.refl _) ?_
  extract_lets -lift l0 l1 l2 l3
  refine Kept.upd ?_ rfl rfl rfl rfl rfl
  exact Kept.refl _

theorem kept_ntfFlush : ∀ s, Kept s (State.ntfFlush s) := by
  intro s
  unfold State.ntfFlush
  extract_lets -lift l0 l1 l2 l3
  have k4 : Kept s l0 := by
    unfold l0
    refine Kept.foldl (fun s5 i5 => ?_) ?_
    · extract_lets -lift l6 l7 l8
      have k9 : Kept s5 l8 := by
        unfold l8
        refine Kept.upd ?_ rfl rfl rfl rfl rfl
        exact Kept.refl _
      clear_value l8
      refine Kept.ite (Kept.refl _) ?_
      refine Kept.foldl (fun s10 i10 => ?_) ?_
      · exact kept_netSend _ _ _
      · exact k9
    · exact Kept.refl _
  clear_value l0
  have k11 : Kept s l3 := by
    unfold l3
    refine Kept.upd ?_ rfl rfl rfl rfl rfl
    exact k4
  clear_value l3
  refine Kept.ite k4 ?_
  refine Kept.foldl (fun s12 i12 => ?_) ?_
  · exact kept_twinMsg _ _
  · exact k11

theorem kept_draw : ∀ s x1, Kept s (State.draw s x1).2 := by
  intro s x1
  unfold State.draw
  extract_lets -lift l0 l1
  dsimp -zeta only [ret]
  refine Kept.trans ?_ (kept_bump _ _ _)
  refine Kept.upd ?_ rfl rfl rfl rfl rfl
  exact Kept.refl _

theorem kept_rngRandom : ∀ s x1, Kept s (State.rngRandom s x1).2 := by
  intro s x1
  unfold State.rngRandom
  refine Kept.ite_snd (Kept.refl _) ?_
  refine Kept.ite_snd ?_ ?_
  · extract_lets -lift l0
    have k1 : Kept s l0.2 := by
      unfold l0
      exact kept_draw _ _
    clear_value l0
    dsimp -zeta only [ret]
    exact k1
  · dsimp -zeta only [ret]
    refine Kept.upd ?_ rfl rfl rfl rfl rfl
    exact Kept.refl _

theorem kept_rawRo : ∀ s, Kept s (State.rawRo s).2 := by
  intro s
  unfold State.rawRo
  dsimp -zeta only [ret]
  refine Kept.upd ?_ rfl rfl rfl rfl rfl
  exact Kept.refl _

theorem kept_tmrCapRead : ∀ s x1, Kept s (State.tmrCapRead s x1) := by
  intro s x1
  unfold State.tmrCapRead
  extract_lets -lift l0 l1
  refine Kept.upd ?_ rfl rfl rfl rfl rfl
  exact Kept.refl _

theorem kept_tsRead : ∀ s x1, Kept s (State.tsRead s x1) := by
  intro s x1
  unfold State.tsRead
  refine Kept.upd ?_ rfl rfl rfl rfl rfl
  exact Kept.refl _

theorem kept_readEffect : ∀ s x1 x2, Kept s (State.readEffect s x1 x2) := by
  intro s x1 x2
  unfold State.readEffect
  exact Kept.ite (kept_tmrCapRead _ _) (Kept.ite (kept_tsRead _ _) (Kept.refl _))

theorem kept_serveRead : ∀ s x1 x2 x3, Kept s (State.serveRead s x1 x2 x3).2 := by
  intro s x1 x2 x3
  unfold State.serveRead
  refine Kept.ite_snd (kept_rngRandom _ _) ?_
  refine Kept.ite_snd ?_ ?_
  · extract_lets -lift l0
    have k1 : Kept s l0.2 := by
      unfold l0
      exact kept_rawRo _
    clear_value l0
    dsimp -zeta only [ret]
    exact k1
  · dsimp -zeta only [ret]
    exact kept_readEffect _ _ _

theorem kept_notify : ∀ s x1 x2 x3 x4, Kept s (State.notify s x1 x2 x3 x4) := by
  intro s x1 x2 x3 x4
  unfold State.notify
  split
  · exact Kept.refl _
  · extract_lets -lift l0 l1 l2 l3
    have k4 : Kept s l0.2 := by
      unfold l0
      exact Kept.ite_snd (kept_serveRead _ _ _ _) (Kept.refl _)
    clear_value l0
    have k5 : Kept s l2 := by
      unfold l2
      exact k4
    clear_value l2
    refine Kept.upd ?_ rfl rfl rfl rfl rfl
    exact k5

theorem kept_changed : ∀ s x1, Kept s (State.changed s x1) := by
  intro s x1
  unfold State.changed
  extract_lets -lift l0 l1 l2
  have k3 : Kept s l2 := by
    unfold l2
    refine Kept.upd ?_ rfl rfl rfl rfl rfl
    exact Kept.refl _
  clear_value l2
  refine Kept.ite (Kept.refl _) ?_
  refine Kept.ite ?_ (k3.trans (kept_notify _ _ _ _ _))
  refine Kept.upd ?_ rfl rfl rfl rfl rfl
  exact Kept.refl _

theorem kept_notifyAll : ∀ s, Kept s (State.notifyAll s) := by
  intro s
  unfold State.notifyAll
  refine Kept.foldl (fun s0 i0 => ?_) ?_
  · exact kept_changed _ _
  · exact Kept.refl _

theorem kept_fin : ∀ s x1, Kept s (State.fin s x1) := by
  intro s x1
  unfold State.fin
  extract_lets -lift l0 l1 l2 l3
  have k4 : Kept s l0 := by
    unfold l0
    exact Kept.trans (Kept.trans (Kept.trans (kept_lfSettle _) (kept_nfcSettle _)) (kept_deliver _)) (kept_resetSent _)
  clear_value l0
  have k5 : Kept s l1 := by
    unfold l1
    exact Kept.ite (k4.trans (kept_engEvAll _ _)) k4
  clear_value l1
  have k6 : Kept s l2 := by
    unfold l2
    exact Kept.ite (k5.trans (kept_engEvAll _ _)) k5
  clear_value l2
  have k7 : Kept s l3 := by
    unfold l3
    exact k6.trans (kept_idleSweep _)
  clear_value l3
  refine Kept.trans ?_ (kept_noteIdle _)
  exact Kept.trans (Kept.trans (k7.trans (kept_notifyAll _)) (kept_ntfFlush _)) (kept_logOrder _ _)

theorem kept_run : ∀ x0 x1 s, (∀ s, Kept s (x1 s)) → Kept s (State.run x0 x1 s) := by
  intro x0 x1 s h0
  unfold State.run
  extract_lets -lift l0
  have k1 : Kept s l0 := by
    unfold l0
    exact kept_tick _ _
  clear_value l0
  exact Kept.trans (k1.trans (h0 _)) (kept_fin _ _)

theorem kept_whenLive : ∀ s x1, (∀ s, Kept s (x1 s)) → Kept s (State.whenLive s x1) := by
  intro s x1 h0
  unfold State.whenLive
  exact Kept.ite (h0 _) (Kept.refl _)

theorem kept_lfCarrierOff : ∀ s, Kept s (State.lfCarrierOff s) := by
  intro s
  unfold State.lfCarrierOff
  split
  · exact Kept.refl _
  · refine Kept.upd ?_ rfl rfl rfl rfl rfl
    exact Kept.refl _

theorem kept_sendReport : ∀ s x1 x2 x3 x4 x5, Kept s (State.sendReport s x1 x2 x3 x4 x5) := by
  intro s x1 x2 x3 x4 x5
  unfold State.sendReport
  extract_lets -lift l0 l1
  have k2 : Kept s l1 := by
    unfold l1
    exact kept_bump _ _ _
  clear_value l1
  refine Kept.ite ?_ ?_
  · split
    · exact Kept.refl _
    · split
      · exact Kept.refl _
      · exact k2.trans (kept_segSend _ _ _ _ _)
  · refine Kept.ite ?_ (Kept.refl _)
    split
    · exact Kept.refl _
    · exact k2.trans (kept_segSend _ _ _ _ _)

theorem kept_newNonce : ∀ s x1 x2 x3, Kept s (State.newNonce s x1 x2 x3).2 := by
  intro s x1 x2 x3
  unfold State.newNonce
  extract_lets -lift l0 l1 l2 l3
  have k4 : Kept s l0 := by
    unfold l0
    exact kept_boundary _ _
  clear_value l0
  have k5 : Kept s l1.2 := by
    unfold l1
    exact k4.trans (kept_draw _ _)
  clear_value l1
  have k6 : Kept s l2 := by
    unfold l2
    exact k5
  clear_value l2
  dsimp -zeta only [ret]
  refine Kept.upd ?_ rfl rfl rfl rfl rfl
  exact k6

theorem kept_nodeSend : ∀ s x1 x2 x3, Kept s (State.nodeSend s x1 x2 x3) := by
  intro s x1 x2 x3
  unfold State.nodeSend
  split
  · exact Kept.refl _
  · exact kept_segSend _ _ _ _ _

theorem kept_lfRequest : ∀ s x1 x2 x3 x4, Kept s (State.lfRequest s x1 x2 x3 x4) := by
  intro s x1 x2 x3 x4
  unfold State.lfRequest
  refine Kept.ite (Kept.refl _) ?_
  extract_lets -lift l0 l1 l2 l3 l4
  have k5 : Kept s l0.2 := by
    unfold l0
    exact kept_newNonce _ _ _ _
  clear_value l0
  have k6 : Kept s l3 := by
    unfold l3
    exact k5
  clear_value l3
  refine Kept.trans ?_ (kept_nodeSend _ _ _ _)
  refine Kept.upd ?_ rfl rfl rfl rfl rfl
  exact k6

theorem kept_slotNext : ∀ s x1, Kept s (State.slotNext s x1) := by
  intro s x1
  unfold State.slotNext
  extract_lets -lift l0 l1 l2 l3 l4
  have k5 : Kept s l3 := by
    unfold l3
    refine Kept.upd ?_ rfl rfl rfl rfl rfl
    exact Kept.refl _
  clear_value l3
  split
  · exact k5
  · refine Kept.ite k5 ?_
    extract_lets -lift l6 l7 l8
    have k9 : Kept s l7 := by
      unfold l7
      refine Kept.upd ?_ rfl rfl rfl rfl rfl
      exact k5
    clear_value l7
    split
    · refine Kept.upd ?_ rfl rfl rfl rfl rfl
      exact k9
    · exact k9.trans (kept_lfRequest _ _ _ _ _)

theorem kept_slotStart : ∀ s x1 x2 x3, Kept s (State.slotStart s x1 x2 x3) := by
  intro s x1 x2 x3
  unfold State.slotStart
  extract_lets -lift l0 l1 l2
  exact kept_slotNext _ _

theorem kept_lfOver : ∀ s x1 x2, Kept s (State.lfOver s x1 x2) := by
  intro s x1 x2
  unfold State.lfOver
  extract_lets -lift l0 l1 l2 l3
  have k4 : Kept s l2 := by
    unfold l2
    refine Kept.upd ?_ rfl rfl rfl rfl rfl
    exact Kept.refl _
  clear_value l2
  split
  · exact k4
  · exact k4
  · split
    · exact Kept.ite k4 (k4.trans (kept_sendReport _ _ _ _ _ _))
    · split
      · refine Kept.ite ?_ ?_
        · refine Kept.upd ?_ rfl rfl rfl rfl rfl
          exact k4
        · split
          · exact k4.trans (kept_slotNext _ _)
          · exact k4
      · exact k4

theorem kept_lfCollision : ∀ s, Kept s (State.lfCollision s) := by
  intro s
  unfold State.lfCollision
  split
  · exact Kept.refl _
  · extract_lets -lift l0 l1
    have k2 : Kept s l0 := by
      unfold l0
      exact Kept.trans (kept_lfCarrierOff _) (kept_bump _ _ _)
    clear_value l0
    split
    · refine Kept.trans ?_ (kept_sendReport _ _ _ _ _ _)
      refine Kept.upd ?_ rfl rfl rfl rfl rfl
      exact k2
    · split
      · exact Kept.trans (k2.trans (kept_lfOver _ _ _)) (kept_slotStart _ _ _ _)
      · exact k2.trans (kept_lfOver _ _ _)

theorem kept_resultPlain : ∀ s x1 x2 x3, Kept s (State.resultPlain s x1 x2 x3) := by
  intro s x1 x2 x3
  unfold State.resultPlain
  exact kept_vsend _ _ _

theorem kept_modCtr : ∀ s x1 x2, Kept s (State.modCtr s x1 x2) := by
  intro s x1 x2
  unfold State.modCtr
  split
  · refine Kept.upd ?_ rfl rfl rfl rfl rfl
    exact Kept.refl _
  · refine Kept.upd ?_ rfl rfl rfl rfl rfl
    exact Kept.refl _

theorem kept_takePend : ∀ s x1, Kept s (State.takePend s x1).2 := by
  intro s x1
  unfold State.takePend
  extract_lets -lift l0
  dsimp -zeta only [ret]
  exact kept_modCtr _ _ _

theorem kept_mirrorLock : ∀ s x1 x2 x3 x4, Kept s (State.mirrorLock s x1 x2 x3 x4) := by
  intro s x1 x2 x3 x4
  unfold State.mirrorLock
  exact kept_mirror _ _ _ _

theorem kept_logLock : ∀ s x1 x2 x3 x4 x5, Kept s (State.logLock s x1 x2 x3 x4 x5) := by
  intro s x1 x2 x3 x4 x5
  unfold State.logLock
  exact kept_logEv _ _ _ _ _

theorem kept_setFails : ∀ s x1, Kept s (State.setFails s x1) := by
  intro s x1
  unfold State.setFails
  refine Kept.upd ?_ rfl rfl rfl rfl rfl
  exact Kept.refl _

theorem kept_failClaim : ∀ s x1 x2, Kept s (State.failClaim s x1 x2) := by
  intro s x1 x2
  unfold State.failClaim
  extract_lets -lift l0 l1 l2 l3 l4
  have k5 : Kept s l1 := by
    unfold l1
    exact kept_boundary _ _
  clear_value l1
  split
  · unfold l4
    extract_lets -lift l6
    refine Kept.ite ?_ ?_
    · refine Kept.upd ?_ rfl rfl rfl rfl rfl
      exact Kept.refl _
    · exact Kept.trans (Kept.trans (k5.trans (kept_setFails _ _)) (kept_logLock _ _ _ _ _ _)) (kept_mirrorLock _ _ _ _ _)
  · split
    · exact Kept.refl _
    · unfold l4
      extract_lets -lift l7
      refine Kept.ite ?_ ?_
      · refine Kept.upd ?_ rfl rfl rfl rfl rfl
        exact Kept.refl _
      · exact Kept.trans (Kept.trans (k5.trans (kept_setFails _ _)) (kept_logLock _ _ _ _ _ _)) (kept_mirrorLock _ _ _ _ _)

theorem kept_failIface : ∀ s x1, Kept s (State.failIface s x1) := by
  intro s x1
  unfold State.failIface
  split
  · exact Kept.refl _
  · extract_lets -lift l0 l1
    refine Kept.ite ?_ ?_
    · refine Kept.upd ?_ rfl rfl rfl rfl rfl
      exact Kept.refl _
    · refine Kept.trans ?_ (kept_mirrorLock _ _ _ _ _)
      refine Kept.trans ?_ (kept_logLock _ _ _ _ _ _)
      refine Kept.upd ?_ rfl rfl rfl rfl rfl
      exact Kept.refl _

theorem kept_countFail : ∀ s x1 x2, Kept s (State.countFail s x1 x2) := by
  intro s x1 x2
  unfold State.countFail
  extract_lets -lift l0
  have k1 : Kept s l0 := by
    unfold l0
    split
    · exact Kept.refl _
    · exact kept_failClaim _ _ _
  clear_value l0
  exact Kept.trans (Kept.ite k1 (k1.trans (kept_failIface _ _))) (kept_bump _ _ _)

theorem kept_clearClaim : ∀ s x1 x2, Kept s (State.clearClaim s x1 x2) := by
  intro s x1 x2
  unfold State.clearClaim
  refine Kept.upd ?_ rfl rfl rfl rfl rfl
  exact Kept.refl _

theorem kept_openSession : ∀ s x1 x2 x3 x4, Kept s (State.openSession s x1 x2 x3 x4).2 := by
  intro s x1 x2 x3 x4
  unfold State.openSession
  extract_lets -lift l0 l1 l2 l3 l4 l5
  dsimp -zeta only [ret]
  refine Kept.upd ?_ rfl rfl rfl rfl rfl
  exact Kept.refl _

theorem kept_sesOpened : ∀ s x1, Kept s (State.sesOpened s x1) := by
  intro s x1
  unfold State.sesOpened
  split
  · refine Kept.upd ?_ rfl rfl rfl rfl rfl
    exact Kept.refl _
  · exact Kept.refl _

theorem kept_jwrite : ∀ s x1, Kept s (State.jwrite s x1) := by
  intro s x1
  unfold State.jwrite
  extract_lets -lift l0 l1 l2 l3
  refine Kept.ite ?_ ?_
  · refine Kept.upd ?_ rfl rfl rfl rfl rfl
    exact Kept.refl _
  · refine Kept.upd ?_ rfl rfl rfl rfl rfl
    exact Kept.refl _

theorem kept_jput : ∀ s x1, Kept s (State.jput s x1) := by
  intro s x1
  unfold State.jput
  exact kept_jwrite _ _

theorem kept_sendCommit : ∀ s x1 x2, Kept s (State.sendCommit s x1 x2).2 := by
  intro s x1 x2
  unfold State.sendCommit
  extract_lets -lift l0 l1 l2 l3
  have k4 : Kept s l2 := by
    unfold l2
    exact kept_twinSend _ _ _
  clear_value l2
  dsimp -zeta only [ret]
  refine Kept.upd ?_ rfl rfl rfl rfl rfl
  exact k4

theorem kept_advance : ∀ s x1 x2 x3 x4 x5 x6 x7, Kept s (State.advance s x1 x2 x3 x4 x5 x6 x7) := by
  intro s x1 x2 x3 x4 x5 x6 x7
  unfold State.advance
  extract_lets -lift l0 l1 l2 l3
  have k4 : Kept s l0 := by
    unfold l0
    exact kept_jput _ _
  clear_value l0
  have k5 : Kept s l1.2 := by
    unfold l1
    refine Kept.ite_snd (k4.trans (kept_sendCommit _ _ _)) ?_
    dsimp -zeta only [ret]
    exact k4
  clear_value l1
  have k6 : Kept s l2 := by
    unfold l2
    exact k5
  clear_value l2
  refine Kept.upd ?_ rfl rfl rfl rfl rfl
  exact k6

theorem kept_learnOpen : ∀ s x1 x2 x3, Kept s (State.learnOpen s x1 x2 x3).2 := by
  intro s x1 x2 x3
  unfold State.learnOpen
  refine Kept.ite_snd (Kept.refl _) ?_
  dsimp -zeta only [ret]
  refine Kept.upd ?_ rfl rfl rfl rfl rfl
  exact Kept.refl _

theorem kept_oweLast : ∀ s, Kept s (State.oweLast s) := by
  intro s
  unfold State.oweLast
  refine Kept.upd ?_ rfl rfl rfl rfl rfl
  exact Kept.refl _

theorem kept_mctrEnd : ∀ s x1, Kept s (State.mctrEnd s x1) := by
  intro s x1
  unfold State.mctrEnd
  split
  · exact Kept.refl _
  · exact Kept.ite (kept_endSession _ _ _) (Kept.refl _)

theorem kept_openEntry : ∀ s x1 x2 x3, Kept s (State.openEntry s x1 x2 x3) := by
  intro s x1 x2 x3
  unfold State.openEntry
  split
  · extract_lets -lift l0 l1
    refine Kept.upd ?_ rfl rfl rfl rfl rfl
    exact Kept.refl _
  · extract_lets -lift l2 l3
    have k4 : Kept s l2 := by
      unfold l2
      exact kept_boundary _ _
    clear_value l2
    refine Kept.upd ?_ rfl rfl rfl rfl rfl
    exact k4

theorem kept_openStart : ∀ s x1 x2, Kept s (State.openStart s x1 x2) := by
  intro s x1 x2
  unfold State.openStart
  split
  · extract_lets -lift l0 l1
    refine Kept.upd ?_ rfl rfl rfl rfl rfl
    exact Kept.refl _
  · extract_lets -lift l2 l3
    have k4 : Kept s l2 := by
      unfold l2
      exact kept_boundary _ _
    clear_value l2
    refine Kept.upd ?_ rfl rfl rfl rfl rfl
    exact k4

theorem kept_command : ∀ s x1 x2 x3 x4, Kept s (State.command s x1 x2 x3 x4) := by
  intro s x1 x2 x3 x4
  unfold State.command
  split
  · exact Kept.trans (kept_openEntry _ _ _ _) (kept_openReq _ _ _ _ _ _)
  · exact Kept.trans (kept_openEntry _ _ _ _) (kept_openReq _ _ _ _ _ _)
  · exact Kept.trans (kept_openEntry _ _ _ _) (kept_openReq _ _ _ _ _ _)
  · exact Kept.trans (kept_openStart _ _ _) (kept_openReq _ _ _ _ _ _)
  · refine Kept.foldl (fun s0 i0 => ?_) ?_
    · exact kept_endEntry _ _ _
    · exact kept_lockRequest _ _
  · exact kept_openEntry _ _ _ _
  · split
    · exact Kept.refl _
    · exact kept_modSes _ _ _
  · exact Kept.refl _

theorem kept_proofAccepted : ∀ s x1 x2 x3 x4 x5 x6, Kept s (State.proofAccepted s x1 x2 x3 x4 x5 x6) := by
  intro s x1 x2 x3 x4 x5 x6
  unfold State.proofAccepted
  extract_lets -lift l0 l1 l2 l3 l4 l5 l6 l7 l8 l9 l10
  have k11 : Kept s l1 := by
    unfold l1
    exact kept_clearClaim _ _ _
  clear_value l1
  have k12 : Kept s l2.2 := by
    unfold l2
    exact k11.trans (kept_openSession _ _ _ _ _)
  clear_value l2
  have k13 : Kept s l3.2 := by
    unfold l3
    split
    · dsimp -zeta only [ret]
      exact k11
    · dsimp -zeta only [ret]
      exact k12.trans (kept_sesOpened _ _)
  clear_value l3
  have k14 : Kept s l4 := by
    unfold l4
    exact k13.trans (kept_advance _ _ _ _ _ _ _ _)
  clear_value l4
  have k15 : Kept s l5.2 := by
    unfold l5
    refine Kept.ite_snd (k14.trans (kept_learnOpen _ _ _ _)) ?_
    dsimp -zeta only [ret]
    exact k14
  clear_value l5
  have k16 : Kept s l9 := by
    unfold l9
    exact Kept.ite (k15.trans (kept_oweLast _)) k15
  clear_value l9
  have k17 : Kept s l10 := by
    unfold l10
    exact Kept.trans (k16.trans (kept_sesSendRaw _ _ _ _ _)) (kept_mctrEnd _ _)
  clear_value l10
  exact k17.trans (kept_command _ _ _ _ _)

theorem kept_present : ∀ s x1 x2 x3 x4, (∀ y0 y1, Kept y1 (x4 y0 y1).2) → Kept s (State.present s x1 x2 x3 x4).2 := by
  intro s x1 x2 x3 x4 h0
  unfold State.present
  extract_lets -lift l0 l1 l2 l3 l4 l5 l6 l7 l8 l9 l10 l11
  have k12 : Kept s l7.2 := by
    unfold l7
    exact h0 _ _
  clear_value l7
  have k13 : Kept s l9 := by
    unfold l9
    exact k12
  clear_value l9
  refine Kept.ite_snd (Kept.refl _) ?_
  refine Kept.ite_snd ?_ ?_
  · unfold l3
    dsimp -zeta only [ret]
    refine Kept.trans ?_ (kept_resultPlain _ _ _ _)
    clear_value l2
    split
    · exact kept_takePend _ _
    · exact Kept.refl _
  · split
    · unfold l3
      dsimp -zeta only [ret]
      refine Kept.trans ?_ (kept_resultPlain _ _ _ _)
      clear_value l2
      split
      · exact kept_takePend _ _
      · exact Kept.refl _
    · refine Kept.ite_snd ?_ ?_
      · unfold l3
        dsimp -zeta only [ret]
        refine Kept.trans ?_ (kept_resultPlain _ _ _ _)
        clear_value l2
        split
        · exact kept_takePend _ _
        · exact Kept.refl _
      · refine Kept.ite_snd ?_ ?_
        · unfold l3
          dsimp -zeta only [ret]
          refine Kept.trans ?_ (kept_resultPlain _ _ _ _)
          clear_value l2
          split
          · exact kept_takePend _ _
          · exact Kept.refl _
        · refine Kept.ite_snd ?_ ?_
          · unfold l3
            dsimp -zeta only [ret]
            refine Kept.trans ?_ (kept_resultPlain _ _ _ _)
            clear_value l2
            split
            · exact kept_takePend _ _
            · exact Kept.refl _
          · extract_lets -lift l14 l15 l16 l17
            have k18 : Kept s l16 := by
              unfold l16
              refine Kept.upd ?_ rfl rfl rfl rfl rfl
              exact k13
            clear_value l16
            have k19 : Kept s l17 := by
              unfold l17
              exact Kept.ite (k18.trans (kept_countFail _ _ _)) k18
            clear_value l17
            split
            · dsimp -zeta only [ret]
              exact k19.trans (kept_resultPlain _ _ _ _)
            · refine Kept.ite_snd ?_ ?_
              · dsimp -zeta only [ret]
                exact k19.trans (kept_proofAccepted _ _ _ _ _ _ _)
              · extract_lets -lift l20
                dsimp -zeta only [ret]
                split
                · exact Kept.trans (k19.trans (kept_sesSendRaw _ _ _ _ _)) (kept_mctrEnd _ _)
                · exact k19.trans (kept_vsend _ _ _)

theorem kept_cacheMirror : ∀ s x1, Kept s (State.cacheMirror s x1) := by
  intro s x1
  unfold State.cacheMirror
  split
  · exact Kept.refl _
  · exact kept_mirror _ _ _ _

theorem kept_exhausted : ∀ s x1, Kept s (State.exhausted s x1) := by
  intro s x1
  unfold State.exhausted
  refine Kept.ite ?_ (Kept.refl _)
  split
  · exact Kept.ite (Kept.refl _) (kept_modTok _ _ _)
  · refine Kept.trans ?_ (kept_cacheMirror _ _)
    refine Kept.upd ?_ rfl rfl rfl rfl rfl
    exact Kept.refl _

theorem kept_ctrJudge : ∀ s x1 x2 x3, Kept s (State.ctrJudge s x1 x2 x3).2 := by
  intro s x1 x2 x3
  unfold State.ctrJudge
  extract_lets -lift l0 l1
  have k2 : Kept s l0 := by
    unfold l0
    exact kept_boundary _ _
  clear_value l0
  split
  · dsimp -zeta only [ret]
    exact k2
  · extract_lets -lift l3 l4 l5
    have k6 : Kept s l5 := by
      unfold l5
      exact k2.trans (kept_modCtr _ _ _)
    clear_value l5
    dsimp -zeta only [ret]
    exact Kept.ite (k6.trans (kept_exhausted _ _)) k6

theorem kept_counterStep : ∀ s x1 x2 x3 x4 x5, Kept s (State.counterStep s x1 x2 x3 x4 x5).2 := by
  intro s x1 x2 x3 x4 x5
  unfold State.counterStep
  extract_lets -lift l0 l1
  have k2 : Kept s l1.2 := by
    unfold l1
    exact kept_ctrJudge _ _ _ _
  clear_value l1
  refine Kept.ite_snd (Kept.refl _) ?_
  refine Kept.ite_snd (Kept.refl _) ?_
  split
  · dsimp -zeta only [ret]
    exact k2
  · dsimp -zeta only [ret]
    exact k2
  · dsimp -zeta only [ret]
    exact k2

theorem kept_judgeTok : ∀ s x1 x2 x3 x4 x5 x6 x7 x8, Kept s (State.judgeTok s x1 x2 x3 x4 x5 x6 x7 x8).2 := by
  intro s x1 x2 x3 x4 x5 x6 x7 x8
  unfold State.judgeTok
  split
  · exact Kept.refl _
  · extract_lets -lift l0 l1 l2 l3 l4 l5
    have k6 : Kept s l1.2 := by
      unfold l1
      exact kept_takePend _ _
    clear_value l1
    have k7 : Kept s l2 := by
      unfold l2
      exact k6
    clear_value l2
    have k8 : Kept s l5 := by
      unfold l5
      exact k7.trans (kept_cxUse _ _ _)
    clear_value l5
    refine Kept.ite_snd ?_ ?_
    · dsimp -zeta only [ret]
      exact k7
    · refine Kept.ite_snd ?_ ?_
      · dsimp -zeta only [ret]
        exact k7
      · refine Kept.ite_snd ?_ ?_
        · dsimp -zeta only [ret]
          exact k7
        · split
          · dsimp -zeta only [ret]
            exact k7
          · split
            · dsimp -zeta only [ret]
              exact k8
            · extract_lets -lift l9
              refine Kept.ite_snd ?_ ?_
              · dsimp -zeta only [ret]
                exact k8
              · split
                · dsimp -zeta only [ret]
                  exact k8
                · refine Kept.ite_snd ?_ ?_
                  · dsimp -zeta only [ret]
                    exact k8
                  · refine Kept.ite_snd ?_ (k8.trans (kept_counterStep _ _ _ _ _ _))
                    dsimp -zeta only [ret]
                    exact k8

theorem kept_lfProof : ∀ s x1 x2 x3 x4 x5 x6, Kept s (State.lfProof s x1 x2 x3 x4 x5 x6).2 := by
  intro s x1 x2 x3 x4 x5 x6
  unfold State.lfProof
  refine kept_present _ _ _ _ _ ?_
  intro z0
  intro z1
  exact kept_judgeTok _ _ _ _ _ _ _ _ _

theorem kept_lfPresented : ∀ s x1 x2 x3 x4 x5 x6, Kept s (State.lfPresented s x1 x2 x3 x4 x5 x6) := by
  intro s x1 x2 x3 x4 x5 x6
  unfold State.lfPresented
  extract_lets -lift l0 l1 l2 l3
  have k4 : Kept s l0 := by
    unfold l0
    exact kept_lfCarrierOff _
  clear_value l0
  have k5 : Kept s l2.2 := by
    unfold l2
    exact k4.trans (kept_lfProof _ _ _ _ _ _ _)
  clear_value l2
  have k6 : Kept s l3 := by
    unfold l3
    refine Kept.ite ?_ k5
    split
    · exact Kept.trans (k5.trans (kept_tsAdmit _ _ _)) (kept_bump _ _ _)
    · exact k5
  clear_value l3
  split
  · refine Kept.trans ?_ (kept_sendReport _ _ _ _ _ _)
    refine Kept.upd ?_ rfl rfl rfl rfl rfl
    exact k4
  · exact k6.trans (kept_lfOver _ _ _)

theorem kept_lfReplyIn : ∀ s x1 x2, Kept s (State.lfReplyIn s x1 x2) := by
  intro s x1 x2
  unfold State.lfReplyIn
  split
  · exact Kept.refl _
  · refine Kept.ite (Kept.refl _) ?_
    split
    · exact kept_lfCollision _
    · exact kept_lfPresented _ _ _ _ _ _ _

theorem kept_whenUp : ∀ s x1, (∀ s, Kept s (x1 s)) → Kept s (State.whenUp s x1) := by
  intro s x1 h0
  unfold State.whenUp
  exact Kept.ite (Kept.refl _) (h0 _)

theorem kept_rbSample : ∀ s x1 x2, Kept s (State.rbSample s x1 x2) := by
  intro s x1 x2
  unfold State.rbSample
  refine Kept.ite ?_ (Kept.refl _)
  extract_lets -lift l0 l1 l2 l3 l4
  have k5 : Kept s l3 := by
    unfold l3
    refine Kept.upd ?_ rfl rfl rfl rfl rfl
    exact Kept.refl _
  clear_value l3
  refine Kept.ite ?_ ?_
  · refine Kept.upd ?_ rfl rfl rfl rfl rfl
    exact Kept.refl _
  · refine Kept.ite ?_ k5
    refine Kept.trans ?_ (kept_logEv _ _ _ _ _)
    refine Kept.trans ?_ (kept_errBit _ _ _ _ _)
    refine Kept.upd ?_ rfl rfl rfl rfl rfl
    exact k5

theorem kept_xcDropAux : ∀ s x1, Kept s (State.xcDropAux s x1) := by
  intro s x1
  unfold State.xcDropAux
  exact kept_setXc _ _ _

theorem kept_limCut : ∀ s x1 x2, Kept s (State.limCut s x1 x2) := by
  intro s x1 x2
  unfold State.limCut
  extract_lets -lift l0 l1
  have k2 : Kept s l1 := by
    unfold l1
    refine Kept.upd ?_ rfl rfl rfl rfl rfl
    exact Kept.refl _
  clear_value l1
  exact Kept.trans (Kept.trans (k2.trans (kept_bump _ _ _)) (kept_errBit _ _ _ _ _)) (kept_logEv _ _ _ _ _)

theorem kept_limAdd : ∀ s x1 x2 x3 x4, Kept s (State.limAdd s x1 x2 x3 x4) := by
  intro s x1 x2 x3 x4
  unfold State.limAdd
  refine Kept.upd ?_ rfl rfl rfl rfl rfl
  exact Kept.refl _

theorem kept_uwbOnAir : ∀ s x1 x2, Kept s (State.uwbOnAir s x1 x2) := by
  intro s x1 x2
  unfold State.uwbOnAir
  extract_lets -lift l0 l1 l2
  have k3 : Kept s l0 := by
    unfold l0
    exact kept_limAdd _ _ _ _ _
  clear_value l0
  have k4 : Kept s l1 := by
    unfold l1
    exact Kept.ite (k3.trans (kept_limAdd _ _ _ _ _)) k3
  clear_value l1
  exact k4.trans (kept_setXc _ _ _)

theorem kept_auxSend : ∀ s x1 x2 x3, Kept s (State.auxSend s x1 x2 x3).2 := by
  intro s x1 x2 x3
  unfold State.auxSend
  extract_lets -lift l0 l1 l2 l3 l4
  have k5 : Kept s l0 := by
    unfold l0
    exact kept_boundary _ _
  clear_value l0
  dsimp -zeta only [ret]
  refine Kept.trans ?_ (kept_uwbOnAir _ _ _)
  refine Kept.upd ?_ rfl rfl rfl rfl rfl
  exact k5

theorem kept_packetEnd : ∀ s x1 x2, Kept s (State.packetEnd s x1 x2) := by
  intro s x1 x2
  unfold State.packetEnd
  extract_lets -lift l0 l1 l2 l3
  have k4 : Kept s l1 := by
    unfold l1
    exact kept_boundary _ _
  clear_value l1
  refine Kept.ite ?_ (Kept.refl _)
  split
  · exact k4.trans (kept_setXc _ _ _)
  · refine Kept.ite (Kept.trans (k4.trans (kept_setXc _ _ _)) (kept_serveXc _ _)) ?_
    exact Kept.ite (k4.trans (kept_setXc _ _ _)) (k4.trans (kept_setXc _ _ _))

theorem kept_hearAux : ∀ s x1, Kept s (State.hearAux s x1).2 := by
  intro s x1
  unfold State.hearAux
  exact kept_hearBy _ _ _ _ _ _

theorem kept_auxDone : ∀ s x1 x2, Kept s (State.auxDone s x1 x2).2 := by
  intro s x1 x2
  unfold State.auxDone
  split
  · exact Kept.refl _
  · extract_lets -lift l0 l1 l2 l3 l4
    have k5 : Kept s l1 := by
      unfold l1
      refine Kept.trans ?_ (kept_xcDropAux _ _)
      refine Kept.upd ?_ rfl rfl rfl rfl rfl
      exact Kept.refl _
    clear_value l1
    refine Kept.ite_snd ?_ ?_
    · dsimp -zeta only [ret]
      exact k5
    · refine Kept.ite_snd ?_ ?_
      · dsimp -zeta only [ret]
        exact k5
      · refine Kept.ite_snd (Kept.refl _) ?_
        clear_value l4
        split
        · refine Kept.ite_snd ?_ ?_
          · dsimp -zeta only [ret]
            exact k5.trans (kept_bump _ _ _)
          · refine Kept.ite_snd (Kept.refl _) ?_
            refine Kept.ite_snd ?_ ?_
            · dsimp -zeta only [ret]
              exact k5
            · refine Kept.ite_snd ?_ ?_
              · dsimp -zeta only [ret]
                exact k5.trans (kept_limCut _ _ _)
              · extract_lets -lift l6
                have k7 : Kept s l6.2 := by
                  unfold l6
                  exact k5.trans (kept_auxSend _ _ _ _)
                clear_value l6
                dsimp -zeta only [ret]
                exact k7
        · split
          · refine Kept.ite_snd (Kept.refl _) ?_
            dsimp -zeta only [ret]
            exact k5.trans (kept_packetEnd _ _ _)
          · extract_lets -lift l8
            have k9 : Kept s l8.2 := by
              unfold l8
              exact k5.trans (kept_hearAux _ _)
            clear_value l8
            split
            · dsimp -zeta only [ret]
              exact k9.trans (kept_packetEnd _ _ _)
            · dsimp -zeta only [ret]
              exact k9.trans (kept_packetEnd _ _ _)

theorem kept_xcRequest : ∀ s x1 x2, Kept s (State.xcRequest s x1 x2) := by
  intro s x1 x2
  unfold State.xcRequest
  exact kept_xcRequestAt _ _ _ _

theorem kept_askRound : ∀ s x1, Kept s (State.askRound s x1) := by
  intro s x1
  unfold State.askRound
  refine Kept.foldl (fun s0 i0 => ?_) ?_
  · exact kept_xcRequest _ _ _
  · exact Kept.refl _

theorem kept_auxAnswer : ∀ s x1 x2, Kept s (State.auxAnswer s x1 x2) := by
  intro s x1 x2
  unfold State.auxAnswer
  extract_lets -lift l0
  have k1 : Kept s l0 := by
    unfold l0
    exact kept_answer _ _ _ _
  clear_value l0
  split
  · exact k1.trans (kept_engEv _ _ _)
  · exact k1

theorem kept_auxHeld : ∀ s x1, Kept s (State.auxHeld s x1) := by
  intro s x1
  unfold State.auxHeld
  extract_lets -lift l0 l1 l2
  have k3 : Kept s l2 := by
    unfold l2
    refine Kept.upd ?_ rfl rfl rfl rfl rfl
    exact Kept.refl _
  clear_value l2
  refine Kept.foldl (fun s4 i4 => ?_) ?_
  · exact Kept.trans (kept_xcDropAux _ _) (kept_auxAnswer _ _ _)
  · exact k3

theorem kept_sendPlans : ∀ s x1, Kept s (State.sendPlans s x1) := by
  intro s x1
  unfold State.sendPlans
  refine Kept.foldl (fun s0 i0 => ?_) ?_
  · refine Kept.ite (Kept.refl _) ?_
    refine Kept.ite ?_ ?_
    · split
      · exact kept_segSend _ _ _ _ _
      · exact Kept.refl _
    · refine Kept.ite ?_ (Kept.refl _)
      split
      · exact kept_nodeSend _ _ _ _
      · exact Kept.refl _
  · exact Kept.refl _

theorem kept_commitRound : ∀ s x1, Kept s (State.commitRound s x1) := by
  intro s x1
  unfold State.commitRound
  extract_lets -lift l0 l1 l2 l3 l4
  have k5 : Kept s l0.2 := by
    unfold l0
    exact kept_draw _ _
  clear_value l0
  have k6 : Kept s l3 := by
    unfold l3
    exact k5.trans (kept_cxUse _ _ _)
  clear_value l3
  refine Kept.trans ?_ (kept_askRound _ _)
  refine Kept.trans ?_ (kept_auxHeld _ _)
  refine Kept.trans ?_ (kept_sendPlans _ _)
  refine Kept.upd ?_ rfl rfl rfl rfl rfl
  exact k6

theorem kept_placeRounds : ∀ s x1 x2, Kept s (State.placeRounds s x1 x2)
  | s, 0, _ => by unfold State.placeRounds; exact Kept.refl s
  | s, _ + 1, [] => by unfold State.placeRounds; exact Kept.refl s
  | s, n + 1, r :: rs => by
    unfold State.placeRounds
    extract_lets busy
    split
    · exact kept_placeRounds s n rs
    · refine Kept.trans ?_ (kept_placeRounds _ n _)
      refine Kept.trans ?_ (kept_commitRound _ _)
      exact Kept.upd (Kept.foldl (fun s q => kept_xcDrop s _ _) (Kept.refl s)) rfl rfl rfl rfl rfl

theorem kept_setReasm : ∀ s x1 x2, Kept s (State.setReasm s x1 x2) := by
  intro s x1 x2
  unfold State.setReasm
  refine Kept.upd ?_ rfl rfl rfl rfl rfl
  exact Kept.refl _

theorem kept_fdTimeout : ∀ s x1, Kept s (State.fdTimeout s x1) := by
  intro s x1
  unfold State.fdTimeout
  split
  · exact Kept.ite (kept_setReasm _ _ _) (Kept.refl _)
  · exact Kept.refl _

theorem kept_loadCommit : ∀ s x1, Kept s (State.loadCommit s x1).2 := by
  intro s x1
  unfold State.loadCommit
  split
  · exact Kept.refl _
  · refine Kept.ite_snd (Kept.refl _) ?_
    extract_lets -lift l0 l1 l2 l3 l4 l5 l6
    have k7 : Kept s l2 := by
      unfold l2
      refine Kept.upd ?_ rfl rfl rfl rfl rfl
      exact Kept.refl _
    clear_value l2
    have k8 : Kept s l5 := by
      unfold l5
      exact kept_cxUse _ _ _
    clear_value l5
    refine Kept.ite_snd ?_ ?_
    · dsimp -zeta only [ret]
      exact k7
    · refine Kept.ite_snd ?_ ?_
      · dsimp -zeta only [ret]
        exact k7
      · refine Kept.ite_snd ?_ ?_
        · dsimp -zeta only [ret]
          exact k7
        · refine Kept.ite_snd ?_ ?_
          · dsimp -zeta only [ret]
            exact k7
          · refine Kept.ite_snd ?_ ?_
            · dsimp -zeta only [ret]
              exact k7
            · refine Kept.ite_snd ?_ ?_
              · dsimp -zeta only [ret]
                exact k7
              · refine Kept.ite_snd ?_ ?_
                · dsimp -zeta only [ret]
                  exact k7
                · dsimp -zeta only [ret]
                  refine Kept.upd ?_ rfl rfl rfl rfl rfl
                  exact k8

theorem kept_modSource : ∀ s x1 x2, Kept s (State.modSource s x1 x2) := by
  intro s x1 x2
  unfold State.modSource
  refine Kept.upd ?_ rfl rfl rfl rfl rfl
  exact Kept.refl _

theorem kept_sourcesUp : ∀ s, Kept s (State.sourcesUp s) := by
  intro s
  unfold State.sourcesUp
  extract_lets -lift l0
  exact Kept.trans (Kept.trans (kept_modSource _ _ _) (kept_modSource _ _ _)) (kept_modSource _ _ _)

theorem kept_engObjWrite : ∀ s x1 x2 x3 x4, Kept s (State.engObjWrite s x1 x2 x3 x4) := by
  intro s who n o v
  unfold State.engObjWrite
  extract_lets e s1 e1
  have h1 : Kept s s1 := (Kept.refl s).updEng fun ca _ => memWrite_wf (engine_wf ca.2.2 n) _ _
  clear_value s1
  refine Kept.ite ?_ h1
  refine Kept.trans ?_ (kept_engEv _ n 16)
  exact h1.updEng fun _ cx => engine_wf cx.2.2 n

theorem kept_tagStray : ∀ s, Kept s (State.tagStray s) := by
  intro s
  unfold State.tagStray
  refine Kept.ite ?_ (Kept.refl _)
  refine Kept.upd ?_ rfl rfl rfl rfl rfl
  exact Kept.refl _

theorem kept_tagRats : ∀ s, Kept s (State.tagRats s) := by
  intro s
  unfold State.tagRats
  refine Kept.ite ?_ (kept_tagStray _)
  refine Kept.trans ?_ (kept_bump _ _ _)
  refine Kept.upd ?_ rfl rfl rfl rfl rfl
  exact Kept.refl _

theorem kept_engRun : ∀ x0 x1 x2 s, (∀ s, Kept s (x2 s)) → Kept s (State.engRun x0 x1 x2 s) := by
  intro x0 x1 x2 s h0
  unfold State.engRun
  extract_lets -lift l0 l1
  have k2 : Kept s l0 := by
    unfold l0
    exact kept_tick _ _
  clear_value l0
  have k3 : Kept s l1 := by
    unfold l1
    exact k2.trans (h0 _)
  clear_value l1
  exact Kept.ite k3 (k3.trans (kept_fin _ _))

theorem kept_engRelease : ∀ s x1, Kept s (State.engRelease s x1) := by
  intro s x1
  unfold State.engRelease
  extract_lets -lift l0 l1 l2 l3 l4 l5 l6
  have k7 : Kept s l1 := by
    unfold l1
    refine Kept.foldl (fun s8 i8 => ?_) ?_
    · exact kept_put _ _ _ _
    · exact Kept.refl _
  clear_value l1
  have k9 : Kept s l5 := by
    unfold l5
    refine Kept.upd ?_ rfl rfl rfl rfl rfl
    exact k7
  clear_value l5
  refine Kept.updEng ?_ (fun ca10 cx10 => ?_)
  · exact k9
  · exact engine_wf cx10.2.2 _

theorem kept_engTrap : ∀ s x1 x2 x3, Kept s (State.engTrap s x1 x2 x3) := by
  intro s x1 x2 x3
  unfold State.engTrap
  extract_lets -lift l0 l1 l2 l3 l4
  have k5 : Kept s l4 := by
    unfold l4
    refine Kept.updEng ?_ (fun ca6 cx6 => ?_)
    · exact Kept.refl _
    · exact engine_wf cx6.2.2 _
  clear_value l4
  refine Kept.trans ?_ (kept_logEv _ _ _ _ _)
  refine Kept.trans ?_ (kept_errBit _ _ _ _ _)
  exact Kept.trans (Kept.trans (k5.trans (kept_engRelease _ _)) (kept_put _ _ _ _)) (kept_bump _ _ _)

theorem kept_issueOn : ∀ s x1 x2 x3 x4 x5 x6, OpWf x6 → Kept s (State.issueOn s x1 x2 x3 x4 x5 x6) := by
  intro s n gp gs dec combo op hop
  unfold State.issueOn
  extract_lets e
  have he : Canonical s → Mem.wf e.data := fun hc => by
    unfold e; rw [settle_data]; exact engine_wf hc.2.2 n
  clear_value e
  refine Kept.ite (kept_engTrap s n _ _) ?_
  split
  · exact kept_engTrap s n _ _
  · refine Kept.ite (kept_engTrap s n _ _) (Kept.ite ?_ ?_)
    · exact (Kept.refl s).updEng fun ca _ => by rw [next_data]; exact he ca
    · have hw : Canonical s → ResWf (op e s.eng.mbx s.cyc) := fun hc => hop e _ _ (he hc) hc.2.1
      split
      · exact ((Kept.refl s).updEng fun ca _ => he ca).trans (kept_engTrap _ n _ _)
      · next e1 c heq =>
        exact ((Kept.refl s).updEng fun ca _ => by have := hw ca; rw [heq] at this; exact this).trans (kept_engTrap _ n _ _)
      · next e1 m heq =>
        have h1 : Kept s (s.setEngine n { e1.next with pass := false }) :=
          (Kept.refl s).updEng fun ca _ => by have := hw ca; rw [heq] at this; rw [next_data]; exact this.1
        exact ⟨h1.fuse, h1.pending, h1.now, fun hc => ⟨(h1.canon hc).1, by have := hw hc; rw [heq] at this; exact this.2, (h1.canon hc).2.2⟩, h1.lock⟩
      · next e1 a heq => exact (Kept.refl s).updEng fun ca _ => by have := hw ca; rw [heq] at this; exact this

theorem kept_issueWord : ∀ s x1 x2 x3, OpWf x3 → Kept s (State.issueWord s x1 x2 x3) := fun s n _ op h =>
  kept_issueOn s n _ _ _ _ op h

theorem kept_engStep : ∀ s x1 x2 x3, (∀ w, OpWf (x3 w)) → Kept s (State.engStep s x1 x2 x3) := by
  intro s n o op h
  unfold State.engStep
  exact Kept.ite (kept_issueWord s n _ _ (h _)) (Kept.refl s)

theorem kept_netLast : ∀ s x1, Kept s (State.netLast s x1) := by
  intro s x1
  unfold State.netLast
  exact Kept.ite (kept_netDrop _ _) (Kept.refl _)

theorem kept_netCount : ∀ s x1, Kept s (State.netCount s x1) := by
  intro s x1
  unfold State.netCount
  exact Kept.ite (kept_modNet _ _ _) (Kept.refl _)

theorem kept_answered : ∀ s x1 x2 x3, Kept s (State.answered s x1 x2 x3) := by
  intro s x1 x2 x3
  unfold State.answered
  split
  · exact Kept.trans (Kept.trans (kept_netCount _ _) (kept_netSay _ _ _ _)) (kept_netLast _ _)
  · exact kept_twinSay _ _ _
  · refine Kept.trans ?_ (kept_resetArm _)
    refine Kept.upd ?_ rfl rfl rfl rfl rfl
    exact Kept.refl _

theorem kept_tmrEvent : ∀ s x1 x2 x3, Kept s (State.tmrEvent s x1 x2 x3) := by
  intro s x1 x2 x3
  unfold State.tmrEvent
  exact Kept.ite (kept_engEv _ _ _) (Kept.refl _)

theorem kept_setTmr : ∀ s x1 x2, Kept s (State.setTmr s x1 x2) := by
  intro s x1 x2
  unfold State.setTmr
  refine Kept.trans ?_ (kept_tmrEvent _ _ _ _)
  refine Kept.upd ?_ rfl rfl rfl rfl rfl
  exact Kept.refl _

theorem kept_topHold : ∀ s x1 x2, Kept s (State.topHold s x1 x2) := by
  intro s x1 x2
  unfold State.topHold
  extract_lets -lift l0 l1
  refine Kept.ite ?_ (Kept.refl _)
  refine Kept.upd ?_ rfl rfl rfl rfl rfl
  exact Kept.refl _

theorem kept_tmrSettle : ∀ s x1, Kept s (State.tmrSettle s x1) := by
  intro s x1
  unfold State.tmrSettle
  refine Kept.ite ?_ (Kept.refl _)
  extract_lets -lift l0
  exact Kept.trans (kept_topHold _ _ _) (kept_setTmr _ _ _)

theorem kept_tmrCtrl : ∀ s x1 x2, Kept s (State.tmrCtrl s x1 x2) := by
  intro s x1 x2
  unfold State.tmrCtrl
  extract_lets -lift l0 l1 l2
  have k3 : Kept s l0 := by
    unfold l0
    exact kept_tmrSettle _ _
  clear_value l0
  exact Kept.ite (k3.trans (kept_setTmr _ _ _)) (k3.trans (kept_setTmr _ _ _))

theorem kept_tmrCount : ∀ s x1 x2, Kept s (State.tmrCount s x1 x2) := by
  intro s x1 x2
  unfold State.tmrCount
  exact kept_setTmr _ _ _

theorem kept_tmrEnd : ∀ s x1 x2, Kept s (State.tmrEnd s x1 x2) := by
  intro s x1 x2
  unfold State.tmrEnd
  extract_lets -lift l0 l1 l2 l3
  have k4 : Kept s l0 := by
    unfold l0
    exact kept_tmrSettle _ _
  clear_value l0
  refine Kept.ite (Kept.ite (k4.trans (kept_setTmr _ _ _)) (k4.trans (kept_setTmr _ _ _))) ?_
  exact Kept.ite (k4.trans (kept_setTmr _ _ _)) (Kept.ite (k4.trans (kept_setTmr _ _ _)) (k4.trans (kept_setTmr _ _ _)))

theorem kept_tmrCmp : ∀ s x1 x2, Kept s (State.tmrCmp s x1 x2) := by
  intro s x1 x2
  unfold State.tmrCmp
  extract_lets -lift l0 l1
  have k2 : Kept s l0 := by
    unfold l0
    exact kept_tmrSettle _ _
  clear_value l0
  refine Kept.ite (k2.trans (kept_setTmr _ _ _)) ?_
  exact Kept.ite (k2.trans (kept_setTmr _ _ _)) (Kept.ite (k2.trans (kept_setTmr _ _ _)) (k2.trans (kept_setTmr _ _ _)))

theorem kept_tmrCmpB : ∀ s x1 x2, Kept s (State.tmrCmpB s x1 x2) := by
  intro s x1 x2
  unfold State.tmrCmpB
  extract_lets -lift l0 l1
  have k2 : Kept s l0 := by
    unfold l0
    exact kept_tmrSettle _ _
  clear_value l0
  exact k2.trans (kept_setTmr _ _ _)

theorem kept_tmrStatus : ∀ s x1 x2, Kept s (State.tmrStatus s x1 x2) := by
  intro s x1 x2
  unfold State.tmrStatus
  extract_lets -lift l0 l1
  have k2 : Kept s l0 := by
    unfold l0
    exact kept_tmrSettle _ _
  clear_value l0
  refine Kept.upd ?_ rfl rfl rfl rfl rfl
  exact k2

theorem kept_tmrMask : ∀ s x1 x2, Kept s (State.tmrMask s x1 x2) := by
  intro s x1 x2
  unfold State.tmrMask
  extract_lets -lift l0 l1
  have k2 : Kept s l0 := by
    unfold l0
    exact kept_tmrSettle _ _
  clear_value l0
  exact k2.trans (kept_setTmr _ _ _)

theorem kept_storeTmr : ∀ s x1 x2 x3, Kept s (State.storeTmr s x1 x2 x3).2 := by
  intro s x1 x2 x3
  unfold State.storeTmr
  extract_lets -lift l0 l1
  have k2 : Kept s l1 := by
    unfold l1
    exact kept_tmrEnd _ _ _
  clear_value l1
  split
  · dsimp -zeta only [ret]
    exact kept_tmrCtrl _ _ _
  · dsimp -zeta only [ret]
    exact kept_tmrCount _ _ _
  · dsimp -zeta only [ret]
    exact k2
  · dsimp -zeta only [ret]
    exact kept_tmrCmp _ _ _
  · dsimp -zeta only [ret]
    exact kept_tmrCmpB _ _ _
  · dsimp -zeta only [ret]
    exact kept_tmrStatus _ _ _
  · dsimp -zeta only [ret]
    exact kept_tmrMask _ _ _

theorem kept_modChar : ∀ s x1 x2, Kept s (State.modChar s x1 x2) := by
  intro s x1 x2
  unfold State.modChar
  refine Kept.upd ?_ rfl rfl rfl rfl rfl
  exact Kept.refl _

theorem kept_charClaim : ∀ s x1 x2, Kept s (State.charClaim s x1 x2).2 := by
  intro s x1 x2
  unfold State.charClaim
  extract_lets -lift l0
  refine Kept.ite_snd (Kept.refl _) ?_
  refine Kept.ite_snd ?_ (Kept.refl _)
  dsimp -zeta only [ret]
  exact kept_modChar _ _ _

theorem kept_storeChar : ∀ s x1 x2 x3 x4, Kept s (State.storeChar s x1 x2 x3 x4).2 := by
  intro s x1 x2 x3 x4
  unfold State.storeChar
  extract_lets -lift l0 l1
  have k2 : Kept s l1.2 := by
    unfold l1
    exact kept_charClaim _ _ _
  clear_value l1
  split
  · exact Kept.refl _
  · refine Kept.ite_snd ?_ ?_
    · dsimp -zeta only [ret]
      exact k2.trans (kept_modChar _ _ _)
    · dsimp -zeta only [ret]
      exact k2.trans (kept_setPend _ _ _ _)

theorem kept_tagAclWrite : ∀ s x1 x2 x3, Kept s (State.tagAclWrite s x1 x2 x3) := by
  intro s x1 x2 x3
  unfold State.tagAclWrite
  extract_lets -lift l0 l1
  refine Kept.upd ?_ rfl rfl rfl rfl rfl
  exact Kept.refl _

theorem kept_tagKeyWrite : ∀ s x1 x2, Kept s (State.tagKeyWrite s x1 x2).2 := by
  intro s x1 x2
  unfold State.tagKeyWrite
  split
  · exact Kept.refl _
  · split
    · exact Kept.refl _
    · split
      · exact Kept.refl _
      · refine Kept.ite_snd (Kept.refl _) ?_
        dsimp -zeta only [ret]
        refine Kept.upd ?_ rfl rfl rfl rfl rfl
        exact Kept.refl _

theorem kept_applyWrite : ∀ s x1 x2 x3 x4, Kept s (State.applyWrite s x1 x2 x3 x4).2 := by
  intro s who idx sub data
  unfold State.applyWrite
  extract_lets -lift v ok
  refine Kept.ite_snd ?_ (Kept.ite_snd (kept_storeTmr s _ _ _) (Kept.ite_snd ?_ (Kept.ite_snd (kept_storeChar s _ _ _ _)
    (Kept.ite_snd (kept_tagAclWrite s _ _ _) (Kept.ite_snd (kept_tagKeyWrite s _ _) (Kept.ite_snd ?_ ?_))))))
  · split
    · exact kept_engObjWrite s _ _ _ _
    · exact Kept.refl s
  · exact (kept_storeTmr s _ _ _).trans (kept_gpioHolds _ _)
  · exact (Kept.refl s).updEngs fun hc => ⟨memWrite_wf hc.2.1 _ _, hc.2.2⟩
  · split
    · dsimp only
      split
      · exact (kept_setPend s _ _ _).trans (kept_mirror _ _ _ _)
      · exact kept_setPend s _ _ _
    · exact kept_store s _ _ _

theorem kept_notifyEng : ∀ s x1 x2 x3, Kept s (State.notifyEng s x1 x2 x3) := by
  intro s x1 x2 x3
  unfold State.notifyEng
  refine Kept.foldl (fun s0 i0 => ?_) ?_
  · exact kept_changed _ _
  · exact Kept.refl _

theorem kept_devCommit : ∀ s x1, Kept s (State.devCommit s x1).2 := by
  intro s x1
  unfold State.devCommit
  refine Kept.ite_snd (Kept.refl _) ?_
  dsimp -zeta only [ret]
  refine Kept.upd ?_ rfl rfl rfl rfl rfl
  exact Kept.refl _

theorem kept_restoreOne : ∀ s x1, Kept s (State.restoreOne s x1) := by
  intro s k
  unfold State.restoreOne
  extract_lets idx sub v
  split
  · exact kept_setPend s _ _ _
  · exact Kept.ite (kept_store s _ _ _) (Kept.upd (Kept.refl s) rfl rfl rfl rfl rfl)
  · exact Kept.ite ((Kept.refl s).updReg fun h => ⟨alDel_sorted h.1 _, h.2⟩) (kept_store s _ _ _)

theorem kept_restoreAll : ∀ s, Kept s (State.restoreAll s) := by
  intro s
  unfold State.restoreAll
  refine Kept.updEngs (Kept.foldl (fun s k => kept_restoreOne s k) (Kept.refl s)) fun hc => ⟨hc.2.1, ?_⟩
  exact wf_map hc.2.2 fun _ => restore_wf

theorem kept_no : ∀ s x1 x2, Kept s (State.no s x1 x2).2 := by
  intro s x1 x2
  unfold State.no
  exact Kept.refl _

theorem kept_devReset : ∀ s x1, Kept s (State.devReset s x1).2 := by
  intro s x1
  unfold State.devReset
  refine Kept.ite_snd (kept_no _ _ _) ?_
  refine Kept.ite_snd (kept_no _ _ _) ?_
  dsimp -zeta only [ret]
  refine Kept.upd ?_ rfl rfl rfl rfl rfl
  exact Kept.refl _

theorem kept_netDropAll : ∀ s, Kept s (State.netDropAll s) := by
  intro s
  unfold State.netDropAll
  refine Kept.foldl (fun s0 i0 => ?_) ?_
  · exact kept_netDrop _ _
  · exact Kept.refl _

theorem kept_putFloor : ∀ s, Kept s (State.putFloor s) := by
  intro s
  unfold State.putFloor
  extract_lets -lift l0 l1 l2
  have k3 : Kept s l0 := by
    unfold l0
    exact kept_jput _ _
  clear_value l0
  refine Kept.upd ?_ rfl rfl rfl rfl rfl
  exact k3

theorem kept_shutdown : ∀ s x1, Kept s (State.shutdown s x1).2 := by
  intro s x1
  unfold State.shutdown
  refine Kept.ite_snd (Kept.refl _) ?_
  refine Kept.ite_snd (Kept.refl _) ?_
  refine Kept.ite_snd (Kept.refl _) ?_
  extract_lets -lift l0 l1 l2
  have k3 : Kept s l0 := by
    unfold l0
    refine Kept.trans ?_ (kept_netDropAll _)
    refine Kept.foldl (fun s4 i4 => ?_) ?_
    · split
      · exact Kept.refl _
      · exact kept_endSession _ _ _
    · exact Kept.refl _
  clear_value l0
  have k5 : Kept s l1 := by
    unfold l1
    exact k3.trans (kept_putFloor _)
  clear_value l1
  dsimp -zeta only [ret]
  refine Kept.upd ?_ rfl rfl rfl rfl rfl
  exact k5

theorem kept_modPage : ∀ s x1 x2, Kept s (State.modPage s x1 x2) := by
  intro s x1 x2
  unfold State.modPage
  refine Kept.upd ?_ rfl rfl rfl rfl rfl
  exact Kept.refl _

theorem kept_modReq : ∀ s x1 x2 x3, Kept s (State.modReq s x1 x2 x3) := by
  intro s x1 x2 x3
  unfold State.modReq
  exact kept_modPage _ _ _

theorem kept_cxFeed : ∀ s x1, Kept s (State.cxFeed s x1) := by
  intro s x1
  unfold State.cxFeed
  split
  · exact Kept.refl _
  · refine Kept.ite (Kept.refl _) ?_
    split
    · exact Kept.refl _
    · extract_lets -lift l0 l1
      have k2 : Kept s l0 := by
        unfold l0
        exact kept_modReq _ _ _ _
      clear_value l0
      refine Kept.upd ?_ rfl rfl rfl rfl rfl
      exact k2

theorem kept_cxStart : ∀ s x1 x2, Kept s (State.cxStart s x1 x2) := by
  intro s x1 x2
  unfold State.cxStart
  extract_lets -lift l0 l1 l2 l3 l4
  have k5 : Kept s l1 := by
    unfold l1
    exact kept_modReq _ _ _ _
  clear_value l1
  exact Kept.ite (k5.trans (kept_modReq _ _ _ _)) (Kept.ite (k5.trans (kept_modReq _ _ _ _)) (k5.trans (kept_modReq _ _ _ _)))

theorem kept_cxStartAll : ∀ s, Kept s (State.cxStartAll s) := by
  intro s
  unfold State.cxStartAll
  refine Kept.foldl (fun s0 i0 => ?_) ?_
  · refine Kept.foldl (fun s1 i1 => ?_) ?_
    · split
      · exact kept_cxStart _ _ _
      · exact Kept.refl _
    · exact Kept.refl _
  · exact Kept.refl _

theorem kept_cxRun : ∀ s, Kept s (State.cxRun s) := by
  intro s
  unfold State.cxRun
  refine Kept.ite ?_ (Kept.refl _)
  refine Kept.foldl (fun s0 i0 => ?_) ?_
  · exact kept_cxFeed _ _
  · exact kept_cxStartAll _

theorem kept_cxWrite : ∀ s x1 x2 x3, Kept s (State.cxWrite s x1 x2 x3) := by
  intro s page a b
  unfold State.cxWrite
  refine Kept.ite ?_ ((Kept.refl s).updEngs fun hc => ⟨memWrite_wf hc.2.1 _ _, hc.2.2⟩)
  exact (Kept.refl s).updEng fun ca _ => memWrite_wf (engine_wf ca.2.2 _) _ _

theorem kept_cxRelease : ∀ s x1 x2 x3, Kept s (State.cxRelease s x1 x2 x3) := by
  intro s x1 x2 x3
  unfold State.cxRelease
  exact Kept.ite (Kept.trans (kept_cxWrite _ _ _ _) (kept_modReq _ _ _ _)) (Kept.refl _)

theorem kept_cxFinish : ∀ s x1 x2, Kept s (State.cxFinish s x1 x2) := by
  intro s x1 x2
  unfold State.cxFinish
  extract_lets -lift l0 l1 l2 l3 l4 l5 l6 l7 l8 l9
  have k10 : Kept s l3 := by
    unfold l3
    exact Kept.ite (kept_cxWrite _ _ _ _) (Kept.ite (Kept.refl _) (kept_cxRelease _ _ _ _))
  clear_value l3
  have k11 : Kept s l6 := by
    unfold l6
    exact k10.trans (kept_modPage _ _ _)
  clear_value l6
  have k12 : Kept s l7 := by
    unfold l7
    exact Kept.trans (Kept.ite (k11.trans (kept_bump _ _ _)) k11) (kept_bumpBy _ _ _ _)
  clear_value l7
  have k13 : Kept s l8 := by
    unfold l8
    exact Kept.ite (k12.trans (kept_bump _ _ _)) k12
  clear_value l8
  have k14 : Kept s l9 := by
    unfold l9
    exact Kept.ite (k13.trans (kept_engEv _ _ _)) k13
  clear_value l9
  exact Kept.trans (k14.trans (kept_eraseDone _ _)) (kept_eraseDone _ _)

theorem kept_cxDrain : ∀ s x1, Kept s (State.cxDrain s x1) := by
  intro s x1
  unfold State.cxDrain
  refine Kept.foldl (fun s0 i0 => ?_) ?_
  · split
    · exact Kept.ite (kept_cxFinish _ _ _) (Kept.refl _)
    · exact Kept.refl _
  · exact Kept.refl _

theorem kept_cxSettle : ∀ s, Kept s (State.cxSettle s) := by
  intro s
  unfold State.cxSettle
  refine Kept.trans ?_ (kept_cxRun _)
  refine Kept.foldl (fun s0 i0 => ?_) ?_
  · exact kept_cxDrain _ _
  · exact Kept.refl _

theorem kept_cxSubmit : ∀ s x1 x2, Kept s (State.cxSubmit s x1 x2).2 := by
  intro s x1 x2
  unfold State.cxSubmit
  extract_lets -lift l0 l1 l2
  refine Kept.ite_snd (Kept.refl _) ?_
  split
  · dsimp -zeta only [ret]
    exact Kept.ite (kept_bump _ _ _) (Kept.refl _)
  · dsimp -zeta only [ret]
    exact Kept.trans (Kept.trans (kept_modPage _ _ _) (kept_cxRun _)) (kept_cxSettle _)

theorem kept_cxTake : ∀ s x1, Kept s (State.cxTake s x1).2 := by
  intro s x1
  unfold State.cxTake
  split
  · exact Kept.refl _
  · dsimp -zeta only [ret]
    exact Kept.trans (kept_modPage _ _ _) (kept_cxRun _)

theorem kept_loadSlot : ∀ s x1 x2 x3, Kept s (State.loadSlot s x1 x2 x3) := by
  intro s x1 x2 x3
  unfold State.loadSlot
  exact kept_modSlot _ _ _

theorem kept_logKey : ∀ s x1 x2, Kept s (State.logKey s x1 x2) := by
  intro s x1 x2
  unfold State.logKey
  exact kept_logEv _ _ _ _ _

theorem kept_sendKey : ∀ s x1 x2 x3, Kept s (State.sendKey s x1 x2 x3) := by
  intro s x1 x2 x3
  unfold State.sendKey
  extract_lets -lift l0 l1 l2
  have k3 : Kept s l0 := by
    unfold l0
    exact kept_twinSend _ _ _
  clear_value l0
  have k4 : Kept s l1 := by
    unfold l1
    exact k3.trans (kept_modSlot _ _ _)
  clear_value l1
  refine Kept.upd ?_ rfl rfl rfl rfl rfl
  exact k4

end Sys2Proof.Machine
end

