-- ==== Sys2Proof/Laws/KeptPart2.lean ====
section
/-! SUPPORT. Every effect of the model keeps what `Kept` says, part 2: one lemma per definition, in the order in which they call
each other. -/
namespace Sys2Proof.Machine

theorem kept_keyDone : ∀ s x1 x2 x3 x4, Kept s (State.keyDone s x1 x2 x3 x4).2 := by
  intro s x1 x2 x3 x4
  unfold State.keyDone
  extract_lets -lift l0
  have k1 : Kept s l0 := by
    unfold l0
    exact kept_logKey _ _ _
  clear_value l0
  refine Kept.ite_snd ?_ ?_
  · dsimp -zeta only [ret]
    exact k1.trans (kept_sendKey _ _ _ _)
  · dsimp -zeta only [ret]
    exact k1

theorem kept_keyImport : ∀ s x1 x2, Kept s (State.keyImport s x1 x2).2 := by
  intro s x1 x2
  unfold State.keyImport
  extract_lets -lift l0 l1 l2
  refine Kept.ite_snd (Kept.refl _) ?_
  refine Kept.ite_snd (Kept.refl _) ?_
  split
  · exact Kept.refl _
  · split
    · exact Kept.refl _
    · split
      · exact Kept.refl _
      · split
        · dsimp -zeta only [ret]
          exact kept_bump _ _ _
        · extract_lets -lift l3 l4 l5
          have k6 : Kept s l5 := by
            unfold l5
            exact Kept.trans (kept_loadSlot _ _ _ _) (kept_bump _ _ _)
          clear_value l5
          exact Kept.ite_snd (Kept.refl _) (Kept.ite_snd (Kept.refl _) (k6.trans (kept_keyDone _ _ _ _ _)))

theorem kept_keyFill : ∀ s x1 x2 x3, Kept s (State.keyFill s x1 x2 x3).2 := by
  intro s x1 x2 x3
  unfold State.keyFill
  extract_lets -lift l0 l1
  have k2 : Kept s l0.2 := by
    unfold l0
    exact kept_draw _ _
  clear_value l0
  have k3 : Kept s l1 := by
    unfold l1
    exact k2.trans (kept_loadSlot _ _ _ _)
  clear_value l1
  exact k3.trans (kept_keyDone _ _ _ _ _)

theorem kept_keyGenerate : ∀ s x1 x2, Kept s (State.keyGenerate s x1 x2).2 := by
  intro s x1 x2
  unfold State.keyGenerate
  extract_lets -lift l0 l1 l2
  refine Kept.ite_snd (Kept.refl _) ?_
  split
  · exact Kept.refl _
  · refine Kept.ite_snd (Kept.refl _) ?_
    refine Kept.ite_snd (kept_keyFill _ _ _ _) ?_
    dsimp -zeta only [ret]
    refine Kept.upd ?_ rfl rfl rfl rfl rfl
    exact Kept.refl _

theorem kept_keyDerive : ∀ s x1 x2, Kept s (State.keyDerive s x1 x2).2 := by
  intro s x1 x2
  unfold State.keyDerive
  extract_lets -lift l0 l1 l2 l3 l4 l5 l6 l7
  have k8 : Kept s l7 := by
    unfold l7
    exact Kept.trans (kept_loadSlot _ _ _ _) (kept_cxUse _ _ _)
  clear_value l7
  refine Kept.ite_snd (Kept.refl _) ?_
  refine Kept.ite_snd (Kept.refl _) ?_
  refine Kept.ite_snd (Kept.refl _) ?_
  refine Kept.ite_snd (Kept.refl _) ?_
  refine Kept.ite_snd (Kept.refl _) ?_
  refine Kept.ite_snd (Kept.refl _) ?_
  refine Kept.ite_snd (Kept.refl _) ?_
  split
  · exact Kept.refl _
  · exact Kept.ite_snd (Kept.refl _) (k8.trans (kept_keyDone _ _ _ _ _))

theorem kept_keyExport : ∀ s x1 x2, Kept s (State.keyExport s x1 x2).2 := by
  intro s x1 x2
  unfold State.keyExport
  extract_lets -lift l0 l1
  refine Kept.ite_snd (Kept.refl _) ?_
  refine Kept.ite_snd (Kept.refl _) ?_
  refine Kept.ite_snd (Kept.refl _) ?_
  refine Kept.ite_snd (Kept.refl _) ?_
  refine Kept.ite_snd (Kept.refl _) ?_
  refine Kept.ite_snd (Kept.refl _) ?_
  split
  · exact Kept.refl _
  · dsimp -zeta only [ret]
    exact kept_logKey _ _ _

theorem kept_keyErase : ∀ s x1 x2, Kept s (State.keyErase s x1 x2).2 := by
  intro s x1 x2
  unfold State.keyErase
  extract_lets -lift l0 l1 l2 l3
  have k4 : Kept s l2 := by
    unfold l2
    exact Kept.trans (kept_logKey _ _ _) (kept_bump _ _ _)
  clear_value l2
  have k5 : Kept s l3 := by
    unfold l3
    exact k4.trans (kept_eraseSlot _ _)
  clear_value l3
  refine Kept.ite_snd (Kept.refl _) ?_
  refine Kept.ite_snd (Kept.refl _) ?_
  refine Kept.ite_snd (Kept.refl _) ?_
  refine Kept.ite_snd (Kept.refl _) ?_
  refine Kept.ite_snd (Kept.refl _) ?_
  refine Kept.ite_snd (Kept.refl _) ?_
  refine Kept.ite_snd (Kept.refl _) ?_
  refine Kept.ite_snd ?_ ?_
  · dsimp -zeta only [ret]
    exact k5.trans (kept_sendKey _ _ _ _)
  · dsimp -zeta only [ret]
    exact k5

theorem kept_cxAbort : ∀ s x1 x2 x3, Kept s (State.cxAbort s x1 x2 x3) := by
  intro s x1 x2 x3
  unfold State.cxAbort
  extract_lets -lift l0 l1 l2 l3
  have k4 : Kept s l3 := by
    unfold l3
    refine Kept.upd ?_ rfl rfl rfl rfl rfl
    exact Kept.refl _
  clear_value l3
  refine Kept.foldl (fun s5 i5 => ?_) ?_
  · exact kept_cxDrain _ _
  · exact k4

theorem kept_cxZeroize : ∀ s x1, Kept s (State.cxZeroize s x1) := by
  intro s x1
  unfold State.cxZeroize
  exact kept_cxAbort _ _ _ _

theorem kept_zeroizeSlot : ∀ s x1 x2, Kept s (State.zeroizeSlot s x1 x2) := by
  intro s x1 x2
  unfold State.zeroizeSlot
  extract_lets -lift l0 l1 l2 l3 l4
  have k5 : Kept s l1 := by
    unfold l1
    exact Kept.trans (Kept.trans (Kept.trans (kept_cxZeroize _ _) (kept_logKey _ _ _)) (kept_bump _ _ _)) (kept_clearSlot _ _)
  clear_value l1
  have k6 : Kept s l4 := by
    unfold l4
    refine Kept.foldl (fun s7 i7 => ?_) ?_
    · exact kept_answer _ _ _ _
    · refine Kept.upd ?_ rfl rfl rfl rfl rfl
      exact k5
  clear_value l4
  exact Kept.ite (k6.trans (kept_twinSend _ _ _)) k6

theorem kept_keyZeroize : ∀ s x1 x2, Kept s (State.keyZeroize s x1 x2).2 := by
  intro s x1 x2
  unfold State.keyZeroize
  extract_lets -lift l0
  refine Kept.ite_snd (Kept.refl _) ?_
  refine Kept.ite_snd (Kept.refl _) ?_
  refine Kept.ite_snd (Kept.refl _) ?_
  refine Kept.ite_snd (Kept.refl _) ?_
  refine Kept.ite_snd (Kept.refl _) ?_
  dsimp -zeta only [ret]
  exact kept_zeroizeSlot _ _ _

theorem kept_zeroizeSlots : ∀ s, Kept s (State.zeroizeSlots s) := by
  intro s
  unfold State.zeroizeSlots
  refine Kept.foldl (fun s0 i0 => ?_) ?_
  · refine Kept.ite ?_ (kept_zeroizeSlot _ _ _)
    refine Kept.upd ?_ rfl rfl rfl rfl rfl
    exact Kept.refl _
  · exact Kept.refl _

theorem kept_zeroSessions : ∀ s, Kept s (State.zeroSessions s) := by
  intro s
  unfold State.zeroSessions
  refine Kept.foldl (fun s0 i0 => ?_) ?_
  · split
    · exact Kept.refl _
    · exact kept_endSession _ _ _
  · exact Kept.refl _

theorem kept_keyZeroizeAll : ∀ s x1 x2, Kept s (State.keyZeroizeAll s x1 x2).2 := by
  intro s x1 x2
  unfold State.keyZeroizeAll
  refine Kept.ite_snd (Kept.refl _) ?_
  refine Kept.ite_snd (Kept.refl _) ?_
  extract_lets -lift l0 l1 l2 l3 l4 l5
  have k6 : Kept s l0 := by
    unfold l0
    exact Kept.trans (Kept.trans (Kept.trans (kept_zeroSessions _) (kept_endAll _)) (kept_netDropAll _)) (kept_zeroizeSlots _)
  clear_value l0
  have k7 : Kept s l5 := by
    unfold l5
    refine Kept.upd ?_ rfl rfl rfl rfl rfl
    exact k6
  clear_value l5
  dsimp -zeta only [ret]
  refine Kept.foldl (fun s8 i8 => ?_) ?_
  · exact kept_put _ _ _ _
  · exact k7

theorem kept_keyRun : ∀ s x1 x2 x3, Kept s (State.keyRun s x1 x2 x3).2 := by
  intro s x1 x2 x3
  unfold State.keyRun
  refine Kept.ite_snd (kept_keyImport _ _ _) ?_
  refine Kept.ite_snd (kept_keyGenerate _ _ _) ?_
  refine Kept.ite_snd (kept_keyDerive _ _ _) ?_
  refine Kept.ite_snd (kept_keyExport _ _ _) ?_
  exact Kept.ite_snd (kept_keyErase _ _ _) (Kept.ite_snd (kept_keyZeroize _ _ _) (kept_keyZeroizeAll _ _ _))

theorem kept_keyCmd : ∀ s x1 x2 x3, Kept s (State.keyCmd s x1 x2 x3).2 := by
  intro s x1 x2 x3
  unfold State.keyCmd
  extract_lets -lift l0 l1 l2
  refine Kept.ite_snd ?_ (kept_keyRun _ _ _ _)
  dsimp -zeta only [ret]
  refine Kept.upd ?_ rfl rfl rfl rfl rfl
  exact Kept.refl _

theorem kept_freeRevoked : ∀ s, Kept s (State.freeRevoked s) := by
  intro s
  unfold State.freeRevoked
  refine Kept.upd ?_ rfl rfl rfl rfl rfl
  exact Kept.refl _

theorem kept_credRevoke : ∀ s x1, Kept s (State.credRevoke s x1).2 := by
  intro s x1
  unfold State.credRevoke
  extract_lets -lift l0 l1 l2 l3 l4 l5 l6 l7 l8
  have k9 : Kept s l5 := by
    unfold l5
    refine Kept.upd ?_ rfl rfl rfl rfl rfl
    exact Kept.refl _
  clear_value l5
  have k10 : Kept s l7 := by
    unfold l7
    refine Kept.trans ?_ (kept_mirror _ _ _ _)
    refine Kept.upd ?_ rfl rfl rfl rfl rfl
    exact k9
  clear_value l7
  have k11 : Kept s l8 := by
    unfold l8
    split
    · exact k10
    · exact k10.trans (kept_keyGone _ _ _ _)
  clear_value l8
  refine Kept.ite_snd (Kept.refl _) ?_
  refine Kept.ite_snd (Kept.refl _) ?_
  refine Kept.ite_snd ?_ ?_
  · dsimp -zeta only [ret]
    exact k9
  · dsimp -zeta only [ret]
    exact k11.trans (kept_freeRevoked _)

theorem kept_expirySweep : ∀ s, Kept s (State.expirySweep s) := by
  intro s
  unfold State.expirySweep
  extract_lets -lift l0 l1 l2 l3 l4 l5 l6
  have k7 : Kept s l2 := by
    unfold l2
    refine Kept.upd ?_ rfl rfl rfl rfl rfl
    exact Kept.refl _
  clear_value l2
  have k8 : Kept s l5 := by
    unfold l5
    refine Kept.foldl (fun s9 i9 => ?_) ?_
    · exact kept_keyGone _ _ _ _
    · exact k7
  clear_value l5
  refine Kept.upd ?_ rfl rfl rfl rfl rfl
  exact k8

theorem kept_clockConfirm : ∀ s x1 x2, Kept s (State.clockConfirm s x1 x2).2 := by
  intro s x1 x2
  unfold State.clockConfirm
  split
  · exact Kept.refl _
  · refine Kept.ite_snd (Kept.refl _) ?_
    dsimp -zeta only [ret]
    refine Kept.trans ?_ (kept_expirySweep _)
    refine Kept.trans ?_ (kept_putFloor _)
    refine Kept.upd ?_ rfl rfl rfl rfl rfl
    exact Kept.refl _

theorem kept_logTok : ∀ s x1 x2 x3, Kept s (State.logTok s x1 x2 x3) := by
  intro s x1 x2 x3
  unfold State.logTok
  exact kept_logEv _ _ _ _ _

theorem kept_xferActive : ∀ s x1 x2 x3, Kept s (State.xferActive s x1 x2 x3) := by
  intro s x1 x2 x3
  unfold State.xferActive
  split
  · exact kept_learnClose _
  · extract_lets -lift l0 l1
    have k2 : Kept s l0 := by
      unfold l0
      exact Kept.trans (kept_modTok _ _ _) (kept_logTok _ _ _ _)
    clear_value l0
    refine Kept.upd ?_ rfl rfl rfl rfl rfl
    exact k2

theorem kept_enrolImport : ∀ s x1, Kept s (State.enrolImport s x1).2 := by
  intro s x1
  unfold State.enrolImport
  split
  · exact Kept.refl _
  · split
    · exact Kept.refl _
    · refine Kept.ite_snd (Kept.refl _) ?_
      refine Kept.ite_snd (Kept.refl _) ?_
      refine Kept.ite_snd (Kept.refl _) ?_
      refine Kept.ite_snd (Kept.refl _) ?_
      dsimp -zeta only [ret]
      exact Kept.trans (kept_eraseMirrored _ _) (kept_xferActive _ _ _ _)

theorem kept_enrolCmd : ∀ s x1, Kept s (State.enrolCmd s x1).2 := by
  intro s x1
  unfold State.enrolCmd
  refine Kept.ite_snd (kept_no _ _ _) ?_
  extract_lets -lift l0
  have k1 : Kept s l0.2 := by
    unfold l0
    exact kept_enrolImport _ _
  clear_value l0
  dsimp -zeta only [ret]
  exact k1

theorem kept_revokeTok : ∀ s x1 x2, Kept s (State.revokeTok s x1 x2) := by
  intro s x1 x2
  unfold State.revokeTok
  extract_lets -lift l0 l1
  have k2 : Kept s l1 := by
    unfold l1
    exact kept_keyGone _ _ _ _
  clear_value l1
  exact Kept.trans (Kept.trans (k2.trans (kept_modTok _ _ _)) (kept_eraseMirrored _ _)) (kept_logTok _ _ _ _)

theorem kept_revokeCmd : ∀ s x1, Kept s (State.revokeCmd s x1).2 := by
  intro s x1
  unfold State.revokeCmd
  split
  · exact kept_no _ _ _
  · dsimp -zeta only [ret]
    exact kept_revokeTok _ _ _

theorem kept_lockClear : ∀ s x1, Kept s (State.lockClear s x1).2 := by
  intro s x1
  unfold State.lockClear
  extract_lets -lift l0 l1 l2 l3 l4 l5 l6
  have k7 : Kept s l6 := by
    unfold l6
    refine Kept.ite ?_ ?_
    · refine Kept.upd ?_ rfl rfl rfl rfl rfl
      exact Kept.refl _
    · refine Kept.upd ?_ rfl rfl rfl rfl rfl
      exact Kept.refl _
  clear_value l6
  refine Kept.ite_snd (Kept.refl _) ?_
  clear_value l3
  split
  · split
    · exact Kept.refl _
    · refine Kept.ite_snd ?_ (Kept.refl _)
      dsimp -zeta only [ret]
      refine Kept.trans ?_ (kept_mirrorLock _ _ _ _ _)
      refine Kept.trans ?_ (kept_logLock _ _ _ _ _ _)
      refine Kept.upd ?_ rfl rfl rfl rfl rfl
      exact Kept.refl _
  · refine Kept.ite_snd ?_ (Kept.refl _)
    dsimp -zeta only [ret]
    exact Kept.trans (k7.trans (kept_logLock _ _ _ _ _ _)) (kept_mirrorLock _ _ _ _ _)

theorem kept_tsApply : ∀ s, Kept s (State.tsApply s).2 := by
  intro s
  unfold State.tsApply
  refine Kept.ite_snd (Kept.refl _) ?_
  split
  · dsimp -zeta only [ret]
    exact kept_put _ _ _ _
  · extract_lets -lift l0 l1 l2 l3
    have k4 : Kept s l0 := by
      unfold l0
      exact Kept.trans (kept_boundary _ _) (kept_put _ _ _ _)
    clear_value l0
    have k5 : Kept s l2 := by
      unfold l2
      exact k4.trans (kept_put _ _ _ _)
    clear_value l2
    dsimp -zeta only [ret]
    refine Kept.trans ?_ (kept_tsPrune _)
    refine Kept.upd ?_ rfl rfl rfl rfl rfl
    exact k5

theorem kept_tsApplyCmd : ∀ s, Kept s (State.tsApplyCmd s).2 := by
  intro s
  unfold State.tsApplyCmd
  extract_lets -lift l0
  have k1 : Kept s l0.2 := by
    unfold l0
    exact kept_tsApply _
  clear_value l0
  dsimp -zeta only [ret]
  exact Kept.ite (k1.trans (kept_mirror _ _ _ _)) k1

theorem kept_gateLock : ∀ s, Kept s (State.gateLock s).2 := by
  intro s
  unfold State.gateLock
  exact Kept.ite_snd (kept_lockRequest _ _) (Kept.refl _)

theorem kept_faultClear : ∀ s x1, Kept s (State.faultClear s x1) := by
  intro s x1
  unfold State.faultClear
  refine Kept.upd ?_ rfl rfl rfl rfl rfl
  exact Kept.refl _

theorem kept_logQuench : ∀ s, Kept s (State.logQuench s) := by
  intro s
  unfold State.logQuench
  extract_lets -lift l0 l1 l2 l3
  refine Kept.ite ?_ ?_
  · refine Kept.upd ?_ rfl rfl rfl rfl rfl
    exact Kept.refl _
  · refine Kept.upd ?_ rfl rfl rfl rfl rfl
    exact Kept.refl _

theorem kept_refuseReq : ∀ s x1 x2 x3 x4, Kept s (State.refuseReq s x1 x2 x3 x4) := by
  intro s x1 x2 x3 x4
  unfold State.refuseReq
  refine Kept.upd ?_ rfl rfl rfl rfl rfl
  exact Kept.refl _

theorem kept_sealMake : ∀ s x1 x2 x3, (∀ y0, Kept y0 (x3 y0).2) → Kept s (State.sealMake s x1 x2 x3).2 := by
  intro s x1 x2 x3 h0
  unfold State.sealMake
  extract_lets -lift l0 l1 l2 l3 l4 l5 l6
  have k7 : Kept s l2.2 := by
    unfold l2
    refine Kept.trans ?_ (h0 _)
    refine Kept.upd ?_ rfl rfl rfl rfl rfl
    exact Kept.refl _
  clear_value l2
  have k8 : Kept s l5 := by
    unfold l5
    refine Kept.foldl (fun s9 i9 => ?_) ?_
    · exact kept_put _ _ _ _
    · exact k7
  clear_value l5
  have k10 : Kept s l6 := by
    unfold l6
    exact k8.trans (kept_logEv _ _ _ _ _)
  clear_value l6
  dsimp -zeta only [ret]
  exact Kept.ite k10 (k10.trans (kept_refuseReq _ _ _ _ _))

theorem kept_sealsVoid : ∀ s x1, Kept s (State.sealsVoid s x1) := by
  intro s x1
  unfold State.sealsVoid
  refine Kept.foldl (fun s0 i0 => ?_) ?_
  · exact kept_sealMake _ _ _ _ (fun z1 => Kept.refl _)
  · exact Kept.refl _

theorem kept_gatesClose : ∀ s, Kept s (State.gatesClose s) := by
  intro s
  unfold State.gatesClose
  refine Kept.trans ?_ (kept_noteChg s _)
  refine Kept.trans (kept_lowerStart s) ((Kept.refl _).updGate fun _ => Gate.Interlocked.closed ?_ ?_ ?_)
  · intro b hb; obtain ⟨c, -, rfl⟩ := List.mem_map.mp hb; rfl
  · intro b hb; obtain ⟨c, -, rfl⟩ := List.mem_map.mp hb; rfl
  · intro g; match g with
    | 0 => rfl
    | 1 => rfl
    | _ + 2 => rfl

theorem kept_cxQuench : ∀ s, Kept s (State.cxQuench s) := by
  intro s
  unfold State.cxQuench
  exact kept_cxAbort _ _ _ _

theorem kept_bleOff : ∀ s, Kept s (State.bleOff s) := by
  intro s
  unfold State.bleOff
  refine Kept.upd ?_ rfl rfl rfl rfl rfl
  exact Kept.refl _

theorem kept_coilsOff : ∀ s, Kept s (State.coilsOff s) := by
  intro s
  unfold State.coilsOff
  refine Kept.upd ?_ rfl rfl rfl rfl rfl
  exact Kept.refl _

theorem kept_quench : ∀ s x1, Kept s (State.quench s x1) := by
  intro s x1
  unfold State.quench
  extract_lets -lift l0 l1 l2 l3 l4 l5 l6 l7 l8 l9 l10 l11 l12
  have k13 : Kept s l0 := by
    unfold l0
    exact kept_put _ _ _ _
  clear_value l0
  have k14 : Kept s l2 := by
    unfold l2
    exact k13.trans (kept_logQuench _)
  clear_value l2
  have k15 : Kept s l5 := by
    unfold l5
    refine Kept.upd ?_ rfl rfl rfl rfl rfl
    exact k14
  clear_value l5
  have k16 : Kept s l6 := by
    unfold l6
    exact k15.trans (kept_gatesClose _)
  clear_value l6
  have k17 : Kept s l8 := by
    unfold l8
    refine Kept.trans ?_ (kept_sealsVoid _ _)
    refine Kept.trans ?_ (kept_errBit _ _ _ _ _)
    refine Kept.upd ?_ rfl rfl rfl rfl rfl
    exact k16
  clear_value l8
  have k18 : Kept s l9 := by
    unfold l9
    refine Kept.trans ?_ (kept_cxQuench _)
    refine Kept.trans ?_ (kept_bleOff _)
    refine Kept.trans ?_ (kept_coilsOff _)
    exact Kept.trans (Kept.trans (k17.trans (kept_endAll _)) (kept_netDropAll _)) (kept_radioOff _)
  clear_value l9
  refine Kept.ite k13 ?_
  refine Kept.trans ?_ (kept_engEvAll _ _)
  refine Kept.upd ?_ rfl rfl rfl rfl rfl
  exact k18

theorem kept_auxPut : ∀ s x1, Kept s (State.auxPut s x1) := by
  intro s x1
  unfold State.auxPut
  refine Kept.trans ?_ (kept_xcRequest _ _ _)
  refine Kept.upd ?_ rfl rfl rfl rfl rfl
  exact Kept.refl _

theorem kept_auxTx : ∀ s x1 x2, Kept s (State.auxTx s x1 x2).2 := by
  intro s x1 x2
  unfold State.auxTx
  extract_lets -lift l0 l1 l2 l3 l4 l5
  refine Kept.ite_snd (Kept.refl _) ?_
  refine Kept.ite_snd (Kept.refl _) ?_
  refine Kept.ite_snd (Kept.refl _) ?_
  refine Kept.ite_snd (Kept.refl _) ?_
  refine Kept.ite_snd (Kept.refl _) ?_
  refine Kept.ite_snd (Kept.refl _) ?_
  dsimp -zeta only [ret]
  exact kept_auxPut _ _

theorem kept_auxRx : ∀ s x1 x2, Kept s (State.auxRx s x1 x2).2 := by
  intro s x1 x2
  unfold State.auxRx
  extract_lets -lift l0 l1 l2
  refine Kept.ite_snd (Kept.refl _) ?_
  refine Kept.ite_snd (Kept.refl _) ?_
  refine Kept.ite_snd (Kept.refl _) ?_
  refine Kept.ite_snd (Kept.refl _) ?_
  refine Kept.ite_snd (Kept.refl _) ?_
  dsimp -zeta only [ret]
  exact kept_auxPut _ _

theorem kept_charPublish : ∀ s x1, Kept s (State.charPublish s x1).2 := by
  intro s x1
  unfold State.charPublish
  extract_lets -lift l0 l1 l2 l3 l4
  have k5 : Kept s l3 := by
    unfold l3
    refine Kept.foldl (fun s6 i6 => ?_) ?_
    · refine Kept.trans ?_ (kept_modChar _ _ _)
      exact Kept.trans (Kept.trans (kept_applyPend _ _ _) (kept_applyPend _ _ _)) (kept_applyPend _ _ _)
    · exact Kept.refl _
  clear_value l3
  refine Kept.ite_snd (Kept.refl _) ?_
  refine Kept.ite_snd (Kept.refl _) ?_
  dsimp -zeta only [ret]
  refine Kept.upd ?_ rfl rfl rfl rfl rfl
  exact k5

theorem kept_modConn : ∀ s x1 x2, Kept s (State.modConn s x1 x2) := by
  intro s x1 x2
  unfold State.modConn
  refine Kept.upd ?_ rfl rfl rfl rfl rfl
  exact Kept.refl _

theorem kept_charNotify : ∀ s x1 x2, Kept s (State.charNotify s x1 x2).2 := by
  intro s x1 x2
  unfold State.charNotify
  extract_lets -lift l0 l1 l2 l3 l4 l5 l6 l7
  refine Kept.ite_snd (Kept.refl _) ?_
  refine Kept.ite_snd (Kept.refl _) ?_
  refine Kept.ite_snd (Kept.refl _) ?_
  refine Kept.ite_snd (Kept.refl _) ?_
  refine Kept.ite_snd (Kept.refl _) ?_
  refine Kept.ite_snd (Kept.refl _) ?_
  refine Kept.ite_snd (Kept.refl _) ?_
  refine Kept.ite_snd (Kept.refl _) ?_
  dsimp -zeta only [ret]
  refine Kept.foldl (fun s8 i8 => ?_) ?_
  · exact kept_modConn _ _ _
  · exact Kept.refl _

theorem kept_charRelease : ∀ s x1 x2, Kept s (State.charRelease s x1 x2).2 := by
  intro s x1 x2
  unfold State.charRelease
  extract_lets -lift l0
  refine Kept.ite_snd (Kept.refl _) ?_
  refine Kept.ite_snd (Kept.refl _) ?_
  refine Kept.ite_snd (Kept.refl _) ?_
  dsimp -zeta only [ret]
  exact kept_modChar _ _ _

theorem kept_charRx : ∀ s x1 x2, Kept s (State.charRx s x1 x2).2 := by
  intro s x1 x2
  unfold State.charRx
  extract_lets -lift l0
  refine Kept.ite_snd (Kept.refl _) ?_
  refine Kept.ite_snd (Kept.refl _) ?_
  refine Kept.ite_snd (Kept.refl _) ?_
  split
  · exact Kept.refl _
  · dsimp -zeta only [ret]
    exact kept_modChar _ _ _

theorem kept_calDue : ∀ s x1 x2 x3 x4, Kept s (State.calDue s x1 x2 x3 x4) := by
  intro s x1 x2 x3 x4
  unfold State.calDue
  extract_lets -lift l0
  exact kept_setXc _ _ _

theorem kept_calRun : ∀ s x1 x2, Kept s (State.calRun s x1 x2) := by
  intro s x1 x2
  unfold State.calRun
  extract_lets -lift l0 l1 l2
  have k3 : Kept s l1 := by
    unfold l1
    unfold l0
    refine Kept.ite ?_ ?_
    · refine Kept.ite (Kept.refl _) ?_
      extract_lets -lift l4 l5
      have k6 : Kept s l4 := by
        unfold l4
        exact kept_calDue _ _ _ _ _
      clear_value l4
      exact k6.trans (kept_setXc _ _ _)
    · extract_lets -lift l7 l8 l9 l10
      have k11 : Kept s l7 := by
        unfold l7
        exact kept_calDue _ _ _ _ _
      clear_value l7
      have k12 : Kept s l9 := by
        unfold l9
        exact Kept.trans (Kept.ite (Kept.refl _) (k11.trans (kept_setXc _ _ _))) (kept_calDue _ _ _ _ _)
      clear_value l9
      exact k12.trans (kept_setXc _ _ _)
  clear_value l1
  refine Kept.upd ?_ rfl rfl rfl rfl rfl
  exact k3

theorem kept_calCmd : ∀ s x1 x2, Kept s (State.calCmd s x1 x2).2 := by
  intro s x1 x2
  unfold State.calCmd
  refine Kept.ite_snd (kept_no _ _ _) ?_
  refine Kept.ite_snd (kept_no _ _ _) ?_
  refine Kept.ite_snd (kept_no _ _ _) ?_
  refine Kept.ite_snd (Kept.refl _) ?_
  dsimp -zeta only [ret]
  exact kept_calRun _ _ _

theorem kept_lfDiag : ∀ s x1 x2, Kept s (State.lfDiag s x1 x2).2 := by
  intro s x1 x2
  unfold State.lfDiag
  extract_lets -lift l0 l1 l2
  have k3 : Kept s l2 := by
    unfold l2
    refine Kept.upd ?_ rfl rfl rfl rfl rfl
    exact Kept.refl _
  clear_value l2
  refine Kept.ite_snd (Kept.refl _) ?_
  refine Kept.ite_snd (Kept.refl _) ?_
  refine Kept.ite_snd (Kept.refl _) ?_
  refine Kept.ite_snd (Kept.refl _) ?_
  dsimp -zeta only [ret]
  exact Kept.ite k3 (k3.trans (kept_limAdd _ _ _ _ _))

theorem kept_nfcClear : ∀ s x1, Kept s (State.nfcClear s x1).2 := by
  intro s x1
  unfold State.nfcClear
  extract_lets -lift l0
  refine Kept.ite_snd (Kept.refl _) ?_
  refine Kept.ite_snd (Kept.refl _) ?_
  refine Kept.ite_snd (Kept.refl _) ?_
  dsimp -zeta only [ret]
  exact Kept.trans (kept_put _ _ _ _) (kept_modNfc _ _ _)

theorem kept_tagHostWrite : ∀ s x1 x2 x3, Kept s (State.tagHostWrite s x1 x2 x3) := by
  intro s x1 x2 x3
  unfold State.tagHostWrite
  refine Kept.upd ?_ rfl rfl rfl rfl rfl
  exact Kept.refl _

theorem kept_setTagEnt : ∀ s x1 x2, Kept s (State.setTagEnt s x1 x2) := by
  intro s x1 x2
  unfold State.setTagEnt
  refine Kept.upd ?_ rfl rfl rfl rfl rfl
  exact Kept.refl _

theorem kept_ndefStage : ∀ s x1 x2, Kept s (State.ndefStage s x1 x2) := by
  intro s x1 x2
  unfold State.ndefStage
  extract_lets -lift l0 l1 l2
  have k3 : Kept s l1 := by
    unfold l1
    exact kept_setTagEnt _ _ _
  clear_value l1
  refine Kept.upd ?_ rfl rfl rfl rfl rfl
  exact k3

theorem kept_ndefCommit : ∀ s x1 x2, Kept s (State.ndefCommit s x1 x2) := by
  intro s x1 x2
  unfold State.ndefCommit
  extract_lets -lift l0 l1
  refine Kept.upd ?_ rfl rfl rfl rfl rfl
  exact Kept.refl _

theorem kept_tagCmd : ∀ s x1 x2 x3, Kept s (State.tagCmd s x1 x2 x3).2 := by
  intro s x1 x2 x3
  unfold State.tagCmd
  refine Kept.ite_snd ?_ ?_
  · refine Kept.ite_snd (kept_no _ _ _) ?_
    dsimp -zeta only [ret]
    exact kept_tagHostWrite _ _ _ _
  · refine Kept.ite_snd ?_ ?_
    · refine Kept.ite_snd (kept_no _ _ _) ?_
      dsimp -zeta only [ret]
      exact kept_ndefStage _ _ _
    · refine Kept.ite_snd ?_ ?_
      · refine Kept.ite_snd (kept_no _ _ _) ?_
        refine Kept.ite_snd (kept_no _ _ _) ?_
        dsimp -zeta only [ret]
        exact kept_ndefCommit _ _ _
      · refine Kept.ite_snd (kept_no _ _ _) ?_
        dsimp -zeta only [ret]
        refine Kept.upd ?_ rfl rfl rfl rfl rfl
        exact Kept.refl _

theorem kept_nextSeq : ∀ s x1, Kept s (State.nextSeq s x1).2 := by
  intro s x1
  unfold State.nextSeq
  extract_lets -lift l0
  dsimp -zeta only [ret]
  exact kept_modRxq _ _ _

theorem kept_canTx : ∀ s x1 x2, Kept s (State.canTx s x1 x2).2 := by
  intro s x1 x2
  unfold State.canTx
  refine Kept.ite_snd (Kept.refl _) ?_
  split
  · exact Kept.refl _
  · refine Kept.ite_snd (Kept.refl _) ?_
    refine Kept.ite_snd (Kept.refl _) ?_
    refine Kept.ite_snd (Kept.refl _) ?_
    refine Kept.ite_snd (Kept.refl _) ?_
    refine Kept.ite_snd (Kept.refl _) ?_
    extract_lets -lift l0 l1 l2 l3 l4
    have k5 : Kept s l2.2 := by
      unfold l2
      exact kept_nextSeq _ _
    clear_value l2
    have k6 : Kept s l4 := by
      unfold l4
      refine Kept.ite (k5.trans (kept_modCan _ _ _)) ?_
      exact Kept.ite (k5.trans (kept_txRecord _ _ _ _ _ _)) (k5.trans (kept_canSend _ _ _))
    clear_value l4
    refine Kept.ite_snd (Kept.refl _) ?_
    dsimp -zeta only [ret]
    exact k6

theorem kept_canRx : ∀ s x1, Kept s (State.canRx s x1).2 := by
  intro s x1
  unfold State.canRx
  split
  · exact Kept.refl _
  · dsimp -zeta only [ret]
    exact kept_modRxq _ _ _

theorem kept_ethTx : ∀ s x1 x2, Kept s (State.ethTx s x1 x2).2 := by
  intro s x1 x2
  unfold State.ethTx
  extract_lets -lift l0 l1 l2 l3 l4 l5 l6 l7
  have k8 : Kept s l3.2 := by
    unfold l3
    exact kept_nextSeq _ _
  clear_value l3
  have k9 : Kept s l5 := by
    unfold l5
    exact k8
  clear_value l5
  have k10 : Kept s l7 := by
    unfold l7
    refine Kept.ite ?_ ?_
    · refine Kept.upd ?_ rfl rfl rfl rfl rfl
      exact k9
    · refine Kept.ite (k8.trans (kept_txRecord _ _ _ _ _ _)) ?_
      refine Kept.upd ?_ rfl rfl rfl rfl rfl
      exact k9
  clear_value l7
  refine Kept.ite_snd (Kept.refl _) ?_
  refine Kept.ite_snd (Kept.refl _) ?_
  refine Kept.ite_snd (Kept.refl _) ?_
  refine Kept.ite_snd (Kept.refl _) ?_
  refine Kept.ite_snd (Kept.refl _) ?_
  refine Kept.ite_snd (Kept.refl _) ?_
  dsimp -zeta only [ret]
  exact k10

theorem kept_ethRx : ∀ s x1, Kept s (State.ethRx s x1).2 := by
  intro s x1
  unfold State.ethRx
  split
  · exact Kept.refl _
  · dsimp -zeta only [ret]
    exact kept_modRxq _ _ _

theorem kept_takeDone : ∀ s x1, Kept s (State.takeDone s x1).2 := by
  intro s x1
  unfold State.takeDone
  split
  · exact Kept.refl _
  · dsimp -zeta only [ret]
    exact kept_modRxq _ _ _

theorem kept_slewTime : ∀ s x1, Kept s (State.slewTime s x1).2 := by
  intro s x1
  unfold State.slewTime
  refine Kept.ite_snd (Kept.refl _) ?_
  dsimp -zeta only [ret]
  extract_lets -lift l0 l1
  have k2 : Kept s l0 := by
    unfold l0
    exact kept_timeSettle _
  clear_value l0
  refine Kept.upd ?_ rfl rfl rfl rfl rfl
  exact k2

theorem kept_launchPassed : ∀ s x1, Kept s (State.launchPassed s x1) := by
  intro s x1
  unfold State.launchPassed
  extract_lets -lift l0 l1 l2 l3 l4
  have k5 : Kept s l4 := by
    unfold l4
    refine Kept.upd ?_ rfl rfl rfl rfl rfl
    exact Kept.refl _
  clear_value l4
  refine Kept.foldl (fun s6 i6 => ?_) ?_
  · exact kept_txRecord _ _ _ _ _ _
  · exact k5

theorem kept_stepApply : ∀ s x1, Kept s (State.stepApply s x1) := by
  intro s x1
  unfold State.stepApply
  extract_lets -lift l0 l1 l2 l3 l4 l5 l6 l7
  have k8 : Kept s l0 := by
    unfold l0
    exact kept_timeSettle _
  have k9 : Kept s l4 := by
    unfold l4
    refine Kept.upd ?_ rfl rfl rfl rfl rfl
    exact k8
  have k10 : Kept s l5 := by
    unfold l5
    exact Kept.trans (Kept.trans (Kept.ite (k9.trans (kept_launchPassed _ _)) k9) (kept_bump _ _ _)) (kept_logEv _ _ _ _ _)
  have k11 : Kept s l7 := by
    unfold l7
    refine Kept.ite ?_ (Kept.ite (k10.trans (kept_setQual _ _)) k10)
    refine Kept.upd ?_ rfl rfl rfl rfl rfl
    exact k10
  clear_value l7
  exact k11.trans (kept_acquire _)

theorem kept_stepTime : ∀ s x1, Kept s (State.stepTime s x1) := by
  intro s x1
  unfold State.stepTime
  refine Kept.ite ?_ (kept_stepApply _ _)
  extract_lets -lift l0 l1
  have k2 : Kept s l1 := by
    unfold l1
    refine Kept.upd ?_ rfl rfl rfl rfl rfl
    exact Kept.refl _
  clear_value l1
  exact Kept.trans (Kept.trans (k2.trans (kept_setQual _ _)) (kept_bump _ _ _)) (kept_logEv _ _ _ _ _)

theorem kept_stepConfirm : ∀ s x1, Kept s (State.stepConfirm s x1).2 := by
  intro s x1
  unfold State.stepConfirm
  refine Kept.ite_snd (Kept.refl _) ?_
  dsimp -zeta only [ret]
  refine Kept.trans ?_ (kept_stepApply _ _)
  refine Kept.upd ?_ rfl rfl rfl rfl rfl
  exact Kept.refl _

theorem kept_netCmd : ∀ s x1 x2 x3, Kept s (State.netCmd s x1 x2 x3).2 := by
  intro s x1 x2 x3
  unfold State.netCmd
  extract_lets -lift l0 l1 l2
  refine Kept.ite_snd ?_ ?_
  · refine Kept.ite_snd (kept_no _ _ _) ?_
    refine Kept.ite_snd (kept_no _ _ _) ?_
    dsimp -zeta only [ret]
    exact kept_canRecover _ _
  · refine Kept.ite_snd ?_ ?_
    · unfold l0
      dsimp -zeta only [ret]
      exact kept_canTx _ _ _
    · refine Kept.ite_snd ?_ ?_
      · unfold l0
        dsimp -zeta only [ret]
        exact kept_canRx _ _
      · refine Kept.ite_snd ?_ ?_
        · unfold l0
          dsimp -zeta only [ret]
          exact kept_ethTx _ _ _
        · refine Kept.ite_snd ?_ ?_
          · unfold l0
            dsimp -zeta only [ret]
            exact kept_ethRx _ _
          · refine Kept.ite_snd ?_ ?_
            · unfold l0
              dsimp -zeta only [ret]
              exact kept_takeDone _ _
            · refine Kept.ite_snd ?_ ?_
              · dsimp -zeta only [ret]
                exact kept_slewTime _ _
              · refine Kept.ite_snd (kept_no _ _ _) ?_
                refine Kept.ite_snd ?_ ?_
                · refine Kept.ite_snd (kept_no _ _ _) ?_
                  dsimp -zeta only [ret]
                  exact kept_stepTime _ _
                · refine Kept.ite_snd ?_ ?_
                  · dsimp -zeta only [ret]
                    exact kept_stepTime _ _
                  · dsimp -zeta only [ret]
                    exact kept_stepConfirm _ _

theorem kept_tinStart : ∀ s, Kept s (State.tinStart s) := by
  intro s
  unfold State.tinStart
  split
  · exact Kept.refl _
  · refine Kept.ite (Kept.refl _) ?_
    extract_lets -lift l0 l1 l2
    have k3 : Kept s l2 := by
      unfold l2
      refine Kept.trans ?_ (kept_put _ _ _ _)
      refine Kept.trans ?_ (kept_bump _ _ _)
      refine Kept.upd ?_ rfl rfl rfl rfl rfl
      exact Kept.refl _
    clear_value l2
    exact k3.trans (kept_twinSend _ _ _)

theorem kept_tinRun : ∀ s, Kept s (State.tinRun s).2 := by
  intro s
  unfold State.tinRun
  refine Kept.ite_snd (Kept.refl _) ?_
  dsimp -zeta only [ret]
  exact kept_tinStart _

theorem kept_drawBc : ∀ s, Kept s (State.drawBc s) := by
  intro s
  unfold State.drawBc
  refine Kept.ite ?_ (Kept.refl _)
  extract_lets -lift l0 l1 l2
  have k3 : Kept s l0.2 := by
    unfold l0
    exact kept_draw _ _
  clear_value l0
  have k4 : Kept s l1 := by
    unfold l1
    exact k3
  clear_value l1
  refine Kept.upd ?_ rfl rfl rfl rfl rfl
  exact k4

theorem kept_t1sStart : ∀ s, Kept s (State.t1sStart s) := by
  intro s
  unfold State.t1sStart
  refine Kept.upd ?_ rfl rfl rfl rfl rfl
  exact Kept.refl _

theorem kept_t1sRole : ∀ s, Kept s (State.t1sRole s) := by
  intro s
  unfold State.t1sRole
  exact Kept.ite (Kept.refl _) (kept_t1sStart _)

theorem kept_tsEmpty : ∀ s, Kept s (State.tsEmpty s) := by
  intro s
  unfold State.tsEmpty
  refine Kept.upd ?_ rfl rfl rfl rfl rfl
  exact Kept.refl _

theorem kept_takeManager : ∀ s, Kept s (State.takeManager s) := by
  intro s
  unfold State.takeManager
  refine Kept.ite (kept_drawBc _) ?_
  refine Kept.trans ?_ (kept_t1sRole _)
  refine Kept.trans ?_ (kept_drawBc _)
  extract_lets -lift l0 l1 l2
  have k3 : Kept s l0 := by
    unfold l0
    exact kept_tsEmpty _
  clear_value l0
  refine Kept.upd ?_ rfl rfl rfl rfl rfl
  exact k3

theorem kept_twinLog : ∀ s x1, Kept s (State.twinLog s x1) := by
  intro s x1
  unfold State.twinLog
  exact Kept.trans (kept_errBit _ _ _ _ _) (kept_logEv _ _ _ _ _)

theorem kept_promote : ∀ s x1, Kept s (State.promote s x1) := by
  intro s x1
  unfold State.promote
  extract_lets -lift l0 l1 l2
  have k3 : Kept s l1 := by
    unfold l1
    exact kept_takeManager _
  clear_value l1
  refine Kept.trans ?_ (kept_twinLog _ _)
  refine Kept.trans ?_ (kept_bump _ _ _)
  refine Kept.upd ?_ rfl rfl rfl rfl rfl
  exact k3

theorem kept_takeover : ∀ s x1, Kept s (State.takeover s x1).2 := by
  intro s x1
  unfold State.takeover
  refine Kept.ite_snd (Kept.refl _) ?_
  refine Kept.ite_snd (Kept.refl _) ?_
  refine Kept.ite_snd (Kept.refl _) ?_
  refine Kept.ite_snd (Kept.refl _) ?_
  refine Kept.ite_snd ?_ (Kept.refl _)
  dsimp -zeta only [ret]
  exact kept_promote _ _

theorem kept_engStart : ∀ s x1, Kept s (State.engStart s x1) := by
  intro s n
  unfold State.engStart
  split
  · exact Kept.refl s
  · exact (kept_boundary s .bNextEngineStart).updEng fun _ _ => loadP_wf _ _ (memWrite_wf nil_wf _ _)

theorem kept_engHold : ∀ s x1, Kept s (State.engHold s x1) := by
  intro s x1
  unfold State.engHold
  extract_lets -lift l0
  refine Kept.ite (Kept.refl _) ?_
  refine Kept.trans ?_ (kept_engRelease _ _)
  refine Kept.updEng ?_ (fun ca1 cx1 => ?_)
  · exact Kept.refl _
  · exact engine_wf cx1.2.2 _

theorem kept_engControl : ∀ s x1 x2, Kept s (State.engControl s x1 x2).2 := by
  intro s x1 x2
  unfold State.engControl
  extract_lets -lift l0
  refine Kept.ite_snd ?_ ?_
  · refine Kept.ite_snd (Kept.refl _) ?_
    refine Kept.ite_snd (Kept.refl _) ?_
    refine Kept.ite_snd (Kept.refl _) ?_
    dsimp -zeta only [ret]
    exact kept_engStart _ _
  · refine Kept.ite_snd ?_ ?_
    · dsimp -zeta only [ret]
      refine Kept.ite ?_ (kept_engHold _ _)
      refine Kept.updEng ?_ (fun ca1 cx1 => ?_)
      · exact Kept.refl _
      · exact engine_wf cx1.2.2 _
    · refine Kept.ite_snd (Kept.refl _) ?_
      refine Kept.ite_snd ?_ ?_
      · dsimp -zeta only [ret]
        refine Kept.updEng ?_ (fun ca2 cx2 => ?_)
        · exact Kept.refl _
        · exact engine_wf cx2.2.2 _
      · dsimp -zeta only [ret]
        exact Kept.trans (kept_engHold _ _) (kept_engStart _ _)

theorem kept_loadBegin : ∀ s x1 x2 x3, Kept s (State.loadBegin s x1 x2 x3).2 := by
  intro s x1 x2 x3
  unfold State.loadBegin
  split
  · refine Kept.ite_snd (Kept.refl _) ?_
    dsimp -zeta only [ret]
    refine Kept.upd ?_ rfl rfl rfl rfl rfl
    exact Kept.refl _
  · dsimp -zeta only [ret]
    refine Kept.upd ?_ rfl rfl rfl rfl rfl
    exact Kept.refl _

theorem kept_loadData : ∀ s x1 x2 x3, Kept s (State.loadData s x1 x2 x3).2 := by
  intro s x1 x2 x3
  unfold State.loadData
  split
  · exact Kept.refl _
  · refine Kept.ite_snd (Kept.refl _) ?_
    refine Kept.ite_snd ?_ ?_
    · dsimp -zeta only [ret]
      refine Kept.upd ?_ rfl rfl rfl rfl rfl
      exact Kept.refl _
    · dsimp -zeta only [ret]
      refine Kept.upd ?_ rfl rfl rfl rfl rfl
      exact Kept.refl _

theorem kept_loadAbort : ∀ s x1, Kept s (State.loadAbort s x1).2 := by
  intro s x1
  unfold State.loadAbort
  split
  · exact Kept.refl _
  · refine Kept.ite_snd (Kept.refl _) ?_
    dsimp -zeta only [ret]
    refine Kept.upd ?_ rfl rfl rfl rfl rfl
    exact Kept.refl _

theorem kept_doorbell : ∀ s x1 x2, Kept s (State.doorbell s x1 x2).2 := by
  intro s x1 x2
  unfold State.doorbell
  extract_lets -lift l0
  refine Kept.ite_snd (Kept.refl _) ?_
  dsimp -zeta only [ret]
  refine Kept.trans ?_ (kept_engEv _ _ _)
  refine Kept.updEng ?_ (fun ca1 cx1 => ?_)
  · exact Kept.refl _
  · exact engine_wf cx1.2.2 _

theorem kept_doorbellRx : ∀ s x1, Kept s (State.doorbellRx s x1).2 := by
  intro s x1
  unfold State.doorbellRx
  extract_lets -lift l0
  split
  · exact Kept.refl _
  · dsimp -zeta only [ret]
    refine Kept.updEng ?_ (fun ca1 cx1 => ?_)
    · exact Kept.refl _
    · exact engine_wf cx1.2.2 _

theorem kept_objWriteRx : ∀ s x1, Kept s (State.objWriteRx s x1).2 := by
  intro s x1
  unfold State.objWriteRx
  extract_lets -lift l0
  split
  · exact Kept.refl _
  · dsimp -zeta only [ret]
    refine Kept.updEng ?_ (fun ca1 cx1 => ?_)
    · exact Kept.refl _
    · exact engine_wf cx1.2.2 _

theorem kept_engCmd : ∀ s x1 x2 x3, Kept s (State.engCmd s x1 x2 x3).2 := by
  intro s x1 x2 x3
  unfold State.engCmd
  extract_lets -lift l0 l1 l2 l3
  have k4 : Kept s l1.2 := by
    unfold l1
    exact kept_loadCommit _ _
  clear_value l1
  have k5 : Kept s l2.2 := by
    unfold l2
    exact kept_doorbellRx _ _
  clear_value l2
  have k6 : Kept s l3.2 := by
    unfold l3
    exact kept_objWriteRx _ _
  clear_value l3
  refine Kept.ite_snd ?_ ?_
  · split
    · exact kept_no _ _ _
    · refine Kept.ite_snd (kept_no _ _ _) ?_
      dsimp -zeta only [ret]
      exact kept_engControl _ _ _
  · refine Kept.ite_snd ?_ ?_
    · split
      · exact kept_no _ _ _
      · refine Kept.ite_snd (kept_no _ _ _) ?_
        dsimp -zeta only [ret]
        exact kept_loadBegin _ _ _ _
    · refine Kept.ite_snd ?_ ?_
      · dsimp -zeta only [ret]
        exact kept_loadData _ _ _ _
      · refine Kept.ite_snd ?_ ?_
        · dsimp -zeta only [ret]
          exact k4
        · refine Kept.ite_snd ?_ ?_
          · dsimp -zeta only [ret]
            exact kept_loadAbort _ _
          · refine Kept.ite_snd ?_ ?_
            · split
              · exact kept_no _ _ _
              · dsimp -zeta only [ret]
                exact kept_doorbell _ _ _
            · refine Kept.ite_snd ?_ ?_
              · dsimp -zeta only [ret]
                exact k5
              · dsimp -zeta only [ret]
                exact k6

theorem kept_execCmd : ∀ s x1 x2 x3, Kept s (State.execCmd s x1 x2 x3).2 := by
  intro s x1 x2 x3
  unfold State.execCmd
  extract_lets -lift l0 l1 l2 l3 l4 l5
  have k6 : Kept s l4.2 := by
    unfold l4
    exact kept_auxTx _ _ _
  clear_value l4
  have k7 : Kept s l5.2 := by
    unfold l5
    exact kept_auxRx _ _ _
  clear_value l5
  refine Kept.ite_snd (kept_devCommit _ _) ?_
  refine Kept.ite_snd ?_ ?_
  · dsimp -zeta only [ret]
    exact kept_restoreAll _
  · refine Kept.ite_snd (kept_devReset _ _) ?_
    refine Kept.ite_snd ?_ ?_
    · dsimp -zeta only [ret]
      refine Kept.upd ?_ rfl rfl rfl rfl rfl
      exact Kept.refl _
    · refine Kept.ite_snd ?_ ?_
      · dsimp -zeta only [ret]
        exact kept_shutdown _ _
      · refine Kept.ite_snd ?_ ?_
        · unfold l0
          dsimp -zeta only [ret]
          exact kept_cxSubmit _ _ _
        · refine Kept.ite_snd ?_ ?_
          · unfold l0
            dsimp -zeta only [ret]
            exact kept_cxTake _ _
          · refine Kept.ite_snd (kept_keyCmd _ _ _ _) ?_
            refine Kept.ite_snd ?_ ?_
            · dsimp -zeta only [ret]
              exact kept_credRevoke _ _
            · refine Kept.ite_snd ?_ ?_
              · dsimp -zeta only [ret]
                exact kept_clockConfirm _ _ _
              · refine Kept.ite_snd (kept_enrolCmd _ _) ?_
                refine Kept.ite_snd ?_ ?_
                · dsimp -zeta only [ret]
                  exact kept_learnClose _
                · refine Kept.ite_snd (kept_revokeCmd _ _) ?_
                  refine Kept.ite_snd ?_ ?_
                  · dsimp -zeta only [ret]
                    exact kept_lockClear _ _
                  · refine Kept.ite_snd (kept_tsApplyCmd _) ?_
                    refine Kept.ite_snd ?_ ?_
                    · dsimp -zeta only [ret]
                      exact kept_gateLock _
                    · refine Kept.ite_snd ?_ ?_
                      · refine Kept.ite_snd (kept_no _ _ _) ?_
                        dsimp -zeta only [ret]
                        exact kept_faultClear _ _
                      · refine Kept.ite_snd ?_ ?_
                        · refine Kept.ite_snd (kept_no _ _ _) ?_
                          dsimp -zeta only [ret]
                          exact kept_quench _ _
                        · refine Kept.ite_snd ?_ ?_
                          · dsimp -zeta only [ret]
                            exact k6
                          · refine Kept.ite_snd ?_ ?_
                            · dsimp -zeta only [ret]
                              exact k7
                            · refine Kept.ite_snd ?_ ?_
                              · unfold l0
                                dsimp -zeta only [ret]
                                exact kept_charPublish _ _
                              · refine Kept.ite_snd ?_ ?_
                                · unfold l0
                                  dsimp -zeta only [ret]
                                  exact kept_charNotify _ _ _
                                · refine Kept.ite_snd ?_ ?_
                                  · unfold l0
                                    dsimp -zeta only [ret]
                                    exact kept_charRelease _ _ _
                                  · refine Kept.ite_snd ?_ ?_
                                    · unfold l0
                                      dsimp -zeta only [ret]
                                      exact kept_charRx _ _ _
                                    · refine Kept.ite_snd (kept_calCmd _ _ _) ?_
                                      refine Kept.ite_snd (kept_lfDiag _ _ _) ?_
                                      refine Kept.ite_snd ?_ ?_
                                      · unfold l0
                                        dsimp -zeta only [ret]
                                        exact kept_nfcClear _ _
                                      · refine Kept.ite_snd (kept_tagCmd _ _ _ _) ?_
                                        refine Kept.ite_snd (kept_netCmd _ _ _ _) ?_
                                        refine Kept.ite_snd ?_ ?_
                                        · dsimp -zeta only [ret]
                                          exact kept_tinRun _
                                        · refine Kept.ite_snd ?_ (kept_engCmd _ _ _ _)
                                          dsimp -zeta only [ret]
                                          exact kept_takeover _ _

theorem kept_serveRecord : ∀ s x1 x2, Kept s (State.serveRecord s x1 x2).2 := by
  intro s x1 x2
  unfold State.serveRecord
  extract_lets -lift l0
  dsimp -zeta only [ret]
  refine Kept.foldl (fun s1 i1 => ?_) ?_
  · exact kept_readEffect _ _ _
  · exact Kept.refl _

theorem kept_subscribe : ∀ s x1 x2 x3 x4, Kept s (State.subscribe s x1 x2 x3 x4).2 := by
  intro s x1 x2 x3 x4
  unfold State.subscribe
  extract_lets -lift l0 l1 l2 l3
  refine Kept.ite_snd (Kept.refl _) ?_
  refine Kept.ite_snd ?_ ?_
  · dsimp -zeta only [ret]
    refine Kept.upd ?_ rfl rfl rfl rfl rfl
    exact Kept.refl _
  · refine Kept.ite_snd (Kept.refl _) ?_
    dsimp -zeta only [ret]
    refine Kept.upd ?_ rfl rfl rfl rfl rfl
    exact Kept.refl _

theorem kept_unsubscribe : ∀ s x1 x2 x3, Kept s (State.unsubscribe s x1 x2 x3) := by
  intro s x1 x2 x3
  unfold State.unsubscribe
  refine Kept.upd ?_ rfl rfl rfl rfl rfl
  exact Kept.refl _

theorem kept_serve : ∀ s x1 x2, Kept s (State.serve s x1 x2).2 := by
  intro s x1 x2
  unfold State.serve
  split
  · exact Kept.refl _
  · refine Kept.ite_snd (kept_serveRead _ _ _ _) ?_
    refine Kept.ite_snd ?_ ?_
    · extract_lets -lift l0
      have k1 : Kept s l0.2 := by
        unfold l0
        exact kept_applyWrite _ _ _ _ _
      clear_value l0
      refine Kept.ite_snd ?_ k1
      dsimp -zeta only [ret]
      exact k1.trans (kept_notifyEng _ _ _ _)
    · refine Kept.ite_snd (kept_execCmd _ _ _ _) ?_
      refine Kept.ite_snd ?_ ?_
      · extract_lets -lift l2
        have k3 : Kept s l2.2 := by
          unfold l2
          exact kept_serveRecord _ _ _
        clear_value l2
        dsimp -zeta only [ret]
        exact k3
      · refine Kept.ite_snd ?_ ?_
        · extract_lets -lift l4
          have k5 : Kept s l4.2 := by
            unfold l4
            exact kept_subscribe _ _ _ _ _
          clear_value l4
          dsimp -zeta only [ret]
          exact k5
        · dsimp -zeta only [ret]
          exact kept_unsubscribe _ _ _ _

theorem kept_runsOn : ∀ s x1 x2, Kept s (State.runsOn s x1 x2) := by
  intro s x1 x2
  unfold State.runsOn
  split
  · exact Kept.trans (Kept.trans (kept_netCount _ _) (kept_modNet _ _ _)) (kept_netLast _ _)
  · refine Kept.upd ?_ rfl rfl rfl rfl rfl
    exact Kept.refl _
  · refine Kept.upd ?_ rfl rfl rfl rfl rfl
    exact Kept.refl _

theorem kept_ask : ∀ s x1 x2 x3 x4 x5, Kept s (State.ask s x1 x2 x3 x4 x5) := by
  intro s x1 x2 x3 x4 x5
  unfold State.ask
  refine Kept.ite (Kept.refl _) ?_
  extract_lets -lift l0 l1
  have k2 : Kept s l1.2 := by
    unfold l1
    exact kept_serve _ _ _
  clear_value l1
  refine Kept.ite (kept_answered _ _ _ _) ?_
  split
  · exact k2.trans (kept_answered _ _ _ _)
  · exact k2.trans (kept_runsOn _ _ _)

theorem kept_immoResponse : ∀ s x1 x2, Kept s (State.immoResponse s x1 x2) := by
  intro s x1 x2
  unfold State.immoResponse
  extract_lets -lift l0 l1 l2 l3
  have k4 : Kept s l1 := by
    unfold l1
    exact kept_immoSend _ _ _
  clear_value l1
  refine Kept.ite ?_ k4
  refine Kept.upd ?_ rfl rfl rfl rfl rfl
  exact k4

theorem kept_immoWaitEnd : ∀ s, Kept s (State.immoWaitEnd s) := by
  intro s
  unfold State.immoWaitEnd
  split
  · exact Kept.refl _
  · refine Kept.ite ?_ (Kept.refl _)
    extract_lets -lift l0 l1 l2
    have k3 : Kept s l0 := by
      unfold l0
      exact kept_immoResponse _ _ _
    clear_value l0
    refine Kept.upd ?_ rfl rfl rfl rfl rfl
    exact k3

theorem kept_jcommitted : ∀ s x1, Kept s (State.jcommitted s x1) := by
  intro s x1
  unfold State.jcommitted
  refine Kept.ite ?_ ?_
  · refine Kept.upd ?_ rfl rfl rfl rfl rfl
    exact Kept.refl _
  · split
    · exact Kept.refl _
    · extract_lets -lift l0 l1 l2
      have k3 : Kept s l1 := by
        unfold l1
        exact kept_modCtr _ _ _
      clear_value l1
      refine Kept.upd ?_ rfl rfl rfl rfl rfl
      exact k3

theorem kept_recordDone : ∀ s x1, Kept s (State.recordDone s x1) := by
  intro s x1
  unfold State.recordDone
  split
  · exact Kept.refl _
  · refine Kept.ite (Kept.refl _) ?_
    extract_lets -lift l0 l1 l2 l3 l4 l5
    refine Kept.ite ?_ ?_
    · refine Kept.trans ?_ (kept_jcommitted _ _)
      refine Kept.upd ?_ rfl rfl rfl rfl rfl
      exact Kept.refl _
    · refine Kept.ite ?_ ?_
      · refine Kept.upd ?_ rfl rfl rfl rfl rfl
        exact Kept.refl _
      · refine Kept.upd ?_ rfl rfl rfl rfl rfl
        exact Kept.refl _

theorem kept_xferDrop : ∀ s, Kept s (State.xferDrop s) := by
  intro s
  unfold State.xferDrop
  split
  · exact Kept.refl _
  · split
    · exact Kept.refl _
    · refine Kept.trans ?_ (kept_eraseMirrored _ _)
      refine Kept.upd ?_ rfl rfl rfl rfl rfl
      exact Kept.refl _

theorem kept_sesSend : ∀ s x1 x2 x3, Kept s (State.sesSend s x1 x2 x3) := by
  intro s x1 x2 x3
  unfold State.sesSend
  split
  · exact Kept.refl _
  · exact Kept.trans (kept_sesSendRaw _ _ _ _ _) (kept_mctrEnd _ _)

theorem kept_sesResult : ∀ s x1 x2 x3 x4 x5, Kept s (State.sesResult s x1 x2 x3 x4 x5) := by
  intro s x1 x2 x3 x4 x5
  unfold State.sesResult
  exact kept_sesSend _ _ _ _

theorem kept_xferFail : ∀ s, Kept s (State.xferFail s) := by
  intro s
  unfold State.xferFail
  split
  · exact Kept.refl _
  · split
    · exact Kept.refl _
    · extract_lets -lift l0
      have k1 : Kept s l0 := by
        unfold l0
        exact kept_xferDrop _
      clear_value l0
      split
      · exact k1
      · exact k1.trans (kept_sesResult _ _ _ _ _ _)

theorem kept_lfFail : ∀ s x1, Kept s (State.lfFail s x1) := by
  intro s x1
  unfold State.lfFail
  extract_lets -lift l0
  have k1 : Kept s l0 := by
    unfold l0
    exact kept_lfOver _ _ _
  clear_value l0
  split
  · exact k1.trans (kept_xferFail _)
  · exact k1.trans (kept_xferFail _)
  · exact k1

theorem kept_lfEnd : ∀ s, Kept s (State.lfEnd s) := by
  intro s
  unfold State.lfEnd
  split
  · exact Kept.refl _
  · exact Kept.trans (kept_lfCarrierOff _) (kept_lfFail _ _)

theorem kept_lfNoSync : ∀ s, Kept s (State.lfNoSync s) := by
  intro s
  unfold State.lfNoSync
  split
  · exact Kept.refl _
  · split
    · refine Kept.ite (Kept.refl _) ?_
      refine Kept.ite (kept_lfEnd _) ?_
      refine Kept.upd ?_ rfl rfl rfl rfl rfl
      exact Kept.refl _
    · refine Kept.ite (Kept.refl _) ?_
      refine Kept.ite (kept_lfEnd _) ?_
      refine Kept.upd ?_ rfl rfl rfl rfl rfl
      exact Kept.refl _
    · refine Kept.ite ?_ (kept_lfEnd _)
      extract_lets -lift l0 l1 l2
      have k3 : Kept s l0 := by
        unfold l0
        exact Kept.trans (kept_lfCarrierOff _) (kept_lfOver _ _ _)
      clear_value l0
      refine Kept.upd ?_ rfl rfl rfl rfl rfl
      exact k3
    · exact kept_lfEnd _

theorem kept_lfUid : ∀ s x1, Kept s (State.lfUid s x1) := by
  intro s x1
  unfold State.lfUid
  split
  · exact Kept.refl _
  · refine Kept.ite (Kept.refl _) ?_
    split
    · exact kept_lfNoSync _
    · extract_lets -lift l0 l1 l2
      have k3 : Kept s l0 := by
        unfold l0
        exact Kept.trans (kept_lfCarrierOff _) (kept_lfOver _ _ _)
      clear_value l0
      split
      · exact k3
      · refine Kept.upd ?_ rfl rfl rfl rfl rfl
        exact k3

theorem kept_doorEdge : ∀ s, Kept s (State.doorEdge s) := by
  intro s
  unfold State.doorEdge
  extract_lets -lift l0 l1 l2
  have k3 : Kept s l1 := by
    unfold l1
    refine Kept.upd ?_ rfl rfl rfl rfl rfl
    exact Kept.refl _
  clear_value l1
  have k4 : Kept s l2 := by
    unfold l2
    refine Kept.foldl (fun s5 i5 => ?_) ?_
    · exact kept_endEntry _ _ _
    · exact k3
  clear_value l2
  refine Kept.foldl (fun s6 i6 => ?_) ?_
  · exact kept_endStart _ _ _
  · exact k4

theorem kept_shutdownExit : ∀ s x1, Kept s (State.shutdownExit s x1) := by
  intro s x1
  unfold State.shutdownExit
  exact Kept.ite (kept_resetTake _ _ _) (Kept.refl _)

theorem kept_tmrWake : ∀ s x1, Kept s (State.tmrWake s x1) := by
  intro s x1
  unfold State.tmrWake
  refine Kept.foldl (fun s0 i0 => ?_) ?_
  · extract_lets -lift l1
    exact Kept.ite (Kept.refl _) (Kept.ite (kept_setTmr _ _ _) (kept_setTmr _ _ _))
  · exact Kept.refl _

theorem kept_engWakes : ∀ s, Kept s (State.engWakes s) := by
  intro s
  unfold State.engWakes
  refine Kept.foldl (fun s0 i0 => ?_) ?_
  · extract_lets -lift l1
    split
    · refine Kept.ite ?_ (Kept.refl _)
      refine Kept.updEng ?_ (fun ca2 cx2 => ?_)
      · exact Kept.refl _
      · exact engine_wf cx2.2.2 _
    · exact Kept.refl _
  · exact kept_engEvAll _ _

theorem kept_logDeferred : ∀ s, Kept s (State.logDeferred s) := by
  intro s
  unfold State.logDeferred
  extract_lets -lift l0 l1 l2 l3 l4 l5
  have k6 : Kept s l2 := by
    unfold l2
    split
    · unfold l0
      refine Kept.trans ?_ (kept_pushRec _ _)
      refine Kept.upd ?_ rfl rfl rfl rfl rfl
      refine Kept.upd ?_ rfl rfl rfl rfl rfl
      exact Kept.refl _
    · exact Kept.refl _
  clear_value l2
  have k7 : Kept s l4 := by
    unfold l4
    refine Kept.foldl (fun s8 i8 => ?_) ?_
    · unfold l0
      refine Kept.trans ?_ (kept_pushRec _ _)
      refine Kept.upd ?_ rfl rfl rfl rfl rfl
      exact Kept.refl _
    · refine Kept.upd ?_ rfl rfl rfl rfl rfl
      exact k6
  clear_value l4
  refine Kept.ite k7 ?_
  unfold l0
  refine Kept.trans ?_ (kept_pushRec _ _)
  refine Kept.upd ?_ rfl rfl rfl rfl rfl
  refine Kept.upd ?_ rfl rfl rfl rfl rfl
  exact k7

theorem kept_timeWake : ∀ s, Kept s (State.timeWake s) := by
  intro s
  unfold State.timeWake
  exact Kept.ite (kept_setQual _ _) (Kept.refl _)

theorem kept_coreWakeOn : ∀ s x1, Kept s (State.coreWakeOn s x1) := by
  intro s x1
  unfold State.coreWakeOn
  extract_lets -lift l0 l1 l2 l3 l4 l5 l6 l7 l8 l9
  have k10 : Kept s l3 := by
    unfold l3
    refine Kept.upd ?_ rfl rfl rfl rfl rfl
    exact Kept.refl _
  clear_value l3
  have k11 : Kept s l4 := by
    unfold l4
    exact Kept.trans (Kept.trans (k10.trans (kept_put _ _ _ _)) (kept_bump _ _ _)) (kept_bumpBy _ _ _ _)
  clear_value l4
  have k12 : Kept s l5 := by
    unfold l5
    exact k11.trans (kept_tmrWake _ _)
  clear_value l5
  have k13 : Kept s l7 := by
    unfold l7
    refine Kept.upd ?_ rfl rfl rfl rfl rfl
    exact k12
  clear_value l7
  have k14 : Kept s l8 := by
    unfold l8
    exact k13.trans (kept_timeWake _)
  clear_value l8
  refine Kept.trans ?_ (kept_engWakes _)
  refine Kept.trans ?_ (kept_logDeferred _)
  refine Kept.upd ?_ rfl rfl rfl rfl rfl
  exact k14

theorem kept_coreWake : ∀ s x1, Kept s (State.coreWake s x1) := by
  intro s x1
  unfold State.coreWake
  exact Kept.ite (Kept.refl _) (kept_coreWakeOn _ _)

theorem kept_wakeBy : ∀ s x1, Kept s (State.wakeBy s x1) := by
  intro s x1
  unfold State.wakeBy
  exact Kept.ite (Kept.refl _) (Kept.ite (kept_shutdownExit _ _) (kept_coreWake _ _))

theorem kept_doorSwitch : ∀ s x1 x2 x3, Kept s (State.doorSwitch s x1 x2 x3) := by
  intro s x1 x2 x3
  unfold State.doorSwitch
  refine Kept.ite (Kept.refl _) ?_
  extract_lets -lift l0 l1 l2
  have k3 : Kept s l1 := by
    unfold l1
    refine Kept.upd ?_ rfl rfl rfl rfl rfl
    exact Kept.refl _
  clear_value l1
  have k4 : Kept s l2 := by
    unfold l2
    exact Kept.ite (k3.trans (kept_doorEdge _)) k3
  clear_value l2
  exact Kept.ite k4 (k4.trans (kept_wakeBy _ _))

theorem kept_whenAon : ∀ s x1, (∀ s, Kept s (x1 s)) → Kept s (State.whenAon s x1) := by
  intro s x1 h0
  unfold State.whenAon
  exact Kept.ite (Kept.refl _) (h0 _)

theorem kept_pingStep : ∀ s x1 x2, (∀ s, Kept s (x2 s)) → Kept s (State.pingStep s x1 x2) := by
  intro s x1 x2 h0
  unfold State.pingStep
  refine kept_whenAon _ _ ?_
  intro z0
  extract_lets -lift l1
  have k2 : Kept z0 l1 := by
    unfold l1
    exact h0 _
  clear_value l1
  exact Kept.ite k2 (Kept.ite (k2.trans (kept_wakeBy _ _)) (k2.trans (kept_modNfc _ _ _)))

theorem kept_attAnswer : ∀ s x1, Kept s (State.attAnswer s x1) := by
  intro s x1
  unfold State.attAnswer
  refine Kept.upd ?_ rfl rfl rfl rfl rfl
  exact Kept.refl _

theorem kept_cxReset : ∀ s, Kept s (State.cxReset s) := by
  intro s
  unfold State.cxReset
  refine Kept.upd ?_ rfl rfl rfl rfl rfl
  exact Kept.refl _

theorem kept_pathLost : ∀ s, Kept s (State.pathLost s) := by
  intro s
  unfold State.pathLost
  extract_lets -lift l0 l1
  have k2 : Kept s l0 := by
    unfold l0
    exact kept_bump _ _ _
  clear_value l0
  split
  · refine Kept.ite ?_ ?_
    · refine Kept.upd ?_ rfl rfl rfl rfl rfl
      exact k2
    · refine Kept.ite ?_ k2
      refine Kept.upd ?_ rfl rfl rfl rfl rfl
      exact k2
  · refine Kept.ite ?_ ?_
    · refine Kept.upd ?_ rfl rfl rfl rfl rfl
      exact k2
    · refine Kept.ite ?_ k2
      refine Kept.upd ?_ rfl rfl rfl rfl rfl
      exact k2
  · refine Kept.ite ?_ ?_
    · refine Kept.upd ?_ rfl rfl rfl rfl rfl
      exact k2
    · refine Kept.ite ?_ k2
      refine Kept.upd ?_ rfl rfl rfl rfl rfl
      exact k2
  · exact k2

theorem kept_wlPathLost : ∀ s, Kept s (State.wlPathLost s) := by
  intro s
  unfold State.wlPathLost
  refine Kept.ite ?_ (Kept.refl _)
  refine Kept.trans ?_ (kept_pathLost _)
  refine Kept.upd ?_ rfl rfl rfl rfl rfl
  exact Kept.refl _

theorem kept_peerLoss : ∀ s x1, Kept s (State.peerLoss s x1) := by
  intro s x1
  unfold State.peerLoss
  refine Kept.ite (Kept.refl _) ?_
  refine Kept.ite (Kept.ite (kept_wlPathLost _) (Kept.refl _)) ?_
  refine Kept.ite ?_ (Kept.refl _)
  refine Kept.trans ?_ (kept_pathLost _)
  refine Kept.upd ?_ rfl rfl rfl rfl rfl
  exact Kept.refl _

theorem kept_tagReply : ∀ s x1, Kept s (State.tagReply s x1) := by
  intro s x1
  unfold State.tagReply
  refine Kept.upd ?_ rfl rfl rfl rfl rfl
  exact Kept.refl _

theorem kept_notHallmark : ∀ s, Kept s (State.notHallmark s) := by
  intro s
  unfold State.notHallmark
  exact Kept.ite (kept_tagReply _ _) (kept_tagStray _)

theorem kept_tagGetRecordInfo : ∀ s x1, Kept s (State.tagGetRecordInfo s x1) := by
  intro s x1
  unfold State.tagGetRecordInfo
  refine Kept.ite (kept_notHallmark _) ?_
  refine Kept.ite (kept_tagReply _ _) ?_
  extract_lets -lift l0
  exact kept_tagReply _ _

theorem kept_canTxDone : ∀ s x1 x2 x3, Kept s (State.canTxDone s x1 x2 x3) := by
  intro s x1 x2 x3
  unfold State.canTxDone
  split
  · extract_lets -lift l0
    have k1 : Kept s l0 := by
      unfold l0
      exact kept_modCan _ _ _
    clear_value l0
    exact Kept.trans (k1.trans (kept_bump _ _ _)) (kept_txRecord _ _ _ _ _ _)
  · exact Kept.refl _

theorem kept_dbgAns : ∀ s x1 x2, Kept s (State.dbgAns s x1 x2) := by
  intro s x1 x2
  unfold State.dbgAns
  extract_lets -lift l0 l1 l2
  refine Kept.upd ?_ rfl rfl rfl rfl rfl
  exact Kept.refl _

theorem kept_dbgFor : ∀ s x1 x2 x3, (∀ y0 y1, Kept s (x3 y0 y1)) → Kept s (State.dbgFor s x1 x2 x3) := by
  intro s x1 x2 x3 h0
  unfold State.dbgFor
  split
  · exact Kept.refl _
  · refine Kept.ite (kept_dbgAns _ _ _) ?_
    exact Kept.ite (kept_dbgAns _ _ _) (Kept.ite (kept_dbgAns _ _ _) (Kept.ite (kept_dbgAns _ _ _) (h0 _ _)))

theorem kept_dbgHalt : ∀ s x1, Kept s (State.dbgHalt s x1) := by
  intro s x1
  unfold State.dbgHalt
  refine kept_dbgFor _ _ _ _ ?_
  intro z0
  intro z1
  extract_lets -lift l2
  refine Kept.ite ?_ (Kept.ite (kept_dbgAns _ _ _) (kept_dbgAns _ _ _))
  refine Kept.trans ?_ (kept_dbgAns _ _ _)
  refine Kept.updEng ?_ (fun ca3 cx3 => ?_)
  · exact Kept.refl _
  · exact engine_wf cx3.2.2 _

theorem kept_twrItem : ∀ s x1 x2 x3 x4, Kept s (State.twrItem s x1 x2 x3 x4) := by
  intro s x1 x2 x3 x4
  unfold State.twrItem
  extract_lets -lift l0 l1 l2
  have k3 : Kept s l2 := by
    unfold l2
    refine Kept.trans ?_ (kept_put _ _ _ _)
    exact Kept.trans (Kept.trans (Kept.trans (kept_put _ _ _ _) (kept_put _ _ _ _)) (kept_put _ _ _ _)) (kept_put _ _ _ _)
  clear_value l2
  exact k3.trans (kept_uwbItem _ _)

theorem kept_uwbReport : ∀ s x1, Kept s (State.uwbReport s x1) := by
  intro s x1
  unfold State.uwbReport
  split
  · exact Kept.refl _
  · refine Kept.ite (Kept.refl _) ?_
    refine kept_withPsdu _ _ _ _ ?_
    intro z0
    refine Kept.ite (kept_bump _ _ _) ?_
    extract_lets -lift l1 l2
    split
    · extract_lets -lift l3 l4
      exact Kept.ite (kept_twrItem _ _ _ _ _) (Kept.refl _)
    · exact Kept.refl _

theorem kept_spiDead : ∀ s x1, Kept s (State.spiDead s x1) := by
  intro s x1
  unfold State.spiDead
  extract_lets -lift l0 l1 l2
  have k3 : Kept s l2 := by
    unfold l2
    refine Kept.upd ?_ rfl rfl rfl rfl rfl
    exact Kept.refl _
  clear_value l2
  exact Kept.ite (k3.trans (kept_shutdownExit _ _)) (k3.trans (kept_coreWake _ _))

theorem kept_spiOut : ∀ s x1, Kept s (State.spiOut s x1) := by
  intro s x1
  unfold State.spiOut
  refine Kept.upd ?_ rfl rfl rfl rfl rfl
  exact Kept.refl _

theorem kept_spiStatusCmd : ∀ s, Kept s (State.spiStatusCmd s) := by
  intro s
  unfold State.spiStatusCmd
  exact Kept.ite (kept_spiDead _ _) (kept_spiOut _ _)

theorem kept_spiWrite : ∀ s x1, Kept s (State.spiWrite s x1) := by
  intro s x1
  unfold State.spiWrite
  refine Kept.ite (kept_spiDead _ _) ?_
  extract_lets -lift l0 l1 l2 l3
  have k4 : Kept s l0 := by
    unfold l0
    exact kept_spiOut _ _
  clear_value l0
  refine Kept.ite ?_ ?_
  · refine Kept.upd ?_ rfl rfl rfl rfl rfl
    exact k4
  · refine Kept.ite (k4.trans (kept_spiAnswer _ _ _)) ?_
    refine Kept.upd ?_ rfl rfl rfl rfl rfl
    exact k4

theorem kept_spiReadRsp : ∀ s x1, Kept s (State.spiReadRsp s x1) := by
  intro s x1
  unfold State.spiReadRsp
  refine Kept.ite (kept_spiDead _ _) ?_
  split
  · exact kept_spiOut _ _
  · extract_lets -lift l0 l1 l2
    have k3 : Kept s l0 := by
      unfold l0
      exact kept_spiOut _ _
    clear_value l0
    refine Kept.ite ?_ k3
    refine Kept.trans ?_ (kept_resetArm _)
    refine Kept.upd ?_ rfl rfl rfl rfl rfl
    exact k3

theorem kept_spiReadNtf : ∀ s x1, Kept s (State.spiReadNtf s x1) := by
  intro s x1
  unfold State.spiReadNtf
  refine Kept.ite (kept_spiDead _ _) ?_
  extract_lets -lift l0
  split
  · exact kept_spiOut _ _
  · extract_lets -lift l1 l2
    have k3 : Kept s l1 := by
      unfold l1
      exact kept_spiOut _ _
    clear_value l1
    refine Kept.ite ?_ k3
    refine Kept.upd ?_ rfl rfl rfl rfl rfl
    exact k3

theorem kept_spiUndefined : ∀ s x1 x2, Kept s (State.spiUndefined s x1 x2) := by
  intro s x1 x2
  unfold State.spiUndefined
  refine Kept.ite (kept_spiDead _ _) ?_
  refine Kept.ite (Kept.refl _) ?_
  refine Kept.upd ?_ rfl rfl rfl rfl rfl
  exact Kept.refl _

theorem kept_spiServe : ∀ s, Kept s (State.spiServe s) := by
  intro s
  unfold State.spiServe
  split
  · exact Kept.refl _
  · refine Kept.ite (Kept.refl _) ?_
    extract_lets -lift l0 l1 l2 l3 l4
    have k5 : Kept s l1.2 := by
      unfold l1
      exact kept_serve _ _ _
    clear_value l1
    have k6 : Kept s l2 := by
      unfold l2
      exact k5
    clear_value l2
    split
    · exact k5.trans (kept_spiAnswer _ _ _)
    · refine Kept.upd ?_ rfl rfl rfl rfl rfl
      exact k6

theorem kept_pendApply : ∀ s x1 x2, Kept s (State.pendApply s x1 x2) := by
  intro s x1 x2
  unfold State.pendApply
  extract_lets -lift l0
  exact Kept.ite (Kept.refl _) (kept_applyPend _ _ _)

theorem kept_periodic : ∀ s x1 x2 x3, Kept s (State.periodic s x1 x2 x3) := by
  intro s x1 x2 x3
  unfold State.periodic
  split
  · exact Kept.refl _
  · refine Kept.ite (Kept.refl _) ?_
    refine Kept.trans ?_ (kept_notify _ _ _ _ _)
    refine Kept.upd ?_ rfl rfl rfl rfl rfl
    exact Kept.refl _

theorem kept_loginHello : ∀ s x1 x2 x3, Kept s (State.loginHello s x1 x2 x3).2 := by
  intro s x1 x2 x3
  unfold State.loginHello
  extract_lets -lift l0 l1 l2 l3 l4 l5 l6 l7 l8
  have k9 : Kept s l2 := by
    unfold l2
    exact kept_boundary _ _
  clear_value l2
  have k10 : Kept s l5.2 := by
    unfold l5
    exact k9.trans (kept_draw _ _)
  clear_value l5
  refine Kept.ite_snd ?_ ?_
  · unfold l0
    exact Kept.refl _
  · refine Kept.ite_snd ?_ ?_
    · unfold l0
      exact Kept.refl _
    · refine Kept.ite_snd ?_ ?_
      · unfold l0
        exact Kept.refl _
      · refine Kept.ite_snd ?_ ?_
        · unfold l0
          exact Kept.refl _
        · refine Kept.ite_snd ?_ ?_
          · unfold l0
            exact Kept.refl _
          · refine Kept.ite_snd ?_ ?_
            · unfold l0
              dsimp -zeta only [ret]
              exact k9
            · refine Kept.ite_snd ?_ ?_
              · unfold l0
                dsimp -zeta only [ret]
                exact k9
              · split
                · unfold l0
                  dsimp -zeta only [ret]
                  exact k9
                · dsimp -zeta only [ret]
                  extract_lets -lift l11 l12
                  have k13 : Kept s l11 := by
                    unfold l11
                    exact k10.trans (kept_cxOn _ _ _)
                  clear_value l11
                  refine Kept.upd ?_ rfl rfl rfl rfl rfl
                  exact k13

theorem kept_plainSend : ∀ s x1 x2 x3, Kept s (State.plainSend s x1 x2 x3) := by
  intro s x1 x2 x3
  unfold State.plainSend
  exact kept_viaSend _ _ _

theorem kept_loginProof : ∀ s x1 x2 x3, Kept s (State.loginProof s x1 x2 x3).2 := by
  intro s x1 x2 x3
  unfold State.loginProof
  extract_lets -lift l0 l1 l2
  have k3 : Kept s l1 := by
    unfold l1
    exact Kept.trans (kept_cxOn _ _ _) (kept_netDrop _ _)
  clear_value l1
  refine Kept.ite_snd (Kept.refl _) ?_
  refine Kept.ite_snd (Kept.refl _) ?_
  refine Kept.ite_snd (Kept.refl _) ?_
  refine Kept.ite_snd (Kept.refl _) ?_
  split
  · exact Kept.refl _
  · refine Kept.ite_snd (Kept.refl _) ?_
    refine Kept.ite_snd ?_ ?_
    · dsimp -zeta only [ret]
      exact Kept.trans (kept_cxOn _ _ _) (kept_modNet _ _ _)
    · dsimp -zeta only [ret]
      refine Kept.upd ?_ rfl rfl rfl rfl rfl
      exact k3

theorem kept_netServe : ∀ s x1 x2, Kept s (State.netServe s x1 x2) := by
  intro s x1 x2
  unfold State.netServe
  extract_lets -lift l0 l1
  have k2 : Kept s l1.2 := by
    unfold l1
    exact kept_serve _ _ _
  clear_value l1
  refine Kept.ite ?_ ?_
  · exact Kept.ite (kept_netSay _ _ _ _) (Kept.ite (kept_netSay _ _ _ _) (Kept.trans (kept_netSay _ _ _ _) (kept_netDrop _ _)))
  · refine Kept.ite (kept_netSay _ _ _ _) ?_
    split
    · exact k2.trans (kept_netSay _ _ _ _)
    · exact k2.trans (kept_modNet _ _ _)

theorem kept_netAuth : ∀ s x1 x2, Kept s (State.netAuth s x1 x2) := by
  intro s x1 x2
  unfold State.netAuth
  extract_lets -lift l0 l1 l2 l3 l4 l5 l6 l7
  have k8 : Kept s l5 := by
    unfold l5
    exact Kept.trans (kept_cxOn _ _ _) (kept_modNet _ _ _)
  clear_value l5
  have k9 : Kept s l7 := by
    unfold l7
    exact Kept.trans (k8.trans (kept_modNet _ _ _)) (kept_netServe _ _ _)
  clear_value l7
  refine Kept.ite (Kept.refl _) ?_
  refine Kept.ite (kept_bump _ _ _) ?_
  refine Kept.ite (Kept.trans (kept_cxOn _ _ _) (kept_bump _ _ _)) ?_
  exact Kept.ite (k8.trans (kept_netSend _ _ _)) (Kept.ite (k9.trans (kept_netDrop _ _)) k9)

theorem kept_twinDict : ∀ s x1, Kept s (State.twinDict s x1) := by
  intro s x1
  unfold State.twinDict
  extract_lets -lift l0 l1 l2 l3 l4 l5 l6 l7
  have k8 : Kept s l5.2 := by
    unfold l5
    refine Kept.trans ?_ (kept_serve _ _ _)
    refine Kept.upd ?_ rfl rfl rfl rfl rfl
    exact Kept.refl _
  clear_value l5
  have k9 : Kept s l6 := by
    unfold l6
    exact k8
  clear_value l6
  split
  · exact kept_bump _ _ _
  · refine Kept.ite (Kept.refl _) ?_
    refine Kept.ite (kept_bump _ _ _) ?_
    refine Kept.ite (Kept.refl _) ?_
    refine Kept.ite (kept_twinMsg _ _) ?_
    split
    · exact k8.trans (kept_twinSay _ _ _)
    · refine Kept.upd ?_ rfl rfl rfl rfl rfl
      exact k9

theorem kept_netMessage : ∀ s x1 x2, Kept s (State.netMessage s x1 x2) := by
  intro s x1 x2
  unfold State.netMessage
  extract_lets -lift l0 l1 l2 l3
  have k4 : Kept s l2.2 := by
    unfold l2
    exact kept_loginHello _ _ _ _
  clear_value l2
  have k5 : Kept s l3.2 := by
    unfold l3
    exact kept_loginProof _ _ _ _
  clear_value l3
  refine Kept.ite (Kept.refl _) ?_
  refine Kept.ite ?_ ?_
  · exact Kept.ite (k4.trans (kept_plainSend _ _ _ _)) (Kept.ite (k5.trans (kept_plainSend _ _ _ _)) (Kept.refl _))
  · refine Kept.ite (kept_netAuth _ _ _) ?_
    refine Kept.ite ?_ (Kept.refl _)
    split
    · exact kept_twinDict _ _
    · exact Kept.refl _

theorem kept_loginRow : ∀ s x1 x2 x3 x4, Kept s (State.loginRow s x1 x2 x3 x4) := by
  intro s x1 x2 x3 x4
  unfold State.loginRow
  exact kept_netMessage _ _ _

theorem kept_logoutRow : ∀ s x1 x2, Kept s (State.logoutRow s x1 x2) := by
  intro s x1 x2
  unfold State.logoutRow
  exact Kept.ite (Kept.refl _) (Kept.trans (kept_netCount _ _) (kept_netServe _ _ _))

theorem kept_loginTimeout : ∀ s x1, Kept s (State.loginTimeout s x1) := by
  intro s x1
  unfold State.loginTimeout
  split
  · exact Kept.ite (kept_netDrop _ _) (Kept.refl _)
  · exact Kept.refl _

theorem kept_netIdle : ∀ s x1, Kept s (State.netIdle s x1) := by
  intro s x1
  unfold State.netIdle
  split
  · exact Kept.ite (kept_netDrop _ _) (Kept.refl _)
  · exact Kept.refl _

theorem kept_guardEnd : ∀ s x1, Kept s (State.guardEnd s x1) := by
  intro s x1
  unfold State.guardEnd
  refine Kept.upd ?_ rfl rfl rfl rfl rfl
  exact Kept.refl _

theorem kept_portIn : ∀ s x1 x2, (∀ s, Kept s (x2 s)) → Kept s (State.portIn s x1 x2) := by
  intro s x1 x2 h0
  unfold State.portIn
  exact Kept.ite (Kept.refl _) (Kept.ite (h0 _) (kept_wakeBy _ _))

theorem kept_lockCount : ∀ s x1, Kept s (State.lockCount s x1) := by
  intro s x1
  unfold State.lockCount
  refine Kept.ite ?_ (Kept.refl _)
  refine Kept.ite ?_ ?_
  · extract_lets -lift l0 l1
    refine Kept.ite (kept_setQual _ _) ?_
    refine Kept.upd ?_ rfl rfl rfl rfl rfl
    exact Kept.refl _
  · refine Kept.upd ?_ rfl rfl rfl rfl rfl
    exact Kept.refl _

theorem kept_servo : ∀ s x1, Kept s (State.servo s x1) := by
  intro s x1
  unfold State.servo
  refine Kept.ite (Kept.refl _) ?_
  refine Kept.ite ?_ (kept_lockCount _ _)
  refine Kept.ite (kept_stepTime _ _) ?_
  extract_lets -lift l0 l1 l2
  have k3 : Kept s l0 := by
    unfold l0
    exact kept_setCorr _ _
  clear_value l0
  have k4 : Kept s l2 := by
    unfold l2
    refine Kept.upd ?_ rfl rfl rfl rfl rfl
    exact k3
  clear_value l2
  exact k4.trans (kept_lockCount _ _)

theorem kept_offsetIn : ∀ s x1 x2 x3, Kept s (State.offsetIn s x1 x2 x3) := by
  intro s x1 x2 x3
  unfold State.offsetIn
  extract_lets -lift l0 l1 l2 l3
  have k4 : Kept s l3 := by
    unfold l3
    exact kept_put _ _ _ _
  clear_value l3
  exact k4.trans (kept_servo _ _)

theorem kept_syncIn : ∀ s x1 x2 x3 x4, Kept s (State.syncIn s x1 x2 x3 x4) := by
  intro s x1 x2 x3 x4
  unfold State.syncIn
  refine Kept.ite ?_ (Kept.refl _)
  extract_lets -lift l0 l1 l2
  have k3 : Kept s l1 := by
    unfold l1
    refine Kept.trans ?_ (kept_acquire _)
    refine Kept.upd ?_ rfl rfl rfl rfl rfl
    exact Kept.refl _
  clear_value l1
  refine Kept.ite ?_ (k3.trans (kept_offsetIn _ _ _ _))
  refine Kept.upd ?_ rfl rfl rfl rfl rfl
  exact k3

theorem kept_followUp : ∀ s x1 x2 x3, Kept s (State.followUp s x1 x2 x3) := by
  intro s x1 x2 x3
  unfold State.followUp
  split
  · exact Kept.refl _
  · refine Kept.ite ?_ (Kept.refl _)
    refine Kept.trans ?_ (kept_offsetIn _ _ _ _)
    refine Kept.upd ?_ rfl rfl rfl rfl rfl
    exact Kept.refl _

theorem kept_ptpSend : ∀ s x1 x2, Kept s (State.ptpSend s x1 x2) := by
  intro s x1 x2
  unfold State.ptpSend
  exact kept_ethSend _ _ _ _ _

theorem kept_pdelayReq : ∀ s x1 x2, Kept s (State.pdelayReq s x1 x2) := by
  intro s x1 x2
  unfold State.pdelayReq
  exact Kept.ite (kept_ptpSend _ _ _) (Kept.refl _)

theorem kept_pathMeasure : ∀ s x1, Kept s (State.pathMeasure s x1) := by
  intro s x1
  unfold State.pathMeasure
  extract_lets -lift l0 l1 l2 l3 l4 l5 l6 l7 l8 l9
  have k10 : Kept s l4 := by
    unfold l4
    refine Kept.upd ?_ rfl rfl rfl rfl rfl
    exact Kept.refl _
  clear_value l4
  have k11 : Kept s l5 := by
    unfold l5
    exact Kept.ite (k10.trans (kept_setQual _ _)) k10
  clear_value l5
  have k12 : Kept s l7 := by
    unfold l7
    refine Kept.trans ?_ (kept_put _ _ _ _)
    refine Kept.upd ?_ rfl rfl rfl rfl rfl
    exact Kept.refl _
  clear_value l7
  refine Kept.ite (Kept.trans (k11.trans (kept_bump _ _ _)) (kept_logEv _ _ _ _ _)) ?_
  refine Kept.ite ?_ k12
  refine Kept.trans ?_ (kept_acquire _)
  refine Kept.upd ?_ rfl rfl rfl rfl rfl
  exact k12

theorem kept_pdelayResp : ∀ s x1 x2 x3, Kept s (State.pdelayResp s x1 x2 x3) := by
  intro s x1 x2 x3
  unfold State.pdelayResp
  split
  · exact Kept.refl _
  · refine Kept.ite (Kept.refl _) ?_
    refine Kept.ite ?_ ?_
    · split
      · exact Kept.refl _
      · refine Kept.trans ?_ (kept_pathMeasure _ _)
        refine Kept.upd ?_ rfl rfl rfl rfl rfl
        exact Kept.refl _
    · refine Kept.upd ?_ rfl rfl rfl rfl rfl
      exact Kept.refl _

theorem kept_announce : ∀ s x1, Kept s (State.announce s x1) := by
  intro s x1
  unfold State.announce
  extract_lets -lift l0 l1 l2
  have k3 : Kept s l0 := by
    unfold l0
    exact kept_boundary _ _
  clear_value l0
  refine Kept.ite k3 ?_
  refine Kept.ite ?_ ?_
  · refine Kept.ite ?_ k3
    refine Kept.trans ?_ (kept_setPort _ _)
    refine Kept.upd ?_ rfl rfl rfl rfl rfl
    exact k3
  · refine Kept.ite k3 ?_
    refine Kept.trans ?_ (kept_setPort _ _)
    refine Kept.upd ?_ rfl rfl rfl rfl rfl
    exact k3

theorem kept_ptpIn : ∀ s x1, Kept s (State.ptpIn s x1) := by
  intro s x1
  unfold State.ptpIn
  refine Kept.ite (Kept.refl _) ?_
  extract_lets -lift l0 l1 l2 l3 l4
  refine Kept.ite (kept_syncIn _ _ _ _ _) ?_
  refine Kept.ite (kept_followUp _ _ _ _) ?_
  refine Kept.ite (kept_pdelayReq _ _ _) ?_
  refine Kept.ite (Kept.ite (kept_pdelayResp _ _ _ _) (Kept.refl _)) ?_
  exact Kept.ite (Kept.ite (kept_pdelayResp _ _ _ _) (Kept.refl _)) (Kept.ite (kept_announce _ _) (Kept.refl _))

theorem kept_t1sDict : ∀ s x1 x2 x3, Kept s (State.t1sDict s x1 x2 x3) := by
  intro s x1 x2 x3
  unfold State.t1sDict
  exact Kept.ite (Kept.refl _) (kept_netMessage _ _ _)

theorem kept_segCount : ∀ s x1, Kept s (State.segCount s x1) := by
  intro s x1
  unfold State.segCount
  exact Kept.ite (kept_bump _ _ _) (kept_bump _ _ _)

theorem kept_modMgr : ∀ s x1 x2, Kept s (State.modMgr s x1 x2) := by
  intro s x1 x2
  unfold State.modMgr
  refine Kept.upd ?_ rfl rfl rfl rfl rfl
  exact Kept.refl _

theorem kept_heartbeatWorker : ∀ s x1, Kept s (State.heartbeatWorker s x1) := by
  intro s x1
  unfold State.heartbeatWorker
  extract_lets -lift l0 l1
  exact Kept.ite (kept_segCount _ _) (Kept.trans (kept_segCount _ _) (kept_modMgr _ _ _))

theorem kept_takeStandby : ∀ s, Kept s (State.takeStandby s) := by
  intro s
  unfold State.takeStandby
  extract_lets -lift l0 l1 l2 l3 l4
  have k5 : Kept s l0 := by
    unfold l0
    exact Kept.ite (Kept.trans (kept_endAll _) (kept_gatesClose _)) (Kept.refl _)
  clear_value l0
  have k6 : Kept s l1 := by
    unfold l1
    exact k5.trans (kept_tsEmpty _)
  clear_value l1
  refine Kept.trans ?_ (kept_t1sRole _)
  refine Kept.upd ?_ rfl rfl rfl rfl rfl
  exact k6

theorem kept_settleRoles : ∀ s, Kept s (State.settleRoles s) := by
  intro s
  unfold State.settleRoles
  extract_lets -lift l0 l1 l2 l3
  have k4 : Kept s l1 := by
    unfold l1
    exact Kept.ite (kept_takeManager _) (kept_takeStandby _)
  clear_value l1
  have k5 : Kept s l3 := by
    unfold l3
    refine Kept.upd ?_ rfl rfl rfl rfl rfl
    exact k4
  clear_value l3
  exact Kept.ite (k5.trans (kept_tinStart _)) k5

theorem kept_startHeld : ∀ s, Kept s (State.startHeld s) := by
  intro s
  unfold State.startHeld
  refine Kept.trans ?_ (kept_logEv _ _ _ _ _)
  refine Kept.upd ?_ rfl rfl rfl rfl rfl
  exact Kept.refl _

theorem kept_accessReady : ∀ s, Kept s (State.accessReady s) := by
  intro s
  unfold State.accessReady
  extract_lets -lift l0 l1 l2
  have k3 : Kept s l2 := by
    unfold l2
    refine Kept.trans ?_ (kept_put _ _ _ _)
    refine Kept.upd ?_ rfl rfl rfl rfl rfl
    exact Kept.refl _
  clear_value l2
  exact k3.trans (kept_logEv _ _ _ _ _)

theorem kept_twinReady : ∀ s, Kept s (State.twinReady s) := by
  intro s
  unfold State.twinReady
  exact Kept.ite (Kept.refl _) (Kept.ite (kept_startHeld _) (kept_accessReady _))

theorem kept_twinHear : ∀ s, Kept s (State.twinHear s) := by
  intro s
  unfold State.twinHear
  split
  · exact kept_settleRoles _
  · exact kept_settleRoles _
  · exact kept_settleRoles _
  · exact kept_settleRoles _
  · refine Kept.ite ?_ (Kept.refl _)
    refine Kept.trans ?_ (kept_twinReady _)
    refine Kept.upd ?_ rfl rfl rfl rfl rfl
    exact Kept.refl _
  · refine Kept.ite (kept_settleRoles _) ?_
    refine Kept.upd ?_ rfl rfl rfl rfl rfl
    exact Kept.refl _
  · refine Kept.ite (kept_settleRoles _) ?_
    refine Kept.upd ?_ rfl rfl rfl rfl rfl
    exact Kept.refl _
  · exact Kept.refl _

theorem kept_takeBeat : ∀ s x1 x2, Kept s (State.takeBeat s x1 x2) := by
  intro s x1 x2
  unfold State.takeBeat
  refine Kept.trans ?_ (kept_twinHear _)
  refine Kept.upd ?_ rfl rfl rfl rfl rfl
  exact Kept.refl _

theorem kept_heartbeatIn : ∀ s x1 x2, Kept s (State.heartbeatIn s x1 x2) := by
  intro s x1 x2
  unfold State.heartbeatIn
  split
  · exact kept_segCount _ _
  · refine Kept.ite (kept_segCount _ _) ?_
    refine Kept.ite (kept_heartbeatWorker _ _) ?_
    refine Kept.ite (kept_segCount _ _) ?_
    refine Kept.ite ?_ ?_
    · extract_lets -lift l0 l1 l2
      have k3 : Kept s l1 := by
        unfold l1
        exact kept_segCount _ _
      clear_value l1
      refine Kept.ite (kept_segCount _ _) ?_
      refine Kept.trans ?_ (kept_takeBeat _ _ _)
      refine Kept.upd ?_ rfl rfl rfl rfl rfl
      exact k3
    · extract_lets -lift l4 l5 l6
      have k7 : Kept s l5 := by
        unfold l5
        exact kept_segCount _ _
      clear_value l5
      refine Kept.ite (kept_segCount _ _) ?_
      refine Kept.trans ?_ (kept_takeBeat _ _ _)
      refine Kept.upd ?_ rfl rfl rfl rfl rfl
      exact k7

theorem kept_advResult : ∀ s x1 x2 x3, Kept s (State.advResult s x1 x2 x3) := by
  intro s x1 x2 x3
  unfold State.advResult
  split
  · exact Kept.refl _
  · exact Kept.trans (kept_sesSendRaw _ _ _ _ _) (kept_mctrEnd _ _)

theorem kept_sweepAdv : ∀ s, Kept s (State.sweepAdv s) := by
  intro s
  unfold State.sweepAdv
  extract_lets -lift l0 l1
  refine Kept.upd ?_ rfl rfl rfl rfl rfl
  exact Kept.refl _

theorem kept_advSettle : ∀ s, Kept s (State.advSettle s) := by
  intro s
  unfold State.advSettle
  extract_lets -lift l0 l1 l2
  have k3 : Kept s l1 := by
    unfold l1
    refine Kept.foldl (fun s4 i4 => ?_) ?_
    · exact Kept.ite (kept_advResult _ _ _ _) (kept_advResult _ _ _ _)
    · exact Kept.refl _
  clear_value l1
  refine Kept.trans ?_ (kept_freeRevoked _)
  refine Kept.trans ?_ (kept_sweepAdv _)
  refine Kept.upd ?_ rfl rfl rfl rfl rfl
  exact k3

theorem kept_soloCommits : ∀ s, Kept s (State.soloCommits s) := by
  intro s
  unfold State.soloCommits
  refine Kept.trans ?_ (kept_advSettle _)
  refine Kept.upd ?_ rfl rfl rfl rfl rfl
  exact Kept.refl _

theorem kept_isolate : ∀ s, Kept s (State.isolate s) := by
  intro s
  unfold State.isolate
  extract_lets -lift l0 l1 l2
  have k3 : Kept s l1 := by
    unfold l1
    exact kept_tsEmpty _
  clear_value l1
  refine Kept.trans ?_ (kept_twinLog _ _)
  refine Kept.trans ?_ (kept_bump _ _ _)
  refine Kept.upd ?_ rfl rfl rfl rfl rfl
  exact k3

theorem kept_twinSettle : ∀ s, Kept s (State.twinSettle s) := by
  intro s
  unfold State.twinSettle
  refine Kept.ite (Kept.refl _) ?_
  split
  · refine Kept.ite (Kept.ite (kept_promote _ _) (Kept.refl _)) ?_
    refine Kept.ite ?_ (Kept.refl _)
    extract_lets -lift l0 l1
    refine Kept.trans ?_ (kept_soloCommits _)
    refine Kept.trans ?_ (kept_twinLog _ _)
    refine Kept.trans ?_ (kept_bump _ _ _)
    refine Kept.upd ?_ rfl rfl rfl rfl rfl
    exact Kept.refl _
  · refine Kept.ite (Kept.ite (kept_promote _ _) (Kept.refl _)) ?_
    refine Kept.ite ?_ (Kept.refl _)
    extract_lets -lift l2 l3
    refine Kept.trans ?_ (kept_soloCommits _)
    refine Kept.trans ?_ (kept_twinLog _ _)
    refine Kept.trans ?_ (kept_bump _ _ _)
    refine Kept.upd ?_ rfl rfl rfl rfl rfl
    exact Kept.refl _
  · refine Kept.ite ?_ (Kept.ite (kept_isolate _) (Kept.refl _))
    refine Kept.upd ?_ rfl rfl rfl rfl rfl
    exact Kept.refl _
  · exact Kept.refl _

theorem kept_modNode : ∀ s x1 x2, Kept s (State.modNode s x1 x2) := by
  intro s x1 x2
  unfold State.modNode
  refine Kept.upd ?_ rfl rfl rfl rfl rfl
  exact Kept.refl _

theorem kept_fromWorker : ∀ s x1, ∀ u, State.fromWorker s x1 = some u → Kept s u := by
  intro s f u h
  unfold State.fromWorker at h
  dsimp only at h
  split at h
  · cases h
  · split at h
    · cases h; exact (kept_segCount s 0).trans (kept_modNode _ _ _)
    · split at h
      · cases h; exact (kept_segCount s 0).trans (kept_modNode _ _ _)
      · cases h

theorem kept_workerRefused : ∀ s x1, Kept s (State.workerRefused s x1) := by
  intro s x1
  unfold State.workerRefused
  exact kept_segCount _ _

theorem kept_presenceIn : ∀ s x1, Kept s (State.presenceIn s x1) := by
  intro s p
  unfold State.presenceIn
  split
  · exact kept_segCount s 4
  · refine Kept.ite (kept_segCount s 4) ?_
    split
    · exact kept_workerRefused s _
    · next s1 he => exact (kept_fromWorker s _ _ he).trans (kept_modNode s1 _ _)

theorem kept_presenceRx : ∀ s x1, Kept s (State.presenceRx s x1) := by
  intro s x1
  unfold State.presenceRx
  exact Kept.trans (kept_presenceIn _ _) (kept_twinSettle _)

theorem kept_fromManager : ∀ s x1, Kept s (State.fromManager s x1).2.2 := by
  intro s x1
  unfold State.fromManager
  extract_lets -lift l0 l1 l2 l3 l4 l5
  have k6 : Kept s l4 := by
    unfold l4
    exact kept_segCount _ _
  clear_value l4
  split
  · dsimp -zeta only [ret]
    exact Kept.ite (Kept.trans (kept_segCount _ _) (kept_modMgr _ _ _)) (kept_segCount _ _)
  · split
    · dsimp -zeta only [ret]
      refine Kept.ite ?_ (kept_segCount _ _)
      refine Kept.upd ?_ rfl rfl rfl rfl rfl
      exact k6
    · dsimp -zeta only [ret]
      exact kept_segCount _ _

theorem kept_loadRanging : ∀ s x1, Kept s (State.loadRanging s x1).2
  | s, [] => by unfold State.loadRanging; exact Kept.refl s
  | s, k :: ks => by
    unfold State.loadRanging
    split
    · exact Kept.refl s
    · exact Kept.trans (kept_loadSlot s _ _ _) (kept_loadRanging _ ks)

theorem kept_takePlan : ∀ s x1 x2, Kept s (State.takePlan s x1 x2) := by
  intro s x1 x2
  unfold State.takePlan
  split
  · exact kept_bump _ _ _
  · extract_lets -lift l0 l1 l2 l3 l4 l5 l6 l7
    have k8 : Kept s l4.2 := by
      unfold l4
      exact kept_loadRanging _ _
    clear_value l4
    have k9 : Kept s l6 := by
      unfold l6
      exact k8
    clear_value l6
    refine Kept.ite (kept_bump _ _ _) ?_
    refine Kept.ite ?_ ?_
    · refine Kept.foldl (fun s10 i10 => ?_) ?_
      · exact kept_eraseSlot _ _
      · exact k8
    · refine Kept.trans ?_ (kept_askRound _ _)
      refine Kept.trans ?_ (kept_auxHeld _ _)
      refine Kept.upd ?_ rfl rfl rfl rfl rfl
      exact k9

theorem kept_planIn : ∀ s x1, Kept s (State.planIn s x1) := by
  intro s x1
  unfold State.planIn
  split
  · exact kept_segCount _ _
  · refine Kept.ite (kept_segCount _ _) ?_
    extract_lets -lift l0
    have k1 : Kept s l0.2.2 := by
      unfold l0
      exact kept_fromManager _ _
    clear_value l0
    exact Kept.ite (k1.trans (kept_takePlan _ _ _)) k1

theorem kept_observe : ∀ s x1 x2 x3, Kept s (State.observe s x1 x2 x3) := by
  intro s x1 x2 x3
  unfold State.observe
  refine Kept.ite (Kept.refl _) ?_
  extract_lets -lift l0 l1 l2 l3 l4 l5 l6 l7
  have k8 : Kept s l0 := by
    unfold l0
    exact kept_boundary _ _
  clear_value l0
  refine Kept.upd ?_ rfl rfl rfl rfl rfl
  exact k8

theorem kept_syncObs : ∀ s x1 x2 x3 x4, Kept s (State.syncObs s x1 x2 x3 x4) := by
  intro s x1 x2 x3 x4
  unfold State.syncObs
  extract_lets -lift l0
  exact Kept.ite (kept_observe _ _ _ _) (Kept.ite (kept_observe _ _ _ _) (Kept.ite (kept_observe _ _ _ _) (Kept.refl _)))

theorem kept_syncTx : ∀ s x1 x2 x3, Kept s (State.syncTx s x1 x2 x3) := by
  intro s x1 x2 x3
  unfold State.syncTx
  split
  · exact Kept.refl _
  · extract_lets -lift l0
    have k1 : Kept s l0 := by
      unfold l0
      exact kept_modAwait _ _ _
    clear_value l0
    refine Kept.foldl (fun s2 i2 => ?_) ?_
    · exact kept_syncObs _ _ _ _ _
    · exact k1

theorem kept_syncRx : ∀ s x1 x2 x3 x4, Kept s (State.syncRx s x1 x2 x3 x4) := by
  intro s x1 x2 x3 x4
  unfold State.syncRx
  split
  · exact Kept.refl _
  · split
    · exact kept_syncObs _ _ _ _ _
    · exact kept_modAwait _ _ _

theorem kept_timeRecord : ∀ s x1 x2 x3, Kept s (State.timeRecord s x1 x2 x3) := by
  intro s x1 x2 x3
  unfold State.timeRecord
  extract_lets -lift l0 l1
  exact Kept.ite (kept_syncTx _ _ _ _) (Kept.ite (kept_blinkArrival _ _ _ _) (Kept.ite (kept_syncRx _ _ _ _ _) (Kept.refl _)))

theorem kept_askPrompt : ∀ s x1 x2 x3, Kept s (State.askPrompt s x1 x2 x3) := by
  intro s x1 x2 x3
  unfold State.askPrompt
  refine Kept.upd ?_ rfl rfl rfl rfl rfl
  exact Kept.refl _

theorem kept_lfAsk : ∀ s x1, Kept s (State.lfAsk s x1) := by
  intro s x1
  unfold State.lfAsk
  extract_lets -lift l0 l1
  refine Kept.ite (Kept.refl _) ?_
  refine Kept.upd ?_ rfl rfl rfl rfl rfl
  exact Kept.refl _

theorem kept_touch : ∀ s x1 x2 x3, Kept s (State.touch s x1 x2 x3) := by
  intro s x1 x2 x3
  unfold State.touch
  refine Kept.ite (Kept.refl _) ?_
  extract_lets -lift l0 l1
  have k2 : Kept s l0 := by
    unfold l0
    refine Kept.foldl (fun s3 i3 => ?_) ?_
    · extract_lets -lift l4 l5
      exact Kept.ite (kept_openReq _ _ _ _ _ _) (kept_refuseReq _ _ _ _ _)
    · exact Kept.refl _
  clear_value l0
  have k6 : Kept s l1 := by
    unfold l1
    refine Kept.foldl (fun s7 i7 => ?_) ?_
    · exact Kept.ite (Kept.refl _) (kept_askPrompt _ _ _ _)
    · exact k2
  clear_value l1
  split
  · exact k6
  · exact k6.trans (kept_lfAsk _ _)

theorem kept_lfWorkerOver : ∀ s x1 x2, Kept s (State.lfWorkerOver s x1 x2) := by
  intro s x1 x2
  unfold State.lfWorkerOver
  extract_lets -lift l0 l1 l2 l3
  have k4 : Kept s l2 := by
    unfold l2
    refine Kept.upd ?_ rfl rfl rfl rfl rfl
    exact Kept.refl _
  clear_value l2
  split
  · exact k4
  · refine Kept.ite ?_ (k4.trans (kept_slotNext _ _))
    refine Kept.upd ?_ rfl rfl rfl rfl rfl
    exact k4

theorem kept_segEvent : ∀ s x1 x2, Kept s (State.segEvent s x1 x2) := by
  intro s x1 x2
  unfold State.segEvent
  extract_lets -lift l0 l1 l2 l3 l4
  have k5 : Kept s l4 := by
    unfold l4
    exact kept_touch _ _ _ _
  clear_value l4
  refine Kept.ite (Kept.ite (Kept.refl _) (Kept.ite (k5.trans (kept_lfRequest _ _ _ _ _)) k5)) ?_
  split
  · exact Kept.refl _
  · refine Kept.ite ?_ ?_
    · extract_lets -lift l6 l7
      have k8 : Kept s l6.2 := by
        unfold l6
        exact kept_lfProof _ _ _ _ _ _ _
      clear_value l6
      have k9 : Kept s l7 := by
        unfold l7
        refine Kept.ite ?_ k8
        split
        · exact k8.trans (kept_tsAdmit _ _ _)
        · exact k8
      clear_value l7
      exact k9.trans (kept_lfWorkerOver _ _ _)
    · refine Kept.ite ?_ (Kept.ite (kept_lfWorkerOver _ _ _) (Kept.refl _))
      split
      · exact kept_lfWorkerOver _ _ _
      · exact Kept.trans (kept_lfWorkerOver _ _ _) (kept_slotStart _ _ _ _)

theorem kept_settleRound : ∀ s x1, Kept s (State.settleRound s x1) := by
  intro s x1
  unfold State.settleRound
  refine Kept.ite (Kept.refl _) ?_
  extract_lets -lift l0 l1 l2 l3
  have k4 : Kept s l1 := by
    unfold l1
    refine Kept.upd ?_ rfl rfl rfl rfl rfl
    exact Kept.refl _
  clear_value l1
  have k5 : Kept s l2 := by
    unfold l2
    exact k4.trans (kept_bump _ _ _)
  clear_value l2
  refine Kept.ite k4 ?_
  refine Kept.ite ?_ k5
  refine Kept.upd ?_ rfl rfl rfl rfl rfl
  exact k5

theorem kept_reportedBy : ∀ s x1 x2, Kept s (State.reportedBy s x1 x2) := by
  intro s x1 x2
  unfold State.reportedBy
  split
  · exact Kept.refl _
  · extract_lets -lift l0
    have k1 : Kept s l0 := by
      unfold l0
      exact kept_modAwait _ _ _
    clear_value l0
    split
    · exact Kept.ite (k1.trans (kept_settleRound _ _)) k1
    · exact k1

theorem kept_reportIn : ∀ s x1, Kept s (State.reportIn s x1) := by
  intro s p
  unfold State.reportIn
  split
  · exact kept_segCount s 4
  · next f _ =>
    refine Kept.ite (kept_segCount s 4) ?_
    extract_lets -lift r w0 w1 acc
    have h1 : ∀ s1, acc.1 = some s1 → Kept s s1 := by
      intro s1 h
      unfold acc at h
      split at h
      · exact kept_fromWorker s f s1 h
      · dsimp only at h
        split at h
        · cases h; exact Kept.trans (kept_segCount s 0) (Kept.upd (Kept.refl _) rfl rfl rfl rfl rfl)
        · cases h
    have h2 : Kept s acc.2 := by
      unfold acc
      exact Kept.ite_snd (kept_workerRefused s f) (kept_segCount s _)
    clear_value acc
    split
    · exact h2
    · next s1 he =>
      refine (h1 s1 he).trans (Kept.ite (Kept.refl _) (Kept.trans ?_ (kept_reportedBy _ _ _)))
      refine Kept.foldl (fun s b => kept_segEvent s _ _) ?_
      refine Kept.foldl (fun s b => kept_timeRecord s _ _ _) ?_
      exact Kept.foldl (fun s b => kept_uwbItem s _) (Kept.refl _)

theorem kept_lfServe : ∀ s x1 x2 x3 x4 x5, Kept s (State.lfServe s x1 x2 x3 x4 x5) := by
  intro s x1 x2 x3 x4 x5
  unfold State.lfServe
  extract_lets -lift l0 l1
  refine Kept.ite ?_ (kept_sendReport _ _ _ _ _ _)
  refine Kept.upd ?_ rfl rfl rfl rfl rfl
  exact Kept.refl _

theorem kept_lfRequestIn : ∀ s x1, Kept s (State.lfRequestIn s x1) := by
  intro s x1
  unfold State.lfRequestIn
  split
  · exact kept_segCount _ _
  · refine Kept.ite (kept_segCount _ _) ?_
    extract_lets -lift l0
    have k1 : Kept s l0.2.2 := by
      unfold l0
      exact kept_fromManager _ _
    clear_value l0
    exact Kept.ite (k1.trans (kept_lfServe _ _ _ _ _ _)) k1

theorem kept_joinIn : ∀ s x1, Kept s (State.joinIn s x1) := by
  intro s x1
  unfold State.joinIn
  split
  · exact kept_segCount _ _
  · extract_lets -lift l0 l1 l2
    have k3 : Kept s l1.2 := by
      unfold l1
      exact Kept.trans (kept_segCount _ _) (kept_draw _ _)
    clear_value l1
    refine Kept.ite (kept_segCount _ _) ?_
    split
    · exact kept_segCount _ _
    · refine Kept.ite (kept_segCount _ _) ?_
      refine Kept.ite (kept_segCount _ _) ?_
      extract_lets -lift l4
      exact Kept.trans (k3.trans (kept_modNode _ _ _)) (kept_segSend _ _ _ _ _)

theorem kept_joinAck : ∀ s x1, Kept s (State.joinAck s x1) := by
  intro s x1
  unfold State.joinAck
  split
  · exact kept_segCount _ _
  · extract_lets -lift l0
    split
    · refine Kept.ite (kept_segCount _ _) ?_
      extract_lets -lift l1 l2 l3
      have k4 : Kept s l2 := by
        unfold l2
        exact Kept.trans (kept_segCount _ _) (kept_modMgr _ _ _)
      clear_value l2
      refine Kept.ite (kept_segCount _ _) ?_
      split
      · exact kept_segCount _ _
      · extract_lets -lift l5
        have k6 : Kept s l5 := by
          unfold l5
          refine Kept.upd ?_ rfl rfl rfl rfl rfl
          exact k4
        clear_value l5
        split
        · exact k6.trans (kept_modMgr _ _ _)
        · exact k6
    · exact kept_segCount _ _

theorem kept_twinIn : ∀ s x1 x2, Kept s (State.twinIn s x1 x2).2 := by
  intro s x1 x2
  unfold State.twinIn
  split
  · dsimp -zeta only [ret]
    exact kept_segCount _ _
  · extract_lets -lift l0 l1 l2
    have k3 : Kept s l1 := by
      unfold l1
      exact kept_segCount _ _
    clear_value l1
    refine Kept.ite_snd ?_ ?_
    · dsimp -zeta only [ret]
      exact kept_segCount _ _
    · dsimp -zeta only [ret]
      refine Kept.upd ?_ rfl rfl rfl rfl rfl
      exact k3

theorem kept_ackCommit : ∀ s x1 x2, Kept s (State.ackCommit s x1 x2) := by
  intro s x1 x2
  unfold State.ackCommit
  refine Kept.trans ?_ (kept_twinSend _ _ _)
  refine Kept.upd ?_ rfl rfl rfl rfl rfl
  exact Kept.refl _

theorem kept_commitCache : ∀ s x1, Kept s (State.commitCache s x1) := by
  intro s x1
  unfold State.commitCache
  extract_lets -lift l0 l1 l2 l3 l4 l5 l6 l7 l8
  have k9 : Kept s l5 := by
    unfold l5
    refine Kept.upd ?_ rfl rfl rfl rfl rfl
    exact Kept.refl _
  clear_value l5
  have k10 : Kept s l7 := by
    unfold l7
    refine Kept.upd ?_ rfl rfl rfl rfl rfl
    exact k9
  clear_value l7
  refine Kept.ite (Kept.refl _) ?_
  split
  · refine Kept.upd ?_ rfl rfl rfl rfl rfl
    exact k10
  · exact k10

theorem kept_judgeCommit : ∀ s x1, Kept s (State.judgeCommit s x1) := by
  intro s x1
  unfold State.judgeCommit
  extract_lets -lift l0 l1 l2 l3 l4 l5 l6 l7 l8
  have k9 : Kept s l4 := by
    unfold l4
    exact Kept.ite (kept_commitCache _ _) (Kept.refl _)
  clear_value l4
  have k10 : Kept s l7 := by
    unfold l7
    exact Kept.trans (k9.trans (kept_modCtr _ _ _)) (kept_exhausted _ _)
  clear_value l7
  split
  · exact kept_twinSend _ _ _
  · refine Kept.ite (Kept.refl _) ?_
    refine Kept.ite ?_ ?_
    · refine Kept.ite ?_ (Kept.trans (kept_bump _ _ _) (kept_ackCommit _ _ _))
      refine Kept.trans ?_ (kept_jput _ _)
      refine Kept.upd ?_ rfl rfl rfl rfl rfl
      exact Kept.refl _
    · split
      · exact k9
      · refine Kept.ite ?_ (Kept.trans (k9.trans (kept_bump _ _ _)) (kept_ackCommit _ _ _))
        refine Kept.trans ?_ (kept_jput _ _)
        refine Kept.upd ?_ rfl rfl rfl rfl rfl
        exact k10

end Sys2Proof.Machine
end

