-- ==== Sys2Proof/Laws/KeptPart3.lean ====
section
/-! SUPPORT. Every effect of the model keeps what `Kept` says, part 3: one lemma per definition, in the order in which they call
each other. -/
namespace Sys2Proof.Machine

theorem kept_commitIn : ∀ s x1, Kept s (State.commitIn s x1) := by
  intro s x1
  unfold State.commitIn
  extract_lets -lift l0
  have k1 : Kept s l0.2 := by
    unfold l0
    exact kept_twinIn _ _ _
  clear_value l0
  split
  · exact Kept.ite (k1.trans (kept_judgeCommit _ _)) k1
  · exact k1

theorem kept_commitReplayed : ∀ s x1 x2, Kept s (State.commitReplayed s x1 x2) := by
  intro s x1 x2
  unfold State.commitReplayed
  extract_lets -lift l0 l1 l2 l3
  have k4 : Kept s l0 := by
    unfold l0
    exact Kept.trans (kept_modCtr _ _ _) (kept_exhausted _ _)
  clear_value l0
  have k5 : Kept s l3 := by
    unfold l3
    refine Kept.upd ?_ rfl rfl rfl rfl rfl
    exact k4
  clear_value l3
  exact Kept.trans (k5.trans (kept_countFail _ _ _)) (kept_advResult _ _ _ _)

theorem kept_commitAckIn : ∀ s x1, Kept s (State.commitAckIn s x1) := by
  intro s x1
  unfold State.commitAckIn
  extract_lets -lift l0 l1 l2
  have k3 : Kept s l0.2 := by
    unfold l0
    exact kept_twinIn _ _ _
  clear_value l0
  have k4 : Kept s l1 := by
    unfold l1
    exact k3
  clear_value l1
  split
  · exact k3
  · extract_lets -lift l5 l6 l7 l8
    have k9 : Kept s l6 := by
      unfold l6
      refine Kept.upd ?_ rfl rfl rfl rfl rfl
      exact k4
    clear_value l6
    refine Kept.ite k3 ?_
    split
    · exact k9
    · refine Kept.ite (k9.trans (kept_commitReplayed _ _ _)) ?_
      refine Kept.trans ?_ (kept_advSettle _)
      refine Kept.upd ?_ rfl rfl rfl rfl rfl
      exact k9

theorem kept_tinToken : ∀ s x1 x2, Kept s (State.tinToken s x1 x2) := by
  intro s x1 x2
  unfold State.tinToken
  refine Kept.upd ?_ rfl rfl rfl rfl rfl
  exact Kept.refl _

theorem kept_raiseCtr : ∀ s x1 x2, Kept s (State.raiseCtr s x1 x2) := by
  intro s x1 x2
  unfold State.raiseCtr
  exact Kept.ite (Kept.trans (Kept.trans (kept_modCtr _ _ _) (kept_exhausted _ _)) (kept_jput _ _)) (Kept.refl _)

theorem kept_tinCache : ∀ s x1 x2, Kept s (State.tinCache s x1 x2) := by
  intro s x1 x2
  unfold State.tinCache
  extract_lets -lift l0 l1
  split
  · refine Kept.trans ?_ (kept_raiseCtr _ _ _)
    refine Kept.upd ?_ rfl rfl rfl rfl rfl
    exact Kept.refl _
  · split
    · exact Kept.refl _
    · refine Kept.upd ?_ rfl rfl rfl rfl rfl
      exact Kept.refl _

theorem kept_tinRevoke : ∀ s x1, Kept s (State.tinRevoke s x1) := by
  intro s x1
  unfold State.tinRevoke
  extract_lets -lift l0 l1 l2
  refine Kept.ite (Kept.refl _) ?_
  refine Kept.trans ?_ (kept_freeRevoked _)
  refine Kept.upd ?_ rfl rfl rfl rfl rfl
  exact Kept.refl _

theorem kept_tinLock : ∀ s x1 x2, Kept s (State.tinLock s x1 x2) := by
  intro s x1 x2
  unfold State.tinLock
  extract_lets -lift l0 l1 l2 l3 l4 l5
  refine Kept.ite ?_ ?_
  · refine Kept.upd ?_ rfl rfl rfl rfl rfl
    exact Kept.refl _
  · refine Kept.ite ?_ ?_
    · refine Kept.upd ?_ rfl rfl rfl rfl rfl
      exact Kept.refl _
    · split
      · extract_lets -lift l6
        split
        · exact kept_setFails _ _
        · exact kept_setFails _ _
      · refine Kept.ite (Kept.refl _) ?_
        split
        · exact Kept.refl _
        · exact kept_setFails _ _

theorem kept_replaceRegs : ∀ s x1 x2, Kept s (State.replaceRegs s x1 x2) := by
  intro s p l
  unfold State.replaceRegs
  exact Kept.foldl (fun s e => kept_put s _ _ _) (Kept.updReg (Kept.refl s) fun h => ⟨alFilter_sorted h.1 _, h.2⟩)

theorem kept_setBank : ∀ s x1, Kept s (State.setBank s x1) := by
  intro s x1
  unfold State.setBank
  refine Kept.ite ?_ ?_
  · refine Kept.upd ?_ rfl rfl rfl rfl rfl
    exact Kept.refl _
  · refine Kept.upd ?_ rfl rfl rfl rfl rfl
    exact Kept.refl _

theorem kept_takeCommitted : ∀ s x1, Kept s (State.takeCommitted s x1) := by
  intro s x1
  unfold State.takeCommitted
  extract_lets -lift l0
  have k1 : Kept s l0 := by
    unfold l0
    exact kept_replaceRegs _ _ _
  clear_value l0
  exact k1.trans (kept_setBank _ _)

theorem kept_applyMirror : ∀ s x1 x2 x3, Kept s (State.applyMirror s x1 x2 x3) := by
  intro s x1 x2 x3
  unfold State.applyMirror
  refine Kept.ite (kept_tinToken _ _ _) ?_
  refine Kept.ite (kept_tinCache _ _ _) ?_
  refine Kept.ite (kept_tinRevoke _ _) ?_
  refine Kept.ite ?_ ?_
  · refine Kept.foldl (fun s0 i0 => ?_) ?_
    · exact kept_put _ _ _ _
    · exact Kept.refl _
  · refine Kept.ite (kept_tinLock _ _ _) ?_
    refine Kept.ite ?_ (Kept.refl _)
    refine Kept.ite ?_ ?_
    · refine Kept.upd ?_ rfl rfl rfl rfl rfl
      exact Kept.refl _
    · refine Kept.ite (kept_takeCommitted _ _) ?_
      refine Kept.ite ?_ ?_
      · refine Kept.upd ?_ rfl rfl rfl rfl rfl
        exact Kept.refl _
      · refine Kept.foldl (fun s1 i1 => ?_) ?_
        · exact kept_put _ _ _ _
        · exact Kept.refl _

theorem kept_mirrorIn : ∀ s x1, Kept s (State.mirrorIn s x1) := by
  intro s x1
  unfold State.mirrorIn
  extract_lets -lift l0
  have k1 : Kept s l0.2 := by
    unfold l0
    exact kept_twinIn _ _ _
  clear_value l0
  split
  · exact Kept.ite (k1.trans (kept_applyMirror _ _ _ _)) k1
  · exact k1

theorem kept_mirrorKey : ∀ s x1, Kept s (State.mirrorKey s x1) := by
  intro s x1
  unfold State.mirrorKey
  extract_lets -lift l0 l1 l2
  have k3 : Kept s l2 := by
    unfold l2
    exact Kept.ite (Kept.refl _) (kept_put _ _ _ _)
  clear_value l2
  split
  · exact Kept.refl _
  · extract_lets -lift l4
    have k5 : Kept s l4 := by
      unfold l4
      refine Kept.ite (Kept.refl _) ?_
      refine Kept.ite (k3.trans (kept_zeroizeSlot _ _ _)) ?_
      refine Kept.ite (k3.trans (kept_eraseSlot _ _)) ?_
      split
      · exact Kept.refl _
      · exact Kept.ite (Kept.refl _) (k3.trans (kept_modSlot _ _ _))
    clear_value l4
    exact k5.trans (kept_twinSend _ _ _)

theorem kept_keyResume : ∀ s x1, Kept s (State.keyResume s x1) := by
  intro s x1
  unfold State.keyResume
  refine Kept.foldl (fun s0 i0 => ?_) ?_
  · refine Kept.ite (Kept.refl _) ?_
    extract_lets -lift l1 l2 l3
    have k4 : Kept s0 l2 := by
      unfold l2
      refine Kept.upd ?_ rfl rfl rfl rfl rfl
      exact Kept.refl _
    clear_value l2
    have k5 : Kept s0 l3.2 := by
      unfold l3
      exact k4.trans (kept_keyRun _ _ _ _)
    clear_value l3
    split
    · exact k5.trans (kept_answer _ _ _ _)
    · exact k5
  · exact Kept.refl _

theorem kept_xferConfirm : ∀ s, Kept s (State.xferConfirm s) := by
  intro s
  unfold State.xferConfirm
  split
  · exact Kept.refl _
  · split
    · exact Kept.refl _
    · refine Kept.ite ?_ (kept_xferActive _ _ _ _)
      refine Kept.upd ?_ rfl rfl rfl rfl rfl
      exact Kept.refl _

theorem kept_learnSettle : ∀ s, Kept s (State.learnSettle s) := by
  intro s
  unfold State.learnSettle
  split
  · exact Kept.ite (kept_xferConfirm _) (Kept.refl _)
  · exact Kept.refl _

theorem kept_mirrorEnd : ∀ s x1 x2, Kept s (State.mirrorEnd s x1 x2) := by
  intro s x1 x2
  unfold State.mirrorEnd
  extract_lets -lift l0 l1 l2
  have k3 : Kept s l1 := by
    unfold l1
    refine Kept.trans ?_ (kept_modSlot _ _ _)
    refine Kept.upd ?_ rfl rfl rfl rfl rfl
    exact Kept.refl _
  clear_value l1
  have k4 : Kept s l2 := by
    unfold l2
    split
    · exact k3.trans (kept_answer _ _ _ _)
    · exact k3
  clear_value l2
  exact Kept.trans (k4.trans (kept_learnSettle _)) (kept_keyResume _ _)

theorem kept_mirrorAck : ∀ s x1, Kept s (State.mirrorAck s x1) := by
  intro s x1
  unfold State.mirrorAck
  extract_lets -lift l0 l1 l2
  have k3 : Kept s l2 := by
    unfold l2
    refine Kept.upd ?_ rfl rfl rfl rfl rfl
    exact Kept.refl _
  clear_value l2
  split
  · exact Kept.ite (k3.trans (kept_mirrorEnd _ _ _)) k3
  · exact Kept.ite (k3.trans (kept_modSlot _ _ _)) k3

theorem kept_keyMirrorIn : ∀ s x1, Kept s (State.keyMirrorIn s x1) := by
  intro s x1
  unfold State.keyMirrorIn
  extract_lets -lift l0
  have k1 : Kept s l0.2 := by
    unfold l0
    exact kept_twinIn _ _ _
  clear_value l0
  split
  · exact Kept.ite (k1.trans (kept_mirrorKey _ _)) (Kept.ite (k1.trans (kept_mirrorAck _ _)) k1)
  · exact k1

theorem kept_tinOver : ∀ s, Kept s (State.tinOver s) := by
  intro s
  unfold State.tinOver
  refine Kept.ite ?_ (Kept.refl _)
  refine Kept.trans ?_ (kept_twinReady _)
  refine Kept.upd ?_ rfl rfl rfl rfl rfl
  exact Kept.refl _

theorem kept_tinSend : ∀ s x1, Kept s (State.tinSend s x1) := by
  intro s x1
  unfold State.tinSend
  extract_lets -lift l0 l1
  refine Kept.trans ?_ (kept_bump _ _ _)
  refine Kept.foldl (fun s2 i2 => ?_) ?_
  · exact kept_twinSend _ _ _
  · exact Kept.refl _

theorem kept_tinDigestIn : ∀ s x1, Kept s (State.tinDigestIn s x1) := by
  intro s x1
  unfold State.tinDigestIn
  extract_lets -lift l0 l1 l2
  have k3 : Kept s l0.2 := by
    unfold l0
    exact kept_twinIn _ _ _
  clear_value l0
  have k4 : Kept s l1 := by
    unfold l1
    exact k3
  clear_value l1
  split
  · refine Kept.ite k3 ?_
    extract_lets -lift l5 l6
    have k7 : Kept s l6 := by
      unfold l6
      refine Kept.trans ?_ (kept_put _ _ _ _)
      refine Kept.upd ?_ rfl rfl rfl rfl rfl
      exact k4
    clear_value l6
    refine Kept.trans ?_ (kept_tinOver _)
    refine Kept.foldl (fun s8 i8 => ?_) ?_
    · extract_lets -lift l9
      have k10 : Kept s8 l9 := by
        unfold l9
        exact kept_twinSend _ _ _
      clear_value l9
      exact Kept.ite (k10.trans (kept_tinSend _ _)) k10
    · exact k7
  · exact k3

theorem kept_tinPullIn : ∀ s x1, Kept s (State.tinPullIn s x1) := by
  intro s x1
  unfold State.tinPullIn
  extract_lets -lift l0
  have k1 : Kept s l0.2 := by
    unfold l0
    exact kept_twinIn _ _ _
  clear_value l0
  split
  · exact Kept.ite (Kept.trans (k1.trans (kept_put _ _ _ _)) (kept_tinSend _ _)) k1
  · exact k1

theorem kept_tinCtr : ∀ s x1, Kept s (State.tinCtr s x1) := by
  intro s x1
  unfold State.tinCtr
  extract_lets -lift l0
  refine Kept.ite (Kept.ite (kept_jput _ _) (Kept.refl _)) ?_
  refine Kept.ite ?_ ?_
  · split
    · exact kept_raiseCtr _ _ _
    · exact Kept.refl _
  · split
    · exact kept_raiseCtr _ _ _
    · exact Kept.refl _

theorem kept_tinApply : ∀ s x1 x2, Kept s (State.tinApply s x1 x2) := by
  intro s x1 x2
  unfold State.tinApply
  refine Kept.ite ?_ ?_
  · refine Kept.foldl (fun s0 i0 => ?_) ?_
    · exact kept_tinToken _ _ _
    · exact Kept.refl _
  · refine Kept.ite ?_ ?_
    · refine Kept.foldl (fun s1 i1 => ?_) ?_
      · exact kept_tinCtr _ _
      · exact Kept.refl _
    · refine Kept.ite ?_ ?_
      · refine Kept.foldl (fun s2 i2 => ?_) ?_
        · exact kept_tinCache _ _ _
        · exact Kept.refl _
      · refine Kept.ite ?_ ?_
        · refine Kept.foldl (fun s3 i3 => ?_) ?_
          · exact kept_tinRevoke _ _
          · exact Kept.refl _
        · refine Kept.ite (kept_replaceRegs _ _ _) ?_
          refine Kept.ite ?_ ?_
          · extract_lets -lift l4 l5 l6
            have k7 : Kept s l6 := by
              unfold l6
              refine Kept.foldl (fun s8 i8 => ?_) ?_
              · exact Kept.ite (Kept.refl _) (kept_mirrorKey _ _)
              · exact Kept.refl _
            clear_value l6
            refine Kept.foldl (fun s9 i9 => ?_) ?_
            · exact kept_eraseSlot _ _
            · exact k7
          · refine Kept.ite ?_ ?_
            · refine Kept.foldl (fun s10 i10 => ?_) ?_
              · exact kept_tinLock _ _ _
              · exact Kept.refl _
            · refine Kept.ite ?_ ?_
              · extract_lets -lift l11 l12 l13 l14 l15 l16
                have k17 : Kept s l14 := by
                  unfold l14
                  exact Kept.trans (kept_takeCommitted _ _) (kept_replaceRegs _ _ _)
                clear_value l14
                refine Kept.upd ?_ rfl rfl rfl rfl rfl
                exact k17
              · refine Kept.upd ?_ rfl rfl rfl rfl rfl
                exact Kept.refl _

theorem kept_tinDataIn : ∀ s x1, Kept s (State.tinDataIn s x1) := by
  intro s x1
  unfold State.tinDataIn
  extract_lets -lift l0 l1 l2
  have k3 : Kept s l0.2 := by
    unfold l0
    exact kept_twinIn _ _ _
  clear_value l0
  have k4 : Kept s l1 := by
    unfold l1
    exact k3
  clear_value l1
  split
  · exact k3
  · extract_lets -lift l5 l6 l7 l8 l9 l10
    have k11 : Kept s l9 := by
      unfold l9
      refine Kept.trans ?_ (kept_tinApply _ _ _)
      refine Kept.upd ?_ rfl rfl rfl rfl rfl
      exact k4
    clear_value l9
    refine Kept.ite k3 ?_
    refine Kept.ite ?_ ?_
    · refine Kept.upd ?_ rfl rfl rfl rfl rfl
      exact k4
    · refine Kept.trans ?_ (kept_tinOver _)
      refine Kept.upd ?_ rfl rfl rfl rfl rfl
      exact k11

theorem kept_segRoute : ∀ s x1 x2, Kept s (State.segRoute s x1 x2) := by
  intro s x1 x2
  unfold State.segRoute
  split
  · exact kept_heartbeatIn _ _ _
  · exact kept_presenceRx _ _
  · exact kept_planIn _ _
  · exact kept_reportIn _ _
  · exact kept_lfRequestIn _ _
  · exact kept_joinIn _ _
  · exact kept_joinAck _ _
  · exact kept_commitIn _ _
  · exact kept_commitAckIn _ _
  · exact kept_mirrorIn _ _
  · exact kept_keyMirrorIn _ _
  · exact kept_tinDigestIn _ _
  · exact kept_tinPullIn _ _
  · exact kept_tinDataIn _ _
  · exact kept_segCount _ _

theorem kept_rxDeliver : ∀ s x1 x2 x3 x4 x5, (∀ s, Kept s (x5 s)) → Kept s (State.rxDeliver s x1 x2 x3 x4 x5) := by
  intro s x1 x2 x3 x4 x5 h0
  unfold State.rxDeliver
  extract_lets -lift l0 l1 l2
  have k3 : Kept s l2 := by
    unfold l2
    exact kept_modRxq _ _ _
  clear_value l2
  exact Kept.ite (h0 _) (Kept.ite (Kept.trans (kept_modRxq _ _ _) (h0 _)) (Kept.ite (k3.trans (kept_engEv _ _ _)) k3))

theorem kept_ethFilter : ∀ s x1 x2 x3 x4 x5, Kept s (State.ethFilter s x1 x2 x3 x4 x5) := by
  intro s x1 x2 x3 x4 x5
  unfold State.ethFilter
  extract_lets -lift l0
  split
  · unfold l0
    exact kept_bump _ _ _
  · refine kept_rxDeliver _ _ _ _ _ _ ?_
    intro z1
    unfold l0
    exact kept_bump _ _ _

theorem kept_t1sFrameIn : ∀ s x1 x2 x3 x4 x5 x6, Kept s (State.t1sFrameIn s x1 x2 x3 x4 x5 x6) := by
  intro s x1 x2 x3 x4 x5 x6
  unfold State.t1sFrameIn
  refine Kept.ite (Kept.refl _) ?_
  refine Kept.ite (kept_bump _ _ _) ?_
  refine Kept.ite (Kept.refl _) ?_
  extract_lets -lift l0
  have k1 : Kept s l0 := by
    unfold l0
    exact kept_bump _ _ _
  clear_value l0
  refine Kept.ite (k1.trans (kept_ptpIn _ _)) ?_
  refine Kept.ite ?_ (k1.trans (kept_ethFilter _ _ _ _ _ _))
  exact Kept.ite (k1.trans (kept_t1sDict _ _ _ _)) (Kept.ite (k1.trans (kept_segRoute _ _ _)) (k1.trans (kept_bump _ _ _)))

theorem kept_immoReject : ∀ s, Kept s (State.immoReject s) := by
  intro s
  unfold State.immoReject
  exact kept_bump _ _ _

theorem kept_startTrigger : ∀ s, Kept s (State.startTrigger s) := by
  intro s
  unfold State.startTrigger
  extract_lets -lift l0
  have k1 : Kept s l0 := by
    unfold l0
    refine Kept.foldl (fun s2 i2 => ?_) ?_
    · exact kept_askPrompt _ _ _ _
    · exact Kept.refl _
  clear_value l0
  exact Kept.ite k1 (k1.trans (kept_lfAsk _ _))

theorem kept_immoChallenge : ∀ s x1, Kept s (State.immoChallenge s x1) := by
  intro s x1
  unfold State.immoChallenge
  refine Kept.ite ?_ (kept_startTrigger _)
  refine Kept.ite (kept_immoResponse _ _ _) ?_
  extract_lets -lift l0 l1 l2
  refine Kept.trans ?_ (kept_startTrigger _)
  refine Kept.upd ?_ rfl rfl rfl rfl rfl
  exact Kept.refl _

theorem kept_startAck : ∀ s x1, Kept s (State.startAck s x1) := by
  intro s x1
  unfold State.startAck
  split
  · exact Kept.refl _
  · refine Kept.ite ?_ (Kept.refl _)
    extract_lets -lift l0 l1
    have k2 : Kept s l1 := by
      unfold l1
      refine Kept.upd ?_ rfl rfl rfl rfl rfl
      exact Kept.refl _
    clear_value l1
    refine Kept.foldl (fun s3 i3 => ?_) ?_
    · extract_lets -lift l4
      have k5 : Kept s3 l4 := by
        unfold l4
        exact kept_endStart _ _ _
      clear_value l4
      exact Kept.ite k5 (k5.trans (kept_refuseReq _ _ _ _ _))
    · exact k2

theorem kept_immoRx : ∀ s x1, Kept s (State.immoRx s x1) := by
  intro s x1
  unfold State.immoRx
  refine Kept.ite (Kept.refl _) ?_
  refine Kept.ite (kept_immoReject _) ?_
  split
  · exact kept_immoChallenge _ _
  · extract_lets -lift l0
    exact Kept.ite (kept_startAck _ _) (kept_immoReject _)

theorem kept_xlDict : ∀ s x1 x2 x3 x4, Kept s (State.xlDict s x1 x2 x3 x4) := by
  intro s x1 x2 x3 x4
  unfold State.xlDict
  exact Kept.ite (Kept.refl _) (kept_netMessage _ _ _)

theorem kept_fdSegment : ∀ s x1 x2 x3, Kept s (State.fdSegment s x1 x2 x3) := by
  intro s x1 x2 x3
  unfold State.fdSegment
  refine Kept.ite (Kept.refl _) ?_
  extract_lets -lift l0 l1 l2 l3
  have k4 : Kept s l3 := by
    unfold l3
    exact kept_setReasm _ _ _
  clear_value l3
  refine Kept.ite ?_ ?_
  · refine Kept.ite ?_ k4
    unfold l2
    exact Kept.ite (Kept.trans (k4.trans (kept_setReasm _ _ _)) (kept_netMessage _ _ _)) (k4.trans (kept_setReasm _ _ _))
  · split
    · exact Kept.refl _
    · refine Kept.ite k4 ?_
      unfold l2
      exact Kept.ite (Kept.trans (kept_setReasm _ _ _) (kept_netMessage _ _ _)) (kept_setReasm _ _ _)

theorem kept_v1Take : ∀ s, Kept s (State.v1Take s) := by
  intro s
  unfold State.v1Take
  exact kept_boundary _ _

theorem kept_v1Send : ∀ s x1 x2 x3, Kept s (State.v1Send s x1 x2 x3) := by
  intro s x1 x2 x3
  unfold State.v1Send
  exact kept_canSend _ _ _

theorem kept_v1Error : ∀ s x1 x2 x3, Kept s (State.v1Error s x1 x2 x3) := by
  intro s x1 x2 x3
  unfold State.v1Error
  exact kept_v1Send _ _ _ _

theorem kept_v1Read : ∀ s x1, Kept s (State.v1Read s x1) := by
  intro s x1
  unfold State.v1Read
  extract_lets -lift l0 l1 l2 l3
  have k4 : Kept s l0 := by
    unfold l0
    exact kept_v1Take _
  clear_value l0
  have k5 : Kept s l3.2 := by
    unfold l3
    exact k4.trans (kept_serveRead _ _ _ _)
  clear_value l3
  refine Kept.ite k4 ?_
  refine Kept.ite (k4.trans (kept_v1Error _ _ _ _)) ?_
  refine Kept.ite (k4.trans (kept_v1Error _ _ _ _)) ?_
  refine Kept.ite (k4.trans (kept_v1Error _ _ _ _)) ?_
  refine Kept.ite (k4.trans (kept_v1Error _ _ _ _)) ?_
  split
  · exact k5.trans (kept_v1Send _ _ _ _)
  · exact k5

theorem kept_v1Write : ∀ s x1, Kept s (State.v1Write s x1) := by
  intro s x1
  unfold State.v1Write
  extract_lets -lift l0 l1 l2 l3 l4
  have k5 : Kept s l0 := by
    unfold l0
    exact kept_v1Take _
  clear_value l0
  refine Kept.ite k5 ?_
  refine Kept.ite (k5.trans (kept_v1Error _ _ _ _)) ?_
  refine Kept.ite (k5.trans (kept_v1Error _ _ _ _)) ?_
  refine Kept.ite (k5.trans (kept_v1Error _ _ _ _)) ?_
  refine Kept.ite (k5.trans (kept_v1Error _ _ _ _)) ?_
  refine Kept.ite (k5.trans (kept_v1Error _ _ _ _)) ?_
  split
  · exact k5.trans (kept_v1Error _ _ _ _)
  · exact Kept.trans (k5.trans (kept_applyWrite _ _ _ _ _)) (kept_v1Send _ _ _ _)

theorem kept_v1UnlockReq : ∀ s x1, Kept s (State.v1UnlockReq s x1) := by
  intro s x1
  unfold State.v1UnlockReq
  extract_lets -lift l0 l1 l2 l3 l4 l5
  have k6 : Kept s l0 := by
    unfold l0
    exact kept_v1Take _
  clear_value l0
  have k7 : Kept s l1 := by
    unfold l1
    exact k6.trans (kept_boundary _ _)
  clear_value l1
  have k8 : Kept s l2.2 := by
    unfold l2
    exact k7.trans (kept_draw _ _)
  clear_value l2
  have k9 : Kept s l3 := by
    unfold l3
    exact k8
  clear_value l3
  refine Kept.ite k6 ?_
  refine Kept.ite (k6.trans (kept_v1Error _ _ _ _)) ?_
  refine Kept.ite (k6.trans (kept_v1Error _ _ _ _)) ?_
  refine Kept.ite (k6.trans (kept_v1Error _ _ _ _)) ?_
  refine Kept.trans ?_ (kept_v1Send _ _ _ _)
  refine Kept.upd ?_ rfl rfl rfl rfl rfl
  exact k9

theorem kept_v1Proof : ∀ s x1, Kept s (State.v1Proof s x1) := by
  intro s x1
  unfold State.v1Proof
  extract_lets -lift l0 l1 l2 l3 l4 l5
  have k6 : Kept s l0 := by
    unfold l0
    exact kept_v1Take _
  clear_value l0
  have k7 : Kept s l3 := by
    unfold l3
    exact k6.trans (kept_cxUse _ _ _)
  clear_value l3
  refine Kept.ite k6 ?_
  refine Kept.ite (k6.trans (kept_v1Error _ _ _ _)) ?_
  refine Kept.ite ?_ ?_
  · refine Kept.trans ?_ (kept_v1Send _ _ _ _)
    refine Kept.upd ?_ rfl rfl rfl rfl rfl
    exact k7
  · refine Kept.trans ?_ (kept_v1Error _ _ _ _)
    refine Kept.upd ?_ rfl rfl rfl rfl rfl
    exact k6

theorem kept_v1Frame : ∀ s x1, Kept s (State.v1Frame s x1) := by
  intro s x1
  unfold State.v1Frame
  split
  · exact kept_v1Read _ _
  · exact kept_v1Write _ _
  · exact kept_v1UnlockReq _ _
  · exact kept_v1Proof _ _
  · exact kept_v1Take _

theorem kept_canFilter : ∀ s x1 x2 x3, Kept s (State.canFilter s x1 x2 x3) := by
  intro s x1 x2 x3
  unfold State.canFilter
  extract_lets -lift l0
  refine Kept.ite ?_ ?_
  · unfold l0
    exact kept_bump _ _ _
  · split
    · unfold l0
      exact kept_bump _ _ _
    · exact kept_rxDeliver _ _ _ _ _ _ (fun z1 => kept_bump _ _ _)

theorem kept_canFrameIn : ∀ s x1 x2 x3, Kept s (State.canFrameIn s x1 x2 x3) := by
  intro s x1 x2 x3
  unfold State.canFrameIn
  refine Kept.ite (Kept.refl _) ?_
  extract_lets -lift l0
  have k1 : Kept s l0 := by
    unfold l0
    exact Kept.trans (kept_modCan _ _ _) (kept_bump _ _ _)
  clear_value l0
  refine Kept.ite (k1.trans (kept_immoRx _ _)) ?_
  refine Kept.ite ?_ (Kept.ite (k1.trans (kept_v1Frame _ _)) (k1.trans (kept_canFilter _ _ _ _)))
  exact Kept.ite (k1.trans (kept_xlDict _ _ _ _ _)) (Kept.ite k1 (k1.trans (kept_fdSegment _ _ _ _)))

theorem kept_canDictRow : ∀ s x1 x2 x3 x4 x5, Kept s (State.canDictRow s x1 x2 x3 x4 x5) := by
  intro s x1 x2 x3 x4 x5
  unfold State.canDictRow
  exact kept_portIn _ _ _ (fun z0 => Kept.ite (kept_canFrameIn _ _ _ _) (Kept.refl _))

theorem kept_wairilIn : ∀ s x1, Kept s (State.wairilIn s x1) := by
  intro s x1
  unfold State.wairilIn
  extract_lets -lift l0 l1 l2
  refine Kept.ite (Kept.refl _) ?_
  refine Kept.ite (kept_bump _ _ _) ?_
  exact Kept.ite (Kept.ite (kept_netMessage _ _ _) (Kept.refl _)) (Kept.ite (kept_segRoute _ _ _) (kept_segCount _ _))

theorem kept_wlFills : ∀ s x1, Kept s (State.wlFills s x1) := by
  intro s x1
  unfold State.wlFills
  exact Kept.ite (kept_bumpBy _ _ _ _) (Kept.refl _)

theorem kept_v1Row : ∀ s x1 x2, Kept s (State.v1Row s x1 x2) := by
  intro s x1 x2
  unfold State.v1Row
  exact Kept.ite (Kept.refl _) (kept_portIn _ _ _ (fun z0 => kept_canFrameIn _ _ _ _))

theorem kept_v1Expiry : ∀ s, Kept s (State.v1Expiry s) := by
  intro s
  unfold State.v1Expiry
  split
  · refine Kept.ite ?_ (Kept.refl _)
    refine Kept.upd ?_ rfl rfl rfl rfl rfl
    exact Kept.refl _
  · exact Kept.refl _

theorem kept_v1LockEnd : ∀ s, Kept s (State.v1LockEnd s) := by
  intro s
  unfold State.v1LockEnd
  extract_lets -lift l0 l1 l2
  refine Kept.ite (Kept.refl _) ?_
  refine Kept.upd ?_ rfl rfl rfl rfl rfl
  exact Kept.refl _

theorem kept_devCommitDone : ∀ s x1, Kept s (State.devCommitDone s x1) := by
  intro s x1
  unfold State.devCommitDone
  split
  · exact Kept.refl _
  · refine Kept.ite ?_ ?_
    · extract_lets -lift l0 l1 l2 l3
      have k4 : Kept s l1 := by
        unfold l1
        refine Kept.upd ?_ rfl rfl rfl rfl rfl
        exact Kept.refl _
      clear_value l1
      have k5 : Kept s l2 := by
        unfold l2
        exact Kept.trans (Kept.trans (k4.trans (kept_setBank _ _)) (kept_bump _ _ _)) (kept_put _ _ _ _)
      clear_value l2
      exact Kept.trans (k5.trans (kept_mirror _ _ _ _)) (kept_answer _ _ _ _)
    · extract_lets -lift l6 l7
      have k8 : Kept s l7 := by
        unfold l7
        refine Kept.trans ?_ (kept_errBit _ _ _ _ _)
        refine Kept.trans ?_ (kept_put _ _ _ _)
        refine Kept.upd ?_ rfl rfl rfl rfl rfl
        exact Kept.refl _
      clear_value l7
      exact Kept.trans (k8.trans (kept_logEv _ _ _ _ _)) (kept_answer _ _ _ _)

theorem kept_devResetRow : ∀ s x1 x2, Kept s (State.devResetRow s x1 x2) := by
  intro s who kind
  unfold State.devResetRow
  refine Kept.ite (Kept.refl s) ?_
  refine (kept_ask s who 3 0x1018 0 [BitVec.ofNat 8 kind]).trans ?_
  generalize s.ask who 3 0x1018 0 [BitVec.ofNat 8 kind] = s1
  dsimp only
  split
  · exact ((Kept.refl s1).updNow (Nat.le_max_left _ _)).trans (kept_resetTake _ _ _)
  · exact Kept.refl _

theorem kept_selfTestDone : ∀ s x1 x2, Kept s (State.selfTestDone s x1 x2) := by
  intro s x1 x2
  unfold State.selfTestDone
  split
  · exact Kept.refl _
  · extract_lets -lift l0 l1 l2 l3 l4 l5
    have k6 : Kept s l3 := by
      unfold l3
      refine Kept.trans ?_ (kept_put _ _ _ _)
      refine Kept.upd ?_ rfl rfl rfl rfl rfl
      exact Kept.refl _
    clear_value l3
    have k7 : Kept s l4 := by
      unfold l4
      exact Kept.ite k6 (k6.trans (kept_errBit _ _ _ _ _))
    clear_value l4
    have k8 : Kept s l5 := by
      unfold l5
      exact Kept.ite (k7.trans (kept_quench _ _)) k7
    clear_value l5
    exact k8.trans (kept_answer _ _ _ _)

theorem kept_whenVaon : ∀ s x1, (∀ s, Kept s (x1 s)) → Kept s (State.whenVaon s x1) := by
  intro s x1 h0
  unfold State.whenVaon
  exact Kept.ite (h0 _) (Kept.refl _)

theorem kept_vcDomain : ∀ s x1, Kept s (State.vcDomain s x1) := by
  intro s x1
  unfold State.vcDomain
  split
  · refine Kept.upd ?_ rfl rfl rfl rfl rfl
    exact Kept.refl _
  · extract_lets -lift l0 l1 l2 l3 l4
    have k5 : Kept s l4 := by
      unfold l4
      refine Kept.upd ?_ rfl rfl rfl rfl rfl
      exact Kept.refl _
    clear_value l4
    refine Kept.ite ?_ ?_
    · refine Kept.upd ?_ rfl rfl rfl rfl rfl
      exact Kept.refl _
    · refine Kept.ite ?_ (Kept.ite k5 (k5.trans (kept_putFloor _)))
      refine Kept.upd ?_ rfl rfl rfl rfl rfl
      exact Kept.refl _

theorem kept_vcSecond : ∀ s x1, Kept s (State.vcSecond s x1) := by
  intro s x1
  unfold State.vcSecond
  refine Kept.ite (Kept.refl _) ?_
  refine Kept.trans ?_ (kept_expirySweep _)
  refine Kept.trans ?_ (kept_vcDomain _ _)
  refine Kept.upd ?_ rfl rfl rfl rfl rfl
  exact Kept.refl _

theorem kept_floorPeriod : ∀ s, Kept s (State.floorPeriod s) := by
  intro s
  unfold State.floorPeriod
  exact Kept.ite (kept_putFloor _) (Kept.refl _)

theorem kept_resyncTimeout : ∀ s, Kept s (State.resyncTimeout s) := by
  intro s
  unfold State.resyncTimeout
  extract_lets -lift l0 l1
  refine Kept.upd ?_ rfl rfl rfl rfl rfl
  exact Kept.refl _

theorem kept_ackSettle : ∀ s, Kept s (State.ackSettle s) := by
  intro s
  unfold State.ackSettle
  extract_lets -lift l0
  refine Kept.foldl (fun s1 i1 => ?_) ?_
  · extract_lets -lift l2 l3
    refine Kept.trans ?_ (kept_ackCommit _ _ _)
    refine Kept.upd ?_ rfl rfl rfl rfl rfl
    exact Kept.refl _
  · exact Kept.refl _

theorem kept_journalDone : ∀ s x1, Kept s (State.journalDone s x1) := by
  intro s x1
  unfold State.journalDone
  exact Kept.trans (Kept.trans (kept_recordDone _ _) (kept_advSettle _)) (kept_ackSettle _)

theorem kept_compactStart : ∀ s, Kept s (State.compactStart s) := by
  intro s
  unfold State.compactStart
  extract_lets -lift l0 l1 l2 l3
  refine Kept.ite ?_ (Kept.refl _)
  refine Kept.upd ?_ rfl rfl rfl rfl rfl
  exact Kept.refl _

theorem kept_compactPass : ∀ s, Kept s (State.compactPass s) := by
  intro s
  unfold State.compactPass
  extract_lets -lift l0 l1 l2
  split
  · exact Kept.refl _
  · extract_lets -lift l3 l4
    refine Kept.ite ?_ ?_
    · refine Kept.upd ?_ rfl rfl rfl rfl rfl
      exact Kept.refl _
    · refine Kept.upd ?_ rfl rfl rfl rfl rfl
      exact Kept.refl _

theorem kept_compactSwitch : ∀ s, Kept s (State.compactSwitch s) := by
  intro s
  unfold State.compactSwitch
  extract_lets -lift l0 l1
  split
  · exact Kept.refl _
  · refine Kept.ite (Kept.refl _) ?_
    extract_lets -lift l2 l3 l4 l5
    have k6 : Kept s l5 := by
      unfold l5
      refine Kept.trans ?_ (kept_bump _ _ _)
      refine Kept.upd ?_ rfl rfl rfl rfl rfl
      exact Kept.refl _
    clear_value l5
    refine Kept.foldl (fun s7 i7 => ?_) ?_
    · exact kept_jwrite _ _
    · exact k6

theorem kept_zqDrop : ∀ s, Kept s (State.zqDrop s) := by
  intro s
  unfold State.zqDrop
  exact kept_bump _ _ _

theorem kept_zqIn : ∀ s x1 x2 x3, ∀ u, State.zqIn s x1 x2 x3 = some u → Kept s u.2.2.2 := by
  intro s car typ m u h
  unfold State.zqIn at h
  split at h
  · cases h
  · split at h
    · dsimp only at h
      split at h
      · cases h; exact kept_modSes s _ _
      · cases h
    · cases h

theorem kept_tokenProof : ∀ s x1 x2, Kept s (State.tokenProof s x1 x2).2 := by
  intro s x1 x2
  unfold State.tokenProof
  extract_lets -lift l0 l1
  refine kept_present _ _ _ _ _ ?_
  intro z2
  intro z3
  exact kept_judgeTok _ _ _ _ _ _ _ _ _

theorem kept_cacheFor : ∀ s x1, Kept s (State.cacheFor s x1).2 := by
  intro s x1
  unfold State.cacheFor
  extract_lets -lift l0 l1 l2 l3 l4 l5 l6
  split
  · exact Kept.refl _
  · split
    · dsimp -zeta only [ret]
      refine Kept.upd ?_ rfl rfl rfl rfl rfl
      exact Kept.refl _
    · extract_lets -lift l7
      have k8 : Kept s l7 := by
        unfold l7
        refine Kept.upd ?_ rfl rfl rfl rfl rfl
        exact Kept.refl _
      clear_value l7
      dsimp -zeta only [ret]
      exact Kept.trans (k8.trans (kept_cacheMirror _ _)) (kept_exhausted _ _)

theorem kept_authUse : ∀ s x1, Kept s (State.authUse s x1) := by
  intro s x1
  unfold State.authUse
  exact kept_bump _ _ _

theorem kept_judgeCred : ∀ s x1 x2 x3 x4 x5, Kept s (State.judgeCred s x1 x2 x3 x4 x5).2 := by
  intro s x1 x2 x3 x4 x5
  unfold State.judgeCred
  extract_lets -lift l0 l1 l2 l3 l4 l5 l6 l7 l8 l9 l10
  have k11 : Kept s l3.2 := by
    unfold l3
    clear_value l2
    split
    · exact Kept.refl _
    · exact kept_takePend _ _
  clear_value l3
  have k12 : Kept s l4 := by
    unfold l4
    exact k11
  clear_value l4
  have k13 : Kept s l6 := by
    unfold l6
    exact k12.trans (kept_cxUse _ _ _)
  clear_value l6
  have k14 : Kept s l10.2 := by
    unfold l10
    exact k13.trans (kept_cacheFor _ _)
  clear_value l10
  refine Kept.ite_snd ?_ ?_
  · dsimp -zeta only [ret]
    exact k12
  · refine Kept.ite_snd ?_ ?_
    · dsimp -zeta only [ret]
      exact k12
    · refine Kept.ite_snd ?_ ?_
      · dsimp -zeta only [ret]
        exact k13
      · refine Kept.ite_snd ?_ ?_
        · dsimp -zeta only [ret]
          exact k13
        · split
          · dsimp -zeta only [ret]
            exact k13
          · extract_lets -lift l15 l16
            refine Kept.ite_snd ?_ ?_
            · dsimp -zeta only [ret]
              exact k13
            · refine Kept.ite_snd ?_ ?_
              · dsimp -zeta only [ret]
                exact k13
              · split
                · dsimp -zeta only [ret]
                  exact k13
                · refine Kept.ite_snd ?_ ?_
                  · dsimp -zeta only [ret]
                    exact k13
                  · split
                    · dsimp -zeta only [ret]
                      exact k14
                    · extract_lets -lift l17 l18 l19 l20
                      have k21 : Kept s l18.2 := by
                        unfold l18
                        exact k14.trans (kept_counterStep _ _ _ _ _ _)
                      clear_value l18
                      have k22 : Kept s l19 := by
                        unfold l19
                        exact k21
                      clear_value l19
                      refine Kept.ite_snd ?_ k21
                      dsimp -zeta only [ret]
                      refine Kept.trans ?_ (kept_authUse _ _)
                      refine Kept.upd ?_ rfl rfl rfl rfl rfl
                      exact k22

theorem kept_credProof : ∀ s x1 x2, Kept s (State.credProof s x1 x2).2 := by
  intro s x1 x2
  unfold State.credProof
  extract_lets -lift l0 l1
  refine kept_present _ _ _ _ _ ?_
  intro z2
  intro z3
  exact kept_judgeCred _ _ _ _ _ _

theorem kept_attest : ∀ s x1, Kept s (State.attest s x1).2 := by
  intro s x1
  unfold State.attest
  extract_lets -lift l0 l1 l2 l3 l4
  have k5 : Kept s l4 := by
    unfold l4
    refine Kept.upd ?_ rfl rfl rfl rfl rfl
    exact Kept.refl _
  clear_value l4
  refine Kept.ite_snd (Kept.refl _) ?_
  refine Kept.ite_snd (Kept.refl _) ?_
  refine Kept.ite_snd ?_ ?_
  · dsimp -zeta only [ret]
    exact kept_cxUse _ _ _
  · refine Kept.ite_snd (Kept.refl _) ?_
    refine Kept.ite_snd (Kept.refl _) ?_
    dsimp -zeta only [ret]
    exact Kept.trans (k5.trans (kept_putFloor _)) (kept_authUse _ _)

theorem kept_attestMsg : ∀ s x1 x2, Kept s (State.attestMsg s x1 x2) := by
  intro s x1 x2
  unfold State.attestMsg
  extract_lets -lift l0 l1
  have k2 : Kept s l1.2 := by
    unfold l1
    exact kept_attest _ _
  clear_value l1
  exact Kept.ite (k2.trans (kept_resultPlain _ _ _ _)) (Kept.refl _)

theorem kept_failCode : ∀ s, Kept s (State.failCode s) := by
  intro s
  unfold State.failCode
  extract_lets -lift l0 l1
  refine Kept.trans ?_ (kept_bump _ _ _)
  refine Kept.ite ?_ ?_
  · refine Kept.upd ?_ rfl rfl rfl rfl rfl
    exact Kept.refl _
  · refine Kept.trans ?_ (kept_mirrorLock _ _ _ _ _)
    refine Kept.trans ?_ (kept_logLock _ _ _ _ _ _)
    refine Kept.upd ?_ rfl rfl rfl rfl rfl
    exact Kept.refl _

theorem kept_enrolCode : ∀ s x1 x2, Kept s (State.enrolCode s x1 x2).2 := by
  intro s x1 x2
  unfold State.enrolCode
  extract_lets -lift l0 l1 l2
  refine Kept.ite_snd (Kept.refl _) ?_
  refine Kept.ite_snd (Kept.refl _) ?_
  split
  · exact Kept.refl _
  · refine Kept.ite_snd (Kept.refl _) ?_
    refine Kept.ite_snd ?_ ?_
    · refine Kept.trans ?_ (kept_learnOpen _ _ _ _)
      refine Kept.upd ?_ rfl rfl rfl rfl rfl
      exact Kept.refl _
    · dsimp -zeta only [ret]
      exact kept_failCode _

theorem kept_drawTid : ∀ s x1, Kept s (State.drawTid s x1).2
  | s, 0 => by unfold State.drawTid; exact Kept.refl s
  | s, n + 1 => by
    unfold State.drawTid
    exact Kept.ite_snd (kept_draw s 4) ((kept_draw s 4).trans (kept_drawTid _ n))

theorem kept_enrolRequest : ∀ s x1 x2, Kept s (State.enrolRequest s x1 x2).2.2 := by
  intro s x1 x2
  unfold State.enrolRequest
  split
  · exact Kept.refl _
  · extract_lets -lift l0 l1 l2 l3 l4 l5 l6
    have k7 : Kept s l4 := by
      unfold l4
      exact kept_xferDrop _
    clear_value l4
    have k8 : Kept s l5.2 := by
      unfold l5
      exact k7.trans (kept_draw _ _)
    clear_value l5
    have k9 : Kept s l6.2 := by
      unfold l6
      exact k8.trans (kept_drawTid _ _)
    clear_value l6
    split
    · exact Kept.refl _
    · split
      · exact Kept.refl _
      · split
        · exact Kept.refl _
        · split
          · exact Kept.refl _
          · split
            · exact Kept.refl _
            · split
              · exact Kept.refl _
              · split
                · dsimp -zeta only [ret]
                  exact k7
                · extract_lets -lift l10 l11 l12 l13 l14 l15
                  have k16 : Kept s l10 := by
                    unfold l10
                    exact k9.trans (kept_loadSlot _ _ _ _)
                  clear_value l10
                  have k17 : Kept s l11 := by
                    unfold l11
                    exact Kept.ite (k16.trans (kept_sendKey _ _ _ _)) k16
                  clear_value l11
                  have k18 : Kept s l14 := by
                    unfold l14
                    refine Kept.upd ?_ rfl rfl rfl rfl rfl
                    exact k17
                  clear_value l14
                  split
                  · dsimp -zeta only [ret]
                    refine Kept.ite ?_ k18
                    refine Kept.upd ?_ rfl rfl rfl rfl rfl
                    exact k18
                  · split
                    · dsimp -zeta only [ret]
                      exact k18
                    · dsimp -zeta only [ret]
                      exact k18

theorem kept_enrolServe : ∀ s x1 x2, Kept s (State.enrolServe s x1 x2) := by
  intro s x1 x2
  unfold State.enrolServe
  extract_lets -lift l0 l1
  have k2 : Kept s l0.2.2 := by
    unfold l0
    exact kept_enrolRequest _ _ _
  clear_value l0
  have k3 : Kept s l1 := by
    unfold l1
    exact k2.trans (kept_sesResult _ _ _ _ _ _)
  clear_value l1
  split
  · exact k3
  · exact k3.trans (kept_sesSend _ _ _ _)

theorem kept_revokeRequest : ∀ s x1 x2 x3, Kept s (State.revokeRequest s x1 x2 x3) := by
  intro s x1 x2 x3
  unfold State.revokeRequest
  extract_lets -lift l0 l1 l2
  have k3 : Kept s l2 := by
    unfold l2
    exact kept_modSes _ _ _
  clear_value l2
  refine Kept.ite (k3.trans (kept_sesResult _ _ _ _ _ _)) ?_
  split
  · exact k3.trans (kept_sesResult _ _ _ _ _ _)
  · exact Kept.trans (k3.trans (kept_sesResult _ _ _ _ _ _)) (kept_revokeTok _ _ _)

theorem kept_zqServe : ∀ s x1 x2 x3, Kept s (State.zqServe s x1 x2 x3) := by
  intro s car typ m
  unfold State.zqServe
  split
  · exact kept_zqDrop s
  · next i x b s1 he =>
    refine (kept_zqIn s _ _ _ _ he).trans (Kept.trans ?_ (kept_mctrEnd _ _))
    split
    · refine Kept.trans ?_ (kept_sesResult _ _ _ _ _ _)
      split
      · exact kept_enrolCode s1 _ _
      · exact Kept.refl s1
    · exact Kept.ite (Kept.upd (Kept.refl s1) rfl rfl rfl rfl rfl) (kept_enrolServe s1 _ _)
    · exact kept_revokeRequest s1 _ _ _
    · exact kept_endSession s1 _ _

theorem kept_zqJudge : ∀ s x1 x2, Kept s (State.zqJudge s x1 x2).2 := by
  intro s x1 x2
  unfold State.zqJudge
  extract_lets -lift l0
  split
  · exact Kept.refl _
  · refine Kept.ite_snd (Kept.refl _) ?_
    refine Kept.ite_snd ?_ ?_
    · dsimp -zeta only [ret]
      exact kept_zqDrop _
    · refine Kept.ite_snd (kept_tokenProof _ _ _) ?_
      refine Kept.ite_snd (kept_credProof _ _ _) ?_
      refine Kept.ite_snd ?_ ?_
      · dsimp -zeta only [ret]
        exact kept_attestMsg _ _ _
      · dsimp -zeta only [ret]
        exact kept_zqServe _ _ _ _

theorem kept_zqTake : ∀ s x1 x2, Kept s (State.zqTake s x1 x2) := by
  intro s x1 x2
  unfold State.zqTake
  split
  · exact kept_zqDrop _
  · refine Kept.trans ?_ (kept_zqJudge _ _ _)
    refine Kept.upd ?_ rfl rfl rfl rfl rfl
    exact Kept.refl _
  · extract_lets -lift l0 l1 l2 l3
    have k4 : Kept s l1.2 := by
      unfold l1
      exact Kept.trans (kept_modAct _ _ _) (kept_zqJudge _ _ _)
    clear_value l1
    have k5 : Kept s l3 := by
      unfold l3
      clear_value l2
      split
      · exact k4.trans (kept_tsAdmit _ _ _)
      · exact k4
    clear_value l3
    exact k5.trans (kept_nfcSend _ _)

theorem kept_zqRow : ∀ s x1 x2 x3, Kept s (State.zqRow s x1 x2 x3) := by
  intro s x1 x2 x3
  unfold State.zqRow
  exact kept_whenLive _ _ (fun z0 => Kept.ite (kept_zqTake _ _ _) (Kept.refl _))

theorem kept_zqDropRow : ∀ s x1 x2, Kept s (State.zqDropRow s x1 x2) := by
  intro s x1 x2
  unfold State.zqDropRow
  exact kept_whenLive _ _ (fun z0 => Kept.ite (kept_zqTake _ _ _) (Kept.refl _))

theorem kept_bleFlush : ∀ s x1, Kept s (State.bleFlush s x1) := by
  intro s x1
  unfold State.bleFlush
  extract_lets -lift l0 l1 l2
  have k3 : Kept s l2 := by
    unfold l2
    refine Kept.upd ?_ rfl rfl rfl rfl rfl
    exact Kept.refl _
  clear_value l2
  split
  · exact k3
  · exact Kept.ite (k3.trans (kept_modConn _ _ _)) (k3.trans (kept_bumpBy _ _ _ _))

theorem kept_bleChallenge : ∀ s x1, Kept s (State.bleChallenge s x1) := by
  intro s x1
  unfold State.bleChallenge
  split
  · exact Kept.refl _
  · refine Kept.ite ?_ (Kept.refl _)
    extract_lets -lift l0
    have k1 : Kept s l0.2 := by
      unfold l0
      exact kept_newNonce _ _ _ _
    clear_value l0
    exact Kept.trans (Kept.trans (k1.trans (kept_modConn _ _ _)) (kept_vsend _ _ _)) (kept_bleFlush _ _)

theorem kept_blePrompt : ∀ s x1, Kept s (State.blePrompt s x1) := by
  intro s x1
  unfold State.blePrompt
  refine Kept.ite ?_ (Kept.refl _)
  extract_lets -lift l0 l1
  refine Kept.foldl (fun s2 i2 => ?_) ?_
  · split
    · exact Kept.refl _
    · extract_lets -lift l3
      have k4 : Kept s2 l3.2 := by
        unfold l3
        exact kept_newNonce _ _ _ _
      clear_value l3
      exact Kept.trans (Kept.trans (k4.trans (kept_sesSendRaw _ _ _ _ _)) (kept_bleFlush _ _)) (kept_mctrEnd _ _)
  · refine Kept.upd ?_ rfl rfl rfl rfl rfl
    exact Kept.refl _

theorem kept_drawUntil : ∀ s x1 x2 x3 x4, Kept s (State.drawUntil s x1 x2 x3 x4).2
  | s, 0, _, _, _ => by unfold State.drawUntil; exact Kept.refl s
  | s, n + 1, w, f, ok => by
    unfold State.drawUntil
    exact Kept.ite_snd (kept_draw s w) ((kept_draw s w).trans (kept_drawUntil _ n w f ok))

theorem kept_openUwb : ∀ s x1 x2 x3, Kept s (State.openUwb s x1 x2 x3).2 := by
  intro s x1 x2 x3
  unfold State.openUwb
  extract_lets -lift l0 l1 l2 l3 l4 l5 l6 l7 l8 l9 l10
  have k11 : Kept s l0 := by
    unfold l0
    exact kept_boundary _ _
  clear_value l0
  have k12 : Kept s l2.2 := by
    unfold l2
    exact k11.trans (kept_drawUntil _ _ _ _ _)
  clear_value l2
  have k13 : Kept s l3.2 := by
    unfold l3
    exact k12.trans (kept_drawUntil _ _ _ _ _)
  clear_value l3
  have k14 : Kept s l4.2 := by
    unfold l4
    exact k13.trans (kept_draw _ _)
  clear_value l4
  have k15 : Kept s l5 := by
    unfold l5
    exact k14
  clear_value l5
  dsimp -zeta only [ret]
  refine Kept.upd ?_ rfl rfl rfl rfl rfl
  exact k15

theorem kept_bleRanging : ∀ s x1, Kept s (State.bleRanging s x1) := by
  intro s x1
  unfold State.bleRanging
  split
  · exact Kept.refl _
  · refine Kept.ite (Kept.refl _) ?_
    extract_lets -lift l0
    have k1 : Kept s l0 := by
      unfold l0
      exact kept_modSes _ _ _
    clear_value l0
    split
    · exact k1
    · extract_lets -lift l2 l3
      have k4 : Kept s l2 := by
        unfold l2
        exact Kept.trans (k1.trans (kept_loadSlot _ _ _ _)) (kept_modSes _ _ _)
      clear_value l2
      have k5 : Kept s l3.2 := by
        unfold l3
        exact k4.trans (kept_openUwb _ _ _ _)
      clear_value l3
      exact Kept.trans (Kept.trans (k5.trans (kept_sesSendRaw _ _ _ _ _)) (kept_bleFlush _ _)) (kept_mctrEnd _ _)

theorem kept_keyDelivered : ∀ s x1, Kept s (State.keyDelivered s x1) := by
  intro s x1
  unfold State.keyDelivered
  split
  · exact Kept.ite (kept_xferConfirm _) (Kept.refl _)
  · exact Kept.refl _

theorem kept_nonceExpiry : ∀ s, Kept s (State.nonceExpiry s) := by
  intro s
  unfold State.nonceExpiry
  refine Kept.upd ?_ rfl rfl rfl rfl rfl
  exact Kept.refl _

theorem kept_entryTimeout : ∀ s, Kept s (State.entryTimeout s) := by
  intro s
  unfold State.entryTimeout
  refine Kept.foldl (fun s0 i0 => ?_) ?_
  · exact kept_endEntry _ _ _
  · exact Kept.refl _

theorem kept_startTimeout : ∀ s, Kept s (State.startTimeout s) := by
  intro s
  unfold State.startTimeout
  refine Kept.foldl (fun s0 i0 => ?_) ?_
  · exact kept_endStart _ _ _
  · exact Kept.refl _

theorem kept_ignEdge : ∀ s x1, (∀ s, Kept s (x1 s)) → Kept s (State.ignEdge s x1) := by
  intro s x1 h0
  unfold State.ignEdge
  refine Kept.ite (Kept.refl _) ?_
  extract_lets -lift l0
  have k1 : Kept s l0 := by
    unfold l0
    exact h0 _
  clear_value l0
  exact Kept.ite k1 (k1.trans (kept_wakeBy _ _))

theorem kept_ignFall : ∀ s, Kept s (State.ignFall s) := by
  intro s
  unfold State.ignFall
  refine Kept.ite ?_ (Kept.refl _)
  refine Kept.trans ?_ (kept_lowerStart _)
  refine Kept.upd ?_ rfl rfl rfl rfl rfl
  exact Kept.refl _

theorem kept_lockEnd : ∀ s, Kept s (State.lockEnd s) := by
  intro s
  unfold State.lockEnd
  extract_lets -lift l0 l1 l2 l3
  have k4 : Kept s l1 := by
    unfold l1
    refine Kept.foldl (fun s5 i5 => ?_) ?_
    · refine Kept.trans ?_ (kept_mirrorLock _ _ _ _ _)
      refine Kept.trans ?_ (kept_logLock _ _ _ _ _ _)
      refine Kept.upd ?_ rfl rfl rfl rfl rfl
      exact Kept.refl _
    · exact Kept.refl _
  clear_value l1
  have k6 : Kept s l2 := by
    unfold l2
    refine Kept.foldl (fun s7 i7 => ?_) ?_
    · refine Kept.trans ?_ (kept_mirrorLock _ _ _ _ _)
      refine Kept.trans ?_ (kept_logLock _ _ _ _ _ _)
      refine Kept.upd ?_ rfl rfl rfl rfl rfl
      exact Kept.refl _
    · exact k4
  clear_value l2
  refine Kept.ite ?_ k6
  refine Kept.trans ?_ (kept_mirrorLock _ _ _ _ _)
  refine Kept.trans ?_ (kept_logLock _ _ _ _ _ _)
  refine Kept.upd ?_ rfl rfl rfl rfl rfl
  exact k6

theorem kept_lockStore : ∀ s, Kept s (State.lockStore s) := by
  intro s
  unfold State.lockStore
  extract_lets -lift l0 l1 l2
  refine Kept.upd ?_ rfl rfl rfl rfl rfl
  exact Kept.refl _

theorem kept_learnExpiry : ∀ s, Kept s (State.learnExpiry s) := by
  intro s
  unfold State.learnExpiry
  split
  · exact Kept.refl _
  · exact Kept.ite (kept_learnClose _) (Kept.refl _)

theorem kept_showVerdict : ∀ s x1 x2, Kept s (State.showVerdict s x1 x2) := by
  intro s x1 x2
  unfold State.showVerdict
  extract_lets -lift l0 l1
  have k2 : Kept s l1 := by
    unfold l1
    refine Kept.foldl (fun s3 i3 => ?_) ?_
    · exact kept_put _ _ _ _
    · exact Kept.refl _
  clear_value l1
  exact Kept.trans (k2.trans (kept_engEvAll _ _)) (kept_logEv _ _ _ _ _)

theorem kept_evalDone : ∀ s, Kept s (State.evalDone s) := by
  intro s
  unfold State.evalDone
  split
  · exact Kept.refl _
  · refine Kept.ite (Kept.refl _) ?_
    extract_lets -lift l0 l1
    have k2 : Kept s l1 := by
      unfold l1
      refine Kept.upd ?_ rfl rfl rfl rfl rfl
      exact Kept.refl _
    clear_value l1
    split
    · refine Kept.ite ?_ (Kept.ite (Kept.trans (k2.trans (kept_dropReqs _ _)) (kept_showVerdict _ _ _)) k2)
      refine Kept.trans ?_ (kept_showVerdict _ _ _)
      extract_lets -lift l3 l4
      have k5 : Kept s l3 := by
        unfold l3
        exact k2.trans (kept_putReq _ _)
      clear_value l3
      refine Kept.upd ?_ rfl rfl rfl rfl rfl
      exact k5
    · exact k2

theorem kept_windowEnd : ∀ s x1 x2, Kept s (State.windowEnd s x1 x2) := by
  intro s x1 x2
  unfold State.windowEnd
  split
  · exact Kept.refl _
  · exact Kept.ite (Kept.refl _) (kept_startEval _ _ _)

theorem kept_vetoEnd : ∀ s, Kept s (State.vetoEnd s) := by
  intro s
  unfold State.vetoEnd
  refine Kept.upd ?_ rfl rfl rfl rfl rfl
  exact Kept.refl _

theorem kept_graceEnd : ∀ s x1 x2, Kept s (State.graceEnd s x1 x2) := by
  intro s x1 x2
  unfold State.graceEnd
  split
  · exact Kept.refl _
  · split
    · exact Kept.refl _
    · exact Kept.ite (kept_raiseDemand _ _) (Kept.refl _)

theorem kept_verdictExpire : ∀ s x1 x2, Kept s (State.verdictExpire s x1 x2) := by
  intro s x1 x2
  unfold State.verdictExpire
  split
  · exact Kept.refl _
  · split
    · exact Kept.refl _
    · refine Kept.ite (Kept.refl _) ?_
      extract_lets -lift l0 l1
      have k2 : Kept s l1 := by
        unfold l1
        exact kept_putReq _ _
      clear_value l1
      exact Kept.trans (k2.trans (kept_startEval _ _ _)) (kept_raiseDemand _ _)

theorem kept_raiseStart : ∀ s, Kept s (State.raiseStart s) := by
  intro s
  unfold State.raiseStart
  extract_lets -lift l0 l1 l2 l3 l4 l5 l6
  have k7 : Kept s l2 := by
    unfold l2
    refine Kept.trans ?_ (kept_noteChg _ _)
    refine Kept.upd ?_ rfl rfl rfl rfl rfl
    exact Kept.refl _
  clear_value l2
  have k8 : Kept s l4 := by
    unfold l4
    exact k7.trans (kept_immoRelease _ _)
  clear_value l4
  refine Kept.ite ?_ ?_
  · refine Kept.upd ?_ rfl rfl rfl rfl rfl
    exact k8
  · refine Kept.ite ?_ k7
    split
    · extract_lets -lift l9 l10 l11
      have k12 : Kept s l9 := by
        unfold l9
        exact k7.trans (kept_immoResponse _ _ _)
      clear_value l9
      refine Kept.upd ?_ rfl rfl rfl rfl rfl
      exact k12
    · exact k7

theorem kept_cutB : ∀ s x1, Kept s (State.cutB s x1) := fun s grp => (Kept.refl s).updGate fun h => h.lowB grp s.now

theorem startA_gate (s : State) (g : Nat) : (s.startA g).gate.b = s.gate.b ∧ (s.startA g).gate.dead = s.gate.dead ∧
    ∃ t, (s.startA g).gate.a = putAt s.gate.a g ⟨true, t⟩ := by
  have h := applyPend_gate s 0x2401 (g + 1)
  have hb : (s.applyPend 0x2401 (g + 1)).gate.b = s.gate.b := congrArg Gate.b h
  have hd : (s.applyPend 0x2401 (g + 1)).gate.dead = s.gate.dead := congrArg Gate.dead h
  refine ⟨hb, hd, s.now + pulseUnits ((s.applyPend 0x2401 (g + 1)).g 0x2401 (g + 1)), ?_⟩
  rw [← h]
  rfl

/-- The pulse of a gate begins; the interlock is what its guards keep. -/
theorem keptBut_startA (s : State) (g : Nat) : KeptBut s (s.startA g) :=
  (kept_applyPend s _ _).but.trans (KeptBut.trans (KeptBut.gate _ _) (kept_bump _ _ _).but)

theorem lock_startA {s : State} {g : Nat} (h : s.gate.Interlocked) (hb : (s.gate.bBall (gateGroup g)).high = false)
    (hd : s.gate.deadOf (gateGroup g) = none) : (s.startA g).gate.Interlocked := by
  obtain ⟨h1, h2, t, h3⟩ := startA_gate s g
  exact (interlocked_iff (y := { s.gate with a := putAt s.gate.a g ⟨true, t⟩ }) h3 h1 h2).mpr (h.riseA g t hb hd)

theorem lock_startAs {l : List Nat} {grp : Nat} : ∀ {s : State}, s.gate.Interlocked → (s.gate.bBall grp).high = false →
    s.gate.deadOf grp = none → (∀ g ∈ l, gateGroup g = grp) → (l.foldl State.startA s).gate.Interlocked := by
  induction l with
  | nil => intro s h _ _ _; exact h
  | cons g l ih =>
    intro s h hb hd hl
    have hg : gateGroup g = grp := hl g (List.mem_cons_self ..)
    obtain ⟨h1, h2, -⟩ := startA_gate s g
    have hb1 : (s.startA g).gate.bBall grp = s.gate.bBall grp := by unfold Gate.bBall; rw [h1]
    have hd1 : (s.startA g).gate.deadOf grp = s.gate.deadOf grp := by unfold Gate.deadOf; rw [h2]
    exact ih (lock_startA h (hg ▸ hb) (hg ▸ hd)) (hb1 ▸ hb) (hd1 ▸ hd) fun g' h' => hl g' (List.mem_cons_of_mem _ h')

theorem kept_askA : ∀ s x1, Kept s (State.askA s x1) := by
  intro s g
  unfold State.askA
  dsimp only
  split
  · next d hd =>
    refine (Kept.refl s).updGate fun h => ?_
    have hk := (h.2 (gateGroup g)).2 d hd
    refine h.setDead (gateGroup g) _ hk.1 hk.2.1 fun g' hg' => ?_
    dsimp only at hg'
    split at hg'
    · rw [List.mem_singleton.mp hg']
    · rcases List.mem_append.mp hg' with h1 | h1
      · exact hk.2.2 g' h1
      · rw [List.mem_singleton.mp h1]
  · next hd =>
    split
    · next hb =>
      exact (Kept.refl s).updGate fun h => (h.lowB (gateGroup g) s.now).setDead (gateGroup g) _ (bBall_low s.gate (gateGroup g) s.now)
        ((h.2 (gateGroup g)).1 hb) fun g' hg' => by rw [List.mem_singleton.mp hg']
    · next hb => exact (keptBut_startA s g).kept fun h => lock_startA h (Bool.eq_false_iff.mpr hb) hd

theorem kept_gateTake : ∀ s x1 x2 x3, Kept s (State.gateTake s x1 x2 x3).2 := by
  intro s x1 x2 x3
  unfold State.gateTake
  refine Kept.ite_snd (Kept.refl _) ?_
  refine Kept.ite_snd (Kept.refl _) ?_
  refine Kept.ite_snd (Kept.refl _) ?_
  refine Kept.ite_snd ?_ ?_
  · refine Kept.ite_snd (Kept.refl _) ?_
    refine Kept.ite_snd (Kept.refl _) ?_
    dsimp -zeta only [ret]
    exact kept_raiseStart _
  · refine Kept.ite_snd (Kept.refl _) ?_
    refine Kept.ite_snd (Kept.refl _) ?_
    dsimp -zeta only [ret]
    exact Kept.trans (kept_askA _ _) (kept_noteChg _ _)

theorem kept_sealCount : ∀ s x1, Kept s (State.sealCount s x1) := by
  intro s x1
  unfold State.sealCount
  extract_lets -lift l0 l1
  have k2 : Kept s l0 := by
    unfold l0
    split
    · exact Kept.refl _
    · exact kept_modSes _ _ _
  clear_value l0
  refine Kept.ite ?_ ?_
  · refine Kept.upd ?_ rfl rfl rfl rfl rfl
    exact k2
  · refine Kept.upd ?_ rfl rfl rfl rfl rfl
    exact k2

theorem kept_sealIssue : ∀ s x1 x2, Kept s (State.sealIssue s x1 x2) := by
  intro s x1 x2
  unfold State.sealIssue
  split
  · exact Kept.refl _
  · split
    · exact Kept.refl _
    · extract_lets -lift l0 l1 l2 l3 l4 l5
      have k6 : Kept s l0 := by
        unfold l0
        exact kept_dropReqs _ _
      clear_value l0
      have k7 : Kept s l3.2 := by
        unfold l3
        refine Kept.trans ?_ (kept_sealMake _ _ _ _ ?_)
        · exact k6
        · exact fun z8 => kept_gateTake _ _ _ _
      clear_value l3
      have k9 : Kept s l4 := by
        unfold l4
        exact k7
      clear_value l4
      refine Kept.ite (k6.trans (kept_refuseReq _ _ _ _ _)) ?_
      refine Kept.ite (k7.trans (kept_sealCount _ _)) ?_
      refine Kept.ite ?_ k7
      refine Kept.upd ?_ rfl rfl rfl rfl rfl
      exact k9

theorem kept_relockDue : ∀ s, Kept s (State.relockDue s) := by
  intro s
  unfold State.relockDue
  refine Kept.ite (Kept.refl _) ?_
  extract_lets -lift l0 l1 l2
  have k3 : Kept s l1 := by
    unfold l1
    refine Kept.upd ?_ rfl rfl rfl rfl rfl
    exact Kept.refl _
  clear_value l1
  refine Kept.ite k3 ?_
  refine Kept.ite ?_ ?_
  · unfold l2
    refine Kept.ite (Kept.ite k3 (Kept.trans (k3.trans (kept_askB _ _)) (kept_noteChg _ _))) ?_
    refine Kept.trans ?_ (kept_noteChg _ _)
    exact Kept.trans (Kept.ite k3 (Kept.trans (k3.trans (kept_askB _ _)) (kept_noteChg _ _))) (kept_askB _ _)
  · unfold l2
    exact Kept.ite k3 (Kept.trans (k3.trans (kept_askB _ _)) (kept_noteChg _ _))

theorem kept_pulseEnd : ∀ s x1 x2, Kept s (State.pulseEnd s x1 x2) := by
  intro s isB n
  unfold State.pulseEnd
  dsimp only
  refine Kept.ite (Kept.trans ?_ (kept_relockDue _)) (Kept.refl s)
  refine Kept.trans ?_ (kept_noteChg s _)
  refine Kept.upd ?_ rfl rfl rfl rfl rfl
  exact Kept.ite (kept_cutB s n) ((Kept.refl s).updGate fun h => h.lowOne n s.now)

theorem kept_deadEnd : ∀ s x1, Kept s (State.deadEnd s x1) := by
  intro s grp
  unfold State.deadEnd
  split
  · exact Kept.refl s
  · next d hd =>
    refine Kept.ite (Kept.refl s) (Kept.ite ((Kept.refl s).updGate fun h => h.endDead grp) (Kept.trans ?_ (kept_noteChg s _)))
    split
    · exact ((KeptBut.gate s _).trans (keptBut_startB _ grp)).kept fun h =>
        lock_startB (s := { s with gate.dead := putAt s.gate.dead grp none }) (h.endDead grp) ((h.2 grp).2 d hd).2.1
          (deadOf_none s.gate grp)
    · exact (KeptBut.foldl keptBut_startA (KeptBut.gate s _)).kept fun h =>
        lock_startAs (s := { s with gate.dead := putAt s.gate.dead grp none }) (h.endDead grp) ((h.2 grp).2 d hd).1
          (deadOf_none s.gate grp) ((h.2 grp).2 d hd).2.2

theorem kept_startLimit : ∀ s, Kept s (State.startLimit s) := by
  intro s
  unfold State.startLimit
  refine Kept.ite ?_ (Kept.refl _)
  refine Kept.trans ?_ (kept_wakeHeld _)
  extract_lets -lift l0 l1
  have k2 : Kept s l0 := by
    unfold l0
    exact kept_lowerStart _
  clear_value l0
  refine Kept.upd ?_ rfl rfl rfl rfl rfl
  exact k2

theorem kept_immoRow : ∀ s x1, Kept s (State.immoRow s x1) := by
  intro s x1
  unfold State.immoRow
  extract_lets -lift l0
  exact kept_portIn _ _ _ (fun z1 => kept_canFrameIn _ _ _ _)

theorem kept_immoPeriod : ∀ s, Kept s (State.immoPeriod s) := by
  intro s
  unfold State.immoPeriod
  split
  · exact Kept.refl _
  · refine Kept.ite ?_ (Kept.refl _)
    extract_lets -lift l0 l1 l2
    have k3 : Kept s l0 := by
      unfold l0
      exact kept_immoRelease _ _
    clear_value l0
    refine Kept.upd ?_ rfl rfl rfl rfl rfl
    exact k3

theorem kept_txEnd : ∀ s x1, Kept s (State.txEnd s x1) := by
  intro s x1
  unfold State.txEnd
  exact Kept.ite (kept_packetEnd _ _ _) (Kept.refl _)

theorem kept_uwbCut : ∀ s, Kept s (State.uwbCut s) := by
  intro s
  unfold State.uwbCut
  refine Kept.ite ?_ (Kept.refl _)
  refine Kept.upd ?_ rfl rfl rfl rfl rfl
  exact Kept.refl _

theorem kept_carrierEnd : ∀ s x1, Kept s (State.carrierEnd s x1) := by
  intro s x1
  unfold State.carrierEnd
  extract_lets -lift l0 l1
  have k2 : Kept s l0 := by
    unfold l0
    split
    · exact Kept.refl _
    · exact kept_endSession _ _ _
  clear_value l0
  refine Kept.upd ?_ rfl rfl rfl rfl rfl
  exact k2

theorem kept_nfcEnd : ∀ s x1, Kept s (State.nfcEnd s x1) := by
  intro s x1
  unfold State.nfcEnd
  split
  · exact Kept.refl _
  · extract_lets -lift l0 l1 l2
    have k3 : Kept s l1 := by
      unfold l1
      refine Kept.upd ?_ rfl rfl rfl rfl rfl
      exact Kept.refl _
    clear_value l1
    have k4 : Kept s l2 := by
      unfold l2
      exact Kept.trans (k3.trans (kept_carrierEnd _ _)) (kept_modNfc _ _ _)
    clear_value l2
    exact Kept.ite (k4.trans (kept_xferFail _)) k4

theorem kept_limiterCut : ∀ s x1 x2, Kept s (State.limiterCut s x1 x2) := by
  intro s x1 x2
  unfold State.limiterCut
  refine Kept.ite (Kept.refl _) ?_
  extract_lets -lift l0
  have k1 : Kept s l0 := by
    unfold l0
    exact kept_limCut _ _ _
  clear_value l0
  split
  · exact Kept.trans (k1.trans (kept_uwbCut _)) (kept_txEnd _ _)
  · exact Kept.trans (Kept.ite (Kept.trans (k1.trans (kept_uwbCut _)) (kept_txEnd _ _)) k1) (kept_txEnd _ _)
  · exact k1.trans (kept_lfEnd _)
  · exact k1.trans (kept_nfcEnd _ _)

theorem kept_tmrSettleAll : ∀ s, Kept s (State.tmrSettleAll s) := by
  intro s
  unfold State.tmrSettleAll
  refine Kept.foldl (fun s0 i0 => ?_) ?_
  · exact kept_tmrSettle _ _
  · exact Kept.refl _

theorem kept_gpioHoldEnd : ∀ s x1, Kept s (State.gpioHoldEnd s x1) := by
  intro s x1
  unfold State.gpioHoldEnd
  extract_lets -lift l0 l1 l2
  have k3 : Kept s l0 := by
    unfold l0
    exact kept_tmrSettleAll _
  clear_value l0
  have k4 : Kept s l1 := by
    unfold l1
    exact k3.trans (kept_put _ _ _ _)
  clear_value l1
  refine Kept.ite ?_ k3
  refine Kept.upd ?_ rfl rfl rfl rfl rfl
  exact k4

theorem kept_blockStart : ∀ s x1, Kept s (State.blockStart s x1) := by
  intro s x1
  unfold State.blockStart
  split
  · exact Kept.refl _
  · extract_lets -lift l0 l1 l2 l3
    have k4 : Kept s l1 := by
      unfold l1
      refine Kept.trans ?_ (kept_boundary _ _)
      refine Kept.foldl (fun s5 i5 => ?_) ?_
      · exact kept_settleRound _ _
      · exact Kept.refl _
    clear_value l1
    have k6 : Kept s l2 := by
      unfold l2
      exact k4.trans (kept_boundary _ _)
    clear_value l2
    refine Kept.ite (Kept.refl _) ?_
    split
    · exact k6
    · extract_lets -lift l7 l8 l9 l10 l11
      exact Kept.ite k6 (k6.trans (kept_placeRounds _ _ _))

theorem kept_planDemands : ∀ s, Kept s (State.planDemands s) := by
  intro s
  unfold State.planDemands
  extract_lets -lift l0 l1
  refine Kept.ite (Kept.refl _) ?_
  refine Kept.foldl (fun s2 i2 => ?_) ?_
  · split
    · exact Kept.refl _
    · extract_lets -lift l3 l4 l5 l6 l7
      have k8 : Kept s2 l3 := by
        unfold l3
        exact kept_boundary _ _
      clear_value l3
      exact k8.trans (kept_placeRounds _ _ _)
  · refine Kept.upd ?_ rfl rfl rfl rfl rfl
    exact Kept.refl _

theorem kept_tsLaunched : ∀ s x1 x2 x3, Kept s (State.tsLaunched s x1 x2 x3) := by
  intro s x1 x2 x3
  unfold State.tsLaunched
  refine Kept.upd ?_ rfl rfl rfl rfl rfl
  exact Kept.refl _

theorem kept_launchRound : ∀ s x1, Kept s (State.launchRound s x1) := by
  intro s x1
  unfold State.launchRound
  extract_lets -lift l0 l1 l2 l3
  have k4 : Kept s l1 := by
    unfold l1
    refine Kept.upd ?_ rfl rfl rfl rfl rfl
    exact Kept.refl _
  clear_value l1
  have k5 : Kept s l3 := by
    unfold l3
    refine Kept.upd ?_ rfl rfl rfl rfl rfl
    exact k4
  clear_value l3
  exact Kept.ite k4 (Kept.trans (k5.trans (kept_bump _ _ _)) (kept_tsLaunched _ _ _ _))

theorem kept_opportunity : ∀ s, Kept s (State.opportunity s) := by
  intro s
  unfold State.opportunity
  refine Kept.ite (Kept.refl _) ?_
  extract_lets -lift l0 l1 l2 l3
  have k4 : Kept s l0 := by
    unfold l0
    exact Kept.ite (kept_planDemands _) (Kept.refl _)
  clear_value l0
  have k5 : Kept s l3 := by
    unfold l3
    exact Kept.ite (k4.trans (kept_placeRounds _ _ _)) k4
  clear_value l3
  split
  · exact k5.trans (kept_launchRound _ _)
  · exact k5

theorem kept_frameLaunch : ∀ s x1 x2, Kept s (State.frameLaunch s x1 x2) := by
  intro s x1 x2
  unfold State.frameLaunch
  split
  · exact Kept.refl _
  · split
    · exact Kept.refl _
    · extract_lets -lift l0 l1 l2 l3 l4 l5 l6 l7 l8 l9 l10 l11 l12 l13
      have k14 : Kept s l2 := by
        unfold l2
        exact Kept.trans (kept_boundary _ _) (kept_xcDrop _ _ _)
      clear_value l2
      have k15 : Kept s l13 := by
        unfold l13
        refine Kept.upd ?_ rfl rfl rfl rfl rfl
        exact k14
      clear_value l13
      refine Kept.ite (Kept.refl _) ?_
      refine Kept.ite (Kept.trans (k14.trans (kept_bump _ _ _)) (kept_bump _ _ _)) ?_
      refine Kept.ite (k14.trans (kept_limCut _ _ _)) ?_
      exact Kept.ite (k14.trans (kept_limCut _ _ _)) (Kept.trans (k15.trans (kept_cxUse _ _ _)) (kept_uwbOnAir _ _ _))

theorem kept_uwbResponse : ∀ s x1 x2, Kept s (State.uwbResponse s x1 x2) := by
  intro s x1 x2
  unfold State.uwbResponse
  split
  · exact Kept.refl _
  · refine Kept.ite (Kept.refl _) ?_
    extract_lets -lift l0 l1 l2 l3 l4 l5
    have k6 : Kept s l2.2 := by
      unfold l2
      exact kept_hear _ _ _ _ _
    clear_value l2
    have k7 : Kept s l3 := by
      unfold l3
      exact k6
    clear_value l3
    refine kept_withPsdu _ _ _ _ ?_
    intro z8
    refine Kept.ite (kept_bump _ _ _) ?_
    split
    · exact k6
    · extract_lets -lift l9 l10
      have k11 : Kept s l9 := by
        unfold l9
        refine Kept.trans ?_ (kept_aoaItem _ _ _)
        refine Kept.upd ?_ rfl rfl rfl rfl rfl
        exact k7
      clear_value l9
      refine Kept.ite k11 ?_
      split
      · refine Kept.ite ?_ k11
        extract_lets -lift l12 l13
        exact k11.trans (kept_twrItem _ _ _ _ _)
      · exact k11

theorem kept_uwbSync : ∀ s x1 x2 x3, Kept s (State.uwbSync s x1 x2 x3) := by
  intro s x1 x2 x3
  unfold State.uwbSync
  split
  · exact Kept.refl _
  · refine Kept.ite (Kept.refl _) ?_
    refine kept_withPsdu _ _ _ _ ?_
    intro z0
    extract_lets -lift l1 l2 l3 l4 l5 l6 l7
    have k8 : Kept s l3.2 := by
      unfold l3
      exact kept_hear _ _ _ _ _
    clear_value l3
    have k9 : Kept s l5 := by
      unfold l5
      exact k8.trans (kept_syncTx _ _ _ _)
    clear_value l5
    have k10 : Kept s l6 := by
      unfold l6
      exact k8
    clear_value l6
    refine Kept.ite (kept_bump _ _ _) ?_
    split
    · exact k8
    · refine Kept.ite (Kept.ite (k9.trans (kept_syncRx _ _ _ _ _)) k9) ?_
      refine Kept.upd ?_ rfl rfl rfl rfl rfl
      exact k10

theorem kept_uwbWindowEnd : ∀ s, Kept s (State.uwbWindowEnd s) := by
  intro s
  unfold State.uwbWindowEnd
  exact Kept.ite (kept_packetEnd _ _ _) (Kept.refl _)

theorem kept_roundClose : ∀ s, Kept s (State.roundClose s) := by
  intro s
  unfold State.roundClose
  split
  · exact Kept.refl _
  · refine Kept.ite (Kept.refl _) ?_
    extract_lets -lift l0 l1 l2 l3 l4 l5
    have k6 : Kept s l1 := by
      unfold l1
      exact Kept.trans (Kept.trans (kept_xcDrop _ _ _) (kept_bumpBy _ _ _ _)) (kept_bumpBy _ _ _ _)
    clear_value l1
    have k7 : Kept s l3 := by
      unfold l3
      refine Kept.foldl (fun s8 i8 => ?_) ?_
      · exact kept_eraseSlot _ _
      · refine Kept.upd ?_ rfl rfl rfl rfl rfl
        exact k6
    clear_value l3
    have k9 : Kept s l5 := by
      unfold l5
      refine Kept.foldl (fun s10 i10 => ?_) ?_
      · exact kept_syncTx _ _ _ _
      · exact k7
    clear_value l5
    refine Kept.ite ?_ (k7.trans (kept_sendReport _ _ _ _ _ _))
    split
    · exact Kept.ite (k9.trans (kept_settleRound _ _)) k9
    · exact k9

theorem kept_auxDoneRow : ∀ s x1 x2, Kept s (State.auxDoneRow s x1 x2) := by
  intro s x1 x2
  unfold State.auxDoneRow
  extract_lets -lift l0
  have k1 : Kept s l0.2 := by
    unfold l0
    exact kept_auxDone _ _ _
  clear_value l0
  split
  · exact k1.trans (kept_auxAnswer _ _ _)
  · exact k1

theorem kept_synthLocked : ∀ s x1, Kept s (State.synthLocked s x1) := by
  intro s x1
  unfold State.synthLocked
  exact Kept.ite (Kept.trans (kept_setXc _ _ _) (kept_serveXc _ _)) (Kept.refl _)

theorem kept_unlockDrop : ∀ s x1 x2, Kept s (State.unlockDrop s x1 x2) := by
  intro s x1 x2
  unfold State.unlockDrop
  refine Kept.ite ?_ ?_
  · split
    · exact kept_answer _ _ _ _
    · exact Kept.refl _
  · extract_lets -lift l0 l1
    have k2 : Kept s l0 := by
      unfold l0
      exact kept_bump _ _ _
    clear_value l0
    split
    · exact Kept.ite (k2.trans (kept_bump _ _ _)) k2
    · extract_lets -lift l3 l4
      have k5 : Kept s l4 := by
        unfold l4
        refine Kept.trans ?_ (kept_answer _ _ _ _)
        refine Kept.upd ?_ rfl rfl rfl rfl rfl
        exact k2
      clear_value l4
      split
      · exact k5.trans (kept_engEv _ _ _)
      · exact k5
    · exact k2

theorem kept_synthTimeout : ∀ s x1, Kept s (State.synthTimeout s x1) := by
  intro s x1
  unfold State.synthTimeout
  extract_lets -lift l0 l1 l2 l3 l4
  have k5 : Kept s l3 := by
    unfold l3
    exact kept_setXc _ _ _
  clear_value l3
  have k6 : Kept s l4 := by
    unfold l4
    exact Kept.trans (k5.trans (kept_bump _ _ _)) (kept_logEv _ _ _ _ _)
  clear_value l4
  refine Kept.ite ?_ (Kept.refl _)
  refine Kept.ite ?_ (kept_setXc _ _ _)
  refine Kept.foldl (fun s7 i7 => ?_) ?_
  · exact kept_unlockDrop _ _ _
  · exact k6

theorem kept_packetEndRow : ∀ s x1 x2, Kept s (State.packetEndRow s x1 x2) := by
  intro s x1 x2
  unfold State.packetEndRow
  extract_lets -lift l0 l1
  have k2 : Kept s l0 := by
    unfold l0
    exact kept_packetEnd _ _ _
  clear_value l0
  split
  · exact k2
  · refine Kept.ite ?_ k2
    refine Kept.upd ?_ rfl rfl rfl rfl rfl
    exact k2

theorem kept_keepReadyEnd : ∀ s x1, Kept s (State.keepReadyEnd s x1) := by
  intro s x1
  unfold State.keepReadyEnd
  extract_lets -lift l0
  exact Kept.ite (kept_setXc _ _ _) (Kept.refl _)

theorem kept_offDelayEnd : ∀ s x1, Kept s (State.offDelayEnd s x1) := by
  intro s x1
  unfold State.offDelayEnd
  extract_lets -lift l0
  exact Kept.ite (kept_setXc _ _ _) (Kept.refl _)

theorem kept_calStart : ∀ s x1 x2, Kept s (State.calStart s x1 x2) := by
  intro s x1 x2
  unfold State.calStart
  extract_lets -lift l0 l1
  exact kept_setXc _ _ _

theorem kept_gapCal : ∀ s x1, Kept s (State.gapCal s x1) := by
  intro s x1
  unfold State.gapCal
  extract_lets -lift l0 l1
  split
  · exact Kept.refl _
  · extract_lets -lift l2
    exact Kept.ite (kept_calStart _ _ _) (Kept.refl _)

theorem kept_forcedCal : ∀ s x1, Kept s (State.forcedCal s x1) := by
  intro s x1
  unfold State.forcedCal
  extract_lets -lift l0 l1
  split
  · exact Kept.refl _
  · exact Kept.ite (Kept.trans (kept_setXc _ _ _) (kept_calStart _ _ _)) (Kept.refl _)

theorem kept_calStore : ∀ s x1 x2 x3, Kept s (State.calStore s x1 x2 x3) := by
  intro s x1 x2 x3
  unfold State.calStore
  extract_lets -lift l0 l1
  split
  · exact kept_put _ _ _ _
  · exact kept_put _ _ _ _
  · exact Kept.trans (kept_put _ _ _ _) (kept_put _ _ _ _)
  · exact kept_put _ _ _ _
  · exact kept_put _ _ _ _
  · exact Kept.trans (kept_put _ _ _ _) (kept_put _ _ _ _)
  · exact Kept.trans (kept_put _ _ _ _) (kept_put _ _ _ _)

theorem kept_calDone : ∀ s x1 x2 x3, Kept s (State.calDone s x1 x2 x3) := by
  intro s x1 x2 x3
  unfold State.calDone
  extract_lets -lift l0 l1
  have k2 : Kept s l1 := by
    unfold l1
    exact kept_bump _ _ _
  clear_value l1
  split
  · exact Kept.refl _
  · refine Kept.ite (Kept.refl _) ?_
    extract_lets -lift l3 l4 l5 l6 l7 l8 l9 l10 l11 l12
    have k13 : Kept s l6 := by
      unfold l6
      refine Kept.ite ?_ (Kept.trans (k2.trans (kept_put _ _ _ _)) (kept_logEv _ _ _ _ _))
      exact Kept.trans (Kept.trans (k2.trans (kept_calStore _ _ _ _)) (kept_put _ _ _ _)) (kept_put _ _ _ _)
    clear_value l6
    have k14 : Kept s l8 := by
      unfold l8
      refine Kept.ite k13 ?_
      refine Kept.upd ?_ rfl rfl rfl rfl rfl
      exact k13
    clear_value l8
    have k15 : Kept s l11 := by
      unfold l11
      exact Kept.ite (k14.trans (kept_put _ _ _ _)) k14
    clear_value l11
    refine Kept.ite (k14.trans (kept_setXc _ _ _)) ?_
    split
    · exact Kept.ite (Kept.trans (k14.trans (kept_setXc _ _ _)) (kept_calStart _ _ _)) (k14.trans (kept_setXc _ _ _))
    · exact k15.trans (kept_setXc _ _ _)

theorem kept_calDoneRow : ∀ s x1 x2 x3, Kept s (State.calDoneRow s x1 x2 x3) := by
  intro s x1 x2 x3
  unfold State.calDoneRow
  extract_lets -lift l0 l1
  have k2 : Kept s l0 := by
    unfold l0
    exact kept_calDone _ _ _ _
  clear_value l0
  refine Kept.foldl (fun s3 i3 => ?_) ?_
  · exact kept_answer _ _ _ _
  · refine Kept.upd ?_ rfl rfl rfl rfl rfl
    exact k2

theorem kept_anneal : ∀ s x1, Kept s (State.anneal s x1) := by
  intro s x1
  unfold State.anneal
  extract_lets -lift l0 l1 l2
  have k3 : Kept s l0 := by
    unfold l0
    exact kept_put _ _ _ _
  clear_value l0
  have k4 : Kept s l2 := by
    unfold l2
    refine Kept.upd ?_ rfl rfl rfl rfl rfl
    exact k3
  clear_value l2
  refine Kept.foldl (fun s5 i5 => ?_) ?_
  · extract_lets -lift l6 l7
    have k8 : Kept s5 l7 := by
      unfold l7
      exact Kept.ite (kept_calDue _ _ _ _ _) (Kept.ite (kept_calDue _ _ _ _ _) (Kept.refl _))
    clear_value l7
    exact Kept.ite (k8.trans (kept_calDue _ _ _ _ _)) k8
  · exact k4

theorem kept_bleOnAir : ∀ s x1 x2, Kept s (State.bleOnAir s x1 x2) := by
  intro s x1 x2
  unfold State.bleOnAir
  exact kept_setXc _ _ _

theorem kept_advAddress : ∀ s, Kept s (State.advAddress s) := by
  intro s
  unfold State.advAddress
  refine Kept.ite (Kept.refl _) ?_
  extract_lets -lift l0 l1 l2
  have k3 : Kept s l0.2 := by
    unfold l0
    exact kept_draw _ _
  clear_value l0
  have k4 : Kept s l1 := by
    unfold l1
    exact k3
  clear_value l1
  refine Kept.trans ?_ (kept_put _ _ _ _)
  refine Kept.upd ?_ rfl rfl rfl rfl rfl
  exact k4

theorem kept_advertise : ∀ s x1, Kept s (State.advertise s x1) := by
  intro s x1
  unfold State.advertise
  refine Kept.ite (Kept.refl _) ?_
  extract_lets -lift l0 l1 l2 l3 l4 l5 l6
  have k7 : Kept s l0 := by
    unfold l0
    exact kept_boundary _ _
  clear_value l0
  have k8 : Kept s l3 := by
    unfold l3
    refine Kept.trans ?_ (kept_bleOnAir _ _ _)
    exact Kept.trans (Kept.trans (k7.trans (kept_advAddress _)) (kept_xcDrop _ _ _)) (kept_limAdd _ _ _ _ _)
  clear_value l3
  refine Kept.ite k7 ?_
  refine Kept.ite ?_ ?_
  · refine Kept.trans ?_ (kept_bump _ _ _)
    refine Kept.trans ?_ (kept_xcDrop _ _ _)
    refine Kept.upd ?_ rfl rfl rfl rfl rfl
    exact k7
  · refine Kept.ite ?_ ?_
    · refine Kept.trans ?_ (kept_limCut _ _ _)
      refine Kept.trans ?_ (kept_xcDrop _ _ _)
      refine Kept.upd ?_ rfl rfl rfl rfl rfl
      exact k7
    · refine Kept.trans ?_ (kept_bump _ _ _)
      refine Kept.upd ?_ rfl rfl rfl rfl rfl
      exact k8

theorem kept_bleClose : ∀ s x1, Kept s (State.bleClose s x1) := by
  intro s x1
  unfold State.bleClose
  refine Kept.ite (Kept.refl _) ?_
  extract_lets -lift l0 l1
  have k2 : Kept s l0 := by
    unfold l0
    exact kept_carrierEnd _ _
  clear_value l0
  refine Kept.trans ?_ (kept_engEvAll _ _)
  refine Kept.trans ?_ (kept_xcDrop _ _ _)
  refine Kept.upd ?_ rfl rfl rfl rfl rfl
  exact k2

theorem kept_bleTerminate : ∀ s x1, Kept s (State.bleTerminate s x1) := by
  intro s x1
  unfold State.bleTerminate
  exact Kept.trans (kept_bleClose _ _) (kept_attAnswer _ _)

theorem kept_bleOpen : ∀ s x1 x2 x3 x4 x5, Kept s (State.bleOpen s x1 x2 x3 x4 x5) := by
  intro s x1 x2 x3 x4 x5
  unfold State.bleOpen
  refine Kept.ite (Kept.refl _) ?_
  extract_lets -lift l0 l1 l2
  have k3 : Kept s l0 := by
    unfold l0
    exact kept_boundary _ _
  clear_value l0
  split
  · exact k3
  · extract_lets -lift l4
    have k5 : Kept s l4 := by
      unfold l4
      refine Kept.trans ?_ (kept_engEvAll _ _)
      refine Kept.trans ?_ (kept_bump _ _ _)
      refine Kept.upd ?_ rfl rfl rfl rfl rfl
      exact k3
    clear_value l4
    refine Kept.ite k5 ?_
    split
    · exact k5
    · exact k5.trans (kept_bleTerminate _ _)

theorem kept_bleMissed : ∀ s x1, Kept s (State.bleMissed s x1) := by
  intro s x1
  unfold State.bleMissed
  exact Kept.trans (Kept.trans (kept_modConn _ _ _) (kept_xcDrop _ _ _)) (kept_bump _ _ _)

theorem kept_bleHeard : ∀ s x1 x2 x3, Kept s (State.bleHeard s x1 x2 x3) := by
  intro s x1 x2 x3
  unfold State.bleHeard
  split
  · extract_lets -lift l0 l1
    have k2 : Kept s l1 := by
      unfold l1
      exact kept_modConn _ _ _
    clear_value l1
    split
    · exact k2.trans (kept_tsAdmit _ _ _)
    · exact k2
  · exact Kept.refl _

theorem kept_bleData : ∀ s x1, Kept s (State.bleData s x1) := by
  intro s x1
  unfold State.bleData
  split
  · exact Kept.refl _
  · extract_lets -lift l0 l1
    have k2 : Kept s l1 := by
      unfold l1
      exact kept_modConn _ _ _
    clear_value l1
    refine Kept.foldl (fun s3 i3 => ?_) ?_
    · exact kept_limAdd _ _ _ _ _
    · exact k2

theorem kept_connEvent : ∀ s x1 x2 x3 x4 x5 x6, Kept s (State.connEvent s x1 x2 x3 x4 x5 x6) := by
  intro s x1 x2 x3 x4 x5 x6
  unfold State.connEvent
  split
  · exact Kept.refl _
  · refine Kept.ite (Kept.refl _) ?_
    extract_lets -lift l0
    have k1 : Kept s l0 := by
      unfold l0
      exact kept_boundary _ _
    clear_value l0
    refine Kept.ite (k1.trans (kept_bleMissed _ _)) ?_
    refine Kept.ite (Kept.trans (k1.trans (kept_bleMissed _ _)) (kept_bump _ _ _)) ?_
    split
    · exact k1
    · extract_lets -lift l2 l3 l4 l5 l6 l7 l8 l9 l10 l11 l12 l13
      have k14 : Kept s l5 := by
        unfold l5
        exact Kept.trans (k1.trans (kept_modConn _ _ _)) (kept_xcDrop _ _ _)
      clear_value l5
      have k15 : Kept s l6 := by
        unfold l6
        exact Kept.trans (k14.trans (kept_bleOnAir _ _ _)) (kept_bleHeard _ _ _ _)
      clear_value l6
      have k16 : Kept s l7 := by
        unfold l7
        exact Kept.ite (k15.trans (kept_attAnswer _ _)) k15
      clear_value l7
      have k17 : Kept s l11 := by
        unfold l11
        refine Kept.upd ?_ rfl rfl rfl rfl rfl
        exact k16
      clear_value l11
      refine Kept.ite (k17.trans (kept_limCut _ _ _)) ?_
      refine Kept.ite (k17.trans (kept_limAdd _ _ _ _ _)) ?_
      exact Kept.trans (Kept.trans (k17.trans (kept_bleFlush _ _)) (kept_bleData _ _)) (kept_limAdd _ _ _ _ _)

theorem kept_mtuExchange : ∀ s x1 x2, Kept s (State.mtuExchange s x1 x2) := by
  intro s x1 x2
  unfold State.mtuExchange
  exact Kept.ite (Kept.trans (kept_modConn _ _ _) (kept_attAnswer _ _)) (Kept.refl _)

theorem kept_cccdWrite : ∀ s x1 x2 x3, Kept s (State.cccdWrite s x1 x2 x3) := by
  intro s x1 x2 x3
  unfold State.cccdWrite
  exact Kept.ite (Kept.refl _) (Kept.ite (kept_attAnswer _ _) (Kept.trans (kept_modConn _ _ _) (kept_attAnswer _ _)))

theorem kept_smpRefuse : ∀ s x1, Kept s (State.smpRefuse s x1) := by
  intro s x1
  unfold State.smpRefuse
  exact Kept.ite (Kept.trans (kept_attAnswer _ _) (kept_bump _ _ _)) (Kept.refl _)

theorem kept_encRefuse : ∀ s x1, Kept s (State.encRefuse s x1) := by
  intro s x1
  unfold State.encRefuse
  exact Kept.ite (Kept.trans (kept_attAnswer _ _) (kept_bump _ _ _)) (Kept.refl _)

theorem kept_phyUpdate : ∀ s x1 x2, Kept s (State.phyUpdate s x1 x2) := by
  intro s x1 x2
  unfold State.phyUpdate
  exact Kept.ite (Kept.trans (kept_modConn _ _ _) (kept_attAnswer _ _)) (Kept.refl _)

theorem kept_paramRequest : ∀ s x1 x2 x3 x4, Kept s (State.paramRequest s x1 x2 x3 x4) := by
  intro s x1 x2 x3 x4
  unfold State.paramRequest
  exact Kept.ite (Kept.refl _) (Kept.ite (Kept.trans (kept_modConn _ _ _) (kept_attAnswer _ _)) (kept_attAnswer _ _))

theorem kept_noSessionLimit : ∀ s x1, Kept s (State.noSessionLimit s x1) := by
  intro s x1
  unfold State.noSessionLimit
  split
  · exact Kept.refl _
  · exact Kept.ite (kept_bleTerminate _ _) (Kept.refl _)

theorem kept_boostEnd : ∀ s, Kept s (State.boostEnd s) := by
  intro s
  unfold State.boostEnd
  split
  · refine Kept.ite ?_ (Kept.refl _)
    refine Kept.upd ?_ rfl rfl rfl rfl rfl
    exact Kept.refl _
  · exact Kept.refl _

theorem kept_accessWrite : ∀ s x1 x2, Kept s (State.accessWrite s x1 x2) := by
  intro s x1 x2
  unfold State.accessWrite
  split
  · exact Kept.refl _
  · split
    · exact kept_zqDrop _
    · exact Kept.ite (kept_zqDrop _) (Kept.ite (kept_bump _ _ _) (kept_modConn _ _ _))

theorem kept_attWrite : ∀ s x1 x2 x3 x4, Kept s (State.attWrite s x1 x2 x3 x4) := by
  intro s x1 x2 x3 x4
  unfold State.attWrite
  refine Kept.ite (Kept.refl _) ?_
  refine Kept.ite (Kept.ite (kept_attAnswer _ _) (Kept.trans (kept_accessWrite _ _ _) (kept_attAnswer _ _))) ?_
  refine Kept.ite (kept_attAnswer _ _) ?_
  split
  · extract_lets -lift l0 l1 l2
    have k3 : Kept s l2 := by
      unfold l2
      exact Kept.trans (kept_modChar _ _ _) (kept_engEv _ _ _)
    clear_value l2
    refine Kept.ite (Kept.ite (kept_attAnswer _ _) (Kept.refl _)) ?_
    refine Kept.ite (Kept.ite (kept_attAnswer _ _) (Kept.refl _)) ?_
    refine Kept.ite (kept_attAnswer _ _) ?_
    exact Kept.ite (Kept.ite (kept_attAnswer _ _) (kept_bump _ _ _)) (Kept.ite (k3.trans (kept_attAnswer _ _)) k3)
  · exact Kept.ite (kept_attAnswer _ _) (Kept.refl _)

theorem kept_attRead : ∀ s x1 x2, Kept s (State.attRead s x1 x2) := by
  intro s x1 x2
  unfold State.attRead
  split
  · exact Kept.refl _
  · refine Kept.ite (kept_attAnswer _ _) ?_
    split
    · exact kept_attAnswer _ _
    · exact kept_attAnswer _ _

theorem kept_indConfirm : ∀ s x1, Kept s (State.indConfirm s x1) := by
  intro s x1
  unfold State.indConfirm
  exact kept_modConn _ _ _

theorem kept_capStep : ∀ s x1, (∀ s, Kept s (x1 s)) → Kept s (State.capStep s x1) := by
  intro s x1 h0
  unfold State.capStep
  refine kept_whenAon _ _ ?_
  intro z0
  extract_lets -lift l1 l2 l3
  have k4 : Kept z0 l1 := by
    unfold l1
    exact h0 _
  clear_value l1
  refine Kept.ite k4 ?_
  refine Kept.ite (k4.trans (kept_wakeBy _ _)) ?_
  refine Kept.upd ?_ rfl rfl rfl rfl rfl
  exact k4

theorem kept_setCap : ∀ s x1 x2, Kept s (State.setCap s x1 x2) := by
  intro s x1 x2
  unfold State.setCap
  refine Kept.upd ?_ rfl rfl rfl rfl rfl
  exact Kept.refl _

theorem kept_bleBoost : ∀ s, Kept s (State.bleBoost s) := by
  intro s
  unfold State.bleBoost
  refine Kept.ite (Kept.refl _) ?_
  refine Kept.upd ?_ rfl rfl rfl rfl rfl
  exact Kept.refl _

theorem kept_capTouch : ∀ s x1, Kept s (State.capTouch s x1) := by
  intro s x1
  unfold State.capTouch
  refine Kept.trans ?_ (kept_bleBoost _)
  extract_lets -lift l0 l1 l2
  have k3 : Kept s l1 := by
    unfold l1
    exact kept_setCap _ _ _
  clear_value l1
  refine Kept.upd ?_ rfl rfl rfl rfl rfl
  exact k3

theorem kept_capCross : ∀ s x1, Kept s (State.capCross s x1) := by
  intro s x1
  unfold State.capCross
  exact Kept.ite (kept_capTouch _ _) (kept_setCap _ _ _)

theorem kept_capScan : ∀ s x1, Kept s (State.capScan s x1) := by
  intro s x1
  unfold State.capScan
  refine Kept.ite (Kept.refl _) ?_
  extract_lets -lift l0 l1 l2 l3 l4
  have k5 : Kept s l0 := by
    unfold l0
    exact kept_boundary _ _
  clear_value l0
  have k6 : Kept s l2 := by
    unfold l2
    refine Kept.upd ?_ rfl rfl rfl rfl rfl
    exact k5
  clear_value l2
  have k7 : Kept s l3 := by
    unfold l3
    refine Kept.foldl (fun s8 i8 => ?_) ?_
    · refine Kept.ite ?_ (Kept.refl _)
      extract_lets -lift l9 l10 l11
      have k12 : Kept s8 l10 := by
        unfold l10
        exact kept_setCap _ _ _
      clear_value l10
      refine Kept.ite ?_ k12
      refine Kept.upd ?_ rfl rfl rfl rfl rfl
      exact k12
    · exact k6
  clear_value l3
  refine Kept.ite ?_ ?_
  · refine Kept.trans ?_ (kept_bump _ _ _)
    refine Kept.foldl (fun s13 i13 => ?_) ?_
    · exact kept_setCap _ _ _
    · refine Kept.upd ?_ rfl rfl rfl rfl rfl
      exact k7
  · refine Kept.foldl (fun s14 i14 => ?_) ?_
    · exact kept_capCross _ _
    · exact k7

theorem kept_capConfirm : ∀ s x1 x2, Kept s (State.capConfirm s x1 x2) := by
  intro s x1 x2
  unfold State.capConfirm
  extract_lets -lift l0
  refine Kept.ite (Kept.refl _) ?_
  split
  · exact Kept.refl _
  · extract_lets -lift l1
    exact Kept.ite (kept_setCap _ _ _) (Kept.ite (Kept.trans (kept_setCap _ _ _) (kept_capTouch _ _)) (kept_setCap _ _ _))

theorem kept_capStuck : ∀ s x1, Kept s (State.capStuck s x1) := by
  intro s x1
  unfold State.capStuck
  extract_lets -lift l0
  exact Kept.ite (Kept.trans (kept_setCap _ _ _) (kept_bump _ _ _)) (Kept.refl _)

theorem kept_touchHandoff : ∀ s x1, Kept s (State.touchHandoff s x1) := by
  intro s x1
  unfold State.touchHandoff
  split
  · exact Kept.refl _
  · refine Kept.ite (Kept.refl _) ?_
    extract_lets -lift l0 l1
    have k2 : Kept s l1 := by
      unfold l1
      refine Kept.upd ?_ rfl rfl rfl rfl rfl
      exact Kept.refl _
    clear_value l1
    exact Kept.ite k2 (Kept.ite (Kept.ite (k2.trans (kept_touch _ _ _ _)) k2) (k2.trans (kept_sendReport _ _ _ _ _ _)))

theorem kept_limAddAt : ∀ s x1 x2 x3 x4 x5, Kept s (State.limAddAt s x1 x2 x3 x4 x5) := by
  intro s x1 x2 x3 x4 x5
  unfold State.limAddAt
  refine Kept.upd ?_ rfl rfl rfl rfl rfl
  exact Kept.refl _

theorem kept_lfStart : ∀ s x1, Kept s (State.lfStart s x1) := by
  intro s x1
  unfold State.lfStart
  extract_lets -lift l0 l1 l2
  have k3 : Kept s l0 := by
    unfold l0
    exact Kept.trans (kept_put _ _ _ _) (kept_boundary _ _)
  clear_value l0
  split
  · exact kept_put _ _ _ _
  · refine Kept.ite k3 ?_
    extract_lets -lift l4 l5 l6 l7 l8 l9 l10 l11 l12 l13
    have k14 : Kept s l4 := by
      unfold l4
      refine Kept.upd ?_ rfl rfl rfl rfl rfl
      exact k3
    clear_value l4
    have k15 : Kept s l8 := by
      unfold l8
      exact Kept.trans (Kept.trans (k14.trans (kept_put _ _ _ _)) (kept_bump _ _ _)) (kept_logEv _ _ _ _ _)
    clear_value l8
    have k16 : Kept s l10.2 := by
      unfold l10
      refine Kept.ite_snd (k14.trans (kept_newNonce _ _ _ _)) ?_
      dsimp -zeta only [ret]
      exact k14
    clear_value l10
    have k17 : Kept s l12 := by
      unfold l12
      exact k16
    clear_value l12
    refine Kept.ite (k14.trans (kept_lfFail _ _)) ?_
    refine Kept.ite ?_ ?_
    · refine Kept.trans ?_ (kept_lfFail _ _)
      refine Kept.upd ?_ rfl rfl rfl rfl rfl
      exact k14
    · refine Kept.ite ?_ ?_
      · refine Kept.trans ?_ (kept_lfFail _ _)
        refine Kept.upd ?_ rfl rfl rfl rfl rfl
        exact k15
      · refine Kept.ite ?_ ?_
        · refine Kept.ite k3 ?_
          refine Kept.trans ?_ (kept_bump _ _ _)
          refine Kept.upd ?_ rfl rfl rfl rfl rfl
          exact k3
        · split
          · exact k16.trans (kept_lfFail _ _)
          · extract_lets -lift l18 l19 l20
            have k21 : Kept s l19 := by
              unfold l19
              refine Kept.upd ?_ rfl rfl rfl rfl rfl
              exact k17
            clear_value l19
            have k22 : Kept s l20 := by
              unfold l20
              split
              · exact Kept.trans (k21.trans (kept_limAdd _ _ _ _ _)) (kept_limAddAt _ _ _ _ _ _)
              · exact k21.trans (kept_limAdd _ _ _ _ _)
            clear_value l20
            exact k22.trans (kept_bump _ _ _)

theorem kept_lfAbort : ∀ s x1 x2, Kept s (State.lfAbort s x1 x2) := by
  intro s x1 x2
  unfold State.lfAbort
  extract_lets -lift l0 l1 l2 l3
  have k4 : Kept s l0 := by
    unfold l0
    exact kept_put _ _ _ _
  clear_value l0
  have k5 : Kept s l1 := by
    unfold l1
    exact Kept.trans (k4.trans (kept_bump _ _ _)) (kept_logEv _ _ _ _ _)
  clear_value l1
  have k6 : Kept s l2 := by
    unfold l2
    exact Kept.ite (k5.trans (kept_errBit _ _ _ _ _)) k5
  clear_value l2
  refine Kept.ite k4 ?_
  refine Kept.trans ?_ (kept_lfEnd _)
  refine Kept.upd ?_ rfl rfl rfl rfl rfl
  exact k6

theorem kept_lfMeasure : ∀ s x1 x2 x3 x4, Kept s (State.lfMeasure s x1 x2 x3 x4) := by
  intro s x1 x2 x3 x4
  unfold State.lfMeasure
  split
  · exact Kept.refl _
  · refine Kept.ite (Kept.refl _) ?_
    extract_lets -lift l0 l1 l2
    have k3 : Kept s l2 := by
      unfold l2
      refine Kept.trans ?_ (kept_put _ _ _ _)
      refine Kept.trans ?_ (kept_put _ _ _ _)
      refine Kept.upd ?_ rfl rfl rfl rfl rfl
      exact Kept.refl _
    clear_value l2
    exact k3.trans (kept_lfAbort _ _ _)

theorem kept_lfOver15 : ∀ s, Kept s (State.lfOver15 s) := by
  intro s
  unfold State.lfOver15
  split
  · exact Kept.refl _
  · exact kept_lfAbort _ _ _

theorem kept_lfReturn : ∀ s, Kept s (State.lfReturn s) := by
  intro s
  unfold State.lfReturn
  split
  · exact Kept.refl _
  · refine Kept.ite (Kept.refl _) ?_
    extract_lets -lift l0 l1
    refine Kept.ite (Kept.trans (kept_lfCarrierOff _) (kept_lfFail _ _)) ?_
    refine Kept.trans ?_ (kept_limAdd _ _ _ _ _)
    refine Kept.upd ?_ rfl rfl rfl rfl rfl
    exact Kept.refl _

theorem kept_lfSeg1 : ∀ s x1, Kept s (State.lfSeg1 s x1) := by
  intro s x1
  unfold State.lfSeg1
  split
  · exact Kept.refl _
  · split
    · refine Kept.ite (Kept.refl _) ?_
      split
      · exact kept_lfCollision _
      · refine Kept.upd ?_ rfl rfl rfl rfl rfl
        exact Kept.refl _
    · refine Kept.ite (Kept.refl _) ?_
      split
      · exact kept_lfCollision _
      · refine Kept.upd ?_ rfl rfl rfl rfl rfl
        exact Kept.refl _
    · exact Kept.refl _

theorem kept_lfSeg2 : ∀ s x1 x2, Kept s (State.lfSeg2 s x1 x2) := by
  intro s x1 x2
  unfold State.lfSeg2
  split
  · exact Kept.refl _
  · split
    · refine Kept.ite (Kept.refl _) ?_
      split
      · exact kept_lfEnd _
      · exact kept_lfPresented _ _ _ _ _ _ _
    · exact Kept.refl _

theorem kept_lfConfirm : ∀ s x1, Kept s (State.lfConfirm s x1) := by
  intro s x1
  unfold State.lfConfirm
  split
  · exact Kept.refl _
  · refine Kept.ite (Kept.refl _) ?_
    extract_lets -lift l0 l1
    have k2 : Kept s l0 := by
      unfold l0
      exact Kept.trans (kept_lfCarrierOff _) (kept_lfOver _ _ _)
    clear_value l0
    exact Kept.ite (k2.trans (kept_xferConfirm _)) (k2.trans (kept_xferFail _))

theorem kept_lfDiagDone : ∀ s x1 x2 x3 x4 x5 x6, Kept s (State.lfDiagDone s x1 x2 x3 x4 x5 x6) := by
  intro s x1 x2 x3 x4 x5 x6
  unfold State.lfDiagDone
  split
  · exact Kept.refl _
  · extract_lets -lift l0 l1 l2 l3 l4
    have k5 : Kept s l3 := by
      unfold l3
      refine Kept.trans ?_ (kept_put _ _ _ _)
      refine Kept.trans ?_ (kept_put _ _ _ _)
      refine Kept.trans ?_ (kept_put _ _ _ _)
      refine Kept.upd ?_ rfl rfl rfl rfl rfl
      exact Kept.refl _
    clear_value l3
    have k6 : Kept s l4 := by
      unfold l4
      exact Kept.ite (k5.trans (kept_put _ _ _ _)) k5
    clear_value l4
    exact k6.trans (kept_answer _ _ _ _)

theorem kept_lfDiagRow : ∀ s x1 x2 x3 x4 x5 x6 x7 x8, Kept s (State.lfDiagRow s x1 x2 x3 x4 x5 x6 x7 x8) := by
  intro s who ch peak phase short hot ovr vlf
  unfold State.lfDiagRow
  extract_lets s1
  have h1 : Kept s s1 := Kept.ite (kept_ask s _ _ _ _ _) (Kept.refl s)
  clear_value s1
  exact Kept.ite h1 (h1.trans (((Kept.refl s1).updNow (Nat.le_add_right _ _)).trans (kept_lfDiagDone _ _ _ _ _ _ _)))

theorem kept_vlfBack : ∀ s x1, Kept s (State.vlfBack s x1) := by
  intro s x1
  unfold State.vlfBack
  extract_lets -lift l0
  have k1 : Kept s l0 := by
    unfold l0
    exact kept_put _ _ _ _
  clear_value l0
  refine Kept.ite k1 ?_
  refine Kept.foldl (fun s2 i2 => ?_) ?_
  · exact kept_put _ _ _ _
  · exact k1

theorem kept_nfcPing : ∀ s x1 x2 x3 x4, Kept s (State.nfcPing s x1 x2 x3 x4) := by
  intro s x1 x2 x3 x4
  unfold State.nfcPing
  extract_lets -lift l0 l1 l2 l3 l4 l5 l6 l7 l8
  have k9 : Kept s l2 := by
    unfold l2
    exact kept_boundary _ _
  clear_value l2
  have k10 : Kept s l3 := by
    unfold l3
    exact Kept.trans (k9.trans (kept_bump _ _ _)) (kept_limAdd _ _ _ _ _)
  clear_value l3
  refine Kept.ite (Kept.refl _) ?_
  refine Kept.ite (Kept.trans (k9.trans (kept_modNfc _ _ _)) (kept_bump _ _ _)) ?_
  split
  · exact k10.trans (kept_modNfc _ _ _)
  · refine Kept.ite ?_ (k10.trans (kept_modNfc _ _ _))
    exact Kept.trans (Kept.trans (k10.trans (kept_boundary _ _)) (kept_modNfc _ _ _)) (kept_bump _ _ _)

theorem kept_nfcFault : ∀ s x1 x2, Kept s (State.nfcFault s x1 x2) := by
  intro s x1 x2
  unfold State.nfcFault
  extract_lets -lift l0 l1
  have k2 : Kept s l0 := by
    unfold l0
    exact kept_put _ _ _ _
  clear_value l0
  have k3 : Kept s l1 := by
    unfold l1
    exact k2.trans (kept_logEv _ _ _ _ _)
  clear_value l1
  exact Kept.ite k2 (Kept.trans (k3.trans (kept_nfcEnd _ _)) (kept_modNfc _ _ _))

theorem kept_nfcStart : ∀ s x1 x2 x3 x4 x5 x6, Kept s (State.nfcStart s x1 x2 x3 x4 x5 x6) := by
  intro s x1 x2 x3 x4 x5 x6
  unfold State.nfcStart
  split
  · exact Kept.refl _
  · refine Kept.ite (Kept.refl _) ?_
    extract_lets -lift l0 l1 l2 l3 l4 l5 l6 l7
    have k8 : Kept s l0 := by
      unfold l0
      exact Kept.trans (kept_boundary _ _) (kept_boundary _ _)
    clear_value l0
    have k9 : Kept s l1 := by
      unfold l1
      exact k8.trans (kept_modNfc _ _ _)
    clear_value l1
    have k10 : Kept s l6 := by
      unfold l6
      exact Kept.trans (Kept.trans (k9.trans (kept_modNfc _ _ _)) (kept_limAdd _ _ _ _ _)) (kept_bump _ _ _)
    clear_value l6
    have k11 : Kept s l7 := by
      unfold l7
      exact Kept.ite (k10.trans (kept_nfcFault _ _ _)) k10
    clear_value l7
    refine Kept.ite (k9.trans (kept_modNfc _ _ _)) ?_
    refine Kept.ite (Kept.trans (k9.trans (kept_modNfc _ _ _)) (kept_bump _ _ _)) ?_
    exact Kept.ite (k9.trans (kept_nfcFault _ _ _)) (Kept.ite (k11.trans (kept_nfcFault _ _ _)) k11)

theorem kept_nfcSelect : ∀ s x1, Kept s (State.nfcSelect s x1) := by
  intro s x1
  unfold State.nfcSelect
  exact kept_modAct _ _ _

theorem kept_nfcBegin : ∀ s x1 x2, Kept s (State.nfcBegin s x1 x2) := by
  intro s x1 x2
  unfold State.nfcBegin
  extract_lets -lift l0 l1 l2 l3 l4
  have k5 : Kept s l0 := by
    unfold l0
    exact kept_modNfc _ _ _
  clear_value l0
  have k6 : Kept s l1.2 := by
    unfold l1
    exact Kept.trans (k5.trans (kept_modAct _ _ _)) (kept_newNonce _ _ _ _)
  clear_value l1
  have k7 : Kept s l2 := by
    unfold l2
    exact k6
  clear_value l2
  have k8 : Kept s l4 := by
    unfold l4
    refine Kept.upd ?_ rfl rfl rfl rfl rfl
    exact k7
  clear_value l4
  refine Kept.ite (k5.trans (kept_modAct _ _ _)) ?_
  exact Kept.ite (k5.trans (kept_nfcEnd _ _)) (Kept.trans (k8.trans (kept_vsend _ _ _)) (kept_nfcSend _ _))

theorem kept_nfcCard : ∀ s x1 x2 x3, Kept s (State.nfcCard s x1 x2 x3) := by
  intro s x1 x2 x3
  unfold State.nfcCard
  split
  · exact Kept.refl _
  · extract_lets -lift l0 l1
    have k2 : Kept s l0 := by
      unfold l0
      exact kept_modNfc _ _ _
    clear_value l0
    split
    · exact Kept.ite (k2.trans (kept_modAct _ _ _)) (Kept.refl _)
    · exact Kept.ite (k2.trans (kept_modAct _ _ _)) (Kept.refl _)
    · exact Kept.ite (Kept.refl _) (Kept.ite (Kept.refl _) (Kept.ite (kept_modAct _ _ _) (kept_nfcEnd _ _)))
    · exact Kept.ite (Kept.refl _) (Kept.ite (Kept.trans (kept_modAct _ _ _) (kept_nfcSelect _ _)) (kept_modAct _ _ _))
    · exact Kept.ite (kept_nfcSelect _ _) (Kept.refl _)
    · exact Kept.ite (kept_nfcSelect _ _) (Kept.refl _)
    · exact Kept.ite (Kept.refl _) (Kept.ite (Kept.trans (kept_modAct _ _ _) (kept_nfcBegin _ _ _)) (kept_nfcEnd _ _))

end Sys2Proof.Machine
end

