-- ==== Sys2Proof/Laws/KeptPart4.lean ====
section
/-! SUPPORT. Every effect of the model keeps what `Kept` says, part 4: one lemma per definition, in the order in which they call
each other. -/
namespace Sys2Proof.Machine

theorem kept_nfcRapdu : ∀ s x1 x2, Kept s (State.nfcRapdu s x1 x2) := by
  intro s x1 x2
  unfold State.nfcRapdu
  split
  · exact Kept.refl _
  · refine Kept.ite (Kept.refl _) ?_
    extract_lets -lift l0 l1 l2 l3 l4
    have k5 : Kept s l3 := by
      unfold l3
      split
      · exact Kept.refl _
      · refine Kept.upd ?_ rfl rfl rfl rfl rfl
        exact Kept.refl _
    clear_value l3
    refine Kept.ite ?_ ?_
    · split
      · exact kept_nfcEnd _ _
      · exact k5.trans (kept_modAct _ _ _)
    · refine Kept.ite ?_ ?_
      · exact Kept.ite (Kept.trans (Kept.trans (kept_modAct _ _ _) (kept_xferConfirm _)) (kept_nfcEnd _ _)) (kept_nfcEnd _ _)
      · exact Kept.ite (kept_nfcEnd _ _) (Kept.ite (Kept.trans (kept_modAct _ _ _) (kept_nfcSend _ _)) (kept_zqTake _ _ _))

theorem kept_nfcLost : ∀ s x1 x2, Kept s (State.nfcLost s x1 x2) := by
  intro s x1 x2
  unfold State.nfcLost
  split
  · exact Kept.refl _
  · exact Kept.ite (kept_nfcEnd _ _) (Kept.refl _)

theorem kept_nfcIdle : ∀ s x1, Kept s (State.nfcIdle s x1) := by
  intro s x1
  unfold State.nfcIdle
  split
  · exact Kept.refl _
  · exact Kept.ite (Kept.trans (kept_nfcEnd _ _) (kept_modNfc _ _ _)) (Kept.refl _)

theorem kept_nfcMax : ∀ s x1, Kept s (State.nfcMax s x1) := by
  intro s x1
  unfold State.nfcMax
  split
  · exact Kept.refl _
  · exact Kept.ite (kept_nfcEnd _ _) (Kept.refl _)

theorem kept_nfcCut : ∀ s x1, Kept s (State.nfcCut s x1) := by
  intro s x1
  unfold State.nfcCut
  exact Kept.ite (kept_nfcFault _ _ _) (Kept.refl _)

theorem kept_vnfcBack : ∀ s x1, Kept s (State.vnfcBack s x1) := by
  intro s x1
  unfold State.vnfcBack
  refine Kept.ite (Kept.refl _) ?_
  refine Kept.foldl (fun s0 i0 => ?_) ?_
  · extract_lets -lift l1
    exact Kept.trans (kept_put _ _ _ _) (kept_modNfc _ _ _)
  · exact Kept.refl _

theorem kept_fieldUp : ∀ s x1, Kept s (State.fieldUp s x1) := by
  intro s x1
  unfold State.fieldUp
  refine Kept.ite (Kept.refl _) ?_
  refine Kept.upd ?_ rfl rfl rfl rfl rfl
  exact Kept.refl _

theorem kept_tearEnd : ∀ s, Kept s (State.tearEnd s) := by
  intro s
  unfold State.tearEnd
  refine Kept.ite (Kept.refl _) ?_
  extract_lets -lift l0 l1 l2 l3
  have k4 : Kept s l3 := by
    unfold l3
    refine Kept.trans ?_ (kept_bumpBy _ _ _ _)
    refine Kept.upd ?_ rfl rfl rfl rfl rfl
    exact Kept.refl _
  clear_value l3
  split
  · exact Kept.trans (k4.trans (kept_setTagEnt _ _ _)) (kept_bump _ _ _)
  · exact k4

theorem kept_tagEndTxn : ∀ s, Kept s (State.tagEndTxn s) := by
  intro s
  unfold State.tagEndTxn
  refine Kept.upd ?_ rfl rfl rfl rfl rfl
  exact Kept.refl _

theorem kept_fieldLoss : ∀ s x1, Kept s (State.fieldLoss s x1) := by
  intro s x1
  unfold State.fieldLoss
  refine Kept.ite (Kept.refl _) ?_
  extract_lets -lift l0 l1 l2
  have k3 : Kept s l0 := by
    unfold l0
    split
    · refine Kept.ite ?_ (Kept.refl _)
      extract_lets -lift l4 l5
      have k6 : Kept s l4 := by
        unfold l4
        exact kept_setTagEnt _ _ _
      clear_value l4
      refine Kept.upd ?_ rfl rfl rfl rfl rfl
      exact k6
    · exact Kept.refl _
  clear_value l0
  have k7 : Kept s l1 := by
    unfold l1
    exact k3.trans (kept_tagEndTxn _)
  clear_value l1
  refine Kept.upd ?_ rfl rfl rfl rfl rfl
  exact k7

theorem kept_tagWake : ∀ s x1, Kept s (State.tagWake s x1) := by
  intro s x1
  unfold State.tagWake
  refine Kept.ite (Kept.refl _) ?_
  split
  · refine Kept.upd ?_ rfl rfl rfl rfl rfl
    exact Kept.refl _
  · refine Kept.ite ?_ (Kept.refl _)
    refine Kept.upd ?_ rfl rfl rfl rfl rfl
    exact Kept.refl _
  · exact kept_tagStray _
  · exact Kept.refl _

theorem kept_tagAnticoll : ∀ s x1 x2 x3, Kept s (State.tagAnticoll s x1 x2 x3) := by
  intro s x1 x2 x3
  unfold State.tagAnticoll
  refine Kept.ite (Kept.refl _) ?_
  refine Kept.ite (kept_tagStray _) ?_
  refine Kept.ite (kept_tagStray _) ?_
  refine Kept.ite (Kept.refl _) ?_
  refine Kept.ite (kept_tagReply _ _) ?_
  refine Kept.ite ?_ ?_
  · refine Kept.upd ?_ rfl rfl rfl rfl rfl
    exact Kept.refl _
  · refine Kept.upd ?_ rfl rfl rfl rfl rfl
    exact Kept.refl _

theorem kept_tagPps : ∀ s x1, Kept s (State.tagPps s x1) := by
  intro s x1
  unfold State.tagPps
  exact Kept.ite (kept_tagReply _ _) (kept_tagStray _)

theorem kept_tagHlta : ∀ s, Kept s (State.tagHlta s) := by
  intro s
  unfold State.tagHlta
  refine Kept.ite (Kept.refl _) ?_
  split
  · extract_lets -lift l0 l1
    have k2 : Kept s l0 := by
      unfold l0
      exact kept_tagEndTxn _
    clear_value l0
    refine Kept.upd ?_ rfl rfl rfl rfl rfl
    exact k2
  · exact kept_tagStray _

theorem kept_tagDeselect : ∀ s, Kept s (State.tagDeselect s) := by
  intro s
  unfold State.tagDeselect
  refine Kept.ite ?_ (kept_tagStray _)
  extract_lets -lift l0 l1
  have k2 : Kept s l0 := by
    unfold l0
    exact kept_tagEndTxn _
  clear_value l0
  refine Kept.upd ?_ rfl rfl rfl rfl rfl
  exact k2

theorem kept_tagSelectApp : ∀ s x1, Kept s (State.tagSelectApp s x1) := by
  intro s x1
  unfold State.tagSelectApp
  refine Kept.ite (kept_tagStray _) ?_
  refine Kept.ite ?_ ?_
  · refine Kept.upd ?_ rfl rfl rfl rfl rfl
    exact Kept.refl _
  · refine Kept.ite ?_ (kept_tagReply _ _)
    refine Kept.upd ?_ rfl rfl rfl rfl rfl
    exact Kept.refl _

theorem kept_notNdef : ∀ s, Kept s (State.notNdef s) := by
  intro s
  unfold State.notNdef
  exact kept_tagReply _ _

theorem kept_tagSelectFile : ∀ s x1, Kept s (State.tagSelectFile s x1) := by
  intro s x1
  unfold State.tagSelectFile
  refine Kept.ite (kept_tagStray _) ?_
  refine Kept.ite (kept_notNdef _) ?_
  refine Kept.ite ?_ ?_
  · refine Kept.upd ?_ rfl rfl rfl rfl rfl
    exact Kept.refl _
  · refine Kept.ite ?_ (kept_tagReply _ _)
    refine Kept.upd ?_ rfl rfl rfl rfl rfl
    exact Kept.refl _

theorem kept_tagReadBinary : ∀ s x1 x2, Kept s (State.tagReadBinary s x1 x2) := by
  intro s x1 x2
  unfold State.tagReadBinary
  refine Kept.ite (kept_tagStray _) ?_
  refine Kept.ite (kept_notNdef _) ?_
  refine Kept.ite (kept_tagReply _ _) ?_
  extract_lets -lift l0
  exact Kept.ite (kept_tagReply _ _) (kept_tagReply _ _)

theorem kept_tagUpdateBinary : ∀ s, Kept s (State.tagUpdateBinary s) := by
  intro s
  unfold State.tagUpdateBinary
  exact Kept.ite (kept_tagStray _) (Kept.ite (kept_notNdef _) (kept_tagReply _ _))

theorem kept_tagGetInfo : ∀ s, Kept s (State.tagGetInfo s) := by
  intro s
  unfold State.tagGetInfo
  exact Kept.ite (kept_notHallmark _) (kept_tagReply _ _)

theorem kept_tagAuthBegin : ∀ s x1, Kept s (State.tagAuthBegin s x1) := by
  intro s x1
  unfold State.tagAuthBegin
  refine Kept.ite (kept_notHallmark _) ?_
  refine Kept.ite (kept_tagReply _ _) ?_
  refine Kept.ite (kept_tagReply _ _) ?_
  refine Kept.ite (kept_tagReply _ _) ?_
  extract_lets -lift l0 l1 l2
  refine Kept.upd ?_ rfl rfl rfl rfl rfl
  exact Kept.refl _

theorem kept_tagAuthFinish : ∀ s x1 x2, Kept s (State.tagAuthFinish s x1 x2) := by
  intro s x1 x2
  unfold State.tagAuthFinish
  refine Kept.ite (kept_notHallmark _) ?_
  refine Kept.ite (kept_tagReply _ _) ?_
  refine Kept.ite (kept_tagReply _ _) ?_
  split
  · exact kept_tagReply _ _
  · extract_lets -lift l0 l1 l2
    have k3 : Kept s l2 := by
      unfold l2
      refine Kept.upd ?_ rfl rfl rfl rfl rfl
      exact Kept.refl _
    clear_value l2
    split
    · exact k3
    · refine Kept.ite ?_ k3
      refine Kept.upd ?_ rfl rfl rfl rfl rfl
      exact Kept.refl _

theorem kept_tagStartWrite : ∀ s x1 x2 x3, Kept s (State.tagStartWrite s x1 x2 x3) := by
  intro s x1 x2 x3
  unfold State.tagStartWrite
  refine Kept.upd ?_ rfl rfl rfl rfl rfl
  exact Kept.refl _

theorem kept_tagDoWrite : ∀ s x1 x2, Kept s (State.tagDoWrite s x1 x2) := by
  intro s x1 x2
  unfold State.tagDoWrite
  extract_lets -lift l0 l1
  split
  · exact Kept.ite (kept_tagReply _ _) (Kept.ite (kept_tagStartWrite _ _ _ _) (kept_tagReply _ _))
  · refine Kept.ite (kept_tagReply _ _) ?_
    split
    · refine Kept.upd ?_ rfl rfl rfl rfl rfl
      exact Kept.refl _
    · extract_lets -lift l2
      have k3 : Kept s l2 := by
        unfold l2
        refine Kept.upd ?_ rfl rfl rfl rfl rfl
        exact Kept.refl _
      clear_value l2
      exact Kept.ite (k3.trans (kept_tagStartWrite _ _ _ _)) (k3.trans (kept_tagReply _ _))

theorem kept_tagDoRead : ∀ s x1 x2, Kept s (State.tagDoRead s x1 x2) := by
  intro s x1 x2
  unfold State.tagDoRead
  extract_lets -lift l0 l1
  split
  · exact Kept.ite (kept_tagReply _ _) (Kept.ite (kept_tagReply _ _) (kept_tagReply _ _))
  · refine Kept.ite (kept_tagReply _ _) ?_
    split
    · refine Kept.upd ?_ rfl rfl rfl rfl rfl
      exact Kept.refl _
    · extract_lets -lift l2
      have k3 : Kept s l2 := by
        unfold l2
        refine Kept.upd ?_ rfl rfl rfl rfl rfl
        exact Kept.refl _
      clear_value l2
      exact Kept.ite (k3.trans (kept_tagReply _ _)) (k3.trans (kept_tagReply _ _))

theorem kept_tagRecordCmd : ∀ s x1 x2 x3, Kept s (State.tagRecordCmd s x1 x2 x3) := by
  intro s x1 x2 x3
  unfold State.tagRecordCmd
  refine Kept.ite (kept_notHallmark _) ?_
  refine Kept.ite (kept_tagReply _ _) ?_
  refine Kept.ite ?_ (Kept.ite (kept_tagDoWrite _ _ _) (kept_tagDoRead _ _ _))
  refine Kept.upd ?_ rfl rfl rfl rfl rfl
  exact Kept.refl _

theorem kept_tagBadApdu : ∀ s x1 x2 x3, Kept s (State.tagBadApdu s x1 x2 x3) := by
  intro s x1 x2 x3
  unfold State.tagBadApdu
  refine Kept.ite (kept_tagStray _) ?_
  exact Kept.ite (kept_tagReply _ _) (Kept.ite (kept_tagReply _ _) (Kept.ite (kept_tagReply _ _) (kept_tagReply _ _)))

theorem kept_tagWriteDone : ∀ s, Kept s (State.tagWriteDone s).2 := by
  intro s
  unfold State.tagWriteDone
  split
  · exact Kept.refl _
  · extract_lets -lift l0 l1 l2 l3 l4
    have k5 : Kept s l0 := by
      unfold l0
      exact kept_setTagEnt _ _ _
    clear_value l0
    have k6 : Kept s l2 := by
      unfold l2
      refine Kept.upd ?_ rfl rfl rfl rfl rfl
      exact k5
    clear_value l2
    have k7 : Kept s l4 := by
      unfold l4
      refine Kept.upd ?_ rfl rfl rfl rfl rfl
      exact k6
    clear_value l4
    split
    · dsimp -zeta only [ret]
      refine Kept.trans ?_ (kept_bump _ _ _)
      refine Kept.upd ?_ rfl rfl rfl rfl rfl
      exact k6
    · split
      · dsimp -zeta only [ret]
        exact k6
      · dsimp -zeta only [ret]
        exact Kept.ite (Kept.ite (k7.trans (kept_tagDoWrite _ _ _)) (k7.trans (kept_tagDoRead _ _ _))) k7

theorem kept_tagWriteRow : ∀ s, Kept s (State.tagWriteRow s) := by
  intro s
  unfold State.tagWriteRow
  extract_lets -lift l0
  have k1 : Kept s l0.2 := by
    unfold l0
    exact kept_tagWriteDone _
  clear_value l0
  split
  · exact k1.trans (kept_answer _ _ _ _)
  · exact k1

theorem kept_cxBlockDone : ∀ s x1, Kept s (State.cxBlockDone s x1) := by
  intro s x1
  unfold State.cxBlockDone
  split
  · exact Kept.refl _
  · split
    · exact Kept.refl _
    · refine Kept.ite (Kept.refl _) ?_
      extract_lets -lift l0 l1 l2 l3 l4 l5
      have k6 : Kept s l2 := by
        unfold l2
        refine Kept.upd ?_ rfl rfl rfl rfl rfl
        exact Kept.refl _
      clear_value l2
      have k7 : Kept s l3 := by
        unfold l3
        exact k6.trans (kept_cxUse _ _ _)
      clear_value l3
      have k8 : Kept s l4 := by
        unfold l4
        exact k7.trans (kept_modReq _ _ _ _)
      clear_value l4
      have k9 : Kept s l5 := by
        unfold l5
        split
        · exact k8.trans (kept_cxRelease _ _ _ _)
        · exact k8
      clear_value l5
      exact k9.trans (kept_cxRun _)

theorem kept_cxRequestDone : ∀ s x1, Kept s (State.cxRequestDone s x1) := by
  intro s x1
  unfold State.cxRequestDone
  split
  · exact Kept.ite (Kept.trans (kept_cxFinish _ _ _) (kept_cxSettle _)) (Kept.refl _)
  · exact Kept.refl _

theorem kept_zeroDone : ∀ s x1, Kept s (State.zeroDone s x1) := by
  intro s x1
  unfold State.zeroDone
  extract_lets -lift l0 l1 l2 l3
  have k4 : Kept s l2 := by
    unfold l2
    refine Kept.trans ?_ (kept_bodyWritten _ _)
    refine Kept.upd ?_ rfl rfl rfl rfl rfl
    exact Kept.refl _
  clear_value l2
  split
  · refine Kept.ite ?_ k4
    refine Kept.trans ?_ (kept_answer _ _ _ _)
    refine Kept.upd ?_ rfl rfl rfl rfl rfl
    exact k4
  · exact k4

theorem kept_t1sRow : ∀ s x1, (∀ s, Kept s (x1 s)) → Kept s (State.t1sRow s x1) := by
  intro s x1 h0
  unfold State.t1sRow
  exact kept_portIn _ _ _ (fun z0 => Kept.ite (Kept.trans (kept_bump _ _ _) (h0 _)) (Kept.refl _))

theorem kept_segRow : ∀ s x1 x2 x3 x4, (∀ s, Kept s (x4 s)) → Kept s (State.segRow s x1 x2 x3 x4) := by
  intro s x1 x2 x3 x4 h0
  unfold State.segRow
  refine Kept.ite (Kept.refl _) ?_
  exact Kept.ite (kept_portIn _ _ _ (fun z0 => Kept.ite (h0 _) (Kept.refl _))) (kept_t1sRow _ _ (fun z1 => h0 _))

theorem kept_mirrorTimeout : ∀ s, Kept s (State.mirrorTimeout s) := by
  intro s
  unfold State.mirrorTimeout
  refine Kept.foldl (fun s0 i0 => ?_) ?_
  · exact kept_mirrorEnd _ _ _
  · exact Kept.refl _

theorem kept_settled : ∀ s x1, Kept s (State.settled s x1) := by
  intro s x1
  unfold State.settled
  exact kept_modSource _ _ _

theorem kept_seedCores : ∀ s, Kept s (State.seedCores s) := by
  intro s
  unfold State.seedCores
  refine Kept.foldl (fun s0 i0 => ?_) ?_
  · extract_lets -lift l1 l2 l3
    have k4 : Kept s0 l1.2 := by
      unfold l1
      exact kept_draw _ _
    clear_value l1
    have k5 : Kept s0 l2 := by
      unfold l2
      exact k4
    clear_value l2
    refine Kept.upd ?_ rfl rfl rfl rfl rfl
    exact k5
  · exact Kept.refl _

theorem kept_tryReseed : ∀ s, Kept s (State.tryReseed s) := by
  intro s
  unfold State.tryReseed
  refine Kept.ite (Kept.refl _) ?_
  extract_lets -lift l0 l1 l2
  split
  · exact Kept.refl _
  · refine Kept.ite (Kept.refl _) ?_
    extract_lets -lift l3 l4 l5
    have k6 : Kept s l5 := by
      unfold l5
      refine Kept.upd ?_ rfl rfl rfl rfl rfl
      exact Kept.refl _
    clear_value l5
    exact Kept.ite (Kept.trans (k6.trans (kept_seedCores _)) (kept_cxSettle _)) (k6.trans (kept_bump _ _ _))

theorem kept_cxFatal : ∀ s, Kept s (State.cxFatal s) := by
  intro s
  unfold State.cxFatal
  exact Kept.ite (kept_cxAbort _ _ _ _) (Kept.refl _)

theorem kept_entropyFatal : ∀ s, Kept s (State.entropyFatal s) := by
  intro s
  unfold State.entropyFatal
  refine Kept.ite ?_ (Kept.refl _)
  extract_lets -lift l0 l1 l2
  have k3 : Kept s l0 := by
    unfold l0
    refine Kept.foldl (fun s4 i4 => ?_) ?_
    · split
      · exact Kept.refl _
      · exact Kept.refl _
      · exact kept_answer _ _ _ _
      · exact kept_answer _ _ _ _
    · exact Kept.refl _
  clear_value l0
  have k5 : Kept s l1 := by
    unfold l1
    exact k3.trans (kept_cxFatal _)
  clear_value l1
  refine Kept.trans ?_ (kept_quench _ _)
  refine Kept.upd ?_ rfl rfl rfl rfl rfl
  exact k5

theorem kept_assayBlock : ∀ s x1 x2, Kept s (State.assayBlock s x1 x2) := by
  intro s x1 x2
  unfold State.assayBlock
  extract_lets -lift l0 l1 l2 l3 l4 l5 l6 l7
  have k8 : Kept s l4 := by
    unfold l4
    exact Kept.trans (kept_modSource _ _ _) (kept_bump _ _ _)
  clear_value l4
  have k9 : Kept s l7 := by
    unfold l7
    exact Kept.trans (k8.trans (kept_modSource _ _ _)) (kept_errBit _ _ _ _ _)
  clear_value l7
  refine Kept.ite (Kept.refl _) ?_
  refine Kept.ite ?_ ?_
  · refine Kept.ite ?_ (k8.trans (kept_modSource _ _ _))
    refine Kept.trans ?_ (kept_tryReseed _)
    refine Kept.upd ?_ rfl rfl rfl rfl rfl
    exact k8
  · refine Kept.ite (Kept.trans (k9.trans (kept_logEv _ _ _ _ _)) (kept_entropyFatal _)) ?_
    exact Kept.trans (k8.trans (kept_modSource _ _ _)) (kept_bump _ _ _)

theorem kept_restarted : ∀ s x1, Kept s (State.restarted s x1) := by
  intro s x1
  unfold State.restarted
  exact kept_modSource _ _ _

theorem kept_reseedNow : ∀ s, Kept s (State.reseedNow s) := by
  intro s
  unfold State.reseedNow
  exact kept_tryReseed _

theorem kept_reseedLimit : ∀ s, Kept s (State.reseedLimit s) := by
  intro s
  unfold State.reseedLimit
  refine Kept.ite ?_ (Kept.refl _)
  refine Kept.trans ?_ (kept_bump _ _ _)
  refine Kept.upd ?_ rfl rfl rfl rfl rfl
  exact Kept.refl _

theorem kept_serveGen : ∀ s, Kept s (State.serveGen s) := by
  intro s
  unfold State.serveGen
  split
  · extract_lets -lift l0 l1 l2 l3 l4
    have k5 : Kept s l1 := by
      unfold l1
      refine Kept.upd ?_ rfl rfl rfl rfl rfl
      exact Kept.refl _
    clear_value l1
    have k6 : Kept s l2.2 := by
      unfold l2
      exact k5.trans (kept_draw _ _)
    clear_value l2
    have k7 : Kept s l3 := by
      unfold l3
      exact k6
    clear_value l3
    split
    · refine Kept.trans ?_ (kept_cxRun _)
      refine Kept.trans ?_ (kept_bump _ _ _)
      refine Kept.upd ?_ rfl rfl rfl rfl rfl
      exact k7
    · split
      · exact k5.trans (kept_enrolServe _ _ _)
      · exact k5
    · exact k6.trans (kept_answer _ _ _ _)
    · extract_lets -lift l8
      have k9 : Kept s l8.2 := by
        unfold l8
        split
        · dsimp -zeta only [ret]
          exact k5
        · exact k5.trans (kept_keyFill _ _ _ _)
      clear_value l8
      refine Kept.trans ?_ (kept_keyResume _ _)
      split
      · exact k9.trans (kept_answer _ _ _ _)
      · exact k9
  · exact Kept.refl _

theorem kept_mulResult : ∀ s x1, Kept s (State.mulResult s x1) := by
  intro s n
  unfold State.mulResult
  exact Kept.ite ((Kept.refl s).updEng fun ca _ => by rw [settle_data]; exact engine_wf ca.2.2 _) (Kept.refl s)

theorem kept_accServe : ∀ s x1 x2, Kept s (State.accServe s x1 x2).2 := by
  intro s x1 x2
  unfold State.accServe
  extract_lets -lift l0 l1 l2
  have k3 : Kept s l2.2 := by
    unfold l2
    exact kept_serve _ _ _
  clear_value l2
  refine Kept.ite_snd (Kept.refl _) ?_
  refine Kept.ite_snd (Kept.refl _) ?_
  split
  · exact Kept.ite_snd (Kept.refl _) k3
  · exact Kept.ite_snd (Kept.refl _) k3

theorem kept_accStart : ∀ s x1, Kept s (State.accStart s x1) := by
  intro s x1
  unfold State.accStart
  split
  · exact Kept.refl _
  · extract_lets -lift l0 l1
    have k2 : Kept s l0.2 := by
      unfold l0
      exact kept_accServe _ _ _
    clear_value l0
    split
    · exact k2
    · extract_lets -lift l3 l4
      have k5 : Kept s l3 := by
        unfold l3
        refine Kept.updEng ?_ (fun ca6 cx6 => ?_)
        · exact k2
        · exact engine_wf cx6.2.2 _
      clear_value l3
      refine Kept.upd ?_ rfl rfl rfl rfl rfl
      exact k5

theorem kept_engDict : ∀ s x1 x2 x3, Kept s (State.engDict s x1 x2 x3) := by
  intro s x1 x2 x3
  unfold State.engDict
  extract_lets -lift l0
  exact Kept.ite (Kept.trans (kept_issueWord _ _ _ _ (opDict_wf _ _)) (kept_accStart _ _)) (Kept.refl _)

theorem kept_engPoke : ∀ s x1 x2 x3, Kept s (State.engPoke s x1 x2 x3) := by
  intro s n a b
  unfold State.engPoke
  refine Kept.ite ?_ ((Kept.refl s).updEngs fun hc => ⟨memWrite_wf hc.2.1 _ _, hc.2.2⟩)
  exact (Kept.refl s).updEng fun ca _ => memWrite_wf (engine_wf ca.2.2 _) _ _

theorem kept_dictComplete : ∀ s x1, Kept s (State.dictComplete s x1) := by
  intro s x1
  unfold State.dictComplete
  extract_lets -lift l0
  split
  · exact Kept.refl _
  · split
    · exact Kept.refl _
    · extract_lets -lift l1 l2 l3 l4 l5
      have k6 : Kept s l3 := by
        unfold l3
        exact Kept.ite (kept_engPoke _ _ _ _) (Kept.refl _)
      clear_value l3
      have k7 : Kept s l5 := by
        unfold l5
        refine Kept.updEng ?_ (fun ca8 cx8 => ?_)
        · exact k6
        · exact engine_wf cx8.2.2 _
      clear_value l5
      split
      · exact k7
      · exact Kept.ite (Kept.trans (k7.trans (kept_engHold _ _)) (kept_engStart _ _)) (k7.trans (kept_engHold _ _))

theorem kept_eventWake : ∀ s x1, Kept s (State.eventWake s x1) := by
  intro s x1
  unfold State.eventWake
  extract_lets -lift l0
  split
  · refine Kept.ite ?_ (Kept.refl _)
    refine Kept.updEng ?_ (fun ca1 cx1 => ?_)
    · exact Kept.refl _
    · exact engine_wf cx1.2.2 _
  · exact Kept.refl _

theorem kept_deadline : ∀ s x1, Kept s (State.deadline s x1) := by
  intro s x1
  unfold State.deadline
  extract_lets -lift l0
  split
  · split
    · refine Kept.ite ?_ (Kept.refl _)
      refine Kept.updEng ?_ (fun ca1 cx1 => ?_)
      · exact Kept.refl _
      · exact engine_wf cx1.2.2 _
    · exact Kept.refl _
  · exact Kept.refl _

theorem kept_sev : ∀ s x1 x2, Kept s (State.sev s x1 x2) := by
  intro s x1 x2
  unfold State.sev
  refine Kept.foldl (fun s0 i0 => ?_) ?_
  · exact Kept.ite (kept_engEv _ _ _) (Kept.refl _)
  · exact Kept.refl _

theorem kept_engSev : ∀ s x1, Kept s (State.engSev s x1) := by
  intro s x1
  unfold State.engSev
  extract_lets -lift l0 l1
  have k2 : Kept s l1 := by
    unfold l1
    exact kept_issueWord _ _ _ _ opStop_wf
  clear_value l1
  exact Kept.ite (Kept.ite (k2.trans (kept_sev _ _ _)) k2) (Kept.refl _)

theorem kept_illegalOp : ∀ s x1, Kept s (State.illegalOp s x1) := by
  intro s x1
  unfold State.illegalOp
  extract_lets -lift l0
  exact Kept.ite (kept_issueWord _ _ _ _ opStop_wf) (Kept.refl _)

theorem kept_engWatchdog : ∀ s x1, Kept s (State.engWatchdog s x1) := by
  intro s x1
  unfold State.engWatchdog
  extract_lets -lift l0
  exact Kept.ite (kept_engTrap _ _ _ _) (Kept.refl _)

theorem kept_trapRestart : ∀ s x1, Kept s (State.trapRestart s x1) := by
  intro s x1
  unfold State.trapRestart
  extract_lets -lift l0
  split
  · exact Kept.ite (kept_engStart _ _) (Kept.refl _)
  · exact Kept.refl _

theorem kept_breakHit : ∀ s x1, Kept s (State.breakHit s x1) := by
  intro s x1
  unfold State.breakHit
  extract_lets -lift l0 l1
  refine Kept.ite ?_ (Kept.refl _)
  refine Kept.updEng ?_ (fun ca2 cx2 => ?_)
  · exact Kept.refl _
  · exact engine_wf cx2.2.2 _

theorem kept_loadDone : ∀ s, Kept s (State.loadDone s).2 := by
  intro s
  unfold State.loadDone
  split
  · exact Kept.refl s
  · split
    · exact Kept.refl s
    · refine Kept.upd (Kept.updEng (Kept.refl s) ?_) rfl rfl rfl rfl rfl
      exact fun _ _ => nil_wf

theorem kept_loadDoneRow : ∀ s, Kept s (State.loadDoneRow s) := by
  intro s
  unfold State.loadDoneRow
  extract_lets -lift l0
  have k1 : Kept s l0.2 := by
    unfold l0
    exact kept_loadDone _
  clear_value l0
  split
  · exact k1.trans (kept_answer _ _ _ _)
  · exact k1

theorem kept_loadTimeout : ∀ s, Kept s (State.loadTimeout s) := by
  intro s
  unfold State.loadTimeout
  split
  · refine Kept.ite ?_ (Kept.refl _)
    refine Kept.upd ?_ rfl rfl rfl rfl rfl
    exact Kept.refl _
  · exact Kept.refl _

theorem kept_gpioEdge : ∀ s x1 x2, Kept s (State.gpioEdge s x1 x2) := by
  intro s x1 x2
  unfold State.gpioEdge
  extract_lets -lift l0 l1 l2 l3
  have k4 : Kept s l2 := by
    unfold l2
    refine Kept.upd ?_ rfl rfl rfl rfl rfl
    exact Kept.refl _
  clear_value l2
  exact Kept.ite (Kept.refl _) (Kept.ite (k4.trans (kept_engEv _ _ _)) k4)

theorem kept_gpioEdgeRow : ∀ s x1 x2, Kept s (State.gpioEdgeRow s x1 x2) := by
  intro s x1 x2
  unfold State.gpioEdgeRow
  extract_lets -lift l0
  have k1 : Kept s l0 := by
    unfold l0
    exact kept_gpioEdge _ _ _
  clear_value l0
  exact Kept.ite (k1.trans (kept_wakeBy _ _)) k1

theorem kept_dbgId : ∀ s x1, Kept s (State.dbgId s x1) := by
  intro s x1
  unfold State.dbgId
  split
  · exact Kept.refl _
  · refine Kept.ite (kept_dbgAns _ _ _) ?_
    refine Kept.ite (kept_dbgAns _ _ _) ?_
    extract_lets -lift l0 l1 l2 l3
    have k4 : Kept s l0.2 := by
      unfold l0
      exact kept_draw _ _
    clear_value l0
    have k5 : Kept s l1 := by
      unfold l1
      exact k4
    clear_value l1
    refine Kept.trans ?_ (kept_dbgAns _ _ _)
    refine Kept.upd ?_ rfl rfl rfl rfl rfl
    exact k5

theorem kept_dbgUnlock : ∀ s x1, Kept s (State.dbgUnlock s x1) := by
  intro s x1
  unfold State.dbgUnlock
  split
  · exact Kept.refl _
  · refine Kept.ite (kept_dbgAns _ _ _) ?_
    split
    · exact kept_dbgAns _ _ _
    · extract_lets -lift l0 l1 l2 l3 l4 l5
      have k6 : Kept s l3 := by
        unfold l3
        refine Kept.trans ?_ (kept_cxUse _ _ _)
        refine Kept.upd ?_ rfl rfl rfl rfl rfl
        exact Kept.refl _
      clear_value l3
      refine Kept.ite ?_ ?_
      · refine Kept.trans ?_ (kept_dbgAns _ _ _)
        refine Kept.upd ?_ rfl rfl rfl rfl rfl
        exact k6
      · refine Kept.trans ?_ (kept_dbgAns _ _ _)
        refine Kept.upd ?_ rfl rfl rfl rfl rfl
        exact k6

theorem kept_dbgRun : ∀ s x1, Kept s (State.dbgRun s x1) := by
  intro s x1
  unfold State.dbgRun
  refine kept_dbgFor _ _ _ _ ?_
  intro z0
  intro z1
  extract_lets -lift l2 l3
  refine Kept.ite ?_ (Kept.ite (kept_dbgAns _ _ _) (kept_dbgAns _ _ _))
  refine Kept.trans ?_ (kept_dbgAns _ _ _)
  refine Kept.updEng ?_ (fun ca4 cx4 => ?_)
  · exact Kept.refl _
  · exact engine_wf cx4.2.2 _

theorem kept_dbgExec : ∀ s x1, Kept s (State.dbgExec s x1) := by
  intro s x1
  unfold State.dbgExec
  extract_lets -lift l0 l1
  have k2 : Kept s l1 := by
    unfold l1
    exact kept_issueWord _ _ _ _ (engOp_wf _ _)
  clear_value l1
  exact Kept.ite (k2.trans (kept_sev _ _ _)) (Kept.ite (k2.trans (kept_accStart _ _)) k2)

theorem kept_dbgStep : ∀ s x1, Kept s (State.dbgStep s x1) := by
  intro s x1
  unfold State.dbgStep
  refine kept_dbgFor _ _ _ _ ?_
  intro z0
  intro z1
  extract_lets -lift l2 l3 l4 l5
  have k6 : Kept s l3 := by
    unfold l3
    refine Kept.trans ?_ (kept_dbgExec _ _)
    refine Kept.updEng ?_ (fun ca7 cx7 => ?_)
    · exact Kept.refl _
    · exact engine_wf cx7.2.2 _
  clear_value l3
  have k8 : Kept s l5 := by
    unfold l5
    refine Kept.ite ?_ k6
    refine Kept.updEng ?_ (fun ca9 cx9 => ?_)
    · exact k6
    · exact engine_wf cx9.2.2 _
  clear_value l5
  exact Kept.ite (kept_dbgAns _ _ _) (k8.trans (kept_dbgAns _ _ _))

theorem kept_dbgRegs : ∀ s x1, Kept s (State.dbgRegs s x1) := by
  intro s x1
  unfold State.dbgRegs
  refine kept_dbgFor _ _ _ _ ?_
  intro z0
  intro z1
  extract_lets -lift l2 l3
  exact kept_dbgAns _ _ _

theorem kept_dbgRegWrite : ∀ s x1, Kept s (State.dbgRegWrite s x1) := by
  intro s f
  unfold State.dbgRegWrite
  refine kept_dbgFor s _ _ _ fun n d => ?_
  extract_lets e r v
  have he : Canonical s → Mem.wf e.data := fun hc => by
    unfold e; rw [settle_data]; exact engine_wf hc.2.2 n
  clear_value e
  repeat' apply Kept.ite
  all_goals first
    | exact kept_dbgAns s _ _
    | (refine Kept.trans ?_ (kept_dbgAns _ _ _); exact Kept.updEng (Kept.refl s) fun ca _ => he ca)

theorem kept_dbgMemRead : ∀ s x1, Kept s (State.dbgMemRead s x1) := by
  intro s x1
  unfold State.dbgMemRead
  refine kept_dbgFor _ _ _ _ ?_
  intro z0
  intro z1
  extract_lets -lift l2 l3 l4
  exact Kept.ite (kept_dbgAns _ _ _) (Kept.ite (kept_dbgAns _ _ _) (kept_dbgAns _ _ _))

theorem kept_dbgMemWrite : ∀ s x1, Kept s (State.dbgMemWrite s x1) := by
  intro s x1
  unfold State.dbgMemWrite
  refine kept_dbgFor _ _ _ _ ?_
  intro z0
  intro z1
  extract_lets -lift l2 l3 l4
  refine Kept.ite (kept_dbgAns _ _ _) ?_
  refine Kept.ite (kept_dbgAns _ _ _) ?_
  refine Kept.ite ?_ (Kept.trans (kept_engPoke _ _ _ _) (kept_dbgAns _ _ _))
  refine Kept.trans ?_ (kept_dbgAns _ _ _)
  refine Kept.updEng ?_ (fun ca5 cx5 => ?_)
  · exact Kept.refl _
  · exact engine_wf cx5.2.2 _

theorem kept_dbgBreak : ∀ s x1, Kept s (State.dbgBreak s x1) := by
  intro s x1
  unfold State.dbgBreak
  refine kept_dbgFor _ _ _ _ ?_
  intro z0
  intro z1
  extract_lets -lift l2 l3
  refine Kept.ite (kept_dbgAns _ _ _) ?_
  refine Kept.ite (kept_dbgAns _ _ _) ?_
  refine Kept.trans ?_ (kept_dbgAns _ _ _)
  refine Kept.updEng ?_ (fun ca4 cx4 => ?_)
  · exact Kept.refl _
  · exact engine_wf cx4.2.2 _

theorem kept_busOff : ∀ s x1, Kept s (State.busOff s x1) := by
  intro s x1
  unfold State.busOff
  refine Kept.ite ?_ (Kept.refl _)
  extract_lets -lift l0
  exact Kept.trans (Kept.trans (kept_modCan _ _ _) (kept_bump _ _ _)) (kept_logEv _ _ _ _ _)

theorem kept_canRecovered : ∀ s x1, Kept s (State.canRecovered s x1) := by
  intro s x1
  unfold State.canRecovered
  exact kept_modCan _ _ _

theorem kept_launchReached : ∀ s, Kept s (State.launchReached s) := by
  intro s
  unfold State.launchReached
  extract_lets -lift l0 l1 l2 l3
  have k4 : Kept s l2 := by
    unfold l2
    refine Kept.upd ?_ rfl rfl rfl rfl rfl
    exact Kept.refl _
  clear_value l2
  refine Kept.upd ?_ rfl rfl rfl rfl rfl
  exact k4

theorem kept_ptpSent : ∀ s x1 x2, Kept s (State.ptpSent s x1 x2) := by
  intro s x1 x2
  unfold State.ptpSent
  extract_lets -lift l0 l1 l2
  refine Kept.ite (kept_ptpSend _ _ _) ?_
  refine Kept.ite ?_ (Kept.ite (kept_ptpSend _ _ _) (Kept.refl _))
  refine Kept.upd ?_ rfl rfl rfl rfl rfl
  exact Kept.refl _

theorem kept_t1sTxDone : ∀ s x1 x2, Kept s (State.t1sTxDone s x1 x2) := by
  intro s x1 x2
  unfold State.t1sTxDone
  split
  · refine Kept.ite (Kept.ite (kept_bump _ _ _) (Kept.refl _)) ?_
    extract_lets -lift l0 l1
    have k2 : Kept s l1 := by
      unfold l1
      refine Kept.trans ?_ (kept_txRecord _ _ _ _ _ _)
      refine Kept.trans ?_ (kept_bump _ _ _)
      refine Kept.upd ?_ rfl rfl rfl rfl rfl
      exact Kept.refl _
    clear_value l1
    exact Kept.ite (k2.trans (kept_ptpSent _ _ _)) k2
  · exact Kept.refl _

theorem kept_beaconLoss : ∀ s, Kept s (State.beaconLoss s) := by
  intro s
  unfold State.beaconLoss
  refine Kept.ite ?_ (Kept.refl _)
  refine Kept.trans ?_ (kept_bump _ _ _)
  refine Kept.upd ?_ rfl rfl rfl rfl rfl
  exact Kept.refl _

theorem kept_wlDown : ∀ s x1, Kept s (State.wlDown s x1) := by
  intro s x1
  unfold State.wlDown
  extract_lets -lift l0 l1 l2
  have k3 : Kept s l0 := by
    unfold l0
    exact Kept.ite (kept_bumpBy _ _ _ _) (Kept.refl _)
  clear_value l0
  have k4 : Kept s l2 := by
    unfold l2
    refine Kept.upd ?_ rfl rfl rfl rfl rfl
    exact k3
  clear_value l2
  exact Kept.ite (Kept.refl _) (Kept.ite (Kept.trans (k4.trans (kept_bump _ _ _)) (kept_wlPathLost _)) k4)

theorem kept_wlAlign : ∀ s, Kept s (State.wlAlign s) := by
  intro s
  unfold State.wlAlign
  refine Kept.ite ?_ (Kept.refl _)
  refine Kept.upd ?_ rfl rfl rfl rfl rfl
  exact Kept.refl _

theorem kept_wlUp : ∀ s, Kept s (State.wlUp s) := by
  intro s
  unfold State.wlUp
  refine Kept.ite ?_ (Kept.refl _)
  refine Kept.upd ?_ rfl rfl rfl rfl rfl
  exact Kept.refl _

theorem kept_sectorFail : ∀ s x1, Kept s (State.sectorFail s x1) := by
  intro s x1
  unfold State.sectorFail
  refine Kept.trans ?_ (kept_logEv _ _ _ _ _)
  refine Kept.trans ?_ (kept_bump _ _ _)
  refine Kept.upd ?_ rfl rfl rfl rfl rfl
  exact Kept.refl _

theorem kept_qsDone : ∀ s x1, Kept s (State.qsDone s x1) := by
  intro s x1
  unfold State.qsDone
  split
  · exact Kept.refl _
  · refine Kept.ite (kept_sectorFail _ _) ?_
    refine Kept.ite ?_ ?_
    · refine Kept.upd ?_ rfl rfl rfl rfl rfl
      exact Kept.refl _
    · split
      · refine Kept.upd ?_ rfl rfl rfl rfl rfl
        exact Kept.refl _
      · extract_lets -lift l0 l1
        refine Kept.trans ?_ (kept_bump _ _ _)
        refine Kept.upd ?_ rfl rfl rfl rfl rfl
        exact Kept.refl _

theorem kept_ppsTick : ∀ s, Kept s (State.ppsTick s) := by
  intro s
  unfold State.ppsTick
  extract_lets -lift l0 l1 l2 l3 l4 l5
  have k6 : Kept s l2 := by
    unfold l2
    refine Kept.trans ?_ (kept_engEvAll _ _)
    refine Kept.upd ?_ rfl rfl rfl rfl rfl
    exact Kept.refl _
  clear_value l2
  have k7 : Kept s l4 := by
    unfold l4
    exact k6.trans (kept_applyPend _ _ _)
  clear_value l4
  refine Kept.ite ?_ (Kept.refl _)
  refine Kept.ite ?_ k6
  refine Kept.upd ?_ rfl rfl rfl rfl rfl
  exact k7

theorem kept_ppsEnd : ∀ s, Kept s (State.ppsEnd s) := by
  intro s
  unfold State.ppsEnd
  refine Kept.ite ?_ (Kept.refl _)
  refine Kept.upd ?_ rfl rfl rfl rfl rfl
  exact Kept.refl _

theorem kept_syncInterval : ∀ s, Kept s (State.syncInterval s) := by
  intro s
  unfold State.syncInterval
  refine Kept.ite (Kept.refl _) ?_
  extract_lets -lift l0 l1 l2 l3 l4 l5 l6 l7
  have k8 : Kept s l0 := by
    unfold l0
    exact kept_applyPend _ _ _
  have k9 : Kept s l2 := by
    unfold l2
    refine Kept.upd ?_ rfl rfl rfl rfl rfl
    exact k8
  have k10 : Kept s l4 := by
    unfold l4
    refine Kept.upd ?_ rfl rfl rfl rfl rfl
    exact k9
  have k11 : Kept s l5 := by
    unfold l5
    exact k10.trans (kept_ptpSend _ _ _)
  refine Kept.ite ?_ k9
  refine Kept.ite ?_ (k11.trans (kept_acquire _))
  refine Kept.ite (k11.trans (kept_setQual _ _)) ?_
  refine Kept.upd ?_ rfl rfl rfl rfl rfl
  exact k11

theorem kept_pdelayInterval : ∀ s, Kept s (State.pdelayInterval s) := by
  intro s
  unfold State.pdelayInterval
  refine Kept.ite (Kept.refl _) ?_
  extract_lets -lift l0 l1 l2 l3 l4
  have k5 : Kept s l0 := by
    unfold l0
    exact kept_applyPend _ _ _
  clear_value l0
  have k6 : Kept s l2 := by
    unfold l2
    refine Kept.upd ?_ rfl rfl rfl rfl rfl
    exact k5
  clear_value l2
  have k7 : Kept s l4 := by
    unfold l4
    refine Kept.upd ?_ rfl rfl rfl rfl rfl
    exact k6
  clear_value l4
  exact Kept.ite (k7.trans (kept_ptpSend _ _ _)) k6

theorem kept_announceInterval : ∀ s, Kept s (State.announceInterval s) := by
  intro s
  unfold State.announceInterval
  refine Kept.ite (Kept.refl _) ?_
  extract_lets -lift l0 l1 l2 l3 l4 l5 l6 l7
  have k8 : Kept s l0 := by
    unfold l0
    exact kept_applyPend _ _ _
  have k9 : Kept s l2 := by
    unfold l2
    refine Kept.upd ?_ rfl rfl rfl rfl rfl
    exact k8
  have k10 : Kept s l4 := by
    unfold l4
    refine Kept.ite ?_ k9
    refine Kept.trans ?_ (kept_setPort _ _)
    refine Kept.upd ?_ rfl rfl rfl rfl rfl
    exact k9
  have k11 : Kept s l5 := by
    unfold l5
    exact k10.trans (kept_boundary _ _)
  clear_value l5
  have k12 : Kept s l7 := by
    unfold l7
    refine Kept.upd ?_ rfl rfl rfl rfl rfl
    exact k11
  clear_value l7
  exact Kept.ite (k12.trans (kept_ptpSend _ _ _)) k10

theorem kept_sourceLoss : ∀ s, Kept s (State.sourceLoss s) := by
  intro s
  unfold State.sourceLoss
  extract_lets -lift l0 l1
  have k2 : Kept s l0 := by
    unfold l0
    exact Kept.ite (kept_sourceLost _) (Kept.refl _)
  clear_value l0
  refine Kept.ite ?_ k2
  refine Kept.trans ?_ (kept_sourceLost _)
  refine Kept.upd ?_ rfl rfl rfl rfl rfl
  exact k2

theorem kept_holdoverLimit : ∀ s, Kept s (State.holdoverLimit s) := by
  intro s
  unfold State.holdoverLimit
  exact Kept.ite (kept_setQual _ _) (Kept.refl _)

theorem kept_tsEdge : ∀ s x1 x2, Kept s (State.tsEdge s x1 x2) := by
  intro s x1 x2
  unfold State.tsEdge
  extract_lets -lift l0 l1 l2 l3 l4 l5 l6
  have k7 : Kept s l3 := by
    unfold l3
    refine Kept.upd ?_ rfl rfl rfl rfl rfl
    exact Kept.refl _
  clear_value l3
  refine Kept.ite ?_ (Kept.refl _)
  refine Kept.ite ?_ k7
  refine Kept.trans ?_ (kept_servo _ _)
  refine Kept.trans ?_ (kept_acquire _)
  refine Kept.upd ?_ rfl rfl rfl rfl rfl
  exact k7

theorem kept_heartbeatPeriod : ∀ s x1, Kept s (State.heartbeatPeriod s x1) := by
  intro s x1
  unfold State.heartbeatPeriod
  refine Kept.ite (Kept.refl _) ?_
  refine Kept.ite ?_ ?_
  · refine Kept.ite (Kept.refl _) ?_
    split
    · exact Kept.refl _
    · extract_lets -lift l0 l1 l2
      have k3 : Kept s l0 := by
        unfold l0
        exact kept_fcntUp _
      clear_value l0
      have k4 : Kept s l2 := by
        unfold l2
        refine Kept.trans ?_ (kept_cxUse _ _ _)
        refine Kept.upd ?_ rfl rfl rfl rfl rfl
        exact k3
      clear_value l2
      exact Kept.trans (k4.trans (kept_wlSend _ _ _)) (kept_fcntEnd _)
  · refine Kept.ite (Kept.refl _) ?_
    extract_lets -lift l5 l6
    have k7 : Kept s l6 := by
      unfold l6
      refine Kept.trans ?_ (kept_drawBc _)
      refine Kept.upd ?_ rfl rfl rfl rfl rfl
      exact Kept.refl _
    clear_value l6
    refine Kept.ite (Kept.ite k7 (k7.trans (kept_segSend _ _ _ _ _))) ?_
    split
    · exact Kept.ite (k7.trans (kept_segSend _ _ _ _ _)) k7
    · exact k7

theorem kept_presencePeriod : ∀ s, Kept s (State.presencePeriod s) := by
  intro s
  unfold State.presencePeriod
  refine Kept.ite (Kept.refl _) ?_
  extract_lets -lift l0 l1 l2 l3 l4 l5 l6 l7 l8 l9
  have k10 : Kept s l8 := by
    unfold l8
    exact kept_fcntUp _
  clear_value l8
  refine Kept.trans ?_ (kept_fcntEnd _)
  refine Kept.trans ?_ (kept_ethSend _ _ _ _ _)
  refine Kept.trans ?_ (kept_cxUse _ _ _)
  refine Kept.upd ?_ rfl rfl rfl rfl rfl
  exact k10

theorem kept_sendJoin : ∀ s x1, Kept s (State.sendJoin s x1) := by
  intro s x1
  unfold State.sendJoin
  split
  · exact Kept.refl _
  · refine Kept.ite (Kept.refl _) ?_
    extract_lets -lift l0
    have k1 : Kept s l0.2 := by
      unfold l0
      split
      · exact Kept.refl _
      · exact kept_draw _ _
    clear_value l0
    exact Kept.trans (k1.trans (kept_modMgr _ _ _)) (kept_segSend _ _ _ _ _)

theorem kept_joinRepeat : ∀ s, Kept s (State.joinRepeat s) := by
  intro s
  unfold State.joinRepeat
  refine Kept.ite (Kept.refl _) ?_
  refine Kept.foldl (fun s0 i0 => ?_) ?_
  · exact Kept.ite (kept_sendJoin _ _) (Kept.refl _)
  · exact Kept.refl _

theorem kept_workerLost : ∀ s x1, Kept s (State.workerLost s x1) := by
  intro s x1
  unfold State.workerLost
  exact Kept.ite (kept_modNode _ _ _) (Kept.refl _)

theorem kept_workerGone : ∀ s x1, Kept s (State.workerGone s x1) := by
  intro s x1
  unfold State.workerGone
  exact Kept.trans (kept_workerLost _ _) (kept_twinSettle _)

theorem kept_mgrLoss : ∀ s, Kept s (State.mgrLoss s) := by
  intro s
  unfold State.mgrLoss
  refine Kept.upd ?_ rfl rfl rfl rfl rfl
  exact Kept.refl _

theorem kept_twinResolution : ∀ s, Kept s (State.twinResolution s) := by
  intro s
  unfold State.twinResolution
  extract_lets -lift l0
  have k1 : Kept s l0 := by
    unfold l0
    exact kept_twinSettle _
  clear_value l0
  exact Kept.ite (k1.trans (kept_isolate _)) k1

theorem kept_electionTimeout : ∀ s, Kept s (State.electionTimeout s) := by
  intro s
  unfold State.electionTimeout
  refine Kept.ite ?_ (Kept.refl _)
  extract_lets -lift l0 l1
  have k2 : Kept s l0 := by
    unfold l0
    exact kept_takeManager _
  clear_value l0
  refine Kept.trans ?_ (kept_twinReady _)
  refine Kept.trans ?_ (kept_twinLog _ _)
  refine Kept.trans ?_ (kept_bump _ _ _)
  refine Kept.upd ?_ rfl rfl rfl rfl rfl
  exact k2

theorem kept_tinPeriod : ∀ s, Kept s (State.tinPeriod s) := by
  intro s
  unfold State.tinPeriod
  exact Kept.ite (kept_tinStart _) (Kept.refl _)

theorem kept_commitResend : ∀ s, Kept s (State.commitResend s) := by
  intro s
  unfold State.commitResend
  refine Kept.ite (Kept.refl _) ?_
  refine Kept.foldl (fun s0 i0 => ?_) ?_
  · extract_lets -lift l1 l2 l3
    have k4 : Kept s0 l2 := by
      unfold l2
      exact kept_twinSend _ _ _
    clear_value l2
    refine Kept.upd ?_ rfl rfl rfl rfl rfl
    exact k4
  · exact Kept.refl _

theorem kept_vaonPor : ∀ s, Kept s (State.vaonPor s) := by
  intro s
  unfold State.vaonPor
  refine Kept.trans ?_ (kept_fieldUp _ _)
  refine Kept.trans ?_ (kept_resetTake _ _ _)
  refine Kept.upd ?_ rfl rfl rfl rfl rfl
  exact Kept.refl _

theorem kept_tagPowerLoss : ∀ s x1, Kept s (State.tagPowerLoss s x1) := by
  intro s x1
  unfold State.tagPowerLoss
  split
  · extract_lets -lift l0 l1
    have k2 : Kept s l0 := by
      unfold l0
      exact kept_setTagEnt _ _ _
    clear_value l0
    refine Kept.upd ?_ rfl rfl rfl rfl rfl
    exact k2
  · exact Kept.refl _

theorem kept_vaonLoss : ∀ s x1, Kept s (State.vaonLoss s x1) := by
  intro s x1
  unfold State.vaonLoss
  extract_lets -lift l0 l1 l2 l3 l4
  have k5 : Kept s l0 := by
    unfold l0
    exact kept_tagPowerLoss _ _
  clear_value l0
  have k6 : Kept s l2 := by
    unfold l2
    refine Kept.trans ?_ (kept_resetTake _ _ _)
    refine Kept.upd ?_ rfl rfl rfl rfl rfl
    exact k5
  clear_value l2
  have k7 : Kept s l3 := by
    unfold l3
    exact k6.trans (kept_tagEndTxn _)
  clear_value l3
  refine Kept.ite k6 ?_
  refine Kept.upd ?_ rfl rfl rfl rfl rfl
  exact k7

theorem kept_vsupLow : ∀ s, Kept s (State.vsupLow s) := by
  intro s
  unfold State.vsupLow
  refine Kept.trans ?_ (kept_resetTake _ _ _)
  refine Kept.upd ?_ rfl rfl rfl rfl rfl
  exact Kept.refl _

theorem kept_vioLow : ∀ s, Kept s (State.vioLow s) := by
  intro s
  unfold State.vioLow
  refine Kept.upd ?_ rfl rfl rfl rfl rfl
  exact Kept.refl _

theorem kept_vioBack : ∀ s, Kept s (State.vioBack s) := by
  intro s
  unfold State.vioBack
  refine Kept.upd ?_ rfl rfl rfl rfl rfl
  exact Kept.refl _

theorem kept_journalScan : ∀ s, Kept s (State.journalScan s) := by
  intro s
  unfold State.journalScan
  extract_lets -lift l0 l1 l2 l3 l4 l5
  have k6 : Kept s l5 := by
    unfold l5
    refine Kept.upd ?_ rfl rfl rfl rfl rfl
    exact Kept.refl _
  clear_value l5
  exact Kept.ite (k6.trans (kept_errBit _ _ _ _ _)) k6

theorem kept_roleStart : ∀ s, Kept s (State.roleStart s) := by
  intro s
  unfold State.roleStart
  extract_lets -lift l0 l1 l2 l3 l4 l5
  have k6 : Kept s l3 := by
    unfold l3
    refine Kept.upd ?_ rfl rfl rfl rfl rfl
    exact Kept.refl _
  clear_value l3
  refine Kept.ite ?_ ?_
  · refine Kept.upd ?_ rfl rfl rfl rfl rfl
    exact k6
  · refine Kept.ite ?_ ?_
    · refine Kept.upd ?_ rfl rfl rfl rfl rfl
      exact k6
    · refine Kept.upd ?_ rfl rfl rfl rfl rfl
      exact k6

theorem kept_loadBank : ∀ s, Kept s (State.loadBank s) := by
  intro s
  unfold State.loadBank
  extract_lets s1 es
  have h1 : Kept s s1 := Kept.foldl (fun s p => kept_put s _ _ _) (Kept.refl s)
  refine Kept.upd (x := { s1 with eng.es := es }) (h1.updEngs fun hc => ⟨hc.2.1, ?_⟩) rfl rfl rfl rfl rfl
  refine wf_map hc.2.2 fun e he => ?_
  split
  · exact idleData_wf _ _
  · exact he

theorem kept_resetRelease : ∀ s x1 x2 x3 x4, Kept s (State.resetRelease s x1 x2 x3 x4) := by
  intro s x1 x2 x3 x4
  unfold State.resetRelease
  refine Kept.ite (Kept.refl _) ?_
  extract_lets -lift l0 l1 l2 l3 l4 l5 l6 l7 l8 l9 l10 l11
  have k12 : Kept s l6 := by
    unfold l6
    refine Kept.upd ?_ rfl rfl rfl rfl rfl
    exact Kept.refl _
  clear_value l6
  have k13 : Kept s l7 := by
    unfold l7
    refine Kept.trans ?_ (kept_logDeferred _)
    exact Kept.trans (Kept.trans (k12.trans (kept_loadBank _)) (kept_roleStart _)) (kept_journalScan _)
  clear_value l7
  refine Kept.upd ?_ rfl rfl rfl rfl rfl
  exact k13

theorem kept_unitsOn : ∀ s x1, Kept s (State.unitsOn s x1) := by
  intro s x1
  unfold State.unitsOn
  extract_lets -lift l0 l1 l2
  have k3 : Kept s l1 := by
    unfold l1
    refine Kept.foldl (fun s4 i4 => ?_) ?_
    · exact Kept.ite (Kept.refl _) (kept_canStart _ _)
    · refine Kept.upd ?_ rfl rfl rfl rfl rfl
      exact Kept.refl _
  clear_value l1
  have k5 : Kept s l2 := by
    unfold l2
    exact Kept.ite k3 (k3.trans (kept_t1sStart _))
  clear_value l2
  refine Kept.foldl (fun s6 i6 => ?_) ?_
  · exact Kept.ite (Kept.refl _) (kept_engStart _ _)
  · exact k5

theorem kept_startTestDone : ∀ s x1 x2 x3, Kept s (State.startTestDone s x1 x2 x3) := by
  intro s x1 x2 x3
  unfold State.startTestDone
  refine Kept.ite (Kept.refl _) ?_
  extract_lets -lift l0 l1 l2 l3 l4 l5 l6 l7 l8 l9
  have k10 : Kept s l3 := by
    unfold l3
    exact kept_put _ _ _ _
  clear_value l3
  have k11 : Kept s l4 := by
    unfold l4
    exact Kept.ite k10 (k10.trans (kept_errBit _ _ _ _ _))
  clear_value l4
  have k12 : Kept s l5 := by
    unfold l5
    exact Kept.ite (k11.trans (kept_quench _ _)) k11
  clear_value l5
  have k13 : Kept s l6 := by
    unfold l6
    exact Kept.ite k12 (k12.trans (kept_quench _ _))
  clear_value l6
  have k14 : Kept s l7 := by
    unfold l7
    exact k13.trans (kept_unitsOn _ _)
  clear_value l7
  refine Kept.ite (k11.trans (kept_startHeld _)) ?_
  refine Kept.ite (k14.trans (kept_startHeld _)) ?_
  refine Kept.ite ?_ (k14.trans (kept_accessReady _))
  refine Kept.upd ?_ rfl rfl rfl rfl rfl
  exact k14

theorem kept_watchdog : ∀ s, Kept s (State.watchdog s) := by
  intro s
  unfold State.watchdog
  exact Kept.ite (kept_resetTake _ _ _) (Kept.refl _)

theorem kept_watchdogKick : ∀ s, Kept s (State.watchdogKick s) := by
  intro s
  unfold State.watchdogKick
  refine Kept.ite ?_ (Kept.refl _)
  refine Kept.upd ?_ rfl rfl rfl rfl rfl
  exact Kept.refl _

theorem kept_tmrDown : ∀ s, Kept s (State.tmrDown s) := by
  intro s
  unfold State.tmrDown
  exact kept_tmrSettleAll _

theorem kept_sourcesDown : ∀ s, Kept s (State.sourcesDown s) := by
  intro s
  unfold State.sourcesDown
  refine Kept.upd ?_ rfl rfl rfl rfl rfl
  exact Kept.refl _

theorem kept_coreDown : ∀ s, Kept s (State.coreDown s) := by
  intro s
  unfold State.coreDown
  extract_lets -lift l0 l1 l2 l3 l4 l5 l6
  have k7 : Kept s l0 := by
    unfold l0
    exact Kept.trans (Kept.trans (kept_tmrDown _) (kept_timeSettle _)) (kept_radioOff _)
  clear_value l0
  have k8 : Kept s l1 := by
    unfold l1
    exact Kept.trans (Kept.trans (k7.trans (kept_tsEmpty _)) (kept_sourcesDown _)) (kept_keysVolatile _)
  clear_value l1
  refine Kept.upd ?_ rfl rfl rfl rfl rfl
  exact k8

theorem kept_corePowerDown : ∀ s, Kept s (State.corePowerDown s) := by
  intro s
  unfold State.corePowerDown
  refine Kept.ite (Kept.refl _) ?_
  split
  · refine Kept.ite ?_ (Kept.refl _)
    extract_lets -lift l0 l1
    have k2 : Kept s l0 := by
      unfold l0
      exact kept_coreDown _
    clear_value l0
    refine Kept.upd ?_ rfl rfl rfl rfl rfl
    exact k2
  · exact Kept.ite (kept_coreDown _) (Kept.refl _)

theorem kept_schedWake : ∀ s, Kept s (State.schedWake s) := by
  intro s
  unfold State.schedWake
  exact Kept.ite (Kept.refl _) (kept_coreWakeOn _ _)

theorem kept_tmrResume : ∀ s, Kept s (State.tmrResume s) := by
  intro s
  unfold State.tmrResume
  refine Kept.upd ?_ rfl rfl rfl rfl rfl
  exact Kept.refl _

theorem kept_startCal : ∀ s, Kept s (State.startCal s) := by
  intro s
  unfold State.startCal
  refine Kept.ite ?_ (Kept.refl _)
  refine Kept.foldl (fun s0 i0 => ?_) ?_
  · exact kept_calDue _ _ _ _ _
  · exact Kept.refl _

theorem kept_pllLock : ∀ s, Kept s (State.pllLock s) := by
  intro s
  unfold State.pllLock
  refine Kept.ite (Kept.refl _) ?_
  extract_lets -lift l0 l1 l2 l3 l4 l5 l6
  have k7 : Kept s l1 := by
    unfold l1
    refine Kept.upd ?_ rfl rfl rfl rfl rfl
    exact Kept.refl _
  clear_value l1
  split
  · extract_lets -lift l8
    refine Kept.trans ?_ (kept_logClock _)
    refine Kept.trans ?_ (kept_tmrResume _)
    refine Kept.upd ?_ rfl rfl rfl rfl rfl
    exact k7
  · extract_lets -lift l9 l10
    have k11 : Kept s l10 := by
      unfold l10
      refine Kept.upd ?_ rfl rfl rfl rfl rfl
      exact k7
    clear_value l10
    exact Kept.trans (k11.trans (kept_tmrResume _)) (kept_sourcesUp _)
  · refine Kept.trans ?_ (kept_startCal _)
    refine Kept.trans ?_ (kept_sourcesUp _)
    refine Kept.trans ?_ (kept_tmrResume _)
    refine Kept.upd ?_ rfl rfl rfl rfl rfl
    exact k7

theorem kept_pllLost : ∀ s, Kept s (State.pllLost s) := by
  intro s
  unfold State.pllLost
  refine Kept.ite (Kept.refl _) ?_
  refine Kept.trans ?_ (kept_errBit _ _ _ _ _)
  extract_lets -lift l0 l1
  have k2 : Kept s l0 := by
    unfold l0
    exact Kept.trans (kept_tmrDown _) (kept_timeSettle _)
  clear_value l0
  refine Kept.upd ?_ rfl rfl rfl rfl rfl
  exact k2

theorem kept_relockTimeout : ∀ s, Kept s (State.relockTimeout s) := by
  intro s
  unfold State.relockTimeout
  exact Kept.ite (kept_resetTake _ _ _) (Kept.refl _)

theorem kept_refPass : ∀ s, Kept s (State.refPass s) := by
  intro s
  unfold State.refPass
  refine Kept.ite ?_ (Kept.refl _)
  refine Kept.upd ?_ rfl rfl rfl rfl rfl
  exact Kept.refl _

theorem kept_refLoss : ∀ s, Kept s (State.refLoss s) := by
  intro s
  unfold State.refLoss
  exact Kept.ite (Kept.refl _) (Kept.ite (kept_quench _ _) (kept_resetTake _ _ _))

theorem kept_xtalSwitch : ∀ s, Kept s (State.xtalSwitch s) := by
  intro s
  unfold State.xtalSwitch
  refine Kept.ite ?_ (Kept.refl _)
  refine Kept.upd ?_ rfl rfl rfl rfl rfl
  exact Kept.refl _

theorem kept_xtalFail : ∀ s, Kept s (State.xtalFail s) := by
  intro s
  unfold State.xtalFail
  refine Kept.ite (Kept.refl _) ?_
  refine Kept.trans ?_ (kept_logClock _)
  refine Kept.trans ?_ (kept_errBit _ _ _ _ _)
  refine Kept.upd ?_ rfl rfl rfl rfl rfl
  exact Kept.refl _

theorem kept_ratioMeasure : ∀ s x1, Kept s (State.ratioMeasure s x1) := by
  intro s x1
  unfold State.ratioMeasure
  refine Kept.ite (Kept.refl _) ?_
  extract_lets -lift l0 l1 l2
  have k3 : Kept s l2 := by
    unfold l2
    exact kept_put _ _ _ _
  clear_value l2
  exact Kept.ite (k3.trans (kept_logClock _)) k3

theorem kept_tmrCapture : ∀ s x1 x2 x3, Kept s (State.tmrCapture s x1 x2 x3) := by
  intro s x1 x2 x3
  unfold State.tmrCapture
  extract_lets -lift l0 l1 l2 l3 l4
  have k5 : Kept s l0 := by
    unfold l0
    exact kept_tmrSettle _ _
  clear_value l0
  exact Kept.ite (k5.trans (kept_setTmr _ _ _)) k5

theorem kept_burnishNext : ∀ s, Kept s (State.burnishNext s) := by
  intro s
  unfold State.burnishNext
  refine Kept.ite ?_ ?_
  · refine Kept.upd ?_ rfl rfl rfl rfl rfl
    exact Kept.refl _
  · refine Kept.trans ?_ (kept_boundary _ _)
    refine Kept.trans ?_ (kept_bump _ _ _)
    refine Kept.upd ?_ rfl rfl rfl rfl rfl
    exact Kept.refl _

theorem kept_nvmBad : ∀ s x1 x2, Kept s (State.nvmBad s x1 x2) := by
  intro s part item
  unfold State.nvmBad
  refine Kept.ite ?_ (Kept.ite (Kept.trans (Kept.upd (Kept.refl s) rfl rfl rfl rfl rfl) (kept_quench _ 1)) (Kept.ite
    (Kept.ite (Kept.ite (Kept.refl s) ?_) ?_) (Kept.ite ?_ (Kept.ite ?_ (Kept.ite ?_ (Kept.refl s))))))
  · exact (Kept.refl s).updEngs fun hc => ⟨hc.2.1, wf_modAt hc.2.2 fun _ h => h⟩
  · exact (kept_modTok s _ _).trans (kept_keyGone _ _ _ _)
  · exact Kept.upd (Kept.refl s) rfl rfl rfl rfl rfl
  · dsimp only
    exact Kept.ite (Kept.upd (x := s) (Kept.refl s) rfl rfl rfl rfl rfl) (Kept.upd (x := s) (Kept.refl s) rfl rfl rfl rfl rfl)
  · exact Kept.ite (Kept.refl s) (Kept.ite (kept_setTagEnt s _ _) (Kept.ite (kept_setTagEnt s _ _) (kept_setTagEnt s _ _)))
  · exact Kept.ite (Kept.trans (Kept.upd (x := s) (Kept.refl s) rfl rfl rfl rfl rfl) (kept_bump _ _ _)) (Kept.refl s)

theorem kept_scrubWord : ∀ s x1 x2 x3 x4, Kept s (State.scrubWord s x1 x2 x3 x4) := by
  intro s x1 x2 x3 x4
  unfold State.scrubWord
  extract_lets -lift l0
  refine Kept.ite (Kept.trans (kept_bump _ _ _) (kept_logEv _ _ _ _ _)) ?_
  refine Kept.ite ?_ (Kept.refl _)
  refine Kept.trans ?_ (kept_nvmBad _ _ _)
  exact Kept.trans (Kept.trans (kept_bump _ _ _) (kept_errBit _ _ _ _ _)) (kept_logEv _ _ _ _ _)

theorem kept_burnishStep : ∀ s x1 x2 x3 x4, Kept s (State.burnishStep s x1 x2 x3 x4) := by
  intro s x1 x2 x3 x4
  unfold State.burnishStep
  exact Kept.ite (Kept.trans (kept_scrubWord _ _ _ _ _) (kept_burnishNext _)) (Kept.refl _)

theorem kept_burnishCatchUp : ∀ s, Kept s (State.burnishCatchUp s) := by
  intro s
  unfold State.burnishCatchUp
  extract_lets -lift l0 l1
  refine Kept.ite ?_ ?_
  · refine Kept.upd ?_ rfl rfl rfl rfl rfl
    exact Kept.refl _
  · refine Kept.trans ?_ (kept_boundary _ _)
    refine Kept.trans ?_ (kept_bump _ _ _)
    refine Kept.upd ?_ rfl rfl rfl rfl rfl
    exact Kept.refl _

theorem kept_burnishWake : ∀ s, Kept s (State.burnishWake s) := by
  intro s
  unfold State.burnishWake
  exact Kept.ite (Kept.refl _) (Kept.trans (kept_coreWakeOn _ _) (kept_burnishCatchUp _))

theorem kept_txCut : ∀ s, Kept s (State.txCut s) := by
  intro s
  unfold State.txCut
  extract_lets -lift l0 l1
  refine Kept.upd ?_ rfl rfl rfl rfl rfl
  exact Kept.refl _

theorem kept_thermalCut : ∀ s, Kept s (State.thermalCut s) := by
  intro s
  unfold State.thermalCut
  exact Kept.trans (Kept.trans (kept_txCut _) (kept_coilsOff _)) (kept_errBit _ _ _ _ _)

theorem kept_setStage : ∀ s x1, Kept s (State.setStage s x1) := by
  intro s x1
  unfold State.setStage
  refine Kept.trans ?_ (kept_logEv _ _ _ _ _)
  refine Kept.upd ?_ rfl rfl rfl rfl rfl
  exact Kept.refl _

theorem kept_limiterSampleOn : ∀ s x1 x2, Kept s (State.limiterSampleOn s x1 x2) := by
  intro s x1 x2
  unfold State.limiterSampleOn
  extract_lets -lift l0 l1 l2 l3 l4 l5
  have k6 : Kept s l2 := by
    unfold l2
    refine Kept.trans ?_ (kept_put _ _ _ _)
    refine Kept.upd ?_ rfl rfl rfl rfl rfl
    exact Kept.refl _
  have k7 : Kept s l3 := by
    unfold l3
    split
    · exact k6.trans (kept_put _ _ _ _)
    · exact k6
  refine Kept.ite ?_ ?_
  · exact Kept.ite (Kept.trans (k7.trans (kept_setStage _ _)) (kept_thermalCut _)) (k7.trans (kept_setStage _ _))
  · refine Kept.ite ?_ ?_
    · refine Kept.upd ?_ rfl rfl rfl rfl rfl
      exact k7
    · refine Kept.upd ?_ rfl rfl rfl rfl rfl
      exact k7

theorem kept_limiterSample : ∀ s x1 x2, Kept s (State.limiterSample s x1 x2) := by
  intro s x1 x2
  unfold State.limiterSample
  exact Kept.ite (kept_limiterSampleOn _ _ _) (Kept.ite (Kept.trans (kept_setStage _ _) (kept_thermalCut _)) (Kept.refl _))

theorem kept_stageFall : ∀ s, Kept s (State.stageFall s) := by
  intro s
  unfold State.stageFall
  exact Kept.ite (kept_setStage _ _) (Kept.refl _)

theorem kept_canTelemetry : ∀ s, Kept s (State.canTelemetry s) := by
  intro s
  unfold State.canTelemetry
  extract_lets -lift l0 l1 l2 l3
  have k4 : Kept s l2 := by
    unfold l2
    exact kept_canSend _ _ _
  clear_value l2
  refine Kept.ite (Kept.refl _) ?_
  refine Kept.upd ?_ rfl rfl rfl rfl rfl
  exact k4

theorem kept_headEvict : ∀ s x1, Kept s (State.headEvict s x1) := by
  intro s x1
  unfold State.headEvict
  split
  · exact Kept.refl _
  · refine Kept.ite ?_ (Kept.refl _)
    refine Kept.trans ?_ (kept_bump _ _ _)
    refine Kept.upd ?_ rfl rfl rfl rfl rfl
    exact Kept.refl _

theorem kept_reportLost : ∀ s, Kept s (State.reportLost s) := by
  intro s
  unfold State.reportLost
  split
  · exact Kept.refl _
  · refine Kept.ite ?_ (Kept.refl _)
    refine Kept.trans ?_ (kept_logEv _ _ _ _ _)
    refine Kept.upd ?_ rfl rfl rfl rfl rfl
    exact Kept.refl _

theorem kept_headWrite : ∀ s, Kept s (State.headWrite s) := by
  intro s
  unfold State.headWrite
  split
  · exact Kept.refl _
  · refine Kept.ite (Kept.refl _) ?_
    extract_lets -lift l0 l1 l2
    have k3 : Kept s l1 := by
      unfold l1
      exact kept_headEvict _ _
    clear_value l1
    refine Kept.trans ?_ (kept_reportLost _)
    refine Kept.trans ?_ (kept_bump _ _ _)
    refine Kept.upd ?_ rfl rfl rfl rfl rfl
    exact k3

theorem kept_sectorWrite : ∀ s x1, Kept s (State.sectorWrite s x1) := by
  intro s x1
  unfold State.sectorWrite
  extract_lets -lift l0 l1
  have k2 : Kept s l0 := by
    unfold l0
    exact kept_boundary _ _
  clear_value l0
  refine Kept.ite (Kept.refl _) ?_
  split
  · exact Kept.refl _
  · refine Kept.trans ?_ (kept_cxUse _ _ _)
    refine Kept.upd ?_ rfl rfl rfl rfl rfl
    exact k2

theorem kept_busError : ∀ s x1 x2, Kept s (State.busError s x1 x2) := by
  intro s x1 x2
  unfold State.busError
  refine Kept.ite ?_ (Kept.refl _)
  extract_lets -lift l0
  have k1 : Kept s l0 := by
    unfold l0
    exact kept_modCan _ _ _
  clear_value l0
  exact Kept.ite (k1.trans (kept_busOff _ _)) k1

theorem kept_beacon : ∀ s, Kept s (State.beacon s) := by
  intro s
  unfold State.beacon
  exact Kept.ite (Kept.refl _) (Kept.trans (kept_boundary _ _) (kept_t1sStart _))

theorem kept_gapExpiry : ∀ s x1 x2 x3, Kept s (State.gapExpiry s x1 x2 x3) := by
  intro s x1 x2 x3
  unfold State.gapExpiry
  split
  · exact Kept.refl _
  · refine Kept.ite (Kept.refl _) ?_
    refine Kept.trans ?_ (kept_notify _ _ _ _ _)
    refine Kept.upd ?_ rfl rfl rfl rfl rfl
    exact Kept.refl _

theorem kept_nfcNoCard : ∀ s x1 x2, Kept s (State.nfcNoCard s x1 x2) := by
  intro s x1 x2
  unfold State.nfcNoCard
  extract_lets -lift l0 l1
  have k2 : Kept s l0 := by
    unfold l0
    exact kept_nfcEnd _ _
  clear_value l0
  have k3 : Kept s l1 := by
    unfold l1
    exact k2.trans (kept_bump _ _ _)
  clear_value l1
  exact Kept.ite k2 (Kept.ite (k2.trans (kept_modNfc _ _ _)) (k3.trans (kept_modNfc _ _ _)))

theorem kept_nfcWup : ∀ s x1, Kept s (State.nfcWup s x1) := by
  intro s x1
  unfold State.nfcWup
  split
  · exact Kept.refl _
  · refine Kept.ite (Kept.refl _) ?_
    extract_lets -lift l0 l1 l2
    exact Kept.ite (kept_modAct _ _ _) (Kept.ite (kept_modAct _ _ _) (kept_nfcNoCard _ _ _))

theorem kept_rngWake : ∀ s, Kept s (State.rngWake s) := by
  intro s
  unfold State.rngWake
  refine Kept.trans ?_ (kept_sourcesUp _)
  refine Kept.upd ?_ rfl rfl rfl rfl rfl
  exact Kept.refl _

theorem kept_rngReset : ∀ s, Kept s (State.rngReset s) := by
  intro s
  unfold State.rngReset
  refine Kept.upd ?_ rfl rfl rfl rfl rfl
  exact Kept.refl _

theorem kept_tmrReset : ∀ s, Kept s (State.tmrReset s) := by
  intro s
  unfold State.tmrReset
  refine Kept.upd ?_ rfl rfl rfl rfl rfl
  exact Kept.refl _

end Sys2Proof.Machine
end

