-- ==== Sys2Proof/Laws/KeptCommands1.lean ====
section
/-! SUPPORT. Every meaning answers a next state, and keeps what `Kept` says, part 1: one lemma per command. -/
namespace Sys2Proof.Machine

theorem kept_execAccEnrolImport : ∀ x0 x1 x2 s, ∃ u, execAccEnrolImport x0 x1 x2 s = .next u ∧ Kept s u := by
  intro x0 x1 x2 s
  exact ⟨_, rfl, (kept_run _ _ _ (fun z0 => kept_ask _ _ _ _ _ _))⟩

theorem kept_execAccLearnCancel : ∀ x0 x1 s, ∃ u, execAccLearnCancel x0 x1 s = .next u ∧ Kept s u := by
  intro x0 x1 s
  exact ⟨_, rfl, (kept_run _ _ _ (fun z0 => kept_ask _ _ _ _ _ _))⟩

theorem kept_execAccLockoutClear : ∀ x0 x1 x2 s, ∃ u, execAccLockoutClear x0 x1 x2 s = .next u ∧ Kept s u := by
  intro x0 x1 x2 s
  exact ⟨_, rfl, (kept_run _ _ _ (fun z0 => kept_ask _ _ _ _ _ _))⟩

theorem kept_execAccRevokeToken : ∀ x0 x1 x2 s, ∃ u, execAccRevokeToken x0 x1 x2 s = .next u ∧ Kept s u := by
  intro x0 x1 x2 s
  exact ⟨_, rfl, (kept_run _ _ _ (fun z0 => kept_ask _ _ _ _ _ _))⟩

theorem kept_execAdd : ∀ x0 x1 s, ∃ u, execAdd x0 x1 s = .next u ∧ Kept s u := by
  intro x0 x1 s
  refine ⟨_, rfl, ?_⟩
  refine kept_engRun _ _ _ _ ?_
  intro z0
  exact kept_engStep _ _ _ _ (fun z1 => opSet_wf _ _)

theorem kept_execAddi : ∀ x0 x1 s, ∃ u, execAddi x0 x1 s = .next u ∧ Kept s u := by
  intro x0 x1 s
  refine ⟨_, rfl, ?_⟩
  refine kept_engRun _ _ _ _ ?_
  intro z0
  exact kept_engStep _ _ _ _ (fun z1 => opSet_wf _ _)

theorem kept_execAdvertisingEvent : ∀ x0 x1 s, ∃ u, execAdvertisingEvent x0 x1 s = .next u ∧ Kept s u := by
  intro x0 x1 s
  refine ⟨_, rfl, ?_⟩
  refine kept_run _ _ _ ?_
  intro z0
  exact kept_whenLive _ _ (fun z1 => kept_advertise _ _)

theorem kept_execAnd : ∀ x0 x1 s, ∃ u, execAnd x0 x1 s = .next u ∧ Kept s u := by
  intro x0 x1 s
  refine ⟨_, rfl, ?_⟩
  refine kept_engRun _ _ _ _ ?_
  intro z0
  exact kept_engStep _ _ _ _ (fun z1 => opSet_wf _ _)

theorem kept_execAndi : ∀ x0 x1 s, ∃ u, execAndi x0 x1 s = .next u ∧ Kept s u := by
  intro x0 x1 s
  refine ⟨_, rfl, ?_⟩
  refine kept_engRun _ _ _ _ ?_
  intro z0
  exact kept_engStep _ _ _ _ (fun z1 => opSet_wf _ _)

theorem kept_execAnnealTick : ∀ x0 x1 s, ∃ u, execAnnealTick x0 x1 s = .next u ∧ Kept s u := by
  intro x0 x1 s
  refine ⟨_, rfl, ?_⟩
  refine kept_run _ _ _ ?_
  intro z0
  exact kept_whenLive _ _ (fun z1 => kept_anneal _ _)

theorem kept_execAnnounce : ∀ x0 x1 s, ∃ u, execAnnounce x0 x1 s = .next u ∧ Kept s u := by
  intro x0 x1 s
  refine ⟨_, rfl, ?_⟩
  refine kept_run _ _ _ ?_
  intro z0
  exact kept_t1sRow _ _ (fun z1 => kept_announce _ _)

theorem kept_execAnnounceInterval : ∀ x0 s, ∃ u, execAnnounceInterval x0 s = .next u ∧ Kept s u := by
  intro x0 s
  refine ⟨_, rfl, ?_⟩
  refine kept_run _ _ _ ?_
  intro z0
  exact kept_whenLive _ _ (fun z1 => kept_announceInterval _)

theorem kept_execAnticollision : ∀ x0 x1 x2 x3 s, ∃ u, execAnticollision x0 x1 x2 x3 s = .next u ∧ Kept s u := by
  intro x0 x1 x2 x3 s
  exact ⟨_, rfl, (kept_run _ _ _ (fun z0 => kept_tagAnticoll _ _ _ _))⟩

theorem kept_execAonWatchdog : ∀ x0 s, ∃ u, execAonWatchdog x0 s = .next u ∧ Kept s u := by
  intro x0 s
  exact ⟨_, rfl, (kept_run _ _ _ (fun z0 => kept_watchdog _))⟩

theorem kept_execAssayBlock : ∀ x0 x1 x2 s, ∃ u, execAssayBlock x0 x1 x2 s = .next u ∧ Kept s u := by
  intro x0 x1 x2 s
  refine ⟨_, rfl, ?_⟩
  refine kept_run _ _ _ ?_
  intro z0
  exact kept_whenLive _ _ (fun z1 => kept_assayBlock _ _ _)

theorem kept_execAttRead : ∀ x0 x1 x2 s, ∃ u, execAttRead x0 x1 x2 s = .next u ∧ Kept s u := by
  intro x0 x1 x2 s
  refine ⟨_, rfl, ?_⟩
  refine kept_run _ _ _ ?_
  intro z0
  exact kept_whenLive _ _ (fun z1 => kept_attRead _ _ _)

theorem kept_execAttest : ∀ x0 x1 x2 s, ∃ u, execAttest x0 x1 x2 s = .next u ∧ Kept s u := by
  intro x0 x1 x2 s
  exact ⟨_, rfl, (kept_run _ _ _ (fun z0 => kept_zqRow _ _ _ _))⟩

theorem kept_execAuthBegin : ∀ x0 x1 s, ∃ u, execAuthBegin x0 x1 s = .next u ∧ Kept s u := by
  intro x0 x1 s
  exact ⟨_, rfl, (kept_run _ _ _ (fun z0 => kept_tagAuthBegin _ _))⟩

theorem kept_execAuthFinish : ∀ x0 x1 x2 s, ∃ u, execAuthFinish x0 x1 x2 s = .next u ∧ Kept s u := by
  intro x0 x1 x2 s
  exact ⟨_, rfl, (kept_run _ _ _ (fun z0 => kept_tagAuthFinish _ _ _))⟩

theorem kept_execBleEngNotify : ∀ x0 x1 x2 s, ∃ u, execBleEngNotify x0 x1 x2 s = .next u ∧ Kept s u := by
  intro x0 x1 x2 s
  exact ⟨_, rfl, (kept_run _ _ _ (fun z0 => kept_ask _ _ _ _ _ _))⟩

theorem kept_execBleEngPublish : ∀ x0 x1 x2 s, ∃ u, execBleEngPublish x0 x1 x2 s = .next u ∧ Kept s u := by
  intro x0 x1 x2 s
  exact ⟨_, rfl, (kept_run _ _ _ (fun z0 => kept_ask _ _ _ _ _ _))⟩

theorem kept_execBleEngRelease : ∀ x0 x1 x2 s, ∃ u, execBleEngRelease x0 x1 x2 s = .next u ∧ Kept s u := by
  intro x0 x1 x2 s
  exact ⟨_, rfl, (kept_run _ _ _ (fun z0 => kept_ask _ _ _ _ _ _))⟩

theorem kept_execBleEngRx : ∀ x0 x1 x2 s, ∃ u, execBleEngRx x0 x1 x2 s = .next u ∧ Kept s u := by
  intro x0 x1 x2 s
  exact ⟨_, rfl, (kept_run _ _ _ (fun z0 => kept_ask _ _ _ _ _ _))⟩

theorem kept_execBlink : ∀ x0 x1 x2 s, ∃ u, execBlink x0 x1 x2 s = .next u ∧ Kept s u := by
  intro x0 x1 x2 s
  refine ⟨_, rfl, ?_⟩
  refine kept_run _ _ _ ?_
  intro z0
  exact kept_whenLive _ _ (fun z1 => kept_blink _ _ _)

theorem kept_execBlockStart : ∀ x0 x1 s, ∃ u, execBlockStart x0 x1 s = .next u ∧ Kept s u := by
  intro x0 x1 s
  refine ⟨_, rfl, ?_⟩
  refine kept_run _ _ _ ?_
  intro z0
  exact kept_whenLive _ _ (fun z1 => kept_blockStart _ _)

theorem kept_execBoostExpiry : ∀ x0 s, ∃ u, execBoostExpiry x0 s = .next u ∧ Kept s u := by
  intro x0 s
  exact ⟨_, rfl, (kept_run _ _ _ (fun z0 => kept_boostEnd _))⟩

theorem kept_execBr : ∀ x0 x1 s, ∃ u, execBr x0 x1 s = .next u ∧ Kept s u := by
  intro x0 x1 s
  refine ⟨_, rfl, ?_⟩
  refine kept_engRun _ _ _ _ ?_
  intro z0
  exact kept_engStep _ _ _ _ (fun z1 => opBr_wf _)

theorem kept_execBreakpointHit : ∀ x0 x1 s, ∃ u, execBreakpointHit x0 x1 s = .next u ∧ Kept s u := by
  intro x0 x1 s
  refine ⟨_, rfl, ?_⟩
  refine kept_run _ _ _ ?_
  intro z0
  exact kept_whenLive _ _ (fun z1 => kept_breakHit _ _)

theorem kept_execBswap : ∀ x0 x1 s, ∃ u, execBswap x0 x1 s = .next u ∧ Kept s u := by
  intro x0 x1 s
  refine ⟨_, rfl, ?_⟩
  refine kept_engRun _ _ _ _ ?_
  intro z0
  exact kept_engStep _ _ _ _ (fun z1 => opSet_wf _ _)

theorem kept_execBurnishSlotWake : ∀ x0 s, ∃ u, execBurnishSlotWake x0 s = .next u ∧ Kept s u := by
  intro x0 s
  exact ⟨_, rfl, (kept_run _ _ _ (fun z0 => kept_burnishWake _))⟩

theorem kept_execBurnishStep : ∀ x0 x1 x2 x3 x4 s, ∃ u, execBurnishStep x0 x1 x2 x3 x4 s = .next u ∧ Kept s u := by
  intro x0 x1 x2 x3 x4 s
  refine ⟨_, rfl, ?_⟩
  refine kept_run _ _ _ ?_
  intro z0
  exact kept_whenLive _ _ (fun z1 => kept_burnishStep _ _ _ _ _)

theorem kept_execCalibrationDone : ∀ x0 x1 x2 x3 s, ∃ u, execCalibrationDone x0 x1 x2 x3 s = .next u ∧ Kept s u := by
  intro x0 x1 x2 x3 s
  refine ⟨_, rfl, ?_⟩
  refine kept_run _ _ _ ?_
  intro z0
  exact kept_whenLive _ _ (fun z1 => kept_calDoneRow _ _ _ _)

theorem kept_execCall : ∀ x0 x1 s, ∃ u, execCall x0 x1 s = .next u ∧ Kept s u := by
  intro x0 x1 s
  refine ⟨_, rfl, ?_⟩
  refine kept_engRun _ _ _ _ ?_
  intro z0
  exact kept_engStep _ _ _ _ (fun z1 => opCall_wf _)

theorem kept_execCallr : ∀ x0 x1 s, ∃ u, execCallr x0 x1 s = .next u ∧ Kept s u := by
  intro x0 x1 s
  refine ⟨_, rfl, ?_⟩
  refine kept_engRun _ _ _ _ ?_
  intro z0
  exact kept_engStep _ _ _ _ (fun z1 => opCall_wf _)

theorem kept_execCanBusError : ∀ x0 x1 x2 s, ∃ u, execCanBusError x0 x1 x2 s = .next u ∧ Kept s u := by
  intro x0 x1 x2 s
  refine ⟨_, rfl, ?_⟩
  refine kept_run _ _ _ ?_
  intro z0
  exact kept_whenLive _ _ (fun z1 => kept_busError _ _ _)

theorem kept_execCanBusOff : ∀ x0 x1 s, ∃ u, execCanBusOff x0 x1 s = .next u ∧ Kept s u := by
  intro x0 x1 s
  refine ⟨_, rfl, ?_⟩
  refine kept_run _ _ _ ?_
  intro z0
  exact kept_whenLive _ _ (fun z1 => kept_busOff _ _)

theorem kept_execCanBusOffRecovery : ∀ x0 x1 s, ∃ u, execCanBusOffRecovery x0 x1 s = .next u ∧ Kept s u := by
  intro x0 x1 s
  refine ⟨_, rfl, ?_⟩
  refine kept_run _ _ _ ?_
  intro z0
  exact kept_whenLive _ _ (fun z1 => kept_canRecovered _ _)

theorem kept_execCanFdSegment : ∀ x0 x1 x2 x3 s, ∃ u, execCanFdSegment x0 x1 x2 x3 s = .next u ∧ Kept s u := by
  intro x0 x1 x2 x3 s
  exact ⟨_, rfl, (kept_run _ _ _ (fun z0 => kept_canDictRow _ _ _ _ _ _))⟩

theorem kept_execCanFdSegmentTimeout : ∀ x0 x1 s, ∃ u, execCanFdSegmentTimeout x0 x1 s = .next u ∧ Kept s u := by
  intro x0 x1 s
  refine ⟨_, rfl, ?_⟩
  refine kept_run _ _ _ ?_
  intro z0
  exact kept_whenLive _ _ (fun z1 => kept_fdTimeout _ _)

theorem kept_execCanFrameRx : ∀ x0 x1 x2 x3 s, ∃ u, execCanFrameRx x0 x1 x2 x3 s = .next u ∧ Kept s u := by
  intro x0 x1 x2 x3 s
  refine ⟨_, rfl, ?_⟩
  refine kept_run _ _ _ ?_
  intro z0
  exact kept_portIn _ _ _ (fun z1 => kept_canFrameIn _ _ _ _)

theorem kept_execCanFrameTxDone : ∀ x0 x1 x2 x3 s, ∃ u, execCanFrameTxDone x0 x1 x2 x3 s = .next u ∧ Kept s u := by
  intro x0 x1 x2 x3 s
  refine ⟨_, rfl, ?_⟩
  refine kept_run _ _ _ ?_
  intro z0
  exact kept_whenLive _ _ (fun z1 => kept_canTxDone _ _ _ _)

theorem kept_execCanTelemetry : ∀ x0 s, ∃ u, execCanTelemetry x0 s = .next u ∧ Kept s u := by
  intro x0 s
  refine ⟨_, rfl, ?_⟩
  refine kept_run _ _ _ ?_
  intro z0
  exact kept_whenLive _ _ (fun z1 => kept_canTelemetry _)

theorem kept_execCanXlDictFrame : ∀ x0 x1 x2 x3 x4 s, ∃ u, execCanXlDictFrame x0 x1 x2 x3 x4 s = .next u ∧ Kept s u := by
  intro x0 x1 x2 x3 x4 s
  exact ⟨_, rfl, (kept_run _ _ _ (fun z0 => kept_canDictRow _ _ _ _ _ _))⟩

theorem kept_execCapConfirmMeasure : ∀ x0 x1 x2 s, ∃ u, execCapConfirmMeasure x0 x1 x2 s = .next u ∧ Kept s u := by
  intro x0 x1 x2 s
  refine ⟨_, rfl, ?_⟩
  refine kept_run _ _ _ ?_
  intro z0
  exact kept_capStep _ _ (fun z1 => kept_capConfirm _ _ _)

theorem kept_execCapScan : ∀ x0 x1 s, ∃ u, execCapScan x0 x1 s = .next u ∧ Kept s u := by
  intro x0 x1 s
  refine ⟨_, rfl, ?_⟩
  refine kept_run _ _ _ ?_
  intro z0
  exact kept_capStep _ _ (fun z1 => kept_capScan _ _)

theorem kept_execCapStuck : ∀ x0 x1 s, ∃ u, execCapStuck x0 x1 s = .next u ∧ Kept s u := by
  intro x0 x1 s
  refine ⟨_, rfl, ?_⟩
  refine kept_run _ _ _ ?_
  intro z0
  exact kept_whenAon _ _ (fun z1 => kept_capStuck _ _)

theorem kept_execCccdWrite : ∀ x0 x1 x2 x3 s, ∃ u, execCccdWrite x0 x1 x2 x3 s = .next u ∧ Kept s u := by
  intro x0 x1 x2 x3 s
  refine ⟨_, rfl, ?_⟩
  refine kept_run _ _ _ ?_
  intro z0
  exact kept_whenLive _ _ (fun z1 => kept_cccdWrite _ _ _ _)

theorem kept_execChallenge : ∀ x0 x1 s, ∃ u, execChallenge x0 x1 s = .next u ∧ Kept s u := by
  intro x0 x1 s
  refine ⟨_, rfl, ?_⟩
  refine kept_run _ _ _ ?_
  intro z0
  exact kept_whenLive _ _ (fun z1 => kept_bleChallenge _ _)

theorem kept_execChallengeExpiry : ∀ x0 s, ∃ u, execChallengeExpiry x0 s = .next u ∧ Kept s u := by
  intro x0 s
  exact ⟨_, rfl, (kept_run _ _ _ (fun z0 => kept_nonceExpiry _))⟩

theorem kept_execClockRatioMeasure : ∀ x0 x1 s, ∃ u, execClockRatioMeasure x0 x1 s = .next u ∧ Kept s u := by
  intro x0 x1 s
  refine ⟨_, rfl, ?_⟩
  refine kept_run _ _ _ ?_
  intro z0
  exact kept_whenLive _ _ (fun z1 => kept_ratioMeasure _ _)

theorem kept_execClz : ∀ x0 x1 s, ∃ u, execClz x0 x1 s = .next u ∧ Kept s u := by
  intro x0 x1 s
  refine ⟨_, rfl, ?_⟩
  refine kept_engRun _ _ _ _ ?_
  intro z0
  exact kept_engStep _ _ _ _ (fun z1 => opSet_wf _ _)

theorem kept_execCmp : ∀ x0 x1 s, ∃ u, execCmp x0 x1 s = .next u ∧ Kept s u := by
  intro x0 x1 s
  refine ⟨_, rfl, ?_⟩
  refine kept_engRun _ _ _ _ ?_
  intro z0
  exact kept_engStep _ _ _ _ (fun z1 => opPred_wf _ _)

theorem kept_execCmpi : ∀ x0 x1 s, ∃ u, execCmpi x0 x1 s = .next u ∧ Kept s u := by
  intro x0 x1 s
  refine ⟨_, rfl, ?_⟩
  refine kept_engRun _ _ _ _ ?_
  intro z0
  exact kept_engStep _ _ _ _ (fun z1 => opPred_wf _ _)

theorem kept_execCommit : ∀ x0 x1 x2 s, ∃ u, execCommit x0 x1 x2 s = .next u ∧ Kept s u := by
  intro x0 x1 x2 s
  refine ⟨_, rfl, ?_⟩
  refine kept_run _ _ _ ?_
  intro z0
  exact kept_segRow _ _ _ _ _ (fun z1 => kept_commitIn _ _)

theorem kept_execCommitAck : ∀ x0 x1 x2 s, ∃ u, execCommitAck x0 x1 x2 s = .next u ∧ Kept s u := by
  intro x0 x1 x2 s
  refine ⟨_, rfl, ?_⟩
  refine kept_run _ _ _ ?_
  intro z0
  exact kept_segRow _ _ _ _ _ (fun z1 => kept_commitAckIn _ _)

theorem kept_execCommitResend : ∀ x0 s, ∃ u, execCommitResend x0 s = .next u ∧ Kept s u := by
  intro x0 s
  refine ⟨_, rfl, ?_⟩
  refine kept_run _ _ _ ?_
  intro z0
  exact kept_whenLive _ _ (fun z1 => kept_commitResend _)

theorem kept_execCompactionPass : ∀ x0 s, ∃ u, execCompactionPass x0 s = .next u ∧ Kept s u := by
  intro x0 s
  refine ⟨_, rfl, ?_⟩
  refine kept_run _ _ _ ?_
  intro z0
  exact kept_whenLive _ _ (fun z1 => kept_compactPass _)

theorem kept_execCompactionStart : ∀ x0 s, ∃ u, execCompactionStart x0 s = .next u ∧ Kept s u := by
  intro x0 s
  refine ⟨_, rfl, ?_⟩
  refine kept_run _ _ _ ?_
  intro z0
  exact kept_whenLive _ _ (fun z1 => kept_compactStart _)

theorem kept_execCompactionSwitch : ∀ x0 s, ∃ u, execCompactionSwitch x0 s = .next u ∧ Kept s u := by
  intro x0 s
  refine ⟨_, rfl, ?_⟩
  refine kept_run _ _ _ ?_
  intro z0
  exact kept_whenLive _ _ (fun z1 => kept_compactSwitch _)

theorem kept_execConfirm : ∀ x0 x1 s, ∃ u, execConfirm x0 x1 s = .next u ∧ Kept s u := by
  intro x0 x1 s
  refine ⟨_, rfl, ?_⟩
  refine kept_run _ _ _ ?_
  intro z0
  exact kept_whenLive _ _ (fun z1 => kept_lfConfirm _ _)

theorem kept_execConnectionClose : ∀ x0 x1 s, ∃ u, execConnectionClose x0 x1 s = .next u ∧ Kept s u := by
  intro x0 x1 s
  refine ⟨_, rfl, ?_⟩
  refine kept_run _ _ _ ?_
  intro z0
  exact kept_whenLive _ _ (fun z1 => kept_bleClose _ _)

theorem kept_execConnectionEvent : ∀ x0 x1 x2 x3 x4 x5 x6 s, ∃ u, execConnectionEvent x0 x1 x2 x3 x4 x5 x6 s = .next u ∧ Kept s u := by
  intro x0 x1 x2 x3 x4 x5 x6 s
  refine ⟨_, rfl, ?_⟩
  refine kept_run _ _ _ ?_
  intro z0
  exact kept_whenLive _ _ (fun z1 => kept_connEvent _ _ _ _ _ _ _)

theorem kept_execConnectionOpen : ∀ x0 x1 x2 x3 x4 x5 s, ∃ u, execConnectionOpen x0 x1 x2 x3 x4 x5 s = .next u ∧ Kept s u := by
  intro x0 x1 x2 x3 x4 x5 s
  refine ⟨_, rfl, ?_⟩
  refine kept_run _ _ _ ?_
  intro z0
  exact kept_whenLive _ _ (fun z1 => kept_bleOpen _ _ _ _ _ _)

theorem kept_execConnectionParamRequest : ∀ x0 x1 x2 x3 x4 s, ∃ u, execConnectionParamRequest x0 x1 x2 x3 x4 s = .next u ∧ Kept s u := by
  intro x0 x1 x2 x3 x4 s
  refine ⟨_, rfl, ?_⟩
  refine kept_run _ _ _ ?_
  intro z0
  exact kept_whenLive _ _ (fun z1 => kept_paramRequest _ _ _ _ _)

theorem kept_execCorePowerDown : ∀ x0 s, ∃ u, execCorePowerDown x0 s = .next u ∧ Kept s u := by
  intro x0 s
  exact ⟨_, rfl, (kept_run _ _ _ (fun z0 => kept_corePowerDown _))⟩

theorem kept_execCoreWake : ∀ x0 x1 s, ∃ u, execCoreWake x0 x1 s = .next u ∧ Kept s u := by
  intro x0 x1 s
  exact ⟨_, rfl, (kept_run _ _ _ (fun z0 => kept_coreWake _ _))⟩

theorem kept_execCredClockConfirm : ∀ x0 x1 x2 s, ∃ u, execCredClockConfirm x0 x1 x2 s = .next u ∧ Kept s u := by
  intro x0 x1 x2 s
  exact ⟨_, rfl, (kept_run _ _ _ (fun z0 => kept_ask _ _ _ _ _ _))⟩

theorem kept_execCredProof : ∀ x0 x1 x2 s, ∃ u, execCredProof x0 x1 x2 s = .next u ∧ Kept s u := by
  intro x0 x1 x2 s
  exact ⟨_, rfl, (kept_run _ _ _ (fun z0 => kept_zqRow _ _ _ _))⟩

theorem kept_execCredRevoke : ∀ x0 x1 x2 s, ∃ u, execCredRevoke x0 x1 x2 s = .next u ∧ Kept s u := by
  intro x0 x1 x2 s
  exact ⟨_, rfl, (kept_run _ _ _ (fun z0 => kept_ask _ _ _ _ _ _))⟩

theorem kept_execCxBlockDone : ∀ x0 x1 s, ∃ u, execCxBlockDone x0 x1 s = .next u ∧ Kept s u := by
  intro x0 x1 s
  refine ⟨_, rfl, ?_⟩
  refine kept_run _ _ _ ?_
  intro z0
  exact kept_whenLive _ _ (fun z1 => kept_cxBlockDone _ _)

theorem kept_execCxRequestDone : ∀ x0 x1 s, ∃ u, execCxRequestDone x0 x1 s = .next u ∧ Kept s u := by
  intro x0 x1 s
  refine ⟨_, rfl, ?_⟩
  refine kept_run _ _ _ ?_
  intro z0
  exact kept_whenLive _ _ (fun z1 => kept_cxRequestDone _ _)

theorem kept_execCxSubmit : ∀ x0 x1 x2 s, ∃ u, execCxSubmit x0 x1 x2 s = .next u ∧ Kept s u := by
  intro x0 x1 x2 s
  exact ⟨_, rfl, (kept_run _ _ _ (fun z0 => kept_ask _ _ _ _ _ _))⟩

theorem kept_execCxTakeResult : ∀ x0 x1 s, ∃ u, execCxTakeResult x0 x1 s = .next u ∧ Kept s u := by
  intro x0 x1 s
  exact ⟨_, rfl, (kept_run _ _ _ (fun z0 => kept_ask _ _ _ _ _ _))⟩

theorem kept_execDbgBreak : ∀ x0 x1 s, ∃ u, execDbgBreak x0 x1 s = .next u ∧ Kept s u := by
  intro x0 x1 s
  refine ⟨_, rfl, ?_⟩
  refine kept_run _ _ _ ?_
  intro z0
  exact kept_whenLive _ _ (fun z1 => kept_dbgBreak _ _)

theorem kept_execDbgHalt : ∀ x0 x1 s, ∃ u, execDbgHalt x0 x1 s = .next u ∧ Kept s u := by
  intro x0 x1 s
  refine ⟨_, rfl, ?_⟩
  refine kept_run _ _ _ ?_
  intro z0
  exact kept_whenLive _ _ (fun z1 => kept_dbgHalt _ _)

theorem kept_execDbgIdent : ∀ x0 x1 s, ∃ u, execDbgIdent x0 x1 s = .next u ∧ Kept s u := by
  intro x0 x1 s
  refine ⟨_, rfl, ?_⟩
  refine kept_run _ _ _ ?_
  intro z0
  exact kept_whenLive _ _ (fun z1 => kept_dbgId _ _)

theorem kept_execDbgMemRead : ∀ x0 x1 s, ∃ u, execDbgMemRead x0 x1 s = .next u ∧ Kept s u := by
  intro x0 x1 s
  refine ⟨_, rfl, ?_⟩
  refine kept_run _ _ _ ?_
  intro z0
  exact kept_whenLive _ _ (fun z1 => kept_dbgMemRead _ _)

theorem kept_execDbgMemWrite : ∀ x0 x1 s, ∃ u, execDbgMemWrite x0 x1 s = .next u ∧ Kept s u := by
  intro x0 x1 s
  refine ⟨_, rfl, ?_⟩
  refine kept_run _ _ _ ?_
  intro z0
  exact kept_whenLive _ _ (fun z1 => kept_dbgMemWrite _ _)

theorem kept_execDbgRegRead : ∀ x0 x1 s, ∃ u, execDbgRegRead x0 x1 s = .next u ∧ Kept s u := by
  intro x0 x1 s
  refine ⟨_, rfl, ?_⟩
  refine kept_run _ _ _ ?_
  intro z0
  exact kept_whenLive _ _ (fun z1 => kept_dbgRegs _ _)

theorem kept_execDbgRegWrite : ∀ x0 x1 s, ∃ u, execDbgRegWrite x0 x1 s = .next u ∧ Kept s u := by
  intro x0 x1 s
  refine ⟨_, rfl, ?_⟩
  refine kept_run _ _ _ ?_
  intro z0
  exact kept_whenLive _ _ (fun z1 => kept_dbgRegWrite _ _)

theorem kept_execDbgRun : ∀ x0 x1 s, ∃ u, execDbgRun x0 x1 s = .next u ∧ Kept s u := by
  intro x0 x1 s
  refine ⟨_, rfl, ?_⟩
  refine kept_run _ _ _ ?_
  intro z0
  exact kept_whenLive _ _ (fun z1 => kept_dbgRun _ _)

theorem kept_execDbgStep : ∀ x0 x1 s, ∃ u, execDbgStep x0 x1 s = .next u ∧ Kept s u := by
  intro x0 x1 s
  refine ⟨_, rfl, ?_⟩
  refine kept_run _ _ _ ?_
  intro z0
  exact kept_whenLive _ _ (fun z1 => kept_dbgStep _ _)

theorem kept_execDbgUnlock : ∀ x0 x1 s, ∃ u, execDbgUnlock x0 x1 s = .next u ∧ Kept s u := by
  intro x0 x1 s
  refine ⟨_, rfl, ?_⟩
  refine kept_run _ _ _ ?_
  intro z0
  exact kept_whenLive _ _ (fun z1 => kept_dbgUnlock _ _)

theorem kept_execDeadTimeEnd : ∀ x0 x1 s, ∃ u, execDeadTimeEnd x0 x1 s = .next u ∧ Kept s u := by
  intro x0 x1 s
  exact ⟨_, rfl, (kept_run _ _ _ (fun z0 => kept_deadEnd _ _))⟩

theorem kept_execDevCommit : ∀ x0 x1 s, ∃ u, execDevCommit x0 x1 s = .next u ∧ Kept s u := by
  intro x0 x1 s
  exact ⟨_, rfl, (kept_run _ _ _ (fun z0 => kept_ask _ _ _ _ _ _))⟩

theorem kept_execDevCommitDone : ∀ x0 x1 s, ∃ u, execDevCommitDone x0 x1 s = .next u ∧ Kept s u := by
  intro x0 x1 s
  refine ⟨_, rfl, ?_⟩
  refine kept_run _ _ _ ?_
  intro z0
  exact kept_whenLive _ _ (fun z1 => kept_devCommitDone _ _)

theorem kept_execDevResetCold : ∀ x0 x1 s, ∃ u, execDevResetCold x0 x1 s = .next u ∧ Kept s u := by
  intro x0 x1 s
  exact ⟨_, rfl, (kept_run _ _ _ (fun z0 => kept_devResetRow _ _ _))⟩

theorem kept_execDevResetSystem : ∀ x0 x1 s, ∃ u, execDevResetSystem x0 x1 s = .next u ∧ Kept s u := by
  intro x0 x1 s
  exact ⟨_, rfl, (kept_run _ _ _ (fun z0 => kept_devResetRow _ _ _))⟩

theorem kept_execDevRestoreDefaults : ∀ x0 x1 s, ∃ u, execDevRestoreDefaults x0 x1 s = .next u ∧ Kept s u := by
  intro x0 x1 s
  exact ⟨_, rfl, (kept_run _ _ _ (fun z0 => kept_ask _ _ _ _ _ _))⟩

theorem kept_execDevSelfTest : ∀ x0 x1 s, ∃ u, execDevSelfTest x0 x1 s = .next u ∧ Kept s u := by
  intro x0 x1 s
  exact ⟨_, rfl, (kept_run _ _ _ (fun z0 => kept_ask _ _ _ _ _ _))⟩

theorem kept_execDevSelfTestDone : ∀ x0 x1 x2 s, ∃ u, execDevSelfTestDone x0 x1 x2 s = .next u ∧ Kept s u := by
  intro x0 x1 x2 s
  refine ⟨_, rfl, ?_⟩
  refine kept_run _ _ _ ?_
  intro z0
  exact kept_whenLive _ _ (fun z1 => kept_selfTestDone _ _ _)

theorem kept_execDictFrameT1s : ∀ x0 x1 x2 x3 s, ∃ u, execDictFrameT1s x0 x1 x2 x3 s = .next u ∧ Kept s u := by
  intro x0 x1 x2 x3 s
  refine ⟨_, rfl, ?_⟩
  refine kept_run _ _ _ ?_
  intro z0
  exact kept_portIn _ _ _ (fun z1 => Kept.ite (kept_t1sFrameIn _ _ _ _ _ _ _) (Kept.refl _))

theorem kept_execDictResponseReady : ∀ x0 s, ∃ u, execDictResponseReady x0 s = .next u ∧ Kept s u := by
  intro x0 s
  exact ⟨_, rfl, (kept_run _ _ _ (fun z0 => kept_spiServe _))⟩

theorem kept_execDoorOpenEdge : ∀ x0 x1 x2 x3 s, ∃ u, execDoorOpenEdge x0 x1 x2 x3 s = .next u ∧ Kept s u := by
  intro x0 x1 x2 x3 s
  refine ⟨_, rfl, ?_⟩
  refine kept_run _ _ _ ?_
  intro z0
  exact kept_whenAon _ _ (fun z1 => kept_doorSwitch _ _ _ _)

theorem kept_execDrbgGenerate : ∀ x0 s, ∃ u, execDrbgGenerate x0 s = .next u ∧ Kept s u := by
  intro x0 s
  refine ⟨_, rfl, ?_⟩
  refine kept_run _ _ _ ?_
  intro z0
  exact kept_whenLive _ _ (fun z1 => kept_serveGen _)

theorem kept_execDrbgReseed : ∀ x0 s, ∃ u, execDrbgReseed x0 s = .next u ∧ Kept s u := by
  intro x0 s
  refine ⟨_, rfl, ?_⟩
  refine kept_run _ _ _ ?_
  intro z0
  exact kept_whenLive _ _ (fun z1 => kept_reseedNow _)

theorem kept_execElectionTimeout : ∀ x0 s, ∃ u, execElectionTimeout x0 s = .next u ∧ Kept s u := by
  intro x0 s
  refine ⟨_, rfl, ?_⟩
  refine kept_run _ _ _ ?_
  intro z0
  exact kept_whenLive _ _ (fun z1 => kept_electionTimeout _)

theorem kept_execEndMessage : ∀ x0 x1 x2 s, ∃ u, execEndMessage x0 x1 x2 s = .next u ∧ Kept s u := by
  intro x0 x1 x2 s
  exact ⟨_, rfl, (kept_run _ _ _ (fun z0 => kept_zqRow _ _ _ _))⟩

theorem kept_execEngControlRestart : ∀ x0 x1 x2 s, ∃ u, execEngControlRestart x0 x1 x2 s = .next u ∧ Kept s u := by
  intro x0 x1 x2 s
  exact ⟨_, rfl, (kept_run _ _ _ (fun z0 => kept_ask _ _ _ _ _ _))⟩

theorem kept_execEngControlStart : ∀ x0 x1 x2 s, ∃ u, execEngControlStart x0 x1 x2 s = .next u ∧ Kept s u := by
  intro x0 x1 x2 s
  exact ⟨_, rfl, (kept_run _ _ _ (fun z0 => kept_ask _ _ _ _ _ _))⟩

theorem kept_execEngControlStop : ∀ x0 x1 x2 s, ∃ u, execEngControlStop x0 x1 x2 s = .next u ∧ Kept s u := by
  intro x0 x1 x2 s
  exact ⟨_, rfl, (kept_run _ _ _ (fun z0 => kept_ask _ _ _ _ _ _))⟩

theorem kept_execEngDoorbell : ∀ x0 x1 x2 x3 s, ∃ u, execEngDoorbell x0 x1 x2 x3 s = .next u ∧ Kept s u := by
  intro x0 x1 x2 x3 s
  exact ⟨_, rfl, (kept_run _ _ _ (fun z0 => kept_ask _ _ _ _ _ _))⟩

theorem kept_execEngDoorbellRx : ∀ x0 x1 s, ∃ u, execEngDoorbellRx x0 x1 s = .next u ∧ Kept s u := by
  intro x0 x1 s
  exact ⟨_, rfl, (kept_run _ _ _ (fun z0 => kept_ask _ _ _ _ _ _))⟩

theorem kept_execEngLoadAbort : ∀ x0 x1 s, ∃ u, execEngLoadAbort x0 x1 s = .next u ∧ Kept s u := by
  intro x0 x1 s
  exact ⟨_, rfl, (kept_run _ _ _ (fun z0 => kept_ask _ _ _ _ _ _))⟩

theorem kept_execEngLoadBegin : ∀ x0 x1 x2 x3 s, ∃ u, execEngLoadBegin x0 x1 x2 x3 s = .next u ∧ Kept s u := by
  intro x0 x1 x2 x3 s
  exact ⟨_, rfl, (kept_run _ _ _ (fun z0 => kept_ask _ _ _ _ _ _))⟩

theorem kept_execEngLoadCommit : ∀ x0 x1 s, ∃ u, execEngLoadCommit x0 x1 s = .next u ∧ Kept s u := by
  intro x0 x1 s
  exact ⟨_, rfl, (kept_run _ _ _ (fun z0 => kept_ask _ _ _ _ _ _))⟩

theorem kept_execEngLoadCommitDone : ∀ x0 s, ∃ u, execEngLoadCommitDone x0 s = .next u ∧ Kept s u := by
  intro x0 s
  refine ⟨_, rfl, ?_⟩
  refine kept_run _ _ _ ?_
  intro z0
  exact kept_whenLive _ _ (fun z1 => kept_loadDoneRow _)

theorem kept_execEngLoadData : ∀ x0 x1 x2 x3 s, ∃ u, execEngLoadData x0 x1 x2 x3 s = .next u ∧ Kept s u := by
  intro x0 x1 x2 x3 s
  exact ⟨_, rfl, (kept_run _ _ _ (fun z0 => kept_ask _ _ _ _ _ _))⟩

theorem kept_execEngLoadTimeout : ∀ x0 s, ∃ u, execEngLoadTimeout x0 s = .next u ∧ Kept s u := by
  intro x0 s
  refine ⟨_, rfl, ?_⟩
  refine kept_run _ _ _ ?_
  intro z0
  exact kept_whenLive _ _ (fun z1 => kept_loadTimeout _)

theorem kept_execEngObjWriteRx : ∀ x0 x1 s, ∃ u, execEngObjWriteRx x0 x1 s = .next u ∧ Kept s u := by
  intro x0 x1 s
  exact ⟨_, rfl, (kept_run _ _ _ (fun z0 => kept_ask _ _ _ _ _ _))⟩

theorem kept_execEngineCharWrite : ∀ x0 x1 x2 x3 x4 s, ∃ u, execEngineCharWrite x0 x1 x2 x3 x4 s = .next u ∧ Kept s u := by
  intro x0 x1 x2 x3 x4 s
  refine ⟨_, rfl, ?_⟩
  refine kept_run _ _ _ ?_
  intro z0
  exact kept_whenLive _ _ (fun z1 => kept_attWrite _ _ _ _ _)

theorem kept_execEngineDictComplete : ∀ x0 x1 s, ∃ u, execEngineDictComplete x0 x1 s = .next u ∧ Kept s u := by
  intro x0 x1 s
  refine ⟨_, rfl, ?_⟩
  refine kept_run _ _ _ ?_
  intro z0
  exact kept_whenLive _ _ (fun z1 => kept_dictComplete _ _)

theorem kept_execEngineEventWake : ∀ x0 x1 s, ∃ u, execEngineEventWake x0 x1 s = .next u ∧ Kept s u := by
  intro x0 x1 s
  refine ⟨_, rfl, ?_⟩
  refine kept_run _ _ _ ?_
  intro z0
  exact kept_whenLive _ _ (fun z1 => kept_eventWake _ _)

theorem kept_execEngineWatchdog : ∀ x0 x1 s, ∃ u, execEngineWatchdog x0 x1 s = .next u ∧ Kept s u := by
  intro x0 x1 s
  refine ⟨_, rfl, ?_⟩
  refine kept_run _ _ _ ?_
  intro z0
  exact kept_whenLive _ _ (fun z1 => kept_engWatchdog _ _)

theorem kept_execEnrolCode : ∀ x0 x1 x2 s, ∃ u, execEnrolCode x0 x1 x2 s = .next u ∧ Kept s u := by
  intro x0 x1 x2 s
  exact ⟨_, rfl, (kept_run _ _ _ (fun z0 => kept_zqRow _ _ _ _))⟩

theorem kept_execEnrolRequest : ∀ x0 x1 x2 s, ∃ u, execEnrolRequest x0 x1 x2 s = .next u ∧ Kept s u := by
  intro x0 x1 x2 s
  exact ⟨_, rfl, (kept_run _ _ _ (fun z0 => kept_zqRow _ _ _ _))⟩

theorem kept_execEntryTimeout : ∀ x0 s, ∃ u, execEntryTimeout x0 s = .next u ∧ Kept s u := by
  intro x0 s
  exact ⟨_, rfl, (kept_run _ _ _ (fun z0 => kept_entryTimeout _))⟩

theorem kept_execEvaluationDone : ∀ x0 s, ∃ u, execEvaluationDone x0 s = .next u ∧ Kept s u := by
  intro x0 s
  refine ⟨_, rfl, ?_⟩
  refine kept_run _ _ _ ?_
  intro z0
  exact kept_whenLive _ _ (fun z1 => kept_evalDone _)

theorem kept_execEvidenceItem : ∀ x0 x1 x2 s, ∃ u, execEvidenceItem x0 x1 x2 s = .next u ∧ Kept s u := by
  intro x0 x1 x2 s
  refine ⟨_, rfl, ?_⟩
  refine kept_run _ _ _ ?_
  intro z0
  exact kept_whenLive _ _ (fun z1 => Kept.ite (kept_tsAdmit _ _ _) (Kept.refl _))

theorem kept_execFieldLoss : ∀ x0 x1 s, ∃ u, execFieldLoss x0 x1 s = .next u ∧ Kept s u := by
  intro x0 x1 s
  exact ⟨_, rfl, (kept_run _ _ _ (fun z0 => kept_fieldLoss _ _))⟩

theorem kept_execFieldPowerUp : ∀ x0 x1 s, ∃ u, execFieldPowerUp x0 x1 s = .next u ∧ Kept s u := by
  intro x0 x1 s
  exact ⟨_, rfl, (kept_run _ _ _ (fun z0 => kept_fieldUp _ _))⟩

theorem kept_execFloorPeriod : ∀ x0 s, ∃ u, execFloorPeriod x0 s = .next u ∧ Kept s u := by
  intro x0 s
  refine ⟨_, rfl, ?_⟩
  refine kept_run _ _ _ ?_
  intro z0
  exact kept_whenLive _ _ (fun z1 => kept_floorPeriod _)

theorem kept_execFollowUp : ∀ x0 x1 x2 x3 s, ∃ u, execFollowUp x0 x1 x2 x3 s = .next u ∧ Kept s u := by
  intro x0 x1 x2 x3 s
  refine ⟨_, rfl, ?_⟩
  refine kept_run _ _ _ ?_
  intro z0
  exact kept_t1sRow _ _ (fun z1 => kept_followUp _ _ _ _)

theorem kept_execForcedCalibrationStart : ∀ x0 x1 s, ∃ u, execForcedCalibrationStart x0 x1 s = .next u ∧ Kept s u := by
  intro x0 x1 s
  refine ⟨_, rfl, ?_⟩
  refine kept_run _ _ _ ?_
  intro z0
  exact kept_whenLive _ _ (fun z1 => kept_forcedCal _ _)

theorem kept_execGapCalibrationStart : ∀ x0 x1 s, ∃ u, execGapCalibrationStart x0 x1 s = .next u ∧ Kept s u := by
  intro x0 x1 s
  refine ⟨_, rfl, ?_⟩
  refine kept_run _ _ _ ?_
  intro z0
  exact kept_whenLive _ _ (fun z1 => kept_gapCal _ _)

theorem kept_execGateFaultClear : ∀ x0 x1 x2 s, ∃ u, execGateFaultClear x0 x1 x2 s = .next u ∧ Kept s u := by
  intro x0 x1 x2 s
  exact ⟨_, rfl, (kept_run _ _ _ (fun z0 => kept_ask _ _ _ _ _ _))⟩

theorem kept_execGateLock : ∀ x0 x1 s, ∃ u, execGateLock x0 x1 s = .next u ∧ Kept s u := by
  intro x0 x1 s
  exact ⟨_, rfl, (kept_run _ _ _ (fun z0 => kept_ask _ _ _ _ _ _))⟩

theorem kept_execGateQuench : ∀ x0 x1 x2 s, ∃ u, execGateQuench x0 x1 x2 s = .next u ∧ Kept s u := by
  intro x0 x1 x2 s
  exact ⟨_, rfl, (kept_run _ _ _ (fun z0 => kept_ask _ _ _ _ _ _))⟩

theorem kept_execGateRbSample : ∀ x0 x1 x2 s, ∃ u, execGateRbSample x0 x1 x2 s = .next u ∧ Kept s u := by
  intro x0 x1 x2 s
  refine ⟨_, rfl, ?_⟩
  refine kept_run _ _ _ ?_
  intro z0
  exact kept_whenUp _ _ (fun z1 => kept_rbSample _ _ _)

theorem kept_execGetInfo : ∀ x0 s, ∃ u, execGetInfo x0 s = .next u ∧ Kept s u := by
  intro x0 s
  exact ⟨_, rfl, (kept_run _ _ _ (fun z0 => kept_tagGetInfo _))⟩

theorem kept_execGetRecordInfo : ∀ x0 x1 s, ∃ u, execGetRecordInfo x0 x1 s = .next u ∧ Kept s u := by
  intro x0 x1 s
  exact ⟨_, rfl, (kept_run _ _ _ (fun z0 => kept_tagGetRecordInfo _ _))⟩

theorem kept_execGpioEdge : ∀ x0 x1 x2 s, ∃ u, execGpioEdge x0 x1 x2 s = .next u ∧ Kept s u := by
  intro x0 x1 x2 s
  refine ⟨_, rfl, ?_⟩
  refine kept_run _ _ _ ?_
  intro z0
  exact kept_whenUp _ _ (fun z1 => kept_gpioEdgeRow _ _ _)

theorem kept_execGpioHoldExpiry : ∀ x0 x1 s, ∃ u, execGpioHoldExpiry x0 x1 s = .next u ∧ Kept s u := by
  intro x0 x1 s
  exact ⟨_, rfl, (kept_run _ _ _ (fun z0 => kept_gpioHoldEnd _ _))⟩

theorem kept_execHeartbeat : ∀ x0 x1 x2 s, ∃ u, execHeartbeat x0 x1 x2 s = .next u ∧ Kept s u := by
  intro x0 x1 x2 s
  refine ⟨_, rfl, ?_⟩
  refine kept_run _ _ _ ?_
  intro z0
  exact kept_segRow _ _ _ _ _ (fun z1 => kept_heartbeatIn _ _ _)

theorem kept_execHeartbeatPeriod : ∀ x0 x1 s, ∃ u, execHeartbeatPeriod x0 x1 s = .next u ∧ Kept s u := by
  intro x0 x1 s
  refine ⟨_, rfl, ?_⟩
  refine kept_run _ _ _ ?_
  intro z0
  exact kept_whenLive _ _ (fun z1 => kept_heartbeatPeriod _ _)

theorem kept_execHlta : ∀ x0 s, ∃ u, execHlta x0 s = .next u ∧ Kept s u := by
  intro x0 s
  exact ⟨_, rfl, (kept_run _ _ _ (fun z0 => kept_tagHlta _))⟩

theorem kept_execHoldoverLimit : ∀ x0 s, ∃ u, execHoldoverLimit x0 s = .next u ∧ Kept s u := by
  intro x0 s
  refine ⟨_, rfl, ?_⟩
  refine kept_run _ _ _ ?_
  intro z0
  exact kept_whenLive _ _ (fun z1 => kept_holdoverLimit _)

theorem kept_execIgnInFall : ∀ x0 s, ∃ u, execIgnInFall x0 s = .next u ∧ Kept s u := by
  intro x0 s
  refine ⟨_, rfl, ?_⟩
  refine kept_run _ _ _ ?_
  intro z0
  refine kept_whenVaon _ _ ?_
  intro z1
  exact kept_ignEdge _ _ (fun z2 => kept_ignFall _)

theorem kept_execIgnInRise : ∀ x0 s, ∃ u, execIgnInRise x0 s = .next u ∧ Kept s u := by
  intro x0 s
  refine ⟨_, rfl, ?_⟩
  refine kept_run _ _ _ ?_
  intro z0
  refine kept_whenVaon _ _ ?_
  intro z1
  exact kept_ignEdge _ _ (fun z2 => kept_startAck _ _)

theorem kept_execIllegalOp : ∀ x0 x1 s, ∃ u, execIllegalOp x0 x1 s = .next u ∧ Kept s u := by
  intro x0 x1 s
  exact ⟨_, rfl, (kept_engRun _ _ _ _ (fun z0 => kept_illegalOp _ _))⟩

theorem kept_execImmoAck : ∀ x0 x1 s, ∃ u, execImmoAck x0 x1 s = .next u ∧ Kept s u := by
  intro x0 x1 s
  exact ⟨_, rfl, (kept_run _ _ _ (fun z0 => Kept.ite (Kept.refl _) (kept_immoRow _ _)))⟩

theorem kept_execImmoChallenge : ∀ x0 x1 s, ∃ u, execImmoChallenge x0 x1 s = .next u ∧ Kept s u := by
  intro x0 x1 s
  exact ⟨_, rfl, (kept_run _ _ _ (fun z0 => Kept.ite (kept_immoRow _ _) (Kept.refl _)))⟩

theorem kept_execImmoReleasePeriod : ∀ x0 s, ∃ u, execImmoReleasePeriod x0 s = .next u ∧ Kept s u := by
  intro x0 s
  refine ⟨_, rfl, ?_⟩
  refine kept_run _ _ _ ?_
  intro z0
  exact kept_whenLive _ _ (fun z1 => kept_immoPeriod _)

theorem kept_execImmoWaitExpiry : ∀ x0 s, ∃ u, execImmoWaitExpiry x0 s = .next u ∧ Kept s u := by
  intro x0 s
  refine ⟨_, rfl, ?_⟩
  refine kept_run _ _ _ ?_
  intro z0
  exact kept_whenLive _ _ (fun z1 => kept_immoWaitEnd _)

theorem kept_execIndicationConfirm : ∀ x0 x1 s, ∃ u, execIndicationConfirm x0 x1 s = .next u ∧ Kept s u := by
  intro x0 x1 s
  refine ⟨_, rfl, ?_⟩
  refine kept_run _ _ _ ?_
  intro z0
  exact kept_whenLive _ _ (fun z1 => kept_indConfirm _ _)

theorem kept_execJoin : ∀ x0 x1 s, ∃ u, execJoin x0 x1 s = .next u ∧ Kept s u := by
  intro x0 x1 s
  refine ⟨_, rfl, ?_⟩
  refine kept_run _ _ _ ?_
  intro z0
  exact kept_segRow _ _ _ _ _ (fun z1 => kept_joinIn _ _)

theorem kept_execJoinAck : ∀ x0 x1 s, ∃ u, execJoinAck x0 x1 s = .next u ∧ Kept s u := by
  intro x0 x1 s
  refine ⟨_, rfl, ?_⟩
  refine kept_run _ _ _ ?_
  intro z0
  exact kept_segRow _ _ _ _ _ (fun z1 => kept_joinAck _ _)

theorem kept_execJoinRepeat : ∀ x0 s, ∃ u, execJoinRepeat x0 s = .next u ∧ Kept s u := by
  intro x0 s
  refine ⟨_, rfl, ?_⟩
  refine kept_run _ _ _ ?_
  intro z0
  exact kept_whenLive _ _ (fun z1 => kept_joinRepeat _)

theorem kept_execJournalRecordDone : ∀ x0 x1 s, ∃ u, execJournalRecordDone x0 x1 s = .next u ∧ Kept s u := by
  intro x0 x1 s
  refine ⟨_, rfl, ?_⟩
  refine kept_run _ _ _ ?_
  intro z0
  exact kept_whenLive _ _ (fun z1 => kept_journalDone _ _)

theorem kept_execJr : ∀ x0 x1 s, ∃ u, execJr x0 x1 s = .next u ∧ Kept s u := by
  intro x0 x1 s
  refine ⟨_, rfl, ?_⟩
  refine kept_engRun _ _ _ _ ?_
  intro z0
  exact kept_engStep _ _ _ _ (fun z1 => opJr_wf _)

theorem kept_execKeepReadyExpiry : ∀ x0 x1 s, ∃ u, execKeepReadyExpiry x0 x1 s = .next u ∧ Kept s u := by
  intro x0 x1 s
  refine ⟨_, rfl, ?_⟩
  refine kept_run _ _ _ ?_
  intro z0
  exact kept_whenLive _ _ (fun z1 => kept_keepReadyEnd _ _)

theorem kept_execKeyDeliveryAck : ∀ x0 x1 s, ∃ u, execKeyDeliveryAck x0 x1 s = .next u ∧ Kept s u := by
  intro x0 x1 s
  refine ⟨_, rfl, ?_⟩
  refine kept_run _ _ _ ?_
  intro z0
  exact kept_whenLive _ _ (fun z1 => kept_keyDelivered _ _)

theorem kept_execKeyDerive : ∀ x0 x1 x2 s, ∃ u, execKeyDerive x0 x1 x2 s = .next u ∧ Kept s u := by
  intro x0 x1 x2 s
  exact ⟨_, rfl, (kept_run _ _ _ (fun z0 => kept_ask _ _ _ _ _ _))⟩

theorem kept_execKeyErase : ∀ x0 x1 x2 s, ∃ u, execKeyErase x0 x1 x2 s = .next u ∧ Kept s u := by
  intro x0 x1 x2 s
  exact ⟨_, rfl, (kept_run _ _ _ (fun z0 => kept_ask _ _ _ _ _ _))⟩

theorem kept_execKeyExport : ∀ x0 x1 x2 s, ∃ u, execKeyExport x0 x1 x2 s = .next u ∧ Kept s u := by
  intro x0 x1 x2 s
  exact ⟨_, rfl, (kept_run _ _ _ (fun z0 => kept_ask _ _ _ _ _ _))⟩

theorem kept_execKeyGenerate : ∀ x0 x1 x2 s, ∃ u, execKeyGenerate x0 x1 x2 s = .next u ∧ Kept s u := by
  intro x0 x1 x2 s
  exact ⟨_, rfl, (kept_run _ _ _ (fun z0 => kept_ask _ _ _ _ _ _))⟩

theorem kept_execKeyImport : ∀ x0 x1 x2 s, ∃ u, execKeyImport x0 x1 x2 s = .next u ∧ Kept s u := by
  intro x0 x1 x2 s
  exact ⟨_, rfl, (kept_run _ _ _ (fun z0 => kept_ask _ _ _ _ _ _))⟩

theorem kept_execKeyMirror : ∀ x0 x1 x2 s, ∃ u, execKeyMirror x0 x1 x2 s = .next u ∧ Kept s u := by
  intro x0 x1 x2 s
  exact ⟨_, rfl, (kept_run _ _ _ (fun z0 => Kept.ite (Kept.refl _) (kept_segRow _ _ _ _ _ (fun z1 => kept_keyMirrorIn _ _))))⟩

theorem kept_execKeyMirrorAck : ∀ x0 x1 x2 s, ∃ u, execKeyMirrorAck x0 x1 x2 s = .next u ∧ Kept s u := by
  intro x0 x1 x2 s
  exact ⟨_, rfl, (kept_run _ _ _ (fun z0 => Kept.ite (kept_segRow _ _ _ _ _ (fun z1 => kept_keyMirrorIn _ _)) (Kept.refl _)))⟩

theorem kept_execKeyMirrorTimeout : ∀ x0 s, ∃ u, execKeyMirrorTimeout x0 s = .next u ∧ Kept s u := by
  intro x0 s
  refine ⟨_, rfl, ?_⟩
  refine kept_run _ _ _ ?_
  intro z0
  exact kept_whenLive _ _ (fun z1 => kept_mirrorTimeout _)

theorem kept_execKeyZeroize : ∀ x0 x1 x2 s, ∃ u, execKeyZeroize x0 x1 x2 s = .next u ∧ Kept s u := by
  intro x0 x1 x2 s
  exact ⟨_, rfl, (kept_run _ _ _ (fun z0 => kept_ask _ _ _ _ _ _))⟩

theorem kept_execKeyZeroizeAll : ∀ x0 x1 x2 s, ∃ u, execKeyZeroizeAll x0 x1 x2 s = .next u ∧ Kept s u := by
  intro x0 x1 x2 s
  exact ⟨_, rfl, (kept_run _ _ _ (fun z0 => kept_ask _ _ _ _ _ _))⟩

theorem kept_execLaunchTimeReached : ∀ x0 s, ∃ u, execLaunchTimeReached x0 s = .next u ∧ Kept s u := by
  intro x0 s
  refine ⟨_, rfl, ?_⟩
  refine kept_run _ _ _ ?_
  intro z0
  exact kept_whenLive _ _ (fun z1 => kept_launchReached _)

theorem kept_execLdb : ∀ x0 x1 s, ∃ u, execLdb x0 x1 s = .next u ∧ Kept s u := by
  intro x0 x1 s
  refine ⟨_, rfl, ?_⟩
  refine kept_engRun _ _ _ _ ?_
  intro z0
  exact kept_engStep _ _ _ _ (fun z1 => opLoad_wf _ _ _ fun _ => rfl)

theorem kept_execLdh : ∀ x0 x1 s, ∃ u, execLdh x0 x1 s = .next u ∧ Kept s u := by
  intro x0 x1 s
  refine ⟨_, rfl, ?_⟩
  refine kept_engRun _ _ _ _ ?_
  intro z0
  exact kept_engStep _ _ _ _ (fun z1 => opLoad_wf _ _ _ fun _ => rfl)

theorem kept_execLdi : ∀ x0 x1 s, ∃ u, execLdi x0 x1 s = .next u ∧ Kept s u := by
  intro x0 x1 s
  refine ⟨_, rfl, ?_⟩
  refine kept_engRun _ _ _ _ ?_
  intro z0
  exact kept_engStep _ _ _ _ (fun z1 => opSet_wf _ _)

theorem kept_execLdo : ∀ x0 x1 s, ∃ u, execLdo x0 x1 s = .next u ∧ Kept s u := by
  intro x0 x1 s
  exact ⟨_, rfl, (kept_engRun _ _ _ _ (fun z0 => kept_engDict _ _ _ _))⟩

theorem kept_execLdoReadRecord : ∀ x0 x1 s, ∃ u, execLdoReadRecord x0 x1 s = .next u ∧ Kept s u := by
  intro x0 x1 s
  exact ⟨_, rfl, (kept_engRun _ _ _ _ (fun z0 => kept_engDict _ _ _ _))⟩

theorem kept_execLdw : ∀ x0 x1 s, ∃ u, execLdw x0 x1 s = .next u ∧ Kept s u := by
  intro x0 x1 s
  refine ⟨_, rfl, ?_⟩
  refine kept_engRun _ _ _ _ ?_
  intro z0
  exact kept_engStep _ _ _ _ (fun z1 => opLoad_wf _ _ _ fun _ => rfl)

theorem kept_execLdwp : ∀ x0 x1 s, ∃ u, execLdwp x0 x1 s = .next u ∧ Kept s u := by
  intro x0 x1 s
  refine ⟨_, rfl, ?_⟩
  refine kept_engRun _ _ _ _ ?_
  intro z0
  exact kept_engStep _ _ _ _ (fun z1 => opLoad_wf _ _ _ fun _ => rfl)

theorem kept_execLearnWindowExpiry : ∀ x0 s, ∃ u, execLearnWindowExpiry x0 s = .next u ∧ Kept s u := by
  intro x0 s
  exact ⟨_, rfl, (kept_run _ _ _ (fun z0 => kept_learnExpiry _))⟩

theorem kept_execLfCarrierReturn : ∀ x0 s, ∃ u, execLfCarrierReturn x0 s = .next u ∧ Kept s u := by
  intro x0 s
  refine ⟨_, rfl, ?_⟩
  refine kept_run _ _ _ ?_
  intro z0
  exact kept_whenLive _ _ (fun z1 => kept_lfReturn _)

theorem kept_execLfDiagRun : ∀ x0 x1 x2 x3 x4 x5 x6 x7 x8 s, ∃ u, execLfDiagRun x0 x1 x2 x3 x4 x5 x6 x7 x8 s = .next u ∧ Kept s u := by
  intro x0 x1 x2 x3 x4 x5 x6 x7 x8 s
  exact ⟨_, rfl, (kept_run _ _ _ (fun z0 => kept_lfDiagRow _ _ _ _ _ _ _ _ _))⟩

theorem kept_execLfDriveMeasure : ∀ x0 x1 x2 x3 x4 s, ∃ u, execLfDriveMeasure x0 x1 x2 x3 x4 s = .next u ∧ Kept s u := by
  intro x0 x1 x2 x3 x4 s
  refine ⟨_, rfl, ?_⟩
  refine kept_run _ _ _ ?_
  intro z0
  exact kept_whenLive _ _ (fun z1 => kept_lfMeasure _ _ _ _ _)

theorem kept_execLfExchangeStart : ∀ x0 x1 s, ∃ u, execLfExchangeStart x0 x1 s = .next u ∧ Kept s u := by
  intro x0 x1 s
  refine ⟨_, rfl, ?_⟩
  refine kept_run _ _ _ ?_
  intro z0
  exact kept_whenLive _ _ (fun z1 => kept_lfStart _ _)

theorem kept_execLfNoSync : ∀ x0 s, ∃ u, execLfNoSync x0 s = .next u ∧ Kept s u := by
  intro x0 s
  refine ⟨_, rfl, ?_⟩
  refine kept_run _ _ _ ?_
  intro z0
  exact kept_whenLive _ _ (fun z1 => kept_lfNoSync _)

theorem kept_execLfOvercurrentCut : ∀ x0 s, ∃ u, execLfOvercurrentCut x0 s = .next u ∧ Kept s u := by
  intro x0 s
  exact ⟨_, rfl, (kept_run _ _ _ (fun z0 => kept_lfOver15 _))⟩

theorem kept_execLfRequest : ∀ x0 x1 s, ∃ u, execLfRequest x0 x1 s = .next u ∧ Kept s u := by
  intro x0 x1 s
  refine ⟨_, rfl, ?_⟩
  refine kept_run _ _ _ ?_
  intro z0
  exact kept_segRow _ _ _ _ _ (fun z1 => kept_lfRequestIn _ _)

theorem kept_execLimiterCut : ∀ x0 x1 x2 s, ∃ u, execLimiterCut x0 x1 x2 s = .next u ∧ Kept s u := by
  intro x0 x1 x2 s
  exact ⟨_, rfl, (kept_run _ _ _ (fun z0 => kept_limiterCut _ _ _))⟩

theorem kept_execLimiterSample : ∀ x0 x1 x2 s, ∃ u, execLimiterSample x0 x1 x2 s = .next u ∧ Kept s u := by
  intro x0 x1 x2 s
  exact ⟨_, rfl, (kept_run _ _ _ (fun z0 => kept_limiterSample _ _ _))⟩

theorem kept_execLimiterStageFall : ∀ x0 s, ∃ u, execLimiterStageFall x0 s = .next u ∧ Kept s u := by
  intro x0 s
  exact ⟨_, rfl, (kept_run _ _ _ (fun z0 => kept_stageFall _))⟩

theorem kept_execLlEncReq : ∀ x0 x1 s, ∃ u, execLlEncReq x0 x1 s = .next u ∧ Kept s u := by
  intro x0 x1 s
  refine ⟨_, rfl, ?_⟩
  refine kept_run _ _ _ ?_
  intro z0
  exact kept_whenLive _ _ (fun z1 => kept_encRefuse _ _)

theorem kept_execLockoutEnd : ∀ x0 s, ∃ u, execLockoutEnd x0 s = .next u ∧ Kept s u := by
  intro x0 s
  refine ⟨_, rfl, ?_⟩
  refine kept_run _ _ _ ?_
  intro z0
  exact kept_whenVaon _ _ (fun z1 => kept_lockEnd _)

theorem kept_execLockoutPersist : ∀ x0 s, ∃ u, execLockoutPersist x0 s = .next u ∧ Kept s u := by
  intro x0 s
  refine ⟨_, rfl, ?_⟩
  refine kept_run _ _ _ ?_
  intro z0
  exact kept_whenVaon _ _ (fun z1 => kept_lockStore _)

theorem kept_execLogHeadWrite : ∀ x0 s, ∃ u, execLogHeadWrite x0 s = .next u ∧ Kept s u := by
  intro x0 s
  refine ⟨_, rfl, ?_⟩
  refine kept_run _ _ _ ?_
  intro z0
  exact kept_whenLive _ _ (fun z1 => kept_headWrite _)

theorem kept_execLogSectorWrite : ∀ x0 x1 s, ∃ u, execLogSectorWrite x0 x1 s = .next u ∧ Kept s u := by
  intro x0 x1 s
  refine ⟨_, rfl, ?_⟩
  refine kept_run _ _ _ ?_
  intro z0
  exact kept_whenLive _ _ (fun z1 => kept_sectorWrite _ _)

theorem kept_execLoginHello : ∀ x0 x1 x2 x3 s, ∃ u, execLoginHello x0 x1 x2 x3 s = .next u ∧ Kept s u := by
  intro x0 x1 x2 x3 s
  exact ⟨_, rfl, (kept_run _ _ _ (fun z0 => kept_loginRow _ _ _ _ _))⟩

theorem kept_execLoginProof : ∀ x0 x1 x2 x3 s, ∃ u, execLoginProof x0 x1 x2 x3 s = .next u ∧ Kept s u := by
  intro x0 x1 x2 x3 s
  exact ⟨_, rfl, (kept_run _ _ _ (fun z0 => kept_loginRow _ _ _ _ _))⟩

theorem kept_execLoginProofTimeout : ∀ x0 x1 s, ∃ u, execLoginProofTimeout x0 x1 s = .next u ∧ Kept s u := by
  intro x0 x1 s
  exact ⟨_, rfl, (kept_run _ _ _ (fun z0 => kept_loginTimeout _ _))⟩

theorem kept_execLogout : ∀ x0 x1 x2 s, ∃ u, execLogout x0 x1 x2 s = .next u ∧ Kept s u := by
  intro x0 x1 x2 s
  exact ⟨_, rfl, (kept_run _ _ _ (fun z0 => kept_logoutRow _ _ _))⟩

theorem kept_execLui : ∀ x0 x1 s, ∃ u, execLui x0 x1 s = .next u ∧ Kept s u := by
  intro x0 x1 s
  refine ⟨_, rfl, ?_⟩
  refine kept_engRun _ _ _ _ ?_
  intro z0
  exact kept_engStep _ _ _ _ (fun z1 => opSet_wf _ _)

theorem kept_execMfs : ∀ x0 x1 s, ∃ u, execMfs x0 x1 s = .next u ∧ Kept s u := by
  intro x0 x1 s
  refine ⟨_, rfl, ?_⟩
  refine kept_engRun _ _ _ _ ?_
  intro z0
  exact kept_engStep _ _ _ _ (fun z1 => opMfs_wf _ _)

theorem kept_execMgrLoss : ∀ x0 s, ∃ u, execMgrLoss x0 s = .next u ∧ Kept s u := by
  intro x0 s
  refine ⟨_, rfl, ?_⟩
  refine kept_run _ _ _ ?_
  intro z0
  exact kept_whenLive _ _ (fun z1 => kept_mgrLoss _)

theorem kept_execMirror : ∀ x0 x1 x2 s, ∃ u, execMirror x0 x1 x2 s = .next u ∧ Kept s u := by
  intro x0 x1 x2 s
  refine ⟨_, rfl, ?_⟩
  refine kept_run _ _ _ ?_
  intro z0
  exact kept_segRow _ _ _ _ _ (fun z1 => kept_mirrorIn _ _)

theorem kept_execMov : ∀ x0 x1 s, ∃ u, execMov x0 x1 s = .next u ∧ Kept s u := by
  intro x0 x1 s
  refine ⟨_, rfl, ?_⟩
  refine kept_engRun _ _ _ _ ?_
  intro z0
  exact kept_engStep _ _ _ _ (fun z1 => opSet_wf _ _)

theorem kept_execMts : ∀ x0 x1 s, ∃ u, execMts x0 x1 s = .next u ∧ Kept s u := by
  intro x0 x1 s
  refine ⟨_, rfl, ?_⟩
  refine kept_engRun _ _ _ _ ?_
  intro z0
  exact kept_engStep _ _ _ _ (fun z1 => opMts_wf _ _)

theorem kept_execMtuExchange : ∀ x0 x1 x2 s, ∃ u, execMtuExchange x0 x1 x2 s = .next u ∧ Kept s u := by
  intro x0 x1 x2 s
  refine ⟨_, rfl, ?_⟩
  refine kept_run _ _ _ ?_
  intro z0
  exact kept_whenLive _ _ (fun z1 => kept_mtuExchange _ _ _)

theorem kept_execMul : ∀ x0 x1 s, ∃ u, execMul x0 x1 s = .next u ∧ Kept s u := by
  intro x0 x1 s
  refine ⟨_, rfl, ?_⟩
  refine kept_engRun _ _ _ _ ?_
  intro z0
  exact kept_engStep _ _ _ _ (fun z1 => opMul_wf _)

theorem kept_execMulResult : ∀ x0 x1 s, ∃ u, execMulResult x0 x1 s = .next u ∧ Kept s u := by
  intro x0 x1 s
  refine ⟨_, rfl, ?_⟩
  refine kept_run _ _ _ ?_
  intro z0
  exact kept_whenLive _ _ (fun z1 => kept_mulResult _ _)

theorem kept_execMuls : ∀ x0 x1 s, ∃ u, execMuls x0 x1 s = .next u ∧ Kept s u := by
  intro x0 x1 s
  refine ⟨_, rfl, ?_⟩
  refine kept_engRun _ _ _ _ ?_
  intro z0
  exact kept_engStep _ _ _ _ (fun z1 => opMul_wf _)

theorem kept_execNetCanRecover : ∀ x0 x1 x2 s, ∃ u, execNetCanRecover x0 x1 x2 s = .next u ∧ Kept s u := by
  intro x0 x1 x2 s
  exact ⟨_, rfl, (kept_run _ _ _ (fun z0 => kept_ask _ _ _ _ _ _))⟩

theorem kept_execNetCanRx : ∀ x0 x1 s, ∃ u, execNetCanRx x0 x1 s = .next u ∧ Kept s u := by
  intro x0 x1 s
  exact ⟨_, rfl, (kept_run _ _ _ (fun z0 => kept_ask _ _ _ _ _ _))⟩

theorem kept_execNetCanTx : ∀ x0 x1 x2 s, ∃ u, execNetCanTx x0 x1 x2 s = .next u ∧ Kept s u := by
  intro x0 x1 x2 s
  exact ⟨_, rfl, (kept_run _ _ _ (fun z0 => kept_ask _ _ _ _ _ _))⟩

theorem kept_execNetEthRx : ∀ x0 x1 s, ∃ u, execNetEthRx x0 x1 s = .next u ∧ Kept s u := by
  intro x0 x1 s
  exact ⟨_, rfl, (kept_run _ _ _ (fun z0 => kept_ask _ _ _ _ _ _))⟩

theorem kept_execNetEthTx : ∀ x0 x1 x2 s, ∃ u, execNetEthTx x0 x1 x2 s = .next u ∧ Kept s u := by
  intro x0 x1 x2 s
  exact ⟨_, rfl, (kept_run _ _ _ (fun z0 => kept_ask _ _ _ _ _ _))⟩

theorem kept_execNetTxDone : ∀ x0 x1 s, ∃ u, execNetTxDone x0 x1 s = .next u ∧ Kept s u := by
  intro x0 x1 s
  exact ⟨_, rfl, (kept_run _ _ _ (fun z0 => kept_ask _ _ _ _ _ _))⟩

theorem kept_execNfcActivation : ∀ x0 x1 x2 x3 x4 x5 s, ∃ u, execNfcActivation x0 x1 x2 x3 x4 x5 s = .next u ∧ Kept s u := by
  intro x0 x1 x2 x3 x4 x5 s
  refine ⟨_, rfl, ?_⟩
  refine kept_run _ _ _ ?_
  intro z0
  exact kept_whenLive _ _ (fun z1 => Kept.ite (kept_nfcStart _ _ _ _ _ _ _) (Kept.refl _))

theorem kept_execNfcCardFrame : ∀ x0 x1 x2 x3 s, ∃ u, execNfcCardFrame x0 x1 x2 x3 s = .next u ∧ Kept s u := by
  intro x0 x1 x2 x3 s
  refine ⟨_, rfl, ?_⟩
  refine kept_run _ _ _ ?_
  intro z0
  exact kept_whenLive _ _ (fun z1 => kept_nfcCard _ _ _ _)

theorem kept_execNfcExchangeMax : ∀ x0 x1 s, ∃ u, execNfcExchangeMax x0 x1 s = .next u ∧ Kept s u := by
  intro x0 x1 s
  refine ⟨_, rfl, ?_⟩
  refine kept_run _ _ _ ?_
  intro z0
  exact kept_whenLive _ _ (fun z1 => kept_nfcMax _ _)

theorem kept_execNfcFaultClear : ∀ x0 x1 x2 s, ∃ u, execNfcFaultClear x0 x1 x2 s = .next u ∧ Kept s u := by
  intro x0 x1 x2 s
  exact ⟨_, rfl, (kept_run _ _ _ (fun z0 => kept_ask _ _ _ _ _ _))⟩

theorem kept_execNfcIdleEnd : ∀ x0 x1 s, ∃ u, execNfcIdleEnd x0 x1 s = .next u ∧ Kept s u := by
  intro x0 x1 s
  refine ⟨_, rfl, ?_⟩
  refine kept_run _ _ _ ?_
  intro z0
  exact kept_whenLive _ _ (fun z1 => kept_nfcIdle _ _)

theorem kept_execNfcOvercurrentCut : ∀ x0 x1 s, ∃ u, execNfcOvercurrentCut x0 x1 s = .next u ∧ Kept s u := by
  intro x0 x1 s
  exact ⟨_, rfl, (kept_run _ _ _ (fun z0 => kept_nfcCut _ _))⟩

theorem kept_execNfcPing : ∀ x0 x1 x2 x3 x4 s, ∃ u, execNfcPing x0 x1 x2 x3 x4 s = .next u ∧ Kept s u := by
  intro x0 x1 x2 x3 x4 s
  refine ⟨_, rfl, ?_⟩
  refine kept_run _ _ _ ?_
  intro z0
  exact kept_pingStep _ _ _ (fun z1 => kept_nfcPing _ _ _ _ _)

theorem kept_execNfcRApdu : ∀ x0 x1 x2 s, ∃ u, execNfcRApdu x0 x1 x2 s = .next u ∧ Kept s u := by
  intro x0 x1 x2 s
  refine ⟨_, rfl, ?_⟩
  refine kept_run _ _ _ ?_
  intro z0
  exact kept_whenLive _ _ (fun z1 => kept_nfcRapdu _ _ _)

theorem kept_execNfcReactivate : ∀ x0 x1 x2 x3 x4 x5 s, ∃ u, execNfcReactivate x0 x1 x2 x3 x4 x5 s = .next u ∧ Kept s u := by
  intro x0 x1 x2 x3 x4 x5 s
  refine ⟨_, rfl, ?_⟩
  refine kept_run _ _ _ ?_
  intro z0
  exact kept_whenLive _ _ (fun z1 => Kept.ite (Kept.refl _) (kept_nfcStart _ _ _ _ _ _ _))

theorem kept_execNfcReserveAttempt : ∀ x0 x1 x2 x3 x4 x5 s, ∃ u, execNfcReserveAttempt x0 x1 x2 x3 x4 x5 s = .next u ∧ Kept s u := by
  intro x0 x1 x2 x3 x4 x5 s
  refine ⟨_, rfl, ?_⟩
  refine kept_run _ _ _ ?_
  intro z0
  exact kept_whenLive _ _ (fun z1 => kept_nfcStart _ _ _ _ _ _ _)

theorem kept_execNfcResponseTimeout : ∀ x0 x1 x2 s, ∃ u, execNfcResponseTimeout x0 x1 x2 s = .next u ∧ Kept s u := by
  intro x0 x1 x2 s
  refine ⟨_, rfl, ?_⟩
  refine kept_run _ _ _ ?_
  intro z0
  exact kept_whenLive _ _ (fun z1 => kept_nfcLost _ _ _)

theorem kept_execNfcWupRetry : ∀ x0 x1 s, ∃ u, execNfcWupRetry x0 x1 s = .next u ∧ Kept s u := by
  intro x0 x1 s
  refine ⟨_, rfl, ?_⟩
  refine kept_run _ _ _ ?_
  intro z0
  exact kept_whenLive _ _ (fun z1 => kept_nfcWup _ _)

theorem kept_execNoSessionLimit : ∀ x0 x1 s, ∃ u, execNoSessionLimit x0 x1 s = .next u ∧ Kept s u := by
  intro x0 x1 s
  refine ⟨_, rfl, ?_⟩
  refine kept_run _ _ _ ?_
  intro z0
  exact kept_whenLive _ _ (fun z1 => kept_noSessionLimit _ _)

theorem kept_execNop : ∀ x0 x1 s, ∃ u, execNop x0 x1 s = .next u ∧ Kept s u := by
  intro x0 x1 s
  refine ⟨_, rfl, ?_⟩
  refine kept_engRun _ _ _ _ ?_
  intro z0
  exact kept_engStep _ _ _ _ (fun z1 => opStop_wf)

theorem kept_execNotifyGapExpiry : ∀ x0 x1 x2 x3 s, ∃ u, execNotifyGapExpiry x0 x1 x2 x3 s = .next u ∧ Kept s u := by
  intro x0 x1 x2 x3 s
  refine ⟨_, rfl, ?_⟩
  refine kept_run _ _ _ ?_
  intro z0
  exact kept_whenLive _ _ (fun z1 => kept_gapExpiry _ _ _ _)

theorem kept_execNotifyPeriodic : ∀ x0 x1 x2 x3 s, ∃ u, execNotifyPeriodic x0 x1 x2 x3 s = .next u ∧ Kept s u := by
  intro x0 x1 x2 x3 s
  refine ⟨_, rfl, ?_⟩
  refine kept_run _ _ _ ?_
  intro z0
  exact kept_whenLive _ _ (fun z1 => kept_periodic _ _ _ _)

theorem kept_execOffDelayExpiry : ∀ x0 x1 s, ∃ u, execOffDelayExpiry x0 x1 s = .next u ∧ Kept s u := by
  intro x0 x1 s
  refine ⟨_, rfl, ?_⟩
  refine kept_run _ _ _ ?_
  intro z0
  exact kept_whenLive _ _ (fun z1 => kept_offDelayEnd _ _)

theorem kept_execOpportunityStart : ∀ x0 s, ∃ u, execOpportunityStart x0 s = .next u ∧ Kept s u := by
  intro x0 s
  refine ⟨_, rfl, ?_⟩
  refine kept_run _ _ _ ?_
  intro z0
  exact kept_whenLive _ _ (fun z1 => kept_opportunity _)

theorem kept_execOr : ∀ x0 x1 s, ∃ u, execOr x0 x1 s = .next u ∧ Kept s u := by
  intro x0 x1 s
  refine ⟨_, rfl, ?_⟩
  refine kept_engRun _ _ _ _ ?_
  intro z0
  exact kept_engStep _ _ _ _ (fun z1 => opSet_wf _ _)

theorem kept_execOri : ∀ x0 x1 s, ∃ u, execOri x0 x1 s = .next u ∧ Kept s u := by
  intro x0 x1 s
  refine ⟨_, rfl, ?_⟩
  refine kept_engRun _ _ _ _ ?_
  intro z0
  exact kept_engStep _ _ _ _ (fun z1 => opSet_wf _ _)

theorem kept_execPacketEnd : ∀ x0 x1 x2 s, ∃ u, execPacketEnd x0 x1 x2 s = .next u ∧ Kept s u := by
  intro x0 x1 x2 s
  refine ⟨_, rfl, ?_⟩
  refine kept_run _ _ _ ?_
  intro z0
  exact kept_whenLive _ _ (fun z1 => kept_packetEndRow _ _ _)

theorem kept_execPdelayInterval : ∀ x0 s, ∃ u, execPdelayInterval x0 s = .next u ∧ Kept s u := by
  intro x0 s
  refine ⟨_, rfl, ?_⟩
  refine kept_run _ _ _ ?_
  intro z0
  exact kept_whenLive _ _ (fun z1 => kept_pdelayInterval _)

theorem kept_execPdelayReq : ∀ x0 x1 x2 s, ∃ u, execPdelayReq x0 x1 x2 s = .next u ∧ Kept s u := by
  intro x0 x1 x2 s
  refine ⟨_, rfl, ?_⟩
  refine kept_run _ _ _ ?_
  intro z0
  exact kept_t1sRow _ _ (fun z1 => kept_pdelayReq _ _ _)

theorem kept_execPdelayResp : ∀ x0 x1 x2 x3 s, ∃ u, execPdelayResp x0 x1 x2 x3 s = .next u ∧ Kept s u := by
  intro x0 x1 x2 x3 s
  refine ⟨_, rfl, ?_⟩
  refine kept_run _ _ _ ?_
  intro z0
  exact kept_t1sRow _ _ (fun z1 => kept_pdelayResp _ _ _ _)

theorem kept_execPeerLoss : ∀ x0 x1 s, ∃ u, execPeerLoss x0 x1 s = .next u ∧ Kept s u := by
  intro x0 x1 s
  refine ⟨_, rfl, ?_⟩
  refine kept_run _ _ _ ?_
  intro z0
  exact kept_whenLive _ _ (fun z1 => kept_peerLoss _ _)

theorem kept_execPendingValueApply : ∀ x0 x1 x2 s, ∃ u, execPendingValueApply x0 x1 x2 s = .next u ∧ Kept s u := by
  intro x0 x1 x2 s
  refine ⟨_, rfl, ?_⟩
  refine kept_run _ _ _ ?_
  intro z0
  exact kept_whenLive _ _ (fun z1 => kept_pendApply _ _ _)

theorem kept_execPhyUpdate : ∀ x0 x1 x2 s, ∃ u, execPhyUpdate x0 x1 x2 s = .next u ∧ Kept s u := by
  intro x0 x1 x2 s
  refine ⟨_, rfl, ?_⟩
  refine kept_run _ _ _ ?_
  intro z0
  exact kept_whenLive _ _ (fun z1 => kept_phyUpdate _ _ _)

theorem kept_execPlcaBeaconLoss : ∀ x0 s, ∃ u, execPlcaBeaconLoss x0 s = .next u ∧ Kept s u := by
  intro x0 s
  refine ⟨_, rfl, ?_⟩
  refine kept_run _ _ _ ?_
  intro z0
  exact kept_whenLive _ _ (fun z1 => kept_beaconLoss _)

theorem kept_execPlcaBeaconReturn : ∀ x0 s, ∃ u, execPlcaBeaconReturn x0 s = .next u ∧ Kept s u := by
  intro x0 s
  refine ⟨_, rfl, ?_⟩
  refine kept_run _ _ _ ?_
  intro z0
  exact kept_whenLive _ _ (fun z1 => kept_beacon _)

theorem kept_execPllLock : ∀ x0 s, ∃ u, execPllLock x0 s = .next u ∧ Kept s u := by
  intro x0 s
  exact ⟨_, rfl, (kept_run _ _ _ (fun z0 => kept_pllLock _))⟩

theorem kept_execPllLockLoss : ∀ x0 s, ∃ u, execPllLockLoss x0 s = .next u ∧ Kept s u := by
  intro x0 s
  exact ⟨_, rfl, (kept_run _ _ _ (fun z0 => kept_pllLost _))⟩

theorem kept_execPllRelockTimeout : ∀ x0 s, ∃ u, execPllRelockTimeout x0 s = .next u ∧ Kept s u := by
  intro x0 s
  exact ⟨_, rfl, (kept_run _ _ _ (fun z0 => kept_relockTimeout _))⟩

theorem kept_execPlog : ∀ x0 x1 s, ∃ u, execPlog x0 x1 s = .next u ∧ Kept s u := by
  intro x0 x1 s
  refine ⟨_, rfl, ?_⟩
  refine kept_engRun _ _ _ _ ?_
  intro z0
  exact kept_engStep _ _ _ _ (fun z1 => opPred_wf _ _)

theorem kept_execPps : ∀ x0 s, ∃ u, execPps x0 s = .next u ∧ Kept s u := by
  intro x0 s
  refine ⟨_, rfl, ?_⟩
  refine kept_run _ _ _ ?_
  intro z0
  exact kept_whenLive _ _ (fun z1 => kept_ppsTick _)

theorem kept_execPpsRequest : ∀ x0 x1 s, ∃ u, execPpsRequest x0 x1 s = .next u ∧ Kept s u := by
  intro x0 x1 s
  exact ⟨_, rfl, (kept_run _ _ _ (fun z0 => kept_tagPps _ _))⟩

theorem kept_execPpsWidthEnd : ∀ x0 s, ∃ u, execPpsWidthEnd x0 s = .next u ∧ Kept s u := by
  intro x0 s
  refine ⟨_, rfl, ?_⟩
  refine kept_run _ _ _ ?_
  intro z0
  exact kept_whenLive _ _ (fun z1 => kept_ppsEnd _)

theorem kept_execPresence : ∀ x0 x1 s, ∃ u, execPresence x0 x1 s = .next u ∧ Kept s u := by
  intro x0 x1 s
  refine ⟨_, rfl, ?_⟩
  refine kept_run _ _ _ ?_
  intro z0
  exact kept_segRow _ _ _ _ _ (fun z1 => kept_presenceRx _ _)

theorem kept_execPresencePeriod : ∀ x0 s, ∃ u, execPresencePeriod x0 s = .next u ∧ Kept s u := by
  intro x0 s
  refine ⟨_, rfl, ?_⟩
  refine kept_run _ _ _ ?_
  intro z0
  exact kept_whenLive _ _ (fun z1 => kept_presencePeriod _)

theorem kept_execPrompt : ∀ x0 x1 s, ∃ u, execPrompt x0 x1 s = .next u ∧ Kept s u := by
  intro x0 x1 s
  refine ⟨_, rfl, ?_⟩
  refine kept_run _ _ _ ?_
  intro z0
  exact kept_whenLive _ _ (fun z1 => kept_blePrompt _ _)

theorem kept_execPulseEnd : ∀ x0 x1 x2 s, ∃ u, execPulseEnd x0 x1 x2 s = .next u ∧ Kept s u := by
  intro x0 x1 x2 s
  exact ⟨_, rfl, (kept_run _ _ _ (fun z0 => kept_pulseEnd _ _ _))⟩

theorem kept_execPwrShutdown : ∀ x0 x1 x2 s, ∃ u, execPwrShutdown x0 x1 x2 s = .next u ∧ Kept s u := by
  intro x0 x1 x2 s
  exact ⟨_, rfl, (kept_run _ _ _ (fun z0 => kept_ask _ _ _ _ _ _))⟩

theorem kept_execQsOperationDone : ∀ x0 x1 s, ∃ u, execQsOperationDone x0 x1 s = .next u ∧ Kept s u := by
  intro x0 x1 s
  refine ⟨_, rfl, ?_⟩
  refine kept_run _ _ _ ?_
  intro z0
  exact kept_whenLive _ _ (fun z1 => kept_qsDone _ _)

theorem kept_execRangingSetup : ∀ x0 x1 s, ∃ u, execRangingSetup x0 x1 s = .next u ∧ Kept s u := by
  intro x0 x1 s
  refine ⟨_, rfl, ?_⟩
  refine kept_run _ _ _ ?_
  intro z0
  exact kept_whenLive _ _ (fun z1 => kept_bleRanging _ _)

theorem kept_execRats : ∀ x0 s, ∃ u, execRats x0 s = .next u ∧ Kept s u := by
  intro x0 s
  exact ⟨_, rfl, (kept_run _ _ _ (fun z0 => kept_tagRats _))⟩

theorem kept_execReadBinary : ∀ x0 x1 x2 s, ∃ u, execReadBinary x0 x1 x2 s = .next u ∧ Kept s u := by
  intro x0 x1 x2 s
  exact ⟨_, rfl, (kept_run _ _ _ (fun z0 => kept_tagReadBinary _ _ _))⟩

theorem kept_execReadRecord : ∀ x0 x1 x2 s, ∃ u, execReadRecord x0 x1 x2 s = .next u ∧ Kept s u := by
  intro x0 x1 x2 s
  exact ⟨_, rfl, (kept_run _ _ _ (fun z0 => kept_tagRecordCmd _ _ _ _))⟩

theorem kept_execReferenceLoss : ∀ x0 s, ∃ u, execReferenceLoss x0 s = .next u ∧ Kept s u := by
  intro x0 s
  exact ⟨_, rfl, (kept_run _ _ _ (fun z0 => kept_refLoss _))⟩

theorem kept_execReferenceMonitorPass : ∀ x0 s, ∃ u, execReferenceMonitorPass x0 s = .next u ∧ Kept s u := by
  intro x0 s
  exact ⟨_, rfl, (kept_run _ _ _ (fun z0 => kept_refPass _))⟩

theorem kept_execReply : ∀ x0 x1 x2 s, ∃ u, execReply x0 x1 x2 s = .next u ∧ Kept s u := by
  intro x0 x1 x2 s
  refine ⟨_, rfl, ?_⟩
  refine kept_run _ _ _ ?_
  intro z0
  exact kept_whenLive _ _ (fun z1 => kept_lfReplyIn _ _ _)

theorem kept_execReport : ∀ x0 x1 s, ∃ u, execReport x0 x1 s = .next u ∧ Kept s u := by
  intro x0 x1 s
  refine ⟨_, rfl, ?_⟩
  refine kept_run _ _ _ ?_
  intro z0
  exact kept_segRow _ _ _ _ _ (fun z1 => kept_reportIn _ _)

theorem kept_execReqa : ∀ x0 s, ∃ u, execReqa x0 s = .next u ∧ Kept s u := by
  intro x0 s
  exact ⟨_, rfl, (kept_run _ _ _ (fun z0 => kept_tagWake _ _))⟩

theorem kept_execRequestWindowEnd : ∀ x0 x1 x2 s, ∃ u, execRequestWindowEnd x0 x1 x2 s = .next u ∧ Kept s u := by
  intro x0 x1 x2 s
  refine ⟨_, rfl, ?_⟩
  refine kept_run _ _ _ ?_
  intro z0
  exact kept_whenLive _ _ (fun z1 => kept_windowEnd _ _ _)

theorem kept_execRequesterLockoutEnd : ∀ x0 x1 s, ∃ u, execRequesterLockoutEnd x0 x1 s = .next u ∧ Kept s u := by
  intro x0 x1 s
  exact ⟨_, rfl, (kept_run _ _ _ (fun z0 => kept_guardEnd _ _))⟩

theorem kept_execReseedLimit : ∀ x0 s, ∃ u, execReseedLimit x0 s = .next u ∧ Kept s u := by
  intro x0 s
  refine ⟨_, rfl, ?_⟩
  refine kept_run _ _ _ ?_
  intro z0
  exact kept_whenLive _ _ (fun z1 => kept_reseedLimit _)

theorem kept_execResetN : ∀ x0 s, ∃ u, execResetN x0 s = .next u ∧ Kept s u := by
  intro x0 s
  exact ⟨_, rfl, (kept_run _ _ _ (fun z0 => Kept.ite (kept_resetTake _ _ _) (Kept.refl _)))⟩

theorem kept_execResetRelease : ∀ x0 x1 x2 x3 x4 s, ∃ u, execResetRelease x0 x1 x2 x3 x4 s = .next u ∧ Kept s u := by
  intro x0 x1 x2 x3 x4 s
  exact ⟨_, rfl, (kept_run _ _ _ (fun z0 => kept_resetRelease _ _ _ _ _))⟩

theorem kept_execResyncTimeout : ∀ x0 s, ∃ u, execResyncTimeout x0 s = .next u ∧ Kept s u := by
  intro x0 s
  exact ⟨_, rfl, (kept_run _ _ _ (fun z0 => kept_resyncTimeout _))⟩

theorem kept_execRet : ∀ x0 x1 s, ∃ u, execRet x0 x1 s = .next u ∧ Kept s u := by
  intro x0 x1 s
  refine ⟨_, rfl, ?_⟩
  refine kept_engRun _ _ _ _ ?_
  intro z0
  exact kept_engStep _ _ _ _ (fun z1 => opRet_wf)

theorem kept_execRevokeRequest : ∀ x0 x1 x2 s, ∃ u, execRevokeRequest x0 x1 x2 s = .next u ∧ Kept s u := by
  intro x0 x1 x2 s
  exact ⟨_, rfl, (kept_run _ _ _ (fun z0 => kept_zqRow _ _ _ _))⟩

theorem kept_execRfcCalRun : ∀ x0 x1 x2 s, ∃ u, execRfcCalRun x0 x1 x2 s = .next u ∧ Kept s u := by
  intro x0 x1 x2 s
  exact ⟨_, rfl, (kept_run _ _ _ (fun z0 => kept_ask _ _ _ _ _ _))⟩

theorem kept_execRngRandom : ∀ x0 x1 s, ∃ u, execRngRandom x0 x1 s = .next u ∧ Kept s u := by
  intro x0 x1 s
  exact ⟨_, rfl, (kept_run _ _ _ (fun z0 => kept_ask _ _ _ _ _ _))⟩

theorem kept_execRoundClose : ∀ x0 s, ∃ u, execRoundClose x0 s = .next u ∧ Kept s u := by
  intro x0 s
  refine ⟨_, rfl, ?_⟩
  refine kept_run _ _ _ ?_
  intro z0
  exact kept_whenLive _ _ (fun z1 => kept_roundClose _)

theorem kept_execRoundGraceExpiry : ∀ x0 x1 x2 s, ∃ u, execRoundGraceExpiry x0 x1 x2 s = .next u ∧ Kept s u := by
  intro x0 x1 x2 s
  refine ⟨_, rfl, ?_⟩
  refine kept_run _ _ _ ?_
  intro z0
  exact kept_whenLive _ _ (fun z1 => kept_graceEnd _ _ _)

theorem kept_execRoundPlan : ∀ x0 x1 s, ∃ u, execRoundPlan x0 x1 s = .next u ∧ Kept s u := by
  intro x0 x1 s
  refine ⟨_, rfl, ?_⟩
  refine kept_run _ _ _ ?_
  intro z0
  exact kept_segRow _ _ _ _ _ (fun z1 => kept_planIn _ _)

theorem kept_execRpt : ∀ x0 x1 s, ∃ u, execRpt x0 x1 s = .next u ∧ Kept s u := by
  intro x0 x1 s
  refine ⟨_, rfl, ?_⟩
  refine kept_engRun _ _ _ _ ?_
  intro z0
  exact kept_engStep _ _ _ _ (fun z1 => opRpt_wf _)

theorem kept_execRptr : ∀ x0 x1 s, ∃ u, execRptr x0 x1 s = .next u ∧ Kept s u := by
  intro x0 x1 s
  refine ⟨_, rfl, ?_⟩
  refine kept_engRun _ _ _ _ ?_
  intro z0
  exact kept_engStep _ _ _ _ (fun z1 => opRpt_wf _)

theorem kept_execSDeselect : ∀ x0 s, ∃ u, execSDeselect x0 s = .next u ∧ Kept s u := by
  intro x0 s
  exact ⟨_, rfl, (kept_run _ _ _ (fun z0 => kept_tagDeselect _))⟩

theorem kept_execSar : ∀ x0 x1 s, ∃ u, execSar x0 x1 s = .next u ∧ Kept s u := by
  intro x0 x1 s
  refine ⟨_, rfl, ?_⟩
  refine kept_engRun _ _ _ _ ?_
  intro z0
  exact kept_engStep _ _ _ _ (fun z1 => opSet_wf _ _)

theorem kept_execSari : ∀ x0 x1 s, ∃ u, execSari x0 x1 s = .next u ∧ Kept s u := by
  intro x0 x1 s
  refine ⟨_, rfl, ?_⟩
  refine kept_engRun _ _ _ _ ?_
  intro z0
  exact kept_engStep _ _ _ _ (fun z1 => opSet_wf _ _)

theorem kept_execScheduledWake : ∀ x0 s, ∃ u, execScheduledWake x0 s = .next u ∧ Kept s u := by
  intro x0 s
  exact ⟨_, rfl, (kept_run _ _ _ (fun z0 => kept_schedWake _))⟩

theorem kept_execSealIssue : ∀ x0 x1 x2 s, ∃ u, execSealIssue x0 x1 x2 s = .next u ∧ Kept s u := by
  intro x0 x1 x2 s
  refine ⟨_, rfl, ?_⟩
  refine kept_run _ _ _ ?_
  intro z0
  exact kept_whenLive _ _ (fun z1 => kept_sealIssue _ _ _)

theorem kept_execSealPathFault : ∀ x0 s, ∃ u, execSealPathFault x0 s = .next u ∧ Kept s u := by
  intro x0 s
  exact ⟨_, rfl, (kept_run _ _ _ (fun z0 => kept_quench _ _))⟩

end Sys2Proof.Machine
end

