-- ==== Sys2Proof/Laws/KeptCommands2.lean ====
section
/-! SUPPORT. Every meaning answers a next state, and keeps what `Kept` says, part 2: one lemma per command. -/
namespace Sys2Proof.Machine

theorem kept_execSeg1 : ∀ x0 x1 s, ∃ u, execSeg1 x0 x1 s = .next u ∧ Kept s u := by
  intro x0 x1 s
  refine ⟨_, rfl, ?_⟩
  refine kept_run _ _ _ ?_
  intro z0
  exact kept_whenLive _ _ (fun z1 => kept_lfSeg1 _ _)

theorem kept_execSeg2 : ∀ x0 x1 x2 s, ∃ u, execSeg2 x0 x1 x2 s = .next u ∧ Kept s u := by
  intro x0 x1 x2 s
  refine ⟨_, rfl, ?_⟩
  refine kept_run _ _ _ ?_
  intro z0
  exact kept_whenLive _ _ (fun z1 => kept_lfSeg2 _ _ _)

theorem kept_execSelectApplication : ∀ x0 x1 s, ∃ u, execSelectApplication x0 x1 s = .next u ∧ Kept s u := by
  intro x0 x1 s
  exact ⟨_, rfl, (kept_run _ _ _ (fun z0 => kept_tagSelectApp _ _))⟩

theorem kept_execSelectFile : ∀ x0 x1 s, ∃ u, execSelectFile x0 x1 s = .next u ∧ Kept s u := by
  intro x0 x1 s
  exact ⟨_, rfl, (kept_run _ _ _ (fun z0 => kept_tagSelectFile _ _))⟩

theorem kept_execSessionIdleTimeout : ∀ x0 x1 s, ∃ u, execSessionIdleTimeout x0 x1 s = .next u ∧ Kept s u := by
  intro x0 x1 s
  exact ⟨_, rfl, (kept_run _ _ _ (fun z0 => kept_netIdle _ _))⟩

theorem kept_execSev : ∀ x0 x1 s, ∃ u, execSev x0 x1 s = .next u ∧ Kept s u := by
  intro x0 x1 s
  exact ⟨_, rfl, (kept_engRun _ _ _ _ (fun z0 => kept_engSev _ _))⟩

theorem kept_execShl : ∀ x0 x1 s, ∃ u, execShl x0 x1 s = .next u ∧ Kept s u := by
  intro x0 x1 s
  refine ⟨_, rfl, ?_⟩
  refine kept_engRun _ _ _ _ ?_
  intro z0
  exact kept_engStep _ _ _ _ (fun z1 => opSet_wf _ _)

theorem kept_execShli : ∀ x0 x1 s, ∃ u, execShli x0 x1 s = .next u ∧ Kept s u := by
  intro x0 x1 s
  refine ⟨_, rfl, ?_⟩
  refine kept_engRun _ _ _ _ ?_
  intro z0
  exact kept_engStep _ _ _ _ (fun z1 => opSet_wf _ _)

theorem kept_execShr : ∀ x0 x1 s, ∃ u, execShr x0 x1 s = .next u ∧ Kept s u := by
  intro x0 x1 s
  refine ⟨_, rfl, ?_⟩
  refine kept_engRun _ _ _ _ ?_
  intro z0
  exact kept_engStep _ _ _ _ (fun z1 => opSet_wf _ _)

theorem kept_execShri : ∀ x0 x1 s, ∃ u, execShri x0 x1 s = .next u ∧ Kept s u := by
  intro x0 x1 s
  refine ⟨_, rfl, ?_⟩
  refine kept_engRun _ _ _ _ ?_
  intro z0
  exact kept_engStep _ _ _ _ (fun z1 => opSet_wf _ _)

theorem kept_execShutdownExit : ∀ x0 x1 s, ∃ u, execShutdownExit x0 x1 s = .next u ∧ Kept s u := by
  intro x0 x1 s
  exact ⟨_, rfl, (kept_run _ _ _ (fun z0 => kept_shutdownExit _ _))⟩

theorem kept_execSlowXtalFail : ∀ x0 s, ∃ u, execSlowXtalFail x0 s = .next u ∧ Kept s u := by
  intro x0 s
  exact ⟨_, rfl, (kept_run _ _ _ (fun z0 => kept_xtalFail _))⟩

theorem kept_execSlowXtalSwitch : ∀ x0 s, ∃ u, execSlowXtalSwitch x0 s = .next u ∧ Kept s u := by
  intro x0 s
  exact ⟨_, rfl, (kept_run _ _ _ (fun z0 => kept_xtalSwitch _))⟩

theorem kept_execSmpPairingRequest : ∀ x0 x1 s, ∃ u, execSmpPairingRequest x0 x1 s = .next u ∧ Kept s u := by
  intro x0 x1 s
  refine ⟨_, rfl, ?_⟩
  refine kept_run _ _ _ ?_
  intro z0
  exact kept_whenLive _ _ (fun z1 => kept_smpRefuse _ _)

theorem kept_execSourceRestartDone : ∀ x0 x1 s, ∃ u, execSourceRestartDone x0 x1 s = .next u ∧ Kept s u := by
  intro x0 x1 s
  refine ⟨_, rfl, ?_⟩
  refine kept_run _ _ _ ?_
  intro z0
  exact kept_whenLive _ _ (fun z1 => kept_restarted _ _)

theorem kept_execSourceSettled : ∀ x0 x1 s, ∃ u, execSourceSettled x0 x1 s = .next u ∧ Kept s u := by
  intro x0 x1 s
  refine ⟨_, rfl, ?_⟩
  refine kept_run _ _ _ ?_
  intro z0
  exact kept_whenLive _ _ (fun z1 => kept_settled _ _)

theorem kept_execSpiReadNtf : ∀ x0 x1 s, ∃ u, execSpiReadNtf x0 x1 s = .next u ∧ Kept s u := by
  intro x0 x1 s
  exact ⟨_, rfl, (kept_run _ _ _ (fun z0 => kept_spiReadNtf _ _))⟩

theorem kept_execSpiReadRsp : ∀ x0 x1 s, ∃ u, execSpiReadRsp x0 x1 s = .next u ∧ Kept s u := by
  intro x0 x1 s
  exact ⟨_, rfl, (kept_run _ _ _ (fun z0 => kept_spiReadRsp _ _))⟩

theorem kept_execSpiStatus : ∀ x0 s, ∃ u, execSpiStatus x0 s = .next u ∧ Kept s u := by
  intro x0 s
  exact ⟨_, rfl, (kept_run _ _ _ (fun z0 => kept_spiStatusCmd _))⟩

theorem kept_execSpiUndefinedCommand : ∀ x0 x1 x2 s, ∃ u, execSpiUndefinedCommand x0 x1 x2 s = .next u ∧ Kept s u := by
  intro x0 x1 x2 s
  exact ⟨_, rfl, (kept_run _ _ _ (fun z0 => kept_spiUndefined _ _ _))⟩

theorem kept_execSpiWriteReq : ∀ x0 x1 s, ∃ u, execSpiWriteReq x0 x1 s = .next u ∧ Kept s u := by
  intro x0 x1 s
  exact ⟨_, rfl, (kept_run _ _ _ (fun z0 => kept_spiWrite _ _))⟩

theorem kept_execStartEnLimit : ∀ x0 s, ∃ u, execStartEnLimit x0 s = .next u ∧ Kept s u := by
  intro x0 s
  exact ⟨_, rfl, (kept_run _ _ _ (fun z0 => kept_startLimit _))⟩

theorem kept_execStartTimeout : ∀ x0 s, ∃ u, execStartTimeout x0 s = .next u ∧ Kept s u := by
  intro x0 s
  exact ⟨_, rfl, (kept_run _ _ _ (fun z0 => kept_startTimeout _))⟩

theorem kept_execStartUpSelfTestDone : ∀ x0 x1 x2 x3 s, ∃ u, execStartUpSelfTestDone x0 x1 x2 x3 s = .next u ∧ Kept s u := by
  intro x0 x1 x2 x3 s
  exact ⟨_, rfl, (kept_run _ _ _ (fun z0 => kept_startTestDone _ _ _ _))⟩

theorem kept_execStb : ∀ x0 x1 s, ∃ u, execStb x0 x1 s = .next u ∧ Kept s u := by
  intro x0 x1 s
  refine ⟨_, rfl, ?_⟩
  refine kept_engRun _ _ _ _ ?_
  intro z0
  exact kept_engStep _ _ _ _ (fun z1 => opStore_wf _ _ _ fun _ => rfl)

theorem kept_execSth : ∀ x0 x1 s, ∃ u, execSth x0 x1 s = .next u ∧ Kept s u := by
  intro x0 x1 s
  refine ⟨_, rfl, ?_⟩
  refine kept_engRun _ _ _ _ ?_
  intro z0
  exact kept_engStep _ _ _ _ (fun z1 => opStore_wf _ _ _ fun _ => rfl)

theorem kept_execSto : ∀ x0 x1 s, ∃ u, execSto x0 x1 s = .next u ∧ Kept s u := by
  intro x0 x1 s
  exact ⟨_, rfl, (kept_engRun _ _ _ _ (fun z0 => kept_engDict _ _ _ _))⟩

theorem kept_execStoExec : ∀ x0 x1 s, ∃ u, execStoExec x0 x1 s = .next u ∧ Kept s u := by
  intro x0 x1 s
  exact ⟨_, rfl, (kept_engRun _ _ _ _ (fun z0 => kept_engDict _ _ _ _))⟩

theorem kept_execStop : ∀ x0 x1 s, ∃ u, execStop x0 x1 s = .next u ∧ Kept s u := by
  intro x0 x1 s
  refine ⟨_, rfl, ?_⟩
  refine kept_engRun _ _ _ _ ?_
  intro z0
  exact kept_engStep _ _ _ _ (fun z1 => opStop_wf)

theorem kept_execStw : ∀ x0 x1 s, ∃ u, execStw x0 x1 s = .next u ∧ Kept s u := by
  intro x0 x1 s
  refine ⟨_, rfl, ?_⟩
  refine kept_engRun _ _ _ _ ?_
  intro z0
  exact kept_engStep _ _ _ _ (fun z1 => opStore_wf _ _ _ fun _ => rfl)

theorem kept_execStwp : ∀ x0 x1 s, ∃ u, execStwp x0 x1 s = .next u ∧ Kept s u := by
  intro x0 x1 s
  refine ⟨_, rfl, ?_⟩
  refine kept_engRun _ _ _ _ ?_
  intro z0
  exact kept_engStep _ _ _ _ (fun z1 => opStore_wf _ _ _ fun _ => rfl)

theorem kept_execSub : ∀ x0 x1 s, ∃ u, execSub x0 x1 s = .next u ∧ Kept s u := by
  intro x0 x1 s
  refine ⟨_, rfl, ?_⟩
  refine kept_engRun _ _ _ _ ?_
  intro z0
  exact kept_engStep _ _ _ _ (fun z1 => opSet_wf _ _)

theorem kept_execSubscribe : ∀ x0 x1 x2 x3 x4 x5 x6 s, ∃ u, execSubscribe x0 x1 x2 x3 x4 x5 x6 s = .next u ∧ Kept s u := by
  intro x0 x1 x2 x3 x4 x5 x6 s
  exact ⟨_, rfl, (kept_run _ _ _ (fun z0 => kept_ask _ _ _ _ _ _))⟩

theorem kept_execSync : ∀ x0 x1 x2 x3 x4 s, ∃ u, execSync x0 x1 x2 x3 x4 s = .next u ∧ Kept s u := by
  intro x0 x1 x2 x3 x4 s
  refine ⟨_, rfl, ?_⟩
  refine kept_run _ _ _ ?_
  intro z0
  exact kept_t1sRow _ _ (fun z1 => kept_syncIn _ _ _ _ _)

theorem kept_execSyncInterval : ∀ x0 s, ∃ u, execSyncInterval x0 s = .next u ∧ Kept s u := by
  intro x0 s
  refine ⟨_, rfl, ?_⟩
  refine kept_run _ _ _ ?_
  intro z0
  exact kept_whenLive _ _ (fun z1 => kept_syncInterval _)

theorem kept_execSynthLockTimeout : ∀ x0 x1 s, ∃ u, execSynthLockTimeout x0 x1 s = .next u ∧ Kept s u := by
  intro x0 x1 s
  refine ⟨_, rfl, ?_⟩
  refine kept_run _ _ _ ?_
  intro z0
  exact kept_whenLive _ _ (fun z1 => kept_synthTimeout _ _)

theorem kept_execSynthLocked : ∀ x0 x1 s, ∃ u, execSynthLocked x0 x1 s = .next u ∧ Kept s u := by
  intro x0 x1 s
  refine ⟨_, rfl, ?_⟩
  refine kept_run _ _ _ ?_
  intro z0
  exact kept_whenLive _ _ (fun z1 => kept_synthLocked _ _)

theorem kept_execT1sFrameRx : ∀ x0 x1 x2 x3 x4 x5 x6 s, ∃ u, execT1sFrameRx x0 x1 x2 x3 x4 x5 x6 s = .next u ∧ Kept s u := by
  intro x0 x1 x2 x3 x4 x5 x6 s
  refine ⟨_, rfl, ?_⟩
  refine kept_run _ _ _ ?_
  intro z0
  exact kept_portIn _ _ _ (fun z1 => kept_t1sFrameIn _ _ _ _ _ _ _)

theorem kept_execT1sFrameTxDone : ∀ x0 x1 x2 s, ∃ u, execT1sFrameTxDone x0 x1 x2 s = .next u ∧ Kept s u := by
  intro x0 x1 x2 s
  refine ⟨_, rfl, ?_⟩
  refine kept_run _ _ _ ?_
  intro z0
  exact kept_whenLive _ _ (fun z1 => kept_t1sTxDone _ _ _)

theorem kept_execTagBadApdu : ∀ x0 x1 x2 x3 s, ∃ u, execTagBadApdu x0 x1 x2 x3 s = .next u ∧ Kept s u := by
  intro x0 x1 x2 x3 s
  exact ⟨_, rfl, (kept_run _ _ _ (fun z0 => kept_tagBadApdu _ _ _ _))⟩

theorem kept_execTagKeyUnblock : ∀ x0 x1 x2 s, ∃ u, execTagKeyUnblock x0 x1 x2 s = .next u ∧ Kept s u := by
  intro x0 x1 x2 s
  exact ⟨_, rfl, (kept_run _ _ _ (fun z0 => kept_ask _ _ _ _ _ _))⟩

theorem kept_execTagKeyWrite : ∀ x0 x1 x2 x3 s, ∃ u, execTagKeyWrite x0 x1 x2 x3 s = .next u ∧ Kept s u := by
  intro x0 x1 x2 x3 s
  exact ⟨_, rfl, (kept_run _ _ _ (fun z0 => kept_ask _ _ _ _ _ _))⟩

theorem kept_execTagNdefCommit : ∀ x0 x1 x2 s, ∃ u, execTagNdefCommit x0 x1 x2 s = .next u ∧ Kept s u := by
  intro x0 x1 x2 s
  exact ⟨_, rfl, (kept_run _ _ _ (fun z0 => kept_ask _ _ _ _ _ _))⟩

theorem kept_execTagNdefStage : ∀ x0 x1 x2 x3 s, ∃ u, execTagNdefStage x0 x1 x2 x3 s = .next u ∧ Kept s u := by
  intro x0 x1 x2 x3 s
  exact ⟨_, rfl, (kept_run _ _ _ (fun z0 => kept_ask _ _ _ _ _ _))⟩

theorem kept_execTagRecAclWrite : ∀ x0 x1 x2 s, ∃ u, execTagRecAclWrite x0 x1 x2 s = .next u ∧ Kept s u := by
  intro x0 x1 x2 s
  exact ⟨_, rfl, (kept_run _ _ _ (fun z0 => kept_ask _ _ _ _ _ _))⟩

theorem kept_execTagRecWrite : ∀ x0 x1 x2 x3 s, ∃ u, execTagRecWrite x0 x1 x2 x3 s = .next u ∧ Kept s u := by
  intro x0 x1 x2 x3 s
  exact ⟨_, rfl, (kept_run _ _ _ (fun z0 => kept_ask _ _ _ _ _ _))⟩

theorem kept_execTagWriteDone : ∀ x0 s, ∃ u, execTagWriteDone x0 s = .next u ∧ Kept s u := by
  intro x0 s
  exact ⟨_, rfl, (kept_run _ _ _ (fun z0 => kept_tagWriteRow _))⟩

theorem kept_execTearRecoveryEnd : ∀ x0 s, ∃ u, execTearRecoveryEnd x0 s = .next u ∧ Kept s u := by
  intro x0 s
  exact ⟨_, rfl, (kept_run _ _ _ (fun z0 => kept_tearEnd _))⟩

theorem kept_execTimeAsymmetryWrite : ∀ x0 x1 x2 s, ∃ u, execTimeAsymmetryWrite x0 x1 x2 s = .next u ∧ Kept s u := by
  intro x0 x1 x2 s
  exact ⟨_, rfl, (kept_run _ _ _ (fun z0 => kept_ask _ _ _ _ _ _))⟩

theorem kept_execTimeSet : ∀ x0 x1 x2 s, ∃ u, execTimeSet x0 x1 x2 s = .next u ∧ Kept s u := by
  intro x0 x1 x2 s
  exact ⟨_, rfl, (kept_run _ _ _ (fun z0 => kept_ask _ _ _ _ _ _))⟩

theorem kept_execTimeSlew : ∀ x0 x1 x2 s, ∃ u, execTimeSlew x0 x1 x2 s = .next u ∧ Kept s u := by
  intro x0 x1 x2 s
  exact ⟨_, rfl, (kept_run _ _ _ (fun z0 => kept_ask _ _ _ _ _ _))⟩

theorem kept_execTimeSourceLoss : ∀ x0 s, ∃ u, execTimeSourceLoss x0 s = .next u ∧ Kept s u := by
  intro x0 s
  refine ⟨_, rfl, ?_⟩
  refine kept_run _ _ _ ?_
  intro z0
  exact kept_whenLive _ _ (fun z1 => kept_sourceLoss _)

theorem kept_execTimeStep : ∀ x0 x1 x2 x3 s, ∃ u, execTimeStep x0 x1 x2 x3 s = .next u ∧ Kept s u := by
  intro x0 x1 x2 x3 s
  exact ⟨_, rfl, (kept_run _ _ _ (fun z0 => kept_ask _ _ _ _ _ _))⟩

theorem kept_execTimeStepConfirm : ∀ x0 x1 x2 s, ∃ u, execTimeStepConfirm x0 x1 x2 s = .next u ∧ Kept s u := by
  intro x0 x1 x2 s
  exact ⟨_, rfl, (kept_run _ _ _ (fun z0 => kept_ask _ _ _ _ _ _))⟩

theorem kept_execTinData : ∀ x0 x1 x2 s, ∃ u, execTinData x0 x1 x2 s = .next u ∧ Kept s u := by
  intro x0 x1 x2 s
  refine ⟨_, rfl, ?_⟩
  refine kept_run _ _ _ ?_
  intro z0
  exact kept_segRow _ _ _ _ _ (fun z1 => kept_tinDataIn _ _)

theorem kept_execTinDigest : ∀ x0 x1 x2 s, ∃ u, execTinDigest x0 x1 x2 s = .next u ∧ Kept s u := by
  intro x0 x1 x2 s
  refine ⟨_, rfl, ?_⟩
  refine kept_run _ _ _ ?_
  intro z0
  exact kept_segRow _ _ _ _ _ (fun z1 => kept_tinDigestIn _ _)

theorem kept_execTinPeriod : ∀ x0 s, ∃ u, execTinPeriod x0 s = .next u ∧ Kept s u := by
  intro x0 s
  refine ⟨_, rfl, ?_⟩
  refine kept_run _ _ _ ?_
  intro z0
  exact kept_whenLive _ _ (fun z1 => kept_tinPeriod _)

theorem kept_execTinPull : ∀ x0 x1 x2 s, ∃ u, execTinPull x0 x1 x2 s = .next u ∧ Kept s u := by
  intro x0 x1 x2 s
  refine ⟨_, rfl, ?_⟩
  refine kept_run _ _ _ ?_
  intro z0
  exact kept_segRow _ _ _ _ _ (fun z1 => kept_tinPullIn _ _)

theorem kept_execTmrCaptureEdge : ∀ x0 x1 x2 x3 s, ∃ u, execTmrCaptureEdge x0 x1 x2 x3 s = .next u ∧ Kept s u := by
  intro x0 x1 x2 x3 s
  refine ⟨_, rfl, ?_⟩
  refine kept_run _ _ _ ?_
  intro z0
  exact kept_whenLive _ _ (fun z1 => kept_tmrCapture _ _ _ _)

theorem kept_execTmrCaptureRead : ∀ x0 x1 x2 s, ∃ u, execTmrCaptureRead x0 x1 x2 s = .next u ∧ Kept s u := by
  intro x0 x1 x2 s
  exact ⟨_, rfl, (kept_run _ _ _ (fun z0 => kept_ask _ _ _ _ _ _))⟩

theorem kept_execTmrCmpWrite : ∀ x0 x1 x2 x3 s, ∃ u, execTmrCmpWrite x0 x1 x2 x3 s = .next u ∧ Kept s u := by
  intro x0 x1 x2 x3 s
  exact ⟨_, rfl, (kept_run _ _ _ (fun z0 => kept_ask _ _ _ _ _ _))⟩

theorem kept_execTmrCountEnd : ∀ x0 x1 s, ∃ u, execTmrCountEnd x0 x1 s = .next u ∧ Kept s u := by
  intro x0 x1 s
  refine ⟨_, rfl, ?_⟩
  refine kept_run _ _ _ ?_
  intro z0
  exact kept_whenLive _ _ (fun z1 => kept_tmrSettle _ _)

theorem kept_execTmrCtrlWrite : ∀ x0 x1 x2 x3 s, ∃ u, execTmrCtrlWrite x0 x1 x2 x3 s = .next u ∧ Kept s u := by
  intro x0 x1 x2 x3 s
  exact ⟨_, rfl, (kept_run _ _ _ (fun z0 => kept_ask _ _ _ _ _ _))⟩

theorem kept_execTmrEndWrite : ∀ x0 x1 x2 x3 s, ∃ u, execTmrEndWrite x0 x1 x2 x3 s = .next u ∧ Kept s u := by
  intro x0 x1 x2 x3 s
  exact ⟨_, rfl, (kept_run _ _ _ (fun z0 => kept_ask _ _ _ _ _ _))⟩

theorem kept_execTmrMatch : ∀ x0 x1 s, ∃ u, execTmrMatch x0 x1 s = .next u ∧ Kept s u := by
  intro x0 x1 s
  refine ⟨_, rfl, ?_⟩
  refine kept_run _ _ _ ?_
  intro z0
  exact kept_whenLive _ _ (fun z1 => kept_tmrSettle _ _)

theorem kept_execTmrMatchB : ∀ x0 x1 s, ∃ u, execTmrMatchB x0 x1 s = .next u ∧ Kept s u := by
  intro x0 x1 s
  refine ⟨_, rfl, ?_⟩
  refine kept_run _ _ _ ?_
  intro z0
  exact kept_whenLive _ _ (fun z1 => kept_tmrSettle _ _)

theorem kept_execTmrStatusWrite : ∀ x0 x1 x2 x3 s, ∃ u, execTmrStatusWrite x0 x1 x2 x3 s = .next u ∧ Kept s u := by
  intro x0 x1 x2 x3 s
  exact ⟨_, rfl, (kept_run _ _ _ (fun z0 => kept_ask _ _ _ _ _ _))⟩

theorem kept_execTmrZeroTurn : ∀ x0 x1 s, ∃ u, execTmrZeroTurn x0 x1 s = .next u ∧ Kept s u := by
  intro x0 x1 s
  refine ⟨_, rfl, ?_⟩
  refine kept_run _ _ _ ?_
  intro z0
  exact kept_whenLive _ _ (fun z1 => kept_tmrSettle _ _)

theorem kept_execTokenProof : ∀ x0 x1 x2 s, ∃ u, execTokenProof x0 x1 x2 s = .next u ∧ Kept s u := by
  intro x0 x1 x2 s
  exact ⟨_, rfl, (kept_run _ _ _ (fun z0 => kept_zqRow _ _ _ _))⟩

theorem kept_execTouchHandoff : ∀ x0 x1 s, ∃ u, execTouchHandoff x0 x1 s = .next u ∧ Kept s u := by
  intro x0 x1 s
  refine ⟨_, rfl, ?_⟩
  refine kept_run _ _ _ ?_
  intro z0
  exact kept_whenLive _ _ (fun z1 => kept_touchHandoff _ _)

theorem kept_execTransceiverRequest : ∀ x0 x1 x2 x3 x4 x5 x6 x7 x8 s, ∃ u, execTransceiverRequest x0 x1 x2 x3 x4 x5 x6 x7 x8 s = .next u ∧ Kept s u := by
  intro x0 x1 x2 x3 x4 x5 x6 x7 x8 s
  refine ⟨_, rfl, ?_⟩
  refine kept_run _ _ _ ?_
  intro z0
  exact kept_whenLive _ _ (fun z1 => kept_xcRequest _ _ _)

theorem kept_execTrapRestart : ∀ x0 x1 s, ∃ u, execTrapRestart x0 x1 s = .next u ∧ Kept s u := by
  intro x0 x1 s
  refine ⟨_, rfl, ?_⟩
  refine kept_run _ _ _ ?_
  intro z0
  exact kept_whenLive _ _ (fun z1 => kept_trapRestart _ _)

theorem kept_execTsApply : ∀ x0 x1 s, ∃ u, execTsApply x0 x1 s = .next u ∧ Kept s u := by
  intro x0 x1 s
  exact ⟨_, rfl, (kept_run _ _ _ (fun z0 => kept_ask _ _ _ _ _ _))⟩

theorem kept_execTsInEdge : ∀ x0 x1 x2 s, ∃ u, execTsInEdge x0 x1 x2 s = .next u ∧ Kept s u := by
  intro x0 x1 x2 s
  refine ⟨_, rfl, ?_⟩
  refine kept_run _ _ _ ?_
  intro z0
  exact kept_whenLive _ _ (fun z1 => kept_tsEdge _ _ _)

theorem kept_execTwinResolutionTimeout : ∀ x0 s, ∃ u, execTwinResolutionTimeout x0 s = .next u ∧ Kept s u := by
  intro x0 s
  refine ⟨_, rfl, ?_⟩
  refine kept_run _ _ _ ?_
  intro z0
  exact kept_whenLive _ _ (fun z1 => kept_twinResolution _)

theorem kept_execTwinTakeover : ∀ x0 x1 x2 s, ∃ u, execTwinTakeover x0 x1 x2 s = .next u ∧ Kept s u := by
  intro x0 x1 x2 s
  exact ⟨_, rfl, (kept_run _ _ _ (fun z0 => kept_ask _ _ _ _ _ _))⟩

theorem kept_execTwinTinRun : ∀ x0 x1 s, ∃ u, execTwinTinRun x0 x1 s = .next u ∧ Kept s u := by
  intro x0 x1 s
  exact ⟨_, rfl, (kept_run _ _ _ (fun z0 => kept_ask _ _ _ _ _ _))⟩

theorem kept_execUid : ∀ x0 x1 s, ∃ u, execUid x0 x1 s = .next u ∧ Kept s u := by
  intro x0 x1 s
  refine ⟨_, rfl, ?_⟩
  refine kept_run _ _ _ ?_
  intro z0
  exact kept_whenLive _ _ (fun z1 => kept_lfUid _ _)

theorem kept_execUnlockProof : ∀ x0 x1 s, ∃ u, execUnlockProof x0 x1 s = .next u ∧ Kept s u := by
  intro x0 x1 s
  exact ⟨_, rfl, (kept_run _ _ _ (fun z0 => kept_v1Row _ _ _))⟩

theorem kept_execUnlockReq : ∀ x0 x1 s, ∃ u, execUnlockReq x0 x1 s = .next u ∧ Kept s u := by
  intro x0 x1 s
  exact ⟨_, rfl, (kept_run _ _ _ (fun z0 => kept_v1Row _ _ _))⟩

theorem kept_execUnsubscribe : ∀ x0 x1 x2 x3 s, ∃ u, execUnsubscribe x0 x1 x2 x3 s = .next u ∧ Kept s u := by
  intro x0 x1 x2 x3 s
  exact ⟨_, rfl, (kept_run _ _ _ (fun z0 => kept_ask _ _ _ _ _ _))⟩

theorem kept_execUpdateBinary : ∀ x0 s, ∃ u, execUpdateBinary x0 s = .next u ∧ Kept s u := by
  intro x0 s
  exact ⟨_, rfl, (kept_run _ _ _ (fun z0 => kept_tagUpdateBinary _))⟩

theorem kept_execUwbAuxDone : ∀ x0 x1 x2 s, ∃ u, execUwbAuxDone x0 x1 x2 s = .next u ∧ Kept s u := by
  intro x0 x1 x2 s
  refine ⟨_, rfl, ?_⟩
  refine kept_run _ _ _ ?_
  intro z0
  exact kept_whenLive _ _ (fun z1 => kept_auxDoneRow _ _ _)

theorem kept_execUwbAuxRx : ∀ x0 x1 x2 s, ∃ u, execUwbAuxRx x0 x1 x2 s = .next u ∧ Kept s u := by
  intro x0 x1 x2 s
  exact ⟨_, rfl, (kept_run _ _ _ (fun z0 => kept_ask _ _ _ _ _ _))⟩

theorem kept_execUwbAuxTx : ∀ x0 x1 x2 s, ∃ u, execUwbAuxTx x0 x1 x2 s = .next u ∧ Kept s u := by
  intro x0 x1 x2 s
  exact ⟨_, rfl, (kept_run _ _ _ (fun z0 => kept_ask _ _ _ _ _ _))⟩

theorem kept_execUwbFrameLaunch : ∀ x0 x1 x2 s, ∃ u, execUwbFrameLaunch x0 x1 x2 s = .next u ∧ Kept s u := by
  intro x0 x1 x2 s
  refine ⟨_, rfl, ?_⟩
  refine kept_run _ _ _ ?_
  intro z0
  exact kept_whenLive _ _ (fun z1 => kept_frameLaunch _ _ _)

theorem kept_execUwbReport : ∀ x0 x1 s, ∃ u, execUwbReport x0 x1 s = .next u ∧ Kept s u := by
  intro x0 x1 s
  refine ⟨_, rfl, ?_⟩
  refine kept_run _ _ _ ?_
  intro z0
  exact kept_whenLive _ _ (fun z1 => kept_uwbReport _ _)

theorem kept_execUwbResponse : ∀ x0 x1 x2 s, ∃ u, execUwbResponse x0 x1 x2 s = .next u ∧ Kept s u := by
  intro x0 x1 x2 s
  refine ⟨_, rfl, ?_⟩
  refine kept_run _ _ _ ?_
  intro z0
  exact kept_whenLive _ _ (fun z1 => kept_uwbResponse _ _ _)

theorem kept_execUwbRxWindowEnd : ∀ x0 s, ∃ u, execUwbRxWindowEnd x0 s = .next u ∧ Kept s u := by
  intro x0 s
  refine ⟨_, rfl, ?_⟩
  refine kept_run _ _ _ ?_
  intro z0
  exact kept_whenLive _ _ (fun z1 => kept_uwbWindowEnd _)

theorem kept_execUwbSync : ∀ x0 x1 x2 x3 s, ∃ u, execUwbSync x0 x1 x2 x3 s = .next u ∧ Kept s u := by
  intro x0 x1 x2 x3 s
  refine ⟨_, rfl, ?_⟩
  refine kept_run _ _ _ ?_
  intro z0
  exact kept_whenLive _ _ (fun z1 => kept_uwbSync _ _ _ _)

theorem kept_execV1LockoutEnd : ∀ x0 s, ∃ u, execV1LockoutEnd x0 s = .next u ∧ Kept s u := by
  intro x0 s
  exact ⟨_, rfl, (kept_run _ _ _ (fun z0 => kept_v1LockEnd _))⟩

theorem kept_execV1Read : ∀ x0 x1 s, ∃ u, execV1Read x0 x1 s = .next u ∧ Kept s u := by
  intro x0 x1 s
  exact ⟨_, rfl, (kept_run _ _ _ (fun z0 => kept_v1Row _ _ _))⟩

theorem kept_execV1UnlockExpiry : ∀ x0 s, ∃ u, execV1UnlockExpiry x0 s = .next u ∧ Kept s u := by
  intro x0 s
  exact ⟨_, rfl, (kept_run _ _ _ (fun z0 => kept_v1Expiry _))⟩

theorem kept_execV1Write : ∀ x0 x1 s, ∃ u, execV1Write x0 x1 s = .next u ∧ Kept s u := by
  intro x0 x1 s
  exact ⟨_, rfl, (kept_run _ _ _ (fun z0 => kept_v1Row _ _ _))⟩

theorem kept_execVaonLoss : ∀ x0 x1 s, ∃ u, execVaonLoss x0 x1 s = .next u ∧ Kept s u := by
  intro x0 x1 s
  exact ⟨_, rfl, (kept_run _ _ _ (fun z0 => kept_vaonLoss _ _))⟩

theorem kept_execVaonPor : ∀ x0 s, ∃ u, execVaonPor x0 s = .next u ∧ Kept s u := by
  intro x0 s
  exact ⟨_, rfl, (kept_run _ _ _ (fun z0 => kept_vaonPor _))⟩

theorem kept_execVcSecond : ∀ x0 s, ∃ u, execVcSecond x0 s = .next u ∧ Kept s u := by
  intro x0 s
  refine ⟨_, rfl, ?_⟩
  refine kept_run _ _ _ ?_
  intro z0
  exact kept_whenVaon _ _ (fun z1 => kept_vcSecond _ _)

theorem kept_execVerdictExpiry : ∀ x0 x1 x2 s, ∃ u, execVerdictExpiry x0 x1 x2 s = .next u ∧ Kept s u := by
  intro x0 x1 x2 s
  refine ⟨_, rfl, ?_⟩
  refine kept_run _ _ _ ?_
  intro z0
  exact kept_whenLive _ _ (fun z1 => kept_verdictExpire _ _ _)

theorem kept_execVetoHoldEnd : ∀ x0 s, ∃ u, execVetoHoldEnd x0 s = .next u ∧ Kept s u := by
  intro x0 s
  refine ⟨_, rfl, ?_⟩
  refine kept_run _ _ _ ?_
  intro z0
  exact kept_whenLive _ _ (fun z1 => kept_vetoEnd _)

theorem kept_execVioReturn : ∀ x0 s, ∃ u, execVioReturn x0 s = .next u ∧ Kept s u := by
  intro x0 s
  exact ⟨_, rfl, (kept_run _ _ _ (fun z0 => kept_vioBack _))⟩

theorem kept_execVioUndervoltage : ∀ x0 s, ∃ u, execVioUndervoltage x0 s = .next u ∧ Kept s u := by
  intro x0 s
  exact ⟨_, rfl, (kept_run _ _ _ (fun z0 => kept_vioLow _))⟩

theorem kept_execVlfRecover : ∀ x0 x1 s, ∃ u, execVlfRecover x0 x1 s = .next u ∧ Kept s u := by
  intro x0 x1 s
  exact ⟨_, rfl, (kept_run _ _ _ (fun z0 => kept_vlfBack _ _))⟩

theorem kept_execVnfcRecover : ∀ x0 x1 s, ∃ u, execVnfcRecover x0 x1 s = .next u ∧ Kept s u := by
  intro x0 x1 s
  exact ⟨_, rfl, (kept_run _ _ _ (fun z0 => kept_vnfcBack _ _))⟩

theorem kept_execVsupBrownout : ∀ x0 s, ∃ u, execVsupBrownout x0 s = .next u ∧ Kept s u := by
  intro x0 s
  exact ⟨_, rfl, (kept_run _ _ _ (fun z0 => kept_vsupLow _))⟩

theorem kept_execWairilCommaAlign : ∀ x0 s, ∃ u, execWairilCommaAlign x0 s = .next u ∧ Kept s u := by
  intro x0 s
  refine ⟨_, rfl, ?_⟩
  refine kept_run _ _ _ ?_
  intro z0
  exact kept_portIn _ _ _ (fun z1 => kept_wlAlign _)

theorem kept_execWairilFrame : ∀ x0 x1 x2 s, ∃ u, execWairilFrame x0 x1 x2 s = .next u ∧ Kept s u := by
  intro x0 x1 x2 s
  refine ⟨_, rfl, ?_⟩
  refine kept_run _ _ _ ?_
  intro z0
  refine kept_portIn _ _ _ ?_
  intro z1
  exact Kept.trans (kept_wlFills _ _) (kept_wairilIn _ _)

theorem kept_execWairilLinkDown : ∀ x0 x1 x2 s, ∃ u, execWairilLinkDown x0 x1 x2 s = .next u ∧ Kept s u := by
  intro x0 x1 x2 s
  refine ⟨_, rfl, ?_⟩
  refine kept_run _ _ _ ?_
  intro z0
  exact Kept.trans (kept_wlFills _ _) (kept_wlDown _ _)

theorem kept_execWairilLinkUp : ∀ x0 s, ∃ u, execWairilLinkUp x0 s = .next u ∧ Kept s u := by
  intro x0 s
  exact ⟨_, rfl, (kept_run _ _ _ (fun z0 => kept_wlUp _))⟩

theorem kept_execWaitt : ∀ x0 x1 s, ∃ u, execWaitt x0 x1 s = .next u ∧ Kept s u := by
  intro x0 x1 s
  refine ⟨_, rfl, ?_⟩
  refine kept_engRun _ _ _ _ ?_
  intro z0
  exact kept_engStep _ _ _ _ (fun z1 => opWaitt_wf _ _ _ _)

theorem kept_execWaittDeadline : ∀ x0 x1 s, ∃ u, execWaittDeadline x0 x1 s = .next u ∧ Kept s u := by
  intro x0 x1 s
  refine ⟨_, rfl, ?_⟩
  refine kept_run _ _ _ ?_
  intro z0
  exact kept_whenLive _ _ (fun z1 => kept_deadline _ _)

theorem kept_execWatchdogRestart : ∀ x0 s, ∃ u, execWatchdogRestart x0 s = .next u ∧ Kept s u := by
  intro x0 s
  exact ⟨_, rfl, (kept_run _ _ _ (fun z0 => kept_watchdogKick _))⟩

theorem kept_execWfe : ∀ x0 x1 s, ∃ u, execWfe x0 x1 s = .next u ∧ Kept s u := by
  intro x0 x1 s
  refine ⟨_, rfl, ?_⟩
  refine kept_engRun _ _ _ _ ?_
  intro z0
  exact kept_engStep _ _ _ _ (fun z1 => opWfe_wf _ _ _)

theorem kept_execWorkerLost : ∀ x0 x1 s, ∃ u, execWorkerLost x0 x1 s = .next u ∧ Kept s u := by
  intro x0 x1 s
  refine ⟨_, rfl, ?_⟩
  refine kept_run _ _ _ ?_
  intro z0
  exact kept_whenLive _ _ (fun z1 => kept_workerGone _ _)

theorem kept_execWrite : ∀ x0 x1 x2 x3 x4 s, ∃ u, execWrite x0 x1 x2 x3 x4 s = .next u ∧ Kept s u := by
  intro x0 x1 x2 x3 x4 s
  exact ⟨_, rfl, (kept_run _ _ _ (fun z0 => kept_ask _ _ _ _ _ _))⟩

theorem kept_execWriteRecord : ∀ x0 x1 x2 s, ∃ u, execWriteRecord x0 x1 x2 s = .next u ∧ Kept s u := by
  intro x0 x1 x2 s
  exact ⟨_, rfl, (kept_run _ _ _ (fun z0 => kept_tagRecordCmd _ _ _ _))⟩

theorem kept_execWupa : ∀ x0 s, ∃ u, execWupa x0 s = .next u ∧ Kept s u := by
  intro x0 s
  exact ⟨_, rfl, (kept_run _ _ _ (fun z0 => kept_tagWake _ _))⟩

theorem kept_execXor : ∀ x0 x1 s, ∃ u, execXor x0 x1 s = .next u ∧ Kept s u := by
  intro x0 x1 s
  refine ⟨_, rfl, ?_⟩
  refine kept_engRun _ _ _ _ ?_
  intro z0
  exact kept_engStep _ _ _ _ (fun z1 => opSet_wf _ _)

theorem kept_execXori : ∀ x0 x1 s, ∃ u, execXori x0 x1 s = .next u ∧ Kept s u := by
  intro x0 x1 s
  refine ⟨_, rfl, ?_⟩
  refine kept_engRun _ _ _ _ ?_
  intro z0
  exact kept_engStep _ _ _ _ (fun z1 => opSet_wf _ _)

theorem kept_execZariqueDrop : ∀ x0 x1 x2 s, ∃ u, execZariqueDrop x0 x1 x2 s = .next u ∧ Kept s u := by
  intro x0 x1 x2 s
  exact ⟨_, rfl, (kept_run _ _ _ (fun z0 => kept_zqDropRow _ _ _))⟩

theorem kept_execZeroizeOverwriteDone : ∀ x0 x1 s, ∃ u, execZeroizeOverwriteDone x0 x1 s = .next u ∧ Kept s u := by
  intro x0 x1 s
  exact ⟨_, rfl, (kept_run _ _ _ (fun z0 => kept_zeroDone _ _))⟩

end Sys2Proof.Machine
end

