-- ==== Sys2Proof/WellFormed.lean ====
section
/-! DEFINITION. Well-formed commands: every operand lies in the range that the spec gives its field. A command's operands are what a
sender or a pin can bring, so that nothing outside these ranges reaches the block. -/
namespace Sys2Proof

/-- A requester of 00_scope.md that makes accesses through a port: the host, network session 1 to 3, engine 0 to 7, the twin. -/
def Requester.ok : Requester → Bool
  | .host => true
  | .net sid => decide (1 ≤ sid) && decide (sid ≤ 3)
  | .engine n => decide (n < 8)
  | .twin => true
  | .field => false

/-- A carrier that exists on some variant (R153): BLE connection 0 to 7, NFC port 0 or 1, LF channel 0 to 3. -/
def Carrier.ok : Carrier → Bool
  | .ble c => decide (c < 8)
  | .nfc p => decide (p < 2)
  | .lf c => decide (c < 4)

/-- A transport (R62, R65): a MAC address of 6 octets and a 16-bit node address, or CAN 0 or 1. -/
def Transport.ok : Transport → Bool
  | .t1s mac node => decide (mac.length = 6) && decide (node < 0x10000)
  | .can c _ => decide (c < 2)

/-- A CAN frame on the wire (R567): its format, and at most 2,048 octets. -/
def CanFrame.ok (f : CanFrame) : Bool :=
  decide (f.fmt < 4) && decide (f.flags < 8) && decide (f.sdt < 0x100) && decide (f.id < 2 ^ 32) && decide (f.af < 2 ^ 32) &&
    decide (f.vcid < 0x100) && decide (f.data.length ≤ 2048)

/-- A signed 32-bit value (R11). -/
def isI32 (v : Int) : Bool := decide (-2 ^ 31 ≤ v) && decide (v < 2 ^ 31)

/-- A command whose operands lie in their fields. -/
def instrOk : Instr → Bool
  | .spiStatus _ => true
  | .spiWriteReq _ _ => true
  | .spiReadRsp _ _ => true
  | .spiReadNtf _ _ => true
  | .spiUndefinedCommand _ cmd _ => decide (cmd < 0x100)
  | .dictResponseReady _ => true
  | .write _ r idx sub _ => r.ok && decide (idx < 0x10000) && decide (sub < 0x100)
  | .pendingValueApply _ idx sub => decide (idx < 0x10000) && decide (sub < 0x100)
  | .subscribe _ r idx sub mode period gap => r.ok && decide (idx < 0x10000) && decide (sub < 0x100) && decide (mode < 0x100) && decide (period < 0x10000) && decide (gap < 0x10000)
  | .unsubscribe _ r idx sub => r.ok && decide (idx < 0x10000) && decide (sub < 0x100)
  | .notifyPeriodic _ r idx sub => r.ok && decide (idx < 0x10000) && decide (sub < 0x100)
  | .loginHello _ via seq _ => via.ok && decide (seq < 0x10000)
  | .loginProof _ via seq _ => via.ok && decide (seq < 0x10000)
  | .logout _ sid seq => (decide (1 ≤ sid) && decide (sid ≤ 3)) && decide (seq < 0x10000)
  | .loginProofTimeout _ sid => (decide (1 ≤ sid) && decide (sid ≤ 3))
  | .sessionIdleTimeout _ sid => (decide (1 ≤ sid) && decide (sid ≤ 3))
  | .requesterLockoutEnd _ rid => decide (rid < 8)
  | .dictFrameT1s _ da sa _ => decide (da.length = 6) && decide (sa.length = 6)
  | .canFdSegment _ c id _ => decide (c < 2) && decide (id < 2 ^ 32)
  | .canFdSegmentTimeout _ c => decide (c < 2)
  | .canXlDictFrame _ c id sdt _ => decide (c < 2) && decide (id < 2 ^ 32) && decide (sdt < 0x100)
  | .wairilFrame _ _ _ => true
  | .v1Read _ f => decide (f.length ≤ 8)
  | .v1Write _ f => decide (f.length ≤ 8)
  | .unlockReq _ f => decide (f.length ≤ 8)
  | .unlockProof _ f => decide (f.length ≤ 8)
  | .v1UnlockExpiry _ => true
  | .v1LockoutEnd _ => true
  | .devCommit _ r => r.ok
  | .devCommitDone _ _ => true
  | .devRestoreDefaults _ r => r.ok
  | .devResetSystem _ r => r.ok
  | .devResetCold _ r => r.ok
  | .devSelfTest _ r => r.ok
  | .devSelfTestDone _ fail _ => decide (fail < 2 ^ 32)
  | .credClockConfirm _ r ceiling => r.ok && decide (ceiling < 2 ^ 64)
  | .credRevoke _ r _ => r.ok
  | .vcSecond _ => true
  | .floorPeriod _ => true
  | .resyncTimeout _ => true
  | .journalRecordDone _ _ => true
  | .compactionStart _ => true
  | .compactionPass _ => true
  | .compactionSwitch _ => true
  | .tokenProof _ car _ => car.ok
  | .credProof _ car _ => car.ok
  | .attest _ car _ => car.ok
  | .enrolCode _ car _ => car.ok
  | .enrolRequest _ car _ => car.ok
  | .revokeRequest _ car _ => car.ok
  | .endMessage _ car _ => car.ok
  | .zariqueDrop _ car _ => car.ok
  | .challenge _ conn => decide (conn < 8)
  | .prompt _ conn => decide (conn < 8)
  | .rangingSetup _ conn => decide (conn < 8)
  | .keyDeliveryAck _ car => car.ok
  | .challengeExpiry _ => true
  | .doorOpenEdge _ _ _ _ => true
  | .entryTimeout _ => true
  | .startTimeout _ => true
  | .ignInFall _ => true
  | .ignInRise _ => true
  | .lockoutEnd _ => true
  | .lockoutPersist _ => true
  | .learnWindowExpiry _ => true
  | .accLearnCancel _ r => r.ok
  | .accRevokeToken _ r tid => r.ok && decide (tid < 2 ^ 32)
  | .accLockoutClear _ r _ => r.ok
  | .accEnrolImport _ r _ => r.ok
  | .evidenceItem _ item _ => decide (item.length = 16)
  | .evaluationDone _ => true
  | .requestWindowEnd _ tsh gate => decide (tsh < 0x10000) && decide (gate < 4)
  | .vetoHoldEnd _ => true
  | .roundGraceExpiry _ tsh gate => decide (tsh < 0x10000) && decide (gate < 4)
  | .verdictExpiry _ tsh gate => decide (tsh < 0x10000) && decide (gate < 4)
  | .tsApply _ r => r.ok
  | .sealIssue _ tsh gate => decide (tsh < 0x10000) && decide (gate < 4)
  | .pulseEnd _ _ n => decide (n < 4)
  | .deadTimeEnd _ grp => decide (grp < 2)
  | .gateLock _ r => r.ok
  | .gateRbSample _ gate _ => decide (gate < 4)
  | .startEnLimit _ => true
  | .gateFaultClear _ r gate => r.ok && decide (gate < 0x100)
  | .gateQuench _ r arg => r.ok && decide (arg < 0x10000)
  | .sealPathFault _ => true
  | .immoChallenge _ _ => true
  | .immoAck _ _ => true
  | .immoReleasePeriod _ => true
  | .immoWaitExpiry _ => true
  | .limiterCut _ lim ch => (decide (1 ≤ lim) && decide (lim ≤ 4)) && decide (ch < 4)
  | .gpioHoldExpiry _ pin => decide (pin < 8)
  | .blockStart _ tsh => decide (tsh < 0x10000)
  | .opportunityStart _ => true
  | .uwbFrameLaunch _ slot _ => decide (slot < 128)
  | .uwbResponse _ _ _ => true
  | .uwbReport _ _ => true
  | .blink _ _ _ => true
  | .uwbSync _ slot _ _ => decide (slot < 128)
  | .uwbRxWindowEnd _ => true
  | .roundClose _ => true
  | .uwbAuxTx _ r _ => r.ok
  | .uwbAuxRx _ r _ => r.ok
  | .uwbAuxDone _ _ _ => true
  | .transceiverRequest _ _ cls _ _ _ _ _ _ => (decide (1 ≤ cls) && decide (cls ≤ 3))
  | .synthLocked _ _ => true
  | .synthLockTimeout _ _ => true
  | .packetEnd _ _ _ => true
  | .keepReadyExpiry _ _ => true
  | .offDelayExpiry _ _ => true
  | .gapCalibrationStart _ _ => true
  | .forcedCalibrationStart _ _ => true
  | .calibrationDone _ _ _ _ => true
  | .rfcCalRun _ r arg => r.ok && decide (arg < 0x100)
  | .annealTick _ _ => true
  | .advertisingEvent _ _ => true
  | .connectionOpen _ _ _ _ phy _ => decide (phy < 4)
  | .connectionClose _ conn => decide (conn < 8)
  | .connectionEvent _ conn _ _ _ _ _ => decide (conn < 8)
  | .mtuExchange _ conn mtu => decide (conn < 8) && decide (mtu < 0x10000)
  | .cccdWrite _ conn handle value => decide (conn < 8) && decide (handle < 0x10000) && decide (value < 0x10000)
  | .smpPairingRequest _ conn => decide (conn < 8)
  | .llEncReq _ conn => decide (conn < 8)
  | .phyUpdate _ conn phy => decide (conn < 8) && decide (phy < 4)
  | .connectionParamRequest _ conn _ _ _ => decide (conn < 8)
  | .noSessionLimit _ conn => decide (conn < 8)
  | .boostExpiry _ => true
  | .bleEngPublish _ r _ => r.ok
  | .bleEngNotify _ r _ => r.ok
  | .bleEngRelease _ r _ => r.ok
  | .bleEngRx _ r _ => r.ok
  | .engineCharWrite _ conn handle _ _ => decide (conn < 8) && decide (handle < 0x10000)
  | .attRead _ conn handle => decide (conn < 8) && decide (handle < 0x10000)
  | .indicationConfirm _ conn => decide (conn < 8)
  | .capScan _ cs => decide (cs.length = 4)
  | .capConfirmMeasure _ n c => decide (n < 4) && decide (c < 0x10000)
  | .capStuck _ n => decide (n < 4)
  | .touchHandoff _ n => decide (n < 4)
  | .lfExchangeStart _ vlf => decide (vlf < 0x10000)
  | .lfDriveMeasure _ peak _ _ _ => decide (peak < 0x10000)
  | .lfOvercurrentCut _ => true
  | .lfCarrierReturn _ => true
  | .seg1 _ _ => true
  | .lfNoSync _ => true
  | .seg2 _ _ snr => decide (snr < 0x100)
  | .reply _ _ snr => decide (snr < 0x100)
  | .uid _ _ => true
  | .confirm _ _ => true
  | .lfDiagRun _ r ch peak _ _ _ _ vlf => r.ok && decide (ch < 0x100) && decide (peak < 0x10000) && decide (vlf < 0x10000)
  | .vlfRecover _ vlf => decide (vlf < 0x10000)
  | .nfcPing _ p ext _ _ => decide (p < 2) && decide (ext < 0x10000)
  | .nfcActivation _ p ext vnfc cur _ => decide (p < 2) && decide (ext < 0x10000) && decide (vnfc < 0x10000) && decide (cur < 0x10000)
  | .nfcCardFrame _ p _ _ => decide (p < 2)
  | .nfcReserveAttempt _ p ext vnfc cur _ => decide (p < 2) && decide (ext < 0x10000) && decide (vnfc < 0x10000) && decide (cur < 0x10000)
  | .nfcRApdu _ p _ => decide (p < 2)
  | .nfcResponseTimeout _ p _ => decide (p < 2)
  | .nfcIdleEnd _ p => decide (p < 2)
  | .nfcExchangeMax _ p => decide (p < 2)
  | .nfcReactivate _ p ext vnfc cur _ => decide (p < 2) && decide (ext < 0x10000) && decide (vnfc < 0x10000) && decide (cur < 0x10000)
  | .nfcOvercurrentCut _ p => decide (p < 2)
  | .nfcFaultClear _ r _ => r.ok
  | .vnfcRecover _ vnfc => decide (vnfc < 0x10000)
  | .fieldPowerUp _ _ => true
  | .tearRecoveryEnd _ => true
  | .fieldLoss _ step => decide (step ≤ 5)
  | .reqa _ => true
  | .wupa _ => true
  | .anticollision _ level _ _ => (decide (1 ≤ level) && decide (level ≤ 3))
  | .rats _ => true
  | .ppsRequest _ pps1 => decide (pps1 < 0x100)
  | .hlta _ => true
  | .sDeselect _ => true
  | .selectApplication _ _ => true
  | .selectFile _ fid => decide (fid < 0x10000)
  | .readBinary _ off le => decide (off < 0x10000) && decide (le < 0x10000)
  | .updateBinary _ => true
  | .getInfo _ => true
  | .authBegin _ key => decide (key < 4)
  | .authFinish _ key _ => decide (key < 4)
  | .getRecordInfo _ n => decide (n < 24)
  | .readRecord _ n _ => decide (n < 24)
  | .writeRecord _ n _ => decide (n < 24)
  | .tagBadApdu _ cla ins p1 => decide (cla < 0x100) && decide (ins < 0x100) && decide (p1 < 0x100)
  | .tagWriteDone _ => true
  | .tagRecWrite _ r n data => r.ok && decide (n < 0x100) && decide (data.length < 0x10000)
  | .tagRecAclWrite _ r acl => r.ok && decide (acl < 0x100)
  | .tagNdefStage _ r off _ => r.ok && decide (off < 0x10000)
  | .tagNdefCommit _ r nlen => r.ok && decide (nlen < 0x10000)
  | .tagKeyWrite _ r k _ => r.ok && decide (k < 0x100)
  | .tagKeyUnblock _ r k => r.ok && decide (k < 0x100)
  | .cxSubmit _ r _ => r.ok
  | .cxTakeResult _ r => r.ok
  | .cxBlockDone _ core => decide (core < 4)
  | .cxRequestDone _ page => decide (page < 16)
  | .keyImport _ r _ => r.ok
  | .keyGenerate _ r _ => r.ok
  | .keyDerive _ r _ => r.ok
  | .keyExport _ r _ => r.ok
  | .keyErase _ r _ => r.ok
  | .keyZeroize _ r _ => r.ok
  | .keyZeroizeAll _ r _ => r.ok
  | .zeroizeOverwriteDone _ slot => decide (slot < 128)
  | .keyMirror _ _ _ => true
  | .keyMirrorAck _ _ _ => true
  | .keyMirrorTimeout _ => true
  | .sourceSettled _ src => decide (src < 3)
  | .assayBlock _ src blk => decide (src < 3) && decide (blk.length = 1024)
  | .sourceRestartDone _ src => decide (src < 3)
  | .drbgReseed _ => true
  | .reseedLimit _ => true
  | .drbgGenerate _ => true
  | .rngRandom _ r => r.ok
  | .add _ e => decide (e < 8)
  | .sub _ e => decide (e < 8)
  | .and_ _ e => decide (e < 8)
  | .or_ _ e => decide (e < 8)
  | .xor_ _ e => decide (e < 8)
  | .shl _ e => decide (e < 8)
  | .shr _ e => decide (e < 8)
  | .sar _ e => decide (e < 8)
  | .addi _ e => decide (e < 8)
  | .andi _ e => decide (e < 8)
  | .ori _ e => decide (e < 8)
  | .xori _ e => decide (e < 8)
  | .shli _ e => decide (e < 8)
  | .shri _ e => decide (e < 8)
  | .sari _ e => decide (e < 8)
  | .ldi _ e => decide (e < 8)
  | .lui _ e => decide (e < 8)
  | .mul _ e => decide (e < 8)
  | .muls _ e => decide (e < 8)
  | .mulResult _ e => decide (e < 8)
  | .mov _ e => decide (e < 8)
  | .clz _ e => decide (e < 8)
  | .bswap _ e => decide (e < 8)
  | .cmp _ e => decide (e < 8)
  | .cmpi _ e => decide (e < 8)
  | .plog _ e => decide (e < 8)
  | .ldw _ e => decide (e < 8)
  | .ldh _ e => decide (e < 8)
  | .ldb _ e => decide (e < 8)
  | .stw _ e => decide (e < 8)
  | .sth _ e => decide (e < 8)
  | .stb _ e => decide (e < 8)
  | .ldwp _ e => decide (e < 8)
  | .stwp _ e => decide (e < 8)
  | .ldo _ e => decide (e < 8)
  | .ldoReadRecord _ e => decide (e < 8)
  | .sto _ e => decide (e < 8)
  | .stoExec _ e => decide (e < 8)
  | .engineDictComplete _ e => decide (e < 8)
  | .br _ e => decide (e < 8)
  | .call _ e => decide (e < 8)
  | .ret _ e => decide (e < 8)
  | .jr _ e => decide (e < 8)
  | .callr _ e => decide (e < 8)
  | .rpt _ e => decide (e < 8)
  | .rptr _ e => decide (e < 8)
  | .mfs _ e => decide (e < 8)
  | .mts _ e => decide (e < 8)
  | .wfe _ e => decide (e < 8)
  | .waitt _ e => decide (e < 8)
  | .engineEventWake _ e => decide (e < 8)
  | .waittDeadline _ e => decide (e < 8)
  | .sev _ e => decide (e < 8)
  | .stop _ e => decide (e < 8)
  | .nop _ e => decide (e < 8)
  | .illegalOp _ e => decide (e < 8)
  | .engineWatchdog _ e => decide (e < 8)
  | .trapRestart _ e => decide (e < 8)
  | .breakpointHit _ e => decide (e < 8)
  | .engControlStart _ r e => r.ok && decide (e < 0x100)
  | .engControlStop _ r e => r.ok && decide (e < 0x100)
  | .engControlRestart _ r e => r.ok && decide (e < 0x100)
  | .engLoadBegin _ r e total => r.ok && decide (e < 0x100) && decide (total < 2 ^ 32)
  | .engLoadData _ r off _ => r.ok && decide (off < 2 ^ 32)
  | .engLoadCommit _ r => r.ok
  | .engLoadCommitDone _ => true
  | .engLoadAbort _ r => r.ok
  | .engLoadTimeout _ => true
  | .engDoorbell _ r e v => r.ok && decide (e < 0x100) && decide (v < 2 ^ 32)
  | .engDoorbellRx _ r => r.ok
  | .engObjWriteRx _ r => r.ok
  | .gpioEdge _ pin _ => decide (pin < 8)
  | .dbgIdent _ _ => true
  | .dbgUnlock _ _ => true
  | .dbgHalt _ _ => true
  | .dbgRun _ _ => true
  | .dbgStep _ _ => true
  | .dbgRegRead _ _ => true
  | .dbgRegWrite _ _ => true
  | .dbgMemRead _ _ => true
  | .dbgMemWrite _ _ => true
  | .dbgBreak _ _ => true
  | .canFrameRx _ c f _ => decide (c < 2) && f.ok
  | .netCanTx _ r _ => r.ok
  | .netCanRx _ r => r.ok
  | .netCanRecover _ r c => r.ok && decide (c < 0x100)
  | .canBusOff _ c => decide (c < 2)
  | .canBusOffRecovery _ c => decide (c < 2)
  | .canFrameTxDone _ c _ _ => decide (c < 2)
  | .launchTimeReached _ => true
  | .netEthTx _ r _ => r.ok
  | .netEthRx _ r => r.ok
  | .netTxDone _ r => r.ok
  | .t1sFrameRx _ da sa etype _ _ _ => decide (da.length = 6) && decide (sa.length = 6) && decide (etype < 0x10000)
  | .t1sFrameTxDone _ _ _ => true
  | .plcaBeaconLoss _ => true
  | .wairilLinkDown _ _ _ => true
  | .wairilCommaAlign _ => true
  | .wairilLinkUp _ => true
  | .qsOperationDone _ _ => true
  | .pps _ => true
  | .ppsWidthEnd _ => true
  | .timeStep _ r amount _ => r.ok && decide (amount < 2 ^ 96)
  | .timeSet _ r time => r.ok && decide (time < 2 ^ 96)
  | .timeSlew _ r ns => r.ok && isI32 ns
  | .timeStepConfirm _ r ceiling => r.ok && decide (ceiling < 2 ^ 96)
  | .timeAsymmetryWrite _ r v => r.ok && isI32 v
  | .sync _ seq _ _ _ => decide (seq < 0x10000)
  | .followUp _ seq _ _ => decide (seq < 0x10000)
  | .pdelayReq _ seq src => decide (seq < 0x10000) && decide (src.length = 10)
  | .pdelayResp _ _ seq ts => decide (seq < 0x10000) && decide (ts < 2 ^ 96)
  | .announce _ _ => true
  | .syncInterval _ => true
  | .pdelayInterval _ => true
  | .announceInterval _ => true
  | .timeSourceLoss _ => true
  | .holdoverLimit _ => true
  | .tsInEdge _ ch _ => decide (ch < 2)
  | .heartbeat _ _ _ => true
  | .heartbeatPeriod _ _ => true
  | .presence _ _ => true
  | .presencePeriod _ => true
  | .roundPlan _ _ => true
  | .report _ _ => true
  | .lfRequest _ _ => true
  | .join _ _ => true
  | .joinAck _ _ => true
  | .joinRepeat _ => true
  | .workerLost _ node => decide (node < 16)
  | .mgrLoss _ => true
  | .peerLoss _ _ => true
  | .twinResolutionTimeout _ => true
  | .electionTimeout _ => true
  | .mirror _ _ _ => true
  | .tinDigest _ _ _ => true
  | .tinPull _ _ _ => true
  | .tinData _ _ _ => true
  | .tinPeriod _ => true
  | .twinTinRun _ r => r.ok
  | .twinTakeover _ r _ => r.ok
  | .commit _ _ _ => true
  | .commitAck _ _ _ => true
  | .commitResend _ => true
  | .vaonPor _ => true
  | .vaonLoss _ step => decide (step ≤ 5)
  | .vsupBrownout _ => true
  | .vioUndervoltage _ => true
  | .vioReturn _ => true
  | .resetN _ => true
  | .resetRelease _ _ qsType qsId _ => decide (qsType < 0x100) && decide (qsId.length = 3)
  | .startUpSelfTestDone _ fail _ _ => decide (fail < 2 ^ 32)
  | .aonWatchdog _ => true
  | .watchdogRestart _ => true
  | .pwrShutdown _ r _ => r.ok
  | .shutdownExit _ src => decide (src < 11)
  | .corePowerDown _ => true
  | .coreWake _ src => decide (src < 2 ^ 11)
  | .scheduledWake _ => true
  | .pllLock _ => true
  | .pllLockLoss _ => true
  | .pllRelockTimeout _ => true
  | .referenceMonitorPass _ => true
  | .referenceLoss _ => true
  | .slowXtalSwitch _ => true
  | .slowXtalFail _ => true
  | .clockRatioMeasure _ _ => true
  | .tmrCtrlWrite _ r n v => r.ok && decide (n < 12) && decide (v < 2 ^ 32)
  | .tmrEndWrite _ r n v => r.ok && decide (n < 12) && decide (v < 2 ^ 32)
  | .tmrCmpWrite _ r n v => r.ok && decide (n < 12) && decide (v < 2 ^ 32)
  | .tmrStatusWrite _ r n v => r.ok && decide (n < 12) && decide (v < 0x10000)
  | .tmrCaptureRead _ r n => r.ok && decide (n < 12)
  | .tmrCountEnd _ n => decide (n < 12)
  | .tmrMatch _ n => decide (n < 12)
  | .tmrMatchB _ n => decide (n < 12)
  | .tmrZeroTurn _ n => decide (n < 12)
  | .tmrCaptureEdge _ n src _ => decide (n < 12) && (decide (1 ≤ src) && decide (src ≤ 11))
  | .burnishStep _ err _ _ _ => decide (err < 3)
  | .burnishSlotWake _ => true
  | .limiterSample _ _ _ => true
  | .limiterStageFall _ => true
  | .canTelemetry _ => true
  | .logHeadWrite _ => true
  | .logSectorWrite _ _ => true
  | .canBusError _ c _ => decide (c < 2)
  | .plcaBeaconReturn _ => true
  | .notifyGapExpiry _ r idx sub => r.ok && decide (idx < 0x10000) && decide (sub < 0x100)
  | .nfcWupRetry _ p => decide (p < 2)

/-- The same, as a proposition. -/
abbrev Instr.WellFormed (i : Instr) : Prop := instrOk i = true

end Sys2Proof
end

