-- ==== Sys2Proof/Laws/PerInstr.lean ====
section
/-! SUPPORT. One lemma per command: the time stamp of a command is independent of its operands and of their well-formedness. -/
namespace Sys2Proof

/-- The same command at another time. -/
noncomputable def Instr.atTime (t : Nat) : Instr → Instr
  | .spiStatus _ => .spiStatus t
  | .spiWriteReq _ x0 => .spiWriteReq t x0
  | .spiReadRsp _ x0 => .spiReadRsp t x0
  | .spiReadNtf _ x0 => .spiReadNtf t x0
  | .spiUndefinedCommand _ x0 x1 => .spiUndefinedCommand t x0 x1
  | .dictResponseReady _ => .dictResponseReady t
  | .write _ x0 x1 x2 x3 => .write t x0 x1 x2 x3
  | .pendingValueApply _ x0 x1 => .pendingValueApply t x0 x1
  | .subscribe _ x0 x1 x2 x3 x4 x5 => .subscribe t x0 x1 x2 x3 x4 x5
  | .unsubscribe _ x0 x1 x2 => .unsubscribe t x0 x1 x2
  | .notifyPeriodic _ x0 x1 x2 => .notifyPeriodic t x0 x1 x2
  | .loginHello _ x0 x1 x2 => .loginHello t x0 x1 x2
  | .loginProof _ x0 x1 x2 => .loginProof t x0 x1 x2
  | .logout _ x0 x1 => .logout t x0 x1
  | .loginProofTimeout _ x0 => .loginProofTimeout t x0
  | .sessionIdleTimeout _ x0 => .sessionIdleTimeout t x0
  | .requesterLockoutEnd _ x0 => .requesterLockoutEnd t x0
  | .dictFrameT1s _ x0 x1 x2 => .dictFrameT1s t x0 x1 x2
  | .canFdSegment _ x0 x1 x2 => .canFdSegment t x0 x1 x2
  | .canFdSegmentTimeout _ x0 => .canFdSegmentTimeout t x0
  | .canXlDictFrame _ x0 x1 x2 x3 => .canXlDictFrame t x0 x1 x2 x3
  | .wairilFrame _ x0 x1 => .wairilFrame t x0 x1
  | .v1Read _ x0 => .v1Read t x0
  | .v1Write _ x0 => .v1Write t x0
  | .unlockReq _ x0 => .unlockReq t x0
  | .unlockProof _ x0 => .unlockProof t x0
  | .v1UnlockExpiry _ => .v1UnlockExpiry t
  | .v1LockoutEnd _ => .v1LockoutEnd t
  | .devCommit _ x0 => .devCommit t x0
  | .devCommitDone _ x0 => .devCommitDone t x0
  | .devRestoreDefaults _ x0 => .devRestoreDefaults t x0
  | .devResetSystem _ x0 => .devResetSystem t x0
  | .devResetCold _ x0 => .devResetCold t x0
  | .devSelfTest _ x0 => .devSelfTest t x0
  | .devSelfTestDone _ x0 x1 => .devSelfTestDone t x0 x1
  | .credClockConfirm _ x0 x1 => .credClockConfirm t x0 x1
  | .credRevoke _ x0 x1 => .credRevoke t x0 x1
  | .vcSecond _ => .vcSecond t
  | .floorPeriod _ => .floorPeriod t
  | .resyncTimeout _ => .resyncTimeout t
  | .journalRecordDone _ x0 => .journalRecordDone t x0
  | .compactionStart _ => .compactionStart t
  | .compactionPass _ => .compactionPass t
  | .compactionSwitch _ => .compactionSwitch t
  | .tokenProof _ x0 x1 => .tokenProof t x0 x1
  | .credProof _ x0 x1 => .credProof t x0 x1
  | .attest _ x0 x1 => .attest t x0 x1
  | .enrolCode _ x0 x1 => .enrolCode t x0 x1
  | .enrolRequest _ x0 x1 => .enrolRequest t x0 x1
  | .revokeRequest _ x0 x1 => .revokeRequest t x0 x1
  | .endMessage _ x0 x1 => .endMessage t x0 x1
  | .zariqueDrop _ x0 x1 => .zariqueDrop t x0 x1
  | .challenge _ x0 => .challenge t x0
  | .prompt _ x0 => .prompt t x0
  | .rangingSetup _ x0 => .rangingSetup t x0
  | .keyDeliveryAck _ x0 => .keyDeliveryAck t x0
  | .challengeExpiry _ => .challengeExpiry t
  | .doorOpenEdge _ x0 x1 x2 => .doorOpenEdge t x0 x1 x2
  | .entryTimeout _ => .entryTimeout t
  | .startTimeout _ => .startTimeout t
  | .ignInFall _ => .ignInFall t
  | .ignInRise _ => .ignInRise t
  | .lockoutEnd _ => .lockoutEnd t
  | .lockoutPersist _ => .lockoutPersist t
  | .learnWindowExpiry _ => .learnWindowExpiry t
  | .accLearnCancel _ x0 => .accLearnCancel t x0
  | .accRevokeToken _ x0 x1 => .accRevokeToken t x0 x1
  | .accLockoutClear _ x0 x1 => .accLockoutClear t x0 x1
  | .accEnrolImport _ x0 x1 => .accEnrolImport t x0 x1
  | .evidenceItem _ x0 x1 => .evidenceItem t x0 x1
  | .evaluationDone _ => .evaluationDone t
  | .requestWindowEnd _ x0 x1 => .requestWindowEnd t x0 x1
  | .vetoHoldEnd _ => .vetoHoldEnd t
  | .roundGraceExpiry _ x0 x1 => .roundGraceExpiry t x0 x1
  | .verdictExpiry _ x0 x1 => .verdictExpiry t x0 x1
  | .tsApply _ x0 => .tsApply t x0
  | .sealIssue _ x0 x1 => .sealIssue t x0 x1
  | .pulseEnd _ x0 x1 => .pulseEnd t x0 x1
  | .deadTimeEnd _ x0 => .deadTimeEnd t x0
  | .gateLock _ x0 => .gateLock t x0
  | .gateRbSample _ x0 x1 => .gateRbSample t x0 x1
  | .startEnLimit _ => .startEnLimit t
  | .gateFaultClear _ x0 x1 => .gateFaultClear t x0 x1
  | .gateQuench _ x0 x1 => .gateQuench t x0 x1
  | .sealPathFault _ => .sealPathFault t
  | .immoChallenge _ x0 => .immoChallenge t x0
  | .immoAck _ x0 => .immoAck t x0
  | .immoReleasePeriod _ => .immoReleasePeriod t
  | .immoWaitExpiry _ => .immoWaitExpiry t
  | .limiterCut _ x0 x1 => .limiterCut t x0 x1
  | .gpioHoldExpiry _ x0 => .gpioHoldExpiry t x0
  | .blockStart _ x0 => .blockStart t x0
  | .opportunityStart _ => .opportunityStart t
  | .uwbFrameLaunch _ x0 x1 => .uwbFrameLaunch t x0 x1
  | .uwbResponse _ x0 x1 => .uwbResponse t x0 x1
  | .uwbReport _ x0 => .uwbReport t x0
  | .blink _ x0 x1 => .blink t x0 x1
  | .uwbSync _ x0 x1 x2 => .uwbSync t x0 x1 x2
  | .uwbRxWindowEnd _ => .uwbRxWindowEnd t
  | .roundClose _ => .roundClose t
  | .uwbAuxTx _ x0 x1 => .uwbAuxTx t x0 x1
  | .uwbAuxRx _ x0 x1 => .uwbAuxRx t x0 x1
  | .uwbAuxDone _ x0 x1 => .uwbAuxDone t x0 x1
  | .transceiverRequest _ x0 x1 x2 x3 x4 x5 x6 x7 => .transceiverRequest t x0 x1 x2 x3 x4 x5 x6 x7
  | .synthLocked _ x0 => .synthLocked t x0
  | .synthLockTimeout _ x0 => .synthLockTimeout t x0
  | .packetEnd _ x0 x1 => .packetEnd t x0 x1
  | .keepReadyExpiry _ x0 => .keepReadyExpiry t x0
  | .offDelayExpiry _ x0 => .offDelayExpiry t x0
  | .gapCalibrationStart _ x0 => .gapCalibrationStart t x0
  | .forcedCalibrationStart _ x0 => .forcedCalibrationStart t x0
  | .calibrationDone _ x0 x1 x2 => .calibrationDone t x0 x1 x2
  | .rfcCalRun _ x0 x1 => .rfcCalRun t x0 x1
  | .annealTick _ x0 => .annealTick t x0
  | .advertisingEvent _ x0 => .advertisingEvent t x0
  | .connectionOpen _ x0 x1 x2 x3 x4 => .connectionOpen t x0 x1 x2 x3 x4
  | .connectionClose _ x0 => .connectionClose t x0
  | .connectionEvent _ x0 x1 x2 x3 x4 x5 => .connectionEvent t x0 x1 x2 x3 x4 x5
  | .mtuExchange _ x0 x1 => .mtuExchange t x0 x1
  | .cccdWrite _ x0 x1 x2 => .cccdWrite t x0 x1 x2
  | .smpPairingRequest _ x0 => .smpPairingRequest t x0
  | .llEncReq _ x0 => .llEncReq t x0
  | .phyUpdate _ x0 x1 => .phyUpdate t x0 x1
  | .connectionParamRequest _ x0 x1 x2 x3 => .connectionParamRequest t x0 x1 x2 x3
  | .noSessionLimit _ x0 => .noSessionLimit t x0
  | .boostExpiry _ => .boostExpiry t
  | .bleEngPublish _ x0 x1 => .bleEngPublish t x0 x1
  | .bleEngNotify _ x0 x1 => .bleEngNotify t x0 x1
  | .bleEngRelease _ x0 x1 => .bleEngRelease t x0 x1
  | .bleEngRx _ x0 x1 => .bleEngRx t x0 x1
  | .engineCharWrite _ x0 x1 x2 x3 => .engineCharWrite t x0 x1 x2 x3
  | .attRead _ x0 x1 => .attRead t x0 x1
  | .indicationConfirm _ x0 => .indicationConfirm t x0
  | .capScan _ x0 => .capScan t x0
  | .capConfirmMeasure _ x0 x1 => .capConfirmMeasure t x0 x1
  | .capStuck _ x0 => .capStuck t x0
  | .touchHandoff _ x0 => .touchHandoff t x0
  | .lfExchangeStart _ x0 => .lfExchangeStart t x0
  | .lfDriveMeasure _ x0 x1 x2 x3 => .lfDriveMeasure t x0 x1 x2 x3
  | .lfOvercurrentCut _ => .lfOvercurrentCut t
  | .lfCarrierReturn _ => .lfCarrierReturn t
  | .seg1 _ x0 => .seg1 t x0
  | .lfNoSync _ => .lfNoSync t
  | .seg2 _ x0 x1 => .seg2 t x0 x1
  | .reply _ x0 x1 => .reply t x0 x1
  | .uid _ x0 => .uid t x0
  | .confirm _ x0 => .confirm t x0
  | .lfDiagRun _ x0 x1 x2 x3 x4 x5 x6 x7 => .lfDiagRun t x0 x1 x2 x3 x4 x5 x6 x7
  | .vlfRecover _ x0 => .vlfRecover t x0
  | .nfcPing _ x0 x1 x2 x3 => .nfcPing t x0 x1 x2 x3
  | .nfcActivation _ x0 x1 x2 x3 x4 => .nfcActivation t x0 x1 x2 x3 x4
  | .nfcCardFrame _ x0 x1 x2 => .nfcCardFrame t x0 x1 x2
  | .nfcReserveAttempt _ x0 x1 x2 x3 x4 => .nfcReserveAttempt t x0 x1 x2 x3 x4
  | .nfcRApdu _ x0 x1 => .nfcRApdu t x0 x1
  | .nfcResponseTimeout _ x0 x1 => .nfcResponseTimeout t x0 x1
  | .nfcIdleEnd _ x0 => .nfcIdleEnd t x0
  | .nfcExchangeMax _ x0 => .nfcExchangeMax t x0
  | .nfcReactivate _ x0 x1 x2 x3 x4 => .nfcReactivate t x0 x1 x2 x3 x4
  | .nfcOvercurrentCut _ x0 => .nfcOvercurrentCut t x0
  | .nfcFaultClear _ x0 x1 => .nfcFaultClear t x0 x1
  | .vnfcRecover _ x0 => .vnfcRecover t x0
  | .fieldPowerUp _ x0 => .fieldPowerUp t x0
  | .tearRecoveryEnd _ => .tearRecoveryEnd t
  | .fieldLoss _ x0 => .fieldLoss t x0
  | .reqa _ => .reqa t
  | .wupa _ => .wupa t
  | .anticollision _ x0 x1 x2 => .anticollision t x0 x1 x2
  | .rats _ => .rats t
  | .ppsRequest _ x0 => .ppsRequest t x0
  | .hlta _ => .hlta t
  | .sDeselect _ => .sDeselect t
  | .selectApplication _ x0 => .selectApplication t x0
  | .selectFile _ x0 => .selectFile t x0
  | .readBinary _ x0 x1 => .readBinary t x0 x1
  | .updateBinary _ => .updateBinary t
  | .getInfo _ => .getInfo t
  | .authBegin _ x0 => .authBegin t x0
  | .authFinish _ x0 x1 => .authFinish t x0 x1
  | .getRecordInfo _ x0 => .getRecordInfo t x0
  | .readRecord _ x0 x1 => .readRecord t x0 x1
  | .writeRecord _ x0 x1 => .writeRecord t x0 x1
  | .tagBadApdu _ x0 x1 x2 => .tagBadApdu t x0 x1 x2
  | .tagWriteDone _ => .tagWriteDone t
  | .tagRecWrite _ x0 x1 x2 => .tagRecWrite t x0 x1 x2
  | .tagRecAclWrite _ x0 x1 => .tagRecAclWrite t x0 x1
  | .tagNdefStage _ x0 x1 x2 => .tagNdefStage t x0 x1 x2
  | .tagNdefCommit _ x0 x1 => .tagNdefCommit t x0 x1
  | .tagKeyWrite _ x0 x1 x2 => .tagKeyWrite t x0 x1 x2
  | .tagKeyUnblock _ x0 x1 => .tagKeyUnblock t x0 x1
  | .cxSubmit _ x0 x1 => .cxSubmit t x0 x1
  | .cxTakeResult _ x0 => .cxTakeResult t x0
  | .cxBlockDone _ x0 => .cxBlockDone t x0
  | .cxRequestDone _ x0 => .cxRequestDone t x0
  | .keyImport _ x0 x1 => .keyImport t x0 x1
  | .keyGenerate _ x0 x1 => .keyGenerate t x0 x1
  | .keyDerive _ x0 x1 => .keyDerive t x0 x1
  | .keyExport _ x0 x1 => .keyExport t x0 x1
  | .keyErase _ x0 x1 => .keyErase t x0 x1
  | .keyZeroize _ x0 x1 => .keyZeroize t x0 x1
  | .keyZeroizeAll _ x0 x1 => .keyZeroizeAll t x0 x1
  | .zeroizeOverwriteDone _ x0 => .zeroizeOverwriteDone t x0
  | .keyMirror _ x0 x1 => .keyMirror t x0 x1
  | .keyMirrorAck _ x0 x1 => .keyMirrorAck t x0 x1
  | .keyMirrorTimeout _ => .keyMirrorTimeout t
  | .sourceSettled _ x0 => .sourceSettled t x0
  | .assayBlock _ x0 x1 => .assayBlock t x0 x1
  | .sourceRestartDone _ x0 => .sourceRestartDone t x0
  | .drbgReseed _ => .drbgReseed t
  | .reseedLimit _ => .reseedLimit t
  | .drbgGenerate _ => .drbgGenerate t
  | .rngRandom _ x0 => .rngRandom t x0
  | .add _ x0 => .add t x0
  | .sub _ x0 => .sub t x0
  | .and_ _ x0 => .and_ t x0
  | .or_ _ x0 => .or_ t x0
  | .xor_ _ x0 => .xor_ t x0
  | .shl _ x0 => .shl t x0
  | .shr _ x0 => .shr t x0
  | .sar _ x0 => .sar t x0
  | .addi _ x0 => .addi t x0
  | .andi _ x0 => .andi t x0
  | .ori _ x0 => .ori t x0
  | .xori _ x0 => .xori t x0
  | .shli _ x0 => .shli t x0
  | .shri _ x0 => .shri t x0
  | .sari _ x0 => .sari t x0
  | .ldi _ x0 => .ldi t x0
  | .lui _ x0 => .lui t x0
  | .mul _ x0 => .mul t x0
  | .muls _ x0 => .muls t x0
  | .mulResult _ x0 => .mulResult t x0
  | .mov _ x0 => .mov t x0
  | .clz _ x0 => .clz t x0
  | .bswap _ x0 => .bswap t x0
  | .cmp _ x0 => .cmp t x0
  | .cmpi _ x0 => .cmpi t x0
  | .plog _ x0 => .plog t x0
  | .ldw _ x0 => .ldw t x0
  | .ldh _ x0 => .ldh t x0
  | .ldb _ x0 => .ldb t x0
  | .stw _ x0 => .stw t x0
  | .sth _ x0 => .sth t x0
  | .stb _ x0 => .stb t x0
  | .ldwp _ x0 => .ldwp t x0
  | .stwp _ x0 => .stwp t x0
  | .ldo _ x0 => .ldo t x0
  | .ldoReadRecord _ x0 => .ldoReadRecord t x0
  | .sto _ x0 => .sto t x0
  | .stoExec _ x0 => .stoExec t x0
  | .engineDictComplete _ x0 => .engineDictComplete t x0
  | .br _ x0 => .br t x0
  | .call _ x0 => .call t x0
  | .ret _ x0 => .ret t x0
  | .jr _ x0 => .jr t x0
  | .callr _ x0 => .callr t x0
  | .rpt _ x0 => .rpt t x0
  | .rptr _ x0 => .rptr t x0
  | .mfs _ x0 => .mfs t x0
  | .mts _ x0 => .mts t x0
  | .wfe _ x0 => .wfe t x0
  | .waitt _ x0 => .waitt t x0
  | .engineEventWake _ x0 => .engineEventWake t x0
  | .waittDeadline _ x0 => .waittDeadline t x0
  | .sev _ x0 => .sev t x0
  | .stop _ x0 => .stop t x0
  | .nop _ x0 => .nop t x0
  | .illegalOp _ x0 => .illegalOp t x0
  | .engineWatchdog _ x0 => .engineWatchdog t x0
  | .trapRestart _ x0 => .trapRestart t x0
  | .breakpointHit _ x0 => .breakpointHit t x0
  | .engControlStart _ x0 x1 => .engControlStart t x0 x1
  | .engControlStop _ x0 x1 => .engControlStop t x0 x1
  | .engControlRestart _ x0 x1 => .engControlRestart t x0 x1
  | .engLoadBegin _ x0 x1 x2 => .engLoadBegin t x0 x1 x2
  | .engLoadData _ x0 x1 x2 => .engLoadData t x0 x1 x2
  | .engLoadCommit _ x0 => .engLoadCommit t x0
  | .engLoadCommitDone _ => .engLoadCommitDone t
  | .engLoadAbort _ x0 => .engLoadAbort t x0
  | .engLoadTimeout _ => .engLoadTimeout t
  | .engDoorbell _ x0 x1 x2 => .engDoorbell t x0 x1 x2
  | .engDoorbellRx _ x0 => .engDoorbellRx t x0
  | .engObjWriteRx _ x0 => .engObjWriteRx t x0
  | .gpioEdge _ x0 x1 => .gpioEdge t x0 x1
  | .dbgIdent _ x0 => .dbgIdent t x0
  | .dbgUnlock _ x0 => .dbgUnlock t x0
  | .dbgHalt _ x0 => .dbgHalt t x0
  | .dbgRun _ x0 => .dbgRun t x0
  | .dbgStep _ x0 => .dbgStep t x0
  | .dbgRegRead _ x0 => .dbgRegRead t x0
  | .dbgRegWrite _ x0 => .dbgRegWrite t x0
  | .dbgMemRead _ x0 => .dbgMemRead t x0
  | .dbgMemWrite _ x0 => .dbgMemWrite t x0
  | .dbgBreak _ x0 => .dbgBreak t x0
  | .canFrameRx _ x0 x1 x2 => .canFrameRx t x0 x1 x2
  | .netCanTx _ x0 x1 => .netCanTx t x0 x1
  | .netCanRx _ x0 => .netCanRx t x0
  | .netCanRecover _ x0 x1 => .netCanRecover t x0 x1
  | .canBusOff _ x0 => .canBusOff t x0
  | .canBusOffRecovery _ x0 => .canBusOffRecovery t x0
  | .canFrameTxDone _ x0 x1 x2 => .canFrameTxDone t x0 x1 x2
  | .launchTimeReached _ => .launchTimeReached t
  | .netEthTx _ x0 x1 => .netEthTx t x0 x1
  | .netEthRx _ x0 => .netEthRx t x0
  | .netTxDone _ x0 => .netTxDone t x0
  | .t1sFrameRx _ x0 x1 x2 x3 x4 x5 => .t1sFrameRx t x0 x1 x2 x3 x4 x5
  | .t1sFrameTxDone _ x0 x1 => .t1sFrameTxDone t x0 x1
  | .plcaBeaconLoss _ => .plcaBeaconLoss t
  | .wairilLinkDown _ x0 x1 => .wairilLinkDown t x0 x1
  | .wairilCommaAlign _ => .wairilCommaAlign t
  | .wairilLinkUp _ => .wairilLinkUp t
  | .qsOperationDone _ x0 => .qsOperationDone t x0
  | .pps _ => .pps t
  | .ppsWidthEnd _ => .ppsWidthEnd t
  | .timeStep _ x0 x1 x2 => .timeStep t x0 x1 x2
  | .timeSet _ x0 x1 => .timeSet t x0 x1
  | .timeSlew _ x0 x1 => .timeSlew t x0 x1
  | .timeStepConfirm _ x0 x1 => .timeStepConfirm t x0 x1
  | .timeAsymmetryWrite _ x0 x1 => .timeAsymmetryWrite t x0 x1
  | .sync _ x0 x1 x2 x3 => .sync t x0 x1 x2 x3
  | .followUp _ x0 x1 x2 => .followUp t x0 x1 x2
  | .pdelayReq _ x0 x1 => .pdelayReq t x0 x1
  | .pdelayResp _ x0 x1 x2 => .pdelayResp t x0 x1 x2
  | .announce _ x0 => .announce t x0
  | .syncInterval _ => .syncInterval t
  | .pdelayInterval _ => .pdelayInterval t
  | .announceInterval _ => .announceInterval t
  | .timeSourceLoss _ => .timeSourceLoss t
  | .holdoverLimit _ => .holdoverLimit t
  | .tsInEdge _ x0 x1 => .tsInEdge t x0 x1
  | .heartbeat _ x0 x1 => .heartbeat t x0 x1
  | .heartbeatPeriod _ x0 => .heartbeatPeriod t x0
  | .presence _ x0 => .presence t x0
  | .presencePeriod _ => .presencePeriod t
  | .roundPlan _ x0 => .roundPlan t x0
  | .report _ x0 => .report t x0
  | .lfRequest _ x0 => .lfRequest t x0
  | .join _ x0 => .join t x0
  | .joinAck _ x0 => .joinAck t x0
  | .joinRepeat _ => .joinRepeat t
  | .workerLost _ x0 => .workerLost t x0
  | .mgrLoss _ => .mgrLoss t
  | .peerLoss _ x0 => .peerLoss t x0
  | .twinResolutionTimeout _ => .twinResolutionTimeout t
  | .electionTimeout _ => .electionTimeout t
  | .mirror _ x0 x1 => .mirror t x0 x1
  | .tinDigest _ x0 x1 => .tinDigest t x0 x1
  | .tinPull _ x0 x1 => .tinPull t x0 x1
  | .tinData _ x0 x1 => .tinData t x0 x1
  | .tinPeriod _ => .tinPeriod t
  | .twinTinRun _ x0 => .twinTinRun t x0
  | .twinTakeover _ x0 x1 => .twinTakeover t x0 x1
  | .commit _ x0 x1 => .commit t x0 x1
  | .commitAck _ x0 x1 => .commitAck t x0 x1
  | .commitResend _ => .commitResend t
  | .vaonPor _ => .vaonPor t
  | .vaonLoss _ x0 => .vaonLoss t x0
  | .vsupBrownout _ => .vsupBrownout t
  | .vioUndervoltage _ => .vioUndervoltage t
  | .vioReturn _ => .vioReturn t
  | .resetN _ => .resetN t
  | .resetRelease _ x0 x1 x2 x3 => .resetRelease t x0 x1 x2 x3
  | .startUpSelfTestDone _ x0 x1 x2 => .startUpSelfTestDone t x0 x1 x2
  | .aonWatchdog _ => .aonWatchdog t
  | .watchdogRestart _ => .watchdogRestart t
  | .pwrShutdown _ x0 x1 => .pwrShutdown t x0 x1
  | .shutdownExit _ x0 => .shutdownExit t x0
  | .corePowerDown _ => .corePowerDown t
  | .coreWake _ x0 => .coreWake t x0
  | .scheduledWake _ => .scheduledWake t
  | .pllLock _ => .pllLock t
  | .pllLockLoss _ => .pllLockLoss t
  | .pllRelockTimeout _ => .pllRelockTimeout t
  | .referenceMonitorPass _ => .referenceMonitorPass t
  | .referenceLoss _ => .referenceLoss t
  | .slowXtalSwitch _ => .slowXtalSwitch t
  | .slowXtalFail _ => .slowXtalFail t
  | .clockRatioMeasure _ x0 => .clockRatioMeasure t x0
  | .tmrCtrlWrite _ x0 x1 x2 => .tmrCtrlWrite t x0 x1 x2
  | .tmrEndWrite _ x0 x1 x2 => .tmrEndWrite t x0 x1 x2
  | .tmrCmpWrite _ x0 x1 x2 => .tmrCmpWrite t x0 x1 x2
  | .tmrStatusWrite _ x0 x1 x2 => .tmrStatusWrite t x0 x1 x2
  | .tmrCaptureRead _ x0 x1 => .tmrCaptureRead t x0 x1
  | .tmrCountEnd _ x0 => .tmrCountEnd t x0
  | .tmrMatch _ x0 => .tmrMatch t x0
  | .tmrMatchB _ x0 => .tmrMatchB t x0
  | .tmrZeroTurn _ x0 => .tmrZeroTurn t x0
  | .tmrCaptureEdge _ x0 x1 x2 => .tmrCaptureEdge t x0 x1 x2
  | .burnishStep _ x0 x1 x2 x3 => .burnishStep t x0 x1 x2 x3
  | .burnishSlotWake _ => .burnishSlotWake t
  | .limiterSample _ x0 x1 => .limiterSample t x0 x1
  | .limiterStageFall _ => .limiterStageFall t
  | .canTelemetry _ => .canTelemetry t
  | .logHeadWrite _ => .logHeadWrite t
  | .logSectorWrite _ x0 => .logSectorWrite t x0
  | .canBusError _ x0 x1 => .canBusError t x0 x1
  | .plcaBeaconReturn _ => .plcaBeaconReturn t
  | .notifyGapExpiry _ x0 x1 x2 => .notifyGapExpiry t x0 x1 x2
  | .nfcWupRetry _ x0 => .nfcWupRetry t x0

namespace Laws.Stamped

/-- A command may come at any time: moving it changes its time, and neither its other operands (moving it back restores it) nor
whether it is well-formed. -/
def Statement (i : Instr) : Prop :=
  ∀ u, (i.atTime u).time = u ∧ instrOk (i.atTime u) = instrOk i ∧ (i.atTime u).atTime i.time = i

theorem spiStatus (t : Nat) : Statement (.spiStatus t) := fun _ => ⟨rfl, rfl, rfl⟩
theorem spiWriteReq (t : Nat) (pdu : Bytes) : Statement (.spiWriteReq t pdu) := fun _ => ⟨rfl, rfl, rfl⟩
theorem spiReadRsp (t : Nat) (n : Nat) : Statement (.spiReadRsp t n) := fun _ => ⟨rfl, rfl, rfl⟩
theorem spiReadNtf (t : Nat) (n : Nat) : Statement (.spiReadNtf t n) := fun _ => ⟨rfl, rfl, rfl⟩
theorem spiUndefinedCommand (t : Nat) (cmd n : Nat) : Statement (.spiUndefinedCommand t cmd n) := fun _ => ⟨rfl, rfl, rfl⟩
theorem dictResponseReady (t : Nat) : Statement (.dictResponseReady t) := fun _ => ⟨rfl, rfl, rfl⟩
theorem write (t : Nat) (r : Requester) (idx sub : Nat) (data : Bytes) : Statement (.write t r idx sub data) := fun _ => ⟨rfl, rfl, rfl⟩
theorem pendingValueApply (t : Nat) (idx sub : Nat) : Statement (.pendingValueApply t idx sub) := fun _ => ⟨rfl, rfl, rfl⟩
theorem subscribe (t : Nat) (r : Requester) (idx sub mode period gap : Nat) : Statement (.subscribe t r idx sub mode period gap) := fun _ => ⟨rfl, rfl, rfl⟩
theorem unsubscribe (t : Nat) (r : Requester) (idx sub : Nat) : Statement (.unsubscribe t r idx sub) := fun _ => ⟨rfl, rfl, rfl⟩
theorem notifyPeriodic (t : Nat) (r : Requester) (idx sub : Nat) : Statement (.notifyPeriodic t r idx sub) := fun _ => ⟨rfl, rfl, rfl⟩
theorem loginHello (t : Nat) (via : Transport) (seq : Nat) (d : Bytes) : Statement (.loginHello t via seq d) := fun _ => ⟨rfl, rfl, rfl⟩
theorem loginProof (t : Nat) (via : Transport) (seq : Nat) (d : Bytes) : Statement (.loginProof t via seq d) := fun _ => ⟨rfl, rfl, rfl⟩
theorem logout (t : Nat) (sid seq : Nat) : Statement (.logout t sid seq) := fun _ => ⟨rfl, rfl, rfl⟩
theorem loginProofTimeout (t : Nat) (sid : Nat) : Statement (.loginProofTimeout t sid) := fun _ => ⟨rfl, rfl, rfl⟩
theorem sessionIdleTimeout (t : Nat) (sid : Nat) : Statement (.sessionIdleTimeout t sid) := fun _ => ⟨rfl, rfl, rfl⟩
theorem requesterLockoutEnd (t : Nat) (rid : Nat) : Statement (.requesterLockoutEnd t rid) := fun _ => ⟨rfl, rfl, rfl⟩
theorem dictFrameT1s (t : Nat) (da sa payload : Bytes) : Statement (.dictFrameT1s t da sa payload) := fun _ => ⟨rfl, rfl, rfl⟩
theorem canFdSegment (t : Nat) (c id : Nat) (d : Bytes) : Statement (.canFdSegment t c id d) := fun _ => ⟨rfl, rfl, rfl⟩
theorem canFdSegmentTimeout (t : Nat) (c : Nat) : Statement (.canFdSegmentTimeout t c) := fun _ => ⟨rfl, rfl, rfl⟩
theorem canXlDictFrame (t : Nat) (c id sdt : Nat) (d : Bytes) : Statement (.canXlDictFrame t c id sdt d) := fun _ => ⟨rfl, rfl, rfl⟩
theorem wairilFrame (t : Nat) (raw : Bytes) (fills : Nat) : Statement (.wairilFrame t raw fills) := fun _ => ⟨rfl, rfl, rfl⟩
theorem v1Read (t : Nat) (f : Bytes) : Statement (.v1Read t f) := fun _ => ⟨rfl, rfl, rfl⟩
theorem v1Write (t : Nat) (f : Bytes) : Statement (.v1Write t f) := fun _ => ⟨rfl, rfl, rfl⟩
theorem unlockReq (t : Nat) (f : Bytes) : Statement (.unlockReq t f) := fun _ => ⟨rfl, rfl, rfl⟩
theorem unlockProof (t : Nat) (f : Bytes) : Statement (.unlockProof t f) := fun _ => ⟨rfl, rfl, rfl⟩
theorem v1UnlockExpiry (t : Nat) : Statement (.v1UnlockExpiry t) := fun _ => ⟨rfl, rfl, rfl⟩
theorem v1LockoutEnd (t : Nat) : Statement (.v1LockoutEnd t) := fun _ => ⟨rfl, rfl, rfl⟩
theorem devCommit (t : Nat) (r : Requester) : Statement (.devCommit t r) := fun _ => ⟨rfl, rfl, rfl⟩
theorem devCommitDone (t : Nat) (ok : Bool) : Statement (.devCommitDone t ok) := fun _ => ⟨rfl, rfl, rfl⟩
theorem devRestoreDefaults (t : Nat) (r : Requester) : Statement (.devRestoreDefaults t r) := fun _ => ⟨rfl, rfl, rfl⟩
theorem devResetSystem (t : Nat) (r : Requester) : Statement (.devResetSystem t r) := fun _ => ⟨rfl, rfl, rfl⟩
theorem devResetCold (t : Nat) (r : Requester) : Statement (.devResetCold t r) := fun _ => ⟨rfl, rfl, rfl⟩
theorem devSelfTest (t : Nat) (r : Requester) : Statement (.devSelfTest t r) := fun _ => ⟨rfl, rfl, rfl⟩
theorem devSelfTestDone (t : Nat) (fail : Nat) (sealBad : Bool) : Statement (.devSelfTestDone t fail sealBad) := fun _ => ⟨rfl, rfl, rfl⟩
theorem credClockConfirm (t : Nat) (r : Requester) (ceiling : Nat) : Statement (.credClockConfirm t r ceiling) := fun _ => ⟨rfl, rfl, rfl⟩
theorem credRevoke (t : Nat) (r : Requester) (arg : Bytes) : Statement (.credRevoke t r arg) := fun _ => ⟨rfl, rfl, rfl⟩
theorem vcSecond (t : Nat) : Statement (.vcSecond t) := fun _ => ⟨rfl, rfl, rfl⟩
theorem floorPeriod (t : Nat) : Statement (.floorPeriod t) := fun _ => ⟨rfl, rfl, rfl⟩
theorem resyncTimeout (t : Nat) : Statement (.resyncTimeout t) := fun _ => ⟨rfl, rfl, rfl⟩
theorem journalRecordDone (t : Nat) (ok : Bool) : Statement (.journalRecordDone t ok) := fun _ => ⟨rfl, rfl, rfl⟩
theorem compactionStart (t : Nat) : Statement (.compactionStart t) := fun _ => ⟨rfl, rfl, rfl⟩
theorem compactionPass (t : Nat) : Statement (.compactionPass t) := fun _ => ⟨rfl, rfl, rfl⟩
theorem compactionSwitch (t : Nat) : Statement (.compactionSwitch t) := fun _ => ⟨rfl, rfl, rfl⟩
theorem tokenProof (t : Nat) (car : Carrier) (m : Bytes) : Statement (.tokenProof t car m) := fun _ => ⟨rfl, rfl, rfl⟩
theorem credProof (t : Nat) (car : Carrier) (m : Bytes) : Statement (.credProof t car m) := fun _ => ⟨rfl, rfl, rfl⟩
theorem attest (t : Nat) (car : Carrier) (m : Bytes) : Statement (.attest t car m) := fun _ => ⟨rfl, rfl, rfl⟩
theorem enrolCode (t : Nat) (car : Carrier) (m : Bytes) : Statement (.enrolCode t car m) := fun _ => ⟨rfl, rfl, rfl⟩
theorem enrolRequest (t : Nat) (car : Carrier) (m : Bytes) : Statement (.enrolRequest t car m) := fun _ => ⟨rfl, rfl, rfl⟩
theorem revokeRequest (t : Nat) (car : Carrier) (m : Bytes) : Statement (.revokeRequest t car m) := fun _ => ⟨rfl, rfl, rfl⟩
theorem endMessage (t : Nat) (car : Carrier) (m : Bytes) : Statement (.endMessage t car m) := fun _ => ⟨rfl, rfl, rfl⟩
theorem zariqueDrop (t : Nat) (car : Carrier) (m : Bytes) : Statement (.zariqueDrop t car m) := fun _ => ⟨rfl, rfl, rfl⟩
theorem challenge (t : Nat) (conn : Nat) : Statement (.challenge t conn) := fun _ => ⟨rfl, rfl, rfl⟩
theorem prompt (t : Nat) (conn : Nat) : Statement (.prompt t conn) := fun _ => ⟨rfl, rfl, rfl⟩
theorem rangingSetup (t : Nat) (conn : Nat) : Statement (.rangingSetup t conn) := fun _ => ⟨rfl, rfl, rfl⟩
theorem keyDeliveryAck (t : Nat) (car : Carrier) : Statement (.keyDeliveryAck t car) := fun _ => ⟨rfl, rfl, rfl⟩
theorem challengeExpiry (t : Nat) : Statement (.challengeExpiry t) := fun _ => ⟨rfl, rfl, rfl⟩
theorem doorOpenEdge (t : Nat) (n : Nat) (level : Bool) (held : Nat) : Statement (.doorOpenEdge t n level held) := fun _ => ⟨rfl, rfl, rfl⟩
theorem entryTimeout (t : Nat) : Statement (.entryTimeout t) := fun _ => ⟨rfl, rfl, rfl⟩
theorem startTimeout (t : Nat) : Statement (.startTimeout t) := fun _ => ⟨rfl, rfl, rfl⟩
theorem ignInFall (t : Nat) : Statement (.ignInFall t) := fun _ => ⟨rfl, rfl, rfl⟩
theorem ignInRise (t : Nat) : Statement (.ignInRise t) := fun _ => ⟨rfl, rfl, rfl⟩
theorem lockoutEnd (t : Nat) : Statement (.lockoutEnd t) := fun _ => ⟨rfl, rfl, rfl⟩
theorem lockoutPersist (t : Nat) : Statement (.lockoutPersist t) := fun _ => ⟨rfl, rfl, rfl⟩
theorem learnWindowExpiry (t : Nat) : Statement (.learnWindowExpiry t) := fun _ => ⟨rfl, rfl, rfl⟩
theorem accLearnCancel (t : Nat) (r : Requester) : Statement (.accLearnCancel t r) := fun _ => ⟨rfl, rfl, rfl⟩
theorem accRevokeToken (t : Nat) (r : Requester) (tid : Nat) : Statement (.accRevokeToken t r tid) := fun _ => ⟨rfl, rfl, rfl⟩
theorem accLockoutClear (t : Nat) (r : Requester) (arg : Bytes) : Statement (.accLockoutClear t r arg) := fun _ => ⟨rfl, rfl, rfl⟩
theorem accEnrolImport (t : Nat) (r : Requester) (arg : Bytes) : Statement (.accEnrolImport t r arg) := fun _ => ⟨rfl, rfl, rfl⟩
theorem evidenceItem (t : Nat) (item : Bytes) (own : Option Nat) : Statement (.evidenceItem t item own) := fun _ => ⟨rfl, rfl, rfl⟩
theorem evaluationDone (t : Nat) : Statement (.evaluationDone t) := fun _ => ⟨rfl, rfl, rfl⟩
theorem requestWindowEnd (t : Nat) (tsh gate : Nat) : Statement (.requestWindowEnd t tsh gate) := fun _ => ⟨rfl, rfl, rfl⟩
theorem vetoHoldEnd (t : Nat) : Statement (.vetoHoldEnd t) := fun _ => ⟨rfl, rfl, rfl⟩
theorem roundGraceExpiry (t : Nat) (tsh gate : Nat) : Statement (.roundGraceExpiry t tsh gate) := fun _ => ⟨rfl, rfl, rfl⟩
theorem verdictExpiry (t : Nat) (tsh gate : Nat) : Statement (.verdictExpiry t tsh gate) := fun _ => ⟨rfl, rfl, rfl⟩
theorem tsApply (t : Nat) (r : Requester) : Statement (.tsApply t r) := fun _ => ⟨rfl, rfl, rfl⟩
theorem sealIssue (t : Nat) (tsh gate : Nat) : Statement (.sealIssue t tsh gate) := fun _ => ⟨rfl, rfl, rfl⟩
theorem pulseEnd (t : Nat) (isB : Bool) (n : Nat) : Statement (.pulseEnd t isB n) := fun _ => ⟨rfl, rfl, rfl⟩
theorem deadTimeEnd (t : Nat) (grp : Nat) : Statement (.deadTimeEnd t grp) := fun _ => ⟨rfl, rfl, rfl⟩
theorem gateLock (t : Nat) (r : Requester) : Statement (.gateLock t r) := fun _ => ⟨rfl, rfl, rfl⟩
theorem gateRbSample (t : Nat) (gate : Nat) (level : Bool) : Statement (.gateRbSample t gate level) := fun _ => ⟨rfl, rfl, rfl⟩
theorem startEnLimit (t : Nat) : Statement (.startEnLimit t) := fun _ => ⟨rfl, rfl, rfl⟩
theorem gateFaultClear (t : Nat) (r : Requester) (gate : Nat) : Statement (.gateFaultClear t r gate) := fun _ => ⟨rfl, rfl, rfl⟩
theorem gateQuench (t : Nat) (r : Requester) (arg : Nat) : Statement (.gateQuench t r arg) := fun _ => ⟨rfl, rfl, rfl⟩
theorem sealPathFault (t : Nat) : Statement (.sealPathFault t) := fun _ => ⟨rfl, rfl, rfl⟩
theorem immoChallenge (t : Nat) (f : Bytes) : Statement (.immoChallenge t f) := fun _ => ⟨rfl, rfl, rfl⟩
theorem immoAck (t : Nat) (f : Bytes) : Statement (.immoAck t f) := fun _ => ⟨rfl, rfl, rfl⟩
theorem immoReleasePeriod (t : Nat) : Statement (.immoReleasePeriod t) := fun _ => ⟨rfl, rfl, rfl⟩
theorem immoWaitExpiry (t : Nat) : Statement (.immoWaitExpiry t) := fun _ => ⟨rfl, rfl, rfl⟩
theorem limiterCut (t : Nat) (lim ch : Nat) : Statement (.limiterCut t lim ch) := fun _ => ⟨rfl, rfl, rfl⟩
theorem gpioHoldExpiry (t : Nat) (pin : Nat) : Statement (.gpioHoldExpiry t pin) := fun _ => ⟨rfl, rfl, rfl⟩
theorem blockStart (t : Nat) (tsh : Nat) : Statement (.blockStart t tsh) := fun _ => ⟨rfl, rfl, rfl⟩
theorem opportunityStart (t : Nat) : Statement (.opportunityStart t) := fun _ => ⟨rfl, rfl, rfl⟩
theorem uwbFrameLaunch (t : Nat) (slot onAir : Nat) : Statement (.uwbFrameLaunch t slot onAir) := fun _ => ⟨rfl, rfl, rfl⟩
theorem uwbResponse (t : Nat) (psdu : Bytes) (air : AirRx) : Statement (.uwbResponse t psdu air) := fun _ => ⟨rfl, rfl, rfl⟩
theorem uwbReport (t : Nat) (psdu : Bytes) : Statement (.uwbReport t psdu) := fun _ => ⟨rfl, rfl, rfl⟩
theorem blink (t : Nat) (psdu : Bytes) (air : AirRx) : Statement (.blink t psdu air) := fun _ => ⟨rfl, rfl, rfl⟩
theorem uwbSync (t : Nat) (slot : Nat) (psdu : Bytes) (air : AirRx) : Statement (.uwbSync t slot psdu air) := fun _ => ⟨rfl, rfl, rfl⟩
theorem uwbRxWindowEnd (t : Nat) : Statement (.uwbRxWindowEnd t) := fun _ => ⟨rfl, rfl, rfl⟩
theorem roundClose (t : Nat) : Statement (.roundClose t) := fun _ => ⟨rfl, rfl, rfl⟩
theorem uwbAuxTx (t : Nat) (r : Requester) (arg : Bytes) : Statement (.uwbAuxTx t r arg) := fun _ => ⟨rfl, rfl, rfl⟩
theorem uwbAuxRx (t : Nat) (r : Requester) (arg : Bytes) : Statement (.uwbAuxRx t r arg) := fun _ => ⟨rfl, rfl, rfl⟩
theorem uwbAuxDone (t : Nat) (onAir : Nat) (rx : Option (Bytes × AirRx)) : Statement (.uwbAuxDone t onAir rx) := fun _ => ⟨rfl, rfl, rfl⟩
theorem transceiverRequest (t : Nat) (xc : Xc) (cls : Nat) (tx : Bool) (at_ fin : Option Nat) (chan : Nat) (lateOk : Bool) (who : Option Requester) : Statement (.transceiverRequest t xc cls tx at_ fin chan lateOk who) := fun _ => ⟨rfl, rfl, rfl⟩
theorem synthLocked (t : Nat) (xc : Xc) : Statement (.synthLocked t xc) := fun _ => ⟨rfl, rfl, rfl⟩
theorem synthLockTimeout (t : Nat) (xc : Xc) : Statement (.synthLockTimeout t xc) := fun _ => ⟨rfl, rfl, rfl⟩
theorem packetEnd (t : Nat) (xc : Xc) (planned : Option Bool) : Statement (.packetEnd t xc planned) := fun _ => ⟨rfl, rfl, rfl⟩
theorem keepReadyExpiry (t : Nat) (xc : Xc) : Statement (.keepReadyExpiry t xc) := fun _ => ⟨rfl, rfl, rfl⟩
theorem offDelayExpiry (t : Nat) (xc : Xc) : Statement (.offDelayExpiry t xc) := fun _ => ⟨rfl, rfl, rfl⟩
theorem gapCalibrationStart (t : Nat) (xc : Xc) : Statement (.gapCalibrationStart t xc) := fun _ => ⟨rfl, rfl, rfl⟩
theorem forcedCalibrationStart (t : Nat) (xc : Xc) : Statement (.forcedCalibrationStart t xc) := fun _ => ⟨rfl, rfl, rfl⟩
theorem calibrationDone (t : Nat) (xc : Xc) (vals : List Int) (metric : Int) : Statement (.calibrationDone t xc vals metric) := fun _ => ⟨rfl, rfl, rfl⟩
theorem rfcCalRun (t : Nat) (r : Requester) (arg : Nat) : Statement (.rfcCalRun t r arg) := fun _ => ⟨rfl, rfl, rfl⟩
theorem annealTick (t : Nat) (temp : Int) : Statement (.annealTick t temp) := fun _ => ⟨rfl, rfl, rfl⟩
theorem advertisingEvent (t : Nat) (onAir : Nat) : Statement (.advertisingEvent t onAir) := fun _ => ⟨rfl, rfl, rfl⟩
theorem connectionOpen (t : Nat) (interval latency timeout phy : Nat) (update : Bool) : Statement (.connectionOpen t interval latency timeout phy update) := fun _ => ⟨rfl, rfl, rfl⟩
theorem connectionClose (t : Nat) (conn : Nat) : Statement (.connectionClose t conn) := fun _ => ⟨rfl, rfl, rfl⟩
theorem connectionEvent (t : Nat) (conn : Nat) (overlap : List Nat) (rssi : Option Int) (dwell : Int × Int) (onAir more : Nat) : Statement (.connectionEvent t conn overlap rssi dwell onAir more) := fun _ => ⟨rfl, rfl, rfl⟩
theorem mtuExchange (t : Nat) (conn mtu : Nat) : Statement (.mtuExchange t conn mtu) := fun _ => ⟨rfl, rfl, rfl⟩
theorem cccdWrite (t : Nat) (conn handle value : Nat) : Statement (.cccdWrite t conn handle value) := fun _ => ⟨rfl, rfl, rfl⟩
theorem smpPairingRequest (t : Nat) (conn : Nat) : Statement (.smpPairingRequest t conn) := fun _ => ⟨rfl, rfl, rfl⟩
theorem llEncReq (t : Nat) (conn : Nat) : Statement (.llEncReq t conn) := fun _ => ⟨rfl, rfl, rfl⟩
theorem phyUpdate (t : Nat) (conn phy : Nat) : Statement (.phyUpdate t conn phy) := fun _ => ⟨rfl, rfl, rfl⟩
theorem connectionParamRequest (t : Nat) (conn interval latency timeout : Nat) : Statement (.connectionParamRequest t conn interval latency timeout) := fun _ => ⟨rfl, rfl, rfl⟩
theorem noSessionLimit (t : Nat) (conn : Nat) : Statement (.noSessionLimit t conn) := fun _ => ⟨rfl, rfl, rfl⟩
theorem boostExpiry (t : Nat) : Statement (.boostExpiry t) := fun _ => ⟨rfl, rfl, rfl⟩
theorem bleEngPublish (t : Nat) (r : Requester) (arg : Bytes) : Statement (.bleEngPublish t r arg) := fun _ => ⟨rfl, rfl, rfl⟩
theorem bleEngNotify (t : Nat) (r : Requester) (arg : Bytes) : Statement (.bleEngNotify t r arg) := fun _ => ⟨rfl, rfl, rfl⟩
theorem bleEngRelease (t : Nat) (r : Requester) (arg : Bytes) : Statement (.bleEngRelease t r arg) := fun _ => ⟨rfl, rfl, rfl⟩
theorem bleEngRx (t : Nat) (r : Requester) (arg : Bytes) : Statement (.bleEngRx t r arg) := fun _ => ⟨rfl, rfl, rfl⟩
theorem engineCharWrite (t : Nat) (conn handle : Nat) (kind : AttWrite) (d : Bytes) : Statement (.engineCharWrite t conn handle kind d) := fun _ => ⟨rfl, rfl, rfl⟩
theorem attRead (t : Nat) (conn handle : Nat) : Statement (.attRead t conn handle) := fun _ => ⟨rfl, rfl, rfl⟩
theorem indicationConfirm (t : Nat) (conn : Nat) : Statement (.indicationConfirm t conn) := fun _ => ⟨rfl, rfl, rfl⟩
theorem capScan (t : Nat) (cs : List Nat) : Statement (.capScan t cs) := fun _ => ⟨rfl, rfl, rfl⟩
theorem capConfirmMeasure (t : Nat) (n c : Nat) : Statement (.capConfirmMeasure t n c) := fun _ => ⟨rfl, rfl, rfl⟩
theorem capStuck (t : Nat) (n : Nat) : Statement (.capStuck t n) := fun _ => ⟨rfl, rfl, rfl⟩
theorem touchHandoff (t : Nat) (n : Nat) : Statement (.touchHandoff t n) := fun _ => ⟨rfl, rfl, rfl⟩
theorem lfExchangeStart (t : Nat) (vlf : Nat) : Statement (.lfExchangeStart t vlf) := fun _ => ⟨rfl, rfl, rfl⟩
theorem lfDriveMeasure (t : Nat) (peak : Nat) (phase : Int) (short hot : Bool) : Statement (.lfDriveMeasure t peak phase short hot) := fun _ => ⟨rfl, rfl, rfl⟩
theorem lfOvercurrentCut (t : Nat) : Statement (.lfOvercurrentCut t) := fun _ => ⟨rfl, rfl, rfl⟩
theorem lfCarrierReturn (t : Nat) : Statement (.lfCarrierReturn t) := fun _ => ⟨rfl, rfl, rfl⟩
theorem seg1 (t : Nat) (halves : Halves) : Statement (.seg1 t halves) := fun _ => ⟨rfl, rfl, rfl⟩
theorem lfNoSync (t : Nat) : Statement (.lfNoSync t) := fun _ => ⟨rfl, rfl, rfl⟩
theorem seg2 (t : Nat) (halves : Halves) (snr : Nat) : Statement (.seg2 t halves snr) := fun _ => ⟨rfl, rfl, rfl⟩
theorem reply (t : Nat) (halves : Halves) (snr : Nat) : Statement (.reply t halves snr) := fun _ => ⟨rfl, rfl, rfl⟩
theorem uid (t : Nat) (halves : Halves) : Statement (.uid t halves) := fun _ => ⟨rfl, rfl, rfl⟩
theorem confirm (t : Nat) (halves : Halves) : Statement (.confirm t halves) := fun _ => ⟨rfl, rfl, rfl⟩
theorem lfDiagRun (t : Nat) (r : Requester) (ch peak : Nat) (phase : Int) (short hot ovr : Bool) (vlf : Nat) : Statement (.lfDiagRun t r ch peak phase short hot ovr vlf) := fun _ => ⟨rfl, rfl, rfl⟩
theorem vlfRecover (t : Nat) (vlf : Nat) : Statement (.vlfRecover t vlf) := fun _ => ⟨rfl, rfl, rfl⟩
theorem nfcPing (t : Nat) (p ext : Nat) (amp phase : Int) : Statement (.nfcPing t p ext amp phase) := fun _ => ⟨rfl, rfl, rfl⟩
theorem nfcActivation (t : Nat) (p ext vnfc cur : Nat) (phase : Int) : Statement (.nfcActivation t p ext vnfc cur phase) := fun _ => ⟨rfl, rfl, rfl⟩
theorem nfcCardFrame (t : Nat) (p : Nat) (step : CardStep) (d : Bytes) : Statement (.nfcCardFrame t p step d) := fun _ => ⟨rfl, rfl, rfl⟩
theorem nfcReserveAttempt (t : Nat) (p ext vnfc cur : Nat) (phase : Int) : Statement (.nfcReserveAttempt t p ext vnfc cur phase) := fun _ => ⟨rfl, rfl, rfl⟩
theorem nfcRApdu (t : Nat) (p : Nat) (d : Bytes) : Statement (.nfcRApdu t p d) := fun _ => ⟨rfl, rfl, rfl⟩
theorem nfcResponseTimeout (t : Nat) (p : Nat) (failed : Bool) : Statement (.nfcResponseTimeout t p failed) := fun _ => ⟨rfl, rfl, rfl⟩
theorem nfcIdleEnd (t : Nat) (p : Nat) : Statement (.nfcIdleEnd t p) := fun _ => ⟨rfl, rfl, rfl⟩
theorem nfcExchangeMax (t : Nat) (p : Nat) : Statement (.nfcExchangeMax t p) := fun _ => ⟨rfl, rfl, rfl⟩
theorem nfcReactivate (t : Nat) (p ext vnfc cur : Nat) (phase : Int) : Statement (.nfcReactivate t p ext vnfc cur phase) := fun _ => ⟨rfl, rfl, rfl⟩
theorem nfcOvercurrentCut (t : Nat) (p : Nat) : Statement (.nfcOvercurrentCut t p) := fun _ => ⟨rfl, rfl, rfl⟩
theorem nfcFaultClear (t : Nat) (r : Requester) (arg : Bytes) : Statement (.nfcFaultClear t r arg) := fun _ => ⟨rfl, rfl, rfl⟩
theorem vnfcRecover (t : Nat) (vnfc : Nat) : Statement (.vnfcRecover t vnfc) := fun _ => ⟨rfl, rfl, rfl⟩
theorem fieldPowerUp (t : Nat) (byField : Bool) : Statement (.fieldPowerUp t byField) := fun _ => ⟨rfl, rfl, rfl⟩
theorem tearRecoveryEnd (t : Nat) : Statement (.tearRecoveryEnd t) := fun _ => ⟨rfl, rfl, rfl⟩
theorem fieldLoss (t : Nat) (step : Nat) : Statement (.fieldLoss t step) := fun _ => ⟨rfl, rfl, rfl⟩
theorem reqa (t : Nat) : Statement (.reqa t) := fun _ => ⟨rfl, rfl, rfl⟩
theorem wupa (t : Nat) : Statement (.wupa t) := fun _ => ⟨rfl, rfl, rfl⟩
theorem anticollision (t : Nat) (level : Nat) (select : Bool) (known : Bytes) : Statement (.anticollision t level select known) := fun _ => ⟨rfl, rfl, rfl⟩
theorem rats (t : Nat) : Statement (.rats t) := fun _ => ⟨rfl, rfl, rfl⟩
theorem ppsRequest (t : Nat) (pps1 : Nat) : Statement (.ppsRequest t pps1) := fun _ => ⟨rfl, rfl, rfl⟩
theorem hlta (t : Nat) : Statement (.hlta t) := fun _ => ⟨rfl, rfl, rfl⟩
theorem sDeselect (t : Nat) : Statement (.sDeselect t) := fun _ => ⟨rfl, rfl, rfl⟩
theorem selectApplication (t : Nat) (aid : Bytes) : Statement (.selectApplication t aid) := fun _ => ⟨rfl, rfl, rfl⟩
theorem selectFile (t : Nat) (fid : Nat) : Statement (.selectFile t fid) := fun _ => ⟨rfl, rfl, rfl⟩
theorem readBinary (t : Nat) (off le : Nat) : Statement (.readBinary t off le) := fun _ => ⟨rfl, rfl, rfl⟩
theorem updateBinary (t : Nat) : Statement (.updateBinary t) := fun _ => ⟨rfl, rfl, rfl⟩
theorem getInfo (t : Nat) : Statement (.getInfo t) := fun _ => ⟨rfl, rfl, rfl⟩
theorem authBegin (t : Nat) (key : Nat) : Statement (.authBegin t key) := fun _ => ⟨rfl, rfl, rfl⟩
theorem authFinish (t : Nat) (key : Nat) (data : Bytes) : Statement (.authFinish t key data) := fun _ => ⟨rfl, rfl, rfl⟩
theorem getRecordInfo (t : Nat) (n : Nat) : Statement (.getRecordInfo t n) := fun _ => ⟨rfl, rfl, rfl⟩
theorem readRecord (t : Nat) (n : Nat) (data : Bytes) : Statement (.readRecord t n data) := fun _ => ⟨rfl, rfl, rfl⟩
theorem writeRecord (t : Nat) (n : Nat) (data : Bytes) : Statement (.writeRecord t n data) := fun _ => ⟨rfl, rfl, rfl⟩
theorem tagBadApdu (t : Nat) (cla ins p1 : Nat) : Statement (.tagBadApdu t cla ins p1) := fun _ => ⟨rfl, rfl, rfl⟩
theorem tagWriteDone (t : Nat) : Statement (.tagWriteDone t) := fun _ => ⟨rfl, rfl, rfl⟩
theorem tagRecWrite (t : Nat) (r : Requester) (n : Nat) (data : Bytes) : Statement (.tagRecWrite t r n data) := fun _ => ⟨rfl, rfl, rfl⟩
theorem tagRecAclWrite (t : Nat) (r : Requester) (acl : Nat) : Statement (.tagRecAclWrite t r acl) := fun _ => ⟨rfl, rfl, rfl⟩
theorem tagNdefStage (t : Nat) (r : Requester) (off : Nat) (data : Bytes) : Statement (.tagNdefStage t r off data) := fun _ => ⟨rfl, rfl, rfl⟩
theorem tagNdefCommit (t : Nat) (r : Requester) (nlen : Nat) : Statement (.tagNdefCommit t r nlen) := fun _ => ⟨rfl, rfl, rfl⟩
theorem tagKeyWrite (t : Nat) (r : Requester) (k : Nat) (blob : Bytes) : Statement (.tagKeyWrite t r k blob) := fun _ => ⟨rfl, rfl, rfl⟩
theorem tagKeyUnblock (t : Nat) (r : Requester) (k : Nat) : Statement (.tagKeyUnblock t r k) := fun _ => ⟨rfl, rfl, rfl⟩
theorem cxSubmit (t : Nat) (r : Requester) (d : Bytes) : Statement (.cxSubmit t r d) := fun _ => ⟨rfl, rfl, rfl⟩
theorem cxTakeResult (t : Nat) (r : Requester) : Statement (.cxTakeResult t r) := fun _ => ⟨rfl, rfl, rfl⟩
theorem cxBlockDone (t : Nat) (core : Nat) : Statement (.cxBlockDone t core) := fun _ => ⟨rfl, rfl, rfl⟩
theorem cxRequestDone (t : Nat) (page : Nat) : Statement (.cxRequestDone t page) := fun _ => ⟨rfl, rfl, rfl⟩
theorem keyImport (t : Nat) (r : Requester) (arg : Bytes) : Statement (.keyImport t r arg) := fun _ => ⟨rfl, rfl, rfl⟩
theorem keyGenerate (t : Nat) (r : Requester) (arg : Bytes) : Statement (.keyGenerate t r arg) := fun _ => ⟨rfl, rfl, rfl⟩
theorem keyDerive (t : Nat) (r : Requester) (arg : Bytes) : Statement (.keyDerive t r arg) := fun _ => ⟨rfl, rfl, rfl⟩
theorem keyExport (t : Nat) (r : Requester) (arg : Bytes) : Statement (.keyExport t r arg) := fun _ => ⟨rfl, rfl, rfl⟩
theorem keyErase (t : Nat) (r : Requester) (arg : Bytes) : Statement (.keyErase t r arg) := fun _ => ⟨rfl, rfl, rfl⟩
theorem keyZeroize (t : Nat) (r : Requester) (arg : Bytes) : Statement (.keyZeroize t r arg) := fun _ => ⟨rfl, rfl, rfl⟩
theorem keyZeroizeAll (t : Nat) (r : Requester) (arg : Bytes) : Statement (.keyZeroizeAll t r arg) := fun _ => ⟨rfl, rfl, rfl⟩
theorem zeroizeOverwriteDone (t : Nat) (slot : Nat) : Statement (.zeroizeOverwriteDone t slot) := fun _ => ⟨rfl, rfl, rfl⟩
theorem keyMirror (t : Nat) (p : Bytes) (wl : Bool) : Statement (.keyMirror t p wl) := fun _ => ⟨rfl, rfl, rfl⟩
theorem keyMirrorAck (t : Nat) (p : Bytes) (wl : Bool) : Statement (.keyMirrorAck t p wl) := fun _ => ⟨rfl, rfl, rfl⟩
theorem keyMirrorTimeout (t : Nat) : Statement (.keyMirrorTimeout t) := fun _ => ⟨rfl, rfl, rfl⟩
theorem sourceSettled (t : Nat) (src : Nat) : Statement (.sourceSettled t src) := fun _ => ⟨rfl, rfl, rfl⟩
theorem assayBlock (t : Nat) (src : Nat) (blk : Bytes) : Statement (.assayBlock t src blk) := fun _ => ⟨rfl, rfl, rfl⟩
theorem sourceRestartDone (t : Nat) (src : Nat) : Statement (.sourceRestartDone t src) := fun _ => ⟨rfl, rfl, rfl⟩
theorem drbgReseed (t : Nat) : Statement (.drbgReseed t) := fun _ => ⟨rfl, rfl, rfl⟩
theorem reseedLimit (t : Nat) : Statement (.reseedLimit t) := fun _ => ⟨rfl, rfl, rfl⟩
theorem drbgGenerate (t : Nat) : Statement (.drbgGenerate t) := fun _ => ⟨rfl, rfl, rfl⟩
theorem rngRandom (t : Nat) (r : Requester) : Statement (.rngRandom t r) := fun _ => ⟨rfl, rfl, rfl⟩
theorem add (t : Nat) (e : Nat) : Statement (.add t e) := fun _ => ⟨rfl, rfl, rfl⟩
theorem sub (t : Nat) (e : Nat) : Statement (.sub t e) := fun _ => ⟨rfl, rfl, rfl⟩
theorem and_ (t : Nat) (e : Nat) : Statement (.and_ t e) := fun _ => ⟨rfl, rfl, rfl⟩
theorem or_ (t : Nat) (e : Nat) : Statement (.or_ t e) := fun _ => ⟨rfl, rfl, rfl⟩
theorem xor_ (t : Nat) (e : Nat) : Statement (.xor_ t e) := fun _ => ⟨rfl, rfl, rfl⟩
theorem shl (t : Nat) (e : Nat) : Statement (.shl t e) := fun _ => ⟨rfl, rfl, rfl⟩
theorem shr (t : Nat) (e : Nat) : Statement (.shr t e) := fun _ => ⟨rfl, rfl, rfl⟩
theorem sar (t : Nat) (e : Nat) : Statement (.sar t e) := fun _ => ⟨rfl, rfl, rfl⟩
theorem addi (t : Nat) (e : Nat) : Statement (.addi t e) := fun _ => ⟨rfl, rfl, rfl⟩
theorem andi (t : Nat) (e : Nat) : Statement (.andi t e) := fun _ => ⟨rfl, rfl, rfl⟩
theorem ori (t : Nat) (e : Nat) : Statement (.ori t e) := fun _ => ⟨rfl, rfl, rfl⟩
theorem xori (t : Nat) (e : Nat) : Statement (.xori t e) := fun _ => ⟨rfl, rfl, rfl⟩
theorem shli (t : Nat) (e : Nat) : Statement (.shli t e) := fun _ => ⟨rfl, rfl, rfl⟩
theorem shri (t : Nat) (e : Nat) : Statement (.shri t e) := fun _ => ⟨rfl, rfl, rfl⟩
theorem sari (t : Nat) (e : Nat) : Statement (.sari t e) := fun _ => ⟨rfl, rfl, rfl⟩
theorem ldi (t : Nat) (e : Nat) : Statement (.ldi t e) := fun _ => ⟨rfl, rfl, rfl⟩
theorem lui (t : Nat) (e : Nat) : Statement (.lui t e) := fun _ => ⟨rfl, rfl, rfl⟩
theorem mul (t : Nat) (e : Nat) : Statement (.mul t e) := fun _ => ⟨rfl, rfl, rfl⟩
theorem muls (t : Nat) (e : Nat) : Statement (.muls t e) := fun _ => ⟨rfl, rfl, rfl⟩
theorem mulResult (t : Nat) (e : Nat) : Statement (.mulResult t e) := fun _ => ⟨rfl, rfl, rfl⟩
theorem mov (t : Nat) (e : Nat) : Statement (.mov t e) := fun _ => ⟨rfl, rfl, rfl⟩
theorem clz (t : Nat) (e : Nat) : Statement (.clz t e) := fun _ => ⟨rfl, rfl, rfl⟩
theorem bswap (t : Nat) (e : Nat) : Statement (.bswap t e) := fun _ => ⟨rfl, rfl, rfl⟩
theorem cmp (t : Nat) (e : Nat) : Statement (.cmp t e) := fun _ => ⟨rfl, rfl, rfl⟩
theorem cmpi (t : Nat) (e : Nat) : Statement (.cmpi t e) := fun _ => ⟨rfl, rfl, rfl⟩
theorem plog (t : Nat) (e : Nat) : Statement (.plog t e) := fun _ => ⟨rfl, rfl, rfl⟩
theorem ldw (t : Nat) (e : Nat) : Statement (.ldw t e) := fun _ => ⟨rfl, rfl, rfl⟩
theorem ldh (t : Nat) (e : Nat) : Statement (.ldh t e) := fun _ => ⟨rfl, rfl, rfl⟩
theorem ldb (t : Nat) (e : Nat) : Statement (.ldb t e) := fun _ => ⟨rfl, rfl, rfl⟩
theorem stw (t : Nat) (e : Nat) : Statement (.stw t e) := fun _ => ⟨rfl, rfl, rfl⟩
theorem sth (t : Nat) (e : Nat) : Statement (.sth t e) := fun _ => ⟨rfl, rfl, rfl⟩
theorem stb (t : Nat) (e : Nat) : Statement (.stb t e) := fun _ => ⟨rfl, rfl, rfl⟩
theorem ldwp (t : Nat) (e : Nat) : Statement (.ldwp t e) := fun _ => ⟨rfl, rfl, rfl⟩
theorem stwp (t : Nat) (e : Nat) : Statement (.stwp t e) := fun _ => ⟨rfl, rfl, rfl⟩
theorem ldo (t : Nat) (e : Nat) : Statement (.ldo t e) := fun _ => ⟨rfl, rfl, rfl⟩
theorem ldoReadRecord (t : Nat) (e : Nat) : Statement (.ldoReadRecord t e) := fun _ => ⟨rfl, rfl, rfl⟩
theorem sto (t : Nat) (e : Nat) : Statement (.sto t e) := fun _ => ⟨rfl, rfl, rfl⟩
theorem stoExec (t : Nat) (e : Nat) : Statement (.stoExec t e) := fun _ => ⟨rfl, rfl, rfl⟩
theorem engineDictComplete (t : Nat) (e : Nat) : Statement (.engineDictComplete t e) := fun _ => ⟨rfl, rfl, rfl⟩
theorem br (t : Nat) (e : Nat) : Statement (.br t e) := fun _ => ⟨rfl, rfl, rfl⟩
theorem call (t : Nat) (e : Nat) : Statement (.call t e) := fun _ => ⟨rfl, rfl, rfl⟩
theorem ret (t : Nat) (e : Nat) : Statement (.ret t e) := fun _ => ⟨rfl, rfl, rfl⟩
theorem jr (t : Nat) (e : Nat) : Statement (.jr t e) := fun _ => ⟨rfl, rfl, rfl⟩
theorem callr (t : Nat) (e : Nat) : Statement (.callr t e) := fun _ => ⟨rfl, rfl, rfl⟩
theorem rpt (t : Nat) (e : Nat) : Statement (.rpt t e) := fun _ => ⟨rfl, rfl, rfl⟩
theorem rptr (t : Nat) (e : Nat) : Statement (.rptr t e) := fun _ => ⟨rfl, rfl, rfl⟩
theorem mfs (t : Nat) (e : Nat) : Statement (.mfs t e) := fun _ => ⟨rfl, rfl, rfl⟩
theorem mts (t : Nat) (e : Nat) : Statement (.mts t e) := fun _ => ⟨rfl, rfl, rfl⟩
theorem wfe (t : Nat) (e : Nat) : Statement (.wfe t e) := fun _ => ⟨rfl, rfl, rfl⟩
theorem waitt (t : Nat) (e : Nat) : Statement (.waitt t e) := fun _ => ⟨rfl, rfl, rfl⟩
theorem engineEventWake (t : Nat) (e : Nat) : Statement (.engineEventWake t e) := fun _ => ⟨rfl, rfl, rfl⟩
theorem waittDeadline (t : Nat) (e : Nat) : Statement (.waittDeadline t e) := fun _ => ⟨rfl, rfl, rfl⟩
theorem sev (t : Nat) (e : Nat) : Statement (.sev t e) := fun _ => ⟨rfl, rfl, rfl⟩
theorem stop (t : Nat) (e : Nat) : Statement (.stop t e) := fun _ => ⟨rfl, rfl, rfl⟩
theorem nop (t : Nat) (e : Nat) : Statement (.nop t e) := fun _ => ⟨rfl, rfl, rfl⟩
theorem illegalOp (t : Nat) (e : Nat) : Statement (.illegalOp t e) := fun _ => ⟨rfl, rfl, rfl⟩
theorem engineWatchdog (t : Nat) (e : Nat) : Statement (.engineWatchdog t e) := fun _ => ⟨rfl, rfl, rfl⟩
theorem trapRestart (t : Nat) (e : Nat) : Statement (.trapRestart t e) := fun _ => ⟨rfl, rfl, rfl⟩
theorem breakpointHit (t : Nat) (e : Nat) : Statement (.breakpointHit t e) := fun _ => ⟨rfl, rfl, rfl⟩
theorem engControlStart (t : Nat) (r : Requester) (e : Nat) : Statement (.engControlStart t r e) := fun _ => ⟨rfl, rfl, rfl⟩
theorem engControlStop (t : Nat) (r : Requester) (e : Nat) : Statement (.engControlStop t r e) := fun _ => ⟨rfl, rfl, rfl⟩
theorem engControlRestart (t : Nat) (r : Requester) (e : Nat) : Statement (.engControlRestart t r e) := fun _ => ⟨rfl, rfl, rfl⟩
theorem engLoadBegin (t : Nat) (r : Requester) (e total : Nat) : Statement (.engLoadBegin t r e total) := fun _ => ⟨rfl, rfl, rfl⟩
theorem engLoadData (t : Nat) (r : Requester) (off : Nat) (data : Bytes) : Statement (.engLoadData t r off data) := fun _ => ⟨rfl, rfl, rfl⟩
theorem engLoadCommit (t : Nat) (r : Requester) : Statement (.engLoadCommit t r) := fun _ => ⟨rfl, rfl, rfl⟩
theorem engLoadCommitDone (t : Nat) : Statement (.engLoadCommitDone t) := fun _ => ⟨rfl, rfl, rfl⟩
theorem engLoadAbort (t : Nat) (r : Requester) : Statement (.engLoadAbort t r) := fun _ => ⟨rfl, rfl, rfl⟩
theorem engLoadTimeout (t : Nat) : Statement (.engLoadTimeout t) := fun _ => ⟨rfl, rfl, rfl⟩
theorem engDoorbell (t : Nat) (r : Requester) (e v : Nat) : Statement (.engDoorbell t r e v) := fun _ => ⟨rfl, rfl, rfl⟩
theorem engDoorbellRx (t : Nat) (r : Requester) : Statement (.engDoorbellRx t r) := fun _ => ⟨rfl, rfl, rfl⟩
theorem engObjWriteRx (t : Nat) (r : Requester) : Statement (.engObjWriteRx t r) := fun _ => ⟨rfl, rfl, rfl⟩
theorem gpioEdge (t : Nat) (pin : Nat) (level : Bool) : Statement (.gpioEdge t pin level) := fun _ => ⟨rfl, rfl, rfl⟩
theorem dbgIdent (t : Nat) (f : Bytes) : Statement (.dbgIdent t f) := fun _ => ⟨rfl, rfl, rfl⟩
theorem dbgUnlock (t : Nat) (f : Bytes) : Statement (.dbgUnlock t f) := fun _ => ⟨rfl, rfl, rfl⟩
theorem dbgHalt (t : Nat) (f : Bytes) : Statement (.dbgHalt t f) := fun _ => ⟨rfl, rfl, rfl⟩
theorem dbgRun (t : Nat) (f : Bytes) : Statement (.dbgRun t f) := fun _ => ⟨rfl, rfl, rfl⟩
theorem dbgStep (t : Nat) (f : Bytes) : Statement (.dbgStep t f) := fun _ => ⟨rfl, rfl, rfl⟩
theorem dbgRegRead (t : Nat) (f : Bytes) : Statement (.dbgRegRead t f) := fun _ => ⟨rfl, rfl, rfl⟩
theorem dbgRegWrite (t : Nat) (f : Bytes) : Statement (.dbgRegWrite t f) := fun _ => ⟨rfl, rfl, rfl⟩
theorem dbgMemRead (t : Nat) (f : Bytes) : Statement (.dbgMemRead t f) := fun _ => ⟨rfl, rfl, rfl⟩
theorem dbgMemWrite (t : Nat) (f : Bytes) : Statement (.dbgMemWrite t f) := fun _ => ⟨rfl, rfl, rfl⟩
theorem dbgBreak (t : Nat) (f : Bytes) : Statement (.dbgBreak t f) := fun _ => ⟨rfl, rfl, rfl⟩
theorem canFrameRx (t : Nat) (c : Nat) (f : CanFrame) (sof : Nat) : Statement (.canFrameRx t c f sof) := fun _ => ⟨rfl, rfl, rfl⟩
theorem netCanTx (t : Nat) (r : Requester) (arg : Bytes) : Statement (.netCanTx t r arg) := fun _ => ⟨rfl, rfl, rfl⟩
theorem netCanRx (t : Nat) (r : Requester) : Statement (.netCanRx t r) := fun _ => ⟨rfl, rfl, rfl⟩
theorem netCanRecover (t : Nat) (r : Requester) (c : Nat) : Statement (.netCanRecover t r c) := fun _ => ⟨rfl, rfl, rfl⟩
theorem canBusOff (t : Nat) (c : Nat) : Statement (.canBusOff t c) := fun _ => ⟨rfl, rfl, rfl⟩
theorem canBusOffRecovery (t : Nat) (c : Nat) : Statement (.canBusOffRecovery t c) := fun _ => ⟨rfl, rfl, rfl⟩
theorem canFrameTxDone (t : Nat) (c : Nat) (sof won : Nat) : Statement (.canFrameTxDone t c sof won) := fun _ => ⟨rfl, rfl, rfl⟩
theorem launchTimeReached (t : Nat) : Statement (.launchTimeReached t) := fun _ => ⟨rfl, rfl, rfl⟩
theorem netEthTx (t : Nat) (r : Requester) (arg : Bytes) : Statement (.netEthTx t r arg) := fun _ => ⟨rfl, rfl, rfl⟩
theorem netEthRx (t : Nat) (r : Requester) : Statement (.netEthRx t r) := fun _ => ⟨rfl, rfl, rfl⟩
theorem netTxDone (t : Nat) (r : Requester) : Statement (.netTxDone t r) := fun _ => ⟨rfl, rfl, rfl⟩
theorem t1sFrameRx (t : Nat) (da sa : Bytes) (etype : Nat) (payload : Bytes) (fcsOk : Bool) (sfd : Nat) : Statement (.t1sFrameRx t da sa etype payload fcsOk sfd) := fun _ => ⟨rfl, rfl, rfl⟩
theorem t1sFrameTxDone (t : Nat) (sfd : Nat) (coll : Bool) : Statement (.t1sFrameTxDone t sfd coll) := fun _ => ⟨rfl, rfl, rfl⟩
theorem plcaBeaconLoss (t : Nat) : Statement (.plcaBeaconLoss t) := fun _ => ⟨rfl, rfl, rfl⟩
theorem wairilLinkDown (t : Nat) (viol : Bool) (fills : Nat) : Statement (.wairilLinkDown t viol fills) := fun _ => ⟨rfl, rfl, rfl⟩
theorem wairilCommaAlign (t : Nat) : Statement (.wairilCommaAlign t) := fun _ => ⟨rfl, rfl, rfl⟩
theorem wairilLinkUp (t : Nat) : Statement (.wairilLinkUp t) := fun _ => ⟨rfl, rfl, rfl⟩
theorem qsOperationDone (t : Nat) (ok : Bool) : Statement (.qsOperationDone t ok) := fun _ => ⟨rfl, rfl, rfl⟩
theorem pps (t : Nat) : Statement (.pps t) := fun _ => ⟨rfl, rfl, rfl⟩
theorem ppsWidthEnd (t : Nat) : Statement (.ppsWidthEnd t) := fun _ => ⟨rfl, rfl, rfl⟩
theorem timeStep (t : Nat) (r : Requester) (amount : Nat) (neg : Bool) : Statement (.timeStep t r amount neg) := fun _ => ⟨rfl, rfl, rfl⟩
theorem timeSet (t : Nat) (r : Requester) (time : Nat) : Statement (.timeSet t r time) := fun _ => ⟨rfl, rfl, rfl⟩
theorem timeSlew (t : Nat) (r : Requester) (ns : Int) : Statement (.timeSlew t r ns) := fun _ => ⟨rfl, rfl, rfl⟩
theorem timeStepConfirm (t : Nat) (r : Requester) (ceiling : Nat) : Statement (.timeStepConfirm t r ceiling) := fun _ => ⟨rfl, rfl, rfl⟩
theorem timeAsymmetryWrite (t : Nat) (r : Requester) (v : Int) : Statement (.timeAsymmetryWrite t r v) := fun _ => ⟨rfl, rfl, rfl⟩
theorem sync (t : Nat) (seq : Nat) (twoStep : Bool) (origin : Nat) (corr : Int) : Statement (.sync t seq twoStep origin corr) := fun _ => ⟨rfl, rfl, rfl⟩
theorem followUp (t : Nat) (seq origin : Nat) (corr : Int) : Statement (.followUp t seq origin corr) := fun _ => ⟨rfl, rfl, rfl⟩
theorem pdelayReq (t : Nat) (seq : Nat) (src : Bytes) : Statement (.pdelayReq t seq src) := fun _ => ⟨rfl, rfl, rfl⟩
theorem pdelayResp (t : Nat) (follow : Bool) (seq ts : Nat) : Statement (.pdelayResp t follow seq ts) := fun _ => ⟨rfl, rfl, rfl⟩
theorem announce (t : Nat) (pv : Bytes) : Statement (.announce t pv) := fun _ => ⟨rfl, rfl, rfl⟩
theorem syncInterval (t : Nat) : Statement (.syncInterval t) := fun _ => ⟨rfl, rfl, rfl⟩
theorem pdelayInterval (t : Nat) : Statement (.pdelayInterval t) := fun _ => ⟨rfl, rfl, rfl⟩
theorem announceInterval (t : Nat) : Statement (.announceInterval t) := fun _ => ⟨rfl, rfl, rfl⟩
theorem timeSourceLoss (t : Nat) : Statement (.timeSourceLoss t) := fun _ => ⟨rfl, rfl, rfl⟩
theorem holdoverLimit (t : Nat) : Statement (.holdoverLimit t) := fun _ => ⟨rfl, rfl, rfl⟩
theorem tsInEdge (t : Nat) (ch : Nat) (rising : Bool) : Statement (.tsInEdge t ch rising) := fun _ => ⟨rfl, rfl, rfl⟩
theorem heartbeat (t : Nat) (p : Bytes) (wl : Bool) : Statement (.heartbeat t p wl) := fun _ => ⟨rfl, rfl, rfl⟩
theorem heartbeatPeriod (t : Nat) (wl : Bool) : Statement (.heartbeatPeriod t wl) := fun _ => ⟨rfl, rfl, rfl⟩
theorem presence (t : Nat) (p : Bytes) : Statement (.presence t p) := fun _ => ⟨rfl, rfl, rfl⟩
theorem presencePeriod (t : Nat) : Statement (.presencePeriod t) := fun _ => ⟨rfl, rfl, rfl⟩
theorem roundPlan (t : Nat) (p : Bytes) : Statement (.roundPlan t p) := fun _ => ⟨rfl, rfl, rfl⟩
theorem report (t : Nat) (p : Bytes) : Statement (.report t p) := fun _ => ⟨rfl, rfl, rfl⟩
theorem lfRequest (t : Nat) (p : Bytes) : Statement (.lfRequest t p) := fun _ => ⟨rfl, rfl, rfl⟩
theorem join (t : Nat) (p : Bytes) : Statement (.join t p) := fun _ => ⟨rfl, rfl, rfl⟩
theorem joinAck (t : Nat) (p : Bytes) : Statement (.joinAck t p) := fun _ => ⟨rfl, rfl, rfl⟩
theorem joinRepeat (t : Nat) : Statement (.joinRepeat t) := fun _ => ⟨rfl, rfl, rfl⟩
theorem workerLost (t : Nat) (node : Nat) : Statement (.workerLost t node) := fun _ => ⟨rfl, rfl, rfl⟩
theorem mgrLoss (t : Nat) : Statement (.mgrLoss t) := fun _ => ⟨rfl, rfl, rfl⟩
theorem peerLoss (t : Nat) (wl : Bool) : Statement (.peerLoss t wl) := fun _ => ⟨rfl, rfl, rfl⟩
theorem twinResolutionTimeout (t : Nat) : Statement (.twinResolutionTimeout t) := fun _ => ⟨rfl, rfl, rfl⟩
theorem electionTimeout (t : Nat) : Statement (.electionTimeout t) := fun _ => ⟨rfl, rfl, rfl⟩
theorem mirror (t : Nat) (p : Bytes) (wl : Bool) : Statement (.mirror t p wl) := fun _ => ⟨rfl, rfl, rfl⟩
theorem tinDigest (t : Nat) (p : Bytes) (wl : Bool) : Statement (.tinDigest t p wl) := fun _ => ⟨rfl, rfl, rfl⟩
theorem tinPull (t : Nat) (p : Bytes) (wl : Bool) : Statement (.tinPull t p wl) := fun _ => ⟨rfl, rfl, rfl⟩
theorem tinData (t : Nat) (p : Bytes) (wl : Bool) : Statement (.tinData t p wl) := fun _ => ⟨rfl, rfl, rfl⟩
theorem tinPeriod (t : Nat) : Statement (.tinPeriod t) := fun _ => ⟨rfl, rfl, rfl⟩
theorem twinTinRun (t : Nat) (r : Requester) : Statement (.twinTinRun t r) := fun _ => ⟨rfl, rfl, rfl⟩
theorem twinTakeover (t : Nat) (r : Requester) (arg : Bytes) : Statement (.twinTakeover t r arg) := fun _ => ⟨rfl, rfl, rfl⟩
theorem commit (t : Nat) (p : Bytes) (wl : Bool) : Statement (.commit t p wl) := fun _ => ⟨rfl, rfl, rfl⟩
theorem commitAck (t : Nat) (p : Bytes) (wl : Bool) : Statement (.commitAck t p wl) := fun _ => ⟨rfl, rfl, rfl⟩
theorem commitResend (t : Nat) : Statement (.commitResend t) := fun _ => ⟨rfl, rfl, rfl⟩
theorem vaonPor (t : Nat) : Statement (.vaonPor t) := fun _ => ⟨rfl, rfl, rfl⟩
theorem vaonLoss (t : Nat) (step : Nat) : Statement (.vaonLoss t step) := fun _ => ⟨rfl, rfl, rfl⟩
theorem vsupBrownout (t : Nat) : Statement (.vsupBrownout t) := fun _ => ⟨rfl, rfl, rfl⟩
theorem vioUndervoltage (t : Nat) : Statement (.vioUndervoltage t) := fun _ => ⟨rfl, rfl, rfl⟩
theorem vioReturn (t : Nat) : Statement (.vioReturn t) := fun _ => ⟨rfl, rfl, rfl⟩
theorem resetN (t : Nat) : Statement (.resetN t) := fun _ => ⟨rfl, rfl, rfl⟩
theorem resetRelease (t : Nat) (twinId : Bool) (qsType : Nat) (qsId : Bytes) (qsKb : Nat) : Statement (.resetRelease t twinId qsType qsId qsKb) := fun _ => ⟨rfl, rfl, rfl⟩
theorem startUpSelfTestDone (t : Nat) (fail : Nat) (sealBad deny : Bool) : Statement (.startUpSelfTestDone t fail sealBad deny) := fun _ => ⟨rfl, rfl, rfl⟩
theorem aonWatchdog (t : Nat) : Statement (.aonWatchdog t) := fun _ => ⟨rfl, rfl, rfl⟩
theorem watchdogRestart (t : Nat) : Statement (.watchdogRestart t) := fun _ => ⟨rfl, rfl, rfl⟩
theorem pwrShutdown (t : Nat) (r : Requester) (arg : Bytes) : Statement (.pwrShutdown t r arg) := fun _ => ⟨rfl, rfl, rfl⟩
theorem shutdownExit (t : Nat) (src : Nat) : Statement (.shutdownExit t src) := fun _ => ⟨rfl, rfl, rfl⟩
theorem corePowerDown (t : Nat) : Statement (.corePowerDown t) := fun _ => ⟨rfl, rfl, rfl⟩
theorem coreWake (t : Nat) (src : Nat) : Statement (.coreWake t src) := fun _ => ⟨rfl, rfl, rfl⟩
theorem scheduledWake (t : Nat) : Statement (.scheduledWake t) := fun _ => ⟨rfl, rfl, rfl⟩
theorem pllLock (t : Nat) : Statement (.pllLock t) := fun _ => ⟨rfl, rfl, rfl⟩
theorem pllLockLoss (t : Nat) : Statement (.pllLockLoss t) := fun _ => ⟨rfl, rfl, rfl⟩
theorem pllRelockTimeout (t : Nat) : Statement (.pllRelockTimeout t) := fun _ => ⟨rfl, rfl, rfl⟩
theorem referenceMonitorPass (t : Nat) : Statement (.referenceMonitorPass t) := fun _ => ⟨rfl, rfl, rfl⟩
theorem referenceLoss (t : Nat) : Statement (.referenceLoss t) := fun _ => ⟨rfl, rfl, rfl⟩
theorem slowXtalSwitch (t : Nat) : Statement (.slowXtalSwitch t) := fun _ => ⟨rfl, rfl, rfl⟩
theorem slowXtalFail (t : Nat) : Statement (.slowXtalFail t) := fun _ => ⟨rfl, rfl, rfl⟩
theorem clockRatioMeasure (t : Nat) (cycles : Nat) : Statement (.clockRatioMeasure t cycles) := fun _ => ⟨rfl, rfl, rfl⟩
theorem tmrCtrlWrite (t : Nat) (r : Requester) (n v : Nat) : Statement (.tmrCtrlWrite t r n v) := fun _ => ⟨rfl, rfl, rfl⟩
theorem tmrEndWrite (t : Nat) (r : Requester) (n v : Nat) : Statement (.tmrEndWrite t r n v) := fun _ => ⟨rfl, rfl, rfl⟩
theorem tmrCmpWrite (t : Nat) (r : Requester) (n v : Nat) : Statement (.tmrCmpWrite t r n v) := fun _ => ⟨rfl, rfl, rfl⟩
theorem tmrStatusWrite (t : Nat) (r : Requester) (n v : Nat) : Statement (.tmrStatusWrite t r n v) := fun _ => ⟨rfl, rfl, rfl⟩
theorem tmrCaptureRead (t : Nat) (r : Requester) (n : Nat) : Statement (.tmrCaptureRead t r n) := fun _ => ⟨rfl, rfl, rfl⟩
theorem tmrCountEnd (t : Nat) (n : Nat) : Statement (.tmrCountEnd t n) := fun _ => ⟨rfl, rfl, rfl⟩
theorem tmrMatch (t : Nat) (n : Nat) : Statement (.tmrMatch t n) := fun _ => ⟨rfl, rfl, rfl⟩
theorem tmrMatchB (t : Nat) (n : Nat) : Statement (.tmrMatchB t n) := fun _ => ⟨rfl, rfl, rfl⟩
theorem tmrZeroTurn (t : Nat) (n : Nat) : Statement (.tmrZeroTurn t n) := fun _ => ⟨rfl, rfl, rfl⟩
theorem tmrCaptureEdge (t : Nat) (n src : Nat) (rising : Bool) : Statement (.tmrCaptureEdge t n src rising) := fun _ => ⟨rfl, rfl, rfl⟩
theorem burnishStep (t : Nat) (err part word item : Nat) : Statement (.burnishStep t err part word item) := fun _ => ⟨rfl, rfl, rfl⟩
theorem burnishSlotWake (t : Nat) : Statement (.burnishSlotWake t) := fun _ => ⟨rfl, rfl, rfl⟩
theorem limiterSample (t : Nat) (power : Nat) (temp : Option Int) : Statement (.limiterSample t power temp) := fun _ => ⟨rfl, rfl, rfl⟩
theorem limiterStageFall (t : Nat) : Statement (.limiterStageFall t) := fun _ => ⟨rfl, rfl, rfl⟩
theorem canTelemetry (t : Nat) : Statement (.canTelemetry t) := fun _ => ⟨rfl, rfl, rfl⟩
theorem logHeadWrite (t : Nat) : Statement (.logHeadWrite t) := fun _ => ⟨rfl, rfl, rfl⟩
theorem logSectorWrite (t : Nat) (first : Bool) : Statement (.logSectorWrite t first) := fun _ => ⟨rfl, rfl, rfl⟩
theorem canBusError (t : Nat) (c : Nat) (tx : Bool) : Statement (.canBusError t c tx) := fun _ => ⟨rfl, rfl, rfl⟩
theorem plcaBeaconReturn (t : Nat) : Statement (.plcaBeaconReturn t) := fun _ => ⟨rfl, rfl, rfl⟩
theorem notifyGapExpiry (t : Nat) (r : Requester) (idx sub : Nat) : Statement (.notifyGapExpiry t r idx sub) := fun _ => ⟨rfl, rfl, rfl⟩
theorem nfcWupRetry (t : Nat) (p : Nat) : Statement (.nfcWupRetry t p) := fun _ => ⟨rfl, rfl, rfl⟩

end Laws.Stamped
end Sys2Proof
end

