-- ==== Sys2Proof/Laws/State.lean ====
section
/-! SUPPORT. What each small update of the state changes and what it leaves: one lemma per update and field, so that no proof unfolds an
update. -/
namespace Sys2Proof.Machine

/-! `State.at` -/
@[simp] theorem State.at_pending (s : State) (t : Nat) : (State.at t s).pending = s.pending := rfl
@[simp] theorem State.at_fuse (s : State) (t : Nat) : (State.at t s).fuse = s.fuse := rfl
@[simp] theorem State.at_reg (s : State) (t : Nat) : (State.at t s).reg = s.reg := rfl
@[simp] theorem State.at_pend (s : State) (t : Nat) : (State.at t s).pend = s.pend := rfl
@[simp] theorem State.at_dict (s : State) (t : Nat) : (State.at t s).dict = s.dict := rfl
@[simp] theorem State.at_log (s : State) (t : Nat) : (State.at t s).log = s.log := rfl
@[simp] theorem State.at_keys (s : State) (t : Nat) : (State.at t s).keys = s.keys := rfl
@[simp] theorem State.at_cx (s : State) (t : Nat) : (State.at t s).cx = s.cx := rfl
@[simp] theorem State.at_rng (s : State) (t : Nat) : (State.at t s).rng = s.rng := rfl
@[simp] theorem State.at_acc (s : State) (t : Nat) : (State.at t s).acc = s.acc := rfl
@[simp] theorem State.at_ts (s : State) (t : Nat) : (State.at t s).ts = s.ts := rfl
@[simp] theorem State.at_gate (s : State) (t : Nat) : (State.at t s).gate = s.gate := rfl
@[simp] theorem State.at_seg (s : State) (t : Nat) : (State.at t s).seg = s.seg := rfl
@[simp] theorem State.at_twin (s : State) (t : Nat) : (State.at t s).twin = s.twin := rfl
@[simp] theorem State.at_pwr (s : State) (t : Nat) : (State.at t s).pwr = s.pwr := rfl
@[simp] theorem State.at_tmr (s : State) (t : Nat) : (State.at t s).tmr = s.tmr := rfl
@[simp] theorem State.at_bg (s : State) (t : Nat) : (State.at t s).bg = s.bg := rfl
@[simp] theorem State.at_eng (s : State) (t : Nat) : (State.at t s).eng = s.eng := rfl
@[simp] theorem State.at_uwb (s : State) (t : Nat) : (State.at t s).uwb = s.uwb := rfl
@[simp] theorem State.at_rfc (s : State) (t : Nat) : (State.at t s).rfc = s.rfc := rfl
@[simp] theorem State.at_ble (s : State) (t : Nat) : (State.at t s).ble = s.ble := rfl
@[simp] theorem State.at_cap (s : State) (t : Nat) : (State.at t s).cap = s.cap := rfl
@[simp] theorem State.at_lf (s : State) (t : Nat) : (State.at t s).lf = s.lf := rfl
@[simp] theorem State.at_nfc (s : State) (t : Nat) : (State.at t s).nfc = s.nfc := rfl
@[simp] theorem State.at_tag (s : State) (t : Nat) : (State.at t s).tag = s.tag := rfl
@[simp] theorem State.at_net (s : State) (t : Nat) : (State.at t s).net = s.net := rfl
@[simp] theorem State.at_time (s : State) (t : Nat) : (State.at t s).time = s.time := rfl
@[simp] theorem State.at_tpins (s : State) (t : Nat) : (State.at t s).tpins = s.tpins := rfl
@[simp] theorem State.at_now (s : State) (t : Nat) :
    (State.at t s).now = max s.now t := rfl

/-! `State.put` -/
@[simp] theorem State.put_now (s : State) (idx sub v : Nat) : (State.put s idx sub v).now = s.now := rfl
@[simp] theorem State.put_pending (s : State) (idx sub v : Nat) : (State.put s idx sub v).pending = s.pending := rfl
@[simp] theorem State.put_fuse (s : State) (idx sub v : Nat) : (State.put s idx sub v).fuse = s.fuse := rfl
@[simp] theorem State.put_pend (s : State) (idx sub v : Nat) : (State.put s idx sub v).pend = s.pend := rfl
@[simp] theorem State.put_dict (s : State) (idx sub v : Nat) : (State.put s idx sub v).dict = s.dict := rfl
@[simp] theorem State.put_log (s : State) (idx sub v : Nat) : (State.put s idx sub v).log = s.log := rfl
@[simp] theorem State.put_keys (s : State) (idx sub v : Nat) : (State.put s idx sub v).keys = s.keys := rfl
@[simp] theorem State.put_cx (s : State) (idx sub v : Nat) : (State.put s idx sub v).cx = s.cx := rfl
@[simp] theorem State.put_rng (s : State) (idx sub v : Nat) : (State.put s idx sub v).rng = s.rng := rfl
@[simp] theorem State.put_acc (s : State) (idx sub v : Nat) : (State.put s idx sub v).acc = s.acc := rfl
@[simp] theorem State.put_ts (s : State) (idx sub v : Nat) : (State.put s idx sub v).ts = s.ts := rfl
@[simp] theorem State.put_gate (s : State) (idx sub v : Nat) : (State.put s idx sub v).gate = s.gate := rfl
@[simp] theorem State.put_seg (s : State) (idx sub v : Nat) : (State.put s idx sub v).seg = s.seg := rfl
@[simp] theorem State.put_twin (s : State) (idx sub v : Nat) : (State.put s idx sub v).twin = s.twin := rfl
@[simp] theorem State.put_pwr (s : State) (idx sub v : Nat) : (State.put s idx sub v).pwr = s.pwr := rfl
@[simp] theorem State.put_tmr (s : State) (idx sub v : Nat) : (State.put s idx sub v).tmr = s.tmr := rfl
@[simp] theorem State.put_bg (s : State) (idx sub v : Nat) : (State.put s idx sub v).bg = s.bg := rfl
@[simp] theorem State.put_eng (s : State) (idx sub v : Nat) : (State.put s idx sub v).eng = s.eng := rfl
@[simp] theorem State.put_uwb (s : State) (idx sub v : Nat) : (State.put s idx sub v).uwb = s.uwb := rfl
@[simp] theorem State.put_rfc (s : State) (idx sub v : Nat) : (State.put s idx sub v).rfc = s.rfc := rfl
@[simp] theorem State.put_ble (s : State) (idx sub v : Nat) : (State.put s idx sub v).ble = s.ble := rfl
@[simp] theorem State.put_cap (s : State) (idx sub v : Nat) : (State.put s idx sub v).cap = s.cap := rfl
@[simp] theorem State.put_lf (s : State) (idx sub v : Nat) : (State.put s idx sub v).lf = s.lf := rfl
@[simp] theorem State.put_nfc (s : State) (idx sub v : Nat) : (State.put s idx sub v).nfc = s.nfc := rfl
@[simp] theorem State.put_tag (s : State) (idx sub v : Nat) : (State.put s idx sub v).tag = s.tag := rfl
@[simp] theorem State.put_net (s : State) (idx sub v : Nat) : (State.put s idx sub v).net = s.net := rfl
@[simp] theorem State.put_time (s : State) (idx sub v : Nat) : (State.put s idx sub v).time = s.time := rfl
@[simp] theorem State.put_tpins (s : State) (idx sub v : Nat) : (State.put s idx sub v).tpins = s.tpins := rfl
@[simp] theorem State.put_reg (s : State) (idx sub v : Nat) :
    (State.put s idx sub v).reg = if v = dfltOf s idx sub && !followsRole idx then alDel s.reg (okey idx sub) else alPut s.reg (okey idx sub) v := rfl

/-! `State.bumpBy` -/
@[simp] theorem State.bumpBy_now (s : State) (idx sub k : Nat) : (State.bumpBy s idx sub k).now = s.now := rfl
@[simp] theorem State.bumpBy_pending (s : State) (idx sub k : Nat) : (State.bumpBy s idx sub k).pending = s.pending := rfl
@[simp] theorem State.bumpBy_fuse (s : State) (idx sub k : Nat) : (State.bumpBy s idx sub k).fuse = s.fuse := rfl
@[simp] theorem State.bumpBy_pend (s : State) (idx sub k : Nat) : (State.bumpBy s idx sub k).pend = s.pend := rfl
@[simp] theorem State.bumpBy_dict (s : State) (idx sub k : Nat) : (State.bumpBy s idx sub k).dict = s.dict := rfl
@[simp] theorem State.bumpBy_log (s : State) (idx sub k : Nat) : (State.bumpBy s idx sub k).log = s.log := rfl
@[simp] theorem State.bumpBy_keys (s : State) (idx sub k : Nat) : (State.bumpBy s idx sub k).keys = s.keys := rfl
@[simp] theorem State.bumpBy_cx (s : State) (idx sub k : Nat) : (State.bumpBy s idx sub k).cx = s.cx := rfl
@[simp] theorem State.bumpBy_rng (s : State) (idx sub k : Nat) : (State.bumpBy s idx sub k).rng = s.rng := rfl
@[simp] theorem State.bumpBy_acc (s : State) (idx sub k : Nat) : (State.bumpBy s idx sub k).acc = s.acc := rfl
@[simp] theorem State.bumpBy_ts (s : State) (idx sub k : Nat) : (State.bumpBy s idx sub k).ts = s.ts := rfl
@[simp] theorem State.bumpBy_gate (s : State) (idx sub k : Nat) : (State.bumpBy s idx sub k).gate = s.gate := rfl
@[simp] theorem State.bumpBy_seg (s : State) (idx sub k : Nat) : (State.bumpBy s idx sub k).seg = s.seg := rfl
@[simp] theorem State.bumpBy_twin (s : State) (idx sub k : Nat) : (State.bumpBy s idx sub k).twin = s.twin := rfl
@[simp] theorem State.bumpBy_pwr (s : State) (idx sub k : Nat) : (State.bumpBy s idx sub k).pwr = s.pwr := rfl
@[simp] theorem State.bumpBy_tmr (s : State) (idx sub k : Nat) : (State.bumpBy s idx sub k).tmr = s.tmr := rfl
@[simp] theorem State.bumpBy_bg (s : State) (idx sub k : Nat) : (State.bumpBy s idx sub k).bg = s.bg := rfl
@[simp] theorem State.bumpBy_eng (s : State) (idx sub k : Nat) : (State.bumpBy s idx sub k).eng = s.eng := rfl
@[simp] theorem State.bumpBy_uwb (s : State) (idx sub k : Nat) : (State.bumpBy s idx sub k).uwb = s.uwb := rfl
@[simp] theorem State.bumpBy_rfc (s : State) (idx sub k : Nat) : (State.bumpBy s idx sub k).rfc = s.rfc := rfl
@[simp] theorem State.bumpBy_ble (s : State) (idx sub k : Nat) : (State.bumpBy s idx sub k).ble = s.ble := rfl
@[simp] theorem State.bumpBy_cap (s : State) (idx sub k : Nat) : (State.bumpBy s idx sub k).cap = s.cap := rfl
@[simp] theorem State.bumpBy_lf (s : State) (idx sub k : Nat) : (State.bumpBy s idx sub k).lf = s.lf := rfl
@[simp] theorem State.bumpBy_nfc (s : State) (idx sub k : Nat) : (State.bumpBy s idx sub k).nfc = s.nfc := rfl
@[simp] theorem State.bumpBy_tag (s : State) (idx sub k : Nat) : (State.bumpBy s idx sub k).tag = s.tag := rfl
@[simp] theorem State.bumpBy_net (s : State) (idx sub k : Nat) : (State.bumpBy s idx sub k).net = s.net := rfl
@[simp] theorem State.bumpBy_time (s : State) (idx sub k : Nat) : (State.bumpBy s idx sub k).time = s.time := rfl
@[simp] theorem State.bumpBy_tpins (s : State) (idx sub k : Nat) : (State.bumpBy s idx sub k).tpins = s.tpins := rfl

/-! `State.bump` -/
@[simp] theorem State.bump_now (s : State) (idx sub : Nat) : (State.bump s idx sub).now = s.now := rfl
@[simp] theorem State.bump_pending (s : State) (idx sub : Nat) : (State.bump s idx sub).pending = s.pending := rfl
@[simp] theorem State.bump_fuse (s : State) (idx sub : Nat) : (State.bump s idx sub).fuse = s.fuse := rfl
@[simp] theorem State.bump_pend (s : State) (idx sub : Nat) : (State.bump s idx sub).pend = s.pend := rfl
@[simp] theorem State.bump_dict (s : State) (idx sub : Nat) : (State.bump s idx sub).dict = s.dict := rfl
@[simp] theorem State.bump_log (s : State) (idx sub : Nat) : (State.bump s idx sub).log = s.log := rfl
@[simp] theorem State.bump_keys (s : State) (idx sub : Nat) : (State.bump s idx sub).keys = s.keys := rfl
@[simp] theorem State.bump_cx (s : State) (idx sub : Nat) : (State.bump s idx sub).cx = s.cx := rfl
@[simp] theorem State.bump_rng (s : State) (idx sub : Nat) : (State.bump s idx sub).rng = s.rng := rfl
@[simp] theorem State.bump_acc (s : State) (idx sub : Nat) : (State.bump s idx sub).acc = s.acc := rfl
@[simp] theorem State.bump_ts (s : State) (idx sub : Nat) : (State.bump s idx sub).ts = s.ts := rfl
@[simp] theorem State.bump_gate (s : State) (idx sub : Nat) : (State.bump s idx sub).gate = s.gate := rfl
@[simp] theorem State.bump_seg (s : State) (idx sub : Nat) : (State.bump s idx sub).seg = s.seg := rfl
@[simp] theorem State.bump_twin (s : State) (idx sub : Nat) : (State.bump s idx sub).twin = s.twin := rfl
@[simp] theorem State.bump_pwr (s : State) (idx sub : Nat) : (State.bump s idx sub).pwr = s.pwr := rfl
@[simp] theorem State.bump_tmr (s : State) (idx sub : Nat) : (State.bump s idx sub).tmr = s.tmr := rfl
@[simp] theorem State.bump_bg (s : State) (idx sub : Nat) : (State.bump s idx sub).bg = s.bg := rfl
@[simp] theorem State.bump_eng (s : State) (idx sub : Nat) : (State.bump s idx sub).eng = s.eng := rfl
@[simp] theorem State.bump_uwb (s : State) (idx sub : Nat) : (State.bump s idx sub).uwb = s.uwb := rfl
@[simp] theorem State.bump_rfc (s : State) (idx sub : Nat) : (State.bump s idx sub).rfc = s.rfc := rfl
@[simp] theorem State.bump_ble (s : State) (idx sub : Nat) : (State.bump s idx sub).ble = s.ble := rfl
@[simp] theorem State.bump_cap (s : State) (idx sub : Nat) : (State.bump s idx sub).cap = s.cap := rfl
@[simp] theorem State.bump_lf (s : State) (idx sub : Nat) : (State.bump s idx sub).lf = s.lf := rfl
@[simp] theorem State.bump_nfc (s : State) (idx sub : Nat) : (State.bump s idx sub).nfc = s.nfc := rfl
@[simp] theorem State.bump_tag (s : State) (idx sub : Nat) : (State.bump s idx sub).tag = s.tag := rfl
@[simp] theorem State.bump_net (s : State) (idx sub : Nat) : (State.bump s idx sub).net = s.net := rfl
@[simp] theorem State.bump_time (s : State) (idx sub : Nat) : (State.bump s idx sub).time = s.time := rfl
@[simp] theorem State.bump_tpins (s : State) (idx sub : Nat) : (State.bump s idx sub).tpins = s.tpins := rfl

/-! `State.setPend` -/
@[simp] theorem State.setPend_now (s : State) (idx sub v : Nat) : (State.setPend s idx sub v).now = s.now := rfl
@[simp] theorem State.setPend_pending (s : State) (idx sub v : Nat) : (State.setPend s idx sub v).pending = s.pending := rfl
@[simp] theorem State.setPend_fuse (s : State) (idx sub v : Nat) : (State.setPend s idx sub v).fuse = s.fuse := rfl
@[simp] theorem State.setPend_reg (s : State) (idx sub v : Nat) : (State.setPend s idx sub v).reg = s.reg := rfl
@[simp] theorem State.setPend_dict (s : State) (idx sub v : Nat) : (State.setPend s idx sub v).dict = s.dict := rfl
@[simp] theorem State.setPend_log (s : State) (idx sub v : Nat) : (State.setPend s idx sub v).log = s.log := rfl
@[simp] theorem State.setPend_keys (s : State) (idx sub v : Nat) : (State.setPend s idx sub v).keys = s.keys := rfl
@[simp] theorem State.setPend_cx (s : State) (idx sub v : Nat) : (State.setPend s idx sub v).cx = s.cx := rfl
@[simp] theorem State.setPend_rng (s : State) (idx sub v : Nat) : (State.setPend s idx sub v).rng = s.rng := rfl
@[simp] theorem State.setPend_acc (s : State) (idx sub v : Nat) : (State.setPend s idx sub v).acc = s.acc := rfl
@[simp] theorem State.setPend_ts (s : State) (idx sub v : Nat) : (State.setPend s idx sub v).ts = s.ts := rfl
@[simp] theorem State.setPend_gate (s : State) (idx sub v : Nat) : (State.setPend s idx sub v).gate = s.gate := rfl
@[simp] theorem State.setPend_seg (s : State) (idx sub v : Nat) : (State.setPend s idx sub v).seg = s.seg := rfl
@[simp] theorem State.setPend_twin (s : State) (idx sub v : Nat) : (State.setPend s idx sub v).twin = s.twin := rfl
@[simp] theorem State.setPend_pwr (s : State) (idx sub v : Nat) : (State.setPend s idx sub v).pwr = s.pwr := rfl
@[simp] theorem State.setPend_tmr (s : State) (idx sub v : Nat) : (State.setPend s idx sub v).tmr = s.tmr := rfl
@[simp] theorem State.setPend_bg (s : State) (idx sub v : Nat) : (State.setPend s idx sub v).bg = s.bg := rfl
@[simp] theorem State.setPend_eng (s : State) (idx sub v : Nat) : (State.setPend s idx sub v).eng = s.eng := rfl
@[simp] theorem State.setPend_uwb (s : State) (idx sub v : Nat) : (State.setPend s idx sub v).uwb = s.uwb := rfl
@[simp] theorem State.setPend_rfc (s : State) (idx sub v : Nat) : (State.setPend s idx sub v).rfc = s.rfc := rfl
@[simp] theorem State.setPend_ble (s : State) (idx sub v : Nat) : (State.setPend s idx sub v).ble = s.ble := rfl
@[simp] theorem State.setPend_cap (s : State) (idx sub v : Nat) : (State.setPend s idx sub v).cap = s.cap := rfl
@[simp] theorem State.setPend_lf (s : State) (idx sub v : Nat) : (State.setPend s idx sub v).lf = s.lf := rfl
@[simp] theorem State.setPend_nfc (s : State) (idx sub v : Nat) : (State.setPend s idx sub v).nfc = s.nfc := rfl
@[simp] theorem State.setPend_tag (s : State) (idx sub v : Nat) : (State.setPend s idx sub v).tag = s.tag := rfl
@[simp] theorem State.setPend_net (s : State) (idx sub v : Nat) : (State.setPend s idx sub v).net = s.net := rfl
@[simp] theorem State.setPend_time (s : State) (idx sub v : Nat) : (State.setPend s idx sub v).time = s.time := rfl
@[simp] theorem State.setPend_tpins (s : State) (idx sub v : Nat) : (State.setPend s idx sub v).tpins = s.tpins := rfl
@[simp] theorem State.setPend_pend (s : State) (idx sub v : Nat) :
    (State.setPend s idx sub v).pend = alPut s.pend (okey idx sub) v := rfl

/-! `State.setEngine` -/
@[simp] theorem State.setEngine_now (s : State) (n : Nat) (e : Engine) : (State.setEngine s n e).now = s.now := rfl
@[simp] theorem State.setEngine_pending (s : State) (n : Nat) (e : Engine) : (State.setEngine s n e).pending = s.pending := rfl
@[simp] theorem State.setEngine_fuse (s : State) (n : Nat) (e : Engine) : (State.setEngine s n e).fuse = s.fuse := rfl
@[simp] theorem State.setEngine_reg (s : State) (n : Nat) (e : Engine) : (State.setEngine s n e).reg = s.reg := rfl
@[simp] theorem State.setEngine_pend (s : State) (n : Nat) (e : Engine) : (State.setEngine s n e).pend = s.pend := rfl
@[simp] theorem State.setEngine_dict (s : State) (n : Nat) (e : Engine) : (State.setEngine s n e).dict = s.dict := rfl
@[simp] theorem State.setEngine_log (s : State) (n : Nat) (e : Engine) : (State.setEngine s n e).log = s.log := rfl
@[simp] theorem State.setEngine_keys (s : State) (n : Nat) (e : Engine) : (State.setEngine s n e).keys = s.keys := rfl
@[simp] theorem State.setEngine_cx (s : State) (n : Nat) (e : Engine) : (State.setEngine s n e).cx = s.cx := rfl
@[simp] theorem State.setEngine_rng (s : State) (n : Nat) (e : Engine) : (State.setEngine s n e).rng = s.rng := rfl
@[simp] theorem State.setEngine_acc (s : State) (n : Nat) (e : Engine) : (State.setEngine s n e).acc = s.acc := rfl
@[simp] theorem State.setEngine_ts (s : State) (n : Nat) (e : Engine) : (State.setEngine s n e).ts = s.ts := rfl
@[simp] theorem State.setEngine_gate (s : State) (n : Nat) (e : Engine) : (State.setEngine s n e).gate = s.gate := rfl
@[simp] theorem State.setEngine_seg (s : State) (n : Nat) (e : Engine) : (State.setEngine s n e).seg = s.seg := rfl
@[simp] theorem State.setEngine_twin (s : State) (n : Nat) (e : Engine) : (State.setEngine s n e).twin = s.twin := rfl
@[simp] theorem State.setEngine_pwr (s : State) (n : Nat) (e : Engine) : (State.setEngine s n e).pwr = s.pwr := rfl
@[simp] theorem State.setEngine_tmr (s : State) (n : Nat) (e : Engine) : (State.setEngine s n e).tmr = s.tmr := rfl
@[simp] theorem State.setEngine_bg (s : State) (n : Nat) (e : Engine) : (State.setEngine s n e).bg = s.bg := rfl
@[simp] theorem State.setEngine_uwb (s : State) (n : Nat) (e : Engine) : (State.setEngine s n e).uwb = s.uwb := rfl
@[simp] theorem State.setEngine_rfc (s : State) (n : Nat) (e : Engine) : (State.setEngine s n e).rfc = s.rfc := rfl
@[simp] theorem State.setEngine_ble (s : State) (n : Nat) (e : Engine) : (State.setEngine s n e).ble = s.ble := rfl
@[simp] theorem State.setEngine_cap (s : State) (n : Nat) (e : Engine) : (State.setEngine s n e).cap = s.cap := rfl
@[simp] theorem State.setEngine_lf (s : State) (n : Nat) (e : Engine) : (State.setEngine s n e).lf = s.lf := rfl
@[simp] theorem State.setEngine_nfc (s : State) (n : Nat) (e : Engine) : (State.setEngine s n e).nfc = s.nfc := rfl
@[simp] theorem State.setEngine_tag (s : State) (n : Nat) (e : Engine) : (State.setEngine s n e).tag = s.tag := rfl
@[simp] theorem State.setEngine_net (s : State) (n : Nat) (e : Engine) : (State.setEngine s n e).net = s.net := rfl
@[simp] theorem State.setEngine_time (s : State) (n : Nat) (e : Engine) : (State.setEngine s n e).time = s.time := rfl
@[simp] theorem State.setEngine_tpins (s : State) (n : Nat) (e : Engine) : (State.setEngine s n e).tpins = s.tpins := rfl
@[simp] theorem State.setEngine_eng_es (s : State) (n : Nat) (e : Engine) :
    (State.setEngine s n e).eng.es = putAt s.eng.es n e := rfl

/-! `State.engEv` -/
@[simp] theorem State.engEv_now (s : State) (n b : Nat) : (State.engEv s n b).now = s.now := rfl
@[simp] theorem State.engEv_pending (s : State) (n b : Nat) : (State.engEv s n b).pending = s.pending := rfl
@[simp] theorem State.engEv_fuse (s : State) (n b : Nat) : (State.engEv s n b).fuse = s.fuse := rfl
@[simp] theorem State.engEv_reg (s : State) (n b : Nat) : (State.engEv s n b).reg = s.reg := rfl
@[simp] theorem State.engEv_pend (s : State) (n b : Nat) : (State.engEv s n b).pend = s.pend := rfl
@[simp] theorem State.engEv_dict (s : State) (n b : Nat) : (State.engEv s n b).dict = s.dict := rfl
@[simp] theorem State.engEv_log (s : State) (n b : Nat) : (State.engEv s n b).log = s.log := rfl
@[simp] theorem State.engEv_keys (s : State) (n b : Nat) : (State.engEv s n b).keys = s.keys := rfl
@[simp] theorem State.engEv_cx (s : State) (n b : Nat) : (State.engEv s n b).cx = s.cx := rfl
@[simp] theorem State.engEv_rng (s : State) (n b : Nat) : (State.engEv s n b).rng = s.rng := rfl
@[simp] theorem State.engEv_acc (s : State) (n b : Nat) : (State.engEv s n b).acc = s.acc := rfl
@[simp] theorem State.engEv_ts (s : State) (n b : Nat) : (State.engEv s n b).ts = s.ts := rfl
@[simp] theorem State.engEv_gate (s : State) (n b : Nat) : (State.engEv s n b).gate = s.gate := rfl
@[simp] theorem State.engEv_seg (s : State) (n b : Nat) : (State.engEv s n b).seg = s.seg := rfl
@[simp] theorem State.engEv_twin (s : State) (n b : Nat) : (State.engEv s n b).twin = s.twin := rfl
@[simp] theorem State.engEv_pwr (s : State) (n b : Nat) : (State.engEv s n b).pwr = s.pwr := rfl
@[simp] theorem State.engEv_tmr (s : State) (n b : Nat) : (State.engEv s n b).tmr = s.tmr := rfl
@[simp] theorem State.engEv_bg (s : State) (n b : Nat) : (State.engEv s n b).bg = s.bg := rfl
@[simp] theorem State.engEv_uwb (s : State) (n b : Nat) : (State.engEv s n b).uwb = s.uwb := rfl
@[simp] theorem State.engEv_rfc (s : State) (n b : Nat) : (State.engEv s n b).rfc = s.rfc := rfl
@[simp] theorem State.engEv_ble (s : State) (n b : Nat) : (State.engEv s n b).ble = s.ble := rfl
@[simp] theorem State.engEv_cap (s : State) (n b : Nat) : (State.engEv s n b).cap = s.cap := rfl
@[simp] theorem State.engEv_lf (s : State) (n b : Nat) : (State.engEv s n b).lf = s.lf := rfl
@[simp] theorem State.engEv_nfc (s : State) (n b : Nat) : (State.engEv s n b).nfc = s.nfc := rfl
@[simp] theorem State.engEv_tag (s : State) (n b : Nat) : (State.engEv s n b).tag = s.tag := rfl
@[simp] theorem State.engEv_net (s : State) (n b : Nat) : (State.engEv s n b).net = s.net := rfl
@[simp] theorem State.engEv_time (s : State) (n b : Nat) : (State.engEv s n b).time = s.time := rfl
@[simp] theorem State.engEv_tpins (s : State) (n b : Nat) : (State.engEv s n b).tpins = s.tpins := rfl
@[simp] theorem State.engEv_eng_es (s : State) (n b : Nat) :
    (State.engEv s n b).eng.es = modAt s.eng.es n fun e => if e.listens then { e with evt := e.evt ||| BitVec.ofNat 32 (2 ^ b) } else e := rfl

/-! `State.answer` -/
@[simp] theorem State.answer_now (s : State) (who : Requester) (idx : Nat) (r : Resp) : (State.answer s who idx r).now = s.now := rfl
@[simp] theorem State.answer_pending (s : State) (who : Requester) (idx : Nat) (r : Resp) :
    (State.answer s who idx r).pending = s.pending := rfl
@[simp] theorem State.answer_fuse (s : State) (who : Requester) (idx : Nat) (r : Resp) : (State.answer s who idx r).fuse = s.fuse := rfl
@[simp] theorem State.answer_reg (s : State) (who : Requester) (idx : Nat) (r : Resp) : (State.answer s who idx r).reg = s.reg := rfl
@[simp] theorem State.answer_pend (s : State) (who : Requester) (idx : Nat) (r : Resp) : (State.answer s who idx r).pend = s.pend := rfl
@[simp] theorem State.answer_log (s : State) (who : Requester) (idx : Nat) (r : Resp) : (State.answer s who idx r).log = s.log := rfl
@[simp] theorem State.answer_keys (s : State) (who : Requester) (idx : Nat) (r : Resp) : (State.answer s who idx r).keys = s.keys := rfl
@[simp] theorem State.answer_cx (s : State) (who : Requester) (idx : Nat) (r : Resp) : (State.answer s who idx r).cx = s.cx := rfl
@[simp] theorem State.answer_rng (s : State) (who : Requester) (idx : Nat) (r : Resp) : (State.answer s who idx r).rng = s.rng := rfl
@[simp] theorem State.answer_acc (s : State) (who : Requester) (idx : Nat) (r : Resp) : (State.answer s who idx r).acc = s.acc := rfl
@[simp] theorem State.answer_ts (s : State) (who : Requester) (idx : Nat) (r : Resp) : (State.answer s who idx r).ts = s.ts := rfl
@[simp] theorem State.answer_gate (s : State) (who : Requester) (idx : Nat) (r : Resp) : (State.answer s who idx r).gate = s.gate := rfl
@[simp] theorem State.answer_seg (s : State) (who : Requester) (idx : Nat) (r : Resp) : (State.answer s who idx r).seg = s.seg := rfl
@[simp] theorem State.answer_twin (s : State) (who : Requester) (idx : Nat) (r : Resp) : (State.answer s who idx r).twin = s.twin := rfl
@[simp] theorem State.answer_pwr (s : State) (who : Requester) (idx : Nat) (r : Resp) : (State.answer s who idx r).pwr = s.pwr := rfl
@[simp] theorem State.answer_tmr (s : State) (who : Requester) (idx : Nat) (r : Resp) : (State.answer s who idx r).tmr = s.tmr := rfl
@[simp] theorem State.answer_bg (s : State) (who : Requester) (idx : Nat) (r : Resp) : (State.answer s who idx r).bg = s.bg := rfl
@[simp] theorem State.answer_eng (s : State) (who : Requester) (idx : Nat) (r : Resp) : (State.answer s who idx r).eng = s.eng := rfl
@[simp] theorem State.answer_uwb (s : State) (who : Requester) (idx : Nat) (r : Resp) : (State.answer s who idx r).uwb = s.uwb := rfl
@[simp] theorem State.answer_rfc (s : State) (who : Requester) (idx : Nat) (r : Resp) : (State.answer s who idx r).rfc = s.rfc := rfl
@[simp] theorem State.answer_ble (s : State) (who : Requester) (idx : Nat) (r : Resp) : (State.answer s who idx r).ble = s.ble := rfl
@[simp] theorem State.answer_cap (s : State) (who : Requester) (idx : Nat) (r : Resp) : (State.answer s who idx r).cap = s.cap := rfl
@[simp] theorem State.answer_lf (s : State) (who : Requester) (idx : Nat) (r : Resp) : (State.answer s who idx r).lf = s.lf := rfl
@[simp] theorem State.answer_nfc (s : State) (who : Requester) (idx : Nat) (r : Resp) : (State.answer s who idx r).nfc = s.nfc := rfl
@[simp] theorem State.answer_tag (s : State) (who : Requester) (idx : Nat) (r : Resp) : (State.answer s who idx r).tag = s.tag := rfl
@[simp] theorem State.answer_net (s : State) (who : Requester) (idx : Nat) (r : Resp) : (State.answer s who idx r).net = s.net := rfl
@[simp] theorem State.answer_time (s : State) (who : Requester) (idx : Nat) (r : Resp) : (State.answer s who idx r).time = s.time := rfl
@[simp] theorem State.answer_tpins (s : State) (who : Requester) (idx : Nat) (r : Resp) :
    (State.answer s who idx r).tpins = s.tpins := rfl
@[simp] theorem State.answer_dict_done (s : State) (who : Requester) (idx : Nat) (r : Resp) :
    (State.answer s who idx r).dict.done = s.dict.done ++ [(who, idx, r)] := rfl

/-! `State.canSend` -/
@[simp] theorem State.canSend_now (s : State) (c : Nat) (f : CanTx) : (State.canSend s c f).now = s.now := rfl
@[simp] theorem State.canSend_pending (s : State) (c : Nat) (f : CanTx) : (State.canSend s c f).pending = s.pending := rfl
@[simp] theorem State.canSend_fuse (s : State) (c : Nat) (f : CanTx) : (State.canSend s c f).fuse = s.fuse := rfl
@[simp] theorem State.canSend_reg (s : State) (c : Nat) (f : CanTx) : (State.canSend s c f).reg = s.reg := rfl
@[simp] theorem State.canSend_pend (s : State) (c : Nat) (f : CanTx) : (State.canSend s c f).pend = s.pend := rfl
@[simp] theorem State.canSend_dict (s : State) (c : Nat) (f : CanTx) : (State.canSend s c f).dict = s.dict := rfl
@[simp] theorem State.canSend_log (s : State) (c : Nat) (f : CanTx) : (State.canSend s c f).log = s.log := rfl
@[simp] theorem State.canSend_keys (s : State) (c : Nat) (f : CanTx) : (State.canSend s c f).keys = s.keys := rfl
@[simp] theorem State.canSend_cx (s : State) (c : Nat) (f : CanTx) : (State.canSend s c f).cx = s.cx := rfl
@[simp] theorem State.canSend_rng (s : State) (c : Nat) (f : CanTx) : (State.canSend s c f).rng = s.rng := rfl
@[simp] theorem State.canSend_acc (s : State) (c : Nat) (f : CanTx) : (State.canSend s c f).acc = s.acc := rfl
@[simp] theorem State.canSend_ts (s : State) (c : Nat) (f : CanTx) : (State.canSend s c f).ts = s.ts := rfl
@[simp] theorem State.canSend_gate (s : State) (c : Nat) (f : CanTx) : (State.canSend s c f).gate = s.gate := rfl
@[simp] theorem State.canSend_seg (s : State) (c : Nat) (f : CanTx) : (State.canSend s c f).seg = s.seg := rfl
@[simp] theorem State.canSend_twin (s : State) (c : Nat) (f : CanTx) : (State.canSend s c f).twin = s.twin := rfl
@[simp] theorem State.canSend_pwr (s : State) (c : Nat) (f : CanTx) : (State.canSend s c f).pwr = s.pwr := rfl
@[simp] theorem State.canSend_tmr (s : State) (c : Nat) (f : CanTx) : (State.canSend s c f).tmr = s.tmr := rfl
@[simp] theorem State.canSend_bg (s : State) (c : Nat) (f : CanTx) : (State.canSend s c f).bg = s.bg := rfl
@[simp] theorem State.canSend_eng (s : State) (c : Nat) (f : CanTx) : (State.canSend s c f).eng = s.eng := rfl
@[simp] theorem State.canSend_uwb (s : State) (c : Nat) (f : CanTx) : (State.canSend s c f).uwb = s.uwb := rfl
@[simp] theorem State.canSend_rfc (s : State) (c : Nat) (f : CanTx) : (State.canSend s c f).rfc = s.rfc := rfl
@[simp] theorem State.canSend_ble (s : State) (c : Nat) (f : CanTx) : (State.canSend s c f).ble = s.ble := rfl
@[simp] theorem State.canSend_cap (s : State) (c : Nat) (f : CanTx) : (State.canSend s c f).cap = s.cap := rfl
@[simp] theorem State.canSend_lf (s : State) (c : Nat) (f : CanTx) : (State.canSend s c f).lf = s.lf := rfl
@[simp] theorem State.canSend_nfc (s : State) (c : Nat) (f : CanTx) : (State.canSend s c f).nfc = s.nfc := rfl
@[simp] theorem State.canSend_tag (s : State) (c : Nat) (f : CanTx) : (State.canSend s c f).tag = s.tag := rfl
@[simp] theorem State.canSend_time (s : State) (c : Nat) (f : CanTx) : (State.canSend s c f).time = s.time := rfl
@[simp] theorem State.canSend_tpins (s : State) (c : Nat) (f : CanTx) : (State.canSend s c f).tpins = s.tpins := rfl
@[simp] theorem State.canSend_net_can (s : State) (c : Nat) (f : CanTx) :
    (State.canSend s c f).net.can = modAt s.net.can c fun k =>
      if f.who.isNone && k.st = 0 then k else { k with q := k.q ++ [{ f with at_ := s.now }] } := rfl

/-! `State.ethSend` -/
@[simp] theorem State.ethSend_now (s : State) (cls : Nat) (da : Bytes) (etype : Nat) (payload : Bytes) :
    (State.ethSend s cls da etype payload).now = s.now := rfl
@[simp] theorem State.ethSend_pending (s : State) (cls : Nat) (da : Bytes) (etype : Nat) (payload : Bytes) :
    (State.ethSend s cls da etype payload).pending = s.pending := rfl
@[simp] theorem State.ethSend_fuse (s : State) (cls : Nat) (da : Bytes) (etype : Nat) (payload : Bytes) :
    (State.ethSend s cls da etype payload).fuse = s.fuse := rfl
@[simp] theorem State.ethSend_reg (s : State) (cls : Nat) (da : Bytes) (etype : Nat) (payload : Bytes) :
    (State.ethSend s cls da etype payload).reg = s.reg := rfl
@[simp] theorem State.ethSend_pend (s : State) (cls : Nat) (da : Bytes) (etype : Nat) (payload : Bytes) :
    (State.ethSend s cls da etype payload).pend = s.pend := rfl
@[simp] theorem State.ethSend_dict (s : State) (cls : Nat) (da : Bytes) (etype : Nat) (payload : Bytes) :
    (State.ethSend s cls da etype payload).dict = s.dict := rfl
@[simp] theorem State.ethSend_log (s : State) (cls : Nat) (da : Bytes) (etype : Nat) (payload : Bytes) :
    (State.ethSend s cls da etype payload).log = s.log := rfl
@[simp] theorem State.ethSend_keys (s : State) (cls : Nat) (da : Bytes) (etype : Nat) (payload : Bytes) :
    (State.ethSend s cls da etype payload).keys = s.keys := rfl
@[simp] theorem State.ethSend_cx (s : State) (cls : Nat) (da : Bytes) (etype : Nat) (payload : Bytes) :
    (State.ethSend s cls da etype payload).cx = s.cx := rfl
@[simp] theorem State.ethSend_rng (s : State) (cls : Nat) (da : Bytes) (etype : Nat) (payload : Bytes) :
    (State.ethSend s cls da etype payload).rng = s.rng := rfl
@[simp] theorem State.ethSend_acc (s : State) (cls : Nat) (da : Bytes) (etype : Nat) (payload : Bytes) :
    (State.ethSend s cls da etype payload).acc = s.acc := rfl
@[simp] theorem State.ethSend_ts (s : State) (cls : Nat) (da : Bytes) (etype : Nat) (payload : Bytes) :
    (State.ethSend s cls da etype payload).ts = s.ts := rfl
@[simp] theorem State.ethSend_gate (s : State) (cls : Nat) (da : Bytes) (etype : Nat) (payload : Bytes) :
    (State.ethSend s cls da etype payload).gate = s.gate := rfl
@[simp] theorem State.ethSend_seg (s : State) (cls : Nat) (da : Bytes) (etype : Nat) (payload : Bytes) :
    (State.ethSend s cls da etype payload).seg = s.seg := rfl
@[simp] theorem State.ethSend_twin (s : State) (cls : Nat) (da : Bytes) (etype : Nat) (payload : Bytes) :
    (State.ethSend s cls da etype payload).twin = s.twin := rfl
@[simp] theorem State.ethSend_pwr (s : State) (cls : Nat) (da : Bytes) (etype : Nat) (payload : Bytes) :
    (State.ethSend s cls da etype payload).pwr = s.pwr := rfl
@[simp] theorem State.ethSend_tmr (s : State) (cls : Nat) (da : Bytes) (etype : Nat) (payload : Bytes) :
    (State.ethSend s cls da etype payload).tmr = s.tmr := rfl
@[simp] theorem State.ethSend_bg (s : State) (cls : Nat) (da : Bytes) (etype : Nat) (payload : Bytes) :
    (State.ethSend s cls da etype payload).bg = s.bg := rfl
@[simp] theorem State.ethSend_eng (s : State) (cls : Nat) (da : Bytes) (etype : Nat) (payload : Bytes) :
    (State.ethSend s cls da etype payload).eng = s.eng := rfl
@[simp] theorem State.ethSend_uwb (s : State) (cls : Nat) (da : Bytes) (etype : Nat) (payload : Bytes) :
    (State.ethSend s cls da etype payload).uwb = s.uwb := rfl
@[simp] theorem State.ethSend_rfc (s : State) (cls : Nat) (da : Bytes) (etype : Nat) (payload : Bytes) :
    (State.ethSend s cls da etype payload).rfc = s.rfc := rfl
@[simp] theorem State.ethSend_ble (s : State) (cls : Nat) (da : Bytes) (etype : Nat) (payload : Bytes) :
    (State.ethSend s cls da etype payload).ble = s.ble := rfl
@[simp] theorem State.ethSend_cap (s : State) (cls : Nat) (da : Bytes) (etype : Nat) (payload : Bytes) :
    (State.ethSend s cls da etype payload).cap = s.cap := rfl
@[simp] theorem State.ethSend_lf (s : State) (cls : Nat) (da : Bytes) (etype : Nat) (payload : Bytes) :
    (State.ethSend s cls da etype payload).lf = s.lf := rfl
@[simp] theorem State.ethSend_nfc (s : State) (cls : Nat) (da : Bytes) (etype : Nat) (payload : Bytes) :
    (State.ethSend s cls da etype payload).nfc = s.nfc := rfl
@[simp] theorem State.ethSend_tag (s : State) (cls : Nat) (da : Bytes) (etype : Nat) (payload : Bytes) :
    (State.ethSend s cls da etype payload).tag = s.tag := rfl
@[simp] theorem State.ethSend_time (s : State) (cls : Nat) (da : Bytes) (etype : Nat) (payload : Bytes) :
    (State.ethSend s cls da etype payload).time = s.time := rfl
@[simp] theorem State.ethSend_tpins (s : State) (cls : Nat) (da : Bytes) (etype : Nat) (payload : Bytes) :
    (State.ethSend s cls da etype payload).tpins = s.tpins := rfl
@[simp] theorem State.ethSend_net_eth (s : State) (cls : Nat) (da : Bytes) (etype : Nat) (payload : Bytes) :
    (State.ethSend s cls da etype payload).net.eth = s.net.eth ++ [⟨cls, none, 0, da, etype, payload, 0, 0⟩] := rfl

/-! `State.cxUse` -/
@[simp] theorem State.cxUse_now (s : State) (c n : Nat) : (State.cxUse s c n).now = s.now := rfl
@[simp] theorem State.cxUse_pending (s : State) (c n : Nat) : (State.cxUse s c n).pending = s.pending := rfl
@[simp] theorem State.cxUse_fuse (s : State) (c n : Nat) : (State.cxUse s c n).fuse = s.fuse := rfl
@[simp] theorem State.cxUse_pend (s : State) (c n : Nat) : (State.cxUse s c n).pend = s.pend := rfl
@[simp] theorem State.cxUse_dict (s : State) (c n : Nat) : (State.cxUse s c n).dict = s.dict := rfl
@[simp] theorem State.cxUse_log (s : State) (c n : Nat) : (State.cxUse s c n).log = s.log := rfl
@[simp] theorem State.cxUse_keys (s : State) (c n : Nat) : (State.cxUse s c n).keys = s.keys := rfl
@[simp] theorem State.cxUse_cx (s : State) (c n : Nat) : (State.cxUse s c n).cx = s.cx := rfl
@[simp] theorem State.cxUse_rng (s : State) (c n : Nat) : (State.cxUse s c n).rng = s.rng := rfl
@[simp] theorem State.cxUse_acc (s : State) (c n : Nat) : (State.cxUse s c n).acc = s.acc := rfl
@[simp] theorem State.cxUse_ts (s : State) (c n : Nat) : (State.cxUse s c n).ts = s.ts := rfl
@[simp] theorem State.cxUse_gate (s : State) (c n : Nat) : (State.cxUse s c n).gate = s.gate := rfl
@[simp] theorem State.cxUse_seg (s : State) (c n : Nat) : (State.cxUse s c n).seg = s.seg := rfl
@[simp] theorem State.cxUse_twin (s : State) (c n : Nat) : (State.cxUse s c n).twin = s.twin := rfl
@[simp] theorem State.cxUse_pwr (s : State) (c n : Nat) : (State.cxUse s c n).pwr = s.pwr := rfl
@[simp] theorem State.cxUse_tmr (s : State) (c n : Nat) : (State.cxUse s c n).tmr = s.tmr := rfl
@[simp] theorem State.cxUse_bg (s : State) (c n : Nat) : (State.cxUse s c n).bg = s.bg := rfl
@[simp] theorem State.cxUse_eng (s : State) (c n : Nat) : (State.cxUse s c n).eng = s.eng := rfl
@[simp] theorem State.cxUse_uwb (s : State) (c n : Nat) : (State.cxUse s c n).uwb = s.uwb := rfl
@[simp] theorem State.cxUse_rfc (s : State) (c n : Nat) : (State.cxUse s c n).rfc = s.rfc := rfl
@[simp] theorem State.cxUse_ble (s : State) (c n : Nat) : (State.cxUse s c n).ble = s.ble := rfl
@[simp] theorem State.cxUse_cap (s : State) (c n : Nat) : (State.cxUse s c n).cap = s.cap := rfl
@[simp] theorem State.cxUse_lf (s : State) (c n : Nat) : (State.cxUse s c n).lf = s.lf := rfl
@[simp] theorem State.cxUse_nfc (s : State) (c n : Nat) : (State.cxUse s c n).nfc = s.nfc := rfl
@[simp] theorem State.cxUse_tag (s : State) (c n : Nat) : (State.cxUse s c n).tag = s.tag := rfl
@[simp] theorem State.cxUse_net (s : State) (c n : Nat) : (State.cxUse s c n).net = s.net := rfl
@[simp] theorem State.cxUse_time (s : State) (c n : Nat) : (State.cxUse s c n).time = s.time := rfl
@[simp] theorem State.cxUse_tpins (s : State) (c n : Nat) : (State.cxUse s c n).tpins = s.tpins := rfl

/-! `State.t1sStart` -/
@[simp] theorem State.t1sStart_now (s : State) : (State.t1sStart s).now = s.now := rfl
@[simp] theorem State.t1sStart_pending (s : State) : (State.t1sStart s).pending = s.pending := rfl
@[simp] theorem State.t1sStart_fuse (s : State) : (State.t1sStart s).fuse = s.fuse := rfl
@[simp] theorem State.t1sStart_reg (s : State) : (State.t1sStart s).reg = s.reg := rfl
@[simp] theorem State.t1sStart_pend (s : State) : (State.t1sStart s).pend = s.pend := rfl
@[simp] theorem State.t1sStart_dict (s : State) : (State.t1sStart s).dict = s.dict := rfl
@[simp] theorem State.t1sStart_log (s : State) : (State.t1sStart s).log = s.log := rfl
@[simp] theorem State.t1sStart_keys (s : State) : (State.t1sStart s).keys = s.keys := rfl
@[simp] theorem State.t1sStart_cx (s : State) : (State.t1sStart s).cx = s.cx := rfl
@[simp] theorem State.t1sStart_rng (s : State) : (State.t1sStart s).rng = s.rng := rfl
@[simp] theorem State.t1sStart_acc (s : State) : (State.t1sStart s).acc = s.acc := rfl
@[simp] theorem State.t1sStart_ts (s : State) : (State.t1sStart s).ts = s.ts := rfl
@[simp] theorem State.t1sStart_gate (s : State) : (State.t1sStart s).gate = s.gate := rfl
@[simp] theorem State.t1sStart_seg (s : State) : (State.t1sStart s).seg = s.seg := rfl
@[simp] theorem State.t1sStart_twin (s : State) : (State.t1sStart s).twin = s.twin := rfl
@[simp] theorem State.t1sStart_pwr (s : State) : (State.t1sStart s).pwr = s.pwr := rfl
@[simp] theorem State.t1sStart_tmr (s : State) : (State.t1sStart s).tmr = s.tmr := rfl
@[simp] theorem State.t1sStart_bg (s : State) : (State.t1sStart s).bg = s.bg := rfl
@[simp] theorem State.t1sStart_eng (s : State) : (State.t1sStart s).eng = s.eng := rfl
@[simp] theorem State.t1sStart_uwb (s : State) : (State.t1sStart s).uwb = s.uwb := rfl
@[simp] theorem State.t1sStart_rfc (s : State) : (State.t1sStart s).rfc = s.rfc := rfl
@[simp] theorem State.t1sStart_ble (s : State) : (State.t1sStart s).ble = s.ble := rfl
@[simp] theorem State.t1sStart_cap (s : State) : (State.t1sStart s).cap = s.cap := rfl
@[simp] theorem State.t1sStart_lf (s : State) : (State.t1sStart s).lf = s.lf := rfl
@[simp] theorem State.t1sStart_nfc (s : State) : (State.t1sStart s).nfc = s.nfc := rfl
@[simp] theorem State.t1sStart_tag (s : State) : (State.t1sStart s).tag = s.tag := rfl
@[simp] theorem State.t1sStart_time (s : State) : (State.t1sStart s).time = s.time := rfl
@[simp] theorem State.t1sStart_tpins (s : State) : (State.t1sStart s).tpins = s.tpins := rfl
@[simp] theorem State.t1sStart_net_t1s (s : State) :
    (State.t1sStart s).net.t1s = s.t1sMode := rfl

/-! `State.modSes` -/
@[simp] theorem State.modSes_now (s : State) (i : Nat) (f : TokSession → TokSession) : (State.modSes s i f).now = s.now := rfl
@[simp] theorem State.modSes_pending (s : State) (i : Nat) (f : TokSession → TokSession) : (State.modSes s i f).pending = s.pending := rfl
@[simp] theorem State.modSes_fuse (s : State) (i : Nat) (f : TokSession → TokSession) : (State.modSes s i f).fuse = s.fuse := rfl
@[simp] theorem State.modSes_reg (s : State) (i : Nat) (f : TokSession → TokSession) : (State.modSes s i f).reg = s.reg := rfl
@[simp] theorem State.modSes_pend (s : State) (i : Nat) (f : TokSession → TokSession) : (State.modSes s i f).pend = s.pend := rfl
@[simp] theorem State.modSes_dict (s : State) (i : Nat) (f : TokSession → TokSession) : (State.modSes s i f).dict = s.dict := rfl
@[simp] theorem State.modSes_log (s : State) (i : Nat) (f : TokSession → TokSession) : (State.modSes s i f).log = s.log := rfl
@[simp] theorem State.modSes_keys (s : State) (i : Nat) (f : TokSession → TokSession) : (State.modSes s i f).keys = s.keys := rfl
@[simp] theorem State.modSes_cx (s : State) (i : Nat) (f : TokSession → TokSession) : (State.modSes s i f).cx = s.cx := rfl
@[simp] theorem State.modSes_rng (s : State) (i : Nat) (f : TokSession → TokSession) : (State.modSes s i f).rng = s.rng := rfl
@[simp] theorem State.modSes_ts (s : State) (i : Nat) (f : TokSession → TokSession) : (State.modSes s i f).ts = s.ts := rfl
@[simp] theorem State.modSes_gate (s : State) (i : Nat) (f : TokSession → TokSession) : (State.modSes s i f).gate = s.gate := rfl
@[simp] theorem State.modSes_seg (s : State) (i : Nat) (f : TokSession → TokSession) : (State.modSes s i f).seg = s.seg := rfl
@[simp] theorem State.modSes_twin (s : State) (i : Nat) (f : TokSession → TokSession) : (State.modSes s i f).twin = s.twin := rfl
@[simp] theorem State.modSes_pwr (s : State) (i : Nat) (f : TokSession → TokSession) : (State.modSes s i f).pwr = s.pwr := rfl
@[simp] theorem State.modSes_tmr (s : State) (i : Nat) (f : TokSession → TokSession) : (State.modSes s i f).tmr = s.tmr := rfl
@[simp] theorem State.modSes_bg (s : State) (i : Nat) (f : TokSession → TokSession) : (State.modSes s i f).bg = s.bg := rfl
@[simp] theorem State.modSes_eng (s : State) (i : Nat) (f : TokSession → TokSession) : (State.modSes s i f).eng = s.eng := rfl
@[simp] theorem State.modSes_uwb (s : State) (i : Nat) (f : TokSession → TokSession) : (State.modSes s i f).uwb = s.uwb := rfl
@[simp] theorem State.modSes_rfc (s : State) (i : Nat) (f : TokSession → TokSession) : (State.modSes s i f).rfc = s.rfc := rfl
@[simp] theorem State.modSes_ble (s : State) (i : Nat) (f : TokSession → TokSession) : (State.modSes s i f).ble = s.ble := rfl
@[simp] theorem State.modSes_cap (s : State) (i : Nat) (f : TokSession → TokSession) : (State.modSes s i f).cap = s.cap := rfl
@[simp] theorem State.modSes_lf (s : State) (i : Nat) (f : TokSession → TokSession) : (State.modSes s i f).lf = s.lf := rfl
@[simp] theorem State.modSes_nfc (s : State) (i : Nat) (f : TokSession → TokSession) : (State.modSes s i f).nfc = s.nfc := rfl
@[simp] theorem State.modSes_tag (s : State) (i : Nat) (f : TokSession → TokSession) : (State.modSes s i f).tag = s.tag := rfl
@[simp] theorem State.modSes_net (s : State) (i : Nat) (f : TokSession → TokSession) : (State.modSes s i f).net = s.net := rfl
@[simp] theorem State.modSes_time (s : State) (i : Nat) (f : TokSession → TokSession) : (State.modSes s i f).time = s.time := rfl
@[simp] theorem State.modSes_tpins (s : State) (i : Nat) (f : TokSession → TokSession) : (State.modSes s i f).tpins = s.tpins := rfl
@[simp] theorem State.modSes_acc_ses (s : State) (i : Nat) (f : TokSession → TokSession) :
    (State.modSes s i f).acc.ses = modAt s.acc.ses i fun o => o.map f := rfl

/-! `State.modChar` -/
@[simp] theorem State.modChar_now (s : State) (i : Nat) (f : BleChar → BleChar) : (State.modChar s i f).now = s.now := rfl
@[simp] theorem State.modChar_pending (s : State) (i : Nat) (f : BleChar → BleChar) : (State.modChar s i f).pending = s.pending := rfl
@[simp] theorem State.modChar_fuse (s : State) (i : Nat) (f : BleChar → BleChar) : (State.modChar s i f).fuse = s.fuse := rfl
@[simp] theorem State.modChar_reg (s : State) (i : Nat) (f : BleChar → BleChar) : (State.modChar s i f).reg = s.reg := rfl
@[simp] theorem State.modChar_pend (s : State) (i : Nat) (f : BleChar → BleChar) : (State.modChar s i f).pend = s.pend := rfl
@[simp] theorem State.modChar_dict (s : State) (i : Nat) (f : BleChar → BleChar) : (State.modChar s i f).dict = s.dict := rfl
@[simp] theorem State.modChar_log (s : State) (i : Nat) (f : BleChar → BleChar) : (State.modChar s i f).log = s.log := rfl
@[simp] theorem State.modChar_keys (s : State) (i : Nat) (f : BleChar → BleChar) : (State.modChar s i f).keys = s.keys := rfl
@[simp] theorem State.modChar_cx (s : State) (i : Nat) (f : BleChar → BleChar) : (State.modChar s i f).cx = s.cx := rfl
@[simp] theorem State.modChar_rng (s : State) (i : Nat) (f : BleChar → BleChar) : (State.modChar s i f).rng = s.rng := rfl
@[simp] theorem State.modChar_acc (s : State) (i : Nat) (f : BleChar → BleChar) : (State.modChar s i f).acc = s.acc := rfl
@[simp] theorem State.modChar_ts (s : State) (i : Nat) (f : BleChar → BleChar) : (State.modChar s i f).ts = s.ts := rfl
@[simp] theorem State.modChar_gate (s : State) (i : Nat) (f : BleChar → BleChar) : (State.modChar s i f).gate = s.gate := rfl
@[simp] theorem State.modChar_seg (s : State) (i : Nat) (f : BleChar → BleChar) : (State.modChar s i f).seg = s.seg := rfl
@[simp] theorem State.modChar_twin (s : State) (i : Nat) (f : BleChar → BleChar) : (State.modChar s i f).twin = s.twin := rfl
@[simp] theorem State.modChar_pwr (s : State) (i : Nat) (f : BleChar → BleChar) : (State.modChar s i f).pwr = s.pwr := rfl
@[simp] theorem State.modChar_tmr (s : State) (i : Nat) (f : BleChar → BleChar) : (State.modChar s i f).tmr = s.tmr := rfl
@[simp] theorem State.modChar_bg (s : State) (i : Nat) (f : BleChar → BleChar) : (State.modChar s i f).bg = s.bg := rfl
@[simp] theorem State.modChar_eng (s : State) (i : Nat) (f : BleChar → BleChar) : (State.modChar s i f).eng = s.eng := rfl
@[simp] theorem State.modChar_uwb (s : State) (i : Nat) (f : BleChar → BleChar) : (State.modChar s i f).uwb = s.uwb := rfl
@[simp] theorem State.modChar_rfc (s : State) (i : Nat) (f : BleChar → BleChar) : (State.modChar s i f).rfc = s.rfc := rfl
@[simp] theorem State.modChar_cap (s : State) (i : Nat) (f : BleChar → BleChar) : (State.modChar s i f).cap = s.cap := rfl
@[simp] theorem State.modChar_lf (s : State) (i : Nat) (f : BleChar → BleChar) : (State.modChar s i f).lf = s.lf := rfl
@[simp] theorem State.modChar_nfc (s : State) (i : Nat) (f : BleChar → BleChar) : (State.modChar s i f).nfc = s.nfc := rfl
@[simp] theorem State.modChar_tag (s : State) (i : Nat) (f : BleChar → BleChar) : (State.modChar s i f).tag = s.tag := rfl
@[simp] theorem State.modChar_net (s : State) (i : Nat) (f : BleChar → BleChar) : (State.modChar s i f).net = s.net := rfl
@[simp] theorem State.modChar_time (s : State) (i : Nat) (f : BleChar → BleChar) : (State.modChar s i f).time = s.time := rfl
@[simp] theorem State.modChar_tpins (s : State) (i : Nat) (f : BleChar → BleChar) : (State.modChar s i f).tpins = s.tpins := rfl
@[simp] theorem State.modChar_ble_chars (s : State) (i : Nat) (f : BleChar → BleChar) :
    (State.modChar s i f).ble.chars = modAt s.ble.chars i f := rfl

/-! `State.modConn` -/
@[simp] theorem State.modConn_now (s : State) (c : Nat) (f : BleConn → BleConn) : (State.modConn s c f).now = s.now := rfl
@[simp] theorem State.modConn_pending (s : State) (c : Nat) (f : BleConn → BleConn) : (State.modConn s c f).pending = s.pending := rfl
@[simp] theorem State.modConn_fuse (s : State) (c : Nat) (f : BleConn → BleConn) : (State.modConn s c f).fuse = s.fuse := rfl
@[simp] theorem State.modConn_reg (s : State) (c : Nat) (f : BleConn → BleConn) : (State.modConn s c f).reg = s.reg := rfl
@[simp] theorem State.modConn_pend (s : State) (c : Nat) (f : BleConn → BleConn) : (State.modConn s c f).pend = s.pend := rfl
@[simp] theorem State.modConn_dict (s : State) (c : Nat) (f : BleConn → BleConn) : (State.modConn s c f).dict = s.dict := rfl
@[simp] theorem State.modConn_log (s : State) (c : Nat) (f : BleConn → BleConn) : (State.modConn s c f).log = s.log := rfl
@[simp] theorem State.modConn_keys (s : State) (c : Nat) (f : BleConn → BleConn) : (State.modConn s c f).keys = s.keys := rfl
@[simp] theorem State.modConn_cx (s : State) (c : Nat) (f : BleConn → BleConn) : (State.modConn s c f).cx = s.cx := rfl
@[simp] theorem State.modConn_rng (s : State) (c : Nat) (f : BleConn → BleConn) : (State.modConn s c f).rng = s.rng := rfl
@[simp] theorem State.modConn_acc (s : State) (c : Nat) (f : BleConn → BleConn) : (State.modConn s c f).acc = s.acc := rfl
@[simp] theorem State.modConn_ts (s : State) (c : Nat) (f : BleConn → BleConn) : (State.modConn s c f).ts = s.ts := rfl
@[simp] theorem State.modConn_gate (s : State) (c : Nat) (f : BleConn → BleConn) : (State.modConn s c f).gate = s.gate := rfl
@[simp] theorem State.modConn_seg (s : State) (c : Nat) (f : BleConn → BleConn) : (State.modConn s c f).seg = s.seg := rfl
@[simp] theorem State.modConn_twin (s : State) (c : Nat) (f : BleConn → BleConn) : (State.modConn s c f).twin = s.twin := rfl
@[simp] theorem State.modConn_pwr (s : State) (c : Nat) (f : BleConn → BleConn) : (State.modConn s c f).pwr = s.pwr := rfl
@[simp] theorem State.modConn_tmr (s : State) (c : Nat) (f : BleConn → BleConn) : (State.modConn s c f).tmr = s.tmr := rfl
@[simp] theorem State.modConn_bg (s : State) (c : Nat) (f : BleConn → BleConn) : (State.modConn s c f).bg = s.bg := rfl
@[simp] theorem State.modConn_eng (s : State) (c : Nat) (f : BleConn → BleConn) : (State.modConn s c f).eng = s.eng := rfl
@[simp] theorem State.modConn_uwb (s : State) (c : Nat) (f : BleConn → BleConn) : (State.modConn s c f).uwb = s.uwb := rfl
@[simp] theorem State.modConn_rfc (s : State) (c : Nat) (f : BleConn → BleConn) : (State.modConn s c f).rfc = s.rfc := rfl
@[simp] theorem State.modConn_cap (s : State) (c : Nat) (f : BleConn → BleConn) : (State.modConn s c f).cap = s.cap := rfl
@[simp] theorem State.modConn_lf (s : State) (c : Nat) (f : BleConn → BleConn) : (State.modConn s c f).lf = s.lf := rfl
@[simp] theorem State.modConn_nfc (s : State) (c : Nat) (f : BleConn → BleConn) : (State.modConn s c f).nfc = s.nfc := rfl
@[simp] theorem State.modConn_tag (s : State) (c : Nat) (f : BleConn → BleConn) : (State.modConn s c f).tag = s.tag := rfl
@[simp] theorem State.modConn_net (s : State) (c : Nat) (f : BleConn → BleConn) : (State.modConn s c f).net = s.net := rfl
@[simp] theorem State.modConn_time (s : State) (c : Nat) (f : BleConn → BleConn) : (State.modConn s c f).time = s.time := rfl
@[simp] theorem State.modConn_tpins (s : State) (c : Nat) (f : BleConn → BleConn) : (State.modConn s c f).tpins = s.tpins := rfl
@[simp] theorem State.modConn_ble_conns (s : State) (c : Nat) (f : BleConn → BleConn) :
    (State.modConn s c f).ble.conns = modAt s.ble.conns c fun o => o.map f := rfl

/-! `State.setCap` -/
@[simp] theorem State.setCap_now (s : State) (n : Nat) (c : CapCh) : (State.setCap s n c).now = s.now := rfl
@[simp] theorem State.setCap_pending (s : State) (n : Nat) (c : CapCh) : (State.setCap s n c).pending = s.pending := rfl
@[simp] theorem State.setCap_fuse (s : State) (n : Nat) (c : CapCh) : (State.setCap s n c).fuse = s.fuse := rfl
@[simp] theorem State.setCap_reg (s : State) (n : Nat) (c : CapCh) : (State.setCap s n c).reg = s.reg := rfl
@[simp] theorem State.setCap_pend (s : State) (n : Nat) (c : CapCh) : (State.setCap s n c).pend = s.pend := rfl
@[simp] theorem State.setCap_dict (s : State) (n : Nat) (c : CapCh) : (State.setCap s n c).dict = s.dict := rfl
@[simp] theorem State.setCap_log (s : State) (n : Nat) (c : CapCh) : (State.setCap s n c).log = s.log := rfl
@[simp] theorem State.setCap_keys (s : State) (n : Nat) (c : CapCh) : (State.setCap s n c).keys = s.keys := rfl
@[simp] theorem State.setCap_cx (s : State) (n : Nat) (c : CapCh) : (State.setCap s n c).cx = s.cx := rfl
@[simp] theorem State.setCap_rng (s : State) (n : Nat) (c : CapCh) : (State.setCap s n c).rng = s.rng := rfl
@[simp] theorem State.setCap_acc (s : State) (n : Nat) (c : CapCh) : (State.setCap s n c).acc = s.acc := rfl
@[simp] theorem State.setCap_ts (s : State) (n : Nat) (c : CapCh) : (State.setCap s n c).ts = s.ts := rfl
@[simp] theorem State.setCap_gate (s : State) (n : Nat) (c : CapCh) : (State.setCap s n c).gate = s.gate := rfl
@[simp] theorem State.setCap_seg (s : State) (n : Nat) (c : CapCh) : (State.setCap s n c).seg = s.seg := rfl
@[simp] theorem State.setCap_twin (s : State) (n : Nat) (c : CapCh) : (State.setCap s n c).twin = s.twin := rfl
@[simp] theorem State.setCap_pwr (s : State) (n : Nat) (c : CapCh) : (State.setCap s n c).pwr = s.pwr := rfl
@[simp] theorem State.setCap_tmr (s : State) (n : Nat) (c : CapCh) : (State.setCap s n c).tmr = s.tmr := rfl
@[simp] theorem State.setCap_bg (s : State) (n : Nat) (c : CapCh) : (State.setCap s n c).bg = s.bg := rfl
@[simp] theorem State.setCap_eng (s : State) (n : Nat) (c : CapCh) : (State.setCap s n c).eng = s.eng := rfl
@[simp] theorem State.setCap_uwb (s : State) (n : Nat) (c : CapCh) : (State.setCap s n c).uwb = s.uwb := rfl
@[simp] theorem State.setCap_rfc (s : State) (n : Nat) (c : CapCh) : (State.setCap s n c).rfc = s.rfc := rfl
@[simp] theorem State.setCap_ble (s : State) (n : Nat) (c : CapCh) : (State.setCap s n c).ble = s.ble := rfl
@[simp] theorem State.setCap_lf (s : State) (n : Nat) (c : CapCh) : (State.setCap s n c).lf = s.lf := rfl
@[simp] theorem State.setCap_nfc (s : State) (n : Nat) (c : CapCh) : (State.setCap s n c).nfc = s.nfc := rfl
@[simp] theorem State.setCap_tag (s : State) (n : Nat) (c : CapCh) : (State.setCap s n c).tag = s.tag := rfl
@[simp] theorem State.setCap_net (s : State) (n : Nat) (c : CapCh) : (State.setCap s n c).net = s.net := rfl
@[simp] theorem State.setCap_time (s : State) (n : Nat) (c : CapCh) : (State.setCap s n c).time = s.time := rfl
@[simp] theorem State.setCap_tpins (s : State) (n : Nat) (c : CapCh) : (State.setCap s n c).tpins = s.tpins := rfl
@[simp] theorem State.setCap_cap_ch (s : State) (n : Nat) (c : CapCh) :
    (State.setCap s n c).cap.ch = putAt s.cap.ch n c := rfl

/-! `State.modPage` -/
@[simp] theorem State.modPage_now (s : State) (p : Nat) (f : CxPage → CxPage) : (State.modPage s p f).now = s.now := rfl
@[simp] theorem State.modPage_pending (s : State) (p : Nat) (f : CxPage → CxPage) : (State.modPage s p f).pending = s.pending := rfl
@[simp] theorem State.modPage_fuse (s : State) (p : Nat) (f : CxPage → CxPage) : (State.modPage s p f).fuse = s.fuse := rfl
@[simp] theorem State.modPage_reg (s : State) (p : Nat) (f : CxPage → CxPage) : (State.modPage s p f).reg = s.reg := rfl
@[simp] theorem State.modPage_pend (s : State) (p : Nat) (f : CxPage → CxPage) : (State.modPage s p f).pend = s.pend := rfl
@[simp] theorem State.modPage_dict (s : State) (p : Nat) (f : CxPage → CxPage) : (State.modPage s p f).dict = s.dict := rfl
@[simp] theorem State.modPage_log (s : State) (p : Nat) (f : CxPage → CxPage) : (State.modPage s p f).log = s.log := rfl
@[simp] theorem State.modPage_keys (s : State) (p : Nat) (f : CxPage → CxPage) : (State.modPage s p f).keys = s.keys := rfl
@[simp] theorem State.modPage_rng (s : State) (p : Nat) (f : CxPage → CxPage) : (State.modPage s p f).rng = s.rng := rfl
@[simp] theorem State.modPage_acc (s : State) (p : Nat) (f : CxPage → CxPage) : (State.modPage s p f).acc = s.acc := rfl
@[simp] theorem State.modPage_ts (s : State) (p : Nat) (f : CxPage → CxPage) : (State.modPage s p f).ts = s.ts := rfl
@[simp] theorem State.modPage_gate (s : State) (p : Nat) (f : CxPage → CxPage) : (State.modPage s p f).gate = s.gate := rfl
@[simp] theorem State.modPage_seg (s : State) (p : Nat) (f : CxPage → CxPage) : (State.modPage s p f).seg = s.seg := rfl
@[simp] theorem State.modPage_twin (s : State) (p : Nat) (f : CxPage → CxPage) : (State.modPage s p f).twin = s.twin := rfl
@[simp] theorem State.modPage_pwr (s : State) (p : Nat) (f : CxPage → CxPage) : (State.modPage s p f).pwr = s.pwr := rfl
@[simp] theorem State.modPage_tmr (s : State) (p : Nat) (f : CxPage → CxPage) : (State.modPage s p f).tmr = s.tmr := rfl
@[simp] theorem State.modPage_bg (s : State) (p : Nat) (f : CxPage → CxPage) : (State.modPage s p f).bg = s.bg := rfl
@[simp] theorem State.modPage_eng (s : State) (p : Nat) (f : CxPage → CxPage) : (State.modPage s p f).eng = s.eng := rfl
@[simp] theorem State.modPage_uwb (s : State) (p : Nat) (f : CxPage → CxPage) : (State.modPage s p f).uwb = s.uwb := rfl
@[simp] theorem State.modPage_rfc (s : State) (p : Nat) (f : CxPage → CxPage) : (State.modPage s p f).rfc = s.rfc := rfl
@[simp] theorem State.modPage_ble (s : State) (p : Nat) (f : CxPage → CxPage) : (State.modPage s p f).ble = s.ble := rfl
@[simp] theorem State.modPage_cap (s : State) (p : Nat) (f : CxPage → CxPage) : (State.modPage s p f).cap = s.cap := rfl
@[simp] theorem State.modPage_lf (s : State) (p : Nat) (f : CxPage → CxPage) : (State.modPage s p f).lf = s.lf := rfl
@[simp] theorem State.modPage_nfc (s : State) (p : Nat) (f : CxPage → CxPage) : (State.modPage s p f).nfc = s.nfc := rfl
@[simp] theorem State.modPage_tag (s : State) (p : Nat) (f : CxPage → CxPage) : (State.modPage s p f).tag = s.tag := rfl
@[simp] theorem State.modPage_net (s : State) (p : Nat) (f : CxPage → CxPage) : (State.modPage s p f).net = s.net := rfl
@[simp] theorem State.modPage_time (s : State) (p : Nat) (f : CxPage → CxPage) : (State.modPage s p f).time = s.time := rfl
@[simp] theorem State.modPage_tpins (s : State) (p : Nat) (f : CxPage → CxPage) : (State.modPage s p f).tpins = s.tpins := rfl
@[simp] theorem State.modPage_cx_pages (s : State) (p : Nat) (f : CxPage → CxPage) :
    (State.modPage s p f).cx.pages = modAt s.cx.pages p f := rfl

/-! `State.modNet` -/
@[simp] theorem State.modNet_now (s : State) (sid : Nat) (f : NetSess → NetSess) : (State.modNet s sid f).now = s.now := rfl
@[simp] theorem State.modNet_pending (s : State) (sid : Nat) (f : NetSess → NetSess) : (State.modNet s sid f).pending = s.pending := rfl
@[simp] theorem State.modNet_fuse (s : State) (sid : Nat) (f : NetSess → NetSess) : (State.modNet s sid f).fuse = s.fuse := rfl
@[simp] theorem State.modNet_reg (s : State) (sid : Nat) (f : NetSess → NetSess) : (State.modNet s sid f).reg = s.reg := rfl
@[simp] theorem State.modNet_pend (s : State) (sid : Nat) (f : NetSess → NetSess) : (State.modNet s sid f).pend = s.pend := rfl
@[simp] theorem State.modNet_log (s : State) (sid : Nat) (f : NetSess → NetSess) : (State.modNet s sid f).log = s.log := rfl
@[simp] theorem State.modNet_keys (s : State) (sid : Nat) (f : NetSess → NetSess) : (State.modNet s sid f).keys = s.keys := rfl
@[simp] theorem State.modNet_cx (s : State) (sid : Nat) (f : NetSess → NetSess) : (State.modNet s sid f).cx = s.cx := rfl
@[simp] theorem State.modNet_rng (s : State) (sid : Nat) (f : NetSess → NetSess) : (State.modNet s sid f).rng = s.rng := rfl
@[simp] theorem State.modNet_acc (s : State) (sid : Nat) (f : NetSess → NetSess) : (State.modNet s sid f).acc = s.acc := rfl
@[simp] theorem State.modNet_ts (s : State) (sid : Nat) (f : NetSess → NetSess) : (State.modNet s sid f).ts = s.ts := rfl
@[simp] theorem State.modNet_gate (s : State) (sid : Nat) (f : NetSess → NetSess) : (State.modNet s sid f).gate = s.gate := rfl
@[simp] theorem State.modNet_seg (s : State) (sid : Nat) (f : NetSess → NetSess) : (State.modNet s sid f).seg = s.seg := rfl
@[simp] theorem State.modNet_twin (s : State) (sid : Nat) (f : NetSess → NetSess) : (State.modNet s sid f).twin = s.twin := rfl
@[simp] theorem State.modNet_pwr (s : State) (sid : Nat) (f : NetSess → NetSess) : (State.modNet s sid f).pwr = s.pwr := rfl
@[simp] theorem State.modNet_tmr (s : State) (sid : Nat) (f : NetSess → NetSess) : (State.modNet s sid f).tmr = s.tmr := rfl
@[simp] theorem State.modNet_bg (s : State) (sid : Nat) (f : NetSess → NetSess) : (State.modNet s sid f).bg = s.bg := rfl
@[simp] theorem State.modNet_eng (s : State) (sid : Nat) (f : NetSess → NetSess) : (State.modNet s sid f).eng = s.eng := rfl
@[simp] theorem State.modNet_uwb (s : State) (sid : Nat) (f : NetSess → NetSess) : (State.modNet s sid f).uwb = s.uwb := rfl
@[simp] theorem State.modNet_rfc (s : State) (sid : Nat) (f : NetSess → NetSess) : (State.modNet s sid f).rfc = s.rfc := rfl
@[simp] theorem State.modNet_ble (s : State) (sid : Nat) (f : NetSess → NetSess) : (State.modNet s sid f).ble = s.ble := rfl
@[simp] theorem State.modNet_cap (s : State) (sid : Nat) (f : NetSess → NetSess) : (State.modNet s sid f).cap = s.cap := rfl
@[simp] theorem State.modNet_lf (s : State) (sid : Nat) (f : NetSess → NetSess) : (State.modNet s sid f).lf = s.lf := rfl
@[simp] theorem State.modNet_nfc (s : State) (sid : Nat) (f : NetSess → NetSess) : (State.modNet s sid f).nfc = s.nfc := rfl
@[simp] theorem State.modNet_tag (s : State) (sid : Nat) (f : NetSess → NetSess) : (State.modNet s sid f).tag = s.tag := rfl
@[simp] theorem State.modNet_net (s : State) (sid : Nat) (f : NetSess → NetSess) : (State.modNet s sid f).net = s.net := rfl
@[simp] theorem State.modNet_time (s : State) (sid : Nat) (f : NetSess → NetSess) : (State.modNet s sid f).time = s.time := rfl
@[simp] theorem State.modNet_tpins (s : State) (sid : Nat) (f : NetSess → NetSess) : (State.modNet s sid f).tpins = s.tpins := rfl
@[simp] theorem State.modNet_dict_net (s : State) (sid : Nat) (f : NetSess → NetSess) :
    (State.modNet s sid f).dict.net = modAt s.dict.net (sid - 1) f := rfl

/-! `State.setReasm` -/
@[simp] theorem State.setReasm_now (s : State) (c : Nat) (r : Option CanReasm) : (State.setReasm s c r).now = s.now := rfl
@[simp] theorem State.setReasm_pending (s : State) (c : Nat) (r : Option CanReasm) : (State.setReasm s c r).pending = s.pending := rfl
@[simp] theorem State.setReasm_fuse (s : State) (c : Nat) (r : Option CanReasm) : (State.setReasm s c r).fuse = s.fuse := rfl
@[simp] theorem State.setReasm_reg (s : State) (c : Nat) (r : Option CanReasm) : (State.setReasm s c r).reg = s.reg := rfl
@[simp] theorem State.setReasm_pend (s : State) (c : Nat) (r : Option CanReasm) : (State.setReasm s c r).pend = s.pend := rfl
@[simp] theorem State.setReasm_log (s : State) (c : Nat) (r : Option CanReasm) : (State.setReasm s c r).log = s.log := rfl
@[simp] theorem State.setReasm_keys (s : State) (c : Nat) (r : Option CanReasm) : (State.setReasm s c r).keys = s.keys := rfl
@[simp] theorem State.setReasm_cx (s : State) (c : Nat) (r : Option CanReasm) : (State.setReasm s c r).cx = s.cx := rfl
@[simp] theorem State.setReasm_rng (s : State) (c : Nat) (r : Option CanReasm) : (State.setReasm s c r).rng = s.rng := rfl
@[simp] theorem State.setReasm_acc (s : State) (c : Nat) (r : Option CanReasm) : (State.setReasm s c r).acc = s.acc := rfl
@[simp] theorem State.setReasm_ts (s : State) (c : Nat) (r : Option CanReasm) : (State.setReasm s c r).ts = s.ts := rfl
@[simp] theorem State.setReasm_gate (s : State) (c : Nat) (r : Option CanReasm) : (State.setReasm s c r).gate = s.gate := rfl
@[simp] theorem State.setReasm_seg (s : State) (c : Nat) (r : Option CanReasm) : (State.setReasm s c r).seg = s.seg := rfl
@[simp] theorem State.setReasm_twin (s : State) (c : Nat) (r : Option CanReasm) : (State.setReasm s c r).twin = s.twin := rfl
@[simp] theorem State.setReasm_pwr (s : State) (c : Nat) (r : Option CanReasm) : (State.setReasm s c r).pwr = s.pwr := rfl
@[simp] theorem State.setReasm_tmr (s : State) (c : Nat) (r : Option CanReasm) : (State.setReasm s c r).tmr = s.tmr := rfl
@[simp] theorem State.setReasm_bg (s : State) (c : Nat) (r : Option CanReasm) : (State.setReasm s c r).bg = s.bg := rfl
@[simp] theorem State.setReasm_eng (s : State) (c : Nat) (r : Option CanReasm) : (State.setReasm s c r).eng = s.eng := rfl
@[simp] theorem State.setReasm_uwb (s : State) (c : Nat) (r : Option CanReasm) : (State.setReasm s c r).uwb = s.uwb := rfl
@[simp] theorem State.setReasm_rfc (s : State) (c : Nat) (r : Option CanReasm) : (State.setReasm s c r).rfc = s.rfc := rfl
@[simp] theorem State.setReasm_ble (s : State) (c : Nat) (r : Option CanReasm) : (State.setReasm s c r).ble = s.ble := rfl
@[simp] theorem State.setReasm_cap (s : State) (c : Nat) (r : Option CanReasm) : (State.setReasm s c r).cap = s.cap := rfl
@[simp] theorem State.setReasm_lf (s : State) (c : Nat) (r : Option CanReasm) : (State.setReasm s c r).lf = s.lf := rfl
@[simp] theorem State.setReasm_nfc (s : State) (c : Nat) (r : Option CanReasm) : (State.setReasm s c r).nfc = s.nfc := rfl
@[simp] theorem State.setReasm_tag (s : State) (c : Nat) (r : Option CanReasm) : (State.setReasm s c r).tag = s.tag := rfl
@[simp] theorem State.setReasm_net (s : State) (c : Nat) (r : Option CanReasm) : (State.setReasm s c r).net = s.net := rfl
@[simp] theorem State.setReasm_time (s : State) (c : Nat) (r : Option CanReasm) : (State.setReasm s c r).time = s.time := rfl
@[simp] theorem State.setReasm_tpins (s : State) (c : Nat) (r : Option CanReasm) : (State.setReasm s c r).tpins = s.tpins := rfl
@[simp] theorem State.setReasm_dict_reasm (s : State) (c : Nat) (r : Option CanReasm) :
    (State.setReasm s c r).dict.reasm = putAt s.dict.reasm c r := rfl

/-! `State.modSource` -/
@[simp] theorem State.modSource_now (s : State) (i : Nat) (f : Source → Source) : (State.modSource s i f).now = s.now := rfl
@[simp] theorem State.modSource_pending (s : State) (i : Nat) (f : Source → Source) : (State.modSource s i f).pending = s.pending := rfl
@[simp] theorem State.modSource_fuse (s : State) (i : Nat) (f : Source → Source) : (State.modSource s i f).fuse = s.fuse := rfl
@[simp] theorem State.modSource_reg (s : State) (i : Nat) (f : Source → Source) : (State.modSource s i f).reg = s.reg := rfl
@[simp] theorem State.modSource_pend (s : State) (i : Nat) (f : Source → Source) : (State.modSource s i f).pend = s.pend := rfl
@[simp] theorem State.modSource_dict (s : State) (i : Nat) (f : Source → Source) : (State.modSource s i f).dict = s.dict := rfl
@[simp] theorem State.modSource_log (s : State) (i : Nat) (f : Source → Source) : (State.modSource s i f).log = s.log := rfl
@[simp] theorem State.modSource_keys (s : State) (i : Nat) (f : Source → Source) : (State.modSource s i f).keys = s.keys := rfl
@[simp] theorem State.modSource_cx (s : State) (i : Nat) (f : Source → Source) : (State.modSource s i f).cx = s.cx := rfl
@[simp] theorem State.modSource_acc (s : State) (i : Nat) (f : Source → Source) : (State.modSource s i f).acc = s.acc := rfl
@[simp] theorem State.modSource_ts (s : State) (i : Nat) (f : Source → Source) : (State.modSource s i f).ts = s.ts := rfl
@[simp] theorem State.modSource_gate (s : State) (i : Nat) (f : Source → Source) : (State.modSource s i f).gate = s.gate := rfl
@[simp] theorem State.modSource_seg (s : State) (i : Nat) (f : Source → Source) : (State.modSource s i f).seg = s.seg := rfl
@[simp] theorem State.modSource_twin (s : State) (i : Nat) (f : Source → Source) : (State.modSource s i f).twin = s.twin := rfl
@[simp] theorem State.modSource_pwr (s : State) (i : Nat) (f : Source → Source) : (State.modSource s i f).pwr = s.pwr := rfl
@[simp] theorem State.modSource_tmr (s : State) (i : Nat) (f : Source → Source) : (State.modSource s i f).tmr = s.tmr := rfl
@[simp] theorem State.modSource_bg (s : State) (i : Nat) (f : Source → Source) : (State.modSource s i f).bg = s.bg := rfl
@[simp] theorem State.modSource_eng (s : State) (i : Nat) (f : Source → Source) : (State.modSource s i f).eng = s.eng := rfl
@[simp] theorem State.modSource_uwb (s : State) (i : Nat) (f : Source → Source) : (State.modSource s i f).uwb = s.uwb := rfl
@[simp] theorem State.modSource_rfc (s : State) (i : Nat) (f : Source → Source) : (State.modSource s i f).rfc = s.rfc := rfl
@[simp] theorem State.modSource_ble (s : State) (i : Nat) (f : Source → Source) : (State.modSource s i f).ble = s.ble := rfl
@[simp] theorem State.modSource_cap (s : State) (i : Nat) (f : Source → Source) : (State.modSource s i f).cap = s.cap := rfl
@[simp] theorem State.modSource_lf (s : State) (i : Nat) (f : Source → Source) : (State.modSource s i f).lf = s.lf := rfl
@[simp] theorem State.modSource_nfc (s : State) (i : Nat) (f : Source → Source) : (State.modSource s i f).nfc = s.nfc := rfl
@[simp] theorem State.modSource_tag (s : State) (i : Nat) (f : Source → Source) : (State.modSource s i f).tag = s.tag := rfl
@[simp] theorem State.modSource_net (s : State) (i : Nat) (f : Source → Source) : (State.modSource s i f).net = s.net := rfl
@[simp] theorem State.modSource_time (s : State) (i : Nat) (f : Source → Source) : (State.modSource s i f).time = s.time := rfl
@[simp] theorem State.modSource_tpins (s : State) (i : Nat) (f : Source → Source) : (State.modSource s i f).tpins = s.tpins := rfl
@[simp] theorem State.modSource_rng_srcs (s : State) (i : Nat) (f : Source → Source) :
    (State.modSource s i f).rng.srcs = modAt s.rng.srcs i f := rfl

/-! `State.cutA` -/
@[simp] theorem State.cutA_now (s : State) (grp : Nat) : (State.cutA s grp).now = s.now := rfl
@[simp] theorem State.cutA_pending (s : State) (grp : Nat) : (State.cutA s grp).pending = s.pending := rfl
@[simp] theorem State.cutA_fuse (s : State) (grp : Nat) : (State.cutA s grp).fuse = s.fuse := rfl
@[simp] theorem State.cutA_reg (s : State) (grp : Nat) : (State.cutA s grp).reg = s.reg := rfl
@[simp] theorem State.cutA_pend (s : State) (grp : Nat) : (State.cutA s grp).pend = s.pend := rfl
@[simp] theorem State.cutA_dict (s : State) (grp : Nat) : (State.cutA s grp).dict = s.dict := rfl
@[simp] theorem State.cutA_log (s : State) (grp : Nat) : (State.cutA s grp).log = s.log := rfl
@[simp] theorem State.cutA_keys (s : State) (grp : Nat) : (State.cutA s grp).keys = s.keys := rfl
@[simp] theorem State.cutA_cx (s : State) (grp : Nat) : (State.cutA s grp).cx = s.cx := rfl
@[simp] theorem State.cutA_rng (s : State) (grp : Nat) : (State.cutA s grp).rng = s.rng := rfl
@[simp] theorem State.cutA_acc (s : State) (grp : Nat) : (State.cutA s grp).acc = s.acc := rfl
@[simp] theorem State.cutA_ts (s : State) (grp : Nat) : (State.cutA s grp).ts = s.ts := rfl
@[simp] theorem State.cutA_seg (s : State) (grp : Nat) : (State.cutA s grp).seg = s.seg := rfl
@[simp] theorem State.cutA_twin (s : State) (grp : Nat) : (State.cutA s grp).twin = s.twin := rfl
@[simp] theorem State.cutA_pwr (s : State) (grp : Nat) : (State.cutA s grp).pwr = s.pwr := rfl
@[simp] theorem State.cutA_tmr (s : State) (grp : Nat) : (State.cutA s grp).tmr = s.tmr := rfl
@[simp] theorem State.cutA_bg (s : State) (grp : Nat) : (State.cutA s grp).bg = s.bg := rfl
@[simp] theorem State.cutA_eng (s : State) (grp : Nat) : (State.cutA s grp).eng = s.eng := rfl
@[simp] theorem State.cutA_uwb (s : State) (grp : Nat) : (State.cutA s grp).uwb = s.uwb := rfl
@[simp] theorem State.cutA_rfc (s : State) (grp : Nat) : (State.cutA s grp).rfc = s.rfc := rfl
@[simp] theorem State.cutA_ble (s : State) (grp : Nat) : (State.cutA s grp).ble = s.ble := rfl
@[simp] theorem State.cutA_cap (s : State) (grp : Nat) : (State.cutA s grp).cap = s.cap := rfl
@[simp] theorem State.cutA_lf (s : State) (grp : Nat) : (State.cutA s grp).lf = s.lf := rfl
@[simp] theorem State.cutA_nfc (s : State) (grp : Nat) : (State.cutA s grp).nfc = s.nfc := rfl
@[simp] theorem State.cutA_tag (s : State) (grp : Nat) : (State.cutA s grp).tag = s.tag := rfl
@[simp] theorem State.cutA_net (s : State) (grp : Nat) : (State.cutA s grp).net = s.net := rfl
@[simp] theorem State.cutA_time (s : State) (grp : Nat) : (State.cutA s grp).time = s.time := rfl
@[simp] theorem State.cutA_tpins (s : State) (grp : Nat) : (State.cutA s grp).tpins = s.tpins := rfl
@[simp] theorem State.cutA_gate_a (s : State) (grp : Nat) :
    (State.cutA s grp).gate.a = s.gate.a.zipIdx.map fun p => if gateGroup p.2 = grp then ⟨false, s.now⟩ else p.1 := rfl

/-! `State.cutB` -/
@[simp] theorem State.cutB_now (s : State) (grp : Nat) : (State.cutB s grp).now = s.now := rfl
@[simp] theorem State.cutB_pending (s : State) (grp : Nat) : (State.cutB s grp).pending = s.pending := rfl
@[simp] theorem State.cutB_fuse (s : State) (grp : Nat) : (State.cutB s grp).fuse = s.fuse := rfl
@[simp] theorem State.cutB_reg (s : State) (grp : Nat) : (State.cutB s grp).reg = s.reg := rfl
@[simp] theorem State.cutB_pend (s : State) (grp : Nat) : (State.cutB s grp).pend = s.pend := rfl
@[simp] theorem State.cutB_dict (s : State) (grp : Nat) : (State.cutB s grp).dict = s.dict := rfl
@[simp] theorem State.cutB_log (s : State) (grp : Nat) : (State.cutB s grp).log = s.log := rfl
@[simp] theorem State.cutB_keys (s : State) (grp : Nat) : (State.cutB s grp).keys = s.keys := rfl
@[simp] theorem State.cutB_cx (s : State) (grp : Nat) : (State.cutB s grp).cx = s.cx := rfl
@[simp] theorem State.cutB_rng (s : State) (grp : Nat) : (State.cutB s grp).rng = s.rng := rfl
@[simp] theorem State.cutB_acc (s : State) (grp : Nat) : (State.cutB s grp).acc = s.acc := rfl
@[simp] theorem State.cutB_ts (s : State) (grp : Nat) : (State.cutB s grp).ts = s.ts := rfl
@[simp] theorem State.cutB_seg (s : State) (grp : Nat) : (State.cutB s grp).seg = s.seg := rfl
@[simp] theorem State.cutB_twin (s : State) (grp : Nat) : (State.cutB s grp).twin = s.twin := rfl
@[simp] theorem State.cutB_pwr (s : State) (grp : Nat) : (State.cutB s grp).pwr = s.pwr := rfl
@[simp] theorem State.cutB_tmr (s : State) (grp : Nat) : (State.cutB s grp).tmr = s.tmr := rfl
@[simp] theorem State.cutB_bg (s : State) (grp : Nat) : (State.cutB s grp).bg = s.bg := rfl
@[simp] theorem State.cutB_eng (s : State) (grp : Nat) : (State.cutB s grp).eng = s.eng := rfl
@[simp] theorem State.cutB_uwb (s : State) (grp : Nat) : (State.cutB s grp).uwb = s.uwb := rfl
@[simp] theorem State.cutB_rfc (s : State) (grp : Nat) : (State.cutB s grp).rfc = s.rfc := rfl
@[simp] theorem State.cutB_ble (s : State) (grp : Nat) : (State.cutB s grp).ble = s.ble := rfl
@[simp] theorem State.cutB_cap (s : State) (grp : Nat) : (State.cutB s grp).cap = s.cap := rfl
@[simp] theorem State.cutB_lf (s : State) (grp : Nat) : (State.cutB s grp).lf = s.lf := rfl
@[simp] theorem State.cutB_nfc (s : State) (grp : Nat) : (State.cutB s grp).nfc = s.nfc := rfl
@[simp] theorem State.cutB_tag (s : State) (grp : Nat) : (State.cutB s grp).tag = s.tag := rfl
@[simp] theorem State.cutB_net (s : State) (grp : Nat) : (State.cutB s grp).net = s.net := rfl
@[simp] theorem State.cutB_time (s : State) (grp : Nat) : (State.cutB s grp).time = s.time := rfl
@[simp] theorem State.cutB_tpins (s : State) (grp : Nat) : (State.cutB s grp).tpins = s.tpins := rfl
@[simp] theorem State.cutB_gate_b (s : State) (grp : Nat) :
    (State.cutB s grp).gate.b = putAt s.gate.b (grp + 1) ⟨false, s.now⟩ := rfl

/-! `State.setFails` -/
@[simp] theorem State.setFails_now (s : State) (l : List FailEntry) : (State.setFails s l).now = s.now := rfl
@[simp] theorem State.setFails_pending (s : State) (l : List FailEntry) : (State.setFails s l).pending = s.pending := rfl
@[simp] theorem State.setFails_fuse (s : State) (l : List FailEntry) : (State.setFails s l).fuse = s.fuse := rfl
@[simp] theorem State.setFails_reg (s : State) (l : List FailEntry) : (State.setFails s l).reg = s.reg := rfl
@[simp] theorem State.setFails_pend (s : State) (l : List FailEntry) : (State.setFails s l).pend = s.pend := rfl
@[simp] theorem State.setFails_dict (s : State) (l : List FailEntry) : (State.setFails s l).dict = s.dict := rfl
@[simp] theorem State.setFails_log (s : State) (l : List FailEntry) : (State.setFails s l).log = s.log := rfl
@[simp] theorem State.setFails_keys (s : State) (l : List FailEntry) : (State.setFails s l).keys = s.keys := rfl
@[simp] theorem State.setFails_cx (s : State) (l : List FailEntry) : (State.setFails s l).cx = s.cx := rfl
@[simp] theorem State.setFails_rng (s : State) (l : List FailEntry) : (State.setFails s l).rng = s.rng := rfl
@[simp] theorem State.setFails_ts (s : State) (l : List FailEntry) : (State.setFails s l).ts = s.ts := rfl
@[simp] theorem State.setFails_gate (s : State) (l : List FailEntry) : (State.setFails s l).gate = s.gate := rfl
@[simp] theorem State.setFails_seg (s : State) (l : List FailEntry) : (State.setFails s l).seg = s.seg := rfl
@[simp] theorem State.setFails_twin (s : State) (l : List FailEntry) : (State.setFails s l).twin = s.twin := rfl
@[simp] theorem State.setFails_pwr (s : State) (l : List FailEntry) : (State.setFails s l).pwr = s.pwr := rfl
@[simp] theorem State.setFails_tmr (s : State) (l : List FailEntry) : (State.setFails s l).tmr = s.tmr := rfl
@[simp] theorem State.setFails_bg (s : State) (l : List FailEntry) : (State.setFails s l).bg = s.bg := rfl
@[simp] theorem State.setFails_eng (s : State) (l : List FailEntry) : (State.setFails s l).eng = s.eng := rfl
@[simp] theorem State.setFails_uwb (s : State) (l : List FailEntry) : (State.setFails s l).uwb = s.uwb := rfl
@[simp] theorem State.setFails_rfc (s : State) (l : List FailEntry) : (State.setFails s l).rfc = s.rfc := rfl
@[simp] theorem State.setFails_ble (s : State) (l : List FailEntry) : (State.setFails s l).ble = s.ble := rfl
@[simp] theorem State.setFails_cap (s : State) (l : List FailEntry) : (State.setFails s l).cap = s.cap := rfl
@[simp] theorem State.setFails_lf (s : State) (l : List FailEntry) : (State.setFails s l).lf = s.lf := rfl
@[simp] theorem State.setFails_nfc (s : State) (l : List FailEntry) : (State.setFails s l).nfc = s.nfc := rfl
@[simp] theorem State.setFails_tag (s : State) (l : List FailEntry) : (State.setFails s l).tag = s.tag := rfl
@[simp] theorem State.setFails_net (s : State) (l : List FailEntry) : (State.setFails s l).net = s.net := rfl
@[simp] theorem State.setFails_time (s : State) (l : List FailEntry) : (State.setFails s l).time = s.time := rfl
@[simp] theorem State.setFails_tpins (s : State) (l : List FailEntry) : (State.setFails s l).tpins = s.tpins := rfl
@[simp] theorem State.setFails_acc_fails (s : State) (l : List FailEntry) :
    (State.setFails s l).acc.fails = l := rfl

/-! `State.modNfc` -/
@[simp] theorem State.modNfc_now (s : State) (p : Nat) (f : NfcPort → NfcPort) : (State.modNfc s p f).now = s.now := rfl
@[simp] theorem State.modNfc_pending (s : State) (p : Nat) (f : NfcPort → NfcPort) : (State.modNfc s p f).pending = s.pending := rfl
@[simp] theorem State.modNfc_fuse (s : State) (p : Nat) (f : NfcPort → NfcPort) : (State.modNfc s p f).fuse = s.fuse := rfl
@[simp] theorem State.modNfc_reg (s : State) (p : Nat) (f : NfcPort → NfcPort) : (State.modNfc s p f).reg = s.reg := rfl
@[simp] theorem State.modNfc_pend (s : State) (p : Nat) (f : NfcPort → NfcPort) : (State.modNfc s p f).pend = s.pend := rfl
@[simp] theorem State.modNfc_dict (s : State) (p : Nat) (f : NfcPort → NfcPort) : (State.modNfc s p f).dict = s.dict := rfl
@[simp] theorem State.modNfc_log (s : State) (p : Nat) (f : NfcPort → NfcPort) : (State.modNfc s p f).log = s.log := rfl
@[simp] theorem State.modNfc_keys (s : State) (p : Nat) (f : NfcPort → NfcPort) : (State.modNfc s p f).keys = s.keys := rfl
@[simp] theorem State.modNfc_cx (s : State) (p : Nat) (f : NfcPort → NfcPort) : (State.modNfc s p f).cx = s.cx := rfl
@[simp] theorem State.modNfc_rng (s : State) (p : Nat) (f : NfcPort → NfcPort) : (State.modNfc s p f).rng = s.rng := rfl
@[simp] theorem State.modNfc_acc (s : State) (p : Nat) (f : NfcPort → NfcPort) : (State.modNfc s p f).acc = s.acc := rfl
@[simp] theorem State.modNfc_ts (s : State) (p : Nat) (f : NfcPort → NfcPort) : (State.modNfc s p f).ts = s.ts := rfl
@[simp] theorem State.modNfc_gate (s : State) (p : Nat) (f : NfcPort → NfcPort) : (State.modNfc s p f).gate = s.gate := rfl
@[simp] theorem State.modNfc_seg (s : State) (p : Nat) (f : NfcPort → NfcPort) : (State.modNfc s p f).seg = s.seg := rfl
@[simp] theorem State.modNfc_twin (s : State) (p : Nat) (f : NfcPort → NfcPort) : (State.modNfc s p f).twin = s.twin := rfl
@[simp] theorem State.modNfc_pwr (s : State) (p : Nat) (f : NfcPort → NfcPort) : (State.modNfc s p f).pwr = s.pwr := rfl
@[simp] theorem State.modNfc_tmr (s : State) (p : Nat) (f : NfcPort → NfcPort) : (State.modNfc s p f).tmr = s.tmr := rfl
@[simp] theorem State.modNfc_bg (s : State) (p : Nat) (f : NfcPort → NfcPort) : (State.modNfc s p f).bg = s.bg := rfl
@[simp] theorem State.modNfc_eng (s : State) (p : Nat) (f : NfcPort → NfcPort) : (State.modNfc s p f).eng = s.eng := rfl
@[simp] theorem State.modNfc_uwb (s : State) (p : Nat) (f : NfcPort → NfcPort) : (State.modNfc s p f).uwb = s.uwb := rfl
@[simp] theorem State.modNfc_rfc (s : State) (p : Nat) (f : NfcPort → NfcPort) : (State.modNfc s p f).rfc = s.rfc := rfl
@[simp] theorem State.modNfc_ble (s : State) (p : Nat) (f : NfcPort → NfcPort) : (State.modNfc s p f).ble = s.ble := rfl
@[simp] theorem State.modNfc_cap (s : State) (p : Nat) (f : NfcPort → NfcPort) : (State.modNfc s p f).cap = s.cap := rfl
@[simp] theorem State.modNfc_lf (s : State) (p : Nat) (f : NfcPort → NfcPort) : (State.modNfc s p f).lf = s.lf := rfl
@[simp] theorem State.modNfc_tag (s : State) (p : Nat) (f : NfcPort → NfcPort) : (State.modNfc s p f).tag = s.tag := rfl
@[simp] theorem State.modNfc_net (s : State) (p : Nat) (f : NfcPort → NfcPort) : (State.modNfc s p f).net = s.net := rfl
@[simp] theorem State.modNfc_time (s : State) (p : Nat) (f : NfcPort → NfcPort) : (State.modNfc s p f).time = s.time := rfl
@[simp] theorem State.modNfc_tpins (s : State) (p : Nat) (f : NfcPort → NfcPort) : (State.modNfc s p f).tpins = s.tpins := rfl
@[simp] theorem State.modNfc_nfc_ports (s : State) (p : Nat) (f : NfcPort → NfcPort) :
    (State.modNfc s p f).nfc.ports = modAt s.nfc.ports p f := rfl

/-! `State.modRxq` -/
@[simp] theorem State.modRxq_now (s : State) (i : Nat) (f : RxQ → RxQ) : (State.modRxq s i f).now = s.now := rfl
@[simp] theorem State.modRxq_pending (s : State) (i : Nat) (f : RxQ → RxQ) : (State.modRxq s i f).pending = s.pending := rfl
@[simp] theorem State.modRxq_fuse (s : State) (i : Nat) (f : RxQ → RxQ) : (State.modRxq s i f).fuse = s.fuse := rfl
@[simp] theorem State.modRxq_reg (s : State) (i : Nat) (f : RxQ → RxQ) : (State.modRxq s i f).reg = s.reg := rfl
@[simp] theorem State.modRxq_pend (s : State) (i : Nat) (f : RxQ → RxQ) : (State.modRxq s i f).pend = s.pend := rfl
@[simp] theorem State.modRxq_dict (s : State) (i : Nat) (f : RxQ → RxQ) : (State.modRxq s i f).dict = s.dict := rfl
@[simp] theorem State.modRxq_log (s : State) (i : Nat) (f : RxQ → RxQ) : (State.modRxq s i f).log = s.log := rfl
@[simp] theorem State.modRxq_keys (s : State) (i : Nat) (f : RxQ → RxQ) : (State.modRxq s i f).keys = s.keys := rfl
@[simp] theorem State.modRxq_cx (s : State) (i : Nat) (f : RxQ → RxQ) : (State.modRxq s i f).cx = s.cx := rfl
@[simp] theorem State.modRxq_rng (s : State) (i : Nat) (f : RxQ → RxQ) : (State.modRxq s i f).rng = s.rng := rfl
@[simp] theorem State.modRxq_acc (s : State) (i : Nat) (f : RxQ → RxQ) : (State.modRxq s i f).acc = s.acc := rfl
@[simp] theorem State.modRxq_ts (s : State) (i : Nat) (f : RxQ → RxQ) : (State.modRxq s i f).ts = s.ts := rfl
@[simp] theorem State.modRxq_gate (s : State) (i : Nat) (f : RxQ → RxQ) : (State.modRxq s i f).gate = s.gate := rfl
@[simp] theorem State.modRxq_seg (s : State) (i : Nat) (f : RxQ → RxQ) : (State.modRxq s i f).seg = s.seg := rfl
@[simp] theorem State.modRxq_twin (s : State) (i : Nat) (f : RxQ → RxQ) : (State.modRxq s i f).twin = s.twin := rfl
@[simp] theorem State.modRxq_pwr (s : State) (i : Nat) (f : RxQ → RxQ) : (State.modRxq s i f).pwr = s.pwr := rfl
@[simp] theorem State.modRxq_tmr (s : State) (i : Nat) (f : RxQ → RxQ) : (State.modRxq s i f).tmr = s.tmr := rfl
@[simp] theorem State.modRxq_bg (s : State) (i : Nat) (f : RxQ → RxQ) : (State.modRxq s i f).bg = s.bg := rfl
@[simp] theorem State.modRxq_eng (s : State) (i : Nat) (f : RxQ → RxQ) : (State.modRxq s i f).eng = s.eng := rfl
@[simp] theorem State.modRxq_uwb (s : State) (i : Nat) (f : RxQ → RxQ) : (State.modRxq s i f).uwb = s.uwb := rfl
@[simp] theorem State.modRxq_rfc (s : State) (i : Nat) (f : RxQ → RxQ) : (State.modRxq s i f).rfc = s.rfc := rfl
@[simp] theorem State.modRxq_ble (s : State) (i : Nat) (f : RxQ → RxQ) : (State.modRxq s i f).ble = s.ble := rfl
@[simp] theorem State.modRxq_cap (s : State) (i : Nat) (f : RxQ → RxQ) : (State.modRxq s i f).cap = s.cap := rfl
@[simp] theorem State.modRxq_lf (s : State) (i : Nat) (f : RxQ → RxQ) : (State.modRxq s i f).lf = s.lf := rfl
@[simp] theorem State.modRxq_nfc (s : State) (i : Nat) (f : RxQ → RxQ) : (State.modRxq s i f).nfc = s.nfc := rfl
@[simp] theorem State.modRxq_tag (s : State) (i : Nat) (f : RxQ → RxQ) : (State.modRxq s i f).tag = s.tag := rfl
@[simp] theorem State.modRxq_time (s : State) (i : Nat) (f : RxQ → RxQ) : (State.modRxq s i f).time = s.time := rfl
@[simp] theorem State.modRxq_tpins (s : State) (i : Nat) (f : RxQ → RxQ) : (State.modRxq s i f).tpins = s.tpins := rfl
@[simp] theorem State.modRxq_net_rxq (s : State) (i : Nat) (f : RxQ → RxQ) :
    (State.modRxq s i f).net.rxq = modAt s.net.rxq i f := rfl

/-! `State.modCan` -/
@[simp] theorem State.modCan_now (s : State) (c : Nat) (f : CanCtl → CanCtl) : (State.modCan s c f).now = s.now := rfl
@[simp] theorem State.modCan_pending (s : State) (c : Nat) (f : CanCtl → CanCtl) : (State.modCan s c f).pending = s.pending := rfl
@[simp] theorem State.modCan_fuse (s : State) (c : Nat) (f : CanCtl → CanCtl) : (State.modCan s c f).fuse = s.fuse := rfl
@[simp] theorem State.modCan_reg (s : State) (c : Nat) (f : CanCtl → CanCtl) : (State.modCan s c f).reg = s.reg := rfl
@[simp] theorem State.modCan_pend (s : State) (c : Nat) (f : CanCtl → CanCtl) : (State.modCan s c f).pend = s.pend := rfl
@[simp] theorem State.modCan_dict (s : State) (c : Nat) (f : CanCtl → CanCtl) : (State.modCan s c f).dict = s.dict := rfl
@[simp] theorem State.modCan_log (s : State) (c : Nat) (f : CanCtl → CanCtl) : (State.modCan s c f).log = s.log := rfl
@[simp] theorem State.modCan_keys (s : State) (c : Nat) (f : CanCtl → CanCtl) : (State.modCan s c f).keys = s.keys := rfl
@[simp] theorem State.modCan_cx (s : State) (c : Nat) (f : CanCtl → CanCtl) : (State.modCan s c f).cx = s.cx := rfl
@[simp] theorem State.modCan_rng (s : State) (c : Nat) (f : CanCtl → CanCtl) : (State.modCan s c f).rng = s.rng := rfl
@[simp] theorem State.modCan_acc (s : State) (c : Nat) (f : CanCtl → CanCtl) : (State.modCan s c f).acc = s.acc := rfl
@[simp] theorem State.modCan_ts (s : State) (c : Nat) (f : CanCtl → CanCtl) : (State.modCan s c f).ts = s.ts := rfl
@[simp] theorem State.modCan_gate (s : State) (c : Nat) (f : CanCtl → CanCtl) : (State.modCan s c f).gate = s.gate := rfl
@[simp] theorem State.modCan_seg (s : State) (c : Nat) (f : CanCtl → CanCtl) : (State.modCan s c f).seg = s.seg := rfl
@[simp] theorem State.modCan_twin (s : State) (c : Nat) (f : CanCtl → CanCtl) : (State.modCan s c f).twin = s.twin := rfl
@[simp] theorem State.modCan_pwr (s : State) (c : Nat) (f : CanCtl → CanCtl) : (State.modCan s c f).pwr = s.pwr := rfl
@[simp] theorem State.modCan_tmr (s : State) (c : Nat) (f : CanCtl → CanCtl) : (State.modCan s c f).tmr = s.tmr := rfl
@[simp] theorem State.modCan_bg (s : State) (c : Nat) (f : CanCtl → CanCtl) : (State.modCan s c f).bg = s.bg := rfl
@[simp] theorem State.modCan_eng (s : State) (c : Nat) (f : CanCtl → CanCtl) : (State.modCan s c f).eng = s.eng := rfl
@[simp] theorem State.modCan_uwb (s : State) (c : Nat) (f : CanCtl → CanCtl) : (State.modCan s c f).uwb = s.uwb := rfl
@[simp] theorem State.modCan_rfc (s : State) (c : Nat) (f : CanCtl → CanCtl) : (State.modCan s c f).rfc = s.rfc := rfl
@[simp] theorem State.modCan_ble (s : State) (c : Nat) (f : CanCtl → CanCtl) : (State.modCan s c f).ble = s.ble := rfl
@[simp] theorem State.modCan_cap (s : State) (c : Nat) (f : CanCtl → CanCtl) : (State.modCan s c f).cap = s.cap := rfl
@[simp] theorem State.modCan_lf (s : State) (c : Nat) (f : CanCtl → CanCtl) : (State.modCan s c f).lf = s.lf := rfl
@[simp] theorem State.modCan_nfc (s : State) (c : Nat) (f : CanCtl → CanCtl) : (State.modCan s c f).nfc = s.nfc := rfl
@[simp] theorem State.modCan_tag (s : State) (c : Nat) (f : CanCtl → CanCtl) : (State.modCan s c f).tag = s.tag := rfl
@[simp] theorem State.modCan_time (s : State) (c : Nat) (f : CanCtl → CanCtl) : (State.modCan s c f).time = s.time := rfl
@[simp] theorem State.modCan_tpins (s : State) (c : Nat) (f : CanCtl → CanCtl) : (State.modCan s c f).tpins = s.tpins := rfl
@[simp] theorem State.modCan_net_can (s : State) (c : Nat) (f : CanCtl → CanCtl) :
    (State.modCan s c f).net.can = modAt s.net.can c f := rfl

/-! `State.fcntUp` -/
@[simp] theorem State.fcntUp_now (s : State) : (State.fcntUp s).now = s.now := rfl
@[simp] theorem State.fcntUp_pending (s : State) : (State.fcntUp s).pending = s.pending := rfl
@[simp] theorem State.fcntUp_fuse (s : State) : (State.fcntUp s).fuse = s.fuse := rfl
@[simp] theorem State.fcntUp_reg (s : State) : (State.fcntUp s).reg = s.reg := rfl
@[simp] theorem State.fcntUp_pend (s : State) : (State.fcntUp s).pend = s.pend := rfl
@[simp] theorem State.fcntUp_dict (s : State) : (State.fcntUp s).dict = s.dict := rfl
@[simp] theorem State.fcntUp_log (s : State) : (State.fcntUp s).log = s.log := rfl
@[simp] theorem State.fcntUp_keys (s : State) : (State.fcntUp s).keys = s.keys := rfl
@[simp] theorem State.fcntUp_cx (s : State) : (State.fcntUp s).cx = s.cx := rfl
@[simp] theorem State.fcntUp_rng (s : State) : (State.fcntUp s).rng = s.rng := rfl
@[simp] theorem State.fcntUp_acc (s : State) : (State.fcntUp s).acc = s.acc := rfl
@[simp] theorem State.fcntUp_ts (s : State) : (State.fcntUp s).ts = s.ts := rfl
@[simp] theorem State.fcntUp_gate (s : State) : (State.fcntUp s).gate = s.gate := rfl
@[simp] theorem State.fcntUp_twin (s : State) : (State.fcntUp s).twin = s.twin := rfl
@[simp] theorem State.fcntUp_pwr (s : State) : (State.fcntUp s).pwr = s.pwr := rfl
@[simp] theorem State.fcntUp_tmr (s : State) : (State.fcntUp s).tmr = s.tmr := rfl
@[simp] theorem State.fcntUp_bg (s : State) : (State.fcntUp s).bg = s.bg := rfl
@[simp] theorem State.fcntUp_eng (s : State) : (State.fcntUp s).eng = s.eng := rfl
@[simp] theorem State.fcntUp_uwb (s : State) : (State.fcntUp s).uwb = s.uwb := rfl
@[simp] theorem State.fcntUp_rfc (s : State) : (State.fcntUp s).rfc = s.rfc := rfl
@[simp] theorem State.fcntUp_ble (s : State) : (State.fcntUp s).ble = s.ble := rfl
@[simp] theorem State.fcntUp_cap (s : State) : (State.fcntUp s).cap = s.cap := rfl
@[simp] theorem State.fcntUp_lf (s : State) : (State.fcntUp s).lf = s.lf := rfl
@[simp] theorem State.fcntUp_nfc (s : State) : (State.fcntUp s).nfc = s.nfc := rfl
@[simp] theorem State.fcntUp_tag (s : State) : (State.fcntUp s).tag = s.tag := rfl
@[simp] theorem State.fcntUp_net (s : State) : (State.fcntUp s).net = s.net := rfl
@[simp] theorem State.fcntUp_time (s : State) : (State.fcntUp s).time = s.time := rfl
@[simp] theorem State.fcntUp_tpins (s : State) : (State.fcntUp s).tpins = s.tpins := rfl
@[simp] theorem State.fcntUp_seg_tx (s : State) :
    (State.fcntUp s).seg.tx = (s.seg.tx + 1) % 2 ^ 32 := rfl

/-! `State.modMgr` -/
@[simp] theorem State.modMgr_now (s : State) (n : Nat) (f : MgrLink → MgrLink) : (State.modMgr s n f).now = s.now := rfl
@[simp] theorem State.modMgr_pending (s : State) (n : Nat) (f : MgrLink → MgrLink) : (State.modMgr s n f).pending = s.pending := rfl
@[simp] theorem State.modMgr_fuse (s : State) (n : Nat) (f : MgrLink → MgrLink) : (State.modMgr s n f).fuse = s.fuse := rfl
@[simp] theorem State.modMgr_reg (s : State) (n : Nat) (f : MgrLink → MgrLink) : (State.modMgr s n f).reg = s.reg := rfl
@[simp] theorem State.modMgr_pend (s : State) (n : Nat) (f : MgrLink → MgrLink) : (State.modMgr s n f).pend = s.pend := rfl
@[simp] theorem State.modMgr_dict (s : State) (n : Nat) (f : MgrLink → MgrLink) : (State.modMgr s n f).dict = s.dict := rfl
@[simp] theorem State.modMgr_log (s : State) (n : Nat) (f : MgrLink → MgrLink) : (State.modMgr s n f).log = s.log := rfl
@[simp] theorem State.modMgr_keys (s : State) (n : Nat) (f : MgrLink → MgrLink) : (State.modMgr s n f).keys = s.keys := rfl
@[simp] theorem State.modMgr_cx (s : State) (n : Nat) (f : MgrLink → MgrLink) : (State.modMgr s n f).cx = s.cx := rfl
@[simp] theorem State.modMgr_rng (s : State) (n : Nat) (f : MgrLink → MgrLink) : (State.modMgr s n f).rng = s.rng := rfl
@[simp] theorem State.modMgr_acc (s : State) (n : Nat) (f : MgrLink → MgrLink) : (State.modMgr s n f).acc = s.acc := rfl
@[simp] theorem State.modMgr_ts (s : State) (n : Nat) (f : MgrLink → MgrLink) : (State.modMgr s n f).ts = s.ts := rfl
@[simp] theorem State.modMgr_gate (s : State) (n : Nat) (f : MgrLink → MgrLink) : (State.modMgr s n f).gate = s.gate := rfl
@[simp] theorem State.modMgr_twin (s : State) (n : Nat) (f : MgrLink → MgrLink) : (State.modMgr s n f).twin = s.twin := rfl
@[simp] theorem State.modMgr_pwr (s : State) (n : Nat) (f : MgrLink → MgrLink) : (State.modMgr s n f).pwr = s.pwr := rfl
@[simp] theorem State.modMgr_tmr (s : State) (n : Nat) (f : MgrLink → MgrLink) : (State.modMgr s n f).tmr = s.tmr := rfl
@[simp] theorem State.modMgr_bg (s : State) (n : Nat) (f : MgrLink → MgrLink) : (State.modMgr s n f).bg = s.bg := rfl
@[simp] theorem State.modMgr_eng (s : State) (n : Nat) (f : MgrLink → MgrLink) : (State.modMgr s n f).eng = s.eng := rfl
@[simp] theorem State.modMgr_uwb (s : State) (n : Nat) (f : MgrLink → MgrLink) : (State.modMgr s n f).uwb = s.uwb := rfl
@[simp] theorem State.modMgr_rfc (s : State) (n : Nat) (f : MgrLink → MgrLink) : (State.modMgr s n f).rfc = s.rfc := rfl
@[simp] theorem State.modMgr_ble (s : State) (n : Nat) (f : MgrLink → MgrLink) : (State.modMgr s n f).ble = s.ble := rfl
@[simp] theorem State.modMgr_cap (s : State) (n : Nat) (f : MgrLink → MgrLink) : (State.modMgr s n f).cap = s.cap := rfl
@[simp] theorem State.modMgr_lf (s : State) (n : Nat) (f : MgrLink → MgrLink) : (State.modMgr s n f).lf = s.lf := rfl
@[simp] theorem State.modMgr_nfc (s : State) (n : Nat) (f : MgrLink → MgrLink) : (State.modMgr s n f).nfc = s.nfc := rfl
@[simp] theorem State.modMgr_tag (s : State) (n : Nat) (f : MgrLink → MgrLink) : (State.modMgr s n f).tag = s.tag := rfl
@[simp] theorem State.modMgr_net (s : State) (n : Nat) (f : MgrLink → MgrLink) : (State.modMgr s n f).net = s.net := rfl
@[simp] theorem State.modMgr_time (s : State) (n : Nat) (f : MgrLink → MgrLink) : (State.modMgr s n f).time = s.time := rfl
@[simp] theorem State.modMgr_tpins (s : State) (n : Nat) (f : MgrLink → MgrLink) : (State.modMgr s n f).tpins = s.tpins := rfl
@[simp] theorem State.modMgr_seg_mgrs (s : State) (n : Nat) (f : MgrLink → MgrLink) :
    (State.modMgr s n f).seg.mgrs = modAt s.seg.mgrs n f := rfl

/-! `State.modNode` -/
@[simp] theorem State.modNode_now (s : State) (n : Nat) (f : WNode → WNode) : (State.modNode s n f).now = s.now := rfl
@[simp] theorem State.modNode_pending (s : State) (n : Nat) (f : WNode → WNode) : (State.modNode s n f).pending = s.pending := rfl
@[simp] theorem State.modNode_fuse (s : State) (n : Nat) (f : WNode → WNode) : (State.modNode s n f).fuse = s.fuse := rfl
@[simp] theorem State.modNode_reg (s : State) (n : Nat) (f : WNode → WNode) : (State.modNode s n f).reg = s.reg := rfl
@[simp] theorem State.modNode_pend (s : State) (n : Nat) (f : WNode → WNode) : (State.modNode s n f).pend = s.pend := rfl
@[simp] theorem State.modNode_dict (s : State) (n : Nat) (f : WNode → WNode) : (State.modNode s n f).dict = s.dict := rfl
@[simp] theorem State.modNode_log (s : State) (n : Nat) (f : WNode → WNode) : (State.modNode s n f).log = s.log := rfl
@[simp] theorem State.modNode_keys (s : State) (n : Nat) (f : WNode → WNode) : (State.modNode s n f).keys = s.keys := rfl
@[simp] theorem State.modNode_cx (s : State) (n : Nat) (f : WNode → WNode) : (State.modNode s n f).cx = s.cx := rfl
@[simp] theorem State.modNode_rng (s : State) (n : Nat) (f : WNode → WNode) : (State.modNode s n f).rng = s.rng := rfl
@[simp] theorem State.modNode_acc (s : State) (n : Nat) (f : WNode → WNode) : (State.modNode s n f).acc = s.acc := rfl
@[simp] theorem State.modNode_ts (s : State) (n : Nat) (f : WNode → WNode) : (State.modNode s n f).ts = s.ts := rfl
@[simp] theorem State.modNode_gate (s : State) (n : Nat) (f : WNode → WNode) : (State.modNode s n f).gate = s.gate := rfl
@[simp] theorem State.modNode_twin (s : State) (n : Nat) (f : WNode → WNode) : (State.modNode s n f).twin = s.twin := rfl
@[simp] theorem State.modNode_pwr (s : State) (n : Nat) (f : WNode → WNode) : (State.modNode s n f).pwr = s.pwr := rfl
@[simp] theorem State.modNode_tmr (s : State) (n : Nat) (f : WNode → WNode) : (State.modNode s n f).tmr = s.tmr := rfl
@[simp] theorem State.modNode_bg (s : State) (n : Nat) (f : WNode → WNode) : (State.modNode s n f).bg = s.bg := rfl
@[simp] theorem State.modNode_eng (s : State) (n : Nat) (f : WNode → WNode) : (State.modNode s n f).eng = s.eng := rfl
@[simp] theorem State.modNode_uwb (s : State) (n : Nat) (f : WNode → WNode) : (State.modNode s n f).uwb = s.uwb := rfl
@[simp] theorem State.modNode_rfc (s : State) (n : Nat) (f : WNode → WNode) : (State.modNode s n f).rfc = s.rfc := rfl
@[simp] theorem State.modNode_ble (s : State) (n : Nat) (f : WNode → WNode) : (State.modNode s n f).ble = s.ble := rfl
@[simp] theorem State.modNode_cap (s : State) (n : Nat) (f : WNode → WNode) : (State.modNode s n f).cap = s.cap := rfl
@[simp] theorem State.modNode_lf (s : State) (n : Nat) (f : WNode → WNode) : (State.modNode s n f).lf = s.lf := rfl
@[simp] theorem State.modNode_nfc (s : State) (n : Nat) (f : WNode → WNode) : (State.modNode s n f).nfc = s.nfc := rfl
@[simp] theorem State.modNode_tag (s : State) (n : Nat) (f : WNode → WNode) : (State.modNode s n f).tag = s.tag := rfl
@[simp] theorem State.modNode_net (s : State) (n : Nat) (f : WNode → WNode) : (State.modNode s n f).net = s.net := rfl
@[simp] theorem State.modNode_time (s : State) (n : Nat) (f : WNode → WNode) : (State.modNode s n f).time = s.time := rfl
@[simp] theorem State.modNode_tpins (s : State) (n : Nat) (f : WNode → WNode) : (State.modNode s n f).tpins = s.tpins := rfl
@[simp] theorem State.modNode_seg_nodes (s : State) (n : Nat) (f : WNode → WNode) :
    (State.modNode s n f).seg.nodes = modAt s.seg.nodes n f := rfl

/-! `State.modSlot` -/
@[simp] theorem State.modSlot_now (s : State) (h : Nat) (f : KeySlot → KeySlot) : (State.modSlot s h f).now = s.now := rfl
@[simp] theorem State.modSlot_pending (s : State) (h : Nat) (f : KeySlot → KeySlot) : (State.modSlot s h f).pending = s.pending := rfl
@[simp] theorem State.modSlot_fuse (s : State) (h : Nat) (f : KeySlot → KeySlot) : (State.modSlot s h f).fuse = s.fuse := rfl
@[simp] theorem State.modSlot_reg (s : State) (h : Nat) (f : KeySlot → KeySlot) : (State.modSlot s h f).reg = s.reg := rfl
@[simp] theorem State.modSlot_pend (s : State) (h : Nat) (f : KeySlot → KeySlot) : (State.modSlot s h f).pend = s.pend := rfl
@[simp] theorem State.modSlot_dict (s : State) (h : Nat) (f : KeySlot → KeySlot) : (State.modSlot s h f).dict = s.dict := rfl
@[simp] theorem State.modSlot_log (s : State) (h : Nat) (f : KeySlot → KeySlot) : (State.modSlot s h f).log = s.log := rfl
@[simp] theorem State.modSlot_cx (s : State) (h : Nat) (f : KeySlot → KeySlot) : (State.modSlot s h f).cx = s.cx := rfl
@[simp] theorem State.modSlot_rng (s : State) (h : Nat) (f : KeySlot → KeySlot) : (State.modSlot s h f).rng = s.rng := rfl
@[simp] theorem State.modSlot_acc (s : State) (h : Nat) (f : KeySlot → KeySlot) : (State.modSlot s h f).acc = s.acc := rfl
@[simp] theorem State.modSlot_ts (s : State) (h : Nat) (f : KeySlot → KeySlot) : (State.modSlot s h f).ts = s.ts := rfl
@[simp] theorem State.modSlot_gate (s : State) (h : Nat) (f : KeySlot → KeySlot) : (State.modSlot s h f).gate = s.gate := rfl
@[simp] theorem State.modSlot_seg (s : State) (h : Nat) (f : KeySlot → KeySlot) : (State.modSlot s h f).seg = s.seg := rfl
@[simp] theorem State.modSlot_twin (s : State) (h : Nat) (f : KeySlot → KeySlot) : (State.modSlot s h f).twin = s.twin := rfl
@[simp] theorem State.modSlot_pwr (s : State) (h : Nat) (f : KeySlot → KeySlot) : (State.modSlot s h f).pwr = s.pwr := rfl
@[simp] theorem State.modSlot_tmr (s : State) (h : Nat) (f : KeySlot → KeySlot) : (State.modSlot s h f).tmr = s.tmr := rfl
@[simp] theorem State.modSlot_bg (s : State) (h : Nat) (f : KeySlot → KeySlot) : (State.modSlot s h f).bg = s.bg := rfl
@[simp] theorem State.modSlot_eng (s : State) (h : Nat) (f : KeySlot → KeySlot) : (State.modSlot s h f).eng = s.eng := rfl
@[simp] theorem State.modSlot_uwb (s : State) (h : Nat) (f : KeySlot → KeySlot) : (State.modSlot s h f).uwb = s.uwb := rfl
@[simp] theorem State.modSlot_rfc (s : State) (h : Nat) (f : KeySlot → KeySlot) : (State.modSlot s h f).rfc = s.rfc := rfl
@[simp] theorem State.modSlot_ble (s : State) (h : Nat) (f : KeySlot → KeySlot) : (State.modSlot s h f).ble = s.ble := rfl
@[simp] theorem State.modSlot_cap (s : State) (h : Nat) (f : KeySlot → KeySlot) : (State.modSlot s h f).cap = s.cap := rfl
@[simp] theorem State.modSlot_lf (s : State) (h : Nat) (f : KeySlot → KeySlot) : (State.modSlot s h f).lf = s.lf := rfl
@[simp] theorem State.modSlot_nfc (s : State) (h : Nat) (f : KeySlot → KeySlot) : (State.modSlot s h f).nfc = s.nfc := rfl
@[simp] theorem State.modSlot_tag (s : State) (h : Nat) (f : KeySlot → KeySlot) : (State.modSlot s h f).tag = s.tag := rfl
@[simp] theorem State.modSlot_net (s : State) (h : Nat) (f : KeySlot → KeySlot) : (State.modSlot s h f).net = s.net := rfl
@[simp] theorem State.modSlot_time (s : State) (h : Nat) (f : KeySlot → KeySlot) : (State.modSlot s h f).time = s.time := rfl
@[simp] theorem State.modSlot_tpins (s : State) (h : Nat) (f : KeySlot → KeySlot) : (State.modSlot s h f).tpins = s.tpins := rfl
@[simp] theorem State.modSlot_keys_slots (s : State) (h : Nat) (f : KeySlot → KeySlot) :
    (State.modSlot s h f).keys.slots = modAt s.keys.slots h f := rfl

/-! `State.bodyWritten` -/
@[simp] theorem State.bodyWritten_now (s : State) (h : Nat) : (State.bodyWritten s h).now = s.now := rfl
@[simp] theorem State.bodyWritten_pending (s : State) (h : Nat) : (State.bodyWritten s h).pending = s.pending := rfl
@[simp] theorem State.bodyWritten_fuse (s : State) (h : Nat) : (State.bodyWritten s h).fuse = s.fuse := rfl
@[simp] theorem State.bodyWritten_reg (s : State) (h : Nat) : (State.bodyWritten s h).reg = s.reg := rfl
@[simp] theorem State.bodyWritten_pend (s : State) (h : Nat) : (State.bodyWritten s h).pend = s.pend := rfl
@[simp] theorem State.bodyWritten_dict (s : State) (h : Nat) : (State.bodyWritten s h).dict = s.dict := rfl
@[simp] theorem State.bodyWritten_log (s : State) (h : Nat) : (State.bodyWritten s h).log = s.log := rfl
@[simp] theorem State.bodyWritten_cx (s : State) (h : Nat) : (State.bodyWritten s h).cx = s.cx := rfl
@[simp] theorem State.bodyWritten_rng (s : State) (h : Nat) : (State.bodyWritten s h).rng = s.rng := rfl
@[simp] theorem State.bodyWritten_acc (s : State) (h : Nat) : (State.bodyWritten s h).acc = s.acc := rfl
@[simp] theorem State.bodyWritten_ts (s : State) (h : Nat) : (State.bodyWritten s h).ts = s.ts := rfl
@[simp] theorem State.bodyWritten_gate (s : State) (h : Nat) : (State.bodyWritten s h).gate = s.gate := rfl
@[simp] theorem State.bodyWritten_seg (s : State) (h : Nat) : (State.bodyWritten s h).seg = s.seg := rfl
@[simp] theorem State.bodyWritten_twin (s : State) (h : Nat) : (State.bodyWritten s h).twin = s.twin := rfl
@[simp] theorem State.bodyWritten_pwr (s : State) (h : Nat) : (State.bodyWritten s h).pwr = s.pwr := rfl
@[simp] theorem State.bodyWritten_tmr (s : State) (h : Nat) : (State.bodyWritten s h).tmr = s.tmr := rfl
@[simp] theorem State.bodyWritten_bg (s : State) (h : Nat) : (State.bodyWritten s h).bg = s.bg := rfl
@[simp] theorem State.bodyWritten_eng (s : State) (h : Nat) : (State.bodyWritten s h).eng = s.eng := rfl
@[simp] theorem State.bodyWritten_uwb (s : State) (h : Nat) : (State.bodyWritten s h).uwb = s.uwb := rfl
@[simp] theorem State.bodyWritten_rfc (s : State) (h : Nat) : (State.bodyWritten s h).rfc = s.rfc := rfl
@[simp] theorem State.bodyWritten_ble (s : State) (h : Nat) : (State.bodyWritten s h).ble = s.ble := rfl
@[simp] theorem State.bodyWritten_cap (s : State) (h : Nat) : (State.bodyWritten s h).cap = s.cap := rfl
@[simp] theorem State.bodyWritten_lf (s : State) (h : Nat) : (State.bodyWritten s h).lf = s.lf := rfl
@[simp] theorem State.bodyWritten_nfc (s : State) (h : Nat) : (State.bodyWritten s h).nfc = s.nfc := rfl
@[simp] theorem State.bodyWritten_tag (s : State) (h : Nat) : (State.bodyWritten s h).tag = s.tag := rfl
@[simp] theorem State.bodyWritten_net (s : State) (h : Nat) : (State.bodyWritten s h).net = s.net := rfl
@[simp] theorem State.bodyWritten_time (s : State) (h : Nat) : (State.bodyWritten s h).time = s.time := rfl
@[simp] theorem State.bodyWritten_tpins (s : State) (h : Nat) : (State.bodyWritten s h).tpins = s.tpins := rfl
@[simp] theorem State.bodyWritten_keys_bad (s : State) (h : Nat) :
    (State.bodyWritten s h).keys.bad = s.keys.bad.filter fun x => x ≠ h := rfl

/-! `State.setTagEnt` -/
@[simp] theorem State.setTagEnt_now (s : State) (n : Nat) (e : TagEnt) : (State.setTagEnt s n e).now = s.now := rfl
@[simp] theorem State.setTagEnt_pending (s : State) (n : Nat) (e : TagEnt) : (State.setTagEnt s n e).pending = s.pending := rfl
@[simp] theorem State.setTagEnt_fuse (s : State) (n : Nat) (e : TagEnt) : (State.setTagEnt s n e).fuse = s.fuse := rfl
@[simp] theorem State.setTagEnt_reg (s : State) (n : Nat) (e : TagEnt) : (State.setTagEnt s n e).reg = s.reg := rfl
@[simp] theorem State.setTagEnt_pend (s : State) (n : Nat) (e : TagEnt) : (State.setTagEnt s n e).pend = s.pend := rfl
@[simp] theorem State.setTagEnt_dict (s : State) (n : Nat) (e : TagEnt) : (State.setTagEnt s n e).dict = s.dict := rfl
@[simp] theorem State.setTagEnt_log (s : State) (n : Nat) (e : TagEnt) : (State.setTagEnt s n e).log = s.log := rfl
@[simp] theorem State.setTagEnt_keys (s : State) (n : Nat) (e : TagEnt) : (State.setTagEnt s n e).keys = s.keys := rfl
@[simp] theorem State.setTagEnt_cx (s : State) (n : Nat) (e : TagEnt) : (State.setTagEnt s n e).cx = s.cx := rfl
@[simp] theorem State.setTagEnt_rng (s : State) (n : Nat) (e : TagEnt) : (State.setTagEnt s n e).rng = s.rng := rfl
@[simp] theorem State.setTagEnt_acc (s : State) (n : Nat) (e : TagEnt) : (State.setTagEnt s n e).acc = s.acc := rfl
@[simp] theorem State.setTagEnt_ts (s : State) (n : Nat) (e : TagEnt) : (State.setTagEnt s n e).ts = s.ts := rfl
@[simp] theorem State.setTagEnt_gate (s : State) (n : Nat) (e : TagEnt) : (State.setTagEnt s n e).gate = s.gate := rfl
@[simp] theorem State.setTagEnt_seg (s : State) (n : Nat) (e : TagEnt) : (State.setTagEnt s n e).seg = s.seg := rfl
@[simp] theorem State.setTagEnt_twin (s : State) (n : Nat) (e : TagEnt) : (State.setTagEnt s n e).twin = s.twin := rfl
@[simp] theorem State.setTagEnt_pwr (s : State) (n : Nat) (e : TagEnt) : (State.setTagEnt s n e).pwr = s.pwr := rfl
@[simp] theorem State.setTagEnt_tmr (s : State) (n : Nat) (e : TagEnt) : (State.setTagEnt s n e).tmr = s.tmr := rfl
@[simp] theorem State.setTagEnt_bg (s : State) (n : Nat) (e : TagEnt) : (State.setTagEnt s n e).bg = s.bg := rfl
@[simp] theorem State.setTagEnt_eng (s : State) (n : Nat) (e : TagEnt) : (State.setTagEnt s n e).eng = s.eng := rfl
@[simp] theorem State.setTagEnt_uwb (s : State) (n : Nat) (e : TagEnt) : (State.setTagEnt s n e).uwb = s.uwb := rfl
@[simp] theorem State.setTagEnt_rfc (s : State) (n : Nat) (e : TagEnt) : (State.setTagEnt s n e).rfc = s.rfc := rfl
@[simp] theorem State.setTagEnt_ble (s : State) (n : Nat) (e : TagEnt) : (State.setTagEnt s n e).ble = s.ble := rfl
@[simp] theorem State.setTagEnt_cap (s : State) (n : Nat) (e : TagEnt) : (State.setTagEnt s n e).cap = s.cap := rfl
@[simp] theorem State.setTagEnt_lf (s : State) (n : Nat) (e : TagEnt) : (State.setTagEnt s n e).lf = s.lf := rfl
@[simp] theorem State.setTagEnt_nfc (s : State) (n : Nat) (e : TagEnt) : (State.setTagEnt s n e).nfc = s.nfc := rfl
@[simp] theorem State.setTagEnt_net (s : State) (n : Nat) (e : TagEnt) : (State.setTagEnt s n e).net = s.net := rfl
@[simp] theorem State.setTagEnt_time (s : State) (n : Nat) (e : TagEnt) : (State.setTagEnt s n e).time = s.time := rfl
@[simp] theorem State.setTagEnt_tpins (s : State) (n : Nat) (e : TagEnt) : (State.setTagEnt s n e).tpins = s.tpins := rfl
@[simp] theorem State.setTagEnt_tag_ents (s : State) (n : Nat) (e : TagEnt) :
    (State.setTagEnt s n e).tag.ents = putAt s.tag.ents n e := rfl

/-! `State.tagReply` -/
@[simp] theorem State.tagReply_now (s : State) (r : Bytes) : (State.tagReply s r).now = s.now := rfl
@[simp] theorem State.tagReply_pending (s : State) (r : Bytes) : (State.tagReply s r).pending = s.pending := rfl
@[simp] theorem State.tagReply_fuse (s : State) (r : Bytes) : (State.tagReply s r).fuse = s.fuse := rfl
@[simp] theorem State.tagReply_reg (s : State) (r : Bytes) : (State.tagReply s r).reg = s.reg := rfl
@[simp] theorem State.tagReply_pend (s : State) (r : Bytes) : (State.tagReply s r).pend = s.pend := rfl
@[simp] theorem State.tagReply_dict (s : State) (r : Bytes) : (State.tagReply s r).dict = s.dict := rfl
@[simp] theorem State.tagReply_log (s : State) (r : Bytes) : (State.tagReply s r).log = s.log := rfl
@[simp] theorem State.tagReply_keys (s : State) (r : Bytes) : (State.tagReply s r).keys = s.keys := rfl
@[simp] theorem State.tagReply_cx (s : State) (r : Bytes) : (State.tagReply s r).cx = s.cx := rfl
@[simp] theorem State.tagReply_rng (s : State) (r : Bytes) : (State.tagReply s r).rng = s.rng := rfl
@[simp] theorem State.tagReply_acc (s : State) (r : Bytes) : (State.tagReply s r).acc = s.acc := rfl
@[simp] theorem State.tagReply_ts (s : State) (r : Bytes) : (State.tagReply s r).ts = s.ts := rfl
@[simp] theorem State.tagReply_gate (s : State) (r : Bytes) : (State.tagReply s r).gate = s.gate := rfl
@[simp] theorem State.tagReply_seg (s : State) (r : Bytes) : (State.tagReply s r).seg = s.seg := rfl
@[simp] theorem State.tagReply_twin (s : State) (r : Bytes) : (State.tagReply s r).twin = s.twin := rfl
@[simp] theorem State.tagReply_pwr (s : State) (r : Bytes) : (State.tagReply s r).pwr = s.pwr := rfl
@[simp] theorem State.tagReply_tmr (s : State) (r : Bytes) : (State.tagReply s r).tmr = s.tmr := rfl
@[simp] theorem State.tagReply_bg (s : State) (r : Bytes) : (State.tagReply s r).bg = s.bg := rfl
@[simp] theorem State.tagReply_eng (s : State) (r : Bytes) : (State.tagReply s r).eng = s.eng := rfl
@[simp] theorem State.tagReply_uwb (s : State) (r : Bytes) : (State.tagReply s r).uwb = s.uwb := rfl
@[simp] theorem State.tagReply_rfc (s : State) (r : Bytes) : (State.tagReply s r).rfc = s.rfc := rfl
@[simp] theorem State.tagReply_ble (s : State) (r : Bytes) : (State.tagReply s r).ble = s.ble := rfl
@[simp] theorem State.tagReply_cap (s : State) (r : Bytes) : (State.tagReply s r).cap = s.cap := rfl
@[simp] theorem State.tagReply_lf (s : State) (r : Bytes) : (State.tagReply s r).lf = s.lf := rfl
@[simp] theorem State.tagReply_nfc (s : State) (r : Bytes) : (State.tagReply s r).nfc = s.nfc := rfl
@[simp] theorem State.tagReply_net (s : State) (r : Bytes) : (State.tagReply s r).net = s.net := rfl
@[simp] theorem State.tagReply_time (s : State) (r : Bytes) : (State.tagReply s r).time = s.time := rfl
@[simp] theorem State.tagReply_tpins (s : State) (r : Bytes) : (State.tagReply s r).tpins = s.tpins := rfl
@[simp] theorem State.tagReply_tag_reply (s : State) (r : Bytes) :
    (State.tagReply s r).tag.reply = r := rfl

/-! `State.putReq` -/
@[simp] theorem State.putReq_now (s : State) (q : VReq) : (State.putReq s q).now = s.now := rfl
@[simp] theorem State.putReq_pending (s : State) (q : VReq) : (State.putReq s q).pending = s.pending := rfl
@[simp] theorem State.putReq_fuse (s : State) (q : VReq) : (State.putReq s q).fuse = s.fuse := rfl
@[simp] theorem State.putReq_reg (s : State) (q : VReq) : (State.putReq s q).reg = s.reg := rfl
@[simp] theorem State.putReq_pend (s : State) (q : VReq) : (State.putReq s q).pend = s.pend := rfl
@[simp] theorem State.putReq_dict (s : State) (q : VReq) : (State.putReq s q).dict = s.dict := rfl
@[simp] theorem State.putReq_log (s : State) (q : VReq) : (State.putReq s q).log = s.log := rfl
@[simp] theorem State.putReq_keys (s : State) (q : VReq) : (State.putReq s q).keys = s.keys := rfl
@[simp] theorem State.putReq_cx (s : State) (q : VReq) : (State.putReq s q).cx = s.cx := rfl
@[simp] theorem State.putReq_rng (s : State) (q : VReq) : (State.putReq s q).rng = s.rng := rfl
@[simp] theorem State.putReq_acc (s : State) (q : VReq) : (State.putReq s q).acc = s.acc := rfl
@[simp] theorem State.putReq_gate (s : State) (q : VReq) : (State.putReq s q).gate = s.gate := rfl
@[simp] theorem State.putReq_seg (s : State) (q : VReq) : (State.putReq s q).seg = s.seg := rfl
@[simp] theorem State.putReq_twin (s : State) (q : VReq) : (State.putReq s q).twin = s.twin := rfl
@[simp] theorem State.putReq_pwr (s : State) (q : VReq) : (State.putReq s q).pwr = s.pwr := rfl
@[simp] theorem State.putReq_tmr (s : State) (q : VReq) : (State.putReq s q).tmr = s.tmr := rfl
@[simp] theorem State.putReq_bg (s : State) (q : VReq) : (State.putReq s q).bg = s.bg := rfl
@[simp] theorem State.putReq_eng (s : State) (q : VReq) : (State.putReq s q).eng = s.eng := rfl
@[simp] theorem State.putReq_uwb (s : State) (q : VReq) : (State.putReq s q).uwb = s.uwb := rfl
@[simp] theorem State.putReq_rfc (s : State) (q : VReq) : (State.putReq s q).rfc = s.rfc := rfl
@[simp] theorem State.putReq_ble (s : State) (q : VReq) : (State.putReq s q).ble = s.ble := rfl
@[simp] theorem State.putReq_cap (s : State) (q : VReq) : (State.putReq s q).cap = s.cap := rfl
@[simp] theorem State.putReq_lf (s : State) (q : VReq) : (State.putReq s q).lf = s.lf := rfl
@[simp] theorem State.putReq_nfc (s : State) (q : VReq) : (State.putReq s q).nfc = s.nfc := rfl
@[simp] theorem State.putReq_tag (s : State) (q : VReq) : (State.putReq s q).tag = s.tag := rfl
@[simp] theorem State.putReq_net (s : State) (q : VReq) : (State.putReq s q).net = s.net := rfl
@[simp] theorem State.putReq_time (s : State) (q : VReq) : (State.putReq s q).time = s.time := rfl
@[simp] theorem State.putReq_tpins (s : State) (q : VReq) : (State.putReq s q).tpins = s.tpins := rfl
@[simp] theorem State.putReq_ts_reqs (s : State) (q : VReq) :
    (State.putReq s q).ts.reqs = s.ts.reqs.map fun (r : VReq) => if r.tsh = q.tsh && r.gate = q.gate then q else r := rfl

/-! `State.tsEmpty` -/
@[simp] theorem State.tsEmpty_now (s : State) : (State.tsEmpty s).now = s.now := rfl
@[simp] theorem State.tsEmpty_pending (s : State) : (State.tsEmpty s).pending = s.pending := rfl
@[simp] theorem State.tsEmpty_fuse (s : State) : (State.tsEmpty s).fuse = s.fuse := rfl
@[simp] theorem State.tsEmpty_reg (s : State) : (State.tsEmpty s).reg = s.reg := rfl
@[simp] theorem State.tsEmpty_pend (s : State) : (State.tsEmpty s).pend = s.pend := rfl
@[simp] theorem State.tsEmpty_dict (s : State) : (State.tsEmpty s).dict = s.dict := rfl
@[simp] theorem State.tsEmpty_log (s : State) : (State.tsEmpty s).log = s.log := rfl
@[simp] theorem State.tsEmpty_keys (s : State) : (State.tsEmpty s).keys = s.keys := rfl
@[simp] theorem State.tsEmpty_cx (s : State) : (State.tsEmpty s).cx = s.cx := rfl
@[simp] theorem State.tsEmpty_rng (s : State) : (State.tsEmpty s).rng = s.rng := rfl
@[simp] theorem State.tsEmpty_acc (s : State) : (State.tsEmpty s).acc = s.acc := rfl
@[simp] theorem State.tsEmpty_gate (s : State) : (State.tsEmpty s).gate = s.gate := rfl
@[simp] theorem State.tsEmpty_seg (s : State) : (State.tsEmpty s).seg = s.seg := rfl
@[simp] theorem State.tsEmpty_twin (s : State) : (State.tsEmpty s).twin = s.twin := rfl
@[simp] theorem State.tsEmpty_pwr (s : State) : (State.tsEmpty s).pwr = s.pwr := rfl
@[simp] theorem State.tsEmpty_tmr (s : State) : (State.tsEmpty s).tmr = s.tmr := rfl
@[simp] theorem State.tsEmpty_bg (s : State) : (State.tsEmpty s).bg = s.bg := rfl
@[simp] theorem State.tsEmpty_eng (s : State) : (State.tsEmpty s).eng = s.eng := rfl
@[simp] theorem State.tsEmpty_uwb (s : State) : (State.tsEmpty s).uwb = s.uwb := rfl
@[simp] theorem State.tsEmpty_rfc (s : State) : (State.tsEmpty s).rfc = s.rfc := rfl
@[simp] theorem State.tsEmpty_ble (s : State) : (State.tsEmpty s).ble = s.ble := rfl
@[simp] theorem State.tsEmpty_cap (s : State) : (State.tsEmpty s).cap = s.cap := rfl
@[simp] theorem State.tsEmpty_lf (s : State) : (State.tsEmpty s).lf = s.lf := rfl
@[simp] theorem State.tsEmpty_nfc (s : State) : (State.tsEmpty s).nfc = s.nfc := rfl
@[simp] theorem State.tsEmpty_tag (s : State) : (State.tsEmpty s).tag = s.tag := rfl
@[simp] theorem State.tsEmpty_net (s : State) : (State.tsEmpty s).net = s.net := rfl
@[simp] theorem State.tsEmpty_time (s : State) : (State.tsEmpty s).time = s.time := rfl
@[simp] theorem State.tsEmpty_tpins (s : State) : (State.tsEmpty s).tpins = s.tpins := rfl

/-! `State.modAwait` -/
@[simp] theorem State.modAwait_now (s : State) (num : Nat) (f : Await → Await) : (State.modAwait s num f).now = s.now := rfl
@[simp] theorem State.modAwait_pending (s : State) (num : Nat) (f : Await → Await) : (State.modAwait s num f).pending = s.pending := rfl
@[simp] theorem State.modAwait_fuse (s : State) (num : Nat) (f : Await → Await) : (State.modAwait s num f).fuse = s.fuse := rfl
@[simp] theorem State.modAwait_reg (s : State) (num : Nat) (f : Await → Await) : (State.modAwait s num f).reg = s.reg := rfl
@[simp] theorem State.modAwait_pend (s : State) (num : Nat) (f : Await → Await) : (State.modAwait s num f).pend = s.pend := rfl
@[simp] theorem State.modAwait_dict (s : State) (num : Nat) (f : Await → Await) : (State.modAwait s num f).dict = s.dict := rfl
@[simp] theorem State.modAwait_log (s : State) (num : Nat) (f : Await → Await) : (State.modAwait s num f).log = s.log := rfl
@[simp] theorem State.modAwait_keys (s : State) (num : Nat) (f : Await → Await) : (State.modAwait s num f).keys = s.keys := rfl
@[simp] theorem State.modAwait_cx (s : State) (num : Nat) (f : Await → Await) : (State.modAwait s num f).cx = s.cx := rfl
@[simp] theorem State.modAwait_rng (s : State) (num : Nat) (f : Await → Await) : (State.modAwait s num f).rng = s.rng := rfl
@[simp] theorem State.modAwait_acc (s : State) (num : Nat) (f : Await → Await) : (State.modAwait s num f).acc = s.acc := rfl
@[simp] theorem State.modAwait_ts (s : State) (num : Nat) (f : Await → Await) : (State.modAwait s num f).ts = s.ts := rfl
@[simp] theorem State.modAwait_gate (s : State) (num : Nat) (f : Await → Await) : (State.modAwait s num f).gate = s.gate := rfl
@[simp] theorem State.modAwait_seg (s : State) (num : Nat) (f : Await → Await) : (State.modAwait s num f).seg = s.seg := rfl
@[simp] theorem State.modAwait_twin (s : State) (num : Nat) (f : Await → Await) : (State.modAwait s num f).twin = s.twin := rfl
@[simp] theorem State.modAwait_pwr (s : State) (num : Nat) (f : Await → Await) : (State.modAwait s num f).pwr = s.pwr := rfl
@[simp] theorem State.modAwait_tmr (s : State) (num : Nat) (f : Await → Await) : (State.modAwait s num f).tmr = s.tmr := rfl
@[simp] theorem State.modAwait_bg (s : State) (num : Nat) (f : Await → Await) : (State.modAwait s num f).bg = s.bg := rfl
@[simp] theorem State.modAwait_eng (s : State) (num : Nat) (f : Await → Await) : (State.modAwait s num f).eng = s.eng := rfl
@[simp] theorem State.modAwait_rfc (s : State) (num : Nat) (f : Await → Await) : (State.modAwait s num f).rfc = s.rfc := rfl
@[simp] theorem State.modAwait_ble (s : State) (num : Nat) (f : Await → Await) : (State.modAwait s num f).ble = s.ble := rfl
@[simp] theorem State.modAwait_cap (s : State) (num : Nat) (f : Await → Await) : (State.modAwait s num f).cap = s.cap := rfl
@[simp] theorem State.modAwait_lf (s : State) (num : Nat) (f : Await → Await) : (State.modAwait s num f).lf = s.lf := rfl
@[simp] theorem State.modAwait_nfc (s : State) (num : Nat) (f : Await → Await) : (State.modAwait s num f).nfc = s.nfc := rfl
@[simp] theorem State.modAwait_tag (s : State) (num : Nat) (f : Await → Await) : (State.modAwait s num f).tag = s.tag := rfl
@[simp] theorem State.modAwait_net (s : State) (num : Nat) (f : Await → Await) : (State.modAwait s num f).net = s.net := rfl
@[simp] theorem State.modAwait_time (s : State) (num : Nat) (f : Await → Await) : (State.modAwait s num f).time = s.time := rfl
@[simp] theorem State.modAwait_tpins (s : State) (num : Nat) (f : Await → Await) : (State.modAwait s num f).tpins = s.tpins := rfl
@[simp] theorem State.modAwait_uwb_await (s : State) (num : Nat) (f : Await → Await) :
    (State.modAwait s num f).uwb.await = s.uwb.await.map fun (a : Await) => if a.num = num then f a else a := rfl

/-! `State.attAnswer` -/
@[simp] theorem State.attAnswer_now (s : State) (r : AttRsp) : (State.attAnswer s r).now = s.now := rfl
@[simp] theorem State.attAnswer_pending (s : State) (r : AttRsp) : (State.attAnswer s r).pending = s.pending := rfl
@[simp] theorem State.attAnswer_fuse (s : State) (r : AttRsp) : (State.attAnswer s r).fuse = s.fuse := rfl
@[simp] theorem State.attAnswer_reg (s : State) (r : AttRsp) : (State.attAnswer s r).reg = s.reg := rfl
@[simp] theorem State.attAnswer_pend (s : State) (r : AttRsp) : (State.attAnswer s r).pend = s.pend := rfl
@[simp] theorem State.attAnswer_dict (s : State) (r : AttRsp) : (State.attAnswer s r).dict = s.dict := rfl
@[simp] theorem State.attAnswer_log (s : State) (r : AttRsp) : (State.attAnswer s r).log = s.log := rfl
@[simp] theorem State.attAnswer_keys (s : State) (r : AttRsp) : (State.attAnswer s r).keys = s.keys := rfl
@[simp] theorem State.attAnswer_cx (s : State) (r : AttRsp) : (State.attAnswer s r).cx = s.cx := rfl
@[simp] theorem State.attAnswer_rng (s : State) (r : AttRsp) : (State.attAnswer s r).rng = s.rng := rfl
@[simp] theorem State.attAnswer_acc (s : State) (r : AttRsp) : (State.attAnswer s r).acc = s.acc := rfl
@[simp] theorem State.attAnswer_ts (s : State) (r : AttRsp) : (State.attAnswer s r).ts = s.ts := rfl
@[simp] theorem State.attAnswer_gate (s : State) (r : AttRsp) : (State.attAnswer s r).gate = s.gate := rfl
@[simp] theorem State.attAnswer_seg (s : State) (r : AttRsp) : (State.attAnswer s r).seg = s.seg := rfl
@[simp] theorem State.attAnswer_twin (s : State) (r : AttRsp) : (State.attAnswer s r).twin = s.twin := rfl
@[simp] theorem State.attAnswer_pwr (s : State) (r : AttRsp) : (State.attAnswer s r).pwr = s.pwr := rfl
@[simp] theorem State.attAnswer_tmr (s : State) (r : AttRsp) : (State.attAnswer s r).tmr = s.tmr := rfl
@[simp] theorem State.attAnswer_bg (s : State) (r : AttRsp) : (State.attAnswer s r).bg = s.bg := rfl
@[simp] theorem State.attAnswer_eng (s : State) (r : AttRsp) : (State.attAnswer s r).eng = s.eng := rfl
@[simp] theorem State.attAnswer_uwb (s : State) (r : AttRsp) : (State.attAnswer s r).uwb = s.uwb := rfl
@[simp] theorem State.attAnswer_rfc (s : State) (r : AttRsp) : (State.attAnswer s r).rfc = s.rfc := rfl
@[simp] theorem State.attAnswer_cap (s : State) (r : AttRsp) : (State.attAnswer s r).cap = s.cap := rfl
@[simp] theorem State.attAnswer_lf (s : State) (r : AttRsp) : (State.attAnswer s r).lf = s.lf := rfl
@[simp] theorem State.attAnswer_nfc (s : State) (r : AttRsp) : (State.attAnswer s r).nfc = s.nfc := rfl
@[simp] theorem State.attAnswer_tag (s : State) (r : AttRsp) : (State.attAnswer s r).tag = s.tag := rfl
@[simp] theorem State.attAnswer_net (s : State) (r : AttRsp) : (State.attAnswer s r).net = s.net := rfl
@[simp] theorem State.attAnswer_time (s : State) (r : AttRsp) : (State.attAnswer s r).time = s.time := rfl
@[simp] theorem State.attAnswer_tpins (s : State) (r : AttRsp) : (State.attAnswer s r).tpins = s.tpins := rfl
@[simp] theorem State.attAnswer_ble_rsp (s : State) (r : AttRsp) :
    (State.attAnswer s r).ble.rsp = r := rfl

/-! `State.limAdd` -/
@[simp] theorem State.limAdd_now (s : State) (lim ch d : Nat) (eng : Bool) : (State.limAdd s lim ch d eng).now = s.now := rfl
@[simp] theorem State.limAdd_pending (s : State) (lim ch d : Nat) (eng : Bool) : (State.limAdd s lim ch d eng).pending = s.pending := rfl
@[simp] theorem State.limAdd_fuse (s : State) (lim ch d : Nat) (eng : Bool) : (State.limAdd s lim ch d eng).fuse = s.fuse := rfl
@[simp] theorem State.limAdd_reg (s : State) (lim ch d : Nat) (eng : Bool) : (State.limAdd s lim ch d eng).reg = s.reg := rfl
@[simp] theorem State.limAdd_pend (s : State) (lim ch d : Nat) (eng : Bool) : (State.limAdd s lim ch d eng).pend = s.pend := rfl
@[simp] theorem State.limAdd_dict (s : State) (lim ch d : Nat) (eng : Bool) : (State.limAdd s lim ch d eng).dict = s.dict := rfl
@[simp] theorem State.limAdd_log (s : State) (lim ch d : Nat) (eng : Bool) : (State.limAdd s lim ch d eng).log = s.log := rfl
@[simp] theorem State.limAdd_keys (s : State) (lim ch d : Nat) (eng : Bool) : (State.limAdd s lim ch d eng).keys = s.keys := rfl
@[simp] theorem State.limAdd_cx (s : State) (lim ch d : Nat) (eng : Bool) : (State.limAdd s lim ch d eng).cx = s.cx := rfl
@[simp] theorem State.limAdd_rng (s : State) (lim ch d : Nat) (eng : Bool) : (State.limAdd s lim ch d eng).rng = s.rng := rfl
@[simp] theorem State.limAdd_acc (s : State) (lim ch d : Nat) (eng : Bool) : (State.limAdd s lim ch d eng).acc = s.acc := rfl
@[simp] theorem State.limAdd_ts (s : State) (lim ch d : Nat) (eng : Bool) : (State.limAdd s lim ch d eng).ts = s.ts := rfl
@[simp] theorem State.limAdd_seg (s : State) (lim ch d : Nat) (eng : Bool) : (State.limAdd s lim ch d eng).seg = s.seg := rfl
@[simp] theorem State.limAdd_twin (s : State) (lim ch d : Nat) (eng : Bool) : (State.limAdd s lim ch d eng).twin = s.twin := rfl
@[simp] theorem State.limAdd_pwr (s : State) (lim ch d : Nat) (eng : Bool) : (State.limAdd s lim ch d eng).pwr = s.pwr := rfl
@[simp] theorem State.limAdd_tmr (s : State) (lim ch d : Nat) (eng : Bool) : (State.limAdd s lim ch d eng).tmr = s.tmr := rfl
@[simp] theorem State.limAdd_bg (s : State) (lim ch d : Nat) (eng : Bool) : (State.limAdd s lim ch d eng).bg = s.bg := rfl
@[simp] theorem State.limAdd_eng (s : State) (lim ch d : Nat) (eng : Bool) : (State.limAdd s lim ch d eng).eng = s.eng := rfl
@[simp] theorem State.limAdd_uwb (s : State) (lim ch d : Nat) (eng : Bool) : (State.limAdd s lim ch d eng).uwb = s.uwb := rfl
@[simp] theorem State.limAdd_rfc (s : State) (lim ch d : Nat) (eng : Bool) : (State.limAdd s lim ch d eng).rfc = s.rfc := rfl
@[simp] theorem State.limAdd_ble (s : State) (lim ch d : Nat) (eng : Bool) : (State.limAdd s lim ch d eng).ble = s.ble := rfl
@[simp] theorem State.limAdd_cap (s : State) (lim ch d : Nat) (eng : Bool) : (State.limAdd s lim ch d eng).cap = s.cap := rfl
@[simp] theorem State.limAdd_lf (s : State) (lim ch d : Nat) (eng : Bool) : (State.limAdd s lim ch d eng).lf = s.lf := rfl
@[simp] theorem State.limAdd_nfc (s : State) (lim ch d : Nat) (eng : Bool) : (State.limAdd s lim ch d eng).nfc = s.nfc := rfl
@[simp] theorem State.limAdd_tag (s : State) (lim ch d : Nat) (eng : Bool) : (State.limAdd s lim ch d eng).tag = s.tag := rfl
@[simp] theorem State.limAdd_net (s : State) (lim ch d : Nat) (eng : Bool) : (State.limAdd s lim ch d eng).net = s.net := rfl
@[simp] theorem State.limAdd_time (s : State) (lim ch d : Nat) (eng : Bool) : (State.limAdd s lim ch d eng).time = s.time := rfl
@[simp] theorem State.limAdd_tpins (s : State) (lim ch d : Nat) (eng : Bool) : (State.limAdd s lim ch d eng).tpins = s.tpins := rfl
@[simp] theorem State.limAdd_gate_onTimes (s : State) (lim ch d : Nat) (eng : Bool) :
    (State.limAdd s lim ch d eng).gate.onTimes = ⟨lim, ch, s.now, s.now + d, eng⟩ :: s.gate.onTimes.filter fun o => s.now ≤ o.t1 + secs 10 := rfl
end Sys2Proof.Machine
end

