-- ==== Sys2Proof/Machine/Pins.lean ====
section
/-! DEFINITION. The levels of the output balls that follow from the state (R238, R239, R56, R571, R595, R634, R691, R692). -/
namespace Sys2Proof.Machine

/-- The digital output balls whose level the state fixes (R691). -/
inductive OutBall where
  | lockDrvA | lockDrvB | lockAllA | lockAllB | trunkA | trunkB | startEn | startEnN
  | hsIrqN
  | canStb (c : Nat)
  | ppsOut
  | wakeOut
  | gpio (n : Nat)
deriving DecidableEq, Repr

/-- A reset is in force or CORE is without power in SHUTDOWN (R691). -/
def State.inReset (s : State) : Bool := s.pwr.held || s.pwr.shut || !s.pwr.vaon

/-- A release output at VIO level from its AON latch; undriven without VAON or VIO (R238, R239, R634). -/
def State.releaseBall (s : State) (level : Bool) : Option Bool := if s.pwr.vaon && s.gate.vio then some level else none

/-- WAKE_OUT (R692). -/
def State.wakeOut (s : State) : Bool := s.pwr.core && !s.inReset

/-- The level a ball is driven to; none where it is high-impedance, or where it has no connection on this variant (R3, R691). -/
def State.ball (s : State) : OutBall → Option Bool
  | .lockDrvA => if s.hasAccess then s.releaseBall (s.gate.a.getD 0 ⟨false, 0⟩).high else none
  | .lockAllA => if s.hasAccess then s.releaseBall (s.gate.a.getD 1 ⟨false, 0⟩).high else none
  | .trunkA => if s.hasAccess then s.releaseBall (s.gate.a.getD 2 ⟨false, 0⟩).high else none
  | .lockDrvB => if s.hasAccess then s.releaseBall (s.gate.b.getD 0 ⟨false, 0⟩).high else none
  | .lockAllB => if s.hasAccess then s.releaseBall (s.gate.b.getD 1 ⟨false, 0⟩).high else none
  | .trunkB => if s.hasAccess then s.releaseBall (s.gate.b.getD 2 ⟨false, 0⟩).high else none
  | .startEn => if s.hasAccess then s.releaseBall s.gate.startEn else none
  | .startEnN => if s.hasAccess then s.releaseBall (!s.gate.startEn) else none
  | .hsIrqN => if s.gate.vio then some (s.inReset || !s.spiIrq) else none
  | .canStb c =>
    if !s.gate.vio || s.fuse.variant = .gz4840 then none
    else some (s.inReset || !s.pwr.core || s.g 0x4001 (c + 1) = 0)
  | .ppsOut => if s.gate.vio then some (if s.inReset then bit (s.g 0x4138 0) 1 else s.ppsPin) else none
  | .wakeOut => if s.pwr.vaon then some s.wakeOut else none
  | .gpio n =>
    if !s.gate.vio || s.inReset || !bit (s.g 0x5031 0) n then none
    else some (((s.gpioWave n).map Tmr.out).getD (bit (s.g 0x5032 0) n))

/-- What fills the Wairil lane between frames (R78, R581): the fill pair, by whether the sender is aligned to its own received lane. -/
def State.wlFill (s : State) : List (Bool × BitVec 8) := fillPair (s.net.wl ≠ 0)

end Sys2Proof.Machine
end

