-- ==== Sys2Proof/Tests/Slice0.lean ====
section
/-! SUPPORT. The model's own tests: an ill-formed operand for each check of well-formedness, the worked examples of the spec, and for each
statement a state and operands that meet its hypotheses together, clause by clause. -/
namespace Sys2Proof.Tests
set_option Elab.async false
open Sys2Proof Sys2Proof.Machine

/-! ### The states of the tests -/

/-- A part that runs: powered, clocked, with its units on and the dictionary served. -/
def up : State := { State.reset with
  pwr := { Pwr.reset with held := false, phase := .ready, pll := true, refOk := true, unitsUp := true }, dict.spi.alive := true }

/-- Such a part that decides: the manager of its segment. -/
def boss : State := { up with seg.role := .manager }

/-- Nothing falls due at time 0: no evaluation runs, no radio event waits and no reset is armed. -/
def quiet (s : State) : Bool :=
  s.ts.evals.isEmpty && (decide (s.rng.st = .starting) || decide (s.bg.stage = 4)) && s.ble.conns.all (·.isNone) && decide (s.rfc.uwb = Xcvr.reset) &&
    decide (s.rfc.ble = Xcvr.reset) && s.dict.resetDue.isNone

/-- A quiet state at time 0 is the state at the time of the command. -/
theorem tick_quiet {s : State} (h : quiet s = true) : s.tick 0 = s := by
  simp only [quiet, Bool.and_eq_true, List.isEmpty_iff, decide_eq_true_eq, Bool.or_eq_true, Option.isNone_iff_eq_none, List.all_eq_true] at h
  obtain ⟨⟨⟨⟨⟨h1, h2⟩, h3⟩, h4⟩, h5⟩, h6⟩ := h
  have e1 : s.at 0 = s := by simp only [State.at, Nat.max_zero]
  have e2 : s.tsSettle s.now = s := by
    simp only [State.tsSettle, h1, List.map_nil]
    rw [← h1]
  have e4 : s.bleUses = [] := by
    have a : s.advWanted = false := by
      rcases h2 with h2 | h2 <;> simp [State.advWanted, h2]
    simp only [State.bleUses, a, Bool.false_eq_true, if_false, List.append_nil]
    rw [List.filterMap_eq_nil_iff]
    intro p hp
    have := h3 p.1 (List.fst_mem_of_mem_zipIdx hp)
    simp [this]
  have e3 : s.radioSettle = s := by
    unfold State.radioSettle
    split
    · rfl
    · simp [e4, State.xcSettle, State.xc, h4, h5, Xcvr.reset]
  simp only [State.tick, e1, e2, e3, h6]

/-- A condition at a state. -/
def holds (s : State) (p : State → Bool) : Bool := p s

/-- A state with some objects of the dictionary set: index, subindex, value. -/
def withG (s : State) (l : List (Nat × Nat × Nat)) : State := l.foldl (fun s p => s.put p.1 p.2.1 p.2.2) s

/-- The requester may ask, the dictionary serves and every check passes. -/
def admits (who : Requester) (op idx sub : Nat) (data : Bytes) (s : State) : Bool :=
  s.serving && s.mayAsk who && !s.askFull who && (s.reqCheck who (rowReq op idx sub data)).isNone

/-- A part that runs and whose DRBG serves draws; its limiter stage keeps the radio silent. -/
def drawing : State := { up with rng.st := .seeded, bg.stage := 4 }

/-- A loaded slot: number, ATTR and key. -/
def withKey (s : State) (h attr : Nat) (k : Bytes) : State :=
  { s with keys.slots := putAt s.keys.slots h ⟨.loaded, attr, 0, k, 0, none⟩ }

/-- An engine that runs the code `w` from address 0. -/
def running (w : Nat) : State :=
  { up with eng.es := putAt up.eng.es 0 { Engine.reset with
      st := .running, image := some ⟨0, 0, 0, 0, toLe 4 w ++ List.replicate 12 0, [], []⟩, code := toLe 4 w ++ List.replicate 12 0 } }

/-- Engine 0 issues the word at its PC, with this opcode. -/
def issuesNow (w o : Nat) (s : State) : Bool :=
  s.mayIssue 0 && decide (s.fetched 0 = w) && decide (iOp w = o) && decide (((s.engine 0).settle s.cyc).pc + 4 ≤ (s.engine 0).codeLen) &&
    (decodeTrap w).isNone && !(s.engine 0).comboBad w && decide (((s.engine 0).settle s.cyc).pred (bits w 29 3) ≠ bit w 28)

/-- What `exec` left, for the tests that run one command. -/
def left (o : Host.Outcome State Fault Refusal) : State := match o with | .next s => s | _ => State.reset


/-! ### Ill-formed operands -/
theorem test_illformed_spi_undefined_command_cmd :
    (instrOk (.spiUndefinedCommand 0 1 1), instrOk (.spiUndefinedCommand 0 (0x100) 1)) = (true, false) := by decide +kernel
theorem test_illformed_write_r :
    (instrOk (.write 0 .host 1 1 []), instrOk (.write 0 .field 1 1 [])) = (true, false) := by decide +kernel
theorem test_illformed_write_idx :
    (instrOk (.write 0 .host 1 1 []), instrOk (.write 0 .host (0x10000) 1 [])) = (true, false) := by decide +kernel
theorem test_illformed_write_sub :
    (instrOk (.write 0 .host 1 1 []), instrOk (.write 0 .host 1 (0x100) [])) = (true, false) := by decide +kernel
theorem test_illformed_subscribe_mode :
    (instrOk (.subscribe 0 .host 1 1 1 1 1), instrOk (.subscribe 0 .host 1 1 (0x100) 1 1)) = (true, false) := by decide +kernel
theorem test_illformed_subscribe_period :
    (instrOk (.subscribe 0 .host 1 1 1 1 1), instrOk (.subscribe 0 .host 1 1 1 (0x10000) 1)) = (true, false) := by decide +kernel
theorem test_illformed_subscribe_gap :
    (instrOk (.subscribe 0 .host 1 1 1 1 1), instrOk (.subscribe 0 .host 1 1 1 1 (0x10000))) = (true, false) := by decide +kernel
theorem test_illformed_login_hello_via :
    (instrOk (.loginHello 0 (.can 0 false) 1 []), instrOk (.loginHello 0 (.can 2 false) 1 [])) = (true, false) := by decide +kernel
theorem test_illformed_login_hello_seq :
    (instrOk (.loginHello 0 (.can 0 false) 1 []), instrOk (.loginHello 0 (.can 0 false) (0x10000) [])) = (true, false) := by decide +kernel
theorem test_illformed_logout_sid :
    (instrOk (.logout 0 1 1), instrOk (.logout 0 4 1)) = (true, false) := by decide +kernel
theorem test_illformed_requester_lockout_end_rid :
    (instrOk (.requesterLockoutEnd 0 1), instrOk (.requesterLockoutEnd 0 (8))) = (true, false) := by decide +kernel
theorem test_illformed_dict_frame_t1s_da :
    (instrOk (.dictFrameT1s 0 (List.replicate 6 0) (List.replicate 6 0) []), instrOk (.dictFrameT1s 0 (List.replicate 7 0) (List.replicate 6 0) [])) = (true, false) := by decide +kernel
theorem test_illformed_dict_frame_t1s_sa :
    (instrOk (.dictFrameT1s 0 (List.replicate 6 0) (List.replicate 6 0) []), instrOk (.dictFrameT1s 0 (List.replicate 6 0) (List.replicate 7 0) [])) = (true, false) := by decide +kernel
theorem test_illformed_can_fd_segment_c :
    (instrOk (.canFdSegment 0 1 1 []), instrOk (.canFdSegment 0 (2) 1 [])) = (true, false) := by decide +kernel
theorem test_illformed_can_fd_segment_id :
    (instrOk (.canFdSegment 0 1 1 []), instrOk (.canFdSegment 0 1 (2 ^ 32) [])) = (true, false) := by decide +kernel
theorem test_illformed_can_xl_dict_frame_sdt :
    (instrOk (.canXlDictFrame 0 1 1 1 []), instrOk (.canXlDictFrame 0 1 1 (0x100) [])) = (true, false) := by decide +kernel
theorem test_illformed_v1_read_f :
    (instrOk (.v1Read 0 []), instrOk (.v1Read 0 (List.replicate 9 0))) = (true, false) := by decide +kernel
theorem test_illformed_dev_self_test_done_fail :
    (instrOk (.devSelfTestDone 0 1 false), instrOk (.devSelfTestDone 0 (2 ^ 32) false)) = (true, false) := by decide +kernel
theorem test_illformed_cred_clock_confirm_ceiling :
    (instrOk (.credClockConfirm 0 .host 1), instrOk (.credClockConfirm 0 .host (2 ^ 64))) = (true, false) := by decide +kernel
theorem test_illformed_token_proof_car :
    (instrOk (.tokenProof 0 (.ble 0) []), instrOk (.tokenProof 0 (.nfc 2) [])) = (true, false) := by decide +kernel
theorem test_illformed_challenge_conn :
    (instrOk (.challenge 0 1), instrOk (.challenge 0 (8))) = (true, false) := by decide +kernel
theorem test_illformed_acc_revoke_token_tid :
    (instrOk (.accRevokeToken 0 .host 1), instrOk (.accRevokeToken 0 .host (2 ^ 32))) = (true, false) := by decide +kernel
theorem test_illformed_evidence_item_item :
    (instrOk (.evidenceItem 0 (List.replicate 16 0) none), instrOk (.evidenceItem 0 (List.replicate 17 0) none)) = (true, false) := by decide +kernel
theorem test_illformed_request_window_end_tsh :
    (instrOk (.requestWindowEnd 0 1 1), instrOk (.requestWindowEnd 0 (0x10000) 1)) = (true, false) := by decide +kernel
theorem test_illformed_request_window_end_gate :
    (instrOk (.requestWindowEnd 0 1 1), instrOk (.requestWindowEnd 0 1 (4))) = (true, false) := by decide +kernel
theorem test_illformed_pulse_end_n :
    (instrOk (.pulseEnd 0 false 1), instrOk (.pulseEnd 0 false (4))) = (true, false) := by decide +kernel
theorem test_illformed_dead_time_end_grp :
    (instrOk (.deadTimeEnd 0 1), instrOk (.deadTimeEnd 0 (2))) = (true, false) := by decide +kernel
theorem test_illformed_gate_fault_clear_gate :
    (instrOk (.gateFaultClear 0 .host 1), instrOk (.gateFaultClear 0 .host (0x100))) = (true, false) := by decide +kernel
theorem test_illformed_gate_quench_arg :
    (instrOk (.gateQuench 0 .host 1), instrOk (.gateQuench 0 .host (0x10000))) = (true, false) := by decide +kernel
theorem test_illformed_limiter_cut_lim :
    (instrOk (.limiterCut 0 1 1), instrOk (.limiterCut 0 5 1)) = (true, false) := by decide +kernel
theorem test_illformed_limiter_cut_ch :
    (instrOk (.limiterCut 0 1 1), instrOk (.limiterCut 0 1 (4))) = (true, false) := by decide +kernel
theorem test_illformed_gpio_hold_expiry_pin :
    (instrOk (.gpioHoldExpiry 0 1), instrOk (.gpioHoldExpiry 0 (8))) = (true, false) := by decide +kernel
theorem test_illformed_uwb_frame_launch_slot :
    (instrOk (.uwbFrameLaunch 0 1 1), instrOk (.uwbFrameLaunch 0 (128) 1)) = (true, false) := by decide +kernel
theorem test_illformed_transceiver_request_cls :
    (instrOk (.transceiverRequest 0 .uwb 1 false none none 1 false none), instrOk (.transceiverRequest 0 .uwb 4 false none none 1 false none)) = (true, false) := by decide +kernel
theorem test_illformed_rfc_cal_run_arg :
    (instrOk (.rfcCalRun 0 .host 1), instrOk (.rfcCalRun 0 .host (0x100))) = (true, false) := by decide +kernel
theorem test_illformed_connection_open_phy :
    (instrOk (.connectionOpen 0 1 1 1 1 false), instrOk (.connectionOpen 0 1 1 1 (4) false)) = (true, false) := by decide +kernel
theorem test_illformed_mtu_exchange_mtu :
    (instrOk (.mtuExchange 0 1 1), instrOk (.mtuExchange 0 1 (0x10000))) = (true, false) := by decide +kernel
theorem test_illformed_cccd_write_handle :
    (instrOk (.cccdWrite 0 1 1 1), instrOk (.cccdWrite 0 1 (0x10000) 1)) = (true, false) := by decide +kernel
theorem test_illformed_cccd_write_value :
    (instrOk (.cccdWrite 0 1 1 1), instrOk (.cccdWrite 0 1 1 (0x10000))) = (true, false) := by decide +kernel
theorem test_illformed_cap_scan_cs :
    (instrOk (.capScan 0 (List.replicate 4 0)), instrOk (.capScan 0 (List.replicate 5 0))) = (true, false) := by decide +kernel
theorem test_illformed_cap_confirm_measure_c :
    (instrOk (.capConfirmMeasure 0 1 1), instrOk (.capConfirmMeasure 0 1 (0x10000))) = (true, false) := by decide +kernel
theorem test_illformed_lf_exchange_start_vlf :
    (instrOk (.lfExchangeStart 0 1), instrOk (.lfExchangeStart 0 (0x10000))) = (true, false) := by decide +kernel
theorem test_illformed_lf_drive_measure_peak :
    (instrOk (.lfDriveMeasure 0 1 0 false false), instrOk (.lfDriveMeasure 0 (0x10000) 0 false false)) = (true, false) := by decide +kernel
theorem test_illformed_seg2_snr :
    (instrOk (.seg2 0 [] 1), instrOk (.seg2 0 [] (0x100))) = (true, false) := by decide +kernel
theorem test_illformed_lf_diag_run_ch :
    (instrOk (.lfDiagRun 0 .host 1 1 0 false false false 1), instrOk (.lfDiagRun 0 .host (0x100) 1 0 false false false 1)) = (true, false) := by decide +kernel
theorem test_illformed_nfc_ping_p :
    (instrOk (.nfcPing 0 1 1 0 0), instrOk (.nfcPing 0 (2) 1 0 0)) = (true, false) := by decide +kernel
theorem test_illformed_nfc_ping_ext :
    (instrOk (.nfcPing 0 1 1 0 0), instrOk (.nfcPing 0 1 (0x10000) 0 0)) = (true, false) := by decide +kernel
theorem test_illformed_nfc_activation_vnfc :
    (instrOk (.nfcActivation 0 1 1 1 1 0), instrOk (.nfcActivation 0 1 1 (0x10000) 1 0)) = (true, false) := by decide +kernel
theorem test_illformed_nfc_activation_cur :
    (instrOk (.nfcActivation 0 1 1 1 1 0), instrOk (.nfcActivation 0 1 1 1 (0x10000) 0)) = (true, false) := by decide +kernel
theorem test_illformed_field_loss_step :
    (instrOk (.fieldLoss 0 1), instrOk (.fieldLoss 0 6)) = (true, false) := by decide +kernel
theorem test_illformed_anticollision_level :
    (instrOk (.anticollision 0 1 false []), instrOk (.anticollision 0 4 false [])) = (true, false) := by decide +kernel
theorem test_illformed_pps_request_pps1 :
    (instrOk (.ppsRequest 0 1), instrOk (.ppsRequest 0 (0x100))) = (true, false) := by decide +kernel
theorem test_illformed_select_file_fid :
    (instrOk (.selectFile 0 1), instrOk (.selectFile 0 (0x10000))) = (true, false) := by decide +kernel
theorem test_illformed_read_binary_off :
    (instrOk (.readBinary 0 1 1), instrOk (.readBinary 0 (0x10000) 1)) = (true, false) := by decide +kernel
theorem test_illformed_read_binary_le :
    (instrOk (.readBinary 0 1 1), instrOk (.readBinary 0 1 (0x10000))) = (true, false) := by decide +kernel
theorem test_illformed_auth_begin_key :
    (instrOk (.authBegin 0 1), instrOk (.authBegin 0 (4))) = (true, false) := by decide +kernel
theorem test_illformed_get_record_info_n :
    (instrOk (.getRecordInfo 0 1), instrOk (.getRecordInfo 0 (24))) = (true, false) := by decide +kernel
theorem test_illformed_tag_bad_apdu_cla :
    (instrOk (.tagBadApdu 0 1 1 1), instrOk (.tagBadApdu 0 (0x100) 1 1)) = (true, false) := by decide +kernel
theorem test_illformed_tag_bad_apdu_ins :
    (instrOk (.tagBadApdu 0 1 1 1), instrOk (.tagBadApdu 0 1 (0x100) 1)) = (true, false) := by decide +kernel
theorem test_illformed_tag_bad_apdu_p1 :
    (instrOk (.tagBadApdu 0 1 1 1), instrOk (.tagBadApdu 0 1 1 (0x100))) = (true, false) := by decide +kernel
theorem test_illformed_tag_rec_write_n :
    (instrOk (.tagRecWrite 0 .host 1 []), instrOk (.tagRecWrite 0 .host (0x100) [])) = (true, false) := by decide +kernel
theorem test_illformed_tag_rec_write_data (d : Bytes) (h : d.length = 0x10000) : instrOk (.tagRecWrite 0 .host 1 d) = false := by
  show (Requester.host.ok && decide (1 < 0x100) && decide (d.length < 0x10000)) = false
  rw [h]; decide
theorem test_illformed_tag_rec_acl_write_acl :
    (instrOk (.tagRecAclWrite 0 .host 1), instrOk (.tagRecAclWrite 0 .host (0x100))) = (true, false) := by decide +kernel
theorem test_illformed_tag_ndef_commit_nlen :
    (instrOk (.tagNdefCommit 0 .host 1), instrOk (.tagNdefCommit 0 .host (0x10000))) = (true, false) := by decide +kernel
theorem test_illformed_tag_key_write_k :
    (instrOk (.tagKeyWrite 0 .host 1 []), instrOk (.tagKeyWrite 0 .host (0x100) [])) = (true, false) := by decide +kernel
theorem test_illformed_cx_block_done_core :
    (instrOk (.cxBlockDone 0 1), instrOk (.cxBlockDone 0 (4))) = (true, false) := by decide +kernel
theorem test_illformed_cx_request_done_page :
    (instrOk (.cxRequestDone 0 1), instrOk (.cxRequestDone 0 (16))) = (true, false) := by decide +kernel
theorem test_illformed_source_settled_src :
    (instrOk (.sourceSettled 0 1), instrOk (.sourceSettled 0 (3))) = (true, false) := by decide +kernel
theorem test_illformed_assay_block_blk :
    (instrOk (.assayBlock 0 1 (List.replicate 1024 0)), instrOk (.assayBlock 0 1 (List.replicate 1025 0))) = (true, false) := by decide +kernel
theorem test_illformed_add_e :
    (instrOk (.add 0 1), instrOk (.add 0 (8))) = (true, false) := by decide +kernel
theorem test_illformed_eng_control_start_e :
    (instrOk (.engControlStart 0 .host 1), instrOk (.engControlStart 0 .host (0x100))) = (true, false) := by decide +kernel
theorem test_illformed_eng_load_begin_total :
    (instrOk (.engLoadBegin 0 .host 1 1), instrOk (.engLoadBegin 0 .host 1 (2 ^ 32))) = (true, false) := by decide +kernel
theorem test_illformed_eng_load_data_off :
    (instrOk (.engLoadData 0 .host 1 []), instrOk (.engLoadData 0 .host (2 ^ 32) [])) = (true, false) := by decide +kernel
theorem test_illformed_eng_doorbell_v :
    (instrOk (.engDoorbell 0 .host 1 1), instrOk (.engDoorbell 0 .host 1 (2 ^ 32))) = (true, false) := by decide +kernel
theorem test_illformed_can_frame_rx_f :
    (instrOk (.canFrameRx 0 1 ⟨0, 0, 0, 0, 0, 0, []⟩ 1), instrOk (.canFrameRx 0 1 ⟨4, 0, 0, 0, 0, 0, []⟩ 1)) = (true, false) := by decide +kernel
theorem test_illformed_net_can_recover_c :
    (instrOk (.netCanRecover 0 .host 1), instrOk (.netCanRecover 0 .host (0x100))) = (true, false) := by decide +kernel
theorem test_illformed_t1s_frame_rx_etype :
    (instrOk (.t1sFrameRx 0 (List.replicate 6 0) (List.replicate 6 0) 1 [] false 1), instrOk (.t1sFrameRx 0 (List.replicate 6 0) (List.replicate 6 0) (0x10000) [] false 1)) = (true, false) := by decide +kernel
theorem test_illformed_time_step_amount :
    (instrOk (.timeStep 0 .host 1 false), instrOk (.timeStep 0 .host (2 ^ 96) false)) = (true, false) := by decide +kernel
theorem test_illformed_time_set_time :
    (instrOk (.timeSet 0 .host 1), instrOk (.timeSet 0 .host (2 ^ 96))) = (true, false) := by decide +kernel
theorem test_illformed_time_slew_ns :
    (instrOk (.timeSlew 0 .host 0), instrOk (.timeSlew 0 .host (2 ^ 31))) = (true, false) := by decide +kernel
theorem test_illformed_time_step_confirm_ceiling :
    (instrOk (.timeStepConfirm 0 .host 1), instrOk (.timeStepConfirm 0 .host (2 ^ 96))) = (true, false) := by decide +kernel
theorem test_illformed_time_asymmetry_write_v :
    (instrOk (.timeAsymmetryWrite 0 .host 0), instrOk (.timeAsymmetryWrite 0 .host (2 ^ 31))) = (true, false) := by decide +kernel
theorem test_illformed_pdelay_req_src :
    (instrOk (.pdelayReq 0 1 (List.replicate 10 0)), instrOk (.pdelayReq 0 1 (List.replicate 11 0))) = (true, false) := by decide +kernel
theorem test_illformed_pdelay_resp_ts :
    (instrOk (.pdelayResp 0 false 1 1), instrOk (.pdelayResp 0 false 1 (2 ^ 96))) = (true, false) := by decide +kernel
theorem test_illformed_ts_in_edge_ch :
    (instrOk (.tsInEdge 0 1 false), instrOk (.tsInEdge 0 (2) false)) = (true, false) := by decide +kernel
theorem test_illformed_worker_lost_node :
    (instrOk (.workerLost 0 1), instrOk (.workerLost 0 (16))) = (true, false) := by decide +kernel
theorem test_illformed_reset_release_qs_type :
    (instrOk (.resetRelease 0 false 1 (List.replicate 3 0) 1), instrOk (.resetRelease 0 false (0x100) (List.replicate 3 0) 1)) = (true, false) := by decide +kernel
theorem test_illformed_reset_release_qs_id :
    (instrOk (.resetRelease 0 false 1 (List.replicate 3 0) 1), instrOk (.resetRelease 0 false 1 (List.replicate 4 0) 1)) = (true, false) := by decide +kernel
theorem test_illformed_shutdown_exit_src :
    (instrOk (.shutdownExit 0 1), instrOk (.shutdownExit 0 (11))) = (true, false) := by decide +kernel
theorem test_illformed_core_wake_src :
    (instrOk (.coreWake 0 1), instrOk (.coreWake 0 (2 ^ 11))) = (true, false) := by decide +kernel
theorem test_illformed_tmr_ctrl_write_n :
    (instrOk (.tmrCtrlWrite 0 .host 1 1), instrOk (.tmrCtrlWrite 0 .host (12) 1)) = (true, false) := by decide +kernel
theorem test_illformed_tmr_status_write_v :
    (instrOk (.tmrStatusWrite 0 .host 1 1), instrOk (.tmrStatusWrite 0 .host 1 (0x10000))) = (true, false) := by decide +kernel
theorem test_illformed_tmr_capture_edge_src :
    (instrOk (.tmrCaptureEdge 0 1 1 false), instrOk (.tmrCaptureEdge 0 1 12 false)) = (true, false) := by decide +kernel
theorem test_illformed_burnish_step_err :
    (instrOk (.burnishStep 0 1 1 1 1), instrOk (.burnishStep 0 (3) 1 1 1)) = (true, false) := by decide +kernel

/-! ### Worked examples of the spec -/

/-- R718: the check values over "123456789". -/
theorem test_crc : (crc8 0 (ascii "123456789"), crc16 (ascii "123456789"), crc32 (ascii "123456789")) = (0xF4, 0x29B1, 0xCBF43926) := by
  decide +kernel
/-- R14: 12.5 ns past second 0x0000_6A40_0000 on the wire. -/
theorem test_time96_octets : leNat [0x00, 0x80, 0x0C, 0, 0, 0, 0, 0, 0x40, 0x6A, 0, 0] = (0x6A400000 * 2 ^ 32 + 12) * 2 ^ 16 + 0x8000 := by
  decide +kernel
/-- R58, R59: the response to the read of DevUnitPresence from a GZ4860. -/
theorem test_read_presence :
    respPdu ⟨1, 7, 0x1008, 0, 0, [], true⟩ ⟨0, 0, toLe 4 (presence .gz4860)⟩ =
      [0x81, 0x07, 0x08, 0x10, 0x00, 0x00, 0x04, 0x00, 0xEF, 0xFC, 0x3F, 0x0F] := by decide +kernel
/-- R58: the request of that read as octets. -/
theorem test_parse_read : parseReq [0x01, 0x07, 0x08, 0x10, 0x00, 0x00, 0x00, 0x00] = ⟨1, 7, 0x1008, 0, 0, [], true⟩ := by decide +kernel
/-- R141: the legacy counter extended. -/
theorem test_legacy_counter : extendCtr 0x1FFF8 0x0005 = 0x20005 := by decide +kernel
/-- R141, cases 5, 6 and 10: both ends of the resync window, and 1,019 after case 4. -/
theorem test_counter_cases :
    ((Ctr.judge ⟨1000, 0, none, false⟩ none 16 4096 5096).1, (Ctr.judge ⟨1000, 0, none, false⟩ none 16 4096 5097).1,
      (Ctr.judge ⟨1000, 0, none, false⟩ (some 1017) 16 4096 1019).1, (Ctr.judge ⟨1016, 0, none, false⟩ none 16 4096 1010).1) =
      (.resync, .replay, .resync, .replay) := by decide +kernel
/-- R306: the worked DS-TWR round. -/
theorem test_ds_twr : (dsTwr 408948264 102240022 102236422 408949776, valueMm 20621) = (20621, 1512) := by decide +kernel
/-- R527: (!p3) ADD g4, g5, g6 is 0x7051_5800. -/
theorem test_add_word :
    decide (iOp 0x70515800 = 0x01 ∧ bits 0x70515800 29 3 = 3 ∧ iRd 0x70515800 = 4 ∧ iRa 0x70515800 = 5 ∧ iRb 0x70515800 = 6) &&
      bit 0x70515800 28 && (decodeTrap 0x70515800).isNone := by decide +kernel

/-! ### Each statement's hypotheses are met -/

theorem witness_ArrivalsKeepTheOrder :
    ([
    holds ({ up with pending := [.spiStatus 0, .write 0 (.net 1) 0x1042 0 [10, 0]] }) fun s => quiet s && (inOrder s.pending &&
      decide ((s.arrive (.write 0 .host 0x1042 0 [20, 0])).pending.filterMap Instr.asks = [.host, .net 1]))].all id) = true := by decide +kernel

theorem witness_WitnessIsAStrictMajority :
    ([
    holds (withG { boss with seg.nodes := putAt boss.seg.nodes 2 { WNode.reset with online := true, mgr := 2, seen := some 0 } }
      [(0x4210, 3, 8)]) fun s => quiet s && (s.witnessed && decide (s.workerCount = 1)),
    holds (boss) fun s => quiet s && (decide (s.workerCount = 0) && !s.witnessed)].all id) = true := by decide +kernel

theorem witness_NoMajorityNamesTwoDevices :
    ([
    holds (withG { boss with seg.nodes := putAt boss.seg.nodes 2 { WNode.reset with online := true, mgr := 2, seen := some 0 } }
      [(0x4210, 3, 8)]) fun s => quiet s && (s.majority (s.naming 2 0))].all id) = true := by decide +kernel

theorem witness_RefusedRequestsOnlyAnswer :
    ([
    holds (up) fun s => quiet s && (s.serving && s.mayAsk .host && !s.askFull .host && decide (s.reqCheck .host (rowReq 1 0x0FFF 0
      []) = some (0x01, 0))),
    holds ({ up with dict.net := [{ NetSess.reset with phase := .opened, reqs := List.replicate 4 (rowReq 1 0 0 [], true) }, .reset, .reset] })
      fun s => quiet s && (s.serving && s.mayAsk (.net 1) && s.askFull (.net 1)),
    holds (up) fun s => quiet s && (!s.mayAsk (.net 1)),
    holds (State.reset) fun s => quiet s && (!s.serving)].all id) = true := by decide +kernel

theorem witness_PendingValueTakesHold :
    ([
    holds (up) fun s => quiet s && (decide ((findObj 0x3010 0).map ObjDef.eff = some (.next .bNextFrame)) && !inR 0x3140 0x314F
      0x3010 && alSorted s.reg && alSorted s.pend)].all id) = true := by decide +kernel

theorem witness_SetEventReachesTheNamedEngines :
    ([
    holds ({ up with eng.es := putAt up.eng.es 1 { Engine.reset with st := .waiting } }) fun s => quiet s && (decide
      (s.eng.es.length = 8) && decide (1 < engCount s.fuse.variant) && bit 2 1 && (s.engine 1).listens && !(s.engine 2).listens)].all id) = true := by decide +kernel

theorem witness_SurroundingsLeaveAQuietPartAlone :
    ([
    holds (up) fun s => quiet s && (s.acc.ses.all (·.isNone) && s.nfc.ports.all (·.act.isNone) && s.dict.done.isEmpty &&
      s.dict.resetMsg.isNone && s.dict.idleWait.isEmpty && s.dict.subs.isEmpty && s.dict.ntfs.all (·.q.isEmpty))].all id) = true := by decide +kernel

theorem witness_StoresWriteOnlyTheirOctets :
    ([
    holds (running 0x08C04010) fun s => quiet s && (issuesNow 0x08C04010 0x23 s && memSorted (s.engine 0).data && decide (((s.engine
      0).reg (iRa 0x08C04010) + iS14 0x08C04010).toNat = 0x10)),
    holds (running 0x09004012) fun s => quiet s && (issuesNow 0x09004012 0x24 s && decide (((s.engine 0).reg (iRa 0x09004012) + iS14
      0x09004012).toNat = 0x12)),
    holds (running 0x09404013) fun s => quiet s && (issuesNow 0x09404013 0x25 s && decide (((s.engine 0).reg (iRa 0x09404013) + iS14
      0x09404013).toNat = 0x13))].all id) = true := by decide +kernel

theorem witness_ArithmeticChangesOneRegister :
    ([
    holds (running 0x00511800) fun s => quiet s && (issuesNow 0x00511800 0x01 s)].all id) = true := by decide +kernel

theorem witness_SpiCommandsComplete :
    ([
    holds (up) fun s => quiet s && (s.dict.spi.alive && s.dict.spi.req.isNone && s.dict.spi.rsp.isNone && (parseReq [1, 7, 8, 16, 0,
      0, 0, 0]).lenOk),
    holds ({ up with dict.spi.req := some [1] }) fun s => quiet s && (s.dict.spi.alive && s.dict.spi.req.isSome),
    holds ({ up with dict.spi.rsp := some [1, 2] }) fun s => quiet s && (s.dict.spi.alive && decide (s.dict.spi.rsp = some [1, 2])
      && s.dict.resetDue.isNone),
    holds ({ up with dict.ntfs := [⟨1, [⟨0x1008, 0, 0, 0, [1]⟩], []⟩] }) fun s => quiet s && (decide ((s.dict.ntfs.getD 0 ⟨0, [],
      []⟩).q.map (fun x => decide (x.pdu.length ≤ 9)) = [true])),
    holds ({ up with dict.spi.req := some [0x77, 7, 8, 16, 0, 0, 0, 0] }) fun s => quiet s && (!s.dict.spi.running && s.serving &&
      (s.reqCheck .host (parseReq [0x77, 7, 8, 16, 0, 0, 0, 0])).isSome),
    holds ({ up with dict.spi.req := some [1, 7, 8, 16, 0, 0, 0, 0] }) fun s => quiet s && (!s.dict.spi.running && s.serving &&
      (s.reqCheck .host (parseReq [1, 7, 8, 16, 0, 0, 0, 0])).isNone)].all id) = true := by decide +kernel

theorem witness_DictionaryRowsComplete :
    ([
    holds (up) fun s => quiet s && (admits .host 2 0x3010 0 [12] s && decide ((findObj 0x3010 0).map ObjDef.eff = some (.next
      .bNextFrame)) && !area7Live (okey 0x3010 0)),
    holds (up) fun s => quiet s && (admits .host 2 0x1042 0 [10, 0] s && decide ((findObj 0x1042 0).map ObjDef.eff = some .imm)),
    holds ({ up with net.can := up.net.can }) fun s => quiet s && (admits .host 2 0x1210 1 [0, 0, 0, 0] s && (s.applyWrite .host
      0x1210 1 [0, 0, 0, 0]).1.isSome),
    holds (up) fun s => quiet s && ((s.applyWrite .host 0x3611 0 [1]).1.isNone),
    holds ({ up with pend := [(okey 0x3010 0, 1)] }) fun s => quiet s && (s.live && decide (s.pendOf 0x3010 0 = some 1) &&
      [Boundary.bNextTsApply, .bNextBleEngPublish, .bNextReset, .bNextColdReset, .bNextStartup].all fun b => !atBoundary b (okey
      0x3010 0)),
    holds (up) fun s => quiet s && (admits .host 5 0x1008 0 [1, 0, 0, 0, 0] s && (ntfIx .host).isSome && decide (s.dict.subs.length
      < 64)),
    holds ({ up with dict.subs := List.replicate 16 ⟨.host, 0x1001, 0, 1, 0, 0, 0, 0, false, []⟩ }) fun s => quiet s && (admits
      .host 5 0x1008 0 [1, 0, 0, 0, 0] s && decide (16 ≤ (s.dict.subs.filter fun (y : Sub) => y.who = .host).length) &&
      s.dict.subs.all fun y => decide (y.idx ≠ 0x1008)),
    holds ({ up with dict.subs := [⟨.host, 0x1001, 0, 1, 0, 0, 0, 0, false, []⟩] }) fun s => quiet s && (admits .host 6 0x1001 0 []
      s),
    holds ({ up with dict.subs := [⟨.host, 0x1001, 0, 3, 1, 0, 0, 0, true, []⟩] }) fun s => quiet s && (s.live && s.serving &&
      decide ((s.dict.subs.find? fun (x : Sub) => x.who = .host && x.idx = 0x1001 && x.sub = 0).map (fun x => (decide (2 ≤ x.mode ∧
      x.due ≤ s.now), x.held && decide (x.gapEnd ≤ s.now))) = some (true, true)))].all id) = true := by decide +kernel

theorem witness_NetworkLoginCompletes :
    ([
    holds (withG (withKey drawing 21 0x00500000 (List.replicate 16 7)) [(0x1040, 1, 0x10015)]) fun s => quiet s && (s.serving &&
      !s.gate.quench && s.drawOk && bit (s.g 0x1040 1) 16 && decide (s.g 0x1040 1 % 65536 = 21 ∧ s.slotKind 21 = 5) && (s.slotKey
      21).isSome && !((s.dict.guards[0]?.map fun g => g.locked s.now).getD false) && decide ((s.dict.net.zipIdx.find? fun p =>
      p.1.phase = .free).map Prod.snd = some 0)),
    holds ({ up with dict.net := [{ NetSess.reset with phase := .hello }, .reset, .reset] }) fun s => quiet s && (s.serving &&
      !s.gate.quench && decide ((s.dict.net[0]?.map fun n => (n.phase, n.via)) = some (.hello, .can 0 false)) && decide (cmac64
      (NetSess.reset.key) [1] = cmac64 NetSess.reset.key ([0x01] ++ [] ++ []))),
    holds ({ up with dict.net := [{ NetSess.reset with phase := .opened }, .reset, .reset] }) fun s => quiet s && (s.serving &&
      s.mayAsk (.net 1)),
    holds ({ up with now := secs 60, dict.net := [{ NetSess.reset with phase := .opened }, { NetSess.reset with phase := .hello, due := secs 60 }, .reset] })
      fun s => quiet s && (decide ((s.dict.net[0]?.map fun n => decide (n.phase = .opened ∧ n.due + secs (s.g 0x1042 0) ≤ s.now)) =
      some true) && decide ((s.dict.net[1]?.map fun n => decide (n.phase = .hello ∧ n.due ≤ s.now)) = some true))].all id) = true := by decide +kernel

/-- A part whose two CAN controllers are on their buses, CAN 0 in the XL mode, with 10BASE-T1S and the Wairil link up. -/
def bus : State :=
  withG { up with net.can := List.replicate 2 { CanCtl.reset with st := 1 }, net.t1s := 2, net.wl := 2 } [(0x4001, 1, 3), (0x1048, 0, 1)]
/-- The same with version 1 frames unlocked, and with a key and a DRBG for unlocking. -/
def bus1 : State :=
  withG (withKey { bus with dict.v1.unlocked := some (secs 30), dict.v1.challenge := some [1, 2, 3, 4], rng.st := .seeded, bg.stage := 4 } 112
    0x00100004 (List.replicate 16 9)) [(0x1049, 0, 112)]
theorem witness_DictionaryFramesComplete :
    ([
    holds (bus) fun s => quiet s && (s.pwr.core && s.wakeHas 8 && decide (s.net.t1s ≠ 0) && s.cksOn && !s.pwr.held && s.gate.vio &&
      s.macTakes [0x02, 0x4E, 0xD4, 0, 0, 2] && decide (leNat [0x02, 0x4E, 0xD4, 0, 0, 2] = (s.bump 0x4027 1).g 0x4020 0) && decide
      (leAt 2 2 [0x10, 2, 2, 0] = s.nodeAddr)),
    holds (bus) fun s => quiet s && (s.wakeHas 6 && s.canDictOn 0 0x642 && s.canHears 0 1 && s.canHears 0 3 && !s.immoTakes 0 ⟨1, 0,
      0, 0x642, 0, 0, [0xC0]⟩ && decide (2 ≤ s.canMode 0 ∧ s.canMode 0 = 3) && s.has 4 && ((s.modCan 0 fun k => { k with rec_ := min (k.rec_ - 1) 127 }.settle).bump
      0x4012 1).serving && ((s.modCan 0 fun k => { k with rec_ := min (k.rec_ - 1) 127 }.settle).bump 0x4012 1).canDictOn 0 0x642 &&
      bit 0xC0 7 && bit 0xC0 6 && !bit 0x80 6),
    holds ({ bus with now := 1, dict.reasm := [some ⟨[], 1, 0⟩, none] }) fun s => quiet s && (s.live && decide ((s.dict.reasm.getD 0
      none).map (fun r => decide (r.due < s.now)) = some true)),
    holds (bus) fun s => quiet s && (s.wakeHas 9 && decide ((s.wlFills 0).net.wl = 2) && (s.wlFills 0).cksOn && decide (crc32
      ((wlFrame 0x10 [0xFF]).take 4) = leAt 4 4 (wlFrame 0x10 [0xFF])) && decide ((wlFrame 0x10 [0xFF]).length = 7 + leAt 1 2
      (wlFrame 0x10 [0xFF])) && decide (byteAt 0 (wlFrame 0x10 [0xFF]) = 0x10) && decide (byteAt 0 (wlFrame 0x2E [0]) = 0x2E) &&
      decide (crc32 ([0x10, 0, 0] : Bytes) ≠ leAt 3 4 ([0x10, 0, 0, 0, 0, 0, 0] : Bytes)))].all id) = true := by decide +kernel

theorem witness_VersionOneFramesComplete :
    ([
    holds (bus1) fun s => quiet s && (s.pwr.core && s.wakeHas 6 && s.canHears 0 0 && !s.immoTakes 0 ⟨0, 0, 0, 0x7A0, 0, 0, []⟩ &&
      !s.canDictOn 0 0x7A0 && s.has 5 && decide (s.gp 0x1048 0 = 1) && (s.boundary .bNextV1Frame).v1On [0x10, 0, 0x10, 0, 0, 0, 0,
      0] && (v1Visible 0x1000 0).isSome && s.objHere 0x1000 0 && s.mayRead (.net 1) 0x1000 0 && s.unitUp 0x1000 0),
    holds (bus1) fun s => quiet s && (decide (v1Visible 0x2204 3 = some true) && s.objHere 0x2204 3 && decide (s.letterOf (.net 1)
      0x2204 3 ≠ .no) && decide (s.dict.v1.unlocked = some (secs 30)) && s.dataLenOk ⟨2, 0, 0x2204, 3, 0, [1], true⟩ && s.unitUp
      0x2204 3 && (s.valueCheck ⟨2, 0, 0x2204, 3, 0, [1], true⟩).isNone),
    holds (bus1) fun s => quiet s && (!s.gate.quench && !s.dict.v1.guard.locked s.now && s.drawOk && decide (s.dict.v1.challenge =
      some [1, 2, 3, 4]) && s.v1Key.isSome && decide ((cmac (List.replicate 16 9) [1, 2, 3, 4]).take 4 ≠ [0, 0, 0, 0])),
    holds ({ bus1 with now := secs 30 }) fun s => quiet s && (decide (s.dict.v1.unlocked = some s.now) && !s.dict.v1.guard.locked
      s.now)].all id) = true := by decide +kernel

theorem witness_DeviceCommandsComplete :
    ([
    holds (up) fun s => quiet s && (s.dict.commit.isNone && admits .host 3 0x1010 0 [] s),
    holds ({ up with dict.commit := some ⟨.host, []⟩, dict.selfTest := some .host }) fun s => quiet s && (s.live &&
      s.dict.commit.isSome && s.dict.selfTest.isSome && decide (0 &&& presence s.fuse.variant = 0) && decide (1 &&& presence
      s.fuse.variant ≠ 0)),
    holds (up) fun s => quiet s && (admits .host 3 0x1013 0 [] s),
    holds (up) fun s => quiet s && (s.dict.resetDue.isNone && admits .host 3 0x1018 0 [1] s && admits .host 3 0x1018 0 [2] s &&
      !s.gate.startEn && s.acc.drive.isNone),
    holds (up) fun s => quiet s && (admits .host 3 0x1020 0 [] s)].all id) = true := by decide +kernel

theorem witness_ValidityAndJournalComplete :
    ([
    holds ({ up with acc.vclk.held := 5, time.qual := 2 }) fun s => quiet s && (s.lockedSecs.isSome && decide (s.acc.vclk.held ≠ 0 ∧
      s.acc.vclk.held ≤ leNat (toLe 8 5)) && admits .host 3 0x2127 0 (toLe 8 5) s),
    holds (up) fun s => quiet s && (admits .host 3 0x2103 0 (List.replicate 16 0) s && decide (byteAt 8 (List.replicate 16 0) ≤ 7 ∧
      byteAt 15 (List.replicate 16 0) = 0) && !s.onRevList 0 0 && decide (s.acc.revoked.length < 512) && s.acc.cache.isEmpty),
    holds ({ up with now := secs 600 }) fun s => quiet s && (s.pwr.vaon && decide (s.acc.vclk.secAt + secs 1 ≤ s.now) && decide
      (s.time.qual ≠ 2) && s.live && decide (s.acc.vclk.floorAt + secs (s.g 0x2123 0) ≤ s.now)),
    holds ({ up with acc.jr.writes := [⟨⟨1, 0, 5, 7⟩, false, 0⟩] }) fun s => quiet s && (s.live && decide ((s.acc.jr.writes.map fun
      w => decide (w.due ≤ s.now)) = [true]) && decide (s.acc.jr.active.slots.length < 4093)),
    holds ({ up with acc.jr.writes := [⟨⟨1, 0, 5, 7⟩, true, 0⟩] }) fun s => quiet s && (s.live && decide ((s.acc.jr.writes.map fun w
      => decide (w.due ≤ s.now) && w.retry) = [true])),
    holds ({ up with acc.jr.a := ⟨1, 1, true, List.replicate 3072 ⟨⟨1, 0, 5, 7⟩, 0⟩⟩ }) fun s => quiet s && (s.live &&
      s.acc.jr.copied.isNone && decide (s.acc.jr.st ≠ .failed ∧ 3072 ≤ s.acc.jr.active.fill)),
    holds ({ up with acc.jr.copied := some 0, acc.jr.hold := true }) fun s => quiet s && (s.live && decide (s.acc.jr.copied = some 0
      ∧ (s.acc.jr.active.since 0).length ≤ 1) && s.acc.jr.hold && s.acc.jr.writes.isEmpty && s.acc.jr.waiting.isEmpty && decide
      (s.acc.jr.st ≠ .failed)),
    holds ({ up with acc.jr.copied := some 0, acc.jr.a := (⟨1, 1, true, []⟩ : JBank).push true ⟨1, 0, 5, 7⟩ |>.push true ⟨1, 1, 6, 7⟩ })
      fun s => quiet s && (s.live && decide (1 < (s.acc.jr.active.since 0).length))].all id) = true := by decide +kernel

/-- A connection, and a session of token entry 0 on it. -/
def conn0 : BleConn := ⟨0, 0, 24, 0, 400, 247, [(0x0013, 1)], false, false, [], [], false, false, 0, 0, secs 1, [], [], 0, false, []⟩
def ses0 : TokSession := ⟨1, .ble 0, .tok 0, zeros 16, zeros 16, zeros 16, 0, 0, 0, [], none, true, none⟩
def linked : State := { boss with ble.conns := putAt boss.ble.conns 0 (some conn0), dict.spi.alive := true }
def talking : State := { linked with acc.ses := putAt linked.acc.ses 0 (some ses0), acc.tshNext := 2 }
/-- An authority that may attest, with its key in slot 30. -/
def vouched : State := withG (withKey { linked with ble.conns := putAt boss.ble.conns 0 (some { conn0 with chal := true }) } 30 0x00500000 (List.replicate 32 3))
  [(0x2110, 1, 1), (0x2110, 2, 30), (0x2110, 3, 2)]
def attestHead : Bytes := [2, 0, 0, 0] ++ toLe 6 5 ++ zeros 6 ++ Fuses.reset.serial
def attestBody : Bytes := attestHead ++ cmac (kdf (List.replicate 32 3) (ascii "GZTIME-ATT") [0] 16) attestHead
/-- A message of the session with its counter and MAC. -/
def zqOf (typ : Nat) (body : Bytes) : Bytes :=
  let h := [BitVec.ofNat 8 typ, BitVec.ofNat 8 body.length] ++ body ++ toLe 2 1
  h ++ zqMac (zeros 16) 0 1 1 ([BitVec.ofNat 8 typ, BitVec.ofNat 8 body.length] ++ body)
theorem witness_ZariqueMessagesComplete :
    ([
    holds (State.tick 0 linked) fun s => (s.live && s.linkUp (.ble 0) && s.deciding && !s.zqBad (.ble 0) ([0x11, 17] ++ zeros 17) &&
      !s.zqBad (.ble 0) ([0x12, 77] ++ zeros 77) && s.zqBad (.ble 0) [0x13, 40]),
    holds (State.tick 0 vouched) fun s => (s.live && s.deciding && !s.zqBad (.ble 0) ([0x13, 40] ++ attestBody) && decide ((s.conn
      0).map (·.chal) = some true) && decide (attestBody.length = 40 ∧ byteAt 0 attestBody = 2 ∧ leAt 2 2 attestBody < 2 ∧ slice 10
      6 attestBody = zeros 6) && decide (s.authCheck 0 1 = (0, 0)) && decide (cmac (kdf (s.fak 0) (ascii "GZTIME-ATT") [0] 16)
      (attestBody.take 24) = attestBody.drop 24) && s.targetOk (bit (leAt 2 2 attestBody) 0) (slice 16 8 attestBody) && decide
      (s.acc.vclk.vc < leAt 4 6 attestBody)),
    holds (State.tick 0 talking) fun s => (s.live && s.deciding && (s.zqIn (.ble 0) 0x17 (zqOf 0x17 [])).isSome && !s.zqBad (.ble 0)
      (zqOf 0x17 []) && (s.zqIn (.ble 0) 0x14 (zqOf 0x14 (zeros 16))).isSome && (s.zqIn (.ble 0) 0x16 (zqOf 0x16 (zeros 4))).isSome),
    holds (State.tick 0 talking) fun s => ((s.zqIn (.ble 0) 0x15 (zqOf 0x15 (zeros 15))).isSome && decide ((s.enrolRequest ses0
      (zeros 15)).1.1 ≠ 0) && (s.enrolRequest ses0 (zeros 15)).2.1.isNone),
    holds (State.tick 0 { linked with rng.st := .seeded, bg.stage := 4 }) fun s => (s.live && s.deciding && s.drawOk && decide
      ((s.conn 0).map (fun x => (x.chal, bit (x.cccdOf 0x0013) 0, decide (83 ≤ x.mtu))) = some (false, true, true))),
    holds (State.tick 0 { talking with rng.st := .seeded, bg.stage := 4, acc.nonces := [⟨.ble 0, zeros 16, none, 0, 1, 0⟩] }) fun s
      => (s.live && decide ((s.acc.nonces.filter fun n => n.car = .ble 0 && n.left.isNone).length = 1) && (s.sesOn (.ble 0)).isSome
      && s.deciding && s.drawOk),
    holds (State.tick 0 { talking with rng.st := .seeded, bg.stage := 4 }) fun s => (s.live && decide ((s.sesOn (.ble 0)).map (fun p
      => p.2.setup) = some true) && s.drawOk && !s.gate.quench && ((s.modSes 0 fun y => { y with setup := false }).freeSlot
      1).isSome),
    holds (State.tick 0 { talking with acc.learn := some ⟨false, 1, .tok 0, secs 120, some ⟨3, 1, 1, 0, 2, 0, 5, 7, none, true, false⟩⟩ })
      fun s => (s.live && decide (s.acc.learn.map (fun l => l.tsh) = (s.sesOn (.ble 0)).map (fun p => p.2.tsh)) &&
      !(s.keys.waits.any fun w => w.slot = 5)),
    holds (State.tick 0 { talking with keys.waits := [⟨5, none, [], 0⟩], acc.learn := some ⟨false, 1, .tok 0, secs 120, some ⟨3, 1, 1, 0, 2, 0, 5, 7, none, true, false⟩⟩ })
      fun s => (s.live && decide (s.acc.learn.map (fun l => l.tsh) = (s.sesOn (.ble 0)).map (fun p => p.2.tsh)) && (s.keys.waits.any
      fun w => w.slot = 5))].all id) = true := by decide +kernel

theorem witness_AccessTimersAndEdgesComplete :
    ([
    holds (boss) fun s => quiet s && (s.pwr.vaon && !s.pwr.shut && s.hasAccess && decide (ms (s.g 0x2225 0) ≤ ms 1000) && decide
      (bit s.acc.doors 0 ≠ true) && decide ((if s.doorOpenAt 0 true then ({ s with acc.doors := putBit s.acc.doors 0 true }).doorEdge
      else s).pwr.core = true)),
    holds ({ boss with pwr.core := false }) fun s => quiet s && (s.pwr.vaon && !s.pwr.shut && s.hasAccess && decide (ms (s.g 0x2225
      0) ≤ ms 1000) && s.wakeHas 4 && !s.pwr.core),
    holds ({ boss with acc.drive := some (.tok 0, 1), gate.startEn := true }) fun s => quiet s && (s.pwr.vaon && s.hasAccess &&
      s.acc.drive.isSome && (({ s with acc.drive := none } : State).lowerStart).pwr.core),
    holds ({ boss with acc.start := [⟨.tok 0, 1, 0, true, true, 1, none⟩], gate.startEn := true }) fun s => quiet s && (s.pwr.vaon
      && s.hasAccess && decide ((s.acc.start.find? fun x => x.sealed_).map (·.ack) = some 1) && s.gate.startEn &&
      s.acc.drive.isNone),
    holds ({ boss with acc.code := ⟨[], some ⟨0, 0, 0⟩⟩ }) fun s => quiet s && (s.pwr.vaon && s.acc.fails.all (·.lock.isNone) &&
      s.acc.ifs.all (·.lock.isNone) && decide (s.acc.code.lock.map (fun l => decide (l.until_ ≤ s.now)) = some true)),
    holds ({ boss with acc.learn := some ⟨false, 1, .tok 0, 0, none⟩ }) fun s => quiet s && (decide (s.acc.learn.map (fun l =>
      decide (l.due ≤ s.now)) = some true))].all id) = true := by decide +kernel

theorem witness_AccessCommandsComplete :
    ([
    holds (boss) fun s => quiet s && (admits .host 3 0x220B 0 [] s && admits .host 3 0x2210 0 (toLe 4 7) s && (s.tokFind 7).isNone),
    holds ({ boss with acc.toks := putAt boss.acc.toks 3 { TokEntry.reset with st := 1, tid := 7 } }) fun s => quiet s && (admits
      .host 3 0x2210 0 (toLe 4 7) s && decide (s.tokFind 7 = some 3)),
    holds ({ boss with acc.ifs := putAt boss.acc.ifs 6 ⟨[], some ⟨secs 900, 0, 0⟩⟩ }) fun s => quiet s && (admits .host 3 0x2211 0
      ([1, 6] ++ zeros 9) s && decide ((s.acc.ifs[6]?).map (fun x => s.inLock x.lock) = some true)),
    holds (withKey { boss with acc.learn := some ⟨false, 1, .tok 0, secs 120, some ⟨1, 1, 1, 0, 3, 0, 5, 7, none, false, false⟩⟩ } 6
      0x00300000 (zeros 16)) fun s => quiet s && (admits .host 3 0x220A 0 (toLe 2 6) s && isHandle 6 && decide (s.acc.learn.bind
      (fun l => l.xfer.map (·.delivery)) = some 3) && decide (s.slotSt 6 = .loaded ∧ s.slotOwner 6 = 0 ∧ s.slotKind 6 = 3 ∧
      s.slotLen 6 = 0))].all id) = true := by decide +kernel

/-- A table whose zone 0 asks for one LF item of any value, and a request for gate 0 under it. -/
def table0 : TsTable := { TsTable.reset with zones := putAt TsTable.reset.zones 0 (true, 3 * 2 ^ 60 :: List.replicate 7 0) }
def req0 : VReq := ⟨1, 0, false, .tok 0, 0, 0, 0, table0, [], none, none, false⟩
def sure : Verdict := ⟨true, true, 0, 1, 0, 0, secs 9⟩
def judging : State := { boss with ts.cur := table0, acc.ses := putAt boss.acc.ses 0 (some ⟨1, .ble 0, .tok 0, zeros 16, zeros 16, zeros 16, 0, 0, 0, [], none, true, none⟩) }
/-- The same with token entry 0 active and allowed everything. -/
def ruling : State := { judging with acc.toks := putAt boss.acc.toks 0 { TokEntry.reset with st := 1, tid := 7, handle := 40, rights := 0xFF, zones := 1 } }
theorem witness_TouchstoneCommandsComplete :
    ([
    holds (judging) fun s => quiet s && (s.live && decide (s.tsState = 1) && s.hasAccess && (Item.ofBytes [3, 0, 0, 1, 1, 0, 0, 0,
      0, 0, 0, 0, 0, 0, 0, 0]).formatOk && (s.acc.ses.any fun x => (x.map fun e => e.tsh == 1).getD false) && s.tsKeys.contains (3,
      0, 0) && decide (((s.tsSettle 0).itemTm (Item.ofBytes [3, 0, 0, 1, 1, 0, 0, 0, 0, 0, 0, 0, 0, 0, 0, 0]) none 0) = some 0) &&
      decide ((Item.ofBytes [3, 0, 0, 1, 1, 0, 0, 0, 0, 0, 0, 0, 0, 0, 0, 0]).kind ≠ 2) && bit 1 0 && !bit 1 1),
    holds (State.tick 0 { judging with ts.reqs := [req0], ts.evals := [⟨1, 0, 0, some sure⟩] }) fun s => (s.live && decide
      (s.ts.evals.map (fun e => decide (e.due ≤ s.now + us 100)) = [true]) && (s.ts.reqs.find? fun q => q.tsh = 1 && q.gate = 0 &&
      q.ok.isNone).isSome && decide (s.ts.evals.map (·.res.map (·.sat)) = [some true])),
    holds ({ judging with ts.reqs := [req0] }) fun s => quiet s && (s.live && (s.ts.reqs.find? fun q => q.tsh = 1 && q.gate = 0 &&
      q.ok.isNone && q.wend ≤ s.now).isSome && !(s.ts.evals.any fun e => e.tsh = 1)),
    holds ({ judging with now := secs 1, ts.reqs := [{ req0 with launch := some 0 }] }) fun s => quiet s && (s.live && decide
      (s.ts.reqs.map (fun q => q.launch.map (fun l => decide (l + ms q.table.grace ≤ s.now) && !q.asked && q.ok.isNone)) = [some
      true])),
    holds ({ judging with now := secs 9, ts.reqs := [{ req0 with ok := some (sure, 0) }] }) fun s => quiet s && (s.live && decide
      (s.ts.reqs.map (fun q => q.ok.map (fun v => decide (v.1.expiry ≤ s.now))) = [some true])),
    holds (boss) fun s => quiet s && (admits .host 3 0x2301 0 [] s && s.ts.reqs.all (fun q => decide (q.table.ver = s.ts.cur.ver))
      && (tableFault (tsTableOf s.gp 0)).isNone),
    holds ({ ruling with ts.reqs := [{ req0 with ok := some (sure, 0) }] }) fun s => quiet s && (s.live && s.mayDecide && decide
      (s.now < sure.expiry) && s.advClear 1 && decide (s.sealCheck (.tok 0) 0 = (0, 0)) && (s.keyZones (.tok 0)).testBit sure.zone
      && decide (((s.dropReqs fun r => r.tsh = 1).gateTake 0 false false).1 = (0, 0)))].all id) = true := by decide +kernel

theorem witness_GateCommandsComplete :
    ([
    holds ({ boss with gate.a := putAt boss.gate.a 1 ⟨true, 0⟩ }) fun s => quiet s && ((s.gate.aBall 1).high && decide
      ((s.gate.aBall 1).due ≤ s.now)),
    holds ({ boss with gate.b := putAt boss.gate.b 1 ⟨true, 0⟩ }) fun s => quiet s && ((s.gate.bBall 0).high && decide
      ((s.gate.bBall 0).due ≤ s.now)),
    holds ({ boss with gate.dead := [some ⟨0, [0], false⟩, some ⟨0, [], true⟩] }) fun s => quiet s && (decide ((s.gate.deadOf 0).map
      (fun d => (decide (d.due ≤ s.now), d.b)) = some (true, false)) && decide ((s.gate.deadOf 1).map (fun d => (decide (d.due ≤
      s.now), d.b)) = some (true, true)) && s.pwr.core && !s.pwr.held && !s.pwr.shut),
    holds ({ boss with pwr.core := false, gate.dead := [some ⟨0, [0], false⟩, none] }) fun s => quiet s && ((s.gate.deadOf 0).isSome
      && !s.pwr.core),
    holds (boss) fun s => quiet s && (s.hasAccess && decide (s.seg.role = .manager) && !s.gate.quench && !s.closing 1 &&
      !s.gate.bBusy 0 && decide (s.g 0x2406 0 = 0) && admits .host 3 0x2408 0 [] s),
    holds (withG { boss with now := secs 1 } [(0x2405, 0, 0xF)]) fun s => quiet s && (!s.pwr.held && !s.pwr.shut && (s.g 0x2405
      0).testBit 0 && s.gate.vio && decide (s.gate.chg.getD 0 0 + ms (s.g 0x2404 0) ≤ s.now) && decide (s.gate.mism.getD 0 0 = 0)),
    holds (withG { boss with now := secs 1, gate.mism := [1, 0, 0, 0] } [(0x2405, 0, 0xF)]) fun s => quiet s && ((s.g 0x2405
      0).testBit 0 && decide (s.gate.mism.getD 0 0 = 1)),
    holds ({ boss with now := secs 600, gate.startEn := true }) fun s => quiet s && (s.gate.startEn && s.acc.drive.isNone && decide
      (s.gate.startAt + secs 600 ≤ s.now)),
    holds (boss) fun s => quiet s && (admits .host 3 0x2409 0 [3] s && admits .host 3 0x2451 0 (toLe 2 0x5155) s)].all id) = true := by decide +kernel

/-- The immobiliser on CAN 0 in ASK mode with classical frames, identifiers and a key. -/
def immobile : State := withG (withKey { boss with net.can := List.replicate 2 { CanCtl.reset with st := 1 }, gate.startEn := true } 41 0x00100004 (List.replicate 16 5))
  [(0x4001, 1, 2), (0x2420, 0, 2), (0x2421, 0, 0), (0x2422, 0, 0), (0x2423, 0, 0x100), (0x2425, 0, 41)]
theorem witness_ImmobiliserAndLimitsComplete :
    ([
    holds (immobile) fun s => quiet s && (s.wakeHas 6 && s.pwr.core && decide (s.g 0x2421 0 = 0) && s.canHears 0 0 && s.immoTakes 0
      ⟨0, 0, 0, s.g 0x2423 0, 0, 0, []⟩ && s.deciding && s.immoFmt ⟨0, 0, 0, s.g 0x2423 0, 0, 0, []⟩ && decide (s.immoChallengeOf
      [1, 0, 9, 9, 9, 9, 9, 9] = some [9, 9, 9, 9, 9, 9]) && decide (s.g 0x2420 0 = 2) && s.gate.startEn),
    holds ({ immobile with gate.startEn := false }) fun s => quiet s && (s.immoTakes 0 ⟨0, 0, 0, s.g 0x2423 0, 0, 0, []⟩ &&
      s.deciding && !s.gate.startEn && s.gate.immo.nonce.isNone),
    holds ({ immobile with gate.immo.rel := [([9, 9], [9, 9])], acc.start := [⟨.tok 0, 1, 0, true, true, 2, none⟩] }) fun s => quiet
      s && (s.immoAckOk ([4, 0, 9, 9] ++ s.immoMac (List.replicate 16 5) 0 [4, 0, 9, 9] [9, 9]) && (s.immoChallengeOf ([4, 0, 9, 9]
      ++ zeros 4)).isNone && decide (((s.acc.start.find? fun x => x.sealed_).map StartS.ack).getD (s.g 0x2203 0) ≠ 1)),
    holds (withG { boss with gate.startEn := true, gate.immo.next := some 0, gate.immo.nonce := some (zeros 6, 0) } [(0x2420, 0,
      1)]) fun s => quiet s && (s.live && decide (s.gate.immo.next = some 0) && s.gate.startEn && decide (s.g 0x2420 0 = 1) &&
      !s.gate.quench && decide (s.gate.immo.nonce.map (fun n => decide (n.2 ≤ s.now)) = some true)),
    holds ({ boss with now := secs 1, gate.onTimes := [⟨1, 0, 0, secs 2, false⟩, ⟨2, 0, 0, secs 2, false⟩, ⟨3, 1, 0, secs 2, false⟩, ⟨4, 1, 0, secs 4, false⟩] })
      fun s => quiet s && (s.atCeiling 1 0 && s.atCeiling 2 0 && s.atCeiling 3 1 && (s.gate.onTimes.any fun o => o.lim = 1 && o.ch =
      0 && s.now < o.t1) && (s.gate.onTimes.any fun o => o.lim = 2 && s.now < o.t1) && (s.gate.onTimes.any fun o => o.lim = 3 &&
      o.ch = 1 && s.now < o.t1)),
    holds ({ boss with now := secs 3, gate.onTimes := [⟨4, 1, 0, secs 4, false⟩] }) fun s => quiet s && (s.atCeiling 4 1 &&
      (s.gate.onTimes.any fun o => o.lim = 4 && o.ch = 1 && s.now < o.t1)),
    holds (withG { boss with now := secs 100, gate.hold := putAt boss.gate.hold 0 (some 0) } [(0x5030, 1, 0), (0x5031, 0, 1),
      (0x5032, 0, 1)]) fun s => quiet s && (s.tmrSettleAll.gpioOn 0 && decide (s.tmrSettleAll.gpioSince 0 + ms (s.tmrSettleAll.g
      0x2442 0) ≤ s.tmrSettleAll.now))].all id) = true := by decide +kernel

/-- A ranging session whose first block starts now, and a round in the air at a node with index 0 of one. -/
def uses0 : UwbSess := ⟨1, 7, [9, 1, 0, 0, 0, 0], 0x1234, 2, 50, 0, 40, 0, 0⟩
def rkeys : RoundKeys := ⟨zeros 16, zeros 16, zeros 12, zeros 16, zeros 16⟩
def round0 (mode at_ : Nat) : Round := ⟨5, 1, 1, mode, 0, at_, [2], some 0, 1, 1, us 200, 7, 0x1234, [9, 1, 0, 0, 0, 0], 0, rkeys, [], [], 0, [(0, 0), (2, 0)], some ⟨0, 9, true, false⟩, 0, [], []⟩
def ready0 : Xcvr := { Xcvr.reset with st := .ready, chan := 9 }
/-- Good taps of a frame on one chain. -/
def taps : Cir := [(1000, 40)]
def rx0 : AirRx := ⟨some ⟨taps, taps, [(100, taps)], 0, 0, 0⟩, none, 0, 0⟩
def phonePsdu (msg slot : Nat) (body : Bytes) : Bytes :=
  let h := psduHead slot 7 0xFFFF 0x1234 msg 0 body
  h ++ cmac64 (zeros 16) h
def syncPsdu : Bytes :=
  let h := psduHead 4 0x5A00 0xFFFF (0xA500 + 3) 0x20 0 [3, 0] ++ zeros 6
  h ++ cmac64 (zeros 16) h
/-- A node that receives in a round of this mode. -/
def hearing (mode : Nat) : State := { boss with uwb.air := some (round0 mode 0), rfc.uwb := { Xcvr.reset with st := .rx, chan := 9 } }
/-- An auxiliary request of the host that is due. -/
def aux0 (tx : Option (Bytes × Bool)) : State := { boss with uwb.aux := [⟨.host, tx, 0, 0, 0⟩] }
theorem witness_UwbRoundsComplete :
    ([
    holds ({ boss with rng.st := .seeded, bg.stage := 4, uwb.sess := [uses0] }) fun s => quiet s && (s.live && (s.uwbSess 1).isSome
      && decide (s.seg.role = .manager) && decide ((s.now - uses0.first) % ms uses0.block = 0) && s.uwb.plan.isEmpty &&
      s.uwb.air.isNone && s.drawOk && !s.gate.quench && decide (uses0.miss < s.g 0x300C 0)),
    holds (withG { boss with uwb.sess := [uses0] } [(0x300B, 0, 0xC)]) fun s => quiet s && (s.live && s.blockAllowed (uses0.blockNo
      s.now) && decide (((List.range 16).filter fun n => (s.g 0x300B 0).testBit n).take uses0.slots ≠ [])),
    holds (State.tick 0 { up with seg.role := .worker, uwb.plan := [round0 0 0] }) fun s => (s.live && s.isOpp s.now && s.pwr.core
      && decide (s.seg.role ≠ .manager) && s.uwb.air.isNone && (s.uwb.plan.find? fun r => r.at_ = s.now).isSome),
    holds (State.tick 0 { boss with now := us 10, uwb.air := some (round0 0 (us 10)), rfc.uwb := { ready0 with q := [⟨1, true, some (us 10), none, 9, true, .slot 5 0, none⟩] } })
      fun s => (s.live && decide (s.uwb.air.bind (fun r => r.ownMsg 0) = some 0x01) && (s.rfc.uwb.q.any fun q => q.use = .slot 5 0)
      && ((s.boundary .bNextFrame).xcDrop .uwb fun u => u = XcUse.slot 5 0).armed .uwb s.now && decide (((s.boundary
      .bNextFrame).xcDrop .uwb fun u => u = XcUse.slot 5 0).rfc.uwb.chan = 9) && s.roundLive (round0 0 0) && !s.atCeiling 1 0 &&
      !s.atCeiling 2 0),
    holds (State.tick 0 (hearing 0)) fun s => (s.live && decide (s.rfc.uwb.st = .rx) && decide (fcsOk (withFcs [1, 2]) = some [1,
      2]) && (round0 0 0).phoneOk 0x02 1 (phonePsdu 2 1 []) && (s.hear true [9, 1, 0, 0, 0, 0] 0x1234 rx0).1.isSome),
    holds (State.tick 0 (hearing 0)) fun _ => ((round0 0 0).phoneOk 0x04 3 (phonePsdu 4 3 ([1, 3] ++ zeros 10)) && bit (phoneEntry
      (phonePsdu 4 3 ([1, 3] ++ zeros 10)) 0 11).1 0 && bit (phoneEntry (phonePsdu 4 3 ([1, 3] ++ zeros 10)) 0 11).1 1 && ((round0 0
      0).sent.find? fun p => p.1 = 0).isSome && ((round0 0 0).sent.find? fun p => p.1 = 2).isSome && (round0 0 0).resp.isSome),
    holds (State.tick 0 (hearing 2)) fun s => ((round0 2 0).phoneOk 0x05 1 (phonePsdu 5 1 []) && (s.hear true [9, 1, 0, 0, 0, 0]
      0x1234 rx0).1.isSome && decide (s.seg.role = .manager)),
    holds (State.tick 0 { hearing 0 with seg.role := .worker }) fun s => (decide (syncPsdu.length = 30) && decide (cmac64 (zeros 16)
      (syncPsdu.take 22) = syncPsdu.drop 22) && decide (syncPsdu.take 16 = psduHead 4 (0x5A00 + s.seg.segNo) 0xFFFF (0xA500 + byteAt
      14 syncPsdu) 0x20 0 [BitVec.ofNat 8 (byteAt 14 syncPsdu), 0]) && (s.hear false [9, 1, 0, 0, 0, 0] (0xA500 + 3) rx0).1.isSome
      && decide (s.seg.role ≠ .manager)),
    holds (State.tick 0 { hearing 0 with now := ms 2 }) fun s => (s.live && decide ((round0 0 0).fin ≤ s.now) && s.rfc.uwb.q.isEmpty
      && decide (s.seg.role = .manager)),
    holds (State.tick 0 { boss with now := ms 2, uwb.air := some (round0 0 0), uwb.await := [⟨5, 1, true, [2], false, false, [], [], []⟩] })
      fun s => (decide ((s.awaitOf 5).map (fun a => a.left.all (· = s.seg.node)) = some true))].all id) = true := by decide +kernel

theorem witness_UwbAuxiliaryCompletes :
    ([
    holds (boss) fun s => quiet s && (admits .host 3 0x3060 0 (toLe 8 512 ++ [1, 3, 9, 9, 9]) s && !s.gate.quench && decide (s.auxOf
      .host < 4) && decide (s.bg.stage = 0) && !s.roundOver 0 (us 900)),
    holds (boss) fun s => quiet s && (admits .host 3 0x3061 0 (toLe 8 0 ++ toLe 2 10) s && decide (s.auxOf .host < 4) &&
      !s.roundOver 0 (us 900)),
    holds (State.tick 0 (aux0 (some ([1, 2, 3], false)))) fun s => (s.live && decide ((s.auxNext).map (fun x => (decide (x.who =
      .host), decide (x.at_ + x.dur ≤ s.now), x.tx.isSome)) = some (true, true, true)) && !s.armed .uwb 0 && !s.roundOver 0 (us
      100)),
    holds (State.tick 0 { aux0 (some ([1, 2, 3], true)) with rfc.uwb := ready0 }) fun s => (s.live && decide (s.rfc.uwb.st = .ready)
      && (s.auxNext).isSome && !s.roundOver s.now (s.now + us 100) && !s.atCeiling 1 0),
    holds (State.tick 0 (aux0 none)) fun s => (s.live && decide ((s.auxNext).map (fun x => x.tx.isNone) = some true) && !s.roundOver
      0 0)].all id) = true := by decide +kernel

theorem witness_TransceiverCommandsComplete :
    ([
    holds (boss) fun s => quiet s && (s.live && decide ((s.xc .uwb).st = .off) && !s.gate.quench && s.pwr.vsup && decide (s.bg.stage
      ≠ 4)),
    holds (State.tick 0 { boss with rfc.ble := { Xcvr.reset with st := .idle } }) fun s => (s.live && decide ((s.xc .ble).st =
      .idle) && (s.xc .ble).q.isEmpty && (s.xc .ble).run.isNone && decide ((s.xc .ble).since ≤ s.now)),
    holds (State.tick 0 { boss with now := us 150, rfc.ble := { Xcvr.reset with st := .settling } }) fun s => (s.live && decide
      ((s.xc .ble).st = .settling ∧ (s.xc .ble).since + us 150 ≤ s.now) && !(s.xc .ble).retry && (s.xc .ble).run.isNone),
    holds (State.tick 0 { boss with now := us 150, rfc.ble := { Xcvr.reset with st := .settling, retry := true } }) fun s => ((s.xc
      .ble).retry && (s.xc .ble).run.isNone && decide ((s.xc .ble).st = .settling)),
    holds (State.tick 0 { boss with rfc.ble := { Xcvr.reset with st := .rx }, rfc.uwb := { Xcvr.reset with st := .tx } }) fun s =>
      (s.live && decide ((s.xc .ble).st = .rx ∧ (s.xc .uwb).st = .tx) && (s.xc .uwb).q.isEmpty && decide ((s.boundary
      .bNextPacket).g 0x3202 (xcSub .uwb) ≠ 2)),
    holds (State.tick 0 { boss with now := secs 100, rfc.ble := { Xcvr.reset with st := .ready }, rfc.uwb := { Xcvr.reset with st := .idle } })
      fun s => (s.live && decide ((s.xc .ble).st = .ready ∧ (s.xc .ble).since + us (s.g 0x3203 0) ≤ s.now) && decide ((s.xc .uwb).st
      = .idle ∧ (s.xc .uwb).since + us (s.g 0x3204 0) ≤ s.now) && (s.xc .uwb).cals.isEmpty),
    holds (State.tick 0 { boss with rfc.ble := { Xcvr.reset with st := .ready, cals := [⟨1, 0⟩], forced := true } }) fun s =>
      (s.live && decide ((s.xc .ble).cals = [⟨1, 0⟩]) && (s.nextUse .ble).isNone && !s.inRound .ble && !s.gate.quench && (s.xc
      .ble).forced),
    holds (State.tick 0 { boss with rfc.ble := { Xcvr.reset with st := .settling, run := some (⟨0, 0⟩, 0) } }) fun s => (s.live &&
      decide ((s.xc .ble).run = some (⟨0, 0⟩, 0)) && calAccepted ⟨0, 0⟩ [] 20 && decide ((s.xc .ble).st = .settling) &&
      s.rfc.cmds.isEmpty),
    holds (boss) fun s => quiet s && (admits .host 3 0x3210 0 [0x11] s && !s.gate.quench && !s.calBusy 0x11)].all id) = true := by decide +kernel

theorem witness_BleLinkCommandsComplete :
    ([
    holds (State.tick 0 (withG { boss with rng.st := .seeded, ble.epoch := some 0, rfc.ble := { Xcvr.reset with st := .ready, chan := 37 }, now := us 50 }
      [(0x3258, 0, 0x100)])) fun s => (s.live && decide (s.ble.advAt ≤ s.now) && !s.gate.quench && decide (s.bg.stage ≠ 4) &&
      s.pwr.core && decide (s.advProfile ≠ 0) && decide (s.ble.epoch = some s.advEpoch) && s.armed .ble s.now && !s.atCeiling 2 0 &&
      s.oneAnt .ble),
    holds (boss) fun s => quiet s && (s.live && !s.gate.quench && s.pwr.core && decide ((s.boundary
      .bNextConnection).ble.conns.findIdx? Option.isNone = some 0) && decide (s.bleHeld < 7)),
    holds (State.tick 0 linked) fun s => (s.live && (s.conn 0).isSome && !s.gate.quench && s.pwr.core && !(s.boundary
      .bNextConnectionEvent).armed .ble s.now),
    holds (State.tick 0 { linked with now := secs 3600 }) fun s => (decide ((s.conn 0).map (fun x => (x.had, decide (x.at_ + secs
      (s.g 0x3106 0) ≤ s.now))) = some (false, true))),
    holds (State.tick 0 { talking with now := us 50, rfc.ble := { Xcvr.reset with st := .ready } }) fun s => (s.live && (s.conn
      0).isSome && (s.boundary .bNextConnectionEvent).armed .ble s.now && decide ((s.conn 0).map (·.param) = some false) && (s.sesOn
      (.ble 0)).isSome && !s.atCeiling 2 0),
    holds ({ boss with ble.boost := some 0 }) fun s => quiet s && (decide (s.ble.boost.map (fun d => decide (d ≤ s.now)) = some
      true))].all id) = true := by decide +kernel

/-- Engine 0 runs and owns the published characteristic 0, whose properties are set. -/
def charState : State := withG { running 0 with
  ble.chars := putAt up.ble.chars 0 ⟨0, [1, 2], [], true⟩, ble.conns := putAt up.ble.conns 0 (some { conn0 with cccd := [(0x23, 1)] }) }
  [(0x3140, 2, 0x0A), (0x3140, 4, 20)]
theorem witness_EngineCharacteristicsComplete :
    ([
    holds (running 0) fun s => quiet s && (admits (.engine 0) 3 0x3160 0 [] s && (List.range 16).all fun n => decide ((s.bleChar
      n).owner = 0xFF)),
    holds (State.tick 0 charState) fun s => (admits (.engine 0) 3 0x3161 0 [0, 1] s && decide ((s.bleChar 0).owner = engOf (.engine
      0)) && !s.gate.quench && decide (s.bg.stage = 0) && (s.conn 0).isSome && (s.bleChar 0).pub && bit (s.charProps 0) 3 && decide
      ((s.conn 0).map (fun x => (bit (x.cccdOf 0x23) 0, x.ntf.length)) = some (true, 0)) && !s.overShare 2 0 (us 1000)),
    holds (State.tick 0 charState) fun s => (admits (.engine 0) 3 0x3162 0 [0] s && admits (.engine 0) 3 0x3163 0 [0] s &&
      (s.bleChar 0).rxq.isEmpty),
    holds (State.tick 0 { charState with ble.chars := putAt up.ble.chars 0 ⟨0, [1, 2], [(0, [7])], true⟩ }) fun s => (admits
      (.engine 0) 3 0x3163 0 [0] s && decide ((s.bleChar 0).rxq = [(0, [7])]) && decide ((s.bleChar 0).owner = 0)),
    holds (State.tick 0 charState) fun s => (s.live && (s.conn 0).isSome && (s.bleChar 0).pub && bit (s.charProps 0) 1 && decide (1
      ≤ s.g 0x3140 4) && !s.bleManager),
    holds (State.tick 0 linked) fun s => (s.bleManager && (s.conn 0).isSome)].all id) = true := by decide +kernel

theorem witness_CapacitiveCommandsComplete :
    ([
    holds (withG { boss with now := secs 1 } [(0x3406, 0, 2)]) fun s => quiet s && (s.pwr.vaon && !s.pwr.held && !s.pwr.shut &&
      s.pwr.core && decide (s.cap.scanAt + s.scanPeriod ≤ s.now) && decide (0 < s.g 0x3406 0)),
    holds (withG { boss with now := secs 1, cap.ch := List.replicate 4 ⟨0, some 1000, false, 0, 0, 0, false⟩ } [(0x3406, 0, 2),
      (0x3400, 0, 0xF)]) fun s => quiet s && (s.pwr.core && decide ((((List.range 4).foldl (fun (s : State) n => if s.capOn n then
      (let r := s.capMeasure n 60000; if r.2 then { s.setCap n r.1 with cap.cross := (s.setCap n r.1).cap.cross ++ [n] } else
      s.setCap n r.1) else s) { s.boundary .bNextScan with cap.scanAt := s.now, cap.cross := [], cap.gang := false }).cap.cross).length
      = 4) && decide (s.g 0x3406 0 ≤ 4)),
    holds (withG { boss with cap.ch := [⟨0, some 1000, false, 1, 0, 0, false⟩, ⟨0, some 1000, false, 2, 0, 0, false⟩] } [(0x3400, 0,
      0xF), (0x3404, 0, 3)]) fun s => quiet s && (s.capOn 0 && s.capOn 1 && decide ((s.capCh 0).base.isSome ∧ (s.capCh 0).ovr + 1 <
      s.g 0x3404 0 ∧ s.g 0x3404 0 ≤ (s.capCh 1).ovr + 1 ∧ (s.capCh 0).due ≤ s.now) && !(s.capCh 0).touched && decide (((s.g 0x3402 1
      : Nat) : Rat) ≤ ((60000 : Nat) : Rat) - 1000) && decide (((1000 : Nat) : Rat) - 1000 < ((s.g 0x3402 1 : Nat) : Rat))),
    holds ({ boss with now := secs 60000, cap.ch := [⟨0, some 0, true, 0, 0, 0, false⟩] }) fun s => quiet s && ((s.capCh 0).touched
      && decide ((s.capCh 0).since + secs (s.g 0x3407 0) ≤ s.now)),
    holds (State.tick 0 { boss with rng.st := .seeded, bg.stage := 4, cap.held := [(0, 0)] }) fun s => (s.live && decide
      (s.cap.held.find? (fun h => h.1 = 0) = some (0, 0)) && s.clocksOk && decide (s.rng.st = .seeded) && !s.gate.quench && decide
      (s.pwr.phase = .ready) && s.hasAccess && decide (s.seg.role = .manager) && s.deciding),
    holds ({ boss with rng.st := .seeded, bg.stage := 4, gate.quench := true, cap.held := [(0, 0)] }) fun s => quiet s && (s.live &&
      s.gate.quench && s.clocksOk && decide (s.rng.st = .seeded))].all id) = true := by decide +kernel

/-- An LF exchange on channel 0. -/
def poll0 (k : LfKind) : LfEx := ⟨0, 0, k, none, [], 0⟩
def run0 (k : LfKind) (on back : Bool) : LfRun := ⟨poll0 k, zeros 8, 0, 0, on, none, false, back, false, 0, [], []⟩
/-- Half-cells that spell octets of zero. -/
def cells (n : Nat) : Halves := (List.replicate (8 * n) [some true, some false]).flatten
def lfState (r : LfRun) : State := { boss with lf.run := some r }
theorem witness_LfCommandsComplete :
    ([
    holds (State.tick 0 (withG { boss with rng.st := .seeded, lf.q := [poll0 .poll] } [(0x3101, 0, 0), (0x3300, 0, 0xF)])) fun s =>
      (s.live && s.lf.run.isNone && s.lf.diag.isNone && !s.gate.quench && decide (s.bg.stage ≠ 4) && s.pwr.core && s.clocksOk &&
      s.drawOk && s.lfUsable 0 && decide (clrBit (s.lfFaults 0) 3 = 0) && s.lfRoom 0 (s.lfPlan .poll) && (s.lfFrame (poll0 .poll)
      (zeros 8)).isSome),
    holds (withG (lfState (run0 .poll true false)) [(0x3303, 1, 100)]) fun s => quiet s && (s.live && decide (s.lf.run.map (·.meas)
      = some false) && decide (s.g 0x3303 1 ≤ 100 * 5)),
    holds ({ lfState { run0 .poll true false with seg1 := some (1, 2) } with now := us 500 }) fun s => quiet s && (s.live && decide
      (s.lf.run.map (fun r => (decide (r.dlEnd + us 500 ≤ s.now), r.back, r.seg1.isSome)) = some (true, false, true))),
    holds (lfState { run0 .poll true false with dlEnd := 1 }) fun s => quiet s && (s.live && decide (s.lf.run.map (fun r => (r.on,
      r.legacy, r.seg1.isNone, decide (s.now < r.dlEnd), r.replies)) = some (true, false, true, true, false)) && (lfOctets 8 (cells
      8)).isSome && (lfOctets 8 (cells 7)).isNone),
    holds (lfState (run0 .poll true true)) fun s => quiet s && (s.live && decide (s.lf.run.map (·.replies) = some true)),
    holds (lfState { run0 .poll true true with legacy := true }) fun s => quiet s && (s.live && decide (s.lf.run.map (fun r =>
      r.replies && r.legacy) = some true) && (lfOctets 14 (cells 14)).isSome && (lfOctets 14 (cells 8)).isNone),
    holds (lfState { run0 .poll true true with seg1 := some (1, 2) }) fun s => quiet s && (decide (s.lf.run.map (fun r => r.replies
      && r.seg1.isSome) = some true)),
    holds ({ lfState (run0 .uid true true) with acc.learn := some ⟨false, 1, .tok 0, secs 120, some ⟨1, 1, 1, 0, 1, 0, 5, 7, none, false, false⟩⟩ })
      fun s => quiet s && (s.live && decide (s.lf.run.map (fun r => r.replies) = some true) && (s.lfCarrierOff.lfOver (poll0 .uid)
      true).acc.learn.isSome),
    holds (withKey { lfState (run0 .key true true) with acc.learn := some ⟨false, 1, .tok 0, secs 120, some ⟨1, 1, 1, 0, 1, 0, 5, 7, some (zeros 8), false, false⟩⟩ }
      5 0x00300000 (zeros 16)) fun s => quiet s && (s.live && (s.lfCarrierOff.lfOver (poll0 .key) true).coilCheck (zeros 8) (cmac64
      (zeros 16) ([0x7C] ++ toLe 4 7 ++ zeros 8)) && !(s.lfCarrierOff.lfOver (poll0 .key) true).coilCheck (zeros 8) (zeros 8)),
    holds (boss) fun s => quiet s && (admits .host 3 0x330B 0 [3] s && s.has 19 && s.lf.run.isNone && s.lf.q.isEmpty &&
      s.lf.diag.isNone && !s.gate.quench)].all id) = true := by decide +kernel

/-- An activation of NFC port 0. -/
def act0 (ph : NfcPhase) (aw : Option Nat) : NfcAct := ⟨ph, 0, 0, 0, 0, none, false, false, false, 0, aw, 0, 0, []⟩
def card (a : NfcAct) : State := withG { boss with nfc.ports := putAt boss.nfc.ports 0 { boss.nfcPort 0 with act := some a } } [(0x3500, 0, 3)]
theorem witness_NfcReaderCommandsComplete :
    ([
    holds (withG { boss with now := secs 10 } [(0x3500, 0, 3), (0x350D, 0, 100)]) fun s => quiet s && (s.pwr.vaon && s.pwr.core &&
      s.nfcOn 0 && (s.nfcPort 0).act.isNone && (s.nfcPort 0).next.isNone && decide ((s.nfcPort 0).pingAt + ms (s.g 0x3501 0) ≤
      s.now) && decide (s.g 0x350D 0 < 65535) && (((s.boundary .bNextPing).bump 0x3511 1).limAdd 4 0 (us 20) false |>.nfcPort
      0).ref.isNone),
    holds (State.tick 0 (withG { boss with rng.st := .seeded, nfc.ports := [{ boss.nfcPort 0 with next := some (0, false) }, { boss.nfcPort 0 with next := some (0, true) }] }
      [(0x3101, 0, 0), (0x3500, 0, 3)])) fun s => (s.live && s.nfcOn 0 && s.deciding && s.clocksOk && s.drawOk && decide ((s.nfcPort
      0).next = some (0, false) ∧ (s.nfcPort 1).next = some (0, true)) && decide (clrBit (s.nfcFaults 0) 2 = 0) && decide (s.g
      0x3504 1 ≤ 65535 * 10) && decide ((s.nfcPort 0).cards = 0)),
    holds (State.tick 0 (withG { boss with rng.st := .seeded, nfc.ports := [{ boss.nfcPort 0 with cards := 1, next := some (0, false) }] }
      [(0x3101, 0, 0), (0x3500, 0, 3)])) fun s => (s.nfcOn 0 && s.deciding && s.drawOk && decide ((s.nfcPort 0).cards ≠ 0)),
    holds (card (act0 .guard none)) fun s => quiet s && (s.live && decide ((s.nfcPort 0).act.map (fun a => (decide (a.due ≤ s.now),
      a.wupa)) = some (true, 0)) && bit (s.g 0x3505 0) 0),
    holds (card (act0 .wake none)) fun s => quiet s && (s.live && decide ((s.nfcPort 0).act.map (·.phase) = some .wake)),
    holds (card (act0 .pps none)) fun s => quiet s && (s.live && decide ((s.nfcPort 0).act.map (·.phase) = some .pps)),
    holds (card (act0 .app none)) fun s => quiet s && (s.live && decide ((s.nfcPort 0).act.map (·.phase) = some .app)),
    holds ({ card (act0 .exchange (some 0)) with now := secs 2 }) fun s => quiet s && (s.live && decide ((s.nfcPort 0).act.map (fun
      a => (a.phase, a.await, a.xfer)) = some (.exchange, some 0, 0)) && decide (ms 1000 < s.now)),
    holds ({ card (act0 .exchange none) with now := secs 100 }) fun s => quiet s && (s.live && decide ((s.nfcPort 0).act.map (fun a
      => (decide (a.start + ms (s.g 0x3509 0) ≤ s.now), decide (a.lastAt + ms (s.g 0x350A 0) ≤ s.now), a.await.isNone)) = some
      (true, true, true)) && s.acc.tx.isEmpty),
    holds (withG boss [(0x3500, 0, 3)]) fun s => quiet s && (s.nfcOn 0 && s.has 7 && s.has 8 && admits .host 3 0x3513 0 [1] s)].all id) = true := by decide +kernel

/-- The tag in a reader's field, in a state; with an application selected in a transaction; with key 0 written. -/
def tagIn (st : TagSt) : State := withG { up with tag.st := st, tag.field := true, tag.keys := [some (zeros 16), none, none, none] } [(0x3602, 0, 1)]
def tagApp (a : Nat) : State := { tagIn .active with tag.txn := true, tag.app := a }
theorem witness_TagFieldCommandsComplete :
    ([
    holds ({ up with tag.st := .off }) fun s => quiet s && (s.has 9 && decide (s.tag.st = .off) && !s.tagIsolated),
    holds (up) fun s => quiet s && (decide (s.tag.st ≠ .off) && !s.tagIsolated),
    holds ({ up with tag.st := .recovering }) fun s => quiet s && (decide (s.tag.st = .recovering) && s.tag.stage.isNone),
    holds ({ up with tag.st := .recovering, tag.stage := some (3, [1], true) }) fun s => quiet s && (decide (s.tag.st = .recovering
      ∧ s.tag.stage = some (3, [1], true))),
    holds ({ tagIn .recovering with pwr.vaon := true }) fun s => quiet s && (s.tag.field && s.tag.wr.isNone && s.pwr.vaon && decide
      (s.tag.st = .recovering)),
    holds (tagIn .idle) fun s => quiet s && (s.tagHears && decide (s.tag.st = .idle) && s.tag.field && s.tag.wr.isNone),
    holds (tagIn .halt) fun s => quiet s && (s.tagHears && decide (s.tag.st = .halt)),
    holds (tagIn .ready) fun s => quiet s && (s.tagHears && decide (s.tag.st = .ready ∧ s.tag.casc = 0 ∧ (s.uidCl 1).length = 5 ∧
      (s.uidCl 2).length = 5)),
    holds (tagIn .active) fun s => quiet s && (s.tagHears && decide (s.tag.st = .active) && !s.tag.txn),
    holds (tagApp 1) fun s => quiet s && (s.tagHears && s.tag.txn && s.tag.wr.isNone && decide (s.tag.app = 1)),
    holds ({ tagApp 1 with tag.file := 2 }) fun s => quiet s && (s.tagHears && decide (s.tag.app = 1 ∧ s.tag.file = 2)),
    holds (tagApp 2) fun s => quiet s && (s.tagHears && decide (s.tag.app = 2) && decide (s.tag.keys.getD 0 none = some (zeros 16))
      && decide (s.tag.fails.getD 0 0 < 16) && s.tag.sess.isNone),
    holds ({ tagApp 2 with tag.auth := some (0, zeros 16) }) fun s => quiet s && (s.tagHears && decide (s.tag.auth = some (0, zeros
      16)) && decide ((cmac64 (zeros 16) ([0x01] ++ zeros 16 ++ zeros 16)).length = 8) && decide (cmac64 (zeros 16) ([0x01] ++ zeros
      16 ++ zeros 16) ≠ zeros 8)),
    holds ({ tagApp 2 with tag.ents := putAt up.tag.ents 4 (TagEnt.reset 4 0) }) fun s => quiet s && (s.tagHears && decide
      ((s.tagEnt 4).inForce.acl / 16 = 0 ∧ (s.tagEnt 4).inForce.acl % 16 = 0) && s.tag.sess.isNone),
    holds ({ up with tag.wr := some ⟨none, 4, 0, 0, [], false, []⟩ }) fun s => quiet s && (decide (s.tag.wr.map (·.host.isNone) =
      some true))].all id) = true := by decide +kernel

theorem witness_TagHostCommandsComplete :
    ([
    holds (up) fun s => quiet s && (admits .host 3 0x3612 0 ([1] ++ toLe 2 1 ++ [7]) s && admits .host 2 0x3611 2 [255] s && admits
      .host 3 0x3621 0 (toLe 2 2047 ++ [1]) s && admits .host 3 0x3632 0 [3] s),
    holds ({ up with tag.staged := true }) fun s => quiet s && (admits .host 3 0x3622 0 (toLe 2 2046) s && s.tag.staged),
    holds ({ up with tag.wr := some ⟨some .host, 4, 0, 0, [], false, []⟩ }) fun s => quiet s && (decide (s.tag.wr.map (·.host) =
      some (some .host)) && s.tag.defer.isNone)].all id) = true := by decide +kernel

/-- A wrapped key for the tag under the wrapping key of slot 108. -/
def tagBlob : Bytes := toBe 40 0x01006c00ffff0000c7435fbe37d78f9dadb320a358e5605eca6f50752eeaf20905cee182e55e6f55
theorem witness_TagHostCommandsComplete_key :
    ([
    holds (withKey up 108 0x00F00010 (zeros 16)) fun s => quiet s && (admits .host 2 0x3630 1 tagBlob s && (blobForm tagBlob
      0xFFFF).isNone && (s.kekCheck 4 108).isNone && decide ((kwUnwrap (zeros 16) (tagBlob.drop 8)).map (fun p => (leAt 4 2 p, bits
      (leAt 0 4 p) 20 4, bits (leAt 0 4 p) 14 2)) = some (0xFFFF, 0xA, 0)))].all id) = true := by decide +kernel

/-- A descriptor of an empty ECB request under the key of slot 40. -/
def desc40 : Bytes := [1, 0] ++ toLe 2 40 ++ toLe 2 0xFFFF ++ zeros 58
/-- A request of the host's page that runs, and one that passed its last block. -/
def cxReq (n : Nat) : CxReq := ⟨n, desc40, true, zeros 16, [], 1, 0, 1, [], [], true, 0, 0, none, false⟩
theorem witness_CipherComplexCommandsComplete :
    ([
    holds (withG (withKey drawing 40 0x00140003 (zeros 16)) [(0x1502, 41, 4)]) fun s => quiet s && (admits .host 3 0x1410 0 desc40 s
      && decide (s.cxState ≠ 0) && decide (s.cxCheck 4 desc40 = none) && decide (((s.cxPage 4).seq + 1) % 65536 = 1)),
    holds ({ drawing with cx.pages := putAt drawing.cx.pages 4 ⟨[], 1, [(true, [1])]⟩ }) fun s => quiet s && (admits .host 3 0x1411
      0 [] s && decide ((s.cxPage (pageOf .host)).recs = [(true, [1])])),
    holds ({ drawing with cx.cores := putAt drawing.cx.cores 0 ⟨some (4, 1), 0, 0, []⟩, cx.pages := putAt drawing.cx.pages 4 ⟨[cxReq 1], 1, []⟩ })
      fun s => quiet s && (s.live && decide ((s.cx.cores[0]?).map (fun k => (k.cur, decide (k.due ≤ s.now ∧ k.blocks < 32767))) =
      some (some (4, 1), true)) && decide ((((({ s with cx.cores := putAt s.cx.cores 0 ⟨none, 0, 1, []⟩ } : State).cxUse 3 1).modReq
      4 1 fun r => { r with done := r.done + 1, busy := r.busy - 1 }).cxPage 4).req 1 |>.isSome)),
    holds ({ drawing with cx.pages := putAt drawing.cx.pages 4 ⟨[{ cxReq 1 with done := 1, busy := 0 }], 1, []⟩ }) fun s => quiet s
      && (s.live && decide ((s.cxPage 4).reqs.map (·.ovr) = [true]))].all id) = true := by decide +kernel

/-- A blob that the host's wrapping key of slot 41 carries into slot 40. -/
def blob40 : Bytes := toBe 40 0x0100290028000000d01e9087764b32e789fd3b6bd343d229ad7074ad98cc1c87c6b30043534be66f
def keyed : State := withG (withKey (withKey drawing 41 0x00240010 (zeros 16)) 40 0x0014010C (zeros 16)) [(0x1502, 41, 4), (0x1502, 42, 4)]
theorem witness_KeyStoreCommandsComplete :
    ([
    holds (keyed) fun s => quiet s && (admits .host 3 0x1520 0 (toLe 2 40 ++ blob40) s && s.keys.waits.isEmpty &&
      s.rng.waiting.isEmpty && !s.mirrorOnly 40 && (blobForm blob40 40).isNone && (s.targetCheck .host 40).isNone && (s.kekCheck
      (kekPage .host) 41).isNone && decide ((kwUnwrap ((s.slotKey 41).getD []) (blob40.drop 8)).map (fun p => (leAt 4 2 p, leAt 6 2
      p, bits (leAt 0 4 p) 14 2 == byteAt 1 blob40, s.attrOk 40 (leAt 0 4 p), bits (leAt 0 4 p) 20 4)) = some (40, 0, true, true,
      1)) && decide (s.seg.role ≠ .standby) && decide (keyTarget 0x1520 (toLe 2 40 ++ blob40) = 40)),
    holds (keyed) fun s => quiet s && (!((((s.loadSlot 40 0x00140004 (zeros 16)).bump 0x1530 1).logKey 40 0x1520).mirrors 40)),
    holds ({ keyed with seg.cfg := 2, seg.role := .manager, keys.slots := putAt keyed.keys.slots 40 ⟨.loaded, 0x0014030C, 1, zeros 16, 1, none⟩ })
      fun s => quiet s && (((((s.loadSlot 40 0x00140204 (zeros 16)).bump 0x1530 1).logKey 40 0x1520).mirrors 40)),
    holds (keyed) fun s => quiet s && (admits .host 3 0x1521 0 (toLe 2 40 ++ toLe 4 0x00140004) s && (s.genCheck .host 40
      0x00140004).isNone && decide (s.rng.st = .seeded) && s.drawOk && !(((s.loadSlot 40 0x00140004 (zeros 16))).logKey 40
      0x1521).mirrors 40),
    holds (keyed) fun s => quiet s && (admits .host 3 0x1522 0 (toLe 2 40 ++ toLe 2 42 ++ toLe 4 0x00140004 ++ [1, 7, 0]) (withG s
      [(0x1502, 43, 4)]) && decide ((withG s [(0x1502, 43, 4)]).slotOwner 40 = (withG s [(0x1502, 43, 4)]).slotOwner 42) &&
      s.slotUse 40 3 && decide (s.slotKind 40 ≠ 9) && decide (s.slotSt 40 = .loaded) && (s.targetCheck .host 42).isNone && (withG s
      [(0x1502, 43, 4)]).attrOk 42 0x00140004 && !(s.mirrors 42)),
    holds (keyed) fun s => quiet s && (admits .host 3 0x1523 0 (toLe 2 40 ++ toLe 2 41) s && decide (s.slotSt 40 = .loaded) &&
      s.slotUse 40 8 && (s.kekCheck (kekPage .host) 41).isNone),
    holds (keyed) fun s => quiet s && (admits .host 3 0x1524 0 (toLe 2 43) s && decide (s.slotSt 43 = .empty) && admits .host 3
      0x1524 0 (toLe 2 40) s && decide (s.slotSt 40 = .loaded) && decide (s.slotKind 40 ≠ 3) && !s.mirrors 40 && !s.mirrorOnly 40),
    holds ({ keyed with seg.cfg := 2, seg.role := .manager, keys.slots := putAt keyed.keys.slots 40 ⟨.loaded, 0x0014030C, 1, zeros 16, 1, none⟩ })
      fun s => quiet s && (s.mirrors 40 && admits .host 3 0x1524 0 (toLe 2 40) s && decide (s.slotSt 40 = .loaded)),
    holds (keyed) fun s => quiet s && (admits .host 3 0x1525 0 (toLe 2 40) s && admits .host 3 0x1526 0 (toLe 2 0x5A5A) s),
    holds (keyed) fun s => quiet s && (decide (s.keys.zeroAll = none)),
    holds ({ keyed with keys.zeroAll := some .host, keys.zeroing := [40] }) fun s => quiet s && (decide (s.keys.zeroAll = some .host
      ∧ s.keys.zeroing = [40]))].all id) = true := by decide +kernel

/-- A pair on a Wairil link that is up, its twin key in slot 50; a twin frame of node 1 in it. -/
def pair (r : SegRole) (n : Nat) : State := withG (withKey { drawing with
  seg.cfg := 2, seg.role := r, seg.node := n, net.wl := 2, twin.rx := 0 } 50 0 (zeros 16)) [(0x4301, 0, 50)]
def pairFrame (s : State) (sub : Nat) (body : Bytes) : Bytes := segPayload (zeros 16) sub s.nodeAddr (s.addrOf s.peerNode) 1 body
theorem witness_KeyStoreCommandsComplete_mirror :
    ([
    holds (pair .standby 1) fun s => quiet s && (s.wakeHas 9 && s.pwr.core && s.live && decide ((s.twinIn subKeyMirror (pairFrame s
      0x2B [40, 0])).1 = some [40, 0]) && decide (s.seg.role = .standby)),
    holds (pair .manager 0) fun s => quiet s && (s.wakeHas 9 && s.pwr.core && s.live && decide ((s.twinIn subKeyMirror (pairFrame s
      0x2B [40, 0, 1, 0])).1 = some [40, 0, 1, 0]) && decide (s.seg.role = .manager))].all id) = true := by decide +kernel

theorem witness_EntropyCommandsComplete :
    ([
    holds (drawing) fun s => quiet s && (s.live && s.cksOn),
    holds ({ drawing with rng.srcs := putAt drawing.rng.srcs 0 ⟨.startup, 3, [], 0⟩ }) fun s => quiet s && (s.live && decide
      ((s.source 0).st = .startup) && assayOk 0 (List.replicate 128 0x55) && !assayOk 0 (zeros 128) && decide (((((!false) ::
      (s.source 0).hist).take 32).filter id).length < 4)),
    holds ({ drawing with now := secs 1, rng.pool := [(0, [1]), (2, [2]), (2, [3])] }) fun s => quiet s && (s.live && !s.gate.quench
      && decide (s.rng.st = .seeded) && decide (s.rng.seedAt + ms (s.g 0x1308 0) ≤ s.now) && (pickSeed false s.rng.pool).isSome &&
      decide (s.rng.seedAt + secs 1 ≤ s.now)),
    holds ({ drawing with rng.waiting := [(.random .host, 0)] }) fun s => quiet s && (decide ((nextGen s.rng.waiting).map (·.1) =
      some (.random .host)) && s.drawOk),
    holds (drawing) fun s => quiet s && (s.drawOk && admits .host 1 0x1320 0 [] s)].all id) = true := by decide +kernel

theorem witness_EngineArithmeticCompletes :
    ([
    holds (up) fun s => quiet s && ((List.range 0x17).tail.all (fun o => issuesNow (o * 2 ^ 22) o (running (o * 2 ^ 22)) && quiet
      (running (o * 2 ^ 22)))),
    holds (up) fun s => quiet s && ([0x18, 0x19, 0x1A].all (fun o => issuesNow (o * 2 ^ 22 + 2 ^ 19) o (running (o * 2 ^ 22 + 2 ^
      19))) && issuesNow (0x3E * 2 ^ 22) 0x3E (running (0x3E * 2 ^ 22))),
    holds ({ up with eng.es := putAt up.eng.es 0 { Engine.reset with mul := [(0, 5)] } }) fun s => quiet s && (s.live && decide (0 <
      engCount s.fuse.variant) && decide ((s.engine 0).mul = [(0, 5)]))].all id) = true := by decide +kernel

/-- An engine that runs the word w and may use mailbox page 0; one with a word of memory set. -/
def runningAt (w : Nat) (r : Word32) : State :=
  { running w with eng.es := putAt up.eng.es 0 { (running w).engine 0 with g := r :: List.replicate 15 0, mbxR := 1, mbxW := 1 } }
theorem witness_EngineMemoryCompletes :
    ([
    holds (up) fun s => quiet s && ([0x20, 0x21, 0x22, 0x23, 0x24, 0x25, 0x28, 0x29, 0x38, 0x39].all (fun o => issuesNow (o * 2 ^
      22) o (running (o * 2 ^ 22))) && decide ((((running 0).engine 0).reg 0 + iS14 0).toNat = 0)),
    holds (runningAt (0x20 * 2 ^ 22) 0x10000) fun s => quiet s && (issuesNow (0x20 * 2 ^ 22) 0x20 s && decide (((s.engine 0).reg 0 +
      iS14 0).toNat = 0x10000) && bit (s.engine 0).mbxR 0 && bit (s.engine 0).mbxW 0),
    holds (runningAt (0x23 * 2 ^ 22) 0x1FFFC) fun s => quiet s && (issuesNow (0x23 * 2 ^ 22) 0x23 s && decide (((s.engine 0).reg 0 +
      iS14 0).toNat + 4 ≤ 0x20000)),
    holds (up) fun s => quiet s && ([0, 1, 2, 3, 4, 5, 6, 7].all (fun i => issuesNow (0x38 * 2 ^ 22 + i * 2 ^ 14) 0x38 (running
      (0x38 * 2 ^ 22 + i * 2 ^ 14))) && [0, 1, 2, 5].all (fun i => issuesNow (0x39 * 2 ^ 22 + i * 2 ^ 18) 0x39 (running (0x39 * 2 ^
      22 + i * 2 ^ 18)))),
    holds (up) fun s => quiet s && ([0x26, 0x27].all (fun o => issuesNow (o * 2 ^ 22) o (running (o * 2 ^ 22)) && issuesNow (o * 2 ^
      22 + 512) o (running (o * 2 ^ 22 + 512))) && decide (bits 512 9 1 = 1) && decide (leNat (memRead ((running 0).engine 0).data 0
      2) = 0)),
    holds ({ up with eng.es := putAt up.eng.es 0 { Engine.reset with acc := some ⟨0, 0, 0, 8, 0, [], some (0, 0, [1, 2])⟩ } }) fun s
      => quiet s && (s.live && decide ((s.engine 0).acc = some ⟨0, 0, 0, 8, 0, [], some (0, 0, [1, 2])⟩) && (s.engine
      0).halt.isNone),
    holds ({ up with eng.es := putAt up.eng.es 0 { Engine.reset with acc := some ⟨0, 0, 0, 8, 0, [], some (Rc.denied, 0, [])⟩ } })
      fun s => quiet s && (s.live && decide ((s.engine 0).acc = some ⟨0, 0, 0, 8, 0, [], some (Rc.denied, 0, [])⟩) && decide
      (Rc.denied ≠ 0))].all id) = true := by decide +kernel

/-- An engine that waits for events, with a deadline; one that holds a return address; one that trapped and starts again. -/
def awaiting : State := { running 0 with eng.es := putAt up.eng.es 0 { (running 0).engine 0 with st := .waiting, wait := some ⟨1, 2, some 0⟩, evt := 2 } }
def returning : State := { running (0x32 * 2 ^ 22) with eng.es := putAt up.eng.es 0 { (running (0x32 * 2 ^ 22)).engine 0 with ret := [8] } }
def broken : State := withG { running 0 with eng.dbg := ⟨none, true, 0, []⟩, eng.es := putAt up.eng.es 0 { (running 0).engine 0 with image := some ⟨0, 4, 0, 0, zeros 16, [], []⟩, brk := [some 0, none, none, none] } } [(0x5050, 0, 1)]
theorem witness_EngineFlowCompletes :
    ([
    holds (up) fun s => quiet s && ([0x30, 0x31, 0x33, 0x34, 0x3A, 0x3C, 0x3D].all (fun o => issuesNow (o * 2 ^ 22) o (running (o *
      2 ^ 22))) && decide (((running 0).engine 0).ret.length < 8 ∧ 0 < ((running 0).engine 0).codeLen ∧ ((running 0).engine 0).evt
      &&& 0 = 0)),
    holds (returning) fun s => quiet s && (issuesNow (0x32 * 2 ^ 22) 0x32 s && decide ((s.engine 0).ret = [8] ∧ 8 < (s.engine
      0).codeLen)),
    holds (up) fun s => quiet s && (issuesNow (0x35 * 2 ^ 22 + 3) 0x35 (running (0x35 * 2 ^ 22 + 3)) && decide ((0x35 * 2 ^ 22 + 3)
      % 2 ^ 16 ≠ 0) && issuesNow (0x36 * 2 ^ 22) 0x36 (running (0x36 * 2 ^ 22))),
    holds ({ running (0x36 * 2 ^ 22) with eng.es := putAt up.eng.es 0 { (running (0x36 * 2 ^ 22)).engine 0 with g := 5 :: List.replicate 15 0, evt := 4 } })
      fun s => quiet s && (issuesNow (0x36 * 2 ^ 22) 0x36 s && decide (((s.engine 0).reg 0).toNat % 65536 = 5) && decide ((s.engine
      0).evt &&& ((s.engine 0).reg 0 &&& 0x03FFFFFF) ≠ 0)),
    holds ({ running (0x3B * 2 ^ 22) with eng.es := putAt up.eng.es 0 { (running (0x3B * 2 ^ 22)).engine 0 with g := 5 :: List.replicate 15 0 } })
      fun s => quiet s && (issuesNow (0x3B * 2 ^ 22) 0x3B s && decide ((s.engine 0).reg (iRb (0x3B * 2 ^ 22)) ≠ 0) && decide
      ((s.engine 0).evt &&& ((s.engine 0).reg 0 &&& 0x03FFFFFF) = 0)),
    holds (running 0) fun s => quiet s && (s.mayIssue 0 && decide (s.fetched 0 = 0) && !opcodeKnown (iOp 0) && decide ((s.engine
      0).pc + 4 ≤ (s.engine 0).codeLen)),
    holds (awaiting) fun s => quiet s && (s.live && s.pwr.core && decide ((s.engine 0).wait.map (fun x => (decide ((s.engine 0).evt
      &&& x.mask ≠ 0), x.dead.map fun d => decide (d ≤ s.cyc))) = some (true, some true)) && decide ((s.engine 0).st = .waiting)),
    holds ({ running 0 with now := secs 60 }) fun s => quiet s && (s.live && decide ((s.engine 0).st = .running) && decide
      ((s.engine 0).wdt + ms (s.g 0x5007 1) ≤ s.now)),
    holds (broken) fun s => quiet s && (s.live && (s.engine 0).acc.isNone && s.pwr.core && s.atBreak 0),
    holds ({ up with eng.es := putAt up.eng.es 0 { Engine.reset with st := .trapped, again := some 0 } }) fun s => quiet s &&
      (s.live && decide ((s.engine 0).again = some 0 ∧ (s.engine 0).st = .trapped))].all id) = true := by decide +kernel

/-- An engine with an image of four bytes of code; the smallest image and its load, complete. -/
def stopped : State := { up with eng.es := putAt up.eng.es 0 { Engine.reset with st := .stopped, image := some ⟨0, 0, 0, 0, zeros 4, [], []⟩ } }
def imageHead : Bytes := [0x43, 0x48, 0x51, 0x01, 1, 0, 0, 0] ++ toLe 4 1 ++ toLe 2 4 ++ zeros 34
def image0 : Bytes := imageHead ++ cmac (zeros 16) (imageHead ++ zeros 4) ++ zeros 4
def loading : State := withG (withKey { up with eng.load := some ⟨.host, 0, 68, image0, 0, none⟩ } 60 0x00140004 (zeros 16)) [(0x500A, 0, 60), (0x1502, 61, 4)]
theorem witness_EngineControlCommandsComplete :
    ([
    holds (stopped) fun s => quiet s && ((s.engine 0).startable.isSome && decide ((s.engine 0).st = .stopped) && (s.engine
      0).acc.isNone && admits .host 3 0x5002 0 [0, 1] s && admits .host 3 0x5002 0 [0, 2] s && admits .host 3 0x5002 0 [0, 3] s),
    holds ({ stopped with eng.es := putAt up.eng.es 0 { stopped.engine 0 with acc := some ⟨0, 0, 0, 8, 0, [], none⟩ } }) fun s =>
      quiet s && ((s.engine 0).acc.isSome && (s.engine 0).startable.isSome && admits .host 3 0x5002 0 [0, 2] s),
    holds (up) fun s => quiet s && (s.eng.load.isNone && admits .host 3 0x5010 0 (0 :: toLe 4 68) s && admits .host 3 0x5010 0 (0 ::
      toLe 4 50752) s),
    holds ({ loading with eng.load := some ⟨.host, 0, 68, [], 0, none⟩ }) fun s => quiet s && (admits .host 3 0x5011 0 (toLe 4 0 ++
      [1, 2]) s && admits .host 3 0x5013 0 [] s),
    holds (loading) fun s => quiet s && (admits .host 3 0x5012 0 [] s && decide ((s.engine 0).st = .empty) && decide (image0.length
      = 68) && imageOk 0 image0 && decide (s.slotSt 60 = .loaded ∧ s.slotKind 60 = 1 ∧ s.slotOwner 60 = 4) && s.slotUse 60 2 &&
      decide (cmac ((s.slotKey 60).getD []) (imageMacced image0) = slice 48 16 image0) && decide (s.g 0x5008 1 ≤ (imageOf
      image0).version)),
    holds ({ loading with now := secs 10 }) fun s => quiet s && (s.live && decide (s.eng.load.map (fun l => decide (l.at_ + secs 10
      ≤ s.now)) = some true)),
    holds ({ loading with eng.load := some ⟨.host, 0, 68, image0, 0, some (imageOf image0)⟩ }) fun s => quiet s && (s.live && decide
      (s.eng.load.map (fun l => l.img) = some (some (imageOf image0)))),
    holds (up) fun s => quiet s && (admits .host 3 0x5023 0 (0 :: toLe 4 7) s && decide ((s.engine 0).bell.length < 4)),
    holds ({ running 0 with eng.es := putAt up.eng.es 0 { (running 0).engine 0 with bell := [7], ow := [(0x5100, 1)] } }) fun s =>
      quiet s && (admits (.engine 0) 3 0x5024 0 [] s && admits (.engine 0) 3 0x5025 0 [] s && decide ((s.engine 0).bell = [7] ∧
      (s.engine 0).ow = [(0x5100, 1)])),
    holds (withG up [(0x5035, 0, 1), (0x5030, 1, 0)]) fun s => quiet s && (!s.pwr.held && !s.pwr.shut && s.pwr.core && !bit
      s.eng.gpin 0 && decide (bits (s.g 0x5035 0) 0 2 = 1) && decide (s.g 0x5030 1 = 0))].all id) = true := by decide +kernel

/-- A debug frame: command, engine and data with their CRC; a part whose debug port is open over a debuggable engine. -/
def dbgF (c n : Nat) (d : Bytes) : Bytes := let b : Bytes := [BitVec.ofNat 8 c, BitVec.ofNat 8 n] ++ d; b ++ toLe 2 (crc16 b)
def debugged (st : EngSt) : State :=
  let e := { (running (0x3E * 2 ^ 22)).engine 0 with st := st, image := some ⟨0, 4, 0, 0, zeros 16, [], []⟩ }
  withG { running (0x3E * 2 ^ 22) with eng.dbg := ⟨none, true, 0, []⟩, eng.es := putAt up.eng.es 0 e } [(0x5050, 0, 1)]
theorem witness_DebugPortCommandsComplete :
    ([
    holds (drawing) fun s => quiet s && (s.live && decide (s.eng.dbg.wrong < 3) && decide (dbgIn 0x01 (dbgF 1 0 []) = some (0, []))
      && s.drawOk),
    holds (withG { withKey drawing 61 0x00140004 (zeros 16) with eng.dbg := ⟨some (zeros 16), false, 0, []⟩ } [(0x5051, 0, 61)]) fun
      s => quiet s && (s.live && decide (dbgIn 0x02 (dbgF 2 0 (zeros 8)) = some (0, zeros 8)) && (s.slotKey (s.g 0x5051 0)).isSome
      && s.eng.dbg.chal.isSome && decide (zeros 8 ≠ (cmac (zeros 16) (0x44 :: zeros 16 ++ s.fuse.serial)).take 8)),
    holds (debugged .running) fun s => quiet s && (s.live && s.eng.dbg.open_ && decide (s.g 0x5050 0 ≠ 0) && bit (((s.engine
      0).image.map Image.options).getD 0) 2 && decide (dbgIn 0x10 (dbgF 0x10 0 []) = some (0, [])) && decide ((s.engine 0).st =
      .running)),
    holds (debugged .debugHalt) fun s => quiet s && (s.live && decide (dbgIn 0x11 (dbgF 0x11 0 []) = some (0, [])) && decide (dbgIn
      0x12 (dbgF 0x12 0 []) = some (0, [])) && decide ((s.engine 0).st = .debugHalt) && (s.engine 0).wait.isNone && (s.engine
      0).acc.isNone && decide ((((s.setEngine 0 { s.engine 0 with st := .running, wdt := 0 }).dbgExec 0).engine 0).st = .running)),
    holds (debugged .running) fun s => quiet s && (decide (dbgIn 0x13 (dbgF 0x13 0 []) = some (0, [])) && decide (dbgIn 0x14 (dbgF
      0x14 0 [0, 1, 2, 3, 4]) = some (0, [0, 1, 2, 3, 4])) && decide (dbgIn 0x14 (dbgF 0x14 0 [25, 4, 0, 0, 0]) = some (0, [25, 4,
      0, 0, 0])) && s.eng.dbg.open_),
    holds (debugged .running) fun s => quiet s && (decide (dbgIn 0x15 (dbgF 0x15 0 ([0] ++ toLe 4 0 ++ toLe 2 16)) = some (0, [0, 0,
      0, 0, 0, 16, 0])) && (s.engine 0).dbgSpan 0 0 16 false && (s.engine 0).dbgSpan 1 0 256 false && (s.engine 0).dbgSpan 0 12 4
      true && (s.engine 0).dbgSpan 1 0x3FFC 4 true && decide (dbgIn 0x16 (dbgF 0x16 0 ([1] ++ toLe 4 0 ++ toLe 2 4 ++ zeros 4)) =
      some (0, [1, 0, 0, 0, 0, 4, 0] ++ zeros 4))),
    holds (debugged .running) fun s => quiet s && (decide (dbgIn 0x17 (dbgF 0x17 0 [3, 0xFF, 0xFF]) = some (0, [3, 0xFF, 0xFF])) &&
      decide (dbgIn 0x17 (dbgF 0x17 0 [0, 0xFC, 0x7F]) = some (0, [0, 0xFC, 0x7F])) && decide (leAt 1 2 ([0, 0xFC, 0x7F] : Bytes) =
      0x7FFC))].all id) = true := by decide +kernel

/-- A transmit argument for CAN 0, and a frame in the queue of CAN 0. -/
def canArg : Bytes := [0, 0, 0, 0] ++ toLe 4 0x123 ++ zeros 6 ++ toLe 2 1 ++ zeros 12 ++ [7]
def canTx0 : CanTx := ⟨3, some .host, 1, 0, 0, 0, 0x123, 0, 0, [7], 0, 0⟩
theorem witness_CanCommandsComplete :
    ([
    holds (bus) fun s => quiet s && (s.wakeHas 6 && s.wakeHas 7 && s.pwr.core && s.canHears 0 0 && s.canHears 0 3 && !s.immoTakes 0
      ⟨0, 0, 0, 0x123, 0, 0, [7]⟩ && !s.canDictOn 0 0x123),
    holds (withG bus [(0x4001, 2, 1)]) fun s => quiet s && (s.canHears 1 0),
    holds (bus) fun s => quiet s && (decide (canArg.length = 28 + leAt 14 2 canArg) && decide ((canParse canArg).map (fun p => (p.1,
      p.2.fmt, p.2.id, p.2.time)) = some (0, 0, 0x123, 0)) && s.has 5 && decide (s.canMode 0 ≠ 0) && canFmtOk (s.canMode 0) 0 &&
      !s.idReserved 0 0x123 && decide ((s.canCtl 0).q.length < 16) && admits .host 3 0x4018 0 canArg s),
    holds ({ bus with net.rxq := putAt bus.net.rxq (rxIx .host) ⟨[[1]], false, [[2]], false, [[3]], 0⟩ }) fun s => quiet s &&
      (admits .host 3 0x4019 0 [] s && admits .host 3 0x4030 0 [] s && admits .host 3 0x402A 0 [] s && decide ((s.rxq (rxIx
      .host)).can = [[1]] ∧ (s.rxq (rxIx .host)).done = [[3]] ∧ (s.rxq (rxIx .host)).eth = [[2]])),
    holds ({ bus with net.can := [{ CanCtl.reset with st := 1, q := [canTx0] }, { CanCtl.reset with st := 2 }] }) fun s => quiet s
      && (s.live && decide ((s.canCtl 0).st = 1 ∧ (s.canCtl 1).st = 2) && decide ((s.canCtl 0).front 0 = some canTx0) && decide
      (((s.modCan 0 fun k => { k with tec := k.tec + 8 }.settle).canCtl 0).tec < 256) && decide (((s.modCan 0 fun k => { k with rec_ := min (k.rec_ + 1) 65535 }.settle).canCtl
      0).tec < 256)),
    holds (bus) fun s => quiet s && (s.live && s.has 5 && s.has 6 && admits .host 3 0x4008 0 [0] s && admits .host 3 0x4008 0 [1] s)].all id) = true := by decide +kernel

theorem witness_EthernetAndLinkCommandsComplete :
    ([
    holds (bus) fun s => quiet s && (s.wakeHas 8 && s.pwr.core && decide (s.net.t1s ≠ 0) && s.cksOn && !s.pwr.held && s.gate.vio &&
      s.macTakes (List.replicate 6 0xFF)),
    holds (bus) fun s => quiet s && (decide ((zeros 12 ++ toLe 2 0x88B6 ++ zeros 14 ++ toLe 2 1 ++ [9] : Bytes).length = 30 + leAt
      28 2 (zeros 12 ++ toLe 2 0x88B6 ++ zeros 14 ++ toLe 2 1 ++ [9])) && decide (leAt 12 2 (zeros 12 ++ toLe 2 0x88B6 ++ zeros 14
      ++ toLe 2 1 ++ [9]) = 0x88B6) && admits .host 3 0x4029 0 (zeros 12 ++ toLe 2 0x88B6 ++ zeros 14 ++ toLe 2 1 ++ [9]) s &&
      decide (s.net.eth.length < 16)),
    holds ({ bus with net.eth := [⟨4, some .host, 1, zeros 6, 0x88B6, [9], 0, 0⟩] }) fun s => quiet s && (s.live && s.t1sHears &&
      decide ((s.ethFront).map (·.etype) = some 0x88B6)),
    holds ({ bus with net.t1s := 1, net.eth := [⟨4, some .host, 1, zeros 6, 0x88B6, [9], 0, 0⟩] }) fun s => quiet s && (s.live &&
      s.t1sHears && s.ethFront.isSome && decide (s.net.t1s = 1)),
    holds (bus) fun s => quiet s && (decide (s.net.t1s = 2) && (s.wlFills 3).wlHere && decide ((s.wlFills 3).net.wl = 2)),
    holds ({ bus with net.wl := 1 }) fun s => quiet s && ((s.wlFills 0).wlHere && decide ((s.wlFills 0).net.wl = 1)),
    holds ({ bus with net.wl := 0 }) fun s => quiet s && (s.wlHere && s.wakeHas 9 && s.pwr.core && decide (s.net.wl = 0)),
    holds ({ bus with log.sector := some (4, false) }) fun s => quiet s && (s.live && decide (s.log.sector = some (4, false)))].all id) = true := by decide +kernel

theorem witness_DomainTimeCommandsComplete :
    ([
    holds (up) fun s => quiet s && (t96Ok 5 && t96Ok (999999999 * 2 ^ 16) && !t96Ok (1000000000 * 2 ^ 16) && admits .host 3 0x4106 0
      (toLe 12 5 ++ [0]) s && decide ((ofT96 5 : Int) ≤ (s.g 0x4111 0 : Int) * 1000000 * nsU)),
    holds (up) fun s => quiet s && (t96Ok (2 ^ 50) && admits .host 3 0x4106 0 (toLe 12 (2 ^ 50) ++ [1]) s && decide ((s.g 0x4111 0 :
      Int) * 1000000 * nsU < (ofT96 (2 ^ 50) : Int))),
    holds (up) fun s => quiet s && (admits .host 3 0x4107 0 (toLe 12 (2 ^ 60)) s && decide (s.domain ≤ ofT96 (2 ^ 60))),
    holds (withG up [(0x4104, 0, 1)]) fun s => quiet s && (admits .host 3 0x4108 0 (toLe 4 (toTwos 32 (-5))) s && decide (s.g 0x4104
      0 = 1) && decide ((5 : Nat) < s.g 0x4110 0)),
    holds ({ up with time.held := 7 }) fun s => quiet s && (admits .host 3 0x4109 0 (toLe 12 1) s && decide (s.time.held ≠ 0 ∧
      s.time.held ≤ ofT96 1) && t96Ok 1),
    holds (up) fun s => quiet s && (admits .host 2 0x4128 0 (toLe 4 (toTwos 32 (-1))) s),
    holds ({ up with time.base := secU }) fun s => quiet s && (s.live && decide (s.tpins.ppsSec < s.domain / secU ∧ s.tpins.stepSec
      < s.domain / secU) && !bit (s.g 0x4138 0) 0),
    holds (withG { up with time.base := secU, time.qual := 2 } [(0x4138, 0, 5)]) fun s => quiet s && (bit (({ s with tpins.ppsSec := 1 }
      : State).engEvAll 22 |>.g 0x4138 0) 0 && bit (s.g 0x4138 0) 2 && decide (s.time.qual = 2) && decide (s.tpins.ppsSec < s.domain
      / secU)),
    holds ({ up with tpins.pps := true }) fun s => quiet s && (s.live && s.tpins.pps && decide (s.tpins.ppsDue ≤ s.now)),
    holds (withG up [(0x4130, 1, 1), (0x4130, 2, 2)]) fun s => quiet s && (s.live && bit (s.g 0x4130 1) 0 && !bit (s.g 0x4130 1) 2
      && bit (s.g 0x4130 2) 1),
    holds ({ up with now := secs 10, time.port := 3, time.syncAt := some 0 }) fun s => quiet s && (s.live && decide (s.time.port =
      3) && s.time.syncAt.isSome && !s.syncPresent && !s.time.tsSrc),
    holds ({ up with now := secs 61, time.qual := 3 }) fun s => quiet s && (s.live && decide (s.time.holdAt + secs (s.g 0x4116 0) <
      s.now))].all id) = true := by decide +kernel

/-- A part on its segment's bus whose gPTP port is a slave's. -/
def slave : State := { bus with time.port := 3, time.sync := some ⟨4, 0⟩, time.preq := some ⟨5, 0⟩, time.presp := some (0, 0) }
def pv (b : Nat) : Bytes := toLe 1 b ++ zeros 5 ++ List.replicate 8 1 ++ zeros 2 ++ List.replicate 8 1 ++ zeros 2
theorem witness_GptpMessagesComplete :
    ([
    holds (slave) fun s => quiet s && (s.wakeHas 8 && s.pwr.core && s.t1sHears && decide ((s.bump 0x4027 1).time.port = 3) && decide
      ((s.bump 0x4027 1).time.sync.map (·.seq) = some 4) && decide ((s.bump 0x4027 1).time.preq.map (·.seq) = some 5) && decide
      ((s.bump 0x4027 1).time.presp = some (0, 0))),
    holds ({ slave with time.port := 2 }) fun s => quiet s && (s.t1sHears && decide ((s.bump 0x4027 1).time.port = 2)),
    holds (slave) fun s => quiet s && (s.t1sHears && decide ((((s.bump 0x4027 1).boundary .bNextAnnounce).time.port) ≠ 0) && decide
      ((pv 0).length = 26 ∧ slice 6 8 (pv 0) ≠ s.clockId ∧ beNat (slice 14 2 (pv 0)) < 255) && decide (beNat (pv 0) < beNat
      s.ownVector) && decide (((s.bump 0x4027 1).boundary .bNextAnnounce).time.best = [])),
    holds ({ slave with time.best := pv 9 }) fun s => quiet s && (decide (beNat (pv 0) ≤ beNat ((s.bump 0x4027 1).boundary
      .bNextAnnounce).time.best)),
    holds ({ slave with time.port := 1 }) fun s => quiet s && (decide (beNat s.ownVector ≤ beNat (pv 255)) && decide (((s.bump
      0x4027 1).boundary .bNextAnnounce).time.port = 1)),
    holds ({ slave with time.port := 2 }) fun s => quiet s && (s.live && decide (s.time.syncDue ≤ s.now) && decide ((s.applyPend
      0x4124 1).time.port = 2) && decide (s.time.qual ≠ 1)),
    holds ({ slave with time.port := 2, time.qual := 1 }) fun s => quiet s && (decide ((s.applyPend 0x4124 1).time.qual = 1) &&
      decide (s.time.locks + 1 < s.g 0x4115 0) && decide (s.time.syncDue ≤ s.now)),
    holds ({ slave with time.port := 2, time.qual := 1, time.locks := 63 }) fun s => quiet s && (decide ((s.applyPend 0x4124
      1).time.qual = 1) && decide (s.g 0x4115 0 ≤ s.time.locks + 1)),
    holds ({ slave with time.port := 1 }) fun s => quiet s && (decide (s.time.pdDue ≤ s.now) && decide ((s.applyPend 0x4124
      2).time.port = 1)),
    holds ({ slave with time.port := 2 }) fun s => quiet s && (decide (s.time.annDue ≤ s.now) && decide ((s.applyPend 0x4124
      3).time.port = 2))].all id) = true := by decide +kernel

/-- A segment frame from an address to an address; a worker of node 2 whose link with manager 0 is open. -/
def segF (k : Bytes) (sub dst src : Nat) (b : Bytes) : Bytes := segPayload k sub dst src 1 b
def worker : State := withG (withKey { bus with
  seg.role := .worker, seg.node := 2, seg.kbc := List.replicate 16 2, seg.mgrs := [⟨some (List.replicate 16 3), 0, none, 0, some 0, 0, 0⟩, ⟨some (List.replicate 16 4), 0, none, 0, none, 0, 0⟩] }
  55 0 (List.replicate 16 6)) [(0x4203, 0, 55)]
/-- The manager of the segment, with the link of worker 2 open. -/
def chief : State := withG (withKey { bus with
  seg.role := .manager, seg.cfg := 1, seg.kbc := List.replicate 16 2, rng.st := .seeded, bg.stage := 4,
  seg.nodes := putAt bus.seg.nodes 2 { (bus.wnode 2) with kws := some (List.replicate 16 3), online := true, seen := some 0 } }
  55 0 (List.replicate 16 6)) [(0x4210, 3, 55)]
def segHears (s : State) : Bool := s.wakeHas 8 && s.pwr.core && s.t1sHears
def joining : State := { worker with seg.mgrs := [⟨none, 0, some (zeros 16), 0, some 0, 0, 0⟩, ⟨none, 0, none, 0, none, 0, 0⟩] }
def joinKey : Bytes := toBe 16 0xb1f45a44e7ae6d2a2f9f51afeb9d1075
/-- The acknowledgement of a join under that key. -/
def joinFrame : Bytes :=
  toBe 64 0x260202000000010000002c000000000000000000000000000000000000000000b77f223348c44a4ef46b0913d9a8f2bfb39df2f1bda97bc02f48bc9625f37fab
/-- A round plan of zeros from manager 0. -/
def planFrame : Bytes := [0x22, 0x02] ++ toLe 2 2 ++ zeros 2 ++ toLe 4 1 ++ toLe 2 128 ++ zeros 128 ++ toBe 8 0xde692920eadbb9d6
theorem witness_SegmentCommandsComplete :
    ([
    holds (worker) fun s => quiet s && (segHears s && decide ((segParse (segF s.seg.kbc 0x20 0xFFFF 0 ([1] ++ zeros 15))).map (fun f
      => ((s.bump 0x4027 1).segJudge f (some s.seg.kbc) 0, f.body.length, byteAt 0 f.body)) = some (0, 16, 1)) && decide (s.seg.role
      = .worker ∧ s.seg.kbc ≠ [])),
    holds (chief) fun s => quiet s && (segHears s && s.isTwin && decide ((segParse (segF (List.replicate 16 3) 0x21 0xFFFF (s.addrOf
      2) (zeros 16))).map (fun f => (((s.bump 0x4027 1).fromWorker ((s.bump 0x4027 1).presenceView f)).isSome, f.body.length)) =
      some (true, 16))),
    holds (worker) fun s => quiet s && (!s.gate.quench && decide ((segParse planFrame).map (fun f => (((s.bump 0x4027 1).fromManager
      f).2.1, f.body.length)) = some (true, 128)) && decide ((segParse (segF (List.replicate 16 3) 0x24 s.nodeAddr (s.addrOf 0)
      (zeros 24))).map (fun f => (((s.bump 0x4027 1).fromManager f).2.1, f.body.length)) = some (true, 24))),
    holds (chief) fun s => quiet s && (decide (s.seg.role = .manager) && !s.gate.quench && decide ((segParse (segF (List.replicate
      16 3) 0x23 s.nodeAddr (s.addrOf 2) (zeros 6))).map (fun f => (((s.bump 0x4027 1).fromWorker f).isSome, f.src % 16)) = some
      (true, 2))),
    holds (chief) fun s => quiet s && (s.isTwin && (s.bump 0x4027 1).drawOk && decide (s.seg.kbc ≠ []) && decide ((segParse (segF
      (List.replicate 16 6) 0x25 s.nodeAddr (s.addrOf 2) (zeros 18))).map (fun f => (f.src % 16, f.src / 16 == s.seg.segNo, f.dst ==
      s.nodeAddr, (s.linkKey 2).map fun l => cmac64 l f.head == f.mac)) = some (2, true, true, some true))),
    holds (joining) fun s => quiet s && (segHears s && decide ((segParse joinFrame).map (fun f => (f.body.length, f.src % 16, cmac64
      joinKey f.head == f.mac, (kwUnwrap joinKey (f.body.drop 20)).isSome)) = some (44, 0, true, true)) && decide ((s.bump 0x4027
      1).mgrLink 0 |>.join.isSome) && decide (segSession (List.replicate 16 6) (zeros 16) (zeros 16) s.nodeAddr (s.addrOf 0) =
      joinKey) && decide (s.slotKey (s.g 0x4203 0) = some (List.replicate 16 6)) && s.mgrNow.isSome),
    holds ({ joining with seg.mgrs := [⟨none, 0, some (zeros 16), 0, none, 0, 0⟩, ⟨none, 0, none, 0, none, 0, 0⟩] }) fun s => quiet
      s && (s.mgrNow.isNone),
    holds (chief) fun s => quiet s && (s.live && s.isTwin && !s.gate.quench && s.pwr.core && decide (s.seg.beatDue ≤ s.now) &&
      decide (({ s with seg.beatDue := s.now + s.beat } : State).drawBc.seg.role = .manager) && decide (({ s with seg.beatDue := s.now + s.beat }
      : State).drawBc.seg.kbc ≠ [])),
    holds (worker) fun s => quiet s && (decide (s.mgrNow = some 0) && decide ((s.mgrLink 0).kws.isSome ∧ (s.mgrLink 1).kws.isSome)
      && decide (s.seg.beatDue ≤ s.now) && !(s.seg.mgrs.all fun m => (m.beat.map fun b => decide (b + 3 * s.beat ≤ s.now)).getD
      true)),
    holds ({ worker with seg.mgrs := [⟨none, 0, some (zeros 16), 0, none, 0, 0⟩, ⟨some (zeros 16), 0, none, 0, none, 0, 0⟩] }) fun s
      => quiet s && (decide ((s.mgrLink 0).kws = none) && decide ((s.mgrLink 0).due ≤ s.now) && decide ((((s.sendJoin 0).mgrLink
      1).kws).isSome = true)),
    holds ({ chief with now := secs 1 }) fun s => quiet s && ((s.wnode 2).online && decide ((s.wnode 2).seen.map (fun t => decide (t
      + 3 * s.beat ≤ s.now)) = some true)),
    holds ({ chief with now := secs 1, seg.cfg := 2, twin.wlBeat := some 0, twin.t1sBeat := some 0 }) fun s => quiet s && (s.live &&
      s.twinCfg && decide (0 + ms 3 ≤ s.now) && decide (0 + 3 * s.beat ≤ s.now) && decide (s.twin.wlBeat = some 0 ∧ s.twin.t1sBeat =
      some 0))].all id) = true := by decide +kernel

/-- Whether node 0's twin takes this frame as a body under this subtype. -/
def takes (s : State) (sub : Nat) (b : Bytes) : Bool :=
  s.wakeHas 9 && s.live && s.pwr.core && decide (s.net.wl = 2) && decide (byteAt 0 (pairFrame s sub b) = sub) && decide ((s.twinIn sub (pairFrame s sub b)).1 = some b)
/-- A commit that a manager sent and awaits. -/
def commit0 : CommitOut := ⟨7, zeros 32, 0⟩
theorem witness_TwinCommandsComplete :
    ([
    holds (pair .standby 1) fun s => quiet s && (takes s 0x2A [0, 0, 0, 0, 0, 0] && takes s 0x2C (zeros 76) && takes s 0x28 (zeros
      32) && takes s 0x2E ([8, 0] ++ zeros 6) && takes s 0x2E ([0, 1] ++ zeros 6) && s.ktw.isSome && decide (s.seg.role = .standby)),
    holds (pair .manager 0) fun s => quiet s && (takes s 0x2D [8, 0] && decide (s.seg.role = .manager)),
    holds ({ pair .manager 0 with twin.commits := [commit0], acc.adv := [⟨.tok 0, 5, 1, true, false, false, 0, 7, 0, [], .tok 7, 0, false⟩] })
      fun s => quiet s && (takes s 0x29 (toLe 4 7 ++ zeros 12) && (s.twin.commits.any fun c => c.cseq = 7) && (s.acc.adv.find? fun a
      => a.cseq = 7).isSome && takes s 0x29 (toLe 4 7 ++ [BitVec.ofNat 8 Rc.replay] ++ zeros 11)),
    holds ({ pair .standby 1 with twin.st := .isolated }) fun s => quiet s && (decide (s.seg.cfg = 2) && admits .host 3 0x4305 0 []
      s && !s.wlHeard && !s.t1sHeard && admits .host 3 0x4306 0 (toLe 2 0x544B) s),
    holds ({ pair .manager 0 with twin.st := .t1sOnly }) fun s => quiet s && (s.live && decide (s.twin.tinDue ≤ s.now) &&
      !s.gate.quench),
    holds ({ withG (pair .starting 0) [(0x4210, 3, 50)] with twin.st := .electing, twin.electDue := some 0, seg.nodes := putAt up.seg.nodes 2 { (up.wnode 2) with mgr := 0xFF, online := true, seen := some 0 } })
      fun s => quiet s && (s.live && decide (s.twin.st = .electing) && s.majority (s.naming 0xFF 0) && !s.gate.quench),
    holds ({ pair .manager 0 with now := secs 1, twin.st := .suspect, seg.nodes := putAt up.seg.nodes 2 { (up.wnode 2) with mgr := 0xFF, online := true, seen := some 0 } })
      fun s => quiet s && (decide (s.twinSettle.twin.st = .suspect) && decide (s.twinSettle.twin.since + ms (s.g 0x4206 0) + 2 *
      s.beat ≤ s.now)),
    holds ({ pair .manager 0 with twin.t1sBeat := some 0, twin.commits := [commit0] }) fun s => quiet s && (decide (s.twin.t1sBeat =
      some 0 ∧ s.twin.commits = [commit0] ∧ commit0.due ≤ s.now))].all id) = true := by decide +kernel

/-- A part whose reset is held, and one asleep with its engines still. -/
def heldPart : State := { State.reset with pwr := { Pwr.reset with held := true, vaon := true } }
def asleep : State := { up with pwr := { up.pwr with core := false, pll := false } }
theorem witness_ResetAndSupplyCommandsComplete :
    ([
    holds (up) fun s => quiet s && (s.pwr.vaon && s.pwr.core && s.pwr.pll),
    holds ({ up with now := secs 2 }) fun s => quiet s && (s.pwr.core && s.pwr.pll && !s.pwr.held && decide (s.pwr.wdtAt + ms (s.g
      0x110A 0) ≤ s.now)),
    holds ({ up with pwr := { up.pwr with shut := true } }) fun s => quiet s && (s.pwr.shut && bit (s.g 0x1104 0) 5 && bit (s.g
      0x1104 0) 6 && bit (s.g 0x1104 0) 7),
    holds ({ up with tag.field := true }) fun s => quiet s && ((({ s.tagPowerLoss 0 with pwr.vaon := false } : State).resetTake true
      0).tag.field),
    holds (up) fun s => quiet s && (!(({ s.tagPowerLoss 0 with pwr.vaon := false } : State).resetTake true 0).tag.field)].all id) = true := by decide +kernel

theorem witness_StartUpAndSleepCommandsComplete :
    ([
    holds (heldPart) fun s => quiet s && (s.pwr.held && s.pwr.vaon && decide (s.pwr.cause ≠ 6)),
    holds ({ drawing with pwr := { up.pwr with phase := .selftest } }) fun s => quiet s && (decide (s.pwr.phase = .selftest) &&
      !s.pwr.held && s.pwr.core && s.clocksOk && decide (presence s.fuse.variant &&& 0x00F00000 ≠ 0) && decide (s.keys.bad = []) &&
      !((s.put 0x1021 0 0).unitsOn 0).gate.quench && decide (((s.put 0x1021 0 0).unitsOn 0).seg.cfg ≠ 2)),
    holds (up) fun s => quiet s && (!s.gate.startEn && s.acc.drive.isNone && s.acc.entry.isEmpty && s.acc.start.isEmpty && admits
      .host 3 0x1102 0 (toLe 2 0x5344) s),
    holds ({ drawing with now := ms 1, pwr.shutDue := some 0 }) fun s => quiet s && (s.pwr.core && !s.pwr.held &&
      s.dict.commit.isNone && s.rfc.uwb.run.isNone && s.rfc.ble.run.isNone),
    holds ({ drawing with now := ms 20, pwr.idleAt := some 0 }) fun s => quiet s && (decide (s.pwr.shutDue = none) && decide (0 + ms
      (s.g 0x1103 0) ≤ s.now) && s.coreIdle),
    holds (asleep) fun s => quiet s && (!s.pwr.core && !s.pwr.shut && !s.pwr.held && decide (1 &&& (s.g 0x1104 0 ||| 0x408) &&&
      0x7FF ≠ 0) && decide (0x400 &&& (s.g 0x1104 0 ||| 0x408) &&& 0x7FF ≠ 0)),
    holds ({ asleep with now := secs 3601 }) fun s => quiet s && (s.schedDue)].all id) = true := by decide +kernel

/-- A part whose PLL is not in lock, after a loss of lock, after a sleep, and at its start. -/
def unlocked (l d : Option Nat) : State := { up with pwr := { up.pwr with pll := false, lostAt := l, downAt := d, vsup := true } }
theorem witness_ClockCommandsComplete :
    ([
    holds (unlocked (some 0) none) fun s => quiet s && (!s.pwr.pll && !s.pwr.held && s.pwr.core && s.pwr.vsup && decide
      (s.pwr.lostAt = some 0)),
    holds (unlocked none (some 0)) fun s => quiet s && (decide (s.pwr.lostAt = none ∧ s.pwr.downAt = some 0)),
    holds (unlocked none none) fun s => quiet s && (decide (s.pwr.lostAt = none ∧ s.pwr.downAt = none)),
    holds (up) fun s => quiet s && (s.pwr.pll && s.pwr.core && s.pwr.vaon),
    holds ({ unlocked (some 0) none with now := ms 1 }) fun s => quiet s && (decide (s.pwr.lostAt.map (fun l => decide (l + ms 1 ≤
      s.now)) = some true)),
    holds (boss) fun s => quiet s && (s.pwr.core && s.mayDecide),
    holds (up) fun s => quiet s && (s.pwr.core && !s.mayDecide),
    holds ({ up with pwr := { up.pwr with slowRc := true, xtalDone := false } }) fun s => quiet s && (decide (s.g 0x1112 0 = 1) &&
      s.pwr.slowRc && !s.pwr.xtalDone && s.pwr.vaon),
    holds ({ up with pwr := { up.pwr with slowRc := false } }) fun s => quiet s && (!s.pwr.slowRc),
    holds (up) fun s => quiet s && (s.live && decide ((s.g 0x1111 0 : Int) + ((1951000 * 256 : Nat) - (s.g 0x1111 0 : Int)) / 4 ≠ 0)
      && decide (500 * (s.g 0x1111 0 : Int) < 1000000 * (((s.g 0x1111 0 : Int) + ((1000000 * 256 : Nat) - (s.g 0x1111 0 : Int)) / 4)
      - (s.g 0x1111 0 : Int)).natAbs)),
    holds (up) fun s => quiet s && (decide (1000000 * ((((s.g 0x1111 0 : Int) + ((1950000 * 256 + 12288 * 0 : Nat) - (s.g 0x1111 0 :
      Int)) / 4) - (s.g 0x1111 0 : Int)).natAbs : Int) ≤ 500 * (s.g 0x1111 0 : Int)))].all id) = true := by decide +kernel

/-- A part with a timer channel as given. -/
def timing (n : Nat) (c : Tmr) : State := { up with now := 1000, tmr := putAt up.tmr n c }
theorem witness_TimerCommandsComplete :
    ([
    holds (withG up [(0x3300, 0, 0)]) fun s => quiet s && ([0, 7, 8, 11].all (fun n => admits .host 2 (0x1210 + n) 1 (toLe 4
      0x80000) s && admits .host 2 (0x1210 + n) 1 (toLe 4 0) s && admits .host 2 (0x1210 + n) 7 (toLe 2 0x1F) s && admits .host 1
      (0x1210 + n) 6 [] s) && bit 0x80000 19 && !((s.tmrSettle 0).tmrOf 0).run),
    holds (timing 3 { Tmr.reset 3 with capWas := some (1000000, 5, 0), stat := 0x80 }) fun s => quiet s && (((s.tmrOf 3).capBefore
      s.now).isSome && admits .host 1 0x1213 6 [] s && ((up.tmrOf 3).capBefore up.now).isNone),
    holds (up) fun s => quiet s && (admits .host 2 0x1210 3 (toLe 4 77) s && decide (((s.tmrSettle 0).tmrOf 0).base < 77) &&
      (((s.tmrSettle 0).setTmr 0 { (s.tmrSettle 0).tmrOf 0 with end_ := 77 }).tmrOf 0).pend.isNone),
    holds (timing 0 { Tmr.reset 0 with run := true }) fun s => quiet s && (((s.tmrSettle 0).tmrOf 0).run && decide (((s.tmrSettle
      0).tmrOf 0).base < 777) && admits .host 2 0x1210 4 (toLe 4 777) s),
    holds (timing 0 { Tmr.reset 0 with run := true, end_ := 100 }) fun s => quiet s && (s.live && (s.tmrOf 0).run && decide ((s.now
      - (s.tmrOf 0).at_) / (s.tmrOf 0).unit = 100) && decide ((s.tmrOf 0).end_ ≤ (s.tmrOf 0).base + 100)),
    holds (timing 0 { Tmr.reset 0 with run := true, end_ := 101, cmp := 100, armed := true }) fun s => quiet s && (decide ((s.tmrOf
      0).base + 100 < (s.tmrOf 0).end_) && (s.tmrOf 0).armed && decide ((s.tmrOf 0).cmp ≤ (s.tmrOf 0).base + 100)),
    holds (timing 8 { Tmr.reset 8 with run := true, up := true, end_ := 998, cmp := 500, cmpB := 50 }) fun s => quiet s && (decide
      (100 < (s.tmrOf 8).toZero) && !waveMeets (s.tmrOf 8).base (s.tmrOf 8).end_ (s.tmrOf 8).up 100 500 && waveMeets (s.tmrOf
      8).base (s.tmrOf 8).end_ (s.tmrOf 8).up 100 50),
    holds (timing 8 { Tmr.reset 8 with run := true, up := true, end_ := 50 }) fun s => quiet s && (decide ((s.tmrOf 8).toZero = 100)
      && decide ((((s.tmrOf 8).waveFlags 100).zeroTurn).end_ ≠ 0)),
    holds (timing 3 { Tmr.reset 3 with run := true, ctrl := 0x180 }) fun s => quiet s && (s.live && (s.tmrSettle 3).cksOn &&
      ((s.tmrSettle 3).tmrOf 3).run && decide (bits ((s.tmrSettle 3).tmrOf 3).ctrl 8 4 = 1 ∧ bits ((s.tmrSettle 3).tmrOf 3).ctrl 6 2
      = 2))].all id) = true := by decide +kernel

/-- The conditions of the four throttle stages, the highest first. -/
def stages (s : State) : Bool × Bool × Bool × Bool := (s.stageCond 4 false, s.stageCond 3 false, s.stageCond 2 false, s.stageCond 1 false)
def anyRec (q : Nat) : LogRec := ⟨q, 0, 0, 0x0C, 0, 0, false, false, []⟩
/-- A part whose log has an external memory and a full sector. -/
def logging : State := withG (withKey (withKey { drawing with
  net.qsType := 1, net.qsKb := 64, log.head := (List.range 64).map (fun i => (i, anyRec i)), log.next := 64 } 70 0x00140003 (zeros 16)) 71 0x00140003 (zeros 16))
  [(0x6103, 1, 70), (0x6103, 2, 71), (0x1502, 71, 2), (0x1502, 72, 2)]
theorem witness_BackgroundCommandsComplete :
    ([
    holds ({ drawing with now := secs 86400 }) fun s => quiet s && (s.live && s.pwr.core && s.envmIdle && decide (s.bg.pos <
      s.burnishTarget) && decide (s.bg.pos + 1 < s.envmWords)),
    holds ({ drawing with now := secs 86400, bg.pos := 262143 }) fun s => quiet s && (decide (s.bg.pos < s.burnishTarget) && decide
      (s.envmWords ≤ s.bg.pos + 1)),
    holds (withG { drawing with now := secs 1 } [(0x6030, 1, 0)]) fun s => quiet s && (decide (s.g 0x6030 1 ≠ 0xFF) && decide
      (s.bg.canDue ≤ s.now)),
    holds ({ drawing with log.buf := [anyRec 5] }) fun s => quiet s && (decide (s.log.buf.map (·.seq) = [5]) && s.envmIdle),
    holds (logging) fun s => quiet s && (decide ((s.boundary .bNextSector).logState = 1) && (s.boundary
      .bNextSector).log.sector.isNone && decide ((s.boundary .bNextSector).logSectors ≠ 0) && (s.boundary
      .bNextSector).sectorReady.isSome),
    holds ({ drawing with now := secs 86400, pwr := { up.pwr with core := false } }) fun s => quiet s && (!s.pwr.core && !s.pwr.shut
      && !s.pwr.held && decide (s.bg.pos + 4096 ≤ s.burnishTarget)),
    holds ({ up with rng.st := .starting }) fun s => quiet s && (decide (([0, 9350000, 8500000, 7700000].map fun p => stages (({ s with bg.power := (p :: s.bg.power).take 10000 }
      : State).put 0x6013 0 ((p :: s.bg.power).sum / 10000))) = [(false, false, false, false), (false, true, true, true), (false,
      false, true, true), (false, false, false, true)])),
    holds ({ up with rng.st := .starting, bg.stage := 3 }) fun s => quiet s && (!s.stageCond 3 false && !s.stageCond s.bg.stage
      true),
    holds ({ up with rng.st := .starting, pwr := { up.pwr with core := false } }) fun s => quiet s && (!s.pwr.core && s.pwr.vaon &&
      decide (s.bg.stage < 4)),
    holds ({ drawing with now := secs 1, bg.calmAt := some 0 }) fun s => quiet s && (s.pwr.core && decide (0 < s.bg.stage) && decide
      (s.bg.calmAt.map (fun c => decide (c + secs 1 ≤ s.now)) = some true))].all id) = true := by decide +kernel


/-! ### Witnesses that are no plain evaluation -/

/-- A part with an object set, a mailbox word written and gate 0's A ball high. -/
def busy : State := withG { up with eng.mbx := [(0x10000, 0x55)], gate.a := putAt up.gate.a 0 ⟨true, 5⟩ } [(0x1042, 0, 10)]

theorem witness_StepRunsTheFrontCommand :
    ({ busy with pending := [.vioReturn 0] } : State).pending = .vioReturn 0 :: [] ∧ busy.pending = [] := ⟨rfl, by decide +kernel⟩

theorem witness_StepKeepsFusesQueueAndTime : ∃ u, step { busy with pending := [.vioReturn 0] } = .next u := ⟨_, rfl⟩

theorem witness_StepKeepsCanonicalForms :
    Canonical { busy with pending := [.vioReturn 0] } ∧ ∃ u, step { busy with pending := [.vioReturn 0] } = .next u := by
  refine ⟨⟨⟨?_, ?_⟩, ?_, ?_⟩, _, rfl⟩
  · decide +kernel
  · decide +kernel
  · exact ⟨by decide +kernel, by decide +kernel⟩
  · intro e h
    have h1 : e ∈ List.replicate 8 Engine.reset := h
    obtain rfl := List.eq_of_mem_replicate h1
    exact ⟨rfl, rfl⟩

theorem witness_StepKeepsTheInterlock :
    busy.gate.Interlocked ∧ (busy.gate.aBall 0).high = true ∧ ∃ u, step { busy with pending := [.vioReturn 0] } = .next u := by
  refine ⟨⟨rfl, fun grp => ?_⟩, rfl, _, rfl⟩
  match grp with
  | 0 => exact ⟨fun h => (by cases h), fun _ h => (by cases h)⟩
  | 1 => exact ⟨fun h => (by cases h), fun _ h => (by cases h)⟩
  | n + 2 => exact ⟨fun h => (by cases h), fun _ h => (by cases h)⟩

theorem witness_ResponsesHaveTheirLayout :
    (respPdu (rowReq 1 0x1008 0 []) ⟨Rc.absent, 0, []⟩, respPdu (rowReq 3 0x1410 0 []) ⟨0, 1, [7]⟩) =
      ([0x81, 0, 0x08, 0x10, 0, 1, 1, 0, 0], [0xC3, 0, 0x10, 0x14, 0, 0, 2, 0, 7, 1]) := by decide +kernel

theorem witness_CounterOfTheLegacyLink : (5 : Nat) < 65536 ∧ extendCtr 0x1FFF8 5 = 0x20005 := by decide +kernel

/-! ### What single commands leave -/

/-- Engine 0 runs the word w with g0 = a and g1 = b; its register g2 in what a command left. -/
def given (w : Nat) (a b : Word32) : State :=
  { running w with eng.es := putAt up.eng.es 0 { (running w).engine 0 with g := a :: b :: List.replicate 14 0 } }

def g2 (o : Host.Outcome State Fault Refusal) : Word32 := ((left o).engine 0).reg 2

/-- R529: ADD wraps, SUB wraps, SAR keeps the sign and takes the count modulo 32, BSWAP turns the octets round. -/
theorem test_engine_arithmetic :
    (g2 (exec (.add 0 0) (given (0x01 * 2 ^ 22 + 2 * 2 ^ 18 + 1 * 2 ^ 10) 0xFFFFFFFF 2)), g2 (exec (.sub 0 0) (given (0x02 * 2 ^ 22 + 2 * 2 ^ 18 + 1 * 2 ^ 10) 1 2)),
      g2 (exec (.sar 0 0) (given (0x08 * 2 ^ 22 + 2 * 2 ^ 18 + 1 * 2 ^ 10) 0x80000000 33)), g2 (exec (.bswap 0 0) (given (0x16 * 2 ^ 22 + 2 * 2 ^ 18) 0x11223344 0))) =
      (1, 0xFFFFFFFF, 0xC0000000, 0x44332211) := by decide +kernel

/-- R529: the immediate of ADDI is signed, that of ORI is not; LDI is signed; CLZ of 0 is 32. -/
theorem test_engine_immediates :
    (g2 (exec (.addi 0 0) (given (0x09 * 2 ^ 22 + 2 * 2 ^ 18 + 0x3FFF) 5 0)), g2 (exec (.ori 0 0) (given (0x0B * 2 ^ 22 + 2 * 2 ^ 18 + 0x3FFF) 0 0)),
      g2 (exec (.ldi 0 0) (given (0x10 * 2 ^ 22 + 2 * 2 ^ 18 + 0x20000) 0 0)), g2 (exec (.clz 0 0) (given (0x15 * 2 ^ 22 + 2 * 2 ^ 18) 0 0))) =
      (4, 0x3FFF, 0xFFFE0000, 32) := by decide +kernel

/-- R244: START_EN falls after its ceiling of 600 s. -/
theorem test_start_limit :
    (left (exec (.startEnLimit 0) { boss with now := secs 600, gate.startEn := true })).gate.startEn = false := by decide +kernel

/-- R38, R90: a write of DevNetIdleTimeout outside 5 to 3,600 leaves it, one inside takes hold at once. -/
theorem test_write_range :
    ((left (exec (.write 0 .host 0x1042 0 [4, 0]) up)).g 0x1042 0, (left (exec (.write 0 .host 0x1042 0 [5, 0]) up)).g 0x1042 0) = (60, 5) := by
  decide +kernel

end Sys2Proof.Tests
end

section
/-! The check values that R718 gives for its three cyclic codes. The octets of the label are spelled out once; the value of each code over
them is a fact of its own, which the kernel computes bit step by bit step. -/
namespace Sys2Proof.Machine

theorem ascii_digits :
    ascii "123456789" = [0x31, 0x32, 0x33, 0x34, 0x35, 0x36, 0x37, 0x38, 0x39] := by decide

theorem crc8_digits : crc8 0 [0x31, 0x32, 0x33, 0x34, 0x35, 0x36, 0x37, 0x38, 0x39] = 0xF4 := by decide +kernel

theorem crc16_digits : crc16 [0x31, 0x32, 0x33, 0x34, 0x35, 0x36, 0x37, 0x38, 0x39] = 0x29B1 := by decide +kernel

theorem crc32_digits : crc32 [0x31, 0x32, 0x33, 0x34, 0x35, 0x36, 0x37, 0x38, 0x39] = 0xCBF43926 := by decide +kernel

/-- Settles O14, code by code, over the octets of the label. -/
theorem cyclicCodesMatchTheExamples : Obligations.CyclicCodesMatchTheExamples := by
  unfold Obligations.CyclicCodesMatchTheExamples
  rw [ascii_digits]
  exact ⟨crc8_digits, crc16_digits, crc32_digits⟩

end Sys2Proof.Machine
end

section
/-! The queue of commands (R37, R209, log entry 72). What overtakes is transitive and irreflexive, so an ordered queue is a pairwise one, and
putting a command in front of the first that it overtakes keeps every pair in order. -/
namespace Sys2Proof.Machine

theorem comesFirst_iff {a b : Option (Nat × Nat)} :
    comesFirst a b = true ↔ ∃ k m n, a = some (k, m) ∧ b = some (k, n) ∧ n < m := by
  constructor
  · rcases a with - | ⟨k, m⟩ <;> rcases b with - | ⟨k', n⟩ <;> simp only [comesFirst, Bool.false_eq_true, false_implies]
    simp only [Bool.and_eq_true, decide_eq_true_eq]
    rintro ⟨rfl, hlt⟩
    exact ⟨k, m, n, rfl, rfl, hlt⟩
  · rintro ⟨k, m, n, rfl, rfl, hlt⟩
    simp [comesFirst, hlt]

theorem overtakes_iff {x c : Instr} :
    overtakes x c = true ↔ x.time / 10 = c.time / 10 ∧ ∃ k m n, x.place = some (k, m) ∧ c.place = some (k, n) ∧ n < m := by
  rw [overtakes, Bool.and_eq_true, decide_eq_true_eq, comesFirst_iff]

theorem overtakes_irrefl (x : Instr) : overtakes x x = false := by
  refine Bool.eq_false_iff.mpr fun h => ?_
  obtain ⟨-, k, m, n, h1, h2, hlt⟩ := overtakes_iff.mp h
  obtain rfl : m = n := by simpa [h1] using h2
  exact Nat.lt_irrefl _ hlt

theorem overtakes_trans {x c y : Instr} (h1 : overtakes x c = true) (h2 : overtakes c y = true) : overtakes x y = true := by
  obtain ⟨t1, k, m, n, hx, hc, hlt⟩ := overtakes_iff.mp h1
  obtain ⟨t2, k', n', p, hc', hy, hlt'⟩ := overtakes_iff.mp h2
  obtain ⟨rfl, rfl⟩ : k = k' ∧ n = n' := by simpa [hc] using hc'
  exact overtakes_iff.mpr ⟨t1.trans t2, k, m, p, hx, hy, Nat.lt_trans hlt' hlt⟩

theorem inOrder_iff_pairwise {l : List Instr} : inOrder l = true ↔ l.Pairwise fun x c => overtakes x c = false := by
  induction l with
  | nil => simp [inOrder]
  | cons x l ih => simp [inOrder, ih]

theorem enqueue_perm (c : Instr) (l : List Instr) : (enqueue c l).Perm (c :: l) := by
  induction l with
  | nil => exact .refl _
  | cons x l ih =>
    unfold enqueue
    split
    · exact .refl _
    · exact (ih.cons x).trans (.swap c x l)

/-- In front of the first command that it overtakes, a command precedes nothing that should precede it. -/
theorem enqueue_pairwise {l : List Instr} (c : Instr) (h : l.Pairwise fun x y => overtakes x y = false) :
    (enqueue c l).Pairwise fun x y => overtakes x y = false := by
  induction l with
  | nil => simp [enqueue]
  | cons x l ih =>
    obtain ⟨hx, hl⟩ := List.pairwise_cons.mp h
    unfold enqueue
    split
    case isTrue hxc =>
      have hxy : ∀ y ∈ x :: l, overtakes x y = false := List.forall_mem_cons.mpr ⟨overtakes_irrefl x, hx⟩
      have hcy : ∀ y ∈ x :: l, overtakes c y = false := fun y hy =>
        Bool.eq_false_iff.mpr fun h' => Bool.eq_false_iff.mp (hxy y hy) (overtakes_trans hxc h')
      exact List.pairwise_cons.mpr ⟨hcy, h⟩
    case isFalse hxc =>
      refine List.pairwise_cons.mpr ⟨fun y hy => ?_, ih hl⟩
      rcases List.mem_cons.mp ((enqueue_perm c l).mem_iff.mp hy) with rfl | hy
      · exact Bool.eq_false_iff.mpr hxc
      · exact hx y hy

theorem place_of_asks {c : Instr} {r : Requester} (h : c.asks = some r) : c.place = some (0, r.rank) := by
  unfold Instr.place
  split
  · cases h
  · cases h
  · rw [h]

/-- Two accesses of one cycle of which the first is not overtaken stand by the ranks of their requesters (R37). -/
theorem rank_le_of_not_overtakes {x y : Instr} {a b : Requester} (h : overtakes x y = false) (ht : x.time / 10 = y.time / 10)
    (hx : x.asks = some a) (hy : y.asks = some b) : a.rank ≤ b.rank :=
  Nat.le_of_not_lt fun hlt =>
    Bool.eq_false_iff.mp h (overtakes_iff.mpr ⟨ht, 0, a.rank, b.rank, place_of_asks hx, place_of_asks hy, hlt⟩)

/-- Settles O2: an arrival keeps the queue pairwise in order, and of a pair of accesses the order is that of the ranks. -/
theorem arrivalsKeepTheOrder : Obligations.ArrivalsKeepTheOrder := by
  unfold Obligations.ArrivalsKeepTheOrder
  rintro s u c h rfl
  have hp : (enqueue c s.pending).Pairwise fun x y => overtakes x y = false := enqueue_pairwise c (inOrder_iff_pairwise.mp h)
  refine ⟨inOrder_iff_pairwise.mpr hp, enqueue_perm c s.pending, rfl, fun x y a b hsub ht hx hy => ?_⟩
  have hxy : overtakes x y = false := by simpa using hp.sublist hsub
  exact rank_le_of_not_overtakes hxy ht hx hy

end Sys2Proof.Machine
end

section
/-! The octets of a response PDU (R49). -/
namespace Sys2Proof.Machine

theorem pduOf_eq (op seq idx sub b5 : Nat) (data : Bytes) :
    pduOf op seq idx sub b5 data =
      BitVec.ofNat 8 op :: [BitVec.ofNat 8 seq, BitVec.ofNat 8 idx, BitVec.ofNat 8 (idx / 256), BitVec.ofNat 8 sub, BitVec.ofNat 8 b5] ++
        toLe 2 data.length ++ data := rfl

/-- Below 64 an OP leaves bits 7 and 6 free, so that setting them adds them. -/
theorem or_high_bits {n : Nat} (h : n < 64) (k : Nat) : n ||| 64 * k = n + 64 * k := by
  rw [Nat.or_comm, Nat.add_comm]
  exact (Nat.two_pow_add_eq_or_of_lt (i := 6) h k).symm

/-- Settles O8, result by result: a refusal, an OK result without a detail, and one with a detail. -/
theorem responsesHaveTheirLayout : Obligations.ResponsesHaveTheirLayout := by
  unfold Obligations.ResponsesHaveTheirLayout
  intro q r
  refine ⟨_, fun hc => ?_, fun ho hc hd => ?_, fun ho hc hd => ?_, rfl⟩
  · have e := or_high_bits (Nat.mod_lt q.op (by decide : 64 > 0)) 2
    simp [respPdu, hc, pduOf_eq, e, toLe]
  · have e := or_high_bits ho 2
    simp [respPdu, hc, hd, pduOf_eq, e]
  · have e := or_high_bits ho 3
    simp [respPdu, hc, hd, pduOf_eq, e]

end Sys2Proof.Machine
end

section
/-! Pending values (R39). A WRITE to a NEXT object outside the objects whose units take the write themselves leaves its value pending; the
MIRROR that may follow (R622) raises counters of other objects only. -/
namespace Sys2Proof.Machine

/-- The objects whose WRITE goes to a unit's own operation, whatever their Effect column says: timers, the ACLs of the tag's
records, tag keys, the mailbox. -/
def unitWritten : List Nat := List.range' 0x1210 12 ++ [0x3611, 0x3630, 0x5022]

/-- The Effect column names a boundary. -/
def Eff.isNext : Eff → Bool
  | .next _ => true
  | _ => false

theorem nextRows_not_unitWritten :
    (objTable.filter fun o => o.eff.isNext).all (fun o => unitWritten.all fun i => decide (i < o.idx ∨ o.idx + o.count ≤ i)) = true := by
  decide +kernel

theorem not_unitWritten_of_next {idx sub : Nat} {b : Boundary} (h : (findObj idx sub).map ObjDef.eff = some (.next b)) :
    idx ∉ unitWritten := by
  obtain ⟨o, ho, he⟩ := Option.map_eq_some_iff.mp h
  obtain ⟨hmem, hlo, hhi, -⟩ := findObj_some ho
  have hrow := List.all_eq_true.mp nextRows_not_unitWritten o (List.mem_filter.mpr ⟨hmem, by rw [he]; rfl⟩)
  intro hidx
  have := of_decide_eq_true (List.all_eq_true.mp hrow idx hidx)
  omega

/-- From `s` to `u` no pending value changes, and the object reads what it read. -/
structure ReadsAlike (idx sub : Nat) (s u : State) : Prop where
  pend : u.pend = s.pend
  regWf : RegWf s → RegWf u
  value : RegWf s → u.g idx sub = s.g idx sub

theorem ReadsAlike.refl (idx sub : Nat) (s : State) : ReadsAlike idx sub s s := ⟨rfl, id, fun _ => rfl⟩

theorem ReadsAlike.trans {idx sub : Nat} {s u w : State} (h1 : ReadsAlike idx sub s u) (h2 : ReadsAlike idx sub u w) :
    ReadsAlike idx sub s w :=
  ⟨h2.pend.trans h1.pend, fun h => h2.regWf (h1.regWf h), fun h => (h2.value (h1.regWf h)).trans (h1.value h)⟩

/-- An effect outside the dictionary's registers that keeps what defaults depend on. -/
theorem ReadsAlike.of_eq {idx sub : Nat} {s u : State} (hp : u.pend = s.pend) (hr : u.reg = s.reg) (hf : u.fuse = s.fuse)
    (hn : u.seg.segNo = s.seg.segNo) (hd : u.seg.node = s.seg.node) (hl : u.seg.role = s.seg.role) : ReadsAlike idx sub s u :=
  ⟨hp, fun h => ⟨hr ▸ h.1, hp ▸ h.2⟩, fun _ => g_congr hr hf hn hd hl idx sub⟩

theorem readsAlike_bumpBy {i j idx sub : Nat} (h : okey i j ≠ okey idx sub) (s : State) (k : Nat) :
    ReadsAlike idx sub s (s.bumpBy i j k) :=
  ⟨rfl, fun hw => put_regWf hw _ _ _, fun hw => put_g_other hw _ h⟩

/-- The counters that a twin message raises: AES blocks, those of class B (R479), and Wairil frames (R597). -/
def twinSendCounters : List Nat := [okey 0x1420 1, okey 0x1421 2, okey 0x4041 4]

theorem readsAlike_twinCount {idx sub : Nat} (h : okey idx sub ∉ twinSendCounters) (s : State) (n : Nat) :
    ReadsAlike idx sub s (s.fcntUp.cxUse 2 n) := by
  simp only [twinSendCounters, List.mem_cons, List.not_mem_nil, or_false, not_or] at h
  obtain ⟨h1, h2, -⟩ := h
  have hup : ReadsAlike idx sub s s.fcntUp := .of_eq rfl rfl rfl rfl rfl rfl
  exact (hup.trans (readsAlike_bumpBy (Ne.symm h1) _ n)).trans (readsAlike_bumpBy (Ne.symm h2) _ n)

theorem readsAlike_fcntEnd (idx sub : Nat) (s : State) : ReadsAlike idx sub s s.fcntEnd := by
  unfold State.fcntEnd
  split
  · exact .of_eq rfl rfl rfl rfl rfl rfl
  · exact .refl idx sub s

theorem readsAlike_wlSend {idx sub : Nat} (h : okey idx sub ∉ twinSendCounters) (s : State) (typ : Nat) (body : Bytes) :
    ReadsAlike idx sub s (s.wlSend typ body) := by
  simp only [twinSendCounters, List.mem_cons, List.not_mem_nil, or_false, not_or] at h
  refine ReadsAlike.trans ?_ (readsAlike_bumpBy (Ne.symm h.2.2) _ 1)
  exact .of_eq rfl rfl rfl rfl rfl rfl

/-- A frame whose blocks are not counted in class A. -/
theorem readsAlike_segSend {idx sub : Nat} (h : okey idx sub ∉ twinSendCounters) {typ : Nat} (htyp : ¬(typ = 0x22 ∨ typ = 0x23)) (s : State)
    (key : Bytes) (dst : Nat) (body : Bytes) : ReadsAlike idx sub s (s.segSend key typ dst body) := by
  simp only [State.segSend, if_neg htyp]
  refine ((readsAlike_twinCount h s (cmacOps (12 + body.length))).trans ?_).trans (readsAlike_fcntEnd idx sub _)
  exact .of_eq rfl rfl rfl rfl rfl rfl

theorem readsAlike_twinSend {idx sub : Nat} (h : okey idx sub ∉ twinSendCounters) {typ : Nat} (htyp : ¬(typ = 0x22 ∨ typ = 0x23)) (s : State)
    (body : Bytes) : ReadsAlike idx sub s (s.twinSend typ body) := by
  unfold State.twinSend
  split
  · exact .refl idx sub s
  · split
    · exact ((readsAlike_twinCount h s _).trans (readsAlike_wlSend h _ _ _)).trans (readsAlike_fcntEnd idx sub _)
    · exact readsAlike_segSend h htyp s _ _ body

theorem readsAlike_mirror {idx sub : Nat} (h : okey idx sub ∉ twinSendCounters) (s : State) (area entry : Nat) (data : Bytes) :
    ReadsAlike idx sub s (s.mirror area entry data) := by
  unfold State.mirror
  split
  · exact readsAlike_twinSend h (by decide) s _
  · exact .refl idx sub s

theorem not_twinSendCounter_of_area7Live {k : Nat} (h : area7Live k = true) : k ∉ twinSendCounters := by
  intro hk
  simp only [twinSendCounters, List.mem_cons, List.not_mem_nil, or_false] at hk
  rcases hk with rfl | rfl | rfl <;> revert h <;> decide

/-- What a WRITE to a NEXT object leaves: its value pending, and sent to the standby where its area is mirrored (R39, R622). -/
def State.writePending (s : State) (idx sub v : Nat) : State :=
  if area7Live (okey idx sub) then (s.setPend idx sub v).mirror 7 0 (objEntry (okey idx sub) v) else s.setPend idx sub v

theorem applyWrite_next {s : State} {who : Requester} {idx sub : Nat} {b : Boundary} (hidx : idx < 0x8000)
    (heff : (findObj idx sub).map ObjDef.eff = some (.next b)) (hchar : inR 0x3140 0x314F idx = false) (data : Bytes) :
    s.applyWrite who idx sub data = (some ⟨Rc.ok, Dt.pending, []⟩, s.writePending idx sub (leNat data)) := by
  have hown := not_unitWritten_of_next heff
  simp only [unitWritten, List.mem_append, List.mem_range'_1, List.mem_cons, List.not_mem_nil, or_false, not_or] at hown
  obtain ⟨htmr, hacl, hkey, hmbx⟩ := hown
  have h1 : inR 0x1210 0x1217 idx = false := by simp only [inR, Bool.and_eq_false_iff, decide_eq_false_iff_not]; omega
  have h2 : inR 0x1218 0x121B idx = false := by simp only [inR, Bool.and_eq_false_iff, decide_eq_false_iff_not]; omega
  simp [State.applyWrite, State.writePending, Nat.not_le.mpr hidx, h1, h2, hchar, hacl, hkey, hmbx, heff]

theorem writePending_readsAlike (s : State) (idx sub v : Nat) : ReadsAlike idx sub (s.setPend idx sub v) (s.writePending idx sub v) := by
  unfold State.writePending
  split
  case isTrue h => exact readsAlike_mirror (not_twinSendCounter_of_area7Live h) _ 7 0 _
  case isFalse => exact .refl idx sub _

theorem writePending_pendOf (s : State) (idx sub v : Nat) : (s.writePending idx sub v).pendOf idx sub = some v := by
  rw [State.pendOf, (writePending_readsAlike s idx sub v).pend, State.setPend_pend, alGet_alPut, if_pos rfl]

theorem setPend_regWf {s : State} (h : RegWf s) (idx sub v : Nat) : RegWf (s.setPend idx sub v) := ⟨h.1, alPut_sorted h.2 _ v⟩

theorem writePending_regWf {s : State} (h : RegWf s) (idx sub v : Nat) : RegWf (s.writePending idx sub v) :=
  (writePending_readsAlike s idx sub v).regWf (setPend_regWf h idx sub v)

/-- The value in force stays while a value is pending (R39). -/
theorem writePending_g {s : State} (h : RegWf s) (idx sub v : Nat) : (s.writePending idx sub v).g idx sub = s.g idx sub :=
  (writePending_readsAlike s idx sub v).value (setPend_regWf h idx sub v)

theorem applyPend_eq {s : State} {idx sub v : Nat} (h : s.pendOf idx sub = some v) :
    s.applyPend idx sub = { s.put idx sub v with pend := alDel s.pend (okey idx sub) } := by
  simp only [State.applyPend, h]

theorem applyPend_g {s : State} {idx sub v : Nat} (h : s.pendOf idx sub = some v) (idx' sub' : Nat) :
    (s.applyPend idx sub).g idx' sub' = (s.put idx sub v).g idx' sub' := by
  rw [applyPend_eq h]; rfl

theorem applyPend_pendOf {s : State} (hw : RegWf s) {idx sub v : Nat} (h : s.pendOf idx sub = some v) :
    (s.applyPend idx sub).pendOf idx sub = none := by
  rw [applyPend_eq h, State.pendOf, alGet_alDel hw.2, if_pos rfl]

/-- Settles O12: both writes leave their value pending, the second over the first, and the last is put into the register file. -/
theorem pendingValueTakesHold : Obligations.PendingValueTakesHold := by
  unfold Obligations.PendingValueTakesHold
  intro s s1 s2 who idx sub b v1 v2 hw hidx _ heff hchar hs1 hs2
  obtain rfl : s.writePending idx sub (leNat v1) = s1 := by rw [← hs1, applyWrite_next hidx heff hchar]
  obtain rfl : (s.writePending idx sub (leNat v1)).writePending idx sub (leNat v2) = s2 := by rw [← hs2, applyWrite_next hidx heff hchar]
  have hw1 : RegWf (s.writePending idx sub (leNat v1)) := writePending_regWf hw idx sub _
  have hw2 := writePending_regWf hw1 idx sub (leNat v2)
  have hpend := writePending_pendOf (s.writePending idx sub (leNat v1)) idx sub (leNat v2)
  refine ⟨?_, ?_, hpend, ?_, applyPend_pendOf hw2 hpend, fun idx' sub' hne => ?_⟩
  · rw [applyWrite_next hidx heff hchar]
  · rw [writePending_g hw1, writePending_g hw]
  · rw [applyPend_g hpend, put_g_same hw2]
  · rw [applyPend_g hpend, put_g_other hw2 _ hne.symm]

end Sys2Proof.Machine
end

section
/-! The counter of the legacy LF link: its extension (R141), and the rows of R137 as rules of the judgement. -/
namespace Sys2Proof.Machine

theorem extendCtr_spec (last : Nat) {r : Nat} (hr : r < 65536) :
    extendCtr last r % 65536 = r ∧ last < extendCtr last r ∧ extendCtr last r ≤ last + 65536 := by
  unfold extendCtr
  omega

/-- Of the 65,536 values above the last accepted, one only has the bits received. -/
theorem extendCtr_eq_of_mem_range {last r c : Nat} (hr : r < 65536) (hc : c % 65536 = r) (hlo : last < c) (hhi : c ≤ last + 65536) :
    extendCtr last r = c := by
  obtain ⟨hmod, hlo', hhi'⟩ := extendCtr_spec last hr
  omega

/-- Third row: the value after the pending one confirms the resync, wherever it lies. -/
theorem judge_confirmed (x : Ctr) {n : Nat} (w v : Nat) (hc : n + 1 < 2 ^ 32) :
    x.judge (some n) w v (n + 1) = (.accepted, { x with last := n + 1, conf := false }) := by
  rw [Ctr.judge, if_pos (by simpa using hc)]

/-- Fourth row, at and below the last accepted value. -/
theorem judge_replay_of_le {x : Ctr} {p : Option Nat} {w v c : Nat} (hp : (p.map fun n => n + 1) ≠ some c) (hc : c ≤ x.last) :
    x.judge p w v c = (.replay, x) := by
  simp [Ctr.judge, hp, hc]

/-- First row, with no damaged scan to confirm (R147). -/
theorem judge_accepted {x : Ctr} {p : Option Nat} {w v c : Nat} (hp : (p.map fun n => n + 1) ≠ some c) (hconf : x.conf = false)
    (hlo : x.last < c) (hhi : c ≤ x.last + w) (hc : c < 2 ^ 32) : x.judge p w v c = (.accepted, { x with last := c }) := by
  simpa [Ctr.judge, hp, hconf, hhi, Nat.not_le.mpr hlo] using hc

/-- Second row. -/
theorem judge_resync {x : Ctr} {p : Option Nat} {w v c : Nat} (hp : (p.map fun n => n + 1) ≠ some c) (hlo : x.last + w < c)
    (hhi : c ≤ x.last + v) (hc : c < 2 ^ 32) : x.judge p w v c = (.resync, { x with pend := some (c, 0) }) := by
  have hlast : ¬c ≤ x.last := by omega
  simpa [Ctr.judge, hp, hhi, hlast, Nat.not_le.mpr hlo] using hc

/-- Fourth row, beyond both windows. -/
theorem judge_replay_of_gt {x : Ctr} {p : Option Nat} {w v c : Nat} (hp : (p.map fun n => n + 1) ≠ some c) (hw : x.last + w < c)
    (hv : x.last + v < c) : x.judge p w v c = (.replay, x) := by
  simp [Ctr.judge, hp, Nat.not_le.mpr hw, Nat.not_le.mpr hv]

/-- Settles O13: the extension is the one value of its range, and each worked case is an instance of the row of R137 that it shows. -/
theorem counterOfTheLegacyLink : Obligations.CounterOfTheLegacyLink := by
  unfold Obligations.CounterOfTheLegacyLink
  refine ⟨fun last r hr => extendCtr_spec last hr,
    extendCtr_eq_of_mem_range (by decide) (by decide) (by decide) (by decide), ?_⟩
  rintro x x2 x4 rfl rfl rfl
  have case7 := judge_confirmed ⟨1000, 0, none, false⟩ (n := 1017) 16 4096 (by decide)
  have case9 : Ctr.judge ⟨1000, 0, none, false⟩ (some 1017) 16 4096 1005 = (.accepted, ⟨1005, 0, none, false⟩) :=
    judge_accepted (by decide) rfl (by decide) (by decide) (by decide)
  refine ⟨?case1, ?case2, ?case3, ?case4, ?case5, ?case6, ?_, ?_, ?_, ?_, ?case11⟩
  case case1 => exact judge_accepted nofun rfl (by decide) (by decide) (by decide)
  case case2 => exact judge_accepted nofun rfl (by decide) (by decide) (by decide)
  case case3 => exact judge_replay_of_le nofun (by decide)
  case case4 => exact judge_resync nofun (by decide) (by decide) (by decide)
  case case5 => exact judge_resync nofun (by decide) (by decide) (by decide)
  case case6 => exact judge_replay_of_gt nofun (by decide) (by decide)
  case case11 => exact judge_replay_of_le nofun (by decide)
  · rw [case7]
  · rw [case7]
  · rw [case9]
  · rw [case9]

end Sys2Proof.Machine
end

section
/-! One step keeps what every command keeps. The command at the front of the queue takes effect on the state with the rest of the queue, and
each command of the table keeps the relation `Kept` by the law of its own meaning. -/
namespace Sys2Proof.Machine

/-- Every command answers a next state that keeps what commands keep: one arm per row of the table, each by that row's law. -/
theorem kept_exec : ∀ (c : Instr) (s : State), ∃ u, exec c s = .next u ∧ Kept s u
  | .spiStatus t, s => kept_execSpiStatus t s
  | .spiWriteReq t pdu, s => kept_execSpiWriteReq t pdu s
  | .spiReadRsp t n, s => kept_execSpiReadRsp t n s
  | .spiReadNtf t n, s => kept_execSpiReadNtf t n s
  | .spiUndefinedCommand t cmd n, s => kept_execSpiUndefinedCommand t cmd n s
  | .dictResponseReady t, s => kept_execDictResponseReady t s
  | .write t r idx sub data, s => kept_execWrite t r idx sub data s
  | .pendingValueApply t idx sub, s => kept_execPendingValueApply t idx sub s
  | .subscribe t r idx sub mode period gap, s => kept_execSubscribe t r idx sub mode period gap s
  | .unsubscribe t r idx sub, s => kept_execUnsubscribe t r idx sub s
  | .notifyPeriodic t r idx sub, s => kept_execNotifyPeriodic t r idx sub s
  | .loginHello t via seq d, s => kept_execLoginHello t via seq d s
  | .loginProof t via seq d, s => kept_execLoginProof t via seq d s
  | .logout t sid seq, s => kept_execLogout t sid seq s
  | .loginProofTimeout t sid, s => kept_execLoginProofTimeout t sid s
  | .sessionIdleTimeout t sid, s => kept_execSessionIdleTimeout t sid s
  | .requesterLockoutEnd t rid, s => kept_execRequesterLockoutEnd t rid s
  | .dictFrameT1s t da sa payload, s => kept_execDictFrameT1s t da sa payload s
  | .canFdSegment t c id d, s => kept_execCanFdSegment t c id d s
  | .canFdSegmentTimeout t c, s => kept_execCanFdSegmentTimeout t c s
  | .canXlDictFrame t c id sdt d, s => kept_execCanXlDictFrame t c id sdt d s
  | .wairilFrame t raw fills, s => kept_execWairilFrame t raw fills s
  | .v1Read t f, s => kept_execV1Read t f s
  | .v1Write t f, s => kept_execV1Write t f s
  | .unlockReq t f, s => kept_execUnlockReq t f s
  | .unlockProof t f, s => kept_execUnlockProof t f s
  | .v1UnlockExpiry t, s => kept_execV1UnlockExpiry t s
  | .v1LockoutEnd t, s => kept_execV1LockoutEnd t s
  | .devCommit t r, s => kept_execDevCommit t r s
  | .devCommitDone t ok, s => kept_execDevCommitDone t ok s
  | .devRestoreDefaults t r, s => kept_execDevRestoreDefaults t r s
  | .devResetSystem t r, s => kept_execDevResetSystem t r s
  | .devResetCold t r, s => kept_execDevResetCold t r s
  | .devSelfTest t r, s => kept_execDevSelfTest t r s
  | .devSelfTestDone t fail sealBad, s => kept_execDevSelfTestDone t fail sealBad s
  | .credClockConfirm t r ceiling, s => kept_execCredClockConfirm t r ceiling s
  | .credRevoke t r arg, s => kept_execCredRevoke t r arg s
  | .vcSecond t, s => kept_execVcSecond t s
  | .floorPeriod t, s => kept_execFloorPeriod t s
  | .resyncTimeout t, s => kept_execResyncTimeout t s
  | .journalRecordDone t ok, s => kept_execJournalRecordDone t ok s
  | .compactionStart t, s => kept_execCompactionStart t s
  | .compactionPass t, s => kept_execCompactionPass t s
  | .compactionSwitch t, s => kept_execCompactionSwitch t s
  | .tokenProof t car m, s => kept_execTokenProof t car m s
  | .credProof t car m, s => kept_execCredProof t car m s
  | .attest t car m, s => kept_execAttest t car m s
  | .enrolCode t car m, s => kept_execEnrolCode t car m s
  | .enrolRequest t car m, s => kept_execEnrolRequest t car m s
  | .revokeRequest t car m, s => kept_execRevokeRequest t car m s
  | .endMessage t car m, s => kept_execEndMessage t car m s
  | .zariqueDrop t car m, s => kept_execZariqueDrop t car m s
  | .challenge t conn, s => kept_execChallenge t conn s
  | .prompt t conn, s => kept_execPrompt t conn s
  | .rangingSetup t conn, s => kept_execRangingSetup t conn s
  | .keyDeliveryAck t car, s => kept_execKeyDeliveryAck t car s
  | .challengeExpiry t, s => kept_execChallengeExpiry t s
  | .doorOpenEdge t n level held, s => kept_execDoorOpenEdge t n level held s
  | .entryTimeout t, s => kept_execEntryTimeout t s
  | .startTimeout t, s => kept_execStartTimeout t s
  | .ignInFall t, s => kept_execIgnInFall t s
  | .ignInRise t, s => kept_execIgnInRise t s
  | .lockoutEnd t, s => kept_execLockoutEnd t s
  | .lockoutPersist t, s => kept_execLockoutPersist t s
  | .learnWindowExpiry t, s => kept_execLearnWindowExpiry t s
  | .accLearnCancel t r, s => kept_execAccLearnCancel t r s
  | .accRevokeToken t r tid, s => kept_execAccRevokeToken t r tid s
  | .accLockoutClear t r arg, s => kept_execAccLockoutClear t r arg s
  | .accEnrolImport t r arg, s => kept_execAccEnrolImport t r arg s
  | .evidenceItem t item own, s => kept_execEvidenceItem t item own s
  | .evaluationDone t, s => kept_execEvaluationDone t s
  | .requestWindowEnd t tsh gate, s => kept_execRequestWindowEnd t tsh gate s
  | .vetoHoldEnd t, s => kept_execVetoHoldEnd t s
  | .roundGraceExpiry t tsh gate, s => kept_execRoundGraceExpiry t tsh gate s
  | .verdictExpiry t tsh gate, s => kept_execVerdictExpiry t tsh gate s
  | .tsApply t r, s => kept_execTsApply t r s
  | .sealIssue t tsh gate, s => kept_execSealIssue t tsh gate s
  | .pulseEnd t isB n, s => kept_execPulseEnd t isB n s
  | .deadTimeEnd t grp, s => kept_execDeadTimeEnd t grp s
  | .gateLock t r, s => kept_execGateLock t r s
  | .gateRbSample t gate level, s => kept_execGateRbSample t gate level s
  | .startEnLimit t, s => kept_execStartEnLimit t s
  | .gateFaultClear t r gate, s => kept_execGateFaultClear t r gate s
  | .gateQuench t r arg, s => kept_execGateQuench t r arg s
  | .sealPathFault t, s => kept_execSealPathFault t s
  | .immoChallenge t f, s => kept_execImmoChallenge t f s
  | .immoAck t f, s => kept_execImmoAck t f s
  | .immoReleasePeriod t, s => kept_execImmoReleasePeriod t s
  | .immoWaitExpiry t, s => kept_execImmoWaitExpiry t s
  | .limiterCut t lim ch, s => kept_execLimiterCut t lim ch s
  | .gpioHoldExpiry t pin, s => kept_execGpioHoldExpiry t pin s
  | .blockStart t tsh, s => kept_execBlockStart t tsh s
  | .opportunityStart t, s => kept_execOpportunityStart t s
  | .uwbFrameLaunch t slot onAir, s => kept_execUwbFrameLaunch t slot onAir s
  | .uwbResponse t psdu air, s => kept_execUwbResponse t psdu air s
  | .uwbReport t psdu, s => kept_execUwbReport t psdu s
  | .blink t psdu air, s => kept_execBlink t psdu air s
  | .uwbSync t slot psdu air, s => kept_execUwbSync t slot psdu air s
  | .uwbRxWindowEnd t, s => kept_execUwbRxWindowEnd t s
  | .roundClose t, s => kept_execRoundClose t s
  | .uwbAuxTx t r arg, s => kept_execUwbAuxTx t r arg s
  | .uwbAuxRx t r arg, s => kept_execUwbAuxRx t r arg s
  | .uwbAuxDone t onAir rx, s => kept_execUwbAuxDone t onAir rx s
  | .transceiverRequest t xc cls tx at_ fin chan lateOk who, s => kept_execTransceiverRequest t xc cls tx at_ fin chan lateOk who s
  | .synthLocked t xc, s => kept_execSynthLocked t xc s
  | .synthLockTimeout t xc, s => kept_execSynthLockTimeout t xc s
  | .packetEnd t xc planned, s => kept_execPacketEnd t xc planned s
  | .keepReadyExpiry t xc, s => kept_execKeepReadyExpiry t xc s
  | .offDelayExpiry t xc, s => kept_execOffDelayExpiry t xc s
  | .gapCalibrationStart t xc, s => kept_execGapCalibrationStart t xc s
  | .forcedCalibrationStart t xc, s => kept_execForcedCalibrationStart t xc s
  | .calibrationDone t xc vals metric, s => kept_execCalibrationDone t xc vals metric s
  | .rfcCalRun t r arg, s => kept_execRfcCalRun t r arg s
  | .annealTick t temp, s => kept_execAnnealTick t temp s
  | .advertisingEvent t onAir, s => kept_execAdvertisingEvent t onAir s
  | .connectionOpen t interval latency timeout phy update, s => kept_execConnectionOpen t interval latency timeout phy update s
  | .connectionClose t conn, s => kept_execConnectionClose t conn s
  | .connectionEvent t conn overlap rssi dwell onAir more, s => kept_execConnectionEvent t conn overlap rssi dwell onAir more s
  | .mtuExchange t conn mtu, s => kept_execMtuExchange t conn mtu s
  | .cccdWrite t conn handle value, s => kept_execCccdWrite t conn handle value s
  | .smpPairingRequest t conn, s => kept_execSmpPairingRequest t conn s
  | .llEncReq t conn, s => kept_execLlEncReq t conn s
  | .phyUpdate t conn phy, s => kept_execPhyUpdate t conn phy s
  | .connectionParamRequest t conn interval latency timeout, s => kept_execConnectionParamRequest t conn interval latency timeout s
  | .noSessionLimit t conn, s => kept_execNoSessionLimit t conn s
  | .boostExpiry t, s => kept_execBoostExpiry t s
  | .bleEngPublish t r arg, s => kept_execBleEngPublish t r arg s
  | .bleEngNotify t r arg, s => kept_execBleEngNotify t r arg s
  | .bleEngRelease t r arg, s => kept_execBleEngRelease t r arg s
  | .bleEngRx t r arg, s => kept_execBleEngRx t r arg s
  | .engineCharWrite t conn handle kind d, s => kept_execEngineCharWrite t conn handle kind d s
  | .attRead t conn handle, s => kept_execAttRead t conn handle s
  | .indicationConfirm t conn, s => kept_execIndicationConfirm t conn s
  | .capScan t cs, s => kept_execCapScan t cs s
  | .capConfirmMeasure t n c, s => kept_execCapConfirmMeasure t n c s
  | .capStuck t n, s => kept_execCapStuck t n s
  | .touchHandoff t n, s => kept_execTouchHandoff t n s
  | .lfExchangeStart t vlf, s => kept_execLfExchangeStart t vlf s
  | .lfDriveMeasure t peak phase short hot, s => kept_execLfDriveMeasure t peak phase short hot s
  | .lfOvercurrentCut t, s => kept_execLfOvercurrentCut t s
  | .lfCarrierReturn t, s => kept_execLfCarrierReturn t s
  | .seg1 t halves, s => kept_execSeg1 t halves s
  | .lfNoSync t, s => kept_execLfNoSync t s
  | .seg2 t halves snr, s => kept_execSeg2 t halves snr s
  | .reply t halves snr, s => kept_execReply t halves snr s
  | .uid t halves, s => kept_execUid t halves s
  | .confirm t halves, s => kept_execConfirm t halves s
  | .lfDiagRun t r ch peak phase short hot ovr vlf, s => kept_execLfDiagRun t r ch peak phase short hot ovr vlf s
  | .vlfRecover t vlf, s => kept_execVlfRecover t vlf s
  | .nfcPing t p ext amp phase, s => kept_execNfcPing t p ext amp phase s
  | .nfcActivation t p ext vnfc cur phase, s => kept_execNfcActivation t p ext vnfc cur phase s
  | .nfcCardFrame t p step d, s => kept_execNfcCardFrame t p step d s
  | .nfcReserveAttempt t p ext vnfc cur phase, s => kept_execNfcReserveAttempt t p ext vnfc cur phase s
  | .nfcRApdu t p d, s => kept_execNfcRApdu t p d s
  | .nfcResponseTimeout t p failed, s => kept_execNfcResponseTimeout t p failed s
  | .nfcIdleEnd t p, s => kept_execNfcIdleEnd t p s
  | .nfcExchangeMax t p, s => kept_execNfcExchangeMax t p s
  | .nfcReactivate t p ext vnfc cur phase, s => kept_execNfcReactivate t p ext vnfc cur phase s
  | .nfcOvercurrentCut t p, s => kept_execNfcOvercurrentCut t p s
  | .nfcFaultClear t r arg, s => kept_execNfcFaultClear t r arg s
  | .vnfcRecover t vnfc, s => kept_execVnfcRecover t vnfc s
  | .fieldPowerUp t byField, s => kept_execFieldPowerUp t byField s
  | .tearRecoveryEnd t, s => kept_execTearRecoveryEnd t s
  | .fieldLoss t step, s => kept_execFieldLoss t step s
  | .reqa t, s => kept_execReqa t s
  | .wupa t, s => kept_execWupa t s
  | .anticollision t level select known, s => kept_execAnticollision t level select known s
  | .rats t, s => kept_execRats t s
  | .ppsRequest t pps1, s => kept_execPpsRequest t pps1 s
  | .hlta t, s => kept_execHlta t s
  | .sDeselect t, s => kept_execSDeselect t s
  | .selectApplication t aid, s => kept_execSelectApplication t aid s
  | .selectFile t fid, s => kept_execSelectFile t fid s
  | .readBinary t off le, s => kept_execReadBinary t off le s
  | .updateBinary t, s => kept_execUpdateBinary t s
  | .getInfo t, s => kept_execGetInfo t s
  | .authBegin t key, s => kept_execAuthBegin t key s
  | .authFinish t key data, s => kept_execAuthFinish t key data s
  | .getRecordInfo t n, s => kept_execGetRecordInfo t n s
  | .readRecord t n data, s => kept_execReadRecord t n data s
  | .writeRecord t n data, s => kept_execWriteRecord t n data s
  | .tagBadApdu t cla ins p1, s => kept_execTagBadApdu t cla ins p1 s
  | .tagWriteDone t, s => kept_execTagWriteDone t s
  | .tagRecWrite t r n data, s => kept_execTagRecWrite t r n data s
  | .tagRecAclWrite t r acl, s => kept_execTagRecAclWrite t r acl s
  | .tagNdefStage t r off data, s => kept_execTagNdefStage t r off data s
  | .tagNdefCommit t r nlen, s => kept_execTagNdefCommit t r nlen s
  | .tagKeyWrite t r k blob, s => kept_execTagKeyWrite t r k blob s
  | .tagKeyUnblock t r k, s => kept_execTagKeyUnblock t r k s
  | .cxSubmit t r d, s => kept_execCxSubmit t r d s
  | .cxTakeResult t r, s => kept_execCxTakeResult t r s
  | .cxBlockDone t core, s => kept_execCxBlockDone t core s
  | .cxRequestDone t page, s => kept_execCxRequestDone t page s
  | .keyImport t r arg, s => kept_execKeyImport t r arg s
  | .keyGenerate t r arg, s => kept_execKeyGenerate t r arg s
  | .keyDerive t r arg, s => kept_execKeyDerive t r arg s
  | .keyExport t r arg, s => kept_execKeyExport t r arg s
  | .keyErase t r arg, s => kept_execKeyErase t r arg s
  | .keyZeroize t r arg, s => kept_execKeyZeroize t r arg s
  | .keyZeroizeAll t r arg, s => kept_execKeyZeroizeAll t r arg s
  | .zeroizeOverwriteDone t slot, s => kept_execZeroizeOverwriteDone t slot s
  | .keyMirror t p wl, s => kept_execKeyMirror t p wl s
  | .keyMirrorAck t p wl, s => kept_execKeyMirrorAck t p wl s
  | .keyMirrorTimeout t, s => kept_execKeyMirrorTimeout t s
  | .sourceSettled t src, s => kept_execSourceSettled t src s
  | .assayBlock t src blk, s => kept_execAssayBlock t src blk s
  | .sourceRestartDone t src, s => kept_execSourceRestartDone t src s
  | .drbgReseed t, s => kept_execDrbgReseed t s
  | .reseedLimit t, s => kept_execReseedLimit t s
  | .drbgGenerate t, s => kept_execDrbgGenerate t s
  | .rngRandom t r, s => kept_execRngRandom t r s
  | .add t e, s => kept_execAdd t e s
  | .sub t e, s => kept_execSub t e s
  | .and_ t e, s => kept_execAnd t e s
  | .or_ t e, s => kept_execOr t e s
  | .xor_ t e, s => kept_execXor t e s
  | .shl t e, s => kept_execShl t e s
  | .shr t e, s => kept_execShr t e s
  | .sar t e, s => kept_execSar t e s
  | .addi t e, s => kept_execAddi t e s
  | .andi t e, s => kept_execAndi t e s
  | .ori t e, s => kept_execOri t e s
  | .xori t e, s => kept_execXori t e s
  | .shli t e, s => kept_execShli t e s
  | .shri t e, s => kept_execShri t e s
  | .sari t e, s => kept_execSari t e s
  | .ldi t e, s => kept_execLdi t e s
  | .lui t e, s => kept_execLui t e s
  | .mul t e, s => kept_execMul t e s
  | .muls t e, s => kept_execMuls t e s
  | .mulResult t e, s => kept_execMulResult t e s
  | .mov t e, s => kept_execMov t e s
  | .clz t e, s => kept_execClz t e s
  | .bswap t e, s => kept_execBswap t e s
  | .cmp t e, s => kept_execCmp t e s
  | .cmpi t e, s => kept_execCmpi t e s
  | .plog t e, s => kept_execPlog t e s
  | .ldw t e, s => kept_execLdw t e s
  | .ldh t e, s => kept_execLdh t e s
  | .ldb t e, s => kept_execLdb t e s
  | .stw t e, s => kept_execStw t e s
  | .sth t e, s => kept_execSth t e s
  | .stb t e, s => kept_execStb t e s
  | .ldwp t e, s => kept_execLdwp t e s
  | .stwp t e, s => kept_execStwp t e s
  | .ldo t e, s => kept_execLdo t e s
  | .ldoReadRecord t e, s => kept_execLdoReadRecord t e s
  | .sto t e, s => kept_execSto t e s
  | .stoExec t e, s => kept_execStoExec t e s
  | .engineDictComplete t e, s => kept_execEngineDictComplete t e s
  | .br t e, s => kept_execBr t e s
  | .call t e, s => kept_execCall t e s
  | .ret t e, s => kept_execRet t e s
  | .jr t e, s => kept_execJr t e s
  | .callr t e, s => kept_execCallr t e s
  | .rpt t e, s => kept_execRpt t e s
  | .rptr t e, s => kept_execRptr t e s
  | .mfs t e, s => kept_execMfs t e s
  | .mts t e, s => kept_execMts t e s
  | .wfe t e, s => kept_execWfe t e s
  | .waitt t e, s => kept_execWaitt t e s
  | .engineEventWake t e, s => kept_execEngineEventWake t e s
  | .waittDeadline t e, s => kept_execWaittDeadline t e s
  | .sev t e, s => kept_execSev t e s
  | .stop t e, s => kept_execStop t e s
  | .nop t e, s => kept_execNop t e s
  | .illegalOp t e, s => kept_execIllegalOp t e s
  | .engineWatchdog t e, s => kept_execEngineWatchdog t e s
  | .trapRestart t e, s => kept_execTrapRestart t e s
  | .breakpointHit t e, s => kept_execBreakpointHit t e s
  | .engControlStart t r e, s => kept_execEngControlStart t r e s
  | .engControlStop t r e, s => kept_execEngControlStop t r e s
  | .engControlRestart t r e, s => kept_execEngControlRestart t r e s
  | .engLoadBegin t r e total, s => kept_execEngLoadBegin t r e total s
  | .engLoadData t r off data, s => kept_execEngLoadData t r off data s
  | .engLoadCommit t r, s => kept_execEngLoadCommit t r s
  | .engLoadCommitDone t, s => kept_execEngLoadCommitDone t s
  | .engLoadAbort t r, s => kept_execEngLoadAbort t r s
  | .engLoadTimeout t, s => kept_execEngLoadTimeout t s
  | .engDoorbell t r e v, s => kept_execEngDoorbell t r e v s
  | .engDoorbellRx t r, s => kept_execEngDoorbellRx t r s
  | .engObjWriteRx t r, s => kept_execEngObjWriteRx t r s
  | .gpioEdge t pin level, s => kept_execGpioEdge t pin level s
  | .dbgIdent t f, s => kept_execDbgIdent t f s
  | .dbgUnlock t f, s => kept_execDbgUnlock t f s
  | .dbgHalt t f, s => kept_execDbgHalt t f s
  | .dbgRun t f, s => kept_execDbgRun t f s
  | .dbgStep t f, s => kept_execDbgStep t f s
  | .dbgRegRead t f, s => kept_execDbgRegRead t f s
  | .dbgRegWrite t f, s => kept_execDbgRegWrite t f s
  | .dbgMemRead t f, s => kept_execDbgMemRead t f s
  | .dbgMemWrite t f, s => kept_execDbgMemWrite t f s
  | .dbgBreak t f, s => kept_execDbgBreak t f s
  | .canFrameRx t c f sof, s => kept_execCanFrameRx t c f sof s
  | .netCanTx t r arg, s => kept_execNetCanTx t r arg s
  | .netCanRx t r, s => kept_execNetCanRx t r s
  | .netCanRecover t r c, s => kept_execNetCanRecover t r c s
  | .canBusOff t c, s => kept_execCanBusOff t c s
  | .canBusOffRecovery t c, s => kept_execCanBusOffRecovery t c s
  | .canFrameTxDone t c sof won, s => kept_execCanFrameTxDone t c sof won s
  | .launchTimeReached t, s => kept_execLaunchTimeReached t s
  | .netEthTx t r arg, s => kept_execNetEthTx t r arg s
  | .netEthRx t r, s => kept_execNetEthRx t r s
  | .netTxDone t r, s => kept_execNetTxDone t r s
  | .t1sFrameRx t da sa etype payload fcsOk sfd, s => kept_execT1sFrameRx t da sa etype payload fcsOk sfd s
  | .t1sFrameTxDone t sfd coll, s => kept_execT1sFrameTxDone t sfd coll s
  | .plcaBeaconLoss t, s => kept_execPlcaBeaconLoss t s
  | .wairilLinkDown t viol fills, s => kept_execWairilLinkDown t viol fills s
  | .wairilCommaAlign t, s => kept_execWairilCommaAlign t s
  | .wairilLinkUp t, s => kept_execWairilLinkUp t s
  | .qsOperationDone t ok, s => kept_execQsOperationDone t ok s
  | .pps t, s => kept_execPps t s
  | .ppsWidthEnd t, s => kept_execPpsWidthEnd t s
  | .timeStep t r amount neg, s => kept_execTimeStep t r amount neg s
  | .timeSet t r time, s => kept_execTimeSet t r time s
  | .timeSlew t r ns, s => kept_execTimeSlew t r ns s
  | .timeStepConfirm t r ceiling, s => kept_execTimeStepConfirm t r ceiling s
  | .timeAsymmetryWrite t r v, s => kept_execTimeAsymmetryWrite t r v s
  | .sync t seq twoStep origin corr, s => kept_execSync t seq twoStep origin corr s
  | .followUp t seq origin corr, s => kept_execFollowUp t seq origin corr s
  | .pdelayReq t seq src, s => kept_execPdelayReq t seq src s
  | .pdelayResp t follow seq ts, s => kept_execPdelayResp t follow seq ts s
  | .announce t pv, s => kept_execAnnounce t pv s
  | .syncInterval t, s => kept_execSyncInterval t s
  | .pdelayInterval t, s => kept_execPdelayInterval t s
  | .announceInterval t, s => kept_execAnnounceInterval t s
  | .timeSourceLoss t, s => kept_execTimeSourceLoss t s
  | .holdoverLimit t, s => kept_execHoldoverLimit t s
  | .tsInEdge t ch rising, s => kept_execTsInEdge t ch rising s
  | .heartbeat t p wl, s => kept_execHeartbeat t p wl s
  | .heartbeatPeriod t wl, s => kept_execHeartbeatPeriod t wl s
  | .presence t p, s => kept_execPresence t p s
  | .presencePeriod t, s => kept_execPresencePeriod t s
  | .roundPlan t p, s => kept_execRoundPlan t p s
  | .report t p, s => kept_execReport t p s
  | .lfRequest t p, s => kept_execLfRequest t p s
  | .join t p, s => kept_execJoin t p s
  | .joinAck t p, s => kept_execJoinAck t p s
  | .joinRepeat t, s => kept_execJoinRepeat t s
  | .workerLost t node, s => kept_execWorkerLost t node s
  | .mgrLoss t, s => kept_execMgrLoss t s
  | .peerLoss t wl, s => kept_execPeerLoss t wl s
  | .twinResolutionTimeout t, s => kept_execTwinResolutionTimeout t s
  | .electionTimeout t, s => kept_execElectionTimeout t s
  | .mirror t p wl, s => kept_execMirror t p wl s
  | .tinDigest t p wl, s => kept_execTinDigest t p wl s
  | .tinPull t p wl, s => kept_execTinPull t p wl s
  | .tinData t p wl, s => kept_execTinData t p wl s
  | .tinPeriod t, s => kept_execTinPeriod t s
  | .twinTinRun t r, s => kept_execTwinTinRun t r s
  | .twinTakeover t r arg, s => kept_execTwinTakeover t r arg s
  | .commit t p wl, s => kept_execCommit t p wl s
  | .commitAck t p wl, s => kept_execCommitAck t p wl s
  | .commitResend t, s => kept_execCommitResend t s
  | .vaonPor t, s => kept_execVaonPor t s
  | .vaonLoss t step, s => kept_execVaonLoss t step s
  | .vsupBrownout t, s => kept_execVsupBrownout t s
  | .vioUndervoltage t, s => kept_execVioUndervoltage t s
  | .vioReturn t, s => kept_execVioReturn t s
  | .resetN t, s => kept_execResetN t s
  | .resetRelease t twinId qsType qsId qsKb, s => kept_execResetRelease t twinId qsType qsId qsKb s
  | .startUpSelfTestDone t fail sealBad deny, s => kept_execStartUpSelfTestDone t fail sealBad deny s
  | .aonWatchdog t, s => kept_execAonWatchdog t s
  | .watchdogRestart t, s => kept_execWatchdogRestart t s
  | .pwrShutdown t r arg, s => kept_execPwrShutdown t r arg s
  | .shutdownExit t src, s => kept_execShutdownExit t src s
  | .corePowerDown t, s => kept_execCorePowerDown t s
  | .coreWake t src, s => kept_execCoreWake t src s
  | .scheduledWake t, s => kept_execScheduledWake t s
  | .pllLock t, s => kept_execPllLock t s
  | .pllLockLoss t, s => kept_execPllLockLoss t s
  | .pllRelockTimeout t, s => kept_execPllRelockTimeout t s
  | .referenceMonitorPass t, s => kept_execReferenceMonitorPass t s
  | .referenceLoss t, s => kept_execReferenceLoss t s
  | .slowXtalSwitch t, s => kept_execSlowXtalSwitch t s
  | .slowXtalFail t, s => kept_execSlowXtalFail t s
  | .clockRatioMeasure t cycles, s => kept_execClockRatioMeasure t cycles s
  | .tmrCtrlWrite t r n v, s => kept_execTmrCtrlWrite t r n v s
  | .tmrEndWrite t r n v, s => kept_execTmrEndWrite t r n v s
  | .tmrCmpWrite t r n v, s => kept_execTmrCmpWrite t r n v s
  | .tmrStatusWrite t r n v, s => kept_execTmrStatusWrite t r n v s
  | .tmrCaptureRead t r n, s => kept_execTmrCaptureRead t r n s
  | .tmrCountEnd t n, s => kept_execTmrCountEnd t n s
  | .tmrMatch t n, s => kept_execTmrMatch t n s
  | .tmrMatchB t n, s => kept_execTmrMatchB t n s
  | .tmrZeroTurn t n, s => kept_execTmrZeroTurn t n s
  | .tmrCaptureEdge t n src rising, s => kept_execTmrCaptureEdge t n src rising s
  | .burnishStep t err part word item, s => kept_execBurnishStep t err part word item s
  | .burnishSlotWake t, s => kept_execBurnishSlotWake t s
  | .limiterSample t power temp, s => kept_execLimiterSample t power temp s
  | .limiterStageFall t, s => kept_execLimiterStageFall t s
  | .canTelemetry t, s => kept_execCanTelemetry t s
  | .logHeadWrite t, s => kept_execLogHeadWrite t s
  | .logSectorWrite t first, s => kept_execLogSectorWrite t first s
  | .canBusError t c tx, s => kept_execCanBusError t c tx s
  | .plcaBeaconReturn t, s => kept_execPlcaBeaconReturn t s
  | .notifyGapExpiry t r idx sub, s => kept_execNotifyGapExpiry t r idx sub s
  | .nfcWupRetry t p, s => kept_execNfcWupRetry t p s

theorem kept_of_exec {c : Instr} {s u : State} (h : exec c s = .next u) : Kept s u := by
  obtain ⟨v, hv, hkept⟩ := kept_exec c s
  obtain rfl : v = u := Host.Outcome.next.inj (hv.symm.trans h)
  exact hkept

/-- A step takes the front of the queue and keeps the rest of the state as a command does; with nothing waiting it keeps the state. -/
theorem kept_step {s s' : State} (h : step s = .next s') : Kept { s with pending := s.pending.tail } s' := by
  unfold step at h
  split at h
  next hq =>
    obtain rfl := Host.Outcome.next.inj h
    exact ⟨rfl, by rw [hq]; rfl, Nat.le_refl _, id, id⟩
  next c rest hq =>
    rw [hq]
    exact kept_of_exec h

end Sys2Proof.Machine
end

section
/-! What the interlock says ball by ball (R240): an A ball and a B ball of one group are never high together. -/
namespace Sys2Proof.Machine

theorem aBall_low_of_groupA {x : Gate} {g : Nat} (h : x.groupA (gateGroup g) = false) : (x.aBall g).high = false := by
  unfold Gate.aBall
  rw [List.getD_eq_getElem?_getD]
  cases hg : x.a[g]? with
  | none => rfl
  | some b => exact groupA_false.mp h g b hg rfl

/-- The B ball that a group drives is low while an A ball of the group is high. -/
theorem Gate.Interlocked.bBall_low {x : Gate} (hx : x.Interlocked) {g : Nat} (h : (x.aBall g).high = true) :
    (x.bBall (gateGroup g)).high = false := by
  obtain ⟨-, hgroups⟩ := hx
  obtain ⟨hexcl, -⟩ := hgroups (gateGroup g)
  exact Bool.eq_false_iff.mpr fun hb => Bool.eq_false_iff.mp (aBall_low_of_groupA (hexcl hb)) h

/-- Of the three B balls, that of gate 0 is never driven, and those of gates 1 and 2 are the ones their groups drive (R241). -/
theorem Gate.Interlocked.b_low {x : Gate} (hx : x.Interlocked) {g k : Nat} (hk : k < 3) (hgk : gateGroup g = gateGroup k)
    (h : (x.aBall g).high = true) : (x.b.getD k ⟨false, 0⟩).high = false := by
  have hgroup := hgk ▸ hx.bBall_low h
  match k, hk with
  | 0, _ => exact hx.1
  | 1, _ => exact hgroup
  | 2, _ => exact hgroup

/-- Settles O6: the interlock is among what every step keeps, and it says of each pair of balls that they are not high together. -/
theorem stepKeepsTheInterlock : Obligations.StepKeepsTheInterlock := by
  unfold Obligations.StepKeepsTheInterlock
  intro s s' hlock hstep
  have hlock' : s'.gate.Interlocked := (kept_step hstep).lock hlock
  exact ⟨hlock', fun g k _ hk hgk hhigh => hlock'.b_low hk hgk hhigh⟩

end Sys2Proof.Machine
end

section
/-! Which engines SEV reaches (R534, R537). What an event does to the engine it is raised in is said once, of the engine alone; SEV then
goes over the present engines one by one, and reaches each once at most. -/
namespace Sys2Proof.Machine

/-- What becomes of an engine in which event bit `b` is raised (R534). -/
def Engine.hear (e : Engine) (b : Nat) : Engine :=
  if e.listens then { e with evt := e.evt ||| BitVec.ofNat 32 (2 ^ b) } else e

theorem Engine.hear_of_listens {e : Engine} (h : e.listens = true) (b : Nat) :
    e.hear b = { e with evt := e.evt ||| BitVec.ofNat 32 (2 ^ b) } := if_pos h

theorem Engine.hear_of_not_listens {e : Engine} (h : e.listens = false) (b : Nat) : e.hear b = e := by
  simp [Engine.hear, h]

/-- An engine after reset takes no event, so that a number beyond the engines reads the same before and after one. -/
@[simp] theorem Engine.hear_reset (b : Nat) : Engine.reset.hear b = .reset := Engine.hear_of_not_listens rfl b

theorem State.engine_engEv (s : State) (n b m : Nat) :
    (s.engEv n b).engine m = if n = m then (s.engine m).hear b else s.engine m := by
  have hget : (s.engEv n b).engine m = ((s.eng.es.modify n (Engine.hear · b))[m]?).getD .reset := List.getD_eq_getElem?_getD
  rw [hget, State.engine, List.getD_eq_getElem?_getD, List.getElem?_modify]
  cases s.eng.es[m]? <;> by_cases h : n = m <;> simp [h]

/-- SEV over the first `k` engines: an engine among them that the mask names hears the event, and no other does. -/
theorem engine_foldl_engEv (mask b m : Nat) (s : State) (k : Nat) :
    ((List.range k).foldl (fun s i => if bit mask i then s.engEv i b else s) s).engine m =
      if m < k ∧ bit mask m = true then (s.engine m).hear b else s.engine m := by
  induction k with
  | zero => simp
  | succ k ih =>
    rw [List.range_succ, List.foldl_append, List.foldl_cons, List.foldl_nil]
    by_cases hk : bit mask k = true
    · rw [if_pos hk, State.engine_engEv, ih]
      by_cases hkm : k = m
      · subst hkm
        simp [hk]
      · have hlt : m < k + 1 ↔ m < k := by omega
        simp [hkm, hlt]
    · rw [if_neg hk, ih]
      have hlt : m < k + 1 ∧ bit mask m = true ↔ m < k ∧ bit mask m = true := by
        refine and_congr_left fun hm => ?_
        have hne : m ≠ k := fun h => hk (h ▸ hm)
        omega
      simp only [hlt]

theorem State.engine_sev (s : State) (n mask m : Nat) :
    (s.sev n mask).engine m =
      if m < engCount s.fuse.variant ∧ bit mask m = true then (s.engine m).hear (8 + n) else s.engine m :=
  engine_foldl_engEv mask (8 + n) m s _

/-- Settles O15: a present engine that the mask names hears the event, and hearing changes an engine only where it listens. -/
theorem setEventReachesTheNamedEngines : Obligations.SetEventReachesTheNamedEngines := by
  unfold Obligations.SetEventReachesTheNamedEngines
  intro n mask s m _ _
  rw [State.engine_sev]
  refine ⟨fun hpresent hnamed hlistens => ?_, ?_⟩
  · rw [if_pos ⟨hpresent, hnamed⟩, Engine.hear_of_listens hlistens]
  · rintro (habsent | hunnamed | hdeaf)
    · exact if_neg fun h => absurd h.1 (Nat.not_lt.mpr habsent)
    · simp [hunnamed]
    · rw [Engine.hear_of_not_listens hdeaf, ite_self]

end Sys2Proof.Machine
end

section
/-! Witnessing (R606, R608, R626). Which workers count for a manager is a predicate on the nodes, and workers that name different managers
are different workers of the one count. -/
namespace Sys2Proof.Machine

/-- Whether node `n` is a worker whose last PRESENCE names `mgr`, was not heard before `since` and is at most three periods old (R608). -/
def State.names (s : State) (mgr since n : Nat) : Bool :=
  s.workerState n ≠ 0 && (s.wnode n).mgr = mgr &&
    ((s.wnode n).seen.map fun t => decide (since ≤ t && s.now ≤ t + 3 * s.beat)).getD false

theorem State.names_iff {s : State} {mgr since n : Nat} :
    s.names mgr since n = true ↔
      s.workerState n ≠ 0 ∧ (s.wnode n).mgr = mgr ∧ ∃ t ∈ (s.wnode n).seen, since ≤ t ∧ s.now ≤ t + 3 * s.beat := by
  unfold State.names
  cases (s.wnode n).seen <;> simp [and_assoc]

theorem State.naming_eq_countP (s : State) (mgr since : Nat) :
    s.naming mgr since = (List.range 16).countP (s.names mgr since) :=
  List.countP_eq_length_filter.symm

theorem State.workerCount_eq_countP (s : State) :
    s.workerCount = (List.range 16).countP fun n => s.workerState n ≠ 0 :=
  List.countP_eq_length_filter.symm

theorem State.majority_iff {s : State} {k : Nat} : s.majority k = true ↔ s.workerCount < 2 * k := decide_eq_true_iff

theorem countP_add_countP_le_of_disjoint {α : Type} {p q r : α → Bool} (l : List α) (hp : ∀ a, p a = true → r a = true)
    (hq : ∀ a, q a = true → r a = true) (hpq : ∀ a, p a = true → ¬ q a = true) : l.countP p + l.countP q ≤ l.countP r := by
  rw [List.countP_eq_countP_filter_add l r p, List.countP_filter, List.countP_filter]
  refine Nat.add_le_add (List.countP_mono_left fun a _ ha => ?_) (List.countP_mono_left fun a _ ha => ?_)
  · simp [ha, hp a ha]
  · have hpa : ¬ p a = true := fun h => hpq a h ha
    simp [hpa, hq a ha]

theorem State.worker_of_names {s : State} {mgr since n : Nat} (h : s.names mgr since n = true) :
    decide (s.workerState n ≠ 0) = true :=
  decide_eq_true (State.names_iff.mp h).1

theorem State.naming_le_workerCount (s : State) (mgr since : Nat) : s.naming mgr since ≤ s.workerCount := by
  rw [s.naming_eq_countP, s.workerCount_eq_countP]
  exact List.countP_mono_left fun _ _ => State.worker_of_names

/-- A worker's last PRESENCE names one manager, so that no worker counts for two of them. -/
theorem State.naming_add_naming_le (s : State) {m1 m2 : Nat} (hne : m1 ≠ m2) (t1 t2 : Nat) :
    s.naming m1 t1 + s.naming m2 t2 ≤ s.workerCount := by
  rw [s.naming_eq_countP, s.naming_eq_countP, s.workerCount_eq_countP]
  refine countP_add_countP_le_of_disjoint _ (fun _ => State.worker_of_names) (fun _ => State.worker_of_names) fun n h1 h2 => hne ?_
  obtain ⟨-, hm1, -⟩ := State.names_iff.mp h1
  obtain ⟨-, hm2, -⟩ := State.names_iff.mp h2
  exact hm1.symm.trans hm2

/-- Settles O10: two majorities of different names would together count more workers than there are. -/
theorem noMajorityNamesTwoDevices : Obligations.NoMajorityNamesTwoDevices := by
  unfold Obligations.NoMajorityNamesTwoDevices
  intro s m1 m2 t1 t2 h1 h2
  rw [State.majority_iff] at h1 h2
  refine Decidable.byContradiction fun hne => ?_
  have hle := s.naming_add_naming_le hne t1 t2
  omega

theorem State.witnessed_iff {s : State} : s.witnessed = true ↔ s.workerCount < 2 * s.naming s.seg.node 0 :=
  State.majority_iff

theorem State.readVal_segWitness (s : State) (who : Requester) : s.readVal who 0x4208 0 = toLe 1 (b2n s.witnessed) := by
  have hsize : ((findObj 0x4208 0).map fun o => o.ty.size) = some 1 := by decide +kernel
  have hvalue : s.readNat who 0x4208 0 = b2n s.witnessed := by simp [State.readNat, State.readNet]
  simp [State.readVal, hsize, hvalue]

/-- Settles O9: SegWitness counts the nodes by the conditions of R608, and no count of none exceeds none. -/
theorem witnessIsAStrictMajority : Obligations.WitnessIsAStrictMajority := by
  unfold Obligations.WitnessIsAStrictMajority
  intro s who
  refine ⟨?_, s.readVal_segWitness who, fun hnone => Bool.eq_false_iff.mpr fun hwit => ?_⟩
  · rw [State.witnessed_iff, s.naming_eq_countP]
    refine iff_of_eq (congrArg (s.workerCount < 2 * ·) (List.countP_congr fun n _ => ?_))
    rw [State.names_iff, decide_eq_true_iff]
    simp [State.beat]
  · have hlt := State.witnessed_iff.mp hwit
    have hle := s.naming_le_workerCount s.seg.node 0
    omega

end Sys2Proof.Machine
end

section
/-! What every step keeps, and what it runs: the statements that follow from the law of each command's meaning. -/
namespace Sys2Proof.Machine

/-- Settles O1: both branches of a step are its definition on the queue it finds. -/
theorem stepRunsTheFrontCommand : Obligations.StepRunsTheFrontCommand := by
  unfold Obligations.StepRunsTheFrontCommand
  intro s
  constructor
  · intro c rest hq
    simp only [step, hq]
  · intro hq
    simp only [step, hq]

/-- Settles O3: each row's law names the next state. -/
theorem everyCommandAnswersNext : Obligations.EveryCommandAnswersNext := by
  unfold Obligations.EveryCommandAnswersNext
  intro c s
  obtain ⟨u, hu, -⟩ := kept_exec c s
  exact ⟨u, hu⟩

/-- Settles O5: the canonical forms are among what every step keeps. -/
theorem stepKeepsCanonicalForms : Obligations.StepKeepsCanonicalForms := by
  unfold Obligations.StepKeepsCanonicalForms
  intro s s' hcanon hstep
  exact (kept_step hstep).canon hcanon

/-- Settles O7: the fuses, the rest of the queue and time's direction are among what every step keeps. -/
theorem stepKeepsFusesQueueAndTime : Obligations.StepKeepsFusesQueueAndTime := by
  unfold Obligations.StepKeepsFusesQueueAndTime
  intro s s' hstep
  obtain ⟨hfuse, hpending, hnow, -, -⟩ := kept_step hstep
  exact ⟨hfuse, hpending, hnow⟩

theorem reset_memoriesWf : MemoriesWf State.reset := by
  constructor
  · exact ⟨rfl, rfl⟩
  · intro e he
    obtain rfl : e = Engine.reset := List.eq_of_mem_replicate he
    exact ⟨rfl, rfl⟩

theorem reset_gate_interlocked : State.reset.gate.Interlocked := by
  refine ⟨rfl, fun grp => ⟨fun h => ?_, fun d h => ?_⟩⟩
  · match grp with
    | 0 => cases h
    | 1 => cases h
    | _ + 2 => cases h
  · match grp with
    | 0 => cases h
    | 1 => cases h
    | _ + 2 => cases h

theorem reset_aBall_low (g : Nat) : (State.reset.gate.aBall g).high = false := by
  match g with
  | 0 => rfl
  | 1 => rfl
  | 2 => rfl
  | _ + 3 => rfl

theorem reset_bBall_low (g : Nat) : (State.reset.gate.bBall g).high = false := by
  match g with
  | 0 => rfl
  | 1 => rfl
  | _ + 2 => rfl

theorem reset_deadOf_none (g : Nat) : State.reset.gate.deadOf g = none := by
  match g with
  | 0 => rfl
  | 1 => rfl
  | _ + 2 => rfl

/-- Settles O4: nothing is stored or pending at reset, and every ball rests. -/
theorem resetMeetsTheInvariants : Obligations.ResetMeetsTheInvariants := by
  unfold Obligations.ResetMeetsTheInvariants
  refine ⟨rfl, ⟨⟨rfl, rfl⟩, reset_memoriesWf⟩, reset_gate_interlocked, fun g => ?_⟩
  exact ⟨reset_aBall_low g, reset_bBall_low g, reset_deadOf_none g, fun sub => ⟨rfl, rfl⟩⟩

/-- Settles O11: a request meets the service, then its session's room, then the checks, and the first that fails decides. -/
theorem refusedRequestsOnlyAnswer : Obligations.RefusedRequestsOnlyAnswer := by
  unfold Obligations.RefusedRequestsOnlyAnswer
  intro s who op idx sub data
  refine ⟨fun c d hserving hmay hroom hcheck => ?_, fun hserving hmay hfull => ?_, fun hdeaf => ?_⟩
  · have hserve : s.serve who (rowReq op idx sub data) = (some ⟨c, d, []⟩, s) := by
      simp [State.serve, hcheck]
    unfold rowReq at *
    simp [State.ask, hserving, hmay, hroom, hserve]
  · simp [State.ask, hserving, hmay, hfull, rowReq]
  · rcases hdeaf with h | h
    · simp [State.ask, h]
    · simp [State.ask, h]

end Sys2Proof.Machine
end

section
/-! What surrounds a command (R36, R81, R96, R97, R534, R636), part by part, where the part finds nothing to do. -/
namespace Sys2Proof.Machine

theorem lfSettle_of_no_session {s : State} (h : ∀ o ∈ s.acc.ses, o = none) : s.lfSettle = s := by
  have hnone : ∀ f : TokSession → Option Nat, (s.acc.ses.filterMap fun o => o.bind f) = [] := by
    intro f
    refine List.filterMap_eq_nil_iff.mpr fun o ho => ?_
    rw [h o ho]
    rfl
  unfold State.lfSettle
  simp only [hnone, List.foldl_nil]

theorem nfcPort_act_none {s : State} (h : ∀ p ∈ s.nfc.ports, p.act = none) (n : Nat) : (s.nfcPort n).act = none := by
  unfold State.nfcPort
  rw [List.getD_eq_getElem?_getD]
  cases hn : s.nfc.ports[n]? with
  | none => rfl
  | some p => exact h p (List.mem_of_getElem? hn)

theorem nfcSend_of_no_card {s : State} {p : Nat} (h : (s.nfcPort p).act = none) : s.nfcSend p = s := by
  simp only [State.nfcSend, h]

theorem nfcSettle_of_no_card {s : State} (h : ∀ p ∈ s.nfc.ports, p.act = none) : s.nfcSettle = s := by
  rw [State.nfcSettle, nfcSend_of_no_card (nfcPort_act_none h 0), nfcSend_of_no_card (nfcPort_act_none h 1)]

theorem deliver_of_no_answer {s : State} (h : s.dict.done = []) : s.deliver = s := by
  rw [State.deliver, h, List.foldl_nil, ← h]

theorem resetSent_of_no_message {s : State} (h : s.dict.resetMsg = none) : s.resetSent = s := by
  simp only [State.resetSent, h]

theorem idleSweep_of_none_waiting {s : State} (h : s.dict.idleWait = []) : s.idleSweep = s := by
  simp [State.idleSweep, h]

theorem notifyAll_of_no_subscription {s : State} (h : s.dict.subs = []) : s.notifyAll = s := by
  simp [State.notifyAll, h]

theorem ntfs_getD_empty {s : State} (h : ∀ x ∈ s.dict.ntfs, x.q = []) (n : Nat) : (s.dict.ntfs.getD n ⟨0, [], []⟩).q = [] := by
  rw [List.getD_eq_getElem?_getD]
  cases hn : s.dict.ntfs[n]? with
  | none => rfl
  | some x => exact h x (List.mem_of_getElem? hn)

theorem ntfFlush_of_no_notification {s : State} (h : ∀ x ∈ s.dict.ntfs, x.q = []) : s.ntfFlush = s := by
  simp only [State.ntfFlush, List.foldl_cons, List.foldl_nil, ntfs_getD_empty h, List.isEmpty_nil, if_true, Bool.true_or]

theorem logOrder_of_no_record {s old : State} (h : s.log.next = old.log.next) : s.logOrder old = s := if_pos h

/-- Settles O16: each part of the surroundings leaves a quiet state, and only the idle time is noted. -/
theorem surroundingsLeaveAQuietPartAlone : Obligations.SurroundingsLeaveAQuietPartAlone := by
  unfold Obligations.SurroundingsLeaveAQuietPartAlone
  intro s s0 hses hcard hdone hmsg hidle hlog hsubs hntf haccess hgate
  have hsettled : ((s.lfSettle.nfcSettle).deliver).resetSent = s := by
    rw [lfSettle_of_no_session hses, nfcSettle_of_no_card hcard, deliver_of_no_answer hdone, resetSent_of_no_message hmsg]
  simp only [State.fin, hsettled, haccess, hgate, ne_eq, not_true_eq_false, if_false, idleSweep_of_none_waiting hidle,
    notifyAll_of_no_subscription hsubs, ntfFlush_of_no_notification hntf, logOrder_of_no_record hlog, State.noteIdle]

end Sys2Proof.Machine
end

section
/-! The engine instructions that issue (R527 to R532): how each shape of operation completes, and what its completion leaves alone. -/
namespace Sys2Proof.Machine

theorem bits_zero_eq (w k : Nat) : bits w 0 k = w % 2 ^ k := by simp [bits]

/-- The shift count of an immediate shift. -/
theorem bits_zero_five (w : Nat) : bits w 0 5 = w % 32 := bits_zero_eq w 5

theorem iS14_eq (w : Nat) : iS14 w = BitVec.ofInt 32 (sext 14 (w % 2 ^ 14)) := by
  rw [iS14, simm, bits_zero_eq]

theorem iU14_eq (w : Nat) : iU14 w = BitVec.ofNat 32 (w % 2 ^ 14) := by
  rw [iU14, bits_zero_eq]

/-- An instruction that writes rd with a value of the engine's registers. -/
theorem issued_set {c : Instr} {s s0 : State} {t n w o : Nat} {e : Engine} {op : Nat → EngOp} {f : Engine → Word32} {v : Word32}
    (hc : exec c s = .next (s.engRun t n fun s => s.engStep n o op)) (h0 : s.tick t = s0) (h : Issues s0 n w o e)
    (hop : op w = opSet (iRd w) f) (hv : f e = v) : Issued c s s0 n (s0.issued n (e.wr (iRd w) v)) := by
  subst hv
  exact issued_go hc h0 h (by rw [hop]; rfl)

/-- An instruction that branches. -/
theorem issued_jump {c : Instr} {s s0 : State} {t n w o a : Nat} {e e1 : Engine} {op : Nat → EngOp}
    (hc : exec c s = .next (s.engRun t n fun s => s.engStep n o op)) (h0 : s.tick t = s0) (h : Issues s0 n w o e)
    (ho : op w e s0.eng.mbx s0.cyc = .jump e1 a) : Issued c s s0 n (s0.setEngine n { e1 with pc := a, pass := false }) :=
  ends_of_engRun hc h0 (by rw [engStep_issues h, issueWord_jump h ho])

theorem opShli_eq (w : Nat) : opShli w = opSet (iRd w) fun e => e.reg (iRa w) <<< (w % 32) := by
  rw [opShli, bits_zero_five]

theorem opShri_eq (w : Nat) : opShri w = opSet (iRd w) fun e => e.reg (iRa w) >>> (w % 32) := by
  rw [opShri, bits_zero_five]

theorem opSari_eq (w : Nat) : opSari w = opSet (iRd w) fun e => (e.reg (iRa w)).sshiftRight (w % 32) := by
  rw [opSari, bits_zero_five]

theorem opLdi_eq (w : Nat) : opLdi w = opSet (iRd w) fun _ => BitVec.ofInt 32 (sext 18 (w % 2 ^ 18)) := by
  rw [opLdi, simm, bits_zero_eq]

theorem opLui_eq (w : Nat) :
    opLui w = opSet (iRd w) fun e => BitVec.ofNat 32 (w % 2 ^ 16) <<< 16 ||| e.reg (iRd w) &&& 0xFFFF := by
  rw [opLui, bits_zero_eq]

theorem opCmpi_eq (w : Nat) :
    opCmpi w = opPred (iPd w) fun e => condHolds (iCond w) (e.reg (bits w 11 4)) (BitVec.ofInt 32 (sext 11 (w % 2 ^ 11))) := by
  rw [opCmpi, simm, bits_zero_eq]

/-- The one product of an engine, when it is due (R530). -/
theorem settle_one_due {e : Engine} {c k : Nat} {x : BitVec 64} (hm : e.mul = [(c, x)]) (hc : c ≤ k) :
    e.settle k = { e with mlo := x.truncate 32, mhi := (x >>> 32).truncate 32, mul := [] } := by
  simp [Engine.settle, hm, hc]

/-- Settles O45: each word's operation is one of the shapes above, and a product that is due arrives alone. -/
theorem engineArithmeticCompletes : Obligations.EngineArithmeticCompletes := by
  unfold Obligations.EngineArithmeticCompletes
  intro t n w o s s0 e h0
  refine ⟨fun hi a b rd ha hb hrd => ?_, fun c x hlive hn hmul hc => ?_⟩
  · subst ha hb hrd
    refine ⟨fun ho => issued_set rfl h0 (ho ▸ hi) rfl rfl, fun ho => issued_set rfl h0 (ho ▸ hi) rfl rfl,
      fun ho => issued_set rfl h0 (ho ▸ hi) rfl rfl, fun ho => issued_set rfl h0 (ho ▸ hi) rfl rfl,
      fun ho => issued_set rfl h0 (ho ▸ hi) rfl rfl, fun ho => issued_set rfl h0 (ho ▸ hi) rfl rfl,
      fun ho => issued_set rfl h0 (ho ▸ hi) rfl rfl, fun ho => issued_set rfl h0 (ho ▸ hi) rfl rfl,
      fun ho => issued_set rfl h0 (ho ▸ hi) rfl (by rw [iS14_eq]), fun ho => issued_set rfl h0 (ho ▸ hi) rfl (by rw [iU14_eq]),
      fun ho => issued_set rfl h0 (ho ▸ hi) rfl (by rw [iU14_eq]), fun ho => issued_set rfl h0 (ho ▸ hi) rfl (by rw [iU14_eq]),
      fun ho => issued_set rfl h0 (ho ▸ hi) (opShli_eq w) rfl, fun ho => issued_set rfl h0 (ho ▸ hi) (opShri_eq w) rfl,
      fun ho => issued_set rfl h0 (ho ▸ hi) (opSari_eq w) rfl, fun ho => issued_set rfl h0 (ho ▸ hi) (opLdi_eq w) rfl,
      fun ho => issued_set rfl h0 (ho ▸ hi) (opLui_eq w) rfl, fun ho => issued_go rfl h0 (ho ▸ hi) rfl,
      fun ho => issued_go rfl h0 (ho ▸ hi) rfl, fun ho => issued_set rfl h0 (ho ▸ hi) rfl rfl,
      fun ho => issued_set rfl h0 (ho ▸ hi) rfl rfl, fun ho => issued_set rfl h0 (ho ▸ hi) rfl rfl,
      fun ho => issued_go rfl h0 (ho ▸ hi) rfl, fun ho => issued_go rfl h0 (ho ▸ hi) (by rw [opCmpi_eq]; rfl),
      fun ho => issued_go rfl h0 (ho ▸ hi) rfl, fun ho => issued_go rfl h0 (ho ▸ hi) rfl⟩
  · refine ends_of_run rfl h0 ?_
    rw [whenLive_live hlive, State.mulResult, if_pos hn]
    simp only [settle_one_due hmul hc]

/-! ### Frames -/

/-- An engine that issues is one of the part's. -/
theorem Issues.lt_length {s : State} {n w o : Nat} {e : Engine} (h : Issues s n w o e) : n < s.eng.es.length := by
  obtain ⟨hmay, -⟩ := h
  have hst : (s.engine n).st = .running := by
    simp only [State.mayIssue, Bool.and_eq_true, decide_eq_true_eq] at hmay
    exact hmay.1.1.1.1.1.2
  refine Decidable.byContradiction fun hge => ?_
  have : s.engine n = .reset := by
    rw [State.engine, List.getD_eq_getElem?_getD, List.getElem?_eq_none (Nat.le_of_not_lt hge)]
    rfl
  rw [this] at hst
  cases hst

theorem engine_setEngine_self {s : State} {n : Nat} (h : n < s.eng.es.length) (e : Engine) : (s.setEngine n e).engine n = e := by
  simp [State.engine, State.setEngine, putAt, h]

theorem engine_setEngine_ne (s : State) {n m : Nat} (h : m ≠ n) (e : Engine) : (s.setEngine n e).engine m = s.engine m := by
  simp [State.engine, State.setEngine, putAt, List.getD_eq_getElem?_getD, List.getElem?_set_ne (Ne.symm h)]

/-- The next address or repetition changes PC, RC and what is repeated, and nothing else. -/
theorem next_frame (e : Engine) : ∃ pc rc own rpt, e.next = { e with pc := pc, rc := rc, rcOwn := own, rpt := rpt } := by
  unfold Engine.next
  split
  · exact ⟨_, _, _, _, rfl⟩
  · unfold Engine.rcStep
    split <;> split <;> exact ⟨_, _, _, _, rfl⟩

theorem settle_st (e : Engine) (c : Nat) : (e.settle c).st = e.st := by
  obtain ⟨a, b, m, h⟩ := settle_frame e c
  rw [h]

/-- An instruction that leaves its engine running and the mailbox alone has nothing that surrounds it. -/
theorem engFin_issued {s : State} {n w o : Nat} {e e1 : Engine} (h : Issues s n w o e) (hst : e1.st = e.st) :
    engFin n s (s.issued n e1) = s.issued n e1 := by
  have hlen := h.lt_length
  obtain ⟨-, -, -, he, -⟩ := h
  obtain ⟨pc, rc, own, rpt, hnext⟩ := next_frame e1
  have hkeep : ((s.issued n e1).engine n).st = (s.engine n).st := by
    rw [State.issued, engine_setEngine_self hlen, hnext, ← settle_st (s.engine n) s.cyc, he]
    exact hst
  have hmbx : (s.issued n e1).eng.mbx = s.eng.mbx := rfl
  simp [engFin, hkeep, hmbx]

/-- What an instruction that writes rd leaves alone: rd, PC and the repetition are all that changes. -/
theorem issued_wr_frame {s : State} {n w o rd : Nat} {e : Engine} (h : Issues s n w o e) (v : Word32) :
    let u := s.issued n (e.wr rd v)
    (∀ k : Nat, k ≠ rd → (u.engine n).reg k = e.reg k) ∧ (u.engine n).p = e.p ∧ (u.engine n).mlo = e.mlo ∧
      (u.engine n).mhi = e.mhi ∧ (u.engine n).evt = e.evt ∧ (u.engine n).ret = e.ret ∧ (u.engine n).data = e.data ∧
      (∀ m : Nat, m ≠ n → u.engine m = s.engine m) ∧ { u with eng.es := s.eng.es } = s := by
  obtain ⟨pc, rc, own, rpt, hnext⟩ := next_frame (e.wr rd v)
  have hself : (s.issued n (e.wr rd v)).engine n = _ := engine_setEngine_self h.lt_length _
  simp only [hself, hnext]
  refine ⟨fun k hk => ?_, rfl, rfl, rfl, rfl, rfl, rfl, fun m hm => engine_setEngine_ne s hm _, rfl⟩
  exact putAt_getD e.g rd k v 0 (Ne.symm hk)

/-- Settles O18: each of these words writes rd and completes as `issued_wr_frame` says. -/
theorem arithmeticChangesOneRegister : Obligations.ArithmeticChangesOneRegister := by
  unfold Obligations.ArithmeticChangesOneRegister
  intro t n w o c s s0 e h0 hi hmem
  have hset : ∃ v, Issued c s s0 n (s0.issued n (e.wr (iRd w) v)) := by
    obtain ⟨add, sub, and, or, xor, shl, shr, sar, addi, andi, ori, xori, shli, shri, sari, ldi, lui, -, -, mov, clz, bswap, -⟩ :=
      (engineArithmeticCompletes t n w o s s0 e h0).1 hi _ _ _ rfl rfl rfl
    simp only [List.mem_cons, Prod.mk.injEq, List.not_mem_nil, or_false] at hmem
    rcases hmem with ⟨ho, rfl⟩ | ⟨ho, rfl⟩ | ⟨ho, rfl⟩ | ⟨ho, rfl⟩ | ⟨ho, rfl⟩ | ⟨ho, rfl⟩ | ⟨ho, rfl⟩ | ⟨ho, rfl⟩ | ⟨ho, rfl⟩ | ⟨ho, rfl⟩ |
      ⟨ho, rfl⟩ | ⟨ho, rfl⟩ | ⟨ho, rfl⟩ | ⟨ho, rfl⟩ | ⟨ho, rfl⟩ | ⟨ho, rfl⟩ | ⟨ho, rfl⟩ | ⟨ho, rfl⟩ | ⟨ho, rfl⟩ | ⟨ho, rfl⟩
    · exact ⟨_, add ho⟩
    · exact ⟨_, sub ho⟩
    · exact ⟨_, and ho⟩
    · exact ⟨_, or ho⟩
    · exact ⟨_, xor ho⟩
    · exact ⟨_, shl ho⟩
    · exact ⟨_, shr ho⟩
    · exact ⟨_, sar ho⟩
    · exact ⟨_, addi ho⟩
    · exact ⟨_, andi ho⟩
    · exact ⟨_, ori ho⟩
    · exact ⟨_, xori ho⟩
    · exact ⟨_, shli ho⟩
    · exact ⟨_, shri ho⟩
    · exact ⟨_, sari ho⟩
    · exact ⟨_, ldi ho⟩
    · exact ⟨_, lui ho⟩
    · exact ⟨_, mov ho⟩
    · exact ⟨_, clz ho⟩
    · exact ⟨_, bswap ho⟩
  obtain ⟨v, hv⟩ := hset
  rw [Issued, engFin_issued hi (by rfl)] at hv
  exact ⟨_, hv, issued_wr_frame hi v⟩

/-! ### Memory (R524 to R526, R529) -/

theorem locate_own {e : Engine} {a n : Nat} (write : Bool) (h1 : a % n = 0) (h2 : a + n ≤ 0x4000) : e.locate a n write = .own := by
  simp [Engine.locate, h1, h2]

/-- A word of the mailbox that the engine may read, or write. -/
theorem locate_mbx {e : Engine} {a : Nat} {write : Bool} (h1 : a % 4 = 0) (h2 : 0x10000 ≤ a) (h3 : a + 4 ≤ 0x20000)
    (h4 : bit (if write then e.mbxW else e.mbxR) ((a - 0x10000) / 0x1000) = true) :
    e.locate a 4 write = .mbx (a - 0x10000) := by
  have hfar : ¬a + 4 ≤ 0x4000 := by omega
  simp [Engine.locate, h1, h2, h3, h4, hfar]

theorem opLoad_own {e : Engine} {rd k a : Nat} {addr : Engine → Word32} (post : Engine → Engine) (m : Mem) (c : Nat)
    (ha : (addr e).toNat = a) (h1 : a % k = 0) (h2 : a + k ≤ 0x4000) :
    opLoad rd k addr post e m c = .go ((post e).wr rd (BitVec.ofNat 32 (leNat (memRead e.data a k)))) m := by
  simp only [opLoad, ha, locate_own false h1 h2]

theorem opLoad_mbx {e : Engine} {rd a : Nat} {addr : Engine → Word32} (post : Engine → Engine) (m : Mem) (c : Nat)
    (ha : (addr e).toNat = a) (h1 : a % 4 = 0) (h2 : 0x10000 ≤ a) (h3 : a + 4 ≤ 0x20000)
    (h4 : bit e.mbxR ((a - 0x10000) / 0x1000) = true) :
    opLoad rd 4 addr post e m c = .go ((post e).wr rd (BitVec.ofNat 32 (leNat (memRead m (a - 0x10000) 4)))) m := by
  simp only [opLoad, ha, locate_mbx (write := false) h1 h2 h3 h4]

theorem opStore_own {e : Engine} {rs k a : Nat} {addr : Engine → Word32} (post : Engine → Engine) (m : Mem) (c : Nat)
    (ha : (addr e).toNat = a) (h1 : a % k = 0) (h2 : a + k ≤ 0x4000) :
    opStore rs k addr post e m c = .go (post { e with data := memWrite e.data a (toLe k (e.reg rs).toNat) }) m := by
  simp only [opStore, ha, locate_own true h1 h2]

theorem opStore_mbx {e : Engine} {rs a : Nat} {addr : Engine → Word32} (post : Engine → Engine) (m : Mem) (c : Nat)
    (ha : (addr e).toNat = a) (h1 : a % 4 = 0) (h2 : 0x10000 ≤ a) (h3 : a + 4 ≤ 0x20000)
    (h4 : bit e.mbxW ((a - 0x10000) / 0x1000) = true) :
    opStore rs 4 addr post e m c = .go (post e) (memWrite m (a - 0x10000) (toLe 4 (e.reg rs).toNat)) := by
  simp only [opStore, ha, locate_mbx (write := true) h1 h2 h3 h4]

/-- What a store into the engine's own memory leaves: the octets written, and everything else as it was. -/
theorem issued_store_frame {s : State} {n w o k a v : Nat} {e : Engine} (h : Issues s n w o e) (hwf : Mem.wf e.data) :
    let u := s.issued n { e with data := memWrite e.data a (toLe k v) }
    (∀ i : Nat, i < k → memGet (u.engine n).data (a + i) = (toLe k v).getD i 0) ∧
      (∀ b : Nat, b < a ∨ a + k ≤ b → memGet (u.engine n).data b = memGet e.data b) ∧
      (∀ m : Nat, m ≠ n → u.engine m = s.engine m) ∧ { u with eng.es := s.eng.es } = s := by
  intro u
  have hself : u.engine n = _ := engine_setEngine_self h.lt_length _
  have hdata : (u.engine n).data = memWrite e.data a (toLe k v) := by
    rw [hself]
    exact next_data _
  refine ⟨fun i hi => ?_, fun b hb => ?_, fun m hm => engine_setEngine_ne s hm _, rfl⟩
  · have hin : a ≤ a + i ∧ a + i < a + (toLe k v).length := by simp; omega
    rw [hdata, memGet_memWrite hwf, if_pos hin, Nat.add_sub_cancel_left]
  · have hout : ¬(a ≤ b ∧ b < a + (toLe k v).length) := by simp; omega
    rw [hdata, memGet_memWrite hwf, if_neg hout]

/-- Settles O17: the three stores are one operation at three widths. -/
theorem storesWriteOnlyTheirOctets : Obligations.StoresWriteOnlyTheirOctets := by
  unfold Obligations.StoresWriteOnlyTheirOctets
  intro t n w o k c s s0 e h0 hi hwf hmem a ha halign hend
  have hstore : Issued c s s0 n (s0.issued n { e with data := memWrite e.data a (toLe k (e.reg (iRd w)).toNat) }) := by
    simp only [List.mem_cons, Prod.mk.injEq, List.not_mem_nil, or_false] at hmem
    rcases hmem with ⟨rfl, rfl, rfl⟩ | ⟨rfl, rfl, rfl⟩ | ⟨rfl, rfl, rfl⟩
    · exact issued_go (op := opStw) rfl h0 hi (opStore_own _ _ _ ha halign hend)
    · exact issued_go (op := opSth) rfl h0 hi (opStore_own _ _ _ ha halign hend)
    · exact issued_go (op := opStb) rfl h0 hi (opStore_own _ _ _ ha halign hend)
  rw [Issued, engFin_issued hi (by rfl)] at hstore
  exact ⟨_, hstore, issued_store_frame hi hwf⟩

end Sys2Proof.Machine
end

section
/-! Engine loads, stores and special registers, and the accesses that LDO and STO begin (R524 to R526, R539 to R541). -/
namespace Sys2Proof.Machine

/-- An engine's store into a window of the mailbox. -/
theorem issued_mbx {c : Instr} {s s0 : State} {t n w o : Nat} {e e1 : Engine} {m : Mem} {op : Nat → EngOp}
    (hc : exec c s = .next (s.engRun t n fun s => s.engStep n o op)) (h0 : s.tick t = s0) (h : Issues s0 n w o e)
    (ho : op w e s0.eng.mbx s0.cyc = .go e1 m) : Issued c s s0 n { s0.issued n e1 with eng.mbx := m } :=
  ends_of_engRun hc h0 (by rw [engStep_issues h, issueWord_go h ho])

theorem peek_own {e : Engine} {a : Nat} (m : Mem) (n : Nat) (h : a < 0x10000) : e.peek m a n = memRead e.data a n := if_pos h

theorem spanOk_own {e : Engine} {a n : Nat} (write : Bool) (h : a + n ≤ 0x4000) : e.spanOk a n write = true := if_pos h

/-- LDO and STO with their buffer in the engine's memory come to their access. -/
theorem opDict_own {e : Engine} {kind w b len cap : Nat} (m : Mem) (c : Nat) (hb : (e.reg (iRb w)).toNat = b) (hal : b % 4 = 0)
    (hlen : leNat (memRead e.data b 2) = len) (hcap : leNat (memRead e.data (b + 2) 2) = cap) (hend : b + 4 + max len cap ≤ 0x4000) :
    opDict kind w e m c =
      .go { e with acc := some ⟨iRd w, b, kind, cap, (e.reg (iRa w)).toNat, if kind < 2 then [] else memRead e.data (b + 4) len, none⟩ } m := by
  have hspan : ∀ (n : Nat) (write : Bool), n ≤ 4 + max len cap → e.spanOk b n write = true := fun n write hn =>
    spanOk_own write (by omega)
  have hn : 4 + (if kind < 2 then cap else max len cap) ≤ 4 + max len cap := by split <;> omega
  have hpeek : ∀ k ≤ 4, e.peek m (b + k) = memRead e.data (b + k) := fun k hk => funext fun n => peek_own m n (by omega)
  have hpeek0 : e.peek m b = memRead e.data b := hpeek 0 (by omega)
  simp only [opDict, hb, hal, hpeek0, hpeek 2 (by omega), hpeek 4 (by omega), hlen, hcap, hspan 4 false (by omega),
    hspan _ (decide (kind ≠ 2)) hn, ne_eq, not_true_eq_false, if_false, Bool.not_true, Bool.false_eq_true]

/-- LDO and STO put their access to the dictionary once they have issued. -/
theorem issued_dict {c : Instr} {s s0 : State} {t n w o x kind : Nat} {e e1 : Engine}
    (hc : exec c s = .next (s.engRun t n fun s => s.engDict n o x)) (h0 : s.tick t = s0) (h : Issues s0 n w o e) (hx : bits w 9 1 = x)
    (hk : (if o = 0x26 then 0 else 2) + x = kind) (ho : opDict kind w e s0.eng.mbx s0.cyc = .go e1 s0.eng.mbx) :
    Issued c s s0 n ((s0.issued n e1).accStart n) := by
  refine ends_of_engRun hc h0 ?_
  have hw := issueWord_go h ho
  obtain ⟨hmay, hfetch, hop, -⟩ := h
  simp only [State.engDict, hfetch, hmay, hop, hx, hk, decide_true, Bool.and_self, if_true, hw]
  rfl

theorem engPoke_own {s : State} {n a : Nat} (bs : Bytes) (h : a < 0x10000) :
    s.engPoke n a bs = s.setEngine n { s.engine n with data := memWrite (s.engine n).data a bs } := if_pos h

/-- Settles O46: loads and stores go where their address lies, and an access ends with its value stored and its word in rd. -/
theorem engineMemoryCompletes : Obligations.EngineMemoryCompletes := by
  unfold Obligations.EngineMemoryCompletes
  intro t n w o s s0 e h0
  refine ⟨fun hi a rd ha hrd => ?_, fun acc v s1 hlive hacc hhalt hbuf hop hrsp hs1 => ?_, fun acc c d v hlive hacc hhalt hc hrsp => ?_⟩
  · subst hrd
    refine ⟨fun ho h1 h2 => ?_, fun ho h1 h2 h3 h4 => ?_, fun ho h1 h2 => ?_, fun ho h1 => ?_, fun ho h1 h2 => ?_,
      fun ho h1 h2 h3 h4 => ?_, fun ho h1 h2 => ?_, fun ho h1 => ?_, fun b hb h1 h2 => ?_, fun ho hsr => ?_, fun ho hsr => ?_,
      fun ho hsr => ?_, fun ho hsr => ?_, fun ho hsr => ?_, fun ho hsr => ?_, fun b len cap v hb hal hlen hcap hend hv => ?_⟩
    · exact issued_go (op := opLdw) rfl h0 (ho ▸ hi) (opLoad_own id _ _ ha h1 h2)
    · exact issued_go (op := opLdw) rfl h0 (ho ▸ hi) (opLoad_mbx id _ _ ha h1 h2 h3 h4)
    · exact issued_go (op := opLdh) rfl h0 (ho ▸ hi) (opLoad_own id _ _ ha h1 h2)
    · exact issued_go (op := opLdb) rfl h0 (ho ▸ hi) (opLoad_own id _ _ ha (Nat.mod_one a) h1)
    · exact issued_go (op := opStw) rfl h0 (ho ▸ hi) (opStore_own id _ _ ha h1 h2)
    · exact issued_mbx (op := opStw) rfl h0 (ho ▸ hi) (opStore_mbx id _ _ ha h1 h2 h3 h4)
    · exact issued_go (op := opSth) rfl h0 (ho ▸ hi) (opStore_own id _ _ ha h1 h2)
    · exact issued_go (op := opStb) rfl h0 (ho ▸ hi) (opStore_own id _ _ ha (Nat.mod_one a) h1)
    · refine ⟨fun ho => ?_, fun e1 he1 ho => ?_⟩
      · exact issued_go (op := opLdwp) rfl h0 (ho ▸ hi) (opLoad_own (postInc w) _ _ hb h1 h2)
      · subst he1
        exact issued_go (op := opStwp) rfl h0 (ho ▸ hi) (opStore_own (postInc w) _ _ hb h1 h2)
    · exact issued_go (op := opMfsW) rfl h0 (ho ▸ hi) (by simp only [opMfsW, opMfs, if_neg hsr])
    · exact issued_go (op := opMfsW) rfl h0 (ho ▸ hi) (by simp only [opMfsW, opMfs, hsr, if_true, Engine.special])
    · exact issued_go (op := opMtsW) rfl h0 (ho ▸ hi) (by simp only [opMtsW, opMts, hsr])
    · exact issued_go (op := opMtsW) rfl h0 (ho ▸ hi) (by simp only [opMtsW, opMts, hsr])
    · exact issued_go (op := opMtsW) rfl h0 (ho ▸ hi) (by simp only [opMtsW, opMts, hsr])
    · exact issued_go (op := opMtsW) rfl h0 (ho ▸ hi) (by simp only [opMtsW, opMts, hsr])
    · subst hv
      refine ⟨fun acc hacc ho hx => ?_, fun acc hacc ho hx => ?_, fun acc hacc ho hx => ?_, fun acc hacc ho hx => ?_⟩
      · subst hacc
        exact issued_dict rfl h0 (ho ▸ hi) hx rfl (opDict_own _ _ hb hal hlen hcap hend)
      · subst hacc
        exact issued_dict rfl h0 (ho ▸ hi) hx rfl (opDict_own _ _ hb hal hlen hcap hend)
      · subst hacc
        exact issued_dict rfl h0 (ho ▸ hi) hx rfl (opDict_own _ _ hb hal hlen hcap hend)
      · subst hacc
        exact issued_dict rfl h0 (ho ▸ hi) hx rfl (opDict_own _ _ hb hal hlen hcap hend)
  · subst hs1
    refine ends_of_run rfl h0 ?_
    simp [whenLive_live hlive, State.dictComplete, hacc, hhalt, hrsp, hop, engPoke_own _ (Nat.lt_trans hbuf (by decide))]
  · refine ends_of_run rfl h0 ?_
    simp [whenLive_live hlive, State.dictComplete, hacc, hhalt, hrsp, hc]

end Sys2Proof.Machine
end

section
/-! Branches, repetition, waits, events and stops of the engines, and the traps that end them (R531 to R538, R543, R544, R557). -/
namespace Sys2Proof.Machine

theorem jumpTo_code {e : Engine} {a : Nat} (h : a < e.codeLen) : jumpTo e a = .jump e (a / 4 * 4) := if_neg (Nat.not_le.mpr h)

theorem push_room {e : Engine} (a : Nat) (h : e.ret.length < 8) : e.push a = some { e with ret := a :: e.ret } := if_pos h

theorem opCall_code {e : Engine} {target : Engine → Option Nat} {a : Nat} (m : Mem) (c : Nat) (ht : target e = some a) (ha : a < e.codeLen)
    (hr : e.ret.length < 8) : opCall target e m c = .jump { e with ret := (e.pc + 4) :: e.ret } (a / 4 * 4) := by
  simp only [opCall, ht, jumpTo_code ha, push_room _ hr]

theorem relTarget_eq {e : Engine} {w a : Nat} (h : (e.pc : Int) + 4 * sext 22 (w % 2 ^ 22) = a) :
    relTarget (bits w 0 22) e = some a := by
  have hpos : ¬(a : Int) < 0 := by omega
  simp only [relTarget, bits_zero_eq, h, if_neg hpos, Int.toNat_natCast]

theorem opRpt_pos {e : Engine} {count : Engine → Nat} {k : Nat} (m : Mem) (c : Nat) (hk : count e % 65536 = k) (h : k ≠ 0) :
    opRpt count e m c = .jump { e with rc := BitVec.ofNat 32 k, rcOwn := false, rpt := some k } (e.pc + 4) := by
  simp only [opRpt, hk, if_neg h]

/-- SEV raises the sender's event once it has issued (R537). -/
theorem issued_sev {s s0 : State} {t n w : Nat} {e : Engine} (h0 : s.tick t = s0) (h : Issues s0 n w 0x3C e) :
    Issued (.sev t n) s s0 n ((s0.issued n e).sev n (bits w 0 8)) := by
  refine ends_of_engRun (f := fun s => s.engSev n) rfl h0 ?_
  have hgo : s0.issueWord n w (opNop w) = s0.issued n e := issueWord_go h rfl
  have hex := h.executes
  obtain ⟨hmay, hfetch, hop, -⟩ := h
  simp only [State.engSev, hfetch, hmay, hop, decide_true, Bool.and_self, if_true, hgo, hex]

/-- A word whose opcode names no instruction traps in decoding (R543). -/
theorem issueWord_unknown {s : State} {n w : Nat} (op : EngOp) (hop : opcodeKnown (iOp w) = false)
    (hpc : (s.engine n).pc + 4 ≤ (s.engine n).codeLen) : s.issueWord n w op = s.engTrap n 0x02 (s.engine n).pc := by
  have hdec : decodeTrap w = some 0x02 := by
    have hop' : opcodeKnown (bits w 22 6) = false := hop
    simp [decodeTrap, hop']
  simp only [State.issueWord, State.issueOn, settle_pc, settle_codeLen, hdec, if_neg (Nat.not_lt.mpr hpc)]

/-- Settles O47, instruction by instruction and then event by event. -/
theorem engineFlowCompletes : Obligations.EngineFlowCompletes := by
  unfold Obligations.EngineFlowCompletes
  intro t n w o s s0 e h0
  refine ⟨fun hi => ⟨fun a ha hcode => ?_, fun a ha hcode => ?_, fun a r ho hret hcode => ?_, fun ho hk => ?_, fun k ho hk h => ?_,
    fun k hk => ⟨fun hev e1 he1 => ?_, fun hev => ?_⟩, fun ho => ?_, fun ho => ?_⟩, fun hmay hfetch hop hpc => ?_, fun hlive he => ?_⟩
  · have ht := relTarget_eq ha
    refine ⟨fun ho => ?_, fun ho hr => ?_⟩
    · exact issued_jump (op := opBr) rfl h0 (ho ▸ hi) (by simp only [opBr, ht, jumpTo_code hcode])
    · exact issued_jump (op := opCallRel) rfl h0 (ho ▸ hi) (opCall_code _ _ ht hcode hr)
  · refine ⟨fun ho => ?_, fun ho hr => ?_⟩
    · exact issued_jump (op := opJr) rfl h0 (ho ▸ hi) (by simp only [opJr, ha, jumpTo_code hcode])
    · exact issued_jump (op := opCallReg) rfl h0 (ho ▸ hi) (opCall_code _ _ (congrArg some ha) hcode hr)
  · refine issued_jump (op := fun _ => opRet) (e1 := { e with ret := r }) rfl h0 (ho ▸ hi) ?_
    simp only [opRet, hret]
    exact jumpTo_code hcode
  · have hk16 : bits w 0 16 % 65536 = w % 2 ^ 16 := by rw [bits_zero_eq]; omega
    exact issued_jump (op := opRptImm) rfl h0 (ho ▸ hi) (opRpt_pos _ _ hk16 hk)
  · have hk16 : (e.reg (iRa w)).toNat % 65536 % 65536 = k := by omega
    exact issued_jump (op := opRptReg) rfl h0 (ho ▸ hi) (opRpt_pos _ _ hk16 h)
  · have hmask : waitMask (e.reg (iRa w)) = k := hk
    subst he1
    refine ⟨fun ho => ?_, fun ho => ?_⟩
    · refine ends_of_engRun rfl h0 ?_
      rw [engStep_issues (ho ▸ hi), issueWord_go (ho ▸ hi) (by simp only [opWfe, hmask]; rw [if_pos hev])]
      rfl
    · refine ends_of_engRun rfl h0 ?_
      rw [engStep_issues (ho ▸ hi), issueWord_go (ho ▸ hi) (by simp only [opWaitt, hmask]; rw [if_pos hev])]
      rfl
  · have hmask : waitMask (e.reg (iRa w)) = k := hk
    have hnone : ¬e.evt &&& k ≠ 0 := not_not_intro hev
    refine ⟨fun ho => ?_, fun ho hrb => ?_⟩
    · refine ends_of_engRun rfl h0 ?_
      rw [engStep_issues (ho ▸ hi), issueWord_go (ho ▸ hi) (by simp only [opWfe, hmask]; rw [if_neg hnone])]
      rfl
    · refine ends_of_engRun rfl h0 ?_
      rw [engStep_issues (ho ▸ hi), issueWord_go (ho ▸ hi) (by simp only [opWaitt, hmask]; rw [if_neg hnone, if_neg hrb])]
      rfl
  · subst ho
    have hsev := issued_sev h0 hi
    rwa [bits_zero_eq] at hsev
  · exact issued_go (op := fun _ => opStop) rfl h0 (ho ▸ hi) rfl
  · refine ends_of_engRun (f := fun s => s.illegalOp n) rfl h0 ?_
    simp only [State.illegalOp, hfetch, hmay, hop, Bool.not_false, Bool.and_self, if_true, issueWord_unknown _ hop hpc]
  · subst he
    refine ⟨fun x hwait hst hcore => ⟨fun hev => ?_, fun d hd hdue => ?_⟩, fun hn hst => ⟨fun hdue => ?_, fun hacc hcore hbrk => ?_⟩,
      fun d hagain hst hdue => ?_⟩
    · refine ends_of_run rfl h0 ?_
      simp only [whenLive_live hlive, State.eventWake, hwait]
      exact if_pos (by simpa [hst, hcore] using hev)
    · refine ends_of_run rfl h0 ?_
      simp only [whenLive_live hlive, State.deadline, hwait, hd]
      exact if_pos (by simp [hst, hdue, hcore])
    · refine ends_of_run rfl h0 ?_
      simp [whenLive_live hlive, State.engWatchdog, hn, hst, hdue]
    · refine ends_of_run rfl h0 ?_
      simp [whenLive_live hlive, State.breakHit, hn, hst, hacc, hcore, hbrk, Engine.toHalt]
    · refine ends_of_run rfl h0 ?_
      simp [whenLive_live hlive, State.trapRestart, hagain, hst, hdue]

end Sys2Proof.Machine
end

section
/-! Octets of arguments and frames (R11), read back where they were laid out. -/
namespace Sys2Proof.Machine

@[simp] theorem byteAt_cons_zero (b : BitVec 8) (l : Bytes) : byteAt 0 (b :: l) = b.toNat := rfl
@[simp] theorem byteAt_cons_succ (i : Nat) (b : BitVec 8) (l : Bytes) : byteAt (i + 1) (b :: l) = byteAt i l := rfl
@[simp] theorem leAt_cons_succ (i n : Nat) (b : BitVec 8) (l : Bytes) : leAt (i + 1) n (b :: l) = leAt i n l := rfl

theorem toNat_ofNat8 {n : Nat} (h : n < 256) : (BitVec.ofNat 8 n).toNat = n := by
  rw [BitVec.toNat_ofNat]
  exact Nat.mod_eq_of_lt h

@[simp] theorem drop_toLe_append (n v : Nat) (l : Bytes) : (toLe n v ++ l).drop n = l := by
  simp

end Sys2Proof.Machine
end

section
/-! The engines from outside (R536, R542, R545 to R552, R555): control, image loads, doorbells and GPIO edges. -/
namespace Sys2Proof.Machine

theorem engCount_le (v : Variant) : engCount v ≤ 8 := by
  cases v <;> decide

theorem engArg_present {s : State} {n : Nat} (h : n < engCount s.fuse.variant) : s.engArg n = none := by
  have h8 : ¬8 ≤ n := by have := engCount_le s.fuse.variant; omega
  have hhere : ¬engCount s.fuse.variant ≤ n := Nat.not_le.mpr h
  simp [State.engArg, State.noEngine, h8, hhere]

theorem byteAt_engine {v : Variant} {n : Nat} (h : n < engCount v) (l : Bytes) : byteAt 0 (BitVec.ofNat 8 n :: l) = n :=
  toNat_ofNat8 (by have := engCount_le v; omega)

/-- EngControl of an engine of the part is one of its three actions. -/
theorem engCmd_control {s : State} {n a : Nat} (who : Requester) (h : n < engCount s.fuse.variant) (h1 : 1 ≤ a) (h3 : a ≤ 3) :
    s.engCmd who 0x5002 [BitVec.ofNat 8 n, BitVec.ofNat 8 a] = ret (s.engControl n a) := by
  have hn := byteAt_engine h [BitVec.ofNat 8 a]
  have ha : byteAt 1 [BitVec.ofNat 8 n, BitVec.ofNat 8 a] = a := toNat_ofNat8 (by omega)
  have hin : (decide (a = 0) || decide (3 < a)) = false := by
    simp only [Bool.or_eq_false_iff, decide_eq_false_iff_not]
    omega
  simp only [State.engCmd, if_true, hn, engArg_present h, ha, hin, Bool.false_eq_true, if_false]

theorem engCmd_begin {s : State} {n total : Nat} (who : Requester) (h : n < engCount s.fuse.variant) (h1 : 68 ≤ total)
    (h2 : total ≤ 50752) : s.engCmd who 0x5010 (BitVec.ofNat 8 n :: toLe 4 total) = ret (s.loadBegin who n total) := by
  have hn := byteAt_engine h (toLe 4 total)
  have ht : leAt 1 4 (BitVec.ofNat 8 n :: toLe 4 total) = total := leAt_toLe (by omega)
  have hin : inR 68 50752 total = true := by simp [inR, h1, h2]
  simp only [State.engCmd, hn, engArg_present h, ht, hin]
  rfl

theorem engCmd_data {s : State} {off : Nat} (who : Requester) (d : Bytes) (h : off < 2 ^ 32) :
    s.engCmd who 0x5011 (toLe 4 off ++ d) = ret (s.loadData who off d) := by
  have hoff : leAt 0 4 (toLe 4 off ++ d) = off := leAt_toLe_append d (by omega)
  show ret (s.loadData who (leAt 0 4 (toLe 4 off ++ d)) ((toLe 4 off ++ d).drop 4)) = _
  rw [hoff, drop_toLe_append]

theorem engCmd_doorbell {s : State} {n v : Nat} (who : Requester) (h : n < engCount s.fuse.variant) (hv : v < 2 ^ 32) :
    s.engCmd who 0x5023 (BitVec.ofNat 8 n :: toLe 4 v) = ret (s.doorbell n v) := by
  have hn := byteAt_engine h (toLe 4 v)
  have hval : leAt 1 4 (BitVec.ofNat 8 n :: toLe 4 v) = v := leAt_toLe (by omega)
  simp only [State.engCmd, hn, engArg_present h, hval]
  rfl

/-- An image that passes every check of R549 goes on to its commit. -/
theorem loadCommit_good {s : State} {l : EngLoad} (hl : s.eng.load = some l) (hrest : l.img = none)
    (hst : (s.engine l.eng).st = .stopped ∨ (s.engine l.eng).st = .empty) (hlen : l.got.length = l.total)
    (hfmt : imageOk l.eng l.got = true) (hslot : s.slotSt (s.g 0x500A 0) = .loaded) (hkind : s.slotKind (s.g 0x500A 0) = 1)
    (huse : s.slotUse (s.g 0x500A 0) 2 = true) (hown : s.slotOwner (s.g 0x500A 0) = 4)
    (hmac : cmac ((s.slotKey (s.g 0x500A 0)).getD []) (imageMacced l.got) = slice 48 16 l.got)
    (hver : s.g 0x5008 (l.eng + 1) ≤ (imageOf l.got).version) :
    s.loadCommit l.who =
      (none, { s.cxUse 3 (cmacOps l.got.length) with eng.load := some { l with img := some (imageOf l.got), at_ := s.now } }) := by
  have hquiet : ((s.engine l.eng).st = .running || (s.engine l.eng).st = .waiting || (s.engine l.eng).st = .debugHalt) = false := by
    rcases hst with h | h <;> simp [h]
  simp only [State.loadCommit, hl, hrest, ne_eq, not_true_eq_false, decide_false, Option.isSome_none, Bool.or_self, hquiet, hlen,
    hfmt, hslot, hkind, huse, hown, hmac, Nat.not_lt.mpr hver, Bool.not_true, Bool.false_eq_true, if_false]

/-- Settles O48: each argument reads back as it was laid out, and the unit's operation follows. -/
theorem engineControlCommandsComplete : Obligations.EngineControlCommandsComplete := by
  unfold Obligations.EngineControlCommandsComplete
  intro t n s s0 r h0 hn
  refine ⟨fun im him => ⟨fun hst => ?_, fun hacc => ⟨?_, ?_⟩, fun hacc => ?_⟩, fun total h1 h2 hload => ?_, fun l hl hwho => ⟨fun himg =>
    ⟨fun off d hoff hfit hlt => ?_, fun e h he hh hst hlen hfmt hslot hkind huse hown hmac hver => ?_, ?_, fun hlive hdue => ?_⟩,
      fun im s1 hlive himg hs1 => ?_⟩, fun v hv hroom => ?_, fun v vs hr hbell => ?_, fun v vs hr how => ?_,
    fun pin hpin hheld hshut hcore hlow hsel hown => ?_⟩
  · refine answers_exec rfl h0 ((engCmd_control r hn (a := 1) (by decide) (by decide)).trans ?_)
    simp [State.engControl, him, hst, ret]
  · refine answers_exec rfl h0 ((engCmd_control r hn (a := 2) (by decide) (by decide)).trans ?_)
    simp [State.engControl, hacc, ret]
  · refine answers_exec rfl h0 ((engCmd_control r hn (a := 3) (by decide) (by decide)).trans ?_)
    simp [State.engControl, him, hacc, ret]
  · refine answers_exec rfl h0 ((engCmd_control r hn (a := 2) (by decide) (by decide)).trans ?_)
    simp [State.engControl, hacc, ret]
  · refine answers_exec rfl h0 ((engCmd_begin r hn h1 h2).trans ?_)
    simp only [State.loadBegin, hload, ret]
  · refine answers_exec rfl h0 ((engCmd_data r d hlt).trans ?_)
    simp [State.loadData, hl, hwho, himg, hoff, Nat.not_lt.mpr (hoff ▸ hfit), ret]
  · subst hwho he hh
    refine starts_exec rfl h0 ?_
    show ((s0.loadCommit l.who).1.map _, (s0.loadCommit l.who).2) = _
    rw [loadCommit_good hl himg hst hlen hfmt hslot hkind huse hown hmac hver]
    rfl
  · refine answers_exec rfl h0 ?_
    show ret (s0.loadAbort r) = _
    simp [State.loadAbort, hl, hwho, himg, ret]
  · refine ends_of_run rfl h0 ?_
    simp [whenLive_live hlive, State.loadTimeout, hl, himg, hdue]
  · subst hs1
    refine ends_of_run rfl h0 ?_
    simp only [whenLive_live hlive, State.loadDoneRow, State.loadDone, hl, himg]
  · refine answers_exec rfl h0 ((engCmd_doorbell r hn hv).trans ?_)
    simp [State.doorbell, Nat.not_le.mpr hroom, ret]
  · refine answers_exec rfl h0 ?_
    show (some (s0.doorbellRx (engOf r)).1, (s0.doorbellRx (engOf r)).2) = _
    simp only [hr, State.doorbellRx, hbell]
  · refine answers_exec rfl h0 ?_
    show (some (s0.objWriteRx (engOf r)).1, (s0.objWriteRx (engOf r)).2) = _
    simp only [hr, State.objWriteRx, how]
  · have hne : n ≠ 0xFF := by have := engCount_le s0.fuse.variant; omega
    have hball : ¬8 ≤ pin := Nat.not_le.2 hpin
    refine ends_of_run rfl h0 ?_
    simp [State.whenUp, hheld, hshut, State.gpioEdgeRow, hcore, State.gpioEdge, hlow, hball, hsel, hown, hne]

end Sys2Proof.Machine
end

section
/-! The debug port (R556, R557): a command that passes the port's checks is its action on the engine. -/
namespace Sys2Proof.Machine

/-- A command of the open port for an engine whose image permits it. -/
theorem dbgFor_open {s : State} {c n : Nat} {f d : Bytes} (act : Nat → Bytes → State) (hin : dbgIn c f = some (n, d))
    (hwrong : s.eng.dbg.wrong < 3) (hopen : s.eng.dbg.open_ = true) (hon : s.g 0x5050 0 ≠ 0) (hn : n < engCount s.fuse.variant)
    (hperm : bit (((s.engine n).image.map Image.options).getD 0) 2 = true) : s.dbgFor c f act = act n d := by
  simp [State.dbgFor, hin, Nat.not_le.mpr hwrong, hopen, hon, Nat.not_le.mpr hn, hperm]

/-- Settles O49: ID and UNLOCK by the checks of the port, every other command by its action on the engine. -/
theorem debugPortCommandsComplete : Obligations.DebugPortCommandsComplete := by
  unfold Obligations.DebugPortCommandsComplete
  intro t s s0 f d h0 hlive hwrong
  refine ⟨fun n b s1 hin hok hdraw => ?_, fun n c k s1 hin hkey hchal hs1 => ⟨fun hmac => ?_, fun hmac => ?_⟩,
    fun n e hopen hon hn hperm he => ?_⟩
  · refine ends_of_run rfl h0 ?_
    have hfuse : s1.fuse = s0.fuse := (congrArg (·.2.fuse) hdraw).symm
    simp only [whenLive_live hlive, State.dbgId, hin, Nat.not_le.mpr hwrong, if_false, hok, Bool.not_true, Bool.false_eq_true, hdraw, hfuse]
  · subst hs1
    refine ends_of_run rfl h0 ?_
    simp only [whenLive_live hlive, State.dbgUnlock, hin, Nat.not_le.mpr hwrong, if_false, hkey, hchal, ← hmac, decide_true, if_true]
  · subst hs1
    refine ends_of_run rfl h0 ?_
    simp only [whenLive_live hlive, State.dbgUnlock, hin, Nat.not_le.mpr hwrong, if_false, hkey, hchal, hmac, decide_false,
      Bool.false_eq_true]
  · have hact : ∀ (c : Nat) (act : Nat → Bytes → State), dbgIn c f = some (n, d) → s0.dbgFor c f act = act n d :=
      fun c act hin => dbgFor_open act hin hwrong hopen hon hn hperm
    clear hperm hopen hon hwrong
    subst he
    refine ⟨fun hin hst => ?_, fun hin hst hwait => ?_, fun s1 hin hst hwait hacc hs1 hst1 => ?_, fun x hin hx => ?_,
      fun k v hin hlen hk hv => ⟨fun hreg => ?_, fun hpc hal hend => ?_⟩,
      fun a k ha hk => ⟨fun hin hlen hspan => ?_, fun hin hlen hspan => ⟨fun hcode => ?_, fun hdata hown => ?_⟩⟩,
      fun k a hin hlen hk ha hslot => ⟨fun hclr => ?_, fun hal hend => ?_⟩⟩
    · refine ends_of_run rfl h0 ?_
      rw [whenLive_live hlive, State.dbgHalt, hact _ _ hin]
      simp [hst, Engine.toHalt]
    · refine ends_of_run rfl h0 ?_
      rw [whenLive_live hlive, State.dbgRun, hact _ _ hin]
      simp [hst, Engine.fromHalt, hwait]
    · refine ends_of_run rfl h0 ?_
      rw [whenLive_live hlive, State.dbgStep, hact _ _ hin]
      have hrun : (s0.setEngine n ((s0.engine n).fromHalt s0.now)).dbgExec n = s1 := by
        rw [← hs1]
        simp [Engine.fromHalt, hwait]
      simp only [hst, hwait, hacc, Option.isSome_none, ne_eq, not_true_eq_false, decide_false, Bool.or_self,
        Bool.false_eq_true, if_false, hrun, hst1, decide_true, Bool.true_or, if_true, Engine.toHalt]
    · subst hx
      refine ends_of_run rfl h0 ?_
      rw [whenLive_live hlive, State.dbgRegs, hact _ _ hin]
    · refine ends_of_run rfl h0 ?_
      rw [whenLive_live hlive, State.dbgRegWrite, hact _ _ hin]
      simp [hlen, hk, hv, hreg]
    · refine ends_of_run rfl h0 ?_
      rw [whenLive_live hlive, State.dbgRegWrite, hact _ _ hin]
      simp [hlen, hk, hv, hpc, hal, hend]
    · refine ends_of_run rfl h0 ?_
      rw [whenLive_live hlive, State.dbgMemRead, hact _ _ hin]
      simp [hlen, ha, hk, hspan]
    · refine ends_of_run rfl h0 ?_
      rw [whenLive_live hlive, State.dbgMemWrite, hact _ _ hin]
      rw [hcode] at hspan
      simp [hlen, ha, hk, hspan, hcode]
    · refine ends_of_run rfl h0 ?_
      rw [whenLive_live hlive, State.dbgMemWrite, hact _ _ hin]
      simp [hlen, ha, hk, hspan, hdata, engPoke_own _ hown]
    · refine ends_of_run rfl h0 ?_
      rw [whenLive_live hlive, State.dbgBreak, hact _ _ hin]
      simp [hlen, hk, ha, hclr, Nat.not_le.mpr hslot]
    · refine ends_of_run rfl h0 ?_
      rw [whenLive_live hlive, State.dbgBreak, hact _ _ hin]
      have hval : a ≠ 0xFFFF := by omega
      simp [hlen, hk, ha, Nat.not_le.mpr hslot, hal, Nat.not_le.mpr hend, hval]

end Sys2Proof.Machine
end

section
/-! The host SPI slave (R53 to R59): each transaction with the dictionary alive, and the request in the port. -/
namespace Sys2Proof.Machine

theorem resetArm_of_none {s : State} (h : s.dict.resetDue = none) : s.resetArm = s := by
  simp only [State.resetArm, h]

theorem serve_refused {s : State} {who : Requester} {q : Req} {e : Nat × Nat} (h : s.reqCheck who q = some e) :
    s.serve who q = (some ⟨e.1, e.2, []⟩, s) := by
  simp only [State.serve, h]

/-- A READ that passes every check is served. -/
theorem serve_of_op_read {s : State} {who : Requester} {q : Req} (h : s.reqCheck who q = none) (hop : q.op = 1) :
    s.serve who q = s.serveRead who q.idx q.sub := by
  simp only [State.serve, h, hop, if_true]

/-- A read of anything but the two entropy objects is answered with the object's value. -/
theorem serveRead_value {s : State} {who : Requester} {idx sub : Nat} (h1 : idx ≠ 0x1320) (h2 : idx ≠ 0x1310) :
    s.serveRead who idx sub = (some ⟨Rc.ok, 0, s.readVal who idx sub⟩, s.readEffect idx sub) := by
  simp only [State.serveRead, if_neg h1, if_neg h2]

/-- The request in the port is answered with what the dictionary answers at once. -/
theorem spiServe_answered {s u : State} {b : Bytes} {a : Resp} (hreq : s.dict.spi.req = some b) (hrun : s.dict.spi.running = false)
    (hserving : s.serving = true) (h : s.serve .host (parseReq b) = (some a, u)) : s.spiServe = u.spiAnswer (parseReq b) a := by
  simp [State.spiServe, hreq, hrun, hserving, h]

/-- Settles O19, transaction by transaction. -/
theorem spiCommandsComplete : Obligations.SpiCommandsComplete := by
  unfold Obligations.SpiCommandsComplete
  intro t s s0 h0 halive out
  refine ⟨?_, fun pdu hreq hrsp hlen => ?_, fun pdu hbusy => ?_, fun n r hrsp hn hdue => ?_, fun n q x l hq hx hn => ?_, fun cmd n hcmd => ?_,
    fun b hreq hrun hserving => ⟨fun e he => ?_, fun hcheck hop h1 h2 => ?_⟩⟩
  · refine ends_of_run rfl h0 ?_
    simp only [State.spiStatusCmd, halive]
    rfl
  · refine ends_of_run rfl h0 ?_
    simp [State.spiWrite, State.spiOut, halive, hreq, hrsp, hlen, out]
  · refine ends_of_run rfl h0 ?_
    have hbusy' : (s0.dict.spi.req.isSome || s0.dict.spi.rsp.isSome) = true := by simpa using hbusy
    simp [State.spiWrite, State.spiOut, halive, hbusy', out]
  · refine ends_of_run rfl h0 ?_
    have hkept : ∀ u : State, u.dict.resetDue = s0.dict.resetDue → u.resetArm = u := fun u hu => resetArm_of_none (hu.trans hdue)
    simp [State.spiReadRsp, State.spiOut, halive, hrsp, hn, hkept, out]
  · subst hq
    refine ends_of_run rfl h0 ?_
    simp [State.spiReadNtf, State.spiOut, halive, hx, hn, out, -List.getD_eq_getElem?_getD]
  · refine ends_of_run rfl h0 ?_
    simp [State.spiUndefined, halive, Nat.not_lt.mpr hcmd]
  · exact ends_of_run rfl h0 (spiServe_answered hreq hrun hserving (serve_refused he))
  · refine ends_of_run rfl h0 (spiServe_answered hreq hrun hserving ?_)
    rw [serve_of_op_read hcheck hop, serveRead_value h1 h2]

end Sys2Proof.Machine
end

section
/-! Writes, pending values and subscriptions (R31 to R39, R81 to R84). -/
namespace Sys2Proof.Machine

/-- A WRITE to an object that takes effect at once, and that no unit of its own takes. -/
theorem applyWrite_imm {s : State} {who : Requester} {idx sub : Nat} {o : ObjDef} (hidx : idx < 0x8000) (ho : findObj idx sub = some o)
    (heff : o.eff = .imm) (htmr : inR 0x1210 0x1217 idx = false) (hwave : inR 0x1218 0x121B idx = false)
    (hchar : inR 0x3140 0x314F idx = false) (hacl : idx ≠ 0x3611) (hkey : idx ≠ 0x3630) (hmbx : idx ≠ 0x5022) (data : Bytes) :
    s.applyWrite who idx sub data = (some ⟨Rc.ok, 0, []⟩, s.store idx sub (leNat data)) := by
  simp [State.applyWrite, Nat.not_le.mpr hidx, htmr, hwave, hchar, hacl, hkey, hmbx, ho, heff]

/-- The subscriptions of others, and of the requester to other objects. -/
def otherSubs (l : List Sub) (r : Requester) (idx sub : Nat) : List Sub :=
  l.filter fun (y : Sub) => !(y.who = r && y.idx = idx && y.sub = sub)

theorem otherSubs_length_lt {l : List Sub} {r : Requester} {idx sub : Nat} (h : ∃ y ∈ l, y.who = r ∧ y.idx = idx ∧ y.sub = sub) :
    (otherSubs l r idx sub).length < l.length := by
  obtain ⟨y, hy, hwho, hidx, hsub⟩ := h
  exact List.length_filter_lt_length_iff_exists.mpr ⟨y, hy, by simp [hwho, hidx, hsub]⟩

theorem otherSubs_eq_self {l : List Sub} {r : Requester} {idx sub : Nat} (h : ¬(otherSubs l r idx sub).length < l.length) :
    otherSubs l r idx sub = l :=
  List.filter_eq_self.mpr fun y hy => by
    refine Decidable.byContradiction fun hne => h (List.length_filter_lt_length_iff_exists.mpr ⟨y, hy, hne⟩)

/-- The subscription that SUBSCRIBE makes (R81). -/
def State.newSub (s : State) (r : Requester) (idx sub : Nat) (d : Bytes) : Sub :=
  ⟨r, idx, sub, byteAt 0 d, leAt 1 2 d, leAt 3 2 d, s.now + ms (leAt 1 2 d), s.now, false, s.readVal r idx sub⟩

theorem subscribe_eq (s : State) (r : Requester) (idx sub : Nat) (d : Bytes) :
    s.subscribe r idx sub d =
      if (ntfIx r).isNone then ((Rc.denied, 0), s)
      else if (otherSubs s.dict.subs r idx sub).length < s.dict.subs.length then
        ((0, 0), { s with dict.subs := otherSubs s.dict.subs r idx sub ++ [s.newSub r idx sub d] })
      else if 64 ≤ (otherSubs s.dict.subs r idx sub).length ||
          16 ≤ ((otherSubs s.dict.subs r idx sub).filter fun (y : Sub) => y.who = r).length then ((Rc.busy, Dt.subsFull), s)
      else ((0, 0), { s with dict.subs := otherSubs s.dict.subs r idx sub ++ [s.newSub r idx sub d] }) := rfl

theorem isNone_false_of_isSome {α : Type} {o : Option α} (h : o.isSome = true) : ¬o.isNone = true := by
  simpa using Option.isSome_iff_ne_none.mp h

/-- SUBSCRIBE replaces the subscription that stands, or adds one where there is room. -/
theorem subscribe_taken {s : State} {r : Requester} {idx sub : Nat} (d : Bytes) (hr : (ntfIx r).isSome = true)
    (h : (∃ y ∈ s.dict.subs, y.who = r ∧ y.idx = idx ∧ y.sub = sub) ∨
      s.dict.subs.length < 64 ∧ (s.dict.subs.filter fun (y : Sub) => y.who = r).length < 16) :
    s.subscribe r idx sub d =
      ((0, 0), { s with dict.subs := otherSubs s.dict.subs r idx sub ++ [s.newSub r idx sub d] }) := by
  rw [subscribe_eq, if_neg (isNone_false_of_isSome hr)]
  by_cases hlt : (otherSubs s.dict.subs r idx sub).length < s.dict.subs.length
  · rw [if_pos hlt]
  · obtain ⟨h64, h16⟩ := h.resolve_left fun hy => hlt (otherSubs_length_lt hy)
    rw [if_neg hlt, if_neg (by simp [otherSubs_eq_self hlt, Nat.not_le.mpr h64, Nat.not_le.mpr h16])]

/-- SUBSCRIBE adds none where 64, or 16 of the requester's, exist (R82). -/
theorem subscribe_full {s : State} {r : Requester} {idx sub : Nat} (d : Bytes) (hr : (ntfIx r).isSome = true)
    (hnew : ∀ y ∈ s.dict.subs, ¬(y.who = r ∧ y.idx = idx ∧ y.sub = sub))
    (hfull : 64 ≤ s.dict.subs.length ∨ 16 ≤ (s.dict.subs.filter fun (y : Sub) => y.who = r).length) :
    s.subscribe r idx sub d = ((Rc.busy, Dt.subsFull), s) := by
  have hself : otherSubs s.dict.subs r idx sub = s.dict.subs :=
    List.filter_eq_self.mpr fun y hy => by
      have hother : (y.who = r && y.idx = idx && y.sub = sub : Bool) = false :=
        Bool.eq_false_iff.2 fun h => hnew y hy (by simpa only [Bool.and_eq_true, decide_eq_true_eq, and_assoc] using h)
      rw [hother]
      exact Bool.not_false
  rw [subscribe_eq, if_neg (isNone_false_of_isSome hr), if_neg (by rw [hself]; exact Nat.lt_irrefl _),
    if_pos (by rw [hself]; simpa using hfull)]

/-- A request of a row that the dictionary answers at once. -/
theorem ends_ask_answered {c : Instr} {s s0 u : State} {t op idx sub : Nat} {who : Requester} {data : Bytes} {a : Resp}
    (hc : exec c s = .next (s.run t fun s => s.ask who op idx sub data)) (h0 : s.tick t = s0)
    (h : Admits s0 who (rowReq op idx sub data)) (hs : s0.serve who (rowReq op idx sub data) = (some a, u)) :
    Ends c s s0 (u.answered who (rowReq op idx sub data) a) :=
  ends_of_run hc h0 (ask_answered h hs)

theorem serve_subscribe {s : State} {who : Requester} {idx sub : Nat} {data : Bytes} (h : Admits s who (rowReq 5 idx sub data)) :
    s.serve who (rowReq 5 idx sub data) =
      (some ⟨(s.subscribe who idx sub data).1.1, (s.subscribe who idx sub data).1.2, []⟩, (s.subscribe who idx sub data).2) := by
  obtain ⟨-, -, -, hcheck⟩ := h
  simp only [State.serve, hcheck]
  rfl

theorem serve_unsubscribe {s : State} {who : Requester} {idx sub : Nat} {data : Bytes} (h : Admits s who (rowReq 6 idx sub data)) :
    s.serve who (rowReq 6 idx sub data) = (some ⟨Rc.ok, 0, []⟩, s.unsubscribe who idx sub) := by
  obtain ⟨-, -, -, hcheck⟩ := h
  simp only [State.serve, hcheck]
  rfl

/-- Settles O20: the three kinds of write, the boundary, and the life of a subscription. -/
theorem dictionaryRowsComplete : Obligations.DictionaryRowsComplete := by
  unfold Obligations.DictionaryRowsComplete
  intro t s s0 r idx sub h0 hidx
  refine ⟨fun data o b hadm ho heff _ _ hchar _ _ _ hlive7 => ?_, fun data o hadm ho heff h1 h2 h3 h4 h5 h6 => ?_,
    fun data u hadm => ⟨fun a ha => ?_, fun hnone => ?_⟩, fun v hlive hpend hb => ?_, fun mode period gap => ?_, fun hadm => ?_,
    fun x hlive hserving hx => ⟨fun hmode hdue => ?_, fun hheld hgap => ?_⟩⟩
  · refine ends_ask_answered rfl h0 hadm ?_
    rw [serve_write hadm hidx, applyWrite_next hidx (by rw [ho, Option.map_some, heff]) hchar, State.writePending, hlive7]
    rfl
  · refine ends_ask_answered rfl h0 hadm ?_
    rw [serve_write hadm hidx, applyWrite_imm hidx ho heff h1 h2 h3 h4 h5 h6]
  · exact ends_ask_answered rfl h0 hadm (by rw [serve_write hadm hidx, ha])
  · exact ends_of_run rfl h0 (ask_runsOn hadm (by rw [serve_write hadm hidx, hnone]))
  · refine ends_of_run rfl h0 ?_
    have hany : ([Boundary.bNextTsApply, .bNextBleEngPublish, .bNextReset, .bNextColdReset, .bNextStartup].any fun b =>
        atBoundary b (okey idx sub)) = false := List.any_eq_false.mpr fun b hb' => by simp [hb b hb']
    simp only [whenLive_live hlive, State.pendApply, hany, applyPend_eq hpend]
    rfl
  · intro d rest hadm hr
    refine ⟨fun hroom => ?_, fun hnew hfull => ?_⟩
    · exact ends_ask_answered rfl h0 hadm (by rw [serve_subscribe hadm, subscribe_taken d hr hroom]; rfl)
    · exact ends_ask_answered rfl h0 hadm (by rw [serve_subscribe hadm, subscribe_full d hr hnew hfull])
  · exact ends_ask_answered rfl h0 hadm (serve_unsubscribe hadm)
  · refine ends_of_run rfl h0 ?_
    simp only [whenLive_live hlive, State.periodic, hx]
    exact if_neg (by simp [hserving, hdue]; omega)
  · refine ends_of_run rfl h0 ?_
    simp only [whenLive_live hlive, State.gapExpiry, hx]
    exact if_neg (by simp [hheld, hgap])

end Sys2Proof.Machine
end

section
/-! Network logins, LOGOUT and the timers of sessions (R60, R69 to R77). -/
namespace Sys2Proof.Machine

theorem pduOf_length (op seq idx sub b5 : Nat) (d : Bytes) : (pduOf op seq idx sub b5 d).length = 8 + d.length := by
  simp [pduOf_eq]
  omega

/-- The PDU of a message without a trailer. -/
theorem pduLen_plain {op seq : Nat} {d : Bytes} (h : d.length < 65536) : pduLen ([0, 0] ++ pduOf op seq 0 0 0 d) = 8 + d.length := by
  have hlen : leAt 8 2 ([0, 0] ++ pduOf op seq 0 0 0 d) = d.length := leAt_toLe_append d (by omega)
  rw [pduLen, hlen]

theorem slice_plain (op seq : Nat) (d : Bytes) :
    slice 2 (8 + d.length) ([0, 0] ++ pduOf op seq 0 0 0 d) = pduOf op seq 0 0 0 d := by
  rw [← pduOf_length op seq 0 0 0 d]
  exact List.take_length

theorem parseReq_data (op seq : Nat) (d : Bytes) : (parseReq (pduOf op seq 0 0 0 d)).data = d := drop_toLe_append 2 d.length d

/-- A login message of the network reaches its login. -/
theorem netMessage_plain {s : State} {via : Transport} {op seq : Nat} {d : Bytes} (hs : s.serving = true) (hd : d.length ≤ 1024)
    (hop : op < 256) :
    s.netMessage via ([0, 0] ++ pduOf op seq 0 0 0 d) =
      let q := parseReq (pduOf op seq 0 0 0 d)
      if op = 0x10 then (s.loginHello via 0 d).2.plainSend via q (s.loginHello via 0 d).1
      else if op = 0x11 then (s.loginProof via 0 d).2.plainSend via q (s.loginProof via 0 d).1
      else s := by
  have hfit : (!s.serving || decide (([0, 0] ++ pduOf op seq 0 0 0 d).length < 10) || decide (byteAt 1 ([0, 0] ++ pduOf op seq 0 0 0 d) ≠ 0) ||
      decide (1032 < 8 + d.length) || decide (([0, 0] ++ pduOf op seq 0 0 0 d).length < 2 + (8 + d.length))) = false := by
    simp [hs, pduOf_length]
    omega
  have hopv : (parseReq (pduOf op seq 0 0 0 d)).op = op := toNat_ofNat8 hop
  have hrsvd : (parseReq (pduOf op seq 0 0 0 d)).rsvd = 0 := rfl
  have hplain : byteAt 0 ([0, 0] ++ pduOf op seq 0 0 0 d) = 0 := rfl
  simp only [State.netMessage, pduLen_plain (Nat.lt_of_le_of_lt hd (by decide)), slice_plain, hfit, hplain, hopv, hrsvd,
    parseReq_data, Bool.false_eq_true, if_false, if_true]

/-- LOGIN_HELLO of an enabled requester with a LOGIN key and a free session slot (R69 to R73). -/
theorem loginHello_free {s0 s1 : State} {via : Transport} {d k : Bytes} {h i : Nat} (hd : d.length = 17) (hq : s0.gate.quench = false)
    (hdraw : s0.drawOk = true) (hrid : byteAt 0 d ≤ 7) (h1 : s0.boundary .bNextLogin = s1)
    (hen : bit (s1.g 0x1040 (byteAt 0 d + 1)) 16 = true) (hslot : s1.g 0x1040 (byteAt 0 d + 1) % 65536 = h) (hkind : s1.slotKind h = 5)
    (hkey : s1.slotKey h = some k) (hguard : (s1.dict.guards[byteAt 0 d]?.map fun g => g.locked s1.now).getD false = false)
    (hfree : (s1.dict.net.zipIdx.find? fun p => p.1.phase = .free).map Prod.snd = some i) :
    let nd := s1.draw 16
    let key := kdf k (ascii "KAMZEL") (d.drop 1 ++ nd.1 ++ [BitVec.ofNat 8 (byteAt 0 d)] ++ toLe 2 s1.nodeAddr) 16
    s0.loginHello via 0 d = (⟨Rc.ok, 0, BitVec.ofNat 8 (i + 1) :: nd.1⟩,
      { nd.2.cxOn (sesPage (i + 1)) 5 with
        dict.net := putAt s1.dict.net i ⟨.hello, byteAt 0 d, via, d.drop 1, nd.1, key, 0, 0, s1.now + secs 1, []⟩ }) := by
  subst h1 hslot
  simp only [State.loginHello, ne_eq, not_true_eq_false, if_false, hd, hq, hdraw, Nat.not_lt.mpr hrid, hen, hkind, hkey, hguard, hfree,
    Bool.not_true, Bool.false_eq_true, decide_false, Bool.or_self, Option.isNone_some, Option.getD_some]

/-- LOGIN_PROOF for a pending hello of the same transport, in its second (R69, R71). -/
theorem loginProof_pending {s : State} {via : Transport} {d : Bytes} {n : NetSess} (hd : d.length = 9) (hq : s.gate.quench = false)
    (hsid : byteAt 0 d ≠ 0) (hn : s.dict.net[byteAt 0 d - 1]? = some n) (hphase : n.phase = .hello) (hvia : n.via = via)
    (hdue : s.now ≤ n.due) :
    s.loginProof via 0 d =
      if cmac64 n.key ([0x01] ++ n.nd ++ n.nr) = d.drop 1 then
        (⟨Rc.ok, 0, cmac64 n.key ([0x02] ++ n.nr ++ n.nd)⟩,
          (s.cxOn (sesPage (byteAt 0 d)) 8).modNet (byteAt 0 d) fun x => { x with phase := .opened, due := s.now })
      else
        (⟨Rc.authFail, 0, []⟩, { (s.cxOn (sesPage (byteAt 0 d)) 4).netDrop (byteAt 0 d) with
          dict.guards := modAt s.dict.guards n.rid fun g => g.fail 5 s.now }) := by
  simp only [State.loginProof, ne_eq, not_true_eq_false, if_false, hd, hq, hsid, hn, hphase, hvia, Nat.not_lt.mpr hdue,
    Bool.false_eq_true, decide_false, Bool.or_self]

/-- A session that may ask is open, and its request counts (R74, R76). -/
theorem netCount_of_mayAsk {s : State} {sid : Nat} (h : s.mayAsk (.net sid) = true) :
    s.netCount sid = s.modNet sid fun x => { x with rx := x.rx + 1, due := s.now } := by
  have hopen : ((s.dict.net[sid - 1]?).map NetSess.phase) = some .opened := by
    simp only [State.mayAsk, Bool.and_eq_true, decide_eq_true_eq] at h
    obtain ⟨-, h⟩ := h
    cases hn : s.dict.net[sid - 1]? with
    | none => rw [hn] at h; cases h
    | some n =>
      rw [hn] at h
      exact congrArg some (of_decide_eq_true h)
  exact if_pos hopen

/-- Settles O21: the two logins by their equations, LOGOUT as a request of an open session, and the three timers. -/
theorem networkLoginCompletes : Obligations.NetworkLoginCompletes := by
  unfold Obligations.NetworkLoginCompletes
  intro t s s0 h0
  refine ⟨fun via seq d s1 h i k hd hs hq hdraw hrid h1 hen hslot hkind hkey hguard hfree => ?_,
    fun via seq d n hd hs hq hsid hn hphase hvia hdue => ⟨fun hmac => ?_, fun hmac => ?_⟩, fun sid seq hs hmay => ?_,
    fun sid n hsid hn => ⟨fun hphase hdue => ?_, fun hphase hdue => ?_⟩, fun rid => ends_of_run rfl h0 rfl⟩
  · intro nd key
    refine ends_of_run rfl h0 ?_
    rw [State.loginRow, netMessage_plain hs (by omega) (by decide)]
    simp only [if_true, loginHello_free hd hq hdraw hrid h1 hen hslot hkind hkey hguard hfree]
    rfl
  · refine ends_of_run rfl h0 ?_
    rw [State.loginRow, netMessage_plain hs (by omega) (by decide), loginProof_pending hd hq hsid hn hphase hvia hdue, if_pos hmac]
    rfl
  · refine ends_of_run rfl h0 ?_
    rw [State.loginRow, netMessage_plain hs (by omega) (by decide), loginProof_pending hd hq hsid hn hphase hvia hdue, if_neg hmac]
    rfl
  · refine ends_of_run rfl h0 ?_
    simp [State.logoutRow, hs, hmay, netCount_of_mayAsk hmay, State.netServe]
  · refine ends_of_run rfl h0 ?_
    simp only [State.loginTimeout, hn]
    exact if_pos (by simp [hsid, hphase, hdue])
  · refine ends_of_run rfl h0 ?_
    simp only [State.netIdle, hn]
    exact if_pos (by simp [hsid, hphase, hdue])

end Sys2Proof.Machine
end

section
/-! How the ports route a frame (R78 to R80, R563 to R566, R575): what a controller that hears makes of a frame, unit by unit. -/
namespace Sys2Proof.Machine

/-- A frame that a controller hears is counted, lowers the receive error counter and goes to the first unit that takes it (R564). -/
theorem canFrameIn_heard {s s1 : State} {c sof : Nat} {f : CanFrame} (hh : s.canHears c f.fmt = true)
    (h1 : (s.modCan c fun k => { k with rec_ := min (k.rec_ - 1) 127 }.settle).bump (0x4012 + c) 1 = s1) :
    s.canFrameIn c f sof =
      if s1.immoTakes c f then s1.immoRx f
      else if s1.canDictOn c f.id then
        if f.fmt = 3 then s1.xlDict c f.id f.sdt f.data else if f.fmt = 0 then s1 else s1.fdSegment c f.id f.data
      else if c = 0 && f.id = 0x7A0 && s1.has 5 && s1.gp 0x1048 0 = 1 && f.fmt = 0 then s1.v1Frame f.data
      else s1.canFilter c ⟨0, none, 0, f.fmt, f.flags, f.sdt, f.id, f.af, f.vcid, f.data, 0, 0⟩ (s1.domainAt sof) := by
  subst h1
  simp only [State.canFrameIn, hh, Bool.not_true, Bool.false_eq_true, if_false]

/-- A dictionary frame in a format that carries data segments reaches the dictionary. -/
theorem canDictRow_fd {s s1 : State} {c id : Nat} {d : Bytes} (hw : s.wakeHas (6 + c) = true) (hc : s.pwr.core = true)
    (hon : s.canDictOn c id = true) (hh : s.canHears c 1 = true)
    (h1 : (s.modCan c fun k => { k with rec_ := min (k.rec_ - 1) 127 }.settle).bump (0x4012 + c) 1 = s1)
    (himmo : s1.immoTakes c ⟨1, 0, 0, id, 0, 0, d⟩ = false) (hon1 : s1.canDictOn c id = true) :
    s.canDictRow c 1 0 id d = s1.fdSegment c id d := by
  rw [State.canDictRow, portIn_core hw hc, if_pos hon, canFrameIn_heard hh h1, himmo]
  simp only [hon1]
  rfl

theorem canDictRow_xl {s s1 : State} {c id : Nat} {d : Bytes} (hw : s.wakeHas (6 + c) = true) (hc : s.pwr.core = true)
    (hon : s.canDictOn c id = true) (hh : s.canHears c 3 = true)
    (h1 : (s.modCan c fun k => { k with rec_ := min (k.rec_ - 1) 127 }.settle).bump (0x4012 + c) 1 = s1)
    (himmo : s1.immoTakes c ⟨3, 0, 0, id, 0, 0, d⟩ = false) (hon1 : s1.canDictOn c id = true) :
    s.canDictRow c 3 0 id d = s1.xlDict c id 0 d := by
  rw [State.canDictRow, portIn_core hw hc, if_pos hon, canFrameIn_heard hh h1, himmo]
  simp only [hon1]
  rfl

/-- What a segment carries that is the first of its message (R65 to R67). -/
theorem fdSegment_first {s : State} {c id : Nat} {d : Bytes} (hon : s.canDictOn c id = true) (hmode : 2 ≤ s.canMode c)
    (hserving : s.serving = true) (hd : d ≠ []) (hno : byteAt 0 d % 64 = 0) (hfirst : bit (byteAt 0 d) 7 = true) :
    s.fdSegment c id d =
      if bit (byteAt 0 d) 6 then ((s.setReasm c none).setReasm c none).netMessage (.can c false) (slice 1 63 d)
      else (s.setReasm c none).setReasm c (some ⟨slice 1 63 d, 1, s.now + ms 50⟩) := by
  have htaken : (!s.canDictOn c id || decide (s.canMode c < 2) || d.isEmpty || !s.serving) = false := by
    simp [hon, Nat.not_lt.mpr hmode, hserving, hd]
  simp only [State.fdSegment, htaken, Bool.false_eq_true, if_false, hfirst, if_true, hno]
  rfl

/-- A dictionary frame for this part's own address and node (R62 to R64). -/
theorem t1sDict_own {s : State} {da sa payload : Bytes} (ht1s : s.net.t1s ≠ 0) (hda : leNat da = s.g 0x4020 0)
    (htype : byteAt 0 payload = 0x10) (hver : byteAt 1 payload = 2) (haddr : leAt 2 2 payload = s.nodeAddr)
    (hsrc : leAt 4 2 payload ≤ 0xFFF) :
    s.t1sDict da sa payload = s.netMessage (.t1s sa (leAt 4 2 payload)) (payload.drop 6) :=
  if_neg (by simp [ht1s, hda, htype, hver, haddr, hsrc])

/-- A good dictionary frame that the port takes is counted and goes to the dictionary (R575). -/
theorem t1sFrameIn_dict {s : State} {da payload : Bytes} (sa : Bytes) (sfd : Nat) (ht1s : s.net.t1s ≠ 0) (hcks : s.cksOn = true)
    (hheld : s.pwr.held = false) (hvio : s.gate.vio = true) (hmac : s.macTakes da = true) (htype : byteAt 0 payload = 0x10) :
    s.t1sFrameIn da sa 0x88B5 payload true sfd = (s.bump 0x4027 1).t1sDict da sa payload := by
  simp [State.t1sFrameIn, ht1s, hcks, hheld, hvio, hmac, htype]

/-- A Wairil frame while the link is UP: its CRC-32 is judged, then its TYPE (R78, R79). -/
theorem wairilIn_up {s : State} {raw : Bytes} (hwl : s.net.wl = 2) (hcks : s.cksOn = true) (hheld : s.pwr.held = false)
    (hlen : raw.length = 7 + leAt 1 2 raw) :
    s.wairilIn raw =
      if crc32 (raw.take (3 + leAt 1 2 raw)) ≠ leAt (3 + leAt 1 2 raw) 4 raw then s.bump 0x4310 8
      else if byteAt 0 raw = 0x10 then
        (if byteAt 0 (slice 3 (leAt 1 2 raw) raw) = 0xFF then
          s.netMessage (.t1s (nodeMac s.seg.segNo s.peerNode) (s.addrOf s.peerNode)) (slice 3 (leAt 1 2 raw) raw) else s)
      else if byteAt 0 raw = 0x20 || (0x28 ≤ byteAt 0 raw && byteAt 0 raw ≤ 0x2E) then
        s.segRoute (BitVec.ofNat 8 (byteAt 0 raw) :: slice 3 (leAt 1 2 raw) raw) true
      else s.segCount 4 := by
  have hup : (decide (s.net.wl ≠ 2) || !s.cksOn || s.pwr.held) = false := by simp [hwl, hcks, hheld]
  simp only [State.wairilIn, hup, hlen, Bool.false_eq_true, if_false, ne_eq, not_true_eq_false, decide_false, Bool.false_or,
    decide_eq_true_eq]

/-- Settles O22, transport by transport. -/
theorem dictionaryFramesComplete : Obligations.DictionaryFramesComplete := by
  unfold Obligations.DictionaryFramesComplete
  intro t s s0 h0 hcore
  refine ⟨fun da sa payload s1 hw ht1s hcks hheld hvio hmac h1 ht1s1 hda htype hver haddr hsrc => ?_, fun c id s1 hw hon h1 hon1 =>
    ⟨fun d hh himmo hmode hserving hd hno hfirst => ⟨fun hlast => ?_, fun hlast => ?_⟩, fun d hh himmo hmode hxl => ?_⟩,
    fun c r hlive hr hdue => ?_, fun raw fills s1 hw h1 hwl hcks hheld => ⟨fun hlen hcrc => ?_, fun hlen hcrc =>
      ⟨fun htype hsid => ?_, fun htype => ?_⟩⟩⟩
  · subst h1
    refine ends_of_run rfl h0 ?_
    rw [portIn_core hw hcore, if_pos htype]
    rw [t1sFrameIn_dict sa _ ht1s hcks hheld hvio hmac htype, t1sDict_own ht1s1 hda htype hver haddr hsrc]
  · refine ends_of_run rfl h0 ?_
    rw [canDictRow_fd hw hcore hon hh h1 himmo hon1, fdSegment_first hon1 hmode hserving hd hno hfirst, if_pos hlast]
  · refine ends_of_run rfl h0 ?_
    rw [canDictRow_fd hw hcore hon hh h1 himmo hon1, fdSegment_first hon1 hmode hserving hd hno hfirst, if_neg (by simp [hlast])]
  · refine ends_of_run rfl h0 ?_
    rw [canDictRow_xl hw hcore hon hh h1 himmo hon1, State.xlDict, if_neg (by simp [hon1, hmode, hxl])]
  · refine ends_of_run rfl h0 ?_
    rw [whenLive_live hlive]
    simp only [State.fdTimeout, hr, hdue, if_true]
  · refine ends_of_run rfl h0 ?_
    rw [portIn_core hw hcore, h1, wairilIn_up hwl hcks hheld hlen, if_pos hcrc]
  · refine ends_of_run rfl h0 ?_
    rw [portIn_core hw hcore, h1, wairilIn_up hwl hcks hheld hlen, if_neg (not_not_intro hcrc), if_pos htype, if_pos hsid]
  · refine ends_of_run rfl h0 ?_
    have hne : byteAt 0 raw ≠ 0x10 := by omega
    rw [portIn_core hw hcore, h1, wairilIn_up hwl hcks hheld hlen, if_neg (not_not_intro hcrc), if_neg hne, if_pos (by simpa using htype)]

end Sys2Proof.Machine
end

section
/-! Transport version 1 (R85 to R88). -/
namespace Sys2Proof.Machine

/-- A version 1 frame that CAN 0 hears and no unit before version 1 takes goes to its command. -/
theorem v1Row_served {s s1 : State} {k : Nat} {f : Bytes} (hc : s.pwr.core = true) (hw : s.wakeHas 6 = true) (hh : s.canHears 0 0 = true)
    (h1 : (s.modCan 0 fun k => { k with rec_ := min (k.rec_ - 1) 127 }.settle).bump 0x4012 1 = s1)
    (himmo : s1.immoTakes 0 ⟨0, 0, 0, 0x7A0, 0, 0, f⟩ = false) (hdict : s1.canDictOn 0 0x7A0 = false) (hhas : s1.has 5 = true)
    (hon : s1.gp 0x1048 0 = 1) (hk : byteAt 0 f / 16 = k) : s.v1Row k f = s1.v1Frame f := by
  rw [State.v1Row, if_neg (not_not_intro hk), portIn_core hw hc, canFrameIn_heard hh h1, himmo]
  simp only [hdict, hhas, hon]
  rfl

/-- A READ of a visible, readable object whose unit is up (R86, R88). -/
theorem v1Read_value {s0 s : State} {f : Bytes} (hs : s0.v1Take = s) (hon : s.v1On f = true) (hcmd : byteAt 0 f = 0x10)
    (hvis : (v1Visible (leAt 1 2 f) (byteAt 3 f)).isSome = true) (hhere : s.objHere (leAt 1 2 f) (byteAt 3 f) = true)
    (hread : s.mayRead (.net 1) (leAt 1 2 f) (byteAt 3 f) = true) (hup : s.unitUp (leAt 1 2 f) (byteAt 3 f) = true)
    (hraw : leAt 1 2 f ≠ 0x1310) (hrnd : leAt 1 2 f ≠ 0x1320) :
    s0.v1Read f = (s.readEffect (leAt 1 2 f) (byteAt 3 f)).v1Send 3 f (s.readVal (.net 1) (leAt 1 2 f) (byteAt 3 f)) := by
  have hvis' : (v1Visible (leAt 1 2 f) (byteAt 3 f)).isNone = false := Option.isNone_eq_false_iff.mpr hvis
  simp [State.v1Read, hs, hon, hcmd, hvis', hhere, hread, hup, serveRead_value hrnd hraw, hraw]

/-- A WRITE of a writable object while the writes are unlocked (R86, R88). -/
theorem v1Write_applied {s0 s : State} {f : Bytes} {u : Nat} (hs : s0.v1Take = s) (hon : s.v1On f = true) (hcmd : byteAt 0 f / 16 = 2)
    (hvis : v1Visible (leAt 1 2 f) (byteAt 3 f) = some true) (hhere : s.objHere (leAt 1 2 f) (byteAt 3 f) = true)
    (hletter : s.letterOf (.net 1) (leAt 1 2 f) (byteAt 3 f) ≠ .no) (hun : s.dict.v1.unlocked = some u) (hunow : s.now ≤ u)
    (hn : byteAt 0 f % 16 ≤ 4)
    (hlen : s.dataLenOk ⟨2, 0, leAt 1 2 f, byteAt 3 f, 0, slice 4 (byteAt 0 f % 16) f, true⟩ = true)
    (hup : s.unitUp (leAt 1 2 f) (byteAt 3 f) = true)
    (hval : s.valueCheck ⟨2, 0, leAt 1 2 f, byteAt 3 f, 0, slice 4 (byteAt 0 f % 16) f, true⟩ = none) :
    s0.v1Write f = (s.applyWrite (.net 1) (leAt 1 2 f) (byteAt 3 f) (slice 4 (byteAt 0 f % 16) f)).2.v1Send 3 f [] := by
  simp [State.v1Write, hs, hon, hcmd, hvis, hhere, hletter, hun, hunow, Nat.not_lt.mpr hn, hlen, hup, hval]

/-- UNLOCK_PROOF for an open challenge with a usable key (R85 to R87). -/
theorem v1Proof_judged {s0 s : State} {f c k : Bytes} (hs : s0.v1Take = s) (hon : s.v1On f = true) (hq : s.gate.quench = false)
    (hcmd : byteAt 0 f = 0x74) (hchal : s.dict.v1.challenge = some c) (hkey : s.v1Key = some k) :
    s0.v1Proof f =
      if (cmac k c).take 4 = slice 4 4 f then
        ({ s.cxUse 3 2 with dict.v1 := { s.dict.v1 with challenge := none, unlocked := some (s.now + secs 30) } } : State).v1Send 3 f []
      else
        ({ s with dict.v1 := { s.dict.v1 with challenge := none, unlocked := none, guard := s.dict.v1.guard.fail 3 s.now } } : State).v1Error
          f Rc.authFail 0 := by
  simp only [State.v1Proof, hs, hon, hq, hcmd, hchal, hkey]
  simp

/-- Settles O23: each command of version 1 past its checks, and the two timers. -/
theorem versionOneFramesComplete : Obligations.VersionOneFramesComplete := by
  unfold Obligations.VersionOneFramesComplete
  intro t s s0 h0
  refine ⟨fun f s1 s2 hc hw hh h1 himmo hdict hhas hon h2 hserved => ?_, fun u hu hdue => ?_, fun hlock => ?_⟩
  · have hframe : s0.v1Row (byteAt 0 f / 16) f = s1.v1Frame f := v1Row_served hc hw hh h1 himmo hdict hhas hon rfl
    refine ⟨fun hcmd hvis hhere hread hup h3 h4 => ?_, fun u hcmd hvis hhere hletter hun hunow hn hlen hup hval => ?_,
      fun hq => ⟨fun hcmd hlock hdraw => ?_, fun c k hcmd hchal hkey => ⟨fun hmac => ?_, fun hmac => ?_⟩⟩⟩
    · rw [hcmd] at hframe
      refine ends_of_run rfl h0 (hframe.trans ?_)
      simp only [State.v1Frame, hcmd]
      exact v1Read_value h2 hserved hcmd hvis hhere hread hup h3 h4
    · rw [hcmd] at hframe
      refine ends_of_run rfl h0 (hframe.trans ?_)
      simp only [State.v1Frame, hcmd]
      exact v1Write_applied h2 hserved hcmd hvis hhere hletter hun hunow hn hlen hup hval
    · rw [hcmd] at hframe
      refine ends_of_run rfl h0 (hframe.trans ?_)
      have htake : s1.v1Take = s2 := h2
      simp [State.v1Frame, hcmd, State.v1UnlockReq, htake, hserved, hq, hlock, hdraw]
    · rw [hcmd] at hframe
      refine ends_of_run rfl h0 (hframe.trans ?_)
      simp only [State.v1Frame, hcmd]
      exact (v1Proof_judged h2 hserved hq hcmd hchal hkey).trans (if_pos hmac)
    · rw [hcmd] at hframe
      refine ends_of_run rfl h0 (hframe.trans ?_)
      simp only [State.v1Frame, hcmd]
      exact (v1Proof_judged h2 hserved hq hcmd hchal hkey).trans (if_neg hmac)
  · refine ends_of_run rfl h0 ?_
    simp only [State.v1Expiry, hu, hdue, if_true]
  · refine ends_of_run rfl h0 ?_
    simp only [State.v1LockEnd, hlock]
    rfl

end Sys2Proof.Machine
end

section
/-! DevCommit, DevRestoreDefaults, DevReset and DevSelfTest (R41 to R46, R95, R97, R649). -/
namespace Sys2Proof.Machine

/-- DevReset of a kind that nothing holds off waits for its answer to leave. -/
theorem devReset_armed {s : State} {k : Nat} (hk : k = 1 ∨ k = 2) (hfree : k = 2 → s.gate.startEn = false ∧ s.acc.drive = none) :
    s.devReset k = (some ⟨0, 0, []⟩, { s with dict.resetDue := some (decide (k = 2), none) }) := by
  rcases hk with rfl | rfl
  · rfl
  · obtain ⟨hstart, hdrive⟩ := hfree rfl
    simp [State.devReset, hstart, hdrive]

/-- What DevReset asks the dictionary for, once every check has passed. -/
theorem ask_devReset {s : State} {r : Requester} {k : Nat} (hk : k = 1 ∨ k = 2)
    (hfree : k = 2 → s.gate.startEn = false ∧ s.acc.drive = none) (hadm : Admits s r (rowReq 3 0x1018 0 [BitVec.ofNat 8 k])) :
    s.ask r 3 0x1018 0 [BitVec.ofNat 8 k] =
      ({ s with dict.resetDue := some (decide (k = 2), none) } : State).answered r (rowReq 3 0x1018 0 [BitVec.ofNat 8 k]) ⟨0, 0, []⟩ := by
  have hoct : byteAt 0 [BitVec.ofNat 8 k] = k := toNat_ofNat8 (by omega)
  have hserve : s.serve r (rowReq 3 0x1018 0 [BitVec.ofNat 8 k]) = _ := serve_exec hadm
  refine ask_answered hadm (hserve.trans ?_)
  show s.devReset (byteAt 0 [BitVec.ofNat 8 k]) = _
  rw [hoct, devReset_armed hk hfree]

/-- An answer that goes by no port times the reset at once. -/
theorem answered_direct_reset {s : State} {r : Requester} (q : Req) (a : Resp) {cold : Bool} (hr : r = .host ∨ ∃ n, r = .engine n) :
    ({ s with dict.resetDue := some (cold, none) } : State).answered r q a =
      { s with dict.resetDue := some (cold, some (s.now + us 100)), dict.last := some (r, q, a) } := by
  rcases hr with rfl | ⟨n, rfl⟩ <;> rfl

/-- DevReset whose answer is given at once: the reset follows 100 us later (R97). -/
theorem devResetRow_direct {s : State} {r : Requester} {k : Nat} (hk : k = 1 ∨ k = 2)
    (hfree : k = 2 → s.gate.startEn = false ∧ s.acc.drive = none) (hnone : s.dict.resetDue = none)
    (hadm : Admits s r (rowReq 3 0x1018 0 [BitVec.ofNat 8 k])) (hr : r = .host ∨ ∃ n, r = .engine n) :
    s.devResetRow r k =
      ({ s with dict.resetDue := some (decide (k = 2), some (s.now + us 100)),
                dict.last := some (r, rowReq 3 0x1018 0 [BitVec.ofNat 8 k], ⟨0, 0, []⟩), now := s.now + us 100 } : State).resetTake
        (decide (k = 2)) (if k = 2 then 5 else 4) := by
  have hmax : max s.now (s.now + us 100) = s.now + us 100 := Nat.max_eq_right (Nat.le_add_right _ _)
  simp only [State.devResetRow, hnone, Option.isSome_none, Bool.false_eq_true, if_false, ask_devReset hk hfree hadm,
    answered_direct_reset _ _ hr, hmax, decide_eq_true_eq]

/-- DevReset whose answer leaves by a port waits for its departure. -/
theorem devResetRow_waits {s s1 : State} {r : Requester} {k : Nat} (hk : k = 1 ∨ k = 2)
    (hfree : k = 2 → s.gate.startEn = false ∧ s.acc.drive = none) (hnone : s.dict.resetDue = none)
    (hadm : Admits s r (rowReq 3 0x1018 0 [BitVec.ofNat 8 k]))
    (h1 : ({ s with dict.resetDue := some (decide (k = 2), none) } : State).answered r (rowReq 3 0x1018 0 [BitVec.ofNat 8 k]) ⟨0, 0, []⟩ = s1)
    (hwait : s1.dict.resetDue = some (decide (k = 2), none)) : s.devResetRow r k = s1 := by
  simp only [State.devResetRow, hnone, Option.isSome_none, Bool.false_eq_true, if_false, ask_devReset hk hfree hadm, h1, hwait]

/-- The end of a self-test in which `f` has failed (R95). -/
theorem selfTestDone_running {s : State} {who : Requester} (fail : Nat) (sealBad : Bool) (h : s.dict.selfTest = some who) :
    s.selfTestDone fail sealBad =
      let f := if sealBad then fail &&& presence s.fuse.variant ||| 0x400 else fail &&& presence s.fuse.variant
      let s1 := ({ s with dict.selfTest := none } : State).put 0x1021 0 f
      let s2 := if f = 0 then s1 else s1.errBit 0 0x1000 0 0
      (if sealBad then s2.quench 3 else s2).answer who 0x1020 ⟨0, 0, []⟩ := by
  simp only [State.selfTestDone, h]

/-- Settles O24, command by command. -/
theorem deviceCommandsComplete : Obligations.DeviceCommandsComplete := by
  unfold Obligations.DeviceCommandsComplete
  intro t s s0 r h0
  refine ⟨fun hnone => ?_, fun c hlive hc => ⟨?_, ?_⟩, answers_exec rfl h0 rfl, fun hnone => ⟨fun q hq hadm => ⟨fun hr => ?_, fun s1 h1 hw => ?_⟩,
    fun q hq hadm hstart hdrive => ⟨fun hr => ?_, fun s1 h1 hw => ?_⟩⟩, starts_exec rfl h0 rfl, fun who fail hlive htest =>
    ⟨fun hf => ?_, fun hf => ?_, fun hf => ?_⟩⟩
  · refine starts_exec rfl h0 ?_
    show s0.devCommit r = _
    simp [State.devCommit, hnone]
  · refine ends_of_run rfl h0 ?_
    simp only [whenLive_live hlive, State.devCommitDone, hc, if_true]
  · refine ends_of_run rfl h0 ?_
    simp only [whenLive_live hlive, State.devCommitDone, hc, Bool.false_eq_true, if_false]
  · subst hq
    exact ends_of_run rfl h0 (devResetRow_direct (k := 1) (.inl rfl) (fun h => by cases h) hnone hadm hr)
  · subst hq
    exact ends_of_run rfl h0 (devResetRow_waits (k := 1) (.inl rfl) (fun h => by cases h) hnone hadm h1 hw)
  · subst hq
    exact ends_of_run rfl h0 (devResetRow_direct (k := 2) (.inr rfl) (fun _ => ⟨hstart, hdrive⟩) hnone hadm hr)
  · subst hq
    exact ends_of_run rfl h0 (devResetRow_waits (k := 2) (.inr rfl) (fun _ => ⟨hstart, hdrive⟩) hnone hadm h1 hw)
  · refine ends_of_run rfl h0 ?_
    rw [whenLive_live hlive, selfTestDone_running fail false htest]
    have hf' : fail &&& presence s0.fuse.variant = 0 := hf
    simp only [Bool.false_eq_true, if_false, hf', if_true]
  · refine ends_of_run rfl h0 ?_
    rw [whenLive_live hlive, selfTestDone_running fail false htest]
    have hf' : ¬fail &&& presence s0.fuse.variant = 0 := hf
    simp only [Bool.false_eq_true, if_false, hf']
  · refine ends_of_run rfl h0 ?_
    rw [whenLive_live hlive, selfTestDone_running fail true htest]
    have hf' : ¬fail &&& presence s0.fuse.variant ||| 0x400 = 0 := hf
    simp only [if_true, hf', if_false]

end Sys2Proof.Machine
end

section
/-! The validity clock, revocation and the counter journal (R122 to R151). -/
namespace Sys2Proof.Machine

/-- A record's bad read-back has it written once more, in the next slot of the bank (R143). -/
theorem recordDone_retry {s : State} {w : JWrite} {j : Journal} (hw : s.acc.jr.writes = [w]) (hdue : w.due ≤ s.now)
    (hj : s.acc.jr.setActive (s.acc.jr.active.push false w.r) = j) (hr : w.retry = false) (hroom : j.active.slots.length < 4094) :
    s.recordDone false = { s with acc.jr := { j with writes := [⟨w.r, true, s.now + us 80⟩], waiting := j.waiting } } := by
  obtain ⟨n, hn⟩ : ∃ n, 4094 - j.active.slots.length = n + 1 := ⟨4094 - j.active.slots.length - 1, by omega⟩
  simp only [State.recordDone, hw, Nat.not_lt.mpr hdue, if_false, hj, hr, Bool.not_false, Bool.false_eq_true, if_true, hn,
    List.take_succ_cons, List.take_nil, List.drop_succ_cons, List.drop_nil, List.map_nil, List.nil_append]

/-- The second failure of a record fails the journal, and the advance that it belongs to (R148, R149). -/
theorem recordDone_failed {s : State} {w : JWrite} {j : Journal} (hw : s.acc.jr.writes = [w]) (hdue : w.due ≤ s.now)
    (hj : s.acc.jr.setActive (s.acc.jr.active.push false w.r) = j) (hr : w.retry = true) :
    s.recordDone false =
      { s with acc.jr := { j with writes := [], st := .failed },
               acc.adv := s.acc.adv.map fun (a : Advance) =>
                 if s.recOf a.key a.value = { w.r with seq := 0 } then { a with failed := true, owed := true } else a } := by
  simp only [State.recordDone, hw, Nat.not_lt.mpr hdue, if_false, hj, hr, Bool.not_true, Bool.false_eq_true]

/-- Settles O25, event by event. -/
theorem validityAndJournalComplete : Obligations.ValidityAndJournalComplete := by
  unfold Obligations.ValidityAndJournalComplete
  intro t s s0 r h0
  refine ⟨fun ceiling d hd hheld hceil => ?_, fun arg hauth hrsvd hnew hroom hcache l u hl hu hkeep => ?_, fun hvaon hdue hqual => ?_,
    fun hlive hdue => ?_, ends_of_run rfl h0 rfl, fun w hlive hw hdue => ⟨?_, fun j hj => ⟨fun hr hroom => ?_, fun hr => ?_⟩⟩,
    fun hlive hcop hst hfill => ?_, fun n hlive hcop => ⟨fun hlen => ?_, fun hlen => ?_, fun hhold hwr hwait hst => ?_⟩⟩
  · refine answers_exec rfl h0 ?_
    show ret (s0.clockConfirm (leNat (toLe 8 ceiling)) s0.lockedSecs) = _
    simp [State.clockConfirm, hd, hheld, Nat.not_lt.mpr hceil, ret]
  · subst hl
    refine answers_exec rfl h0 ?_
    have hnone : (u.acc.cache.find? fun p => p.2.id = leAt 0 8 arg && p.2.auth = byteAt 8 arg) = none := by
      rw [hkeep]
      exact List.find?_eq_none.mpr fun p hp => by simpa using hcache p hp
    show ret (s0.credRevoke arg) = _
    simp [State.credRevoke, Nat.not_lt.mpr hauth, hrsvd, hnew, Nat.not_le.mpr hroom, hu, hnone, ret]
  · refine ends_of_run rfl h0 ?_
    have hnone : s0.lockedSecs = none := if_neg hqual
    simp only [whenVaon_on hvaon, hnone, State.vcSecond, Nat.not_lt.mpr hdue, if_false]
    rfl
  · refine ends_of_run rfl h0 ?_
    simp only [whenLive_live hlive, State.floorPeriod, hdue, if_true]
  · refine ends_of_run rfl h0 ?_
    simp only [whenLive_live hlive, State.journalDone, State.recordDone, hw, Nat.not_lt.mpr hdue, if_false, if_true]
  · refine ends_of_run rfl h0 ?_
    rw [whenLive_live hlive, State.journalDone, recordDone_retry hw hdue hj hr hroom]
  · refine ends_of_run rfl h0 ?_
    rw [whenLive_live hlive, State.journalDone, recordDone_failed hw hdue hj hr]
  · refine ends_of_run rfl h0 ?_
    rw [whenLive_live hlive]
    exact if_pos (by simp [hcop, hst, hfill])
  · refine ends_of_run rfl h0 ?_
    simp only [whenLive_live hlive, State.compactPass, hcop, hlen, if_true]
  · refine ends_of_run rfl h0 ?_
    simp only [whenLive_live hlive, State.compactPass, hcop, Nat.not_le.mpr hlen, if_false]
  · refine ends_of_run rfl h0 ?_
    simp [whenLive_live hlive, State.compactSwitch, hcop, hhold, hwr, hwait, hst]

end Sys2Proof.Machine
end

section
/-! The Zarique session messages of a BLE connection (R129, R156 to R188, R285). -/
namespace Sys2Proof.Machine

/-- The state in which a BLE message is judged: it has left its connection's queue. -/
def zqPopped (s : State) (c : Nat) (m : Bytes) : State :=
  { s with ble.conns := modAt s.ble.conns c fun o => o.map fun (x : BleConn) =>
      { x with rxq := if x.rxq.head? = some m then x.rxq.tail else x.rxq } }

/-- A message's own row hands it to the judgement of Zarique messages. -/
theorem zqRow_judged {s : State} {c : Nat} {m : Bytes} (hlive : s.live = true) (hlink : s.linkUp (.ble c) = true) {typ : Nat}
    (htyp : byteAt 0 m = typ) : s.zqRow typ (.ble c) m = ((zqPopped s c m).zqJudge (.ble c) m).2 := by
  simp only [State.zqRow, whenLive_live hlive, hlink, htyp, decide_true, Bool.and_self, if_true]
  rfl

/-- A message that its form or its count refuses is dropped and counted. -/
theorem zqDropRow_bad {s : State} {c : Nat} {m : Bytes} (hlive : s.live = true) (hlink : s.linkUp (.ble c) = true)
    (hbad : s.zqBad (.ble c) m = true) : s.zqDropRow (.ble c) m = ((zqPopped s c m).zqJudge (.ble c) m).2 := by
  simp only [State.zqDropRow, whenLive_live hlive, hlink, hbad, Bool.and_self, if_true]
  rfl

section
variable {s : State} {c : Nat} {m : Bytes}

theorem zqJudge_bad (hdec : s.deciding = true) (hbad : s.zqBad (.ble c) m = true) :
    s.zqJudge (.ble c) m = (false, s.bump 0x2234 0) := by
  simp [State.zqJudge, State.zqDrop, hdec, hbad]

variable (hdec : s.deciding = true) (hgood : s.zqBad (.ble c) m = false)
include hdec hgood

theorem zqJudge_tokenProof (htyp : byteAt 0 m = 0x11) : s.zqJudge (.ble c) m = s.tokenProof (.ble c) (m.drop 2) := by
  simp [State.zqJudge, hdec, hgood, htyp]

theorem zqJudge_credProof (htyp : byteAt 0 m = 0x12) : s.zqJudge (.ble c) m = s.credProof (.ble c) (m.drop 2) := by
  simp [State.zqJudge, hdec, hgood, htyp]

theorem zqJudge_attest (htyp : byteAt 0 m = 0x13) : s.zqJudge (.ble c) m = (false, s.attestMsg (.ble c) (m.drop 2)) := by
  simp [State.zqJudge, hdec, hgood, htyp]

theorem zqJudge_session {typ : Nat} (htyp : byteAt 0 m = typ) (h : 0x14 ≤ typ) :
    s.zqJudge (.ble c) m = (true, s.zqServe (.ble c) typ m) := by
  have h1 : typ ≠ 0x11 := by omega
  have h2 : typ ≠ 0x12 := by omega
  have h3 : typ ≠ 0x13 := by omega
  simp [State.zqJudge, hdec, hgood, htyp, h1, h2, h3]

end

/-- An attestation that every check accepts raises VC (R129). -/
theorem attest_accepted {s : State} {b k : Bytes} (hlen : b.length = 40) (hver : byteAt 0 b = 2) (hgrp : leAt 2 2 b < 2)
    (hres : slice 10 6 b = zeros 6) (hauth : s.authCheck (byteAt 1 b) 1 = (0, 0))
    (hkey : kdf (s.fak (byteAt 1 b)) (ascii "GZTIME-ATT") [BitVec.ofNat 8 (byteAt 1 b)] 16 = k)
    (hmac : cmac k (b.take 24) = b.drop 24) (htgt : s.targetOk (bit (leAt 2 2 b) 0) (slice 16 8 b) = true)
    (hahead : s.acc.vclk.vc < leAt 4 6 b) :
    s.attest b =
      ((0, 0), (({ s with acc.vclk.vc := leAt 4 6 b,
                          acc.vclk.st := if s.acc.vclk.st = 0 then 1 else s.acc.vclk.st } : State).putFloor.authUse (byteAt 1 b))) := by
  simp [State.attest, hlen, hver, hgrp, hres, hauth, hkey, hmac, htgt, Nat.not_le.2 hahead]

theorem attestMsg_asked {s : State} {c : Nat} {b : Bytes} {x : BleConn} (hdec : s.deciding = true) (hx : s.conn c = some x)
    (hchal : x.chal = true) :
    s.attestMsg (.ble c) b = (s.attest b).2.resultPlain (.ble c) (s.attest b).1.1 (s.attest b).1.2 := by
  simp [State.attestMsg, hdec, hx, hchal]

section
variable {s s2 : State} {c i : Nat} {m b : Bytes} {x : TokSession}

theorem zqServe_enrolCode (hin : s.zqIn (.ble c) 0x14 m = some (i, x, b, s2)) :
    s.zqServe (.ble c) 0x14 m =
      ((s2.enrolCode x b).2.sesResult x.tsh (s2.enrolCode x b).1.1 (s2.enrolCode x b).1.2 0x10 (s2.lastOfSes x)).mctrEnd x.tsh := by
  simp only [State.zqServe, hin]

theorem zqServe_enrolRequest (hin : s.zqIn (.ble c) 0x15 m = some (i, x, b, s2)) (hnone : (s2.enrolRequest x b).2.1 = none)
    (hdraw : (s2.enrolRequest x b).1.1 ≠ 0 ∨ s2.drawOk = true) :
    s.zqServe (.ble c) 0x15 m =
      ((s2.enrolRequest x b).2.2.sesResult x.tsh (s2.enrolRequest x b).1.1 (s2.enrolRequest x b).1.2 0x10
        (s2.lastOfSes x)).mctrEnd x.tsh := by
  have hnow : ((s2.enrolRequest x b).1.1 = 0 && !s2.drawOk) = false := by
    rcases hdraw with h | h <;> simp [h]
  simp only [State.zqServe, hin, hnow, Bool.false_eq_true, if_false, State.enrolServe, hnone]

theorem zqServe_revokeRequest (hin : s.zqIn (.ble c) 0x16 m = some (i, x, b, s2)) :
    s.zqServe (.ble c) 0x16 m = (s2.revokeRequest i x b).mctrEnd x.tsh := by
  simp only [State.zqServe, hin]

theorem zqServe_end (hin : s.zqIn (.ble c) 0x17 m = some (i, x, b, s2)) :
    s.zqServe (.ble c) 0x17 m = (s2.endSession x.tsh (some (0, 0))).mctrEnd x.tsh := by
  simp only [State.zqServe, hin]

end

/-- The notified CHALLENGE of a connection that has had none. -/
theorem bleChallenge_due {s : State} {c : Nat} {x : BleConn} (hx : s.conn c = some x) (hdec : s.deciding = true)
    (hdraw : s.drawOk = true) (hchal : x.chal = false) (hcccd : bit (x.cccdOf 0x0013) 0 = true) (hmtu : 83 ≤ x.mtu) :
    s.bleChallenge c = ((((s.newNonce (.ble c) 1 0xFF).2.modConn c fun y => { y with chal := true }).vsend (.ble c)
      (zqPlain 0x01 ((s.newNonce (.ble c) 1 0xFF).2.challengeBody 1 0xFF (s.newNonce (.ble c) 1 0xFF).1))).bleFlush c) := by
  simp [State.bleChallenge, hx, hdec, hdraw, hchal, hcccd, hmtu]

/-- The one prompt that waits on a connection leaves with a fresh nonce. -/
theorem blePrompt_one {s s1 : State} {c i : Nat} {n : Nonce} {x : TokSession} (hdec : s.deciding = true) (hdraw : s.drawOk = true)
    (hn : (s.acc.nonces.filter fun n => n.car = .ble c && n.left.isNone) = [n])
    (h1 : ({ s with acc.nonces := s.acc.nonces.filter fun (m : Nonce) => m.car ≠ Carrier.ble c || m.left.isSome } : State) = s1)
    (hses : s1.sesOn (.ble c) = some (i, x)) :
    s.blePrompt c = ((((s1.newNonce (.ble c) n.reason n.gate).2.sesSendRaw i x.kmac 0x05
      ([BitVec.ofNat 8 n.reason, BitVec.ofNat 8 n.gate] ++ (s1.newNonce (.ble c) n.reason n.gate).1)).bleFlush c).mctrEnd x.tsh) := by
  simp only [State.blePrompt, hdec, hdraw, Bool.and_self, if_true, hn, List.foldl_cons, List.foldl_nil, h1, hses]

/-- RANGING_SETUP leaves with the session's ranging key in a free slot of page 1. -/
theorem bleRanging_due {s s1 : State} {c i h : Nat} {x : TokSession} (hses : s.sesOn (.ble c) = some (i, x)) (hsetup : x.setup = true)
    (hdraw : s.drawOk = true) (hquench : s.gate.quench = false) (h1 : (s.modSes i fun y => { y with setup := false }) = s1)
    (hfree : s1.freeSlot 1 = some h) :
    let r := ((s1.loadSlot h stsAttr x.ksts).modSes i fun y => { y with sts := some h }).openUwb x.tsh h s.now
    s.bleRanging c = ((r.2.sesSendRaw i x.kmac 0x04 r.1).bleFlush c).mctrEnd x.tsh := by
  simp only [State.bleRanging, hses, hsetup, hdraw, hquench, Bool.not_true, Bool.or_self, Bool.false_eq_true, if_false, h1, hfree]

/-- The acknowledgement of the carrier that a sent transfer runs over confirms it. -/
theorem keyDelivered_sent {s : State} {car : Carrier} {l : Learn} {i : Nat} {x : TokSession} {y : Transfer}
    (hl : s.acc.learn = some l) (hses : s.sesOn car = some (i, x)) (htsh : l.tsh = x.tsh) (hy : l.xfer = some y) (hsent : y.sent = true) :
    s.keyDelivered car = s.xferConfirm := by
  simp [State.keyDelivered, hl, hses, htsh, hy, hsent]

/-- Settles O26: each message's row is its judgement, and each judgement has its own lemma above. -/
theorem zariqueMessagesComplete : Obligations.ZariqueMessagesComplete := by
  unfold Obligations.ZariqueMessagesComplete
  intro t c s s0 h0
  refine ⟨fun m s1 hlive hlink h1 hdec => ⟨fun hgood => ⟨fun htyp => ?_, fun htyp => ?_,
    fun x k htyp hx hchal hlen hver hgrp hres hauth hkey hmac htgt hahead => ?_,
    fun i x b s2 hin => ⟨fun htyp => ?_, fun htyp hnone hdraw => ?_, fun htyp => ?_, fun htyp => ?_⟩⟩, fun hbad hbad1 => ?_⟩,
    fun x hlive hx hdec hdraw hchal hcccd hmtu => ?_, fun n i x hlive hn s1 h1 hses hdec hdraw => ?_,
    fun i h x s1 hlive hses hsetup hdraw hquench h1 hfree => ?_,
    fun car l i x y hlive hl hses htsh hy hsent => ⟨fun hw => ?_, fun hw => ?_⟩, ends_of_run rfl h0 rfl⟩
  · refine ends_of_run rfl h0 ((zqRow_judged hlive hlink htyp).trans ?_)
    rw [show zqPopped s0 c m = s1 from h1, zqJudge_tokenProof hdec hgood htyp]
  · refine ends_of_run rfl h0 ((zqRow_judged hlive hlink htyp).trans ?_)
    rw [show zqPopped s0 c m = s1 from h1, zqJudge_credProof hdec hgood htyp]
  · refine ends_of_run rfl h0 ((zqRow_judged hlive hlink htyp).trans ?_)
    rw [show zqPopped s0 c m = s1 from h1, zqJudge_attest hdec hgood htyp, attestMsg_asked hdec hx hchal,
      attest_accepted hlen hver hgrp hres hauth hkey hmac htgt hahead]
  · refine ends_of_run rfl h0 ((zqRow_judged hlive hlink htyp).trans ?_)
    rw [show zqPopped s0 c m = s1 from h1, zqJudge_session hdec hgood htyp (by decide), zqServe_enrolCode (htyp ▸ hin)]
  · refine ends_of_run rfl h0 ((zqRow_judged hlive hlink htyp).trans ?_)
    rw [show zqPopped s0 c m = s1 from h1, zqJudge_session hdec hgood htyp (by decide),
      zqServe_enrolRequest (htyp ▸ hin) hnone hdraw]
  · refine ends_of_run rfl h0 ((zqRow_judged hlive hlink htyp).trans ?_)
    rw [show zqPopped s0 c m = s1 from h1, zqJudge_session hdec hgood htyp (by decide), zqServe_revokeRequest (htyp ▸ hin)]
  · refine ends_of_run rfl h0 ((zqRow_judged hlive hlink htyp).trans ?_)
    rw [show zqPopped s0 c m = s1 from h1, zqJudge_session hdec hgood htyp (by decide), zqServe_end (htyp ▸ hin)]
  · refine ends_of_run rfl h0 ((zqDropRow_bad hlive hlink hbad).trans ?_)
    rw [show zqPopped s0 c m = s1 from h1, zqJudge_bad hdec hbad1]
  · exact ends_of_run rfl h0 ((whenLive_live hlive).trans (bleChallenge_due hx hdec hdraw hchal hcccd hmtu))
  · exact ends_of_run rfl h0 ((whenLive_live hlive).trans (blePrompt_one hdec hdraw hn h1 hses))
  · exact ends_of_run rfl h0 ((whenLive_live hlive).trans (bleRanging_due hses hsetup hdraw hquench h1 hfree))
  · refine ends_of_run rfl h0 ((whenLive_live hlive).trans ((keyDelivered_sent hl hses htsh hy hsent).trans ?_))
    simp only [State.xferConfirm, hl, hy, hw, Bool.false_eq_true, if_false]
  · refine ends_of_run rfl h0 ((whenLive_live hlive).trans ((keyDelivered_sent hl hses htsh hy hsent).trans ?_))
    simp only [State.xferConfirm, hl, hy, hw, if_true]

end Sys2Proof.Machine
end

section
/-! Access commands (R187, R192, R193) and Touchstone's evidence, verdicts, table and seals (R206 to R247). -/
namespace Sys2Proof.Machine

/-- The lock-out of an interface that is in force is lifted, logged and mirrored (R187). -/
theorem lockClear_interface {s : State} {arg : Bytes} {x : Tier} (htier : byteAt 0 arg = 1) (hifc : byteAt 1 arg ≤ 6)
    (hcl : arg.drop 2 = zeros 9) (hx : s.acc.ifs[byteAt 1 arg]? = some x) (hlock : s.inLock x.lock = true) :
    s.lockClear arg = ((0, 0),
      ((({ s with acc.ifs := modAt s.acc.ifs (byteAt 1 arg) fun (t : Tier) => ⟨t.times, none⟩ } : State).logLock 1 (byteAt 1 arg)
        (zeros 9) (s.minutesLeft x.lock) 2).mirrorLock 1 (byteAt 1 arg) (zeros 9) 0)) := by
  simp [State.lockClear, htier, Nat.not_lt.2 hifc, hcl, hx, hlock]

/-- A loaded 128-bit TOKEN slot of the host is taken into the transfer that waits for it (R192, R193). -/
theorem enrolImport_taken {s : State} {h : Nat} {l : Learn} {x : Transfer} (hl : s.acc.learn = some l) (hx : l.xfer = some x)
    (hdel : x.delivery = 3) (hst : s.slotSt h = .loaded) (howner : s.slotOwner h = 0) (hkind : s.slotKind h = 3)
    (hlen : s.slotLen h = 0) : s.enrolImport h = ((0, 0, toLe 4 x.tid), (s.eraseMirrored x.slot).xferActive l x h) := by
  simp [State.enrolImport, hl, hx, hdel, hst, howner, hkind, hlen]

/-- Settles O28, command by command. -/
theorem accessCommandsComplete : Obligations.AccessCommandsComplete := by
  unfold Obligations.AccessCommandsComplete
  intro t s s0 r h0
  refine ⟨answers_exec rfl h0 rfl, fun tid n hn => answers_exec rfl h0 ?_, fun tid hn => answers_exec rfl h0 ?_,
    fun arg x htier hifc hcl hx hlock => answers_exec rfl h0 ?_,
    fun arg l x hh hl hx hdel hst howner hkind hlen => answers_exec rfl h0 ?_⟩
  · show s0.revokeCmd (leNat (toLe 4 tid)) = _
    simp only [State.revokeCmd, hn, Rc.ok]
  · show s0.revokeCmd (leNat (toLe 4 tid)) = _
    simp only [State.revokeCmd, hn, State.no]
  · show ret (s0.lockClear arg) = _
    rw [lockClear_interface htier hifc hcl hx hlock]
    rfl
  · show s0.enrolCmd arg = _
    simp [State.enrolCmd, hh, enrolImport_taken hl hx hdel hst howner hkind hlen]

/-- An item that every check of R210 accepts replaces the item of its slot (R212) and starts the evaluations of its session. -/
theorem tsJudge_good {s : State} {i : Item} {own : Option Nat} {c tm : Nat} (hform : i.formatOk = true)
    (hses : (s.acc.ses.any fun x => (x.map fun e => e.tsh == i.tsh).getD false) = true) (hkey : s.tsKeys.contains i.key = true)
    (htm : s.itemTm i own c = some tm) (hfresh : c - tm ≤ ms s.ts.cur.fresh) (hkind : i.kind ≠ 2)
    (hradio : isRadio i.kind = true → bit i.flags 0 = true ∧ bit i.flags 1 = false) :
    s.tsJudge i own c = ((({ s with ts.store := ⟨i.tsh, i.key, i.flags, i.round, i.qual, i.value, tm⟩ ::
                              s.ts.store.filter fun x => x.tsh ≠ i.tsh || x.key ≠ i.key } : State).bump 0x2342 0).evalAll
      i.tsh c) := by
  have hveto : (isRadio i.kind && !(bit i.flags 0 && !bit i.flags 1)) = false := by
    cases hr : isRadio i.kind with
    | false => rfl
    | true => simp [hradio hr]
  simp only [State.tsJudge, hform, hses, hkey, htm, hveto, Nat.not_lt.2 hfresh, hkind, decide_false, Bool.not_true, Bool.false_and,
    Bool.false_eq_true, if_false]

/-- Touchstone judges an item in the first free CKS cycle. -/
theorem tsAdmit_running {s : State} {i : Item} {own : Option Nat} (hts : s.tsState = 1) (hacc : s.hasAccess = true) :
    s.tsAdmit i own = ({ s.tsSettle (max s.now s.ts.admAt) with ts.admAt := max s.now s.ts.admAt + cks 1 } : State).tsJudge i own
      (max s.now s.ts.admAt) := by
  simp only [State.tsAdmit, hts, hacc, ne_eq, not_true_eq_false, decide_false, Bool.not_true, Bool.or_self, Bool.false_eq_true, if_false]

/-- TsApply of a sound table takes it into force, and one version on (R222 to R225). -/
theorem tsApplyCmd_sound {s s1 : State} (hver : ∀ q ∈ s.ts.reqs, q.table.ver = s.ts.cur.ver)
    (hsound : tableFault (tsTableOf s.gp 0) = none) (h1 : ((s.boundary .bNextTsApply).put 0x2306 0 0) = s1) :
    let v := (s1.g 0x2305 0 + 1) % 2 ^ 32
    let u : State := ({ s1.put 0x2305 0 v with ts.cur := tsTableOf (s1.put 0x2305 0 v).g v } : State).tsPrune
    s.tsApplyCmd = (some ⟨0, 0, []⟩, u.mirror 7 1 u.ts.cur.bytes) := by
  have hcur : (s.ts.reqs.any fun q => q.table.ver ≠ s.ts.cur.ver) = false := by simpa using hver
  simp only [State.tsApplyCmd, State.tsApply, hcur, hsound, h1, Bool.false_eq_true, if_false, if_true, ret]

/-- A verdict stands for a seal while the device decides and it has not expired (R26, R235). -/
theorem sealReady_standing {s : State} {q : VReq} {v : Verdict × Nat} (hok : q.ok = some v) (hdec : s.mayDecide = true)
    (hexp : s.now < v.1.expiry) (hadv : s.advClear q.tsh = true) (hstart : q.gate = 3 → s.startBefore q.tsh v.2 = false) :
    s.sealReady q = some v.1 := by
  simpa [State.sealReady, hok, hdec, Nat.not_le.2 hexp, hadv] using hstart

/-- A seal that its gate takes: its record, and its event of the log (R246, R247). -/
theorem sealMake_taken {u s1 : State} {q : VReq} {zone : Nat} {take : State → (Nat × Nat) × State} :
    let n := (u.gate.seq + 1) % 2 ^ 32
    let ctr := ((u.ctrOf q.key).map (·.comm)).getD 0
    take { u with gate.seq := n } = ((0, 0), s1) →
    u.sealMake q zone take = ((0, 0),
      (([n, q.gate, q.tsh, keyCode q.key, zone, q.table.ver, ctr, u.rcnt u.now].zipIdx.foldl
        (fun s p => s.put 0x2430 (p.2 + 1) p.1) s1).logEv 0x01 0 0
        (sealBytes n q.gate q.tsh (keyCode q.key) zone q.table.ver ctr (u.rcnt u.now)))) := by
  intro n ctr htake
  simp only [State.sealMake]
  rw [htake]
  rfl

/-- The seal for a verdict that stands, taken by its gate (R26). -/
theorem sealIssue_taken {s s1 : State} {tsh gate : Nat} {q : VReq} {v : Verdict × Nat}
    (hq : (s.ts.reqs.find? fun q => q.tsh = tsh && q.gate = gate) = some q) (hok : q.ok = some v) (hdec : s.mayDecide = true)
    (hexp : s.now < v.1.expiry) (hadv : s.advClear tsh = true) (hstart : gate = 3 → s.startBefore tsh v.2 = false)
    (hcheck : s.sealCheck q.key gate = (0, 0)) (hzone : (s.keyZones q.key).testBit v.1.zone = true) :
    let u := s.dropReqs fun r => r.tsh = tsh && r.gate = gate
    let n := (u.gate.seq + 1) % 2 ^ 32
    let mine := s.acc.drive.isNone && s.acc.start.any fun x => x.key = q.key && x.up
    let ctr := ((u.ctrOf q.key).map (·.comm)).getD 0
    (({ u with gate.seq := n } : State).gateTake gate mine (s.gate.startEn && !mine)) = ((0, 0), s1) →
    s.sealIssue tsh gate = (([n, gate, tsh, keyCode q.key, v.1.zone, q.table.ver, ctr, u.rcnt u.now].zipIdx.foldl
      (fun s p => s.put 0x2430 (p.2 + 1) p.1) s1).logEv 0x01 0 0
      (sealBytes n gate tsh (keyCode q.key) v.1.zone q.table.ver ctr (u.rcnt u.now))).sealCount q := by
  have hmatch := List.find?_some hq
  simp only [Bool.and_eq_true, decide_eq_true_eq] at hmatch
  obtain ⟨rfl, rfl⟩ := hmatch
  intro u n mine ctr htake
  have hready := sealReady_standing hok hdec hexp hadv hstart
  have hdeny : s.sealDeny q v.1.zone = (0, 0) := by simp [State.sealDeny, hcheck, hzone]
  have hmake := sealMake_taken (u := u) (q := q) (zone := v.1.zone)
    (take := fun s1 => s1.gateTake q.gate mine (s.gate.startEn && !mine)) htake
  simp only [State.sealIssue, hq, hready, hdeny, ne_eq, not_true_eq_false, if_false]
  rw [hmake]
  exact if_pos rfl

/-- Settles O29, event by event. -/
theorem touchstoneCommandsComplete : Obligations.TouchstoneCommandsComplete := by
  unfold Obligations.TouchstoneCommandsComplete
  intro t tsh gate s s0 r h0
  refine ⟨fun b own i c tm s1 hlive hlen hi hts hacc hc h1 hform hses hkey htm hfresh hkind hradio => ?_,
    fun e es q v hlive hev hdue hq hres hsat => ?_, fun q hlive hq hnone => ?_, fun hlive => ?_,
    fun q l hlive hq hl hasked hdue => ?_, fun q q1 v hlive hq hok hexp h1 => ?_,
    fun s1 hver hsound h1 => answers_exec rfl h0 (tsApplyCmd_sound hver hsound h1),
    fun q v s1 s2 hlive hq hok hdec hexp hadv hstart hcheck hzone htake h2 => ?_⟩
  · refine ends_of_run rfl h0 ?_
    subst hc hi
    simp only [whenLive_live hlive, hlen, if_true, tsAdmit_running hts hacc, h1]
    exact tsJudge_good hform hses hkey htm hfresh hkind hradio
  · refine ends_of_run rfl h0 ?_
    simp only [whenLive_live hlive, State.evalDone, hev, Nat.not_lt.2 hdue, if_false, hq, hres, hsat, if_true]
  · refine ends_of_run rfl h0 ?_
    simp only [whenLive_live hlive, State.windowEnd, hq, hnone, Bool.false_eq_true, if_false, State.startEval]
  · exact ends_of_run rfl h0 (whenLive_live hlive)
  · refine ends_of_run rfl h0 ?_
    simp only [whenLive_live hlive, State.graceEnd, hq, hl]
    exact if_pos (by simp [hasked, hdue])
  · refine ends_of_run rfl h0 ?_
    subst h1
    simp only [whenLive_live hlive, State.verdictExpire, hq, hok, Nat.not_lt.2 hexp, if_false]
  · refine ends_of_run rfl h0 ?_
    simp only [whenLive_live hlive, ← h2]
    exact sealIssue_taken hq hok hdec hexp hadv hstart hcheck hzone htake

end Sys2Proof.Machine
end

section
/-! The release gates (R240 to R249), the immobiliser, the limiters and the GPIO holds (R252 to R263). -/
namespace Sys2Proof.Machine

/-- An effect of a part that is neither held in reset nor shut down. -/
theorem whenUp_free {s : State} {f : State → State} (hheld : s.pwr.held = false) (hshut : s.pwr.shut = false) : s.whenUp f = f s := by
  simp [State.whenUp, hheld, hshut]

/-- A lock request of the host on a gate that nothing holds (R241). -/
theorem lockRequest_one {s : State} {src : Nat} (hq : s.gate.quench = false) (hc : s.closing 1 = false)
    (hb : s.gate.bBusy 0 = false) (hgrp : s.g 0x2406 0 = 0) :
    let s1 : State := { s with gate.relock := false }
    s.lockRequest src = ((0, 0), s1.noteChg (s1.askB 0)) := by
  intro s1
  have hq1 : s1.gate.quench = false := hq
  have hc1 : s1.closing 1 = false := hc
  have hb1 : s1.gate.bBusy 0 = false := hb
  have hlock : s1.lockGroup 0 src = ((0, 0), s1.noteChg (s1.askB 0)) := by
    simp only [State.lockGroup, hq1, hc1, hb1, Bool.false_eq_true, if_false, if_true]
  show (if s.g 0x2406 0 = 1 then ((s1.lockGroup 0 src).1, ((s1.lockGroup 0 src).2.lockGroup 1 src).2) else s1.lockGroup 0 src) = _
  rw [hgrp, if_neg (by decide), hlock]

/-- A dead time that is over, by what it held back and whether the part is up (R20, R242). -/
theorem deadEnd_over {s : State} {n : Nat} {d : Dead} (hd : s.gate.deadOf n = some d) (hdue : d.due ≤ s.now) :
    let s1 : State := { s with gate.dead := putAt s.gate.dead n none }
    s.deadEnd n = if !s.pwr.core || s.pwr.held || s.pwr.shut then s1
      else s.noteChg (if d.b then s1.startB n else d.a.foldl State.startA s1) := by
  simp only [State.deadEnd, hd, Nat.not_lt.2 hdue, if_false]

theorem up_iff (a b c : Bool) : (a && !b && !c) = true ↔ (!a || b || c) = false := by
  cases a <;> cases b <;> cases c <;> decide

theorem not_up_iff (a b c : Bool) : (a && !b && !c) = false ↔ (!a || b || c) = true := by
  cases a <;> cases b <;> cases c <;> decide

/-- A readback sample of a compared gate past its settling time, by agreement and the count of mismatches (R248, R249). -/
theorem rbSample_compared {s : State} {n : Nat} {level : Bool} (hon : (s.g 0x2405 0).testBit n = true) (hvio : s.gate.vio = true)
    (hsettled : s.gate.chg.getD n 0 + ms (s.g 0x2404 0) ≤ s.now) :
    s.rbSample n level =
      let act := if (s.g 0x2403 0).testBit n then level else !level
      if act = s.gate.active n then { s with gate.mism := putAt s.gate.mism n 0 }
      else
        let k := s.gate.mism.getD n 0 + 1
        let s1 := { s with gate.mism := putAt s.gate.mism n (min k 2) }
        if k = 2 then
          ({ s1 with gate.fault := putAt s1.gate.fault n true }.errBit 5 0x2401 0x06 0x51).logEv 0x09 0 0
            [BitVec.ofNat 8 n, BitVec.ofNat 8 (b2n level)]
        else s1 :=
  if_pos (by simpa [hon, hvio] using hsettled)

/-- Settles O30, command by command. -/
theorem gateCommandsComplete : Obligations.GateCommandsComplete := by
  unfold Obligations.GateCommandsComplete
  intro t n s s0 r h0
  refine ⟨fun hhigh hdue => ends_of_run rfl h0 (if_pos ?_), fun hhigh hdue => ends_of_run rfl h0 (if_pos ?_),
    fun d hd hdue => ⟨fun hb hup => ?_, fun hb hup => ?_, fun hup => ?_⟩,
    fun hacc hrole hq hc hb hgrp => answers_exec rfl h0 ?_,
    fun level hheld hshut hon hvio hsettled => ⟨fun hact => ?_, fun hact hm => ?_, fun hact hm => ?_⟩,
    fun hstart hdrive hdue => ends_of_run rfl h0 (if_pos ?_), fun hn => answers_exec rfl h0 ?_, answers_exec rfl h0 rfl,
    ends_of_run rfl h0 rfl⟩
  · simp [hhigh, hdue]
  · simp [hhigh, hdue]
  · have hrun := (up_iff s0.pwr.core s0.pwr.held s0.pwr.shut).1 hup
    exact ends_of_run rfl h0 (by rw [deadEnd_over hd hdue, hrun, hb]; rfl)
  · have hrun := (up_iff s0.pwr.core s0.pwr.held s0.pwr.shut).1 hup
    exact ends_of_run rfl h0 (by rw [deadEnd_over hd hdue, hrun, hb]; rfl)
  · have hstop := (not_up_iff s0.pwr.core s0.pwr.held s0.pwr.shut).1 hup
    exact ends_of_run rfl h0 (by rw [deadEnd_over hd hdue, hstop]; rfl)
  · show ret s0.gateLock = _
    simp only [State.gateLock, hacc, hrole, decide_true, Bool.and_self, if_true, lockRequest_one hq hc hb hgrp, ret]
  · refine ends_of_run rfl h0 ((whenUp_free hheld hshut).trans ((rbSample_compared hon hvio hsettled).trans ?_))
    exact if_pos hact
  · refine ends_of_run rfl h0 ((whenUp_free hheld hshut).trans ((rbSample_compared hon hvio hsettled).trans ?_))
    simp only [hact, if_false, hm]
    rfl
  · refine ends_of_run rfl h0 ((whenUp_free hheld hshut).trans ((rbSample_compared hon hvio hsettled).trans ?_))
    simp only [hact, if_false, hm]
    rfl
  · simp [hstart, hdrive, hdue]
  · have hoct : byteAt 0 [BitVec.ofNat 8 n] = n := toNat_ofNat8 (by omega)
    show (if 4 ≤ byteAt 0 [BitVec.ofNat 8 n] then s0.no Rc.range 0
      else (some ⟨Rc.ok, 0, []⟩, s0.faultClear (byteAt 0 [BitVec.ofNat 8 n]))) = _
    rw [hoct, if_neg (by omega)]
    rfl

/-- A frame that reaches the immobiliser of the deciding part in the form it takes: a CHALLENGE, or an acknowledgement. -/
theorem immoRow_taken {s s1 : State} {f : Bytes} {c : Nat} {x : CanFrame} (hw : s.wakeHas (6 + c) = true) (hcore : s.pwr.core = true)
    (hc : s.g 0x2421 0 = c) (hx : ⟨if s.g 0x2422 0 = 1 then 1 else 0, 0, 0, s.g 0x2423 0, 0, 0, f⟩ = x)
    (hh : s.canHears c x.fmt = true)
    (h1 : ((s.modCan c fun k => { k with rec_ := min (k.rec_ - 1) 127 }.settle).bump (0x4012 + c) 1) = s1)
    (htakes : s1.immoTakes c x = true) : s.immoRow f = s1.immoRx x := by
  subst hc hx
  rw [State.immoRow, portIn_core hw hcore, canFrameIn_heard hh h1, htakes]
  rfl

theorem immoRx_challenge {s : State} {x : CanFrame} {n : Bytes} (hdec : s.deciding = true) (hfmt : s.immoFmt x = true)
    (hn : s.immoChallengeOf x.data = some n) : s.immoRx x = s.immoChallenge n := by
  simp only [State.immoRx, hdec, hfmt, hn, Bool.not_true, Bool.false_eq_true, if_false]

theorem immoRx_ack {s : State} {x : CanFrame} (hdec : s.deciding = true) (hfmt : s.immoFmt x = true)
    (hn : s.immoChallengeOf x.data = none) (hack : s.immoAckOk x.data = true)
    (hsrc : ((s.acc.start.find? fun x => x.sealed_).map StartS.ack).getD (s.g 0x2203 0) ≠ 1) : s.immoRx x = s.startAck 0 := by
  simp only [State.immoRx, hdec, hfmt, hn, hack, Bool.not_true, Bool.false_eq_true, if_false, ne_eq, hsrc, not_false_eq_true,
    decide_true, Bool.and_self, if_true]

/-- Settles O31, command by command. -/
theorem immobiliserAndLimitsComplete : Obligations.ImmobiliserAndLimitsComplete := by
  unfold Obligations.ImmobiliserAndLimitsComplete
  intro t s s0 h0
  refine ⟨fun f c s1 x hw hcore hc hx hh h1 htakes hdec hfmt => ?_, fun d hlive hd hdue hstart hmode hq => ?_,
    fun n hlive hn hdue => ?_, fun lim ch hat hon => ?_, fun pin s1 h1 hpin hgpio hdue => ?_⟩
  · have hrow : s0.immoRow f = s1.immoRx x := immoRow_taken hw hcore hc hx hh h1 htakes
    have hdata : x.data = f := by rw [← hx]
    refine ⟨fun n hn0 hn hmode => ⟨fun hstart => ?_, fun hstart hnone => ?_⟩, fun hn0 hn hack hsrc => ?_⟩
    · refine ends_of_run rfl h0 ?_
      rw [hn0, Option.isSome_some, if_pos rfl, hrow, immoRx_challenge hdec hfmt (hdata ▸ hn)]
      simp only [State.immoChallenge, hmode, hstart, if_true]
    · refine ends_of_run rfl h0 ?_
      rw [hn0, Option.isSome_some, if_pos rfl, hrow, immoRx_challenge hdec hfmt (hdata ▸ hn)]
      simp only [State.immoChallenge, hmode, hstart, hnone, Bool.false_eq_true, if_true, if_false]
    · refine ends_of_run rfl h0 ?_
      rw [hn0, Option.isSome_none, if_neg Bool.false_ne_true, hrow, immoRx_ack hdec hfmt (hdata ▸ hn) (hdata ▸ hack) hsrc]
  · refine ends_of_run rfl h0 ?_
    simp only [whenLive_live hlive, State.immoPeriod, hd]
    exact if_pos (by simp [hdue, hstart, hmode, hq])
  · refine ends_of_run rfl h0 ?_
    simp only [whenLive_live hlive, State.immoWaitEnd, hn, hdue, if_true]
  · have hcut : ¬ (!s0.atCeiling lim ch || !(s0.gate.onTimes.any fun o => o.lim = lim && o.ch = ch && s0.now < o.t1)) = true := by
      rw [hat, hon]; decide
    refine ⟨fun hl => ?_, fun hl => ?_, fun hl => ?_, fun hl => ?_⟩ <;> subst hl <;> exact ends_of_run rfl h0 (if_neg hcut)
  · subst h1
    exact ends_of_run rfl h0 (if_pos (by simp [hpin, hgpio, hdue]))

end Sys2Proof.Machine
end

section
/-! Auxiliary UWB frames and windows (R312 to R314, R324). -/
namespace Sys2Proof.Machine

/-- A transmission with a sound argument, no round over it and room in the caller's queue waits for its time (R312, R314). -/
theorem auxTx_waits {s : State} {r : Requester} {arg : Bytes} (hlen : 10 ≤ arg.length) (hstep : leAt 0 8 arg % 512 = 0)
    (hcnt : leAt 0 8 arg < 2 ^ 40) (hflags : byteAt 8 arg ≤ 1) (hmin : 3 ≤ byteAt 9 arg) (hmax : byteAt 9 arg ≤ 125)
    (hpsdu : (arg.drop 10).length = byteAt 9 arg) (hq : s.gate.quench = false) (hroom : s.auxOf r < 4) (hstage : s.bg.stage = 0)
    (hround : s.roundOver ((s.rcntTime (leAt 0 8 arg)).getD s.now)
      ((s.rcntTime (leAt 0 8 arg)).getD s.now + s.auxAir (byteAt 9 arg + 2)) = false) :
    s.auxTx r arg = (none, s.auxPut ⟨r, some (arg.drop 10, bit (byteAt 8 arg) 0), leAt 0 8 arg,
      (s.rcntTime (leAt 0 8 arg)).getD s.now, 0⟩) := by
  have hform : (leAt 0 8 arg % 512 ≠ 0 || 2 ^ 40 ≤ leAt 0 8 arg || 1 < byteAt 8 arg || byteAt 9 arg < 3 || 125 < byteAt 9 arg ||
      (arg.drop 10).length ≠ byteAt 9 arg : Bool) = false := by
    simp only [Bool.or_eq_false_iff, decide_eq_false_iff_not]
    omega
  have hround1 : s.roundOver ((s.rcntTime (leAt 0 8 arg)).getD s.now)
      ((s.rcntTime (leAt 0 8 arg)).getD s.now + s.auxAir ((arg.drop 10).length + 2)) = false := by rw [hpsdu]; exact hround
  simp only [State.auxTx, Nat.not_lt.2 hlen, if_false, hform, Bool.false_eq_true, hq, Nat.not_le.2 hroom, hstage, State.auxFin, hround1]
  exact if_neg (by simp)

/-- A reception with a sound argument, no round over it and room in the caller's queue waits for its time (R313, R314). -/
theorem auxRx_waits {s : State} {r : Requester} {arg : Bytes} (hlen : arg.length = 10) (hmin : 10 ≤ leAt 8 2 arg)
    (hmax : leAt 8 2 arg ≤ 10000) (hcnt : leAt 0 8 arg < 2 ^ 40) (hq : s.gate.quench = false) (hroom : s.auxOf r < 4)
    (hround : s.roundOver ((s.rcntTime (leAt 0 8 arg)).getD s.now)
      ((s.rcntTime (leAt 0 8 arg)).getD s.now + us (leAt 8 2 arg)) = false) :
    s.auxRx r arg = (none, s.auxPut ⟨r, none, leAt 0 8 arg, (s.rcntTime (leAt 0 8 arg)).getD s.now, us (leAt 8 2 arg)⟩) := by
  have hform : (leAt 8 2 arg < 10 || 10000 < leAt 8 2 arg || 2 ^ 40 ≤ leAt 0 8 arg : Bool) = false := by
    simp only [Bool.or_eq_false_iff, decide_eq_false_iff_not]
    omega
  simp only [State.auxRx, hlen, ne_eq, not_true_eq_false, if_false, hform, Bool.false_eq_true, hq, Nat.not_le.2 hroom, hround]

/-- The answer of an auxiliary request of the host. -/
theorem auxDoneRow_host {s s1 : State} {onAir : Nat} {rx : Option (Bytes × AirRx)} {a : Resp}
    (h : s.auxDone onAir rx = (some (.host, a), s1)) : s.auxDoneRow onAir rx = s1.answer .host 0x3060 a := by
  simp only [State.auxDoneRow, h, State.auxAnswer]

section
variable {s s1 : State} {x : Aux} {onAir : Nat} (hx : s.auxNext = some x) (hwho : x.who = .host)
  (h1 : ({ s with uwb.aux := s.uwb.aux.eraseP fun y => y = x } : State).xcDropAux x = s1)
  (hq : s.gate.quench = false) (hdue : x.at_ + x.dur ≤ s.now)
include hx hwho h1 hq hdue

/-- A frame that missed its time and may not leave late is answered LATE (R312, R324). -/
theorem auxDone_late {psdu : Bytes} (htx : x.tx = some (psdu, false))
    (hround : s.roundOver x.at_ (max (s.auxFin x) (x.at_ + onAir)) = false)
    (hlate : (s.rcntTime x.rcnt).getD (s.now - 1) < s.now ∨ s.armed .uwb x.at_ = false) :
    s.auxDone onAir none = (some (.host, ⟨Rc.late, 0, []⟩), s1.bump 0x3205 1) := by
  have hat : ¬ s.now < x.at_ := by omega
  have hmiss : (((s.rcntTime x.rcnt).getD (s.now - 1) < s.now || !s.armed .uwb x.at_) && !false : Bool) = true := by
    rcases hlate with h | h <;> simp [h]
  simp only [State.auxDone, hx, h1, hq, htx, hround, Bool.false_eq_true, if_false, hat, hwho]
  exact if_pos hmiss

/-- A frame at its time is sent, with the time of its RMARKER (R312). -/
theorem auxDone_sent {psdu : Bytes} {lateOk : Bool} (htx : x.tx = some (psdu, lateOk))
    (hround : s.roundOver x.at_ (max (s.auxFin x) (x.at_ + onAir)) = false)
    (htime : (s.now ≤ (s.rcntTime x.rcnt).getD (s.now - 1) ∧ s.armed .uwb x.at_ = true) ∨ lateOk = true)
    (hready : s.rfc.uwb.st = .ready) (hair : s.roundOver s.now (s.now + onAir) = false) (hceil : s.atCeiling 1 0 = false) :
    s.auxDone onAir none = (some (s1.auxSend x psdu onAir).1, (s1.auxSend x psdu onAir).2) := by
  have hat : ¬ s.now < x.at_ := by omega
  have heng : x.eng = false := by simp [Aux.eng, hwho]
  have hgo : (((s.rcntTime x.rcnt).getD (s.now - 1) < s.now || !s.armed .uwb x.at_) && !lateOk : Bool) = false := by
    rcases htime with ⟨ht, ha⟩ | hl
    · simp [ha, Nat.not_lt.2 ht]
    · simp [hl]
  simp only [State.auxDone, hx, h1, hq, htx, hround, Bool.false_eq_true, if_false, hat]
  rw [if_neg (by simp [hgo]), if_neg (by simp [hready, hair]), if_neg (by simp [heng]), hceil, if_neg Bool.false_ne_true]

/-- A window in which nothing came answers an empty frame (R313). -/
theorem auxDone_empty (htx : x.tx = none) (hround : s.roundOver x.at_ (x.at_ + x.dur) = false) :
    s.auxDone onAir none = (some (.host, ⟨0, 0, [0] ++ toLe 8 0 ++ [0]⟩), s1.packetEnd .uwb none) := by
  have hat : ¬ s.now < x.at_ := by omega
  have hfin : s.auxFin x = x.at_ + x.dur := by simp only [State.auxFin, htx]
  have hgot : (if s.rfc.uwb.st = .rx then (none : Option (Bytes × AirRx)).bind fun f => (fcsOk f.1).map fun p => (p, f.2)
      else none) = none := by split <;> rfl
  simp only [State.auxDone, hx, h1, hq, htx, hfin, hround, Bool.false_eq_true, if_false, hat, hwho, hgot, Nat.not_lt.2 hdue]

end

/-- Settles O33, command by command. -/
theorem uwbAuxiliaryCompletes : Obligations.UwbAuxiliaryCompletes := by
  unfold Obligations.UwbAuxiliaryCompletes
  intro t s s0 r h0
  refine ⟨fun arg e hlen hstep hcnt hflags hmin hmax hpsdu hq hroom _ hstage hround => starts_exec rfl h0 ?_,
    fun arg hlen hmin hmax hcnt hq hroom hround => starts_exec rfl h0 ?_,
    fun x onAir s1 hlive hx hwho h1 hq hdue => ⟨fun psdu lateOk htx hround => ⟨fun hlate hno => ?_, fun htime hready hair hceil s2 h2 => ?_⟩,
      fun htx hround => ?_⟩⟩
  · show ((s0.auxTx r arg).1.map fun e => (⟨e.1, e.2, []⟩ : Resp), (s0.auxTx r arg).2) = _
    rw [auxTx_waits hlen hstep hcnt hflags hmin hmax hpsdu hq hroom hstage hround]
    rfl
  · show ((s0.auxRx r arg).1.map fun e => (⟨e.1, e.2, []⟩ : Resp), (s0.auxRx r arg).2) = _
    rw [auxRx_waits hlen hmin hmax hcnt hq hroom hround]
    rfl
  · subst hno
    exact ends_of_run rfl h0 ((whenLive_live hlive).trans (auxDoneRow_host (auxDone_late hx hwho h1 hq hdue htx hround hlate)))
  · refine ends_of_run rfl h0 ((whenLive_live hlive).trans ?_)
    have heng : x.eng = false := by simp [Aux.eng, hwho]
    have hsend := auxDone_sent hx hwho h1 hq hdue htx hround htime hready hair hceil
    simp only [State.auxSend, h2, hwho, heng] at hsend
    exact auxDoneRow_host hsend
  · exact ends_of_run rfl h0 ((whenLive_live hlive).trans (auxDoneRow_host (auxDone_empty hx hwho h1 hq hdue htx hround)))

end Sys2Proof.Machine
end

section
/-! The two transceivers (R317 to R334). -/
namespace Sys2Proof.Machine

/-! ### A transceiver replaced -/

@[simp] theorem setXc_xc_self (s : State) (x : Xc) (v : Xcvr) : (s.setXc x v).xc x = v := by
  cases x <;> rfl

@[simp] theorem setXc_setXc (s : State) (x : Xc) (v w : Xcvr) : (s.setXc x v).setXc x w = s.setXc x w := by
  cases x <;> rfl

@[simp] theorem setXc_clock (s : State) (x : Xc) (v : Xcvr) : (s.setXc x v).now = s.now := by
  cases x <;> rfl

theorem setXc_cmds (s : State) (x : Xc) (v : Xcvr) : (s.setXc x v).rfc.cmds = s.rfc.cmds := by
  cases x <;> rfl

@[simp] theorem put_xc (s : State) (x : Xc) (idx sub v : Nat) : (s.put idx sub v).xc x = s.xc x := by
  cases x <;> rfl

@[simp] theorem bump_xc (s : State) (x : Xc) (idx sub : Nat) : (s.bump idx sub).xc x = s.xc x := by
  cases x <;> rfl

/-- Storing a calibration changes the register file only. -/
theorem calStore_unchanged (s : State) (x : Xc) (j : CalJob) (vals : List Int) :
    (s.calStore x j vals).rfc = s.rfc ∧ (s.calStore x j vals).now = s.now := by
  simp only [State.calStore]
  split <;> exact ⟨rfl, rfl⟩

theorem calStore_xc (s : State) (x y : Xc) (j : CalJob) (vals : List Int) : (s.calStore x j vals).xc y = s.xc y := by
  cases y <;> simp only [State.xc, (calStore_unchanged s x j vals).1]

/-! ### Requests -/

/-- Waking takes time, so a transceiver that just left OFF does not settle yet. -/
theorem wakeXc_pos (s : State) (x : Xc) : 0 < s.wakeXc x := by
  cases x <;> simp only [State.wakeXc] <;> split <;> decide

theorem xcSettle_waking {s : State} {x : Xc} (hst : (s.xc x).st = .idle) (hsince : s.now < (s.xc x).since) : s.xcSettle x = s := by
  simp only [State.xcSettle, hst, Nat.not_le.2 hsince, decide_true, decide_false, Bool.and_false, Bool.false_eq_true, if_false]
  exact if_neg (by decide)

/-- A transceiver with one request is made ready for it. -/
theorem next_single {v : Xcvr} {q : XcReq} (hq : v.q = [q]) (now : Nat) : v.next now = some q := by
  simp only [Xcvr.next, hq, List.find?_cons, List.find?_nil, List.foldl_cons, List.foldl_nil]
  cases q.due [q] now <;> rfl

theorem xcSettle_single {s : State} {x : Xc} {v : Xcvr} {q : XcReq} (hv : s.xc x = v) (hst : v.st = .idle) (hrun : v.run = none)
    (hsince : v.since ≤ s.now) (hq : v.q = [q]) :
    s.xcSettle x = s.setXc x { v.enter .settling v.since with chan := q.chan, retry := false } := by
  subst hv
  simp only [State.xcSettle, hst, hrun, hsince, Option.isNone_none, decide_true, Bool.and_self, if_true, next_single hq]

section
variable {s : State} {x : Xc} {v : Xcvr} {q : XcReq} (hv : s.xc x = v) (hquench : s.gate.quench = false) (hvsup : s.pwr.vsup = true)
  (hstage : s.bg.stage ≠ 4)
include hv hquench hvsup hstage

/-- A request that finds its transceiver OFF waits for it to wake (R318). -/
theorem xcRequest_off (hst : v.st = .off) :
    s.xcRequest x q = s.setXc x (({ v with q := insReq q v.q } : Xcvr).enter .idle (s.now + s.wakeXc x)) := by
  have hgo : (s.gate.quench || s.pwr.vsup = false || (s.bg.stage = 4 && q.tx) : Bool) = false := by simp [hquench, hvsup, hstage]
  simp only [State.xcRequest, State.xcRequestAt, hgo, Bool.false_eq_true, if_false, hv, hst]
  exact xcSettle_waking (by rw [setXc_xc_self]; rfl)
    (by rw [setXc_xc_self, setXc_clock]; exact Nat.lt_add_of_pos_right (wakeXc_pos s x))

/-- A request that finds its transceiver idle with nothing queued starts to settle on its channel (R318). -/
theorem xcRequest_idle (hst : v.st = .idle) (hq : v.q = []) (hrun : v.run = none) (hsince : v.since ≤ s.now) :
    s.xcRequest x q =
      s.setXc x { ({ v with q := [q], since := s.now } : Xcvr).enter .settling s.now with chan := q.chan, retry := false } := by
  have hgo : (s.gate.quench || s.pwr.vsup = false || (s.bg.stage = 4 && q.tx) : Bool) = false := by simp [hquench, hvsup, hstage]
  simp only [State.xcRequest, State.xcRequestAt, hgo, Bool.false_eq_true, if_false, hv, hst, hq, if_true, insReq,
    Nat.max_eq_right hsince]
  have hone : ∀ w : Xcvr, w.st = .idle → w.run = none → w.since ≤ s.now → w.q = [q] →
      (s.setXc x w).xcSettle x = s.setXc x { w.enter .settling w.since with chan := q.chan, retry := false } := fun w h1 h2 h3 h4 =>
    (xcSettle_single (setXc_xc_self s x w) h1 h2 (by rw [setXc_clock]; exact h3) h4).trans (setXc_setXc s x w _)
  exact hone { v with st := .idle, q := [q], since := s.now } rfl hrun (Nat.le_refl _) rfl

end

/-! ### Calibrations -/

/-- With no RfcCalRun waiting, the end of a calibration answers nobody. -/
theorem calDoneRow_noCommand {s : State} {x : Xc} {vals : List Int} {metric : Int} (h : (s.calDone x vals metric).rfc.cmds = []) :
    s.calDoneRow x vals metric = s.calDone x vals metric := by
  simp only [State.calDoneRow, h, List.filter_nil, List.foldl_nil]
  rw [← h]

/-- The end of an accepted calibration in SETTLING: the second attempt to lock starts from here (R326 to R328). -/
theorem calDone_settling {s : State} {x : Xc} {v : Xcvr} {j : CalJob} {due : Nat} {vals : List Int} {metric : Int} (hv : s.xc x = v)
    (hrun : v.run = some (j, due)) (hdue : due ≤ s.now) (hok : calAccepted j vals metric = true) (hst : v.st = .settling) :
    s.calDone x vals metric =
      ((((s.bump 0x3215 5).calStore x j vals).put 0x3215 1
          ((s.bump 0x3215 5).g 0x3215 1 ||| (2 ^ j.kind ||| 2 ^ (xcCalBit x)))).put 0x3215 2
          (clrBit ((s.bump 0x3215 5).g 0x3215 2) j.kind)).setXc x
        { v with run := none, dcoAt := if j.kind = 3 then s.now else v.dcoAt, since := s.now } := by
  subst hv
  have hnow : ((s.bump 0x3215 5).calStore x j vals).now = s.now := (calStore_unchanged _ _ _ _).2
  simp only [State.calDone, hrun, Nat.not_lt.2 hdue, if_false, hok, if_true, put_xc, calStore_xc, bump_xc, hst, State.put_now, hnow]

/-- The argument of RfcCalRun names a calibration, but for the image rejection of the UWB transceiver, which has none (R351). -/
theorem calNamed_some : ∀ arg < 64, arg % 16 ≠ 0 → arg / 16 ≠ 0 → arg ≠ 0x14 →
    ([Xc.uwb, .ble].all fun x => calNamed x arg = []) = false := by decide

/-- RfcCalRun with an argument that names a calibration (R351). -/
theorem calCmd_named {s : State} {r : Requester} {arg : Nat} (hlt : arg < 64) (hkinds : arg % 16 ≠ 0) (hxcs : arg / 16 ≠ 0)
    (hirr : arg ≠ 0x14) (hq : s.gate.quench = false) (hbusy : s.calBusy arg = false) :
    s.calCmd r arg = (none, s.calRun r arg) := by
  simp only [State.calCmd, Nat.not_le.2 hlt, hkinds, hxcs, decide_false, Bool.or_self, Bool.false_eq_true, if_false, hq, hbusy,
    calNamed_some arg hlt hkinds hxcs hirr]

/-- A calibration starts in a gap in which nothing is queued or planned (R330). -/
theorem gapCal_free {s : State} {x : Xc} {v : Xcvr} {j : CalJob} {js : List CalJob} (hv : s.xc x = v) (hcals : v.cals = j :: js)
    (hst : v.st = .idle ∨ v.st = .ready) (hsince : v.since ≤ s.now) (hq : s.gate.quench = false) (hfree : v.q = [])
    (huse : s.nextUse x = none) : s.gapCal x = s.calStart x j := by
  subst hv
  have hidle : (decide ((s.xc x).st = .idle) || decide ((s.xc x).st = .ready)) = true := by rcases hst with h | h <;> simp [h]
  simp only [State.gapCal, hcals, hidle, hsince, hq, hfree, huse, List.all_nil, Option.map_none, Option.getD_none, decide_true,
    Bool.not_false, Bool.and_self, if_true]

/-- A forced calibration starts outside rounds and events (R331). -/
theorem forcedCal_outside {s : State} {x : Xc} {v : Xcvr} {j : CalJob} {js : List CalJob} (hv : s.xc x = v) (hcals : v.cals = j :: js)
    (hst : v.st = .idle ∨ v.st = .ready) (hsince : v.since ≤ s.now) (hq : s.gate.quench = false) (hforced : v.forced = true)
    (hround : s.inRound x = false) : s.forcedCal x = (s.setXc x { v with forced := true }).calStart x j := by
  subst hv
  have hidle : (decide ((s.xc x).st = .idle) || decide ((s.xc x).st = .ready)) = true := by rcases hst with h | h <;> simp [h]
  simp only [State.forcedCal, hcals, hidle, hsince, hq, hforced, hround, Bool.true_or, decide_true, Bool.not_false, Bool.and_self,
    if_true]

/-! ### Packets and times -/

/-- A packet of the 2.4 GHz transceiver goes on to the next of its event (R320). -/
theorem packetEnd_planned {s : State} {v : Xcvr} {tx : Bool} (hv : s.xc .ble = v) (hst : v.st = .tx ∨ v.st = .rx) :
    s.packetEnd .ble (some tx) =
      (s.boundary .bNextPacket).setXc .ble { v.enter (if tx then .tx else .rx) s.now with pkt := some (s.now, none) } := by
  subst hv
  have hair : (decide ((s.xc .ble).st = .tx) || decide ((s.xc .ble).st = .rx)) = true := by rcases hst with h | h <;> simp [h]
  simp only [State.packetEnd, hair, if_true]

/-- A packet of the UWB transceiver with nothing queued goes where RfcAutoReturn says (R320). -/
theorem packetEnd_return {s : State} {v : Xcvr} (hv : s.xc .uwb = v) (hst : v.st = .tx ∨ v.st = .rx) (hq : v.q = [])
    (hmode : (s.boundary .bNextPacket).g 0x3202 1 ≠ 2) :
    s.packetEnd .uwb none =
      (s.boundary .bNextPacket).setXc .uwb (v.enter (if (s.boundary .bNextPacket).g 0x3202 1 = 1 then .ready else .idle) s.now) := by
  subst hv
  have hair : (decide ((s.xc .uwb).st = .tx) || decide ((s.xc .uwb).st = .rx)) = true := by rcases hst with h | h <;> simp [h]
  simp only [State.packetEnd, hair, if_true, hq, ne_eq, not_true_eq_false, if_false, xcSub, hmode]
  rfl

/-- An attempt to lock that takes 150 us (R326). -/
theorem synthTimeout_over {s : State} {x : Xc} {v : Xcvr} (hv : s.xc x = v) (hst : v.st = .settling) (hrun : v.run = none)
    (hdue : v.since + us 150 ≤ s.now) :
    s.synthTimeout x =
      if v.retry then
        (v.q.filter fun r => r.chan = v.chan).foldl (fun s r => s.unlockDrop x r)
          (((s.setXc x { v.enter .idle s.now with retry := false, q := v.q.filter fun r => r.chan ≠ v.chan }).bump 0x3206
            0).logEv 0x0E 0x06 0x70 [BitVec.ofNat 8 ((xcSub x) - 1), 0xFF])
      else s.setXc x { v with retry := true, run := some (oscJob x v.chan, s.now + calDur x (oscJob x v.chan)) } := by
  subst hv
  exact if_pos (by simp [hst, hrun, hdue])

/-- Settles O34, command by command. -/
theorem transceiverCommandsComplete : Obligations.TransceiverCommandsComplete := by
  unfold Obligations.TransceiverCommandsComplete
  intro t s s0 r h0
  refine ⟨fun x v hlive hv => ⟨fun cls chan tx lateOk at_ fin who q hreq hq hvsup hstage => ⟨fun hst => ?_, fun hst hempty hrun hsince => ?_⟩,
    fun hst hrun => ⟨?_, fun hdue hretry => ?_, fun hdue hretry => ?_⟩, fun hst => ⟨fun tx hx => ?_, fun hx hempty hmode => ?_⟩,
    fun hst hempty hdue => ?_, fun hst hempty hcals hdue => ?_,
    fun j js hcals hst hsince hq => ⟨fun hempty huse => ?_, fun hforced hround => ?_⟩,
    fun j due vals metric s1 hrun hdue hok hst hcmds h1 => ?_⟩, fun arg hlt hkinds hxcs hirr hq hbusy => starts_exec rfl h0 ?_,
    fun temp hlive => ends_of_run rfl h0 (whenLive_live hlive)⟩
  · subst hreq
    exact ends_of_run rfl h0 ((whenLive_live hlive).trans (xcRequest_off hv hq hvsup hstage hst))
  · subst hreq
    exact ends_of_run rfl h0 ((whenLive_live hlive).trans (xcRequest_idle hv hq hvsup hstage hst hempty hrun hsince))
  · subst hv
    exact ends_of_run rfl h0 ((whenLive_live hlive).trans (if_pos (by simp [hst, hrun])))
  · refine ends_of_run rfl h0 ((whenLive_live hlive).trans ((synthTimeout_over hv hst hrun hdue).trans ?_))
    rw [hretry, if_neg Bool.false_ne_true]
  · refine ends_of_run rfl h0 ((whenLive_live hlive).trans ((synthTimeout_over hv hst hrun hdue).trans ?_))
    rw [hretry, if_pos rfl]
  · subst hx
    exact ends_of_run rfl h0 ((whenLive_live hlive).trans (packetEnd_planned hv hst))
  · subst hx
    exact ends_of_run rfl h0 ((whenLive_live hlive).trans (packetEnd_return hv hst hempty hmode))
  · subst hv
    exact ends_of_run rfl h0 ((whenLive_live hlive).trans (if_pos (by simp [hst, hempty, hdue])))
  · subst hv
    exact ends_of_run rfl h0 ((whenLive_live hlive).trans (if_pos (by simp [hst, hempty, hcals, hdue])))
  · exact ends_of_run rfl h0 ((whenLive_live hlive).trans (gapCal_free hv hcals hst hsince hq hempty huse))
  · exact ends_of_run rfl h0 ((whenLive_live hlive).trans (forcedCal_outside hv hcals hst hsince hq hforced hround))
  · have hdone := calDone_settling hv hrun hdue hok hst
    rw [h1] at hdone
    have hcmds1 : (s0.calDone x vals metric).rfc.cmds = [] := by
      rw [hdone, setXc_cmds, ← h1, State.put_rfc, State.put_rfc, (calStore_unchanged _ _ _ _).1, State.bump_rfc, hcmds]
    exact ends_of_run rfl h0 ((whenLive_live hlive).trans ((calDoneRow_noCommand hcmds1).trans hdone))
  · have hoct : byteAt 0 [BitVec.ofNat 8 arg] = arg := toNat_ofNat8 (by omega)
    show s0.calCmd r (byteAt 0 [BitVec.ofNat 8 arg]) = _
    rw [hoct, calCmd_named hlt hkinds hxcs hirr hq hbusy]

end Sys2Proof.Machine
end

section
/-! The BLE link (R354 to R370) and the engine characteristics (R371 to R378). -/
namespace Sys2Proof.Machine

/-- An advertising event of an armed transceiver with an unchanged address (R358 to R363). -/
theorem advertise_sent {s s1 s2 : State} {onAir : Nat} (hat : s.ble.advAt ≤ s.now) (hq : s.gate.quench = false)
    (hstage : s.bg.stage ≠ 4) (hcore : s.pwr.core = true) (h1 : s.boundary .bNextAdvertisingEvent = s1) (hprof : s1.advProfile ≠ 0)
    (hrng : s1.rng.st ≠ .starting) (hepoch : s1.ble.epoch = some s1.advEpoch) (harmed : s1.armed .ble s1.now = true)
    (hceil : s1.atCeiling 2 0 = false)
    (h2 : ((s1.xcDrop .ble fun u => u = XcUse.adv).limAdd 2 0 (s1.bleAir onAir) false).bleOnAir .tx onAir = s2)
    (hant : s2.oneAnt .ble = true) :
    s.advertise onAir =
      (({ s2 with ble.advAt := s2.now + advInterval s1.advProfile, ble.advAnt := false,
                  ble.adv := some ⟨toLe 6 (s2.g 0x310A 0), s2.bleHeld < 8, s2.bleManager, s1.advProfile,
                   if s2.bleManager then s2.advData else [], false⟩ } : State).bump 0x3120 1) := by
  have hdue : (s.now < s.ble.advAt || s.gate.quench || s.bg.stage = 4 || !s.pwr.core : Bool) = false := by
    simp [Nat.not_lt.2 hat, hq, hstage, hcore]
  have hgo : (s1.advProfile = 0 || s1.rng.st = .starting || (s1.ble.epoch ≠ some s1.advEpoch && !s1.drawOk) : Bool) = false := by
    simp [hprof, hrng, hepoch]
  have haddr : s1.advAddress = s1 := if_pos hepoch
  simp only [State.advertise, hdue, h1, hgo, harmed, hceil, haddr, h2, hant, Bool.not_true, Bool.false_eq_true, if_false,
    Bool.true_or, if_true]

/-- A central connects where a number is free and others stay free (R356, R363). -/
theorem bleOpen_room {s s1 s2 : State} {interval latency timeout phy c : Nat} (hq : s.gate.quench = false) (hcore : s.pwr.core = true)
    (hok : connParamsOk interval latency timeout = true) (h1 : s.boundary .bNextConnection = s1)
    (hfree : s1.ble.conns.findIdx? Option.isNone = some c)
    (h2 : ((({ s1 with ble.conns := putAt s1.ble.conns c (some
          { at_ := s1.now, phy := phy, interval := interval, latency := latency, timeout := timeout, mtu := 23, cccd := [],
            chal := false, had := false, rxq := [], ntf := [], svc := false, param := false, rssi := 0, served := s1.now,
            anchor := s1.now + us (1250 * interval), hist0 := [], hist1 := [], evs := 0, ant := false, sent := [] }) } : State).bump
          0x3120 2).engEvAll 3) = s2) (hheld : s2.bleHeld < 8) : s.bleOpen interval latency timeout phy false = s2 := by
  simp only [State.bleOpen, hq, hcore, hok, h1, hfree, Bool.not_true, Bool.or_self, Bool.false_eq_true, if_false, h2, hheld, if_true]

theorem connParamsOk_of {interval latency timeout : Nat} (h1 : 6 ≤ interval) (h2 : interval ≤ 3200) (h3 : latency ≤ 499)
    (h4 : 100 ≤ timeout) (h5 : timeout ≤ 32000) : connParamsOk interval latency timeout = true := by
  simp [connParamsOk, h1, h2, h3, h4, h5]

section
variable {s s1 : State} {c onAir more : Nat} {x : BleConn} {rssi : Option Int} {dwell : Int × Int} (hx : s.conn c = some x)
  (hq : s.gate.quench = false) (hcore : s.pwr.core = true) (h1 : s.boundary .bNextConnectionEvent = s1)
include hx hq hcore h1

/-- A connection event for which the transceiver is not armed is missed (R324). -/
theorem connEvent_late (harmed : s1.armed .ble s1.now = false) :
    s.connEvent c [] rssi dwell onAir more = (s1.bleMissed c).bump 0x3205 2 := by
  simp only [State.connEvent, hx, hq, hcore, h1, harmed, Bool.not_true, Bool.not_false, Bool.or_self, Bool.false_eq_true, if_false,
    List.any_nil, if_true]

/-- A connection event of a session's connection that is served (R368 to R370). -/
theorem connEvent_served {y : BleConn} {s2 s3 : State} (harmed : s1.armed .ble s1.now = true) (hy : s1.conn c = some y)
    (hparam : y.param = false)
    (h2 : ((s1.modConn c fun z =>
      { z with sent := [], ant := s1.bleAnt y dwell, served := s1.now, anchor := s1.now + us (1250 * z.interval), param := false,
               evs := if 2 ≤ y.phy || y.evs + 1 < s1.g 0x3243 0 then z.evs + 1 else 0 }).xcDrop .ble fun u => u = XcUse.event c) = s2)
    (h3 : ({ (s2.bleOnAir .rx onAir).bleHeard c rssi (s1.bleAnt y dwell) with
              ble.event := some c, rfc.ble.byp := s1.bleBypRx y.lastRssi } : State) = s3)
    (hses : (s3.sesOn (.ble c)).isNone = false) (hceil : s3.atCeiling 2 0 = false) :
    s.connEvent c [] rssi dwell onAir more =
      (((s3.bleFlush c).bleData c).limAdd 2 0 (s3.bleAir onAir - ((s3.ntfPick y).1.map (s3.ntfTime y.phy)).sum) false) := by
  simp only [State.connEvent, hx, hq, hcore, h1, harmed, hy, hparam, h2, h3, hses, hceil, Bool.not_true, Bool.or_self,
    Bool.false_eq_true, if_false, List.any_nil, Bool.false_and]

end

/-- Settles O35, command by command. -/
theorem bleLinkCommandsComplete : Obligations.BleLinkCommandsComplete := by
  unfold Obligations.BleLinkCommandsComplete
  intro t s s0 h0
  refine ⟨fun hlive hat hq hstage hcore s1 s2 onAir h1 hprof hrng hepoch harmed hceil h2 hant => ends_of_run rfl h0
      ((whenLive_live hlive).trans (advertise_sent hat hq hstage hcore h1 hprof hrng hepoch harmed hceil h2 hant)),
    fun interval latency timeout phy c s1 s2 hlive hq hcore hi1 hi2 hl ht1 ht2 h1 hfree h2 hheld => ends_of_run rfl h0
      ((whenLive_live hlive).trans (bleOpen_room hq hcore (connParamsOk_of hi1 hi2 hl ht1 ht2) h1 hfree h2 hheld)),
    fun c x hlive hx => ?_, fun d hd hdue => ends_of_run rfl h0 ?_⟩
  · have hsome : (s0.conn c).isSome = true := by rw [hx]; rfl
    have hnone : (s0.conn c).isNone = false := by rw [hx]; rfl
    refine ⟨fun s1 h1 => ?_, fun hhad hdue => ?_, fun hq hcore s1 rssi dwell onAir more h1 => ⟨fun harmed => ?_,
        fun y s2 s3 harmed hy hparam h2 h3 hses hceil => ?_⟩, fun mtu => ?_, fun v => ?_, ?_, ?_, fun phy hphy => ?_,
      fun interval latency timeout hi1 hi2 hl ht1 ht2 => ?_⟩
    all_goals refine ends_of_run rfl h0 ((whenLive_live hlive).trans ?_)
    · simp only [State.bleClose, hnone, Bool.false_eq_true, if_false, h1]
    · simp only [State.noSessionLimit, hx, hhad, hdue, Bool.not_false, decide_true, Bool.and_self, if_true]
    · exact connEvent_late hx hq hcore h1 harmed
    · exact connEvent_served hx hq hcore h1 harmed hy hparam h2 h3 hses hceil
    · exact if_pos hsome
    · simp only [State.cccdWrite, hnone, Bool.false_eq_true, if_false]
      exact if_neg (by simp [State.handleExists])
    · exact if_pos hsome
    · exact if_pos hsome
    · exact if_pos (by simp [hsome, hphy])
    · simp only [State.paramRequest, hnone, connParamsOk_of hi1 hi2 hl ht1 ht2, Bool.false_eq_true, if_false, if_true, State.attAnswer]
  · show s0.boostEnd = _
    simp only [State.boostEnd, hd, hdue, if_true]

/-! ### Engine characteristics -/

/-- Among the numbers below a bound, a test that one of them alone passes picks that one. -/
theorem filter_range_single {c n : Nat} {p : Nat → Bool} (hc : c < n) (hp : ∀ k < n, p k = decide (k = c)) :
    (List.range n).filter p = [c] := by
  induction n with
  | zero => exact absurd hc (Nat.not_lt_zero c)
  | succ n ih =>
    rw [List.range_succ, List.filter_append, List.filter_cons, List.filter_nil, hp n (Nat.lt_succ_self n)]
    rcases Nat.lt_succ_iff_lt_or_eq.1 hc with hlt | rfl
    · rw [ih hlt fun k hk => hp k (Nat.lt_succ_of_lt hk), decide_eq_false (Nat.ne_of_gt hlt)]
      rfl
    · have hnone : (List.range c).filter p = [] := List.filter_eq_nil_iff.2 fun k hk => by
        have hlt := List.mem_range.1 hk
        rw [hp k (Nat.lt_succ_of_lt hlt), decide_eq_false (Nat.ne_of_lt hlt)]
        exact Bool.false_ne_true
      rw [hnone, decide_eq_true rfl]
      rfl

/-- With no characteristic claimed, publishing tells the phones that services changed (R372). -/
theorem charPublish_none {s : State} (hfree : ∀ n < 16, (s.bleChar n).owner = 0xFF) :
    s.charPublish [] = (⟨0, 0, []⟩, { s with ble.conns := s.ble.conns.map fun o => o.map fun (x : BleConn) =>
      { x with svc := x.svc || bit (x.cccdOf 0x09) 1 } }) := by
  have hmine : ((List.range 16).filter fun i => (s.bleChar i).owner ≠ 0xFF) = [] := by
    rw [List.filter_eq_nil_iff]
    intro n hn
    simp [hfree n (List.mem_range.1 hn)]
  simp only [State.charPublish, hmine, List.any_nil, List.foldl_nil, ne_eq, not_true_eq_false, Bool.false_eq_true, if_false]

/-- A notification of an engine's own characteristic to one connection (R375). -/
theorem charNotify_one {s : State} {e i c : Nat} {x : BleConn} (hi : i < 16) (howner : (s.bleChar i).owner = e) (hc : c < 8)
    (hq : s.gate.quench = false) (hstage : s.bg.stage = 0) (hx : s.conn c = some x) (hpub : (s.bleChar i).pub = true)
    (hprop : bit (s.charProps i) 3 = true) (hcccd : bit (x.cccdOf (0x23 + 3 * i)) 0 = true) (hroom : x.ntf.length < 8)
    (hshare : s.overShare 2 0 ((s.ble.conns.map fun o =>
        (o.map fun (y : BleConn) => ((y.ntf.filter fun n => !n.sent).map (s.ntfTime y.phy)).sum).getD 0).sum +
      s.bleAir (us (ntfAir x.phy ((s.bleChar i).val.take (s.g (0x3140 + i) 4)).length))) = false) :
    s.charNotify e [BitVec.ofNat 8 i, BitVec.ofNat 8 (2 ^ c)] = (⟨0, 0, [BitVec.ofNat 8 (2 ^ c)]⟩,
      s.modConn c fun y => { y with ntf := y.ntf ++
        [⟨i, e, (s.bleChar i).val.take (s.g (0x3140 + i) 4), !bit (y.cccdOf (0x23 + 3 * i)) 0, false⟩] }) := by
  rw [List.length_take] at hshare
  have hi0 : byteAt 0 [BitVec.ofNat 8 i, BitVec.ofNat 8 (2 ^ c)] = i := toNat_ofNat8 (by omega)
  have hmask : byteAt 1 [BitVec.ofNat 8 i, BitVec.ofNat 8 (2 ^ c)] = 2 ^ c :=
    toNat_ofNat8 (Nat.pow_lt_pow_right (by decide) hc)
  have hbit : ∀ k, bit (2 ^ c) k = decide (k = c) := fun k => by
    simp [bit, Nat.testBit_two_pow, eq_comm]
  have hone : ((List.range 8).any fun k => bit (2 ^ c) k && (s.conn k).isSome) = true :=
    List.any_eq_true.2 ⟨c, List.mem_range.2 hc, by simp [hbit, hx]⟩
  have htargets : ((List.range 8).filter fun k => bit (2 ^ c) k && (s.bleChar i).pub && ((s.conn k).map fun x =>
      (bit (s.charProps i) 3 && bit (x.cccdOf (0x23 + 3 * i)) 0) || (bit (s.charProps i) 4 && bit (x.cccdOf (0x23 + 3 * i)) 1)).getD
        false) = [c] := by
    refine filter_range_single hc fun k hk => ?_
    by_cases hkc : k = c
    · subst hkc; simp [hbit, hpub, hx, hprop, hcccd]
    · simp [hbit, hkc]
  simp only [State.charNotify, hi0, hmask, hone, htargets]
  simp [Nat.not_le.2 hi, hq, howner, hstage, hx, Nat.not_le.2 hroom, hshare, hprop]

/-- A phone's write request to a published writable characteristic (R374). -/
theorem attWrite_request {s : State} {c i : Nat} {x : BleConn} {d : Bytes} (hi : i < 16) (hx : s.conn c = some x)
    (hpub : (s.bleChar i).pub = true) (hprop : bit (s.charProps i) 1 = true) (hlen : d.length ≤ s.g (0x3140 + i) 4)
    (hroom : (s.bleChar i).rxq.length < 4) :
    s.attWrite c (0x22 + 3 * i) .request d =
      { (s.modChar i fun y => { y with rxq := y.rxq ++ [(c, d)] }).engEv (s.bleChar i).owner 2 with ble.rsp := .ok } := by
  have hchar : charOf (0x22 + 3 * i) = some (i, 1) := by
    rw [charOf, if_pos (by simp only [Bool.and_eq_true, decide_eq_true_eq]; omega)]
    exact congrArg some (Prod.ext (by simp only; omega) (by simp only; omega))
  have hval : (decide (0x22 + 3 * i = 0x12) && s.bleManager) = false := by
    rw [decide_eq_false (by omega), Bool.false_and]
  simp [State.attWrite, hx, hval, hchar, hpub, hprop, Nat.not_lt.2 hlen, Nat.not_le.2 hroom, State.attAnswer]

/-- Settles O36, command by command. -/
theorem engineCharacteristicsComplete : Obligations.EngineCharacteristicsComplete := by
  unfold Obligations.EngineCharacteristicsComplete
  intro t s s0 r e i h0 hi
  have hoct : byteAt 0 [BitVec.ofNat 8 i] = i := toNat_ofNat8 (by omega)
  refine ⟨fun hfree => answers_exec rfl h0 ?_, fun howner hr => ⟨fun c x hc hq hstage hx hpub hprop hcccd hroom hshare =>
      answers_exec rfl h0 ?_, answers_exec rfl h0 ?_, fun hrx => answers_exec rfl h0 ?_, fun c d qs hrx => answers_exec rfl h0 ?_⟩,
    fun c x hlive hx => ⟨fun d hpub hprop hlen hroom => ?_, fun hmgr => ⟨?_, ?_⟩, fun hmgr => ?_, ends_of_run rfl h0 (whenLive_live hlive)⟩⟩
  · show (some (s0.charPublish []).1, (s0.charPublish []).2) = _
    rw [charPublish_none hfree]
  · subst hr
    show (some (s0.charNotify e [BitVec.ofNat 8 i, BitVec.ofNat 8 (2 ^ c)]).1,
      (s0.charNotify e [BitVec.ofNat 8 i, BitVec.ofNat 8 (2 ^ c)]).2) = _
    rw [charNotify_one (e := e) hi howner hc hq hstage hx hpub hprop hcccd hroom hshare]
  · show (some (s0.charRelease (engOf r) [BitVec.ofNat 8 i]).1, (s0.charRelease (engOf r) [BitVec.ofNat 8 i]).2) = _
    simp [State.charRelease, hoct, Nat.not_le.2 hi, howner]
  · show (some (s0.charRx (engOf r) [BitVec.ofNat 8 i]).1, (s0.charRx (engOf r) [BitVec.ofNat 8 i]).2) = _
    simp [State.charRx, hoct, Nat.not_le.2 hi, howner, hrx]
  · show (some (s0.charRx (engOf r) [BitVec.ofNat 8 i]).1, (s0.charRx (engOf r) [BitVec.ofNat 8 i]).2) = _
    simp [State.charRx, hoct, Nat.not_le.2 hi, howner, hrx]
  · exact ends_of_run rfl h0 ((whenLive_live hlive).trans (attWrite_request hi hx hpub hprop hlen hroom))
  · refine ends_of_run rfl h0 ((whenLive_live hlive).trans ?_)
    simp [State.attRead, hx, State.handleExists, hmgr, State.attValue, State.attAnswer]
  · refine ends_of_run rfl h0 ((whenLive_live hlive).trans ?_)
    simp [State.attRead, hx, State.handleExists, hmgr, State.attValue, State.attAnswer]
  · refine ends_of_run rfl h0 ((whenLive_live hlive).trans ?_)
    simp [State.attRead, hx, State.handleExists, hmgr, charOf, State.attAnswer]

end Sys2Proof.Machine
end

section
/-! Capacitive sensing (R379 to R385). -/
namespace Sys2Proof.Machine

/-- A step of the scanner while CORE runs out of reset. -/
theorem capStep_running {s : State} {f : State → State} (hvaon : s.pwr.vaon = true) (hshut : s.pwr.shut = false)
    (hcore : s.pwr.core = true) (hheld : s.pwr.held = false) : s.capStep f = f s := by
  rw [State.capStep, whenAon_up hvaon hshut]
  exact if_pos (by simp [hcore, hheld])

/-- A confirming measurement that is due, by its reading and the count so far (R381). -/
theorem capConfirm_due {s : State} {n c : Nat} {x : CapCh} {b : Rat} (hx : s.capCh n = x) (hon : s.capOn n = true)
    (htouched : x.touched = false) (hovr : x.ovr ≠ 0) (hdue : x.due ≤ s.now) (hb : x.base = some b) :
    s.capConfirm n c =
      if (c : Rat) - b < (s.g 0x3402 (n + 1) : Nat) then
        s.setCap n { x with raw := c, base := some (s.capFilter b c (ms 1)), ovr := 0 }
      else if s.g 0x3404 0 ≤ x.ovr + 1 then
        (s.setCap n { x with raw := c, base := some (s.capFilter b c (ms 1)) }).capTouch n
      else s.setCap n { x with raw := c, base := some (s.capFilter b c (ms 1)), ovr := x.ovr + 1, due := s.now + ms 1 } := by
  subst hx
  have hgo : (!s.capOn n || (s.capCh n).touched || (s.capCh n).ovr = 0 || s.now < (s.capCh n).due : Bool) = false := by
    simp [hon, htouched, hovr, Nat.not_lt.2 hdue]
  simp only [State.capConfirm, hgo, hb, Bool.false_eq_true, if_false]

/-- A touch that waits and that the part can look at leaves the list of those held: in Quench it is dropped, and the deciding part serves
it on its gate and LF channel (R385). -/
theorem touchHandoff_held {s s1 : State} {n at_ : Nat} (hfind : s.cap.held.find? (fun h => h.1 = n) = some (n, at_))
    (hcore : s.pwr.core = true) (hclk : s.clocksOk = true) (hrng : s.rng.st = .seeded)
    (hphase : s.gate.quench = false → s.pwr.phase = .ready)
    (h1 : { s with cap.held := s.cap.held.filter fun (x : Nat × Nat) => x ≠ (n, at_) } = s1) :
    s.touchHandoff n =
      if s1.gate.quench then s1
      else if s1.hasAccess && s1.seg.role = .manager then
        (if s1.deciding then s1.touch (s1.g 0x2220 (n + 1)) (s1.lfPollOf (s1.g 0x2221 (n + 1)) (s1.g 0x2220 (n + 1))) at_ else s1)
      else
        s1.sendReport 0 [] []
          [[0x01, BitVec.ofNat 8 n, BitVec.ofNat 8 (s1.g 0x4214 (n + 1)), BitVec.ofNat 8 (s1.g 0x4215 (n + 1))] ++
            toLe 2 (min 65535 ((s1.now - at_) / us 10))] Item.toBytes := by
  have hgo : (!s.pwr.core || !s.clocksOk || s.rng.st ≠ .seeded || (s.pwr.phase ≠ .ready && !s.gate.quench) : Bool) = false := by
    cases hq : s.gate.quench <;> simp [hcore, hclk, hrng, hq, hphase]
  subst h1
  simp only [State.touchHandoff, hfind, hgo, Bool.false_eq_true, if_false]

/-- Settles O37, command by command. -/
theorem capacitiveCommandsComplete : Obligations.CapacitiveCommandsComplete := by
  unfold Obligations.CapacitiveCommandsComplete
  intro t s s0 h0 hvaon hheld hshut hcore
  refine ⟨fun cs s1 hdue h1 => ⟨fun hfew => ?_, fun hgang => ?_⟩,
    fun n c x b hx hon htouched hovr hdue hb => ⟨fun hlow => ?_, fun hhigh hmore => ?_, fun hhigh hlast => ?_⟩,
    fun n x hx htouched hdue => ?_, fun n at_ s1 hlive hfind hclk hrng h1 => ⟨fun hq => ?_, fun hq hphase hacc hrole hdec => ?_⟩⟩
  · have hscan : ¬ (s0.now < s0.cap.scanAt + s0.scanPeriod && s0.cap.scanAt ≠ 0 : Bool) = true := by simp [Nat.not_lt.2 hdue]
    refine ends_of_run rfl h0 ((capStep_running hvaon hshut hcore hheld).trans ((if_neg hscan).trans ?_))
    subst h1
    exact if_neg (Nat.not_le.2 hfew)
  · have hscan : ¬ (s0.now < s0.cap.scanAt + s0.scanPeriod && s0.cap.scanAt ≠ 0 : Bool) = true := by simp [Nat.not_lt.2 hdue]
    refine ends_of_run rfl h0 ((capStep_running hvaon hshut hcore hheld).trans ((if_neg hscan).trans ?_))
    subst h1
    exact if_pos hgang
  · refine ends_of_run rfl h0 ((capStep_running hvaon hshut hcore hheld).trans ((capConfirm_due hx hon htouched hovr hdue hb).trans ?_))
    rw [if_pos hlow]
  · refine ends_of_run rfl h0 ((capStep_running hvaon hshut hcore hheld).trans ((capConfirm_due hx hon htouched hovr hdue hb).trans ?_))
    rw [if_neg (Rat.not_lt.2 hhigh), if_neg (Nat.not_le.2 hmore)]
  · refine ends_of_run rfl h0 ((capStep_running hvaon hshut hcore hheld).trans ((capConfirm_due hx hon htouched hovr hdue hb).trans ?_))
    rw [if_neg (Rat.not_lt.2 hhigh), if_pos hlast]
  · subst hx
    exact ends_of_run rfl h0 ((whenAon_up hvaon hshut).trans (if_pos (by simp [htouched, hdue])))
  · have hquench : s1.gate.quench = true := by rw [← h1]; exact hq
    refine ends_of_run rfl h0 ((whenLive_live hlive).trans ((touchHandoff_held hfind hcore hclk hrng (fun h => ?_) h1).trans ?_))
    · rw [hq] at h; cases h
    · exact if_pos hquench
  · have hquench : ¬ s1.gate.quench = true := by rw [← h1]; exact (Bool.eq_false_iff.1 hq)
    have hmgr : (s1.hasAccess && s1.seg.role = .manager : Bool) = true := by
      rw [← h1]
      exact (Bool.and_eq_true_iff.2 ⟨hacc, decide_eq_true hrole⟩)
    refine ends_of_run rfl h0 ((whenLive_live hlive).trans ((touchHandoff_held hfind hcore hclk hrng (fun _ => hphase) h1).trans ?_))
    exact (if_neg hquench).trans ((if_pos hmgr).trans (if_pos hdec))

end Sys2Proof.Machine
end

section
/-! The LF channels (R386 to R404). -/
namespace Sys2Proof.Machine

/-- A command that runs on is noted in the dictionary; the LF unit and the gates stay as they are. -/
theorem runsOn_lf_gate (s : State) (who : Requester) (q : Req) : (s.runsOn who q).lf = s.lf ∧ (s.runsOn who q).gate = s.gate := by
  have hcount : ∀ sid, (s.netCount sid).lf = s.lf ∧ (s.netCount sid).gate = s.gate := fun sid => by
    unfold State.netCount
    split <;> exact ⟨rfl, rfl⟩
  have hlast : ∀ (u : State) sid, (u.netLast sid).lf = u.lf ∧ (u.netLast sid).gate = u.gate := fun u sid => by
    unfold State.netLast
    split <;> exact ⟨rfl, rfl⟩
  cases who with
  | net sid => exact ⟨(hlast _ sid).1.trans (hcount sid).1, (hlast _ sid).2.trans (hcount sid).2⟩
  | host => exact ⟨rfl, rfl⟩
  | engine n => exact ⟨rfl, rfl⟩
  | twin => exact ⟨rfl, rfl⟩
  | field => exact ⟨rfl, rfl⟩

/-- A poll of the manager's own starts with a fresh nonce where nothing holds it off and limiter 3 leaves room (R388, R389, R394). -/
theorem lfStart_poll {s s1 s2 : State} {vlf : Nat} {x : LfEx} {rest : List LfEx} {nonce fr : Bytes}
    (h1 : (s.put 0x3308 0 vlf).boundary .bNextExchange = s1) (hq : s1.lf.q = x :: rest) (hkind : x.kind = .poll) (hreq : x.req = none)
    (hrun : s1.lf.run = none) (hdiag : s1.lf.diag = none) (hquench : s1.gate.quench = false) (hstage : s1.bg.stage ≠ 4)
    (hcore : s1.pwr.core = true) (hclk : s1.clocksOk = true) (hdraw : s1.drawOk = true) (husable : s1.lfUsable x.chan = true)
    (hfault : clrBit (s1.lfFaults x.chan) 3 = 0) (hvlf : 5700 ≤ vlf) (hroom : s1.lfRoom x.chan (s1.lfPlan .poll) = true)
    (hnonce : ({ s1 with lf.q := rest, lf.waited := false } : State).newNonce (.lf x.chan) 0 x.gate = (nonce, s2))
    (hframe : s2.lfFrame x nonce = some fr) :
    let d := lfDown (s1.g 0x3304 0) .poll
    s.lfStart vlf = ((({ s2 with
      lf.run := some { ex := x, nonce := nonce, start := s1.now, dlEnd := s1.now + d, on := true, seg1 := none, legacy := false,
                       back := false, meas := false, plan := s1.now + d + us 500 + s1.lfReply .poll, frame := fr, wave := [lfPauses fr] },
      lf.out := none } : State).limAdd 3 x.chan d false).bump 0x3309 1) := by
  have hdraws : x.draws = true := by simp [LfEx.draws, hkind, hreq]
  have hgo : (s1.lf.run.isSome || s1.lf.diag.isSome || s1.gate.quench || s1.bg.stage = 4 || !s1.pwr.core || !s1.clocksOk ||
      (true && !s1.drawOk) : Bool) = false := by
    simp [hrun, hdiag, hquench, hstage, hcore, hclk, hdraw]
  simp only [State.lfStart, h1, hq, hgo, husable, hfault, hkind, hroom, hdraws, hnonce, hframe, Nat.not_lt.2 hvlf, ne_eq,
    not_true_eq_false, Bool.not_true, Bool.false_eq_true, if_false, if_true]

/-- Faults other than DETUNED that include overcurrent stop the channel's exchange (R390, R391). -/
theorem lfAbort_overcurrent (s : State) (c : Nat) :
    let s1 := s.put 0x3306 (c + 1) (s.lfFaults c ||| 4)
    s.lfAbort c 4 =
      ({ ((s1.bump 0x3309 4).logEv 0x0F 0x06 0x90 [0x00, BitVec.ofNat 8 c, BitVec.ofNat 8 (s1.lfFaults c)]).errBit 4 0x3300 0x06 0x90 with
          lf.out := some (c, Rc.notReady, Dt.lfFault) } : State).lfEnd := by
  have hother : ¬ clrBit 4 3 = 0 := by decide
  have hover : (bit 4 2 || bit 4 4) = true := by decide
  simp only [State.lfAbort, hother, hover, if_false, if_true]

/-- With no fault found, nothing new is latched. -/
theorem lfAbort_none (s : State) (c : Nat) : s.lfAbort c 0 = s.put 0x3306 (c + 1) (s.lfFaults c ||| 0) := by
  have hclear : clrBit 0 3 = 0 := by decide
  simp only [State.lfAbort, hclear, if_true]

/-- The drive measurement of a sound coil stores the peak current and the phase (R390). -/
theorem lfMeasure_sound {s s1 : State} {r : LfRun} {peak : Nat} {phase : Int} (hr : s.lf.run = some r) (hmeas : r.meas = false)
    (hphase : phase.natAbs ≤ 450)
    (h1 : (({ s with lf.run := some { r with meas := true } } : State).put 0x3307 (r.ex.chan + 1) peak).put 0x3307 (r.ex.chan + 5)
            (toTwos 16 phase) = s1) (hpeak : s1.g 0x3303 (r.ex.chan + 1) ≤ peak * 5) :
    s.lfMeasure peak phase false false = s1.put 0x3306 (r.ex.chan + 1) (s1.lfFaults r.ex.chan ||| 0) := by
  have hnone : b2n (decide (peak * 5 < s1.g 0x3303 (r.ex.chan + 1))) + 2 * b2n false + 8 * b2n (decide (450 < phase.natAbs)) +
      16 * b2n false = 0 := by
    rw [decide_eq_false (Nat.not_lt.2 hpeak), decide_eq_false (Nat.not_lt.2 hphase)]
    rfl
  simp only [State.lfMeasure, hr, hmeas, Bool.false_eq_true, if_false, h1, hnone, lfAbort_none]

section
variable {s : State} {r : LfRun} (hr : s.lf.run = some r)
include hr

/-- The carrier returns 500 us after the downlink for a poll whose SEG1 has come (R395). -/
theorem lfReturn_due (hdue : r.dlEnd + us 500 ≤ s.now) (hback : r.back = false) (hseg : r.seg1.isSome = true) :
    s.lfReturn = (({ s with lf.run := some { r with on := true, back := true, legacy := r.legacy } } : State).limAdd 3 r.ex.chan
      (s.lfReply r.ex.kind) false) := by
  have hnone : r.seg1.isNone = false := Bool.eq_false_iff.2 (isNone_false_of_isSome hseg)
  simp only [State.lfReturn, hr, Nat.not_lt.2 hdue, hback, decide_false, Bool.or_self, Bool.false_eq_true, if_false, hnone,
    Bool.and_false, Bool.false_and, Bool.or_false]

theorem lfSeg1_poll (hkind : r.ex.kind = .poll) (hon : r.on = true) (hlegacy : r.legacy = false) (hseg : r.seg1 = none)
    (hdl : s.now < r.dlEnd) (hs : Halves) :
    (∀ d : Bytes, lfOctets 8 hs = some d →
      s.lfSeg1 hs = { s with lf.run := some { r with seg1 := some (leAt 0 4 d, leAt 4 4 d) } }) ∧
    (lfOctets 8 hs = none → s.lfSeg1 hs = s.lfCollision) := by
  have hgo : (!r.on || r.legacy || r.seg1.isSome || r.dlEnd ≤ s.now : Bool) = false := by
    simp [hon, hlegacy, hseg, Nat.not_le.2 hdl]
  constructor
  · intro d hd
    simp only [State.lfSeg1, hr, hkind, hgo, Bool.false_eq_true, if_false, hd]
  · intro hd
    simp only [State.lfSeg1, hr, hkind, hgo, Bool.false_eq_true, if_false, hd]

theorem lfNoSync_before (hkind : r.ex.kind = .poll) (hseg : r.seg1 = none) (hrep : r.replies = false) :
    s.lfNoSync = { s with lf.run := some { r with legacy := true } } := by
  simp only [State.lfNoSync, hr, hkind, hseg, hrep, Option.isSome_none, Bool.false_and, Bool.false_eq_true, if_false]

theorem lfNoSync_reply (hkind : r.ex.kind = .poll) (hrep : r.replies = true) : s.lfNoSync = s.lfEnd := by
  simp only [State.lfNoSync, hr, hkind, hrep, Bool.not_true, Bool.and_false, Bool.false_eq_true, if_false, if_true]

variable (hrep : r.replies = true)
include hrep

theorem lfSeg2_in {tid c : Nat} (hseg : r.seg1 = some (tid, c)) {hs : Halves} {snr : Nat} :
    (∀ d : Bytes, lfOctets 8 hs = some d → s.lfSeg2 hs snr = s.lfPresented r tid c d false snr) ∧
    (lfOctets 8 hs = none → s.lfSeg2 hs snr = s.lfEnd) := by
  constructor
  · intro d hd
    simp only [State.lfSeg2, hr, hseg, hrep, hd, Bool.not_true, Bool.false_eq_true, if_false]
  · intro hd
    simp only [State.lfSeg2, hr, hseg, hrep, hd, Bool.not_true, Bool.false_eq_true, if_false]

theorem lfReplyIn_legacy (hlegacy : r.legacy = true) {hs : Halves} {snr : Nat} :
    (∀ d : Bytes, lfOctets 14 hs = some d → s.lfReplyIn hs snr = s.lfPresented r (leAt 0 4 d) (leAt 4 2 d) (d.drop 6) true snr) ∧
    (lfOctets 14 hs = none → s.lfReplyIn hs snr = s.lfCollision) := by
  constructor
  · intro d hd
    simp only [State.lfReplyIn, hr, hlegacy, hrep, hd, Bool.not_true, Bool.or_self, Bool.false_eq_true, if_false]
  · intro hd
    simp only [State.lfReplyIn, hr, hlegacy, hrep, hd, Bool.not_true, Bool.or_self, Bool.false_eq_true, if_false]

/-- UID: the transfer goes on with KEY_LOAD (R402). -/
theorem lfUid_in {s1 : State} {id : Bytes} {hs : Halves} {l : Learn} (hkind : r.ex.kind = .uid) (hid : lfOctets 8 hs = some id)
    (h1 : s.lfCarrierOff.lfOver r.ex true = s1) (hl : s1.acc.learn = some l) :
    s.lfUid hs =
      { s1 with acc.learn := some { l with xfer := l.xfer.map fun (x : Transfer) => { x with uid := some id } },
                lf.q := (⟨r.ex.chan, 0xFF, LfKind.key, none, [], 0⟩ : LfEx) :: s1.lf.q } := by
  simp only [State.lfUid, hr, hkind, hrep, ne_eq, not_true_eq_false, decide_false, Bool.not_true, Bool.or_self, Bool.false_eq_true,
    if_false, hid, h1, hl]

/-- CONFIRM: the check value of the coil decides the transfer (R193, R403). -/
theorem lfConfirm_in {s1 : State} {check : Bytes} {hs : Halves} (hkind : r.ex.kind = .key) (hcheck : lfOctets 8 hs = some check)
    (h1 : s.lfCarrierOff.lfOver r.ex true = s1) :
    s.lfConfirm hs =
      if s1.coilCheck (((s1.acc.learn.bind (·.xfer)).bind (·.uid)).getD []) check then s1.xferConfirm else s1.xferFail := by
  simp only [State.lfConfirm, hr, hkind, hrep, ne_eq, not_true_eq_false, decide_false, Bool.not_true, Bool.or_self, Bool.false_eq_true,
    if_false, hcheck, h1, Option.map_some, Option.getD_some]

end

/-- LfDiagRun of a channel that is free (R391). -/
theorem lfDiag_free {s : State} {who : Requester} {ch : Nat} (hch : ch < 4) (hhas : s.has (16 + ch) = true) (hrun : s.lf.run = none)
    (hq : s.lf.q = []) (hdiag : s.lf.diag = none) (hquench : s.gate.quench = false) :
    s.lfDiag who [BitVec.ofNat 8 ch] = (none, ({ s with lf.diag := some (who, ch) } : State).limAdd 3 ch (ms 1) false) := by
  have hoct : byteAt 0 [BitVec.ofNat 8 ch] = ch := toNat_ofNat8 (by omega)
  simp [State.lfDiag, hoct, Nat.not_le.2 hch, hhas, hrun, hq, hdiag, hquench]

/-- The end of a diagnosis that found no fault clears the channel's faults (R391). -/
theorem lfDiagDone_sound {s : State} {who : Requester} {ch peak vlf : Nat} {phase : Int} (hdiag : s.lf.diag = some (who, ch))
    (hquench : s.gate.quench = false) (hpeak : 20 ≤ peak) (hvlf : 5700 ≤ vlf) (hphase : phase.natAbs ≤ 450) :
    s.lfDiagDone peak phase false false false vlf =
      ((((({ s with lf.diag := none } : State).put 0x3308 0 vlf).put 0x3307 (ch + 1) peak).put 0x3307 (ch + 5)
        (toTwos 16 phase)).put 0x3306 (ch + 1) 0 |>.answer who 0x330B ⟨0, 0, [0]⟩) := by
  have hnone : b2n (decide (peak < 20)) + 2 * b2n false + 4 * b2n false + 8 * b2n (decide (450 < phase.natAbs)) + 16 * b2n false +
      32 * b2n (decide (vlf < 5700)) = 0 := by
    rw [decide_eq_false (Nat.not_lt.2 hpeak), decide_eq_false (Nat.not_lt.2 hphase), decide_eq_false (Nat.not_lt.2 hvlf)]
    rfl
  have hclear : clrBit 0 3 = 0 := by decide
  simp only [State.lfDiagDone, hdiag, hquench, Bool.false_eq_true, if_false, hnone, hclear, if_true]
  rfl

/-- Settles O38, event by event. -/
theorem lfCommandsComplete : Obligations.LfCommandsComplete := by
  unfold Obligations.LfCommandsComplete
  intro t s s0 h0
  refine ⟨fun hlive => ⟨fun vlf s1 s2 x rest nonce fr h1 hq hkind hreq hrun hdiag hquench hstage hcore hclk hdraw husable hfault hvlf hroom
      hnonce hframe d run hd hrun1 => ?_, fun r hr => ⟨fun peak phase s1 hmeas hphase h1 hpeak => ?_, fun hdue hback hseg => ?_,
      fun hkind => ⟨fun hon hlegacy hseg hdl hs => ⟨fun d hd => ?_, fun hd => ?_⟩, fun hseg hrep => ?_, fun hrep => ?_,
        fun hrep tid c d hs snr => ⟨fun hseg => ⟨fun hd => ?_, fun hd => ?_⟩, fun hlegacy => ⟨fun hd => ?_, fun hd => ?_⟩⟩⟩,
      fun id hs s1 l hkind hrep hid h1 hl => ?_, fun check hs s1 hkind hrep hcheck h1 => ⟨fun hok => ?_, fun hbad => ?_⟩⟩⟩,
    fun r s1 s2 hr h1 h2 => ?_,
    fun who ch peak vlf phase q s1 hch hhas hrun hq hdiag hquench hpeak hvlf hphase hreq hadm h1 => ?_, fun vlf hvlf => ?_⟩
  · subst hd hrun1
    exact ends_of_run rfl h0 ((whenLive_live hlive).trans (lfStart_poll h1 hq hkind hreq hrun hdiag hquench hstage hcore hclk hdraw
      husable hfault hvlf hroom hnonce hframe))
  · exact ends_of_run rfl h0 ((whenLive_live hlive).trans (lfMeasure_sound hr hmeas hphase h1 hpeak))
  · exact ends_of_run rfl h0 ((whenLive_live hlive).trans (lfReturn_due hr hdue hback hseg))
  · exact ends_of_run rfl h0 ((whenLive_live hlive).trans ((lfSeg1_poll hr hkind hon hlegacy hseg hdl hs).1 d hd))
  · exact ends_of_run rfl h0 ((whenLive_live hlive).trans ((lfSeg1_poll hr hkind hon hlegacy hseg hdl hs).2 hd))
  · exact ends_of_run rfl h0 ((whenLive_live hlive).trans (lfNoSync_before hr hkind hseg hrep))
  · exact ends_of_run rfl h0 ((whenLive_live hlive).trans (lfNoSync_reply hr hkind hrep))
  · exact ends_of_run rfl h0 ((whenLive_live hlive).trans ((lfSeg2_in hr hrep hseg).1 d hd))
  · exact ends_of_run rfl h0 ((whenLive_live hlive).trans ((lfSeg2_in hr hrep hseg).2 hd))
  · exact ends_of_run rfl h0 ((whenLive_live hlive).trans ((lfReplyIn_legacy hr hrep hlegacy).1 d hd))
  · exact ends_of_run rfl h0 ((whenLive_live hlive).trans ((lfReplyIn_legacy hr hrep hlegacy).2 hd))
  · exact ends_of_run rfl h0 ((whenLive_live hlive).trans (lfUid_in hr hrep hkind hid h1 hl))
  · exact ends_of_run rfl h0 ((whenLive_live hlive).trans ((lfConfirm_in hr hrep hkind hcheck h1).trans (if_pos hok)))
  · exact ends_of_run rfl h0 ((whenLive_live hlive).trans ((lfConfirm_in hr hrep hkind hcheck h1).trans
      (if_neg (Bool.eq_false_iff.1 hbad))))
  · subst h1 h2
    refine ends_of_run rfl h0 ?_
    simp only [State.lfOver15, hr]
    exact lfAbort_overcurrent s0 r.ex.chan
  · subst hreq
    have hserve : s0.serve who (rowReq 3 0x330B 0 [BitVec.ofNat 8 ch]) =
        (none, ({ s0 with lf.diag := some (who, ch) } : State).limAdd 3 ch (ms 1) false) :=
      (serve_exec hadm).trans (lfDiag_free hch hhas hrun hq hdiag hquench)
    have hask := (ask_runsOn hadm hserve).trans h1
    obtain ⟨hlf, hgate⟩ := runsOn_lf_gate (({ s0 with lf.diag := some (who, ch) } : State).limAdd 3 ch (ms 1) false) who
      (rowReq 3 0x330B 0 [BitVec.ofNat 8 ch])
    rw [h1] at hlf hgate
    have hdiag1 : s1.lf.diag = some (who, ch) := by rw [hlf]; rfl
    have hquench1 : s1.gate.quench = false := by rw [hgate]; exact hquench
    refine ends_of_run rfl h0 ?_
    simp only [State.lfDiagRow, hdiag, Option.isNone_none, if_true, hask, hdiag1, Option.isNone_some, Bool.false_eq_true, if_false]
    exact lfDiagDone_sound (s := { s1 with now := s1.now + ms 1 }) hdiag1 hquench1 hpeak hvlf hphase
  · exact ends_of_run rfl h0 (if_neg (Nat.not_le.2 hvlf))

end Sys2Proof.Machine
end

section
/-! The NFC readers (R408 to R420). -/
namespace Sys2Proof.Machine

/-- A step of the reader's ping while CORE runs out of reset. -/
theorem pingStep_running {s : State} {p : Nat} {f : State → State} (hvaon : s.pwr.vaon = true) (hshut : s.pwr.shut = false)
    (hcore : s.pwr.core = true) (hheld : s.pwr.held = false) : s.pingStep p f = f s := by
  rw [State.pingStep, whenAon_up hvaon hshut]
  exact if_pos (by simp [hcore, hheld])

section
variable {s s1 : State} {p ext : Nat} {amp phase : Int} {x : NfcPort} (hx : s.nfcPort p = x) (hon : s.nfcOn p = true)
  (hact : x.act = none) (hnext : x.next = none) (hdue : x.pingAt + ms (s.g 0x3501 0) ≤ s.now) (h1 : s.boundary .bNextPing = s1)
include hx hon hact hnext hdue h1

/-- A ping that finds an external field (R410, R419). -/
theorem nfcPing_field (hext : s1.g 0x350D 0 < ext) :
    s.nfcPing p ext amp phase = (s1.modNfc p fun y => { y with st := if x.st = 5 then 5 else 4, pingAt := s1.now }).bump 0x3511 5 := by
  have hgo : (!s.nfcOn p || x.act.isSome || x.next.isSome || (x.pingAt ≠ 0 && s.now < x.pingAt + ms (s.g 0x3501 0)) : Bool) = false := by
    simp [hon, hact, hnext, Nat.not_lt.2 hdue]
  simp only [State.nfcPing, hx, hgo, h1, hext, Bool.false_eq_true, if_false, if_true]

/-- The first ping sets the reference (R411, R412). -/
theorem nfcPing_first {s2 : State} (hext : ext ≤ s1.g 0x350D 0) (h2 : (s1.bump 0x3511 1).limAdd 4 p (us 20) false = s2)
    (href : (s2.nfcPort p).ref = none) :
    s.nfcPing p ext amp phase = s2.modNfc p fun y =>
      { y with st := if x.st = 5 then 5 else 1, pingAt := s1.now, lastA := amp, lastP := phase,
               ref := some ((amp : Rat), (phase : Rat)) } := by
  have hgo : (!s.nfcOn p || x.act.isSome || x.next.isSome || (x.pingAt ≠ 0 && s.now < x.pingAt + ms (s.g 0x3501 0)) : Bool) = false := by
    simp [hon, hact, hnext, Nat.not_lt.2 hdue]
  simp only [State.nfcPing, hx, hgo, h1, Nat.not_lt.2 hext, Bool.false_eq_true, if_false, h2, href]

end

/-- The carrier of an activation that is due goes on where no fault, field, supply or current speaks against it (R410, R413, R414). -/
theorem nfcStart_due {s s1 : State} {p at_ ext vnfc cur : Nat} {phase : Int} {reserve : Bool}
    (hnext : (s.nfcPort p).next = some (at_, reserve)) (hat : at_ ≤ s.now) (hon : s.nfcOn p = true) (hdec : s.deciding = true)
    (hclk : s.clocksOk = true) (hdraw : s.drawOk = true) (h1 : (s.boundary .bNextCarrier).boundary .bNextActivation = s1)
    (hfault : clrBit (s1.nfcFaults p) 2 = 0) (hext : ext ≤ s1.g 0x350D 0) (hvnfc : 2900 ≤ vnfc) (hphase : phase.natAbs ≤ 30)
    (hcur : (if reserve then 250 else s1.g 0x3504 (p + 1)) ≤ cur * 10) :
    s.nfcStart p reserve ext vnfc cur phase =
      ((((s1.modNfc p fun x => { x with next := none, out := none }).modNfc p fun x =>
            { x with st := 2,
                     act := some { phase := .guard, start := s1.now,
                                   due := s1.now + us (s1.g (if reserve then 0x3508 else 0x3507) 0), wupa := 0, wupb := 0, trig := none,
                                   reserve := reserve, req := 0 < (s1.nfcPort p).cards && !reserve, typeB := false, rate := 0,
                                   await := none, lastAt := s1.now, xfer := 0, capdu := [] },
                     cards := if reserve then x.cards else x.cards + 1 }).limAdd 4 p (ms (s1.g 0x3509 0)) false).bump 0x3511
              (if reserve then 6 else 4)) := by
  have hgo : (s.now < at_ || reserve ≠ reserve || !s.nfcOn p || !s.deciding || !s.clocksOk || !s.drawOk : Bool) = false := by
    simp [Nat.not_lt.2 hat, hon, hdec, hclk, hdraw]
  simp only [State.nfcStart, hnext, hgo, Bool.false_eq_true, if_false, h1]
  simp only [hfault, Nat.not_lt.2 hext, Nat.not_lt.2 hvnfc, Nat.not_lt.2 hphase, Nat.not_lt.2 hcur, ne_eq, not_true_eq_false, if_false]

section
variable {s : State} {p : Nat} {a : NfcAct} (ha : (s.nfcPort p).act = some a)
include ha

/-- The first WUPA leaves when the guard time is over (R413). -/
theorem nfcWup_first (hdue : a.due ≤ s.now) (hphase : a.phase = .guard) (hta : bit (s.g 0x3505 0) 0 = true) (hwupa : a.wupa = 0) :
    s.nfcWup p = s.modAct p fun b =>
      { b with phase := .wake, wupa := b.wupa + 1, trig := some (a.trig.getD s.now), due := s.now + ms 1 } := by
  simp [State.nfcWup, ha, Nat.not_lt.2 hdue, hphase, hta, hwupa]

theorem nfcCard_atqA (hphase : a.phase = .wake) (d : Bytes) :
    s.nfcCard p .atqA d = (s.modNfc p fun x => { x with falses := 0 }).modAct p fun a => { a with phase := .select, typeB := false } := by
  simp only [State.nfcCard, ha, hphase, if_true]

theorem nfcCard_pps (hphase : a.phase = .pps) (d : Bytes) : s.nfcCard p .pps d = s.nfcSelect p := by
  simp only [State.nfcCard, ha, hphase, if_true]

/-- A card that does not know the application ends the activation (R413). -/
theorem nfcCard_refused (hphase : a.phase = .app) : s.nfcCard p .app [0x6A, 0x82] = s.nfcEnd p := by
  simp [State.nfcCard, ha, hphase]

/-- A response is looked at while it is awaited; an empty one asks for the next message, and a refusal ends the activation (R168, R415). -/
theorem nfcRapdu_await (hphase : a.phase = .exchange) (hawait : a.await.isSome = true) (hxfer : a.xfer = 0) :
    s.nfcRapdu p [0x90, 0x00] = (s.modAct p fun a => { a with await := none }).nfcSend p ∧
    s.nfcRapdu p [0x69, 0x85] = s.nfcEnd p := by
  have hsome : a.await ≠ none := fun h => by rw [h] at hawait; cases hawait
  constructor <;> simp [State.nfcRapdu, ha, hphase, hsome, hxfer]

theorem nfcLost_timeout {w : Nat} (hw : a.await = some w) (hdue : w + ms 1000 < s.now) : s.nfcLost p false = s.nfcEnd p := by
  simp [State.nfcLost, ha, hw, hdue]

theorem nfcLost_failed : s.nfcLost p true = s.nfcEnd p := by
  simp only [State.nfcLost, ha, Bool.true_or, if_true]

theorem nfcMax_over (hdue : a.start + ms (s.g 0x3509 0) ≤ s.now) : s.nfcMax p = s.nfcEnd p := by
  simp only [State.nfcMax, ha, hdue, if_true]

/-- The idle end with nothing waiting: another activation follows while cards may be left (R416, R417). -/
theorem nfcIdle_over (hphase : a.phase = .exchange) (hawait : a.await = none) (hdue : a.lastAt + ms (s.g 0x350A 0) ≤ s.now)
    (htx : ∀ m ∈ s.acc.tx, m.1 ≠ Carrier.nfc p) :
    s.nfcIdle p = (s.nfcEnd p).modNfc p fun x =>
      { x with next := if x.cards < s.g 0x350B 0 then some (s.now + ms 5, false) else none } := by
  have hany : (s.acc.tx.any fun m => m.1 = Carrier.nfc p) = false := by simpa using htx
  simp only [State.nfcIdle, ha, hphase, hawait, hdue, hany, Option.isNone_none, decide_true, Bool.not_false, Bool.and_self, if_true]

end

/-- An overcurrent is latched and logged and ends the activation (R419). -/
theorem nfcCut_on {s : State} {p : Nat} (hon : s.nfcOn p = true) :
    let s1 := s.put 0x3512 (p + 1) (setBit (s.nfcFaults p) 1)
    s.nfcCut p = (((s1.logEv 0x0F 0x06 0xA1 [0x01, BitVec.ofNat 8 p, BitVec.ofNat 8 (s1.nfcFaults p)]).nfcEnd p).modNfc p fun x =>
      { x with st := 5, next := none, out := some (Rc.notReady, Dt.nfcFault) }) := by
  simp only [State.nfcCut, hon, if_true, State.nfcFault]
  exact if_neg (by decide)

/-- Settles O39, event by event. -/
theorem nfcReaderCommandsComplete : Obligations.NfcReaderCommandsComplete := by
  unfold Obligations.NfcReaderCommandsComplete
  intro t s s0 p h0
  refine ⟨fun x ext amp phase s1 hvaon hcore hheld hshut hx hon hact hnext hdue h1 => ⟨fun hext => ?_, fun hext s2 h2 href => ?_⟩,
    fun hlive => ⟨fun at_ ext vnfc cur phase reserve s1 hnext hat hon hdec hclk hdraw h1 hfault hext hvnfc hphase hcur u hu => ?_,
      fun a ha => ⟨fun hdue hphase hta hwupa => ?_, fun d hphase => ?_, fun d hphase => ?_, fun hphase => ?_,
        fun hphase hawait hxfer => ⟨?_, ?_⟩, fun w hw hdue => ?_, ?_, fun hdue => ?_, fun hphase hawait hdue htx => ?_⟩⟩,
    fun s1 s2 h1 h2 hon => ?_, fun r hp hhas => answers_exec rfl h0 ?_, fun vnfc hv => ends_of_run rfl h0 (if_neg (Nat.not_le.2 hv))⟩
  · exact ends_of_run rfl h0 ((pingStep_running hvaon hshut hcore hheld).trans (nfcPing_field hx hon hact hnext hdue h1 hext))
  · exact ends_of_run rfl h0 ((pingStep_running hvaon hshut hcore hheld).trans (nfcPing_first hx hon hact hnext hdue h1 hext h2 href))
  · have hstart := (nfcStart_due hnext hat hon hdec hclk hdraw h1 hfault hext hvnfc hphase hcur).trans hu
    refine ⟨fun hres hcards => ?_, fun hres hcards => ?_, fun hres => ?_⟩ <;> subst hres <;>
      refine ends_of_run rfl h0 ((whenLive_live hlive).trans ?_)
    · exact (if_pos hcards).trans hstart
    · exact (if_neg hcards).trans hstart
    · exact hstart
  · exact ends_of_run rfl h0 ((whenLive_live hlive).trans (nfcWup_first ha hdue hphase hta hwupa))
  · exact ends_of_run rfl h0 ((whenLive_live hlive).trans (nfcCard_atqA ha hphase d))
  · exact ends_of_run rfl h0 ((whenLive_live hlive).trans (nfcCard_pps ha hphase d))
  · exact ends_of_run rfl h0 ((whenLive_live hlive).trans (nfcCard_refused ha hphase))
  · exact ends_of_run rfl h0 ((whenLive_live hlive).trans (nfcRapdu_await ha hphase hawait hxfer).1)
  · exact ends_of_run rfl h0 ((whenLive_live hlive).trans (nfcRapdu_await ha hphase hawait hxfer).2)
  · exact ends_of_run rfl h0 ((whenLive_live hlive).trans (nfcLost_timeout ha hw hdue))
  · exact ends_of_run rfl h0 ((whenLive_live hlive).trans (nfcLost_failed ha))
  · exact ends_of_run rfl h0 ((whenLive_live hlive).trans (nfcMax_over ha hdue))
  · exact ends_of_run rfl h0 ((whenLive_live hlive).trans (nfcIdle_over ha hphase hawait hdue htx))
  · subst h1 h2
    exact ends_of_run rfl h0 (nfcCut_on hon)
  · have hoct : byteAt 0 [BitVec.ofNat 8 p] = p := toNat_ofNat8 (by omega)
    show (some (s0.nfcClear [BitVec.ofNat 8 p]).1, (s0.nfcClear [BitVec.ofNat 8 p]).2) = _
    simp [State.nfcClear, hoct, Nat.not_le.2 hp, hhas]

end Sys2Proof.Machine
end

section
/-! The Hallmark tag in a reader's field (R421 to R437). -/
namespace Sys2Proof.Machine

/-! ### The field comes and goes -/

theorem fieldUp_off {s : State} (hhas : s.has 9 = true) (hst : s.tag.st = .off) :
    s.fieldUp false = { s with tag.st := .recovering } := by
  simp [State.fieldUp, hhas, hst]

theorem fieldUp_field {s : State} (hhas : s.has 9 = true) (hiso : s.tagIsolated = false) :
    s.fieldUp true = { s with tag.st := if s.tag.st = .off then .recovering else s.tag.st, tag.field := true } := by
  simp [State.fieldUp, hhas, hiso]

/-- The field's loss with no write under way (R422, R436). -/
theorem fieldLoss_quiet {s : State} {step : Nat} (hfield : s.tag.field = true) (hwr : s.tag.wr = none) :
    s.fieldLoss step =
      { s.tagEndTxn with
        tag.field := false, tag.fromHalt := false,
        tag.st := if !s.pwr.vaon then .off else if s.tag.st = .recovering then .recovering else .idle } := by
  simp only [State.fieldLoss, hfield, hwr, Bool.not_true, Bool.false_eq_true, if_false]

/-- Tear recovery (R434, R435). -/
theorem tearEnd_recovering {s s1 : State} (hst : s.tag.st = .recovering)
    (h1 : (({ s with
          tag.ents := s.tag.ents.map fun e =>
            if e.torn then { e with fa := e.inForce.forFlag e.no, fb := e.inForce.forFlag e.no } else e,
          tag.st := .idle, tag.wr := none, tag.stage := none, tag.staged := false } : State).bumpBy 0x3640 4
            (s.tag.ents.filter TagEnt.torn).length) = s1) :
    (s.tag.stage = none → s.tearEnd = s1) ∧
    (∀ (r : Nat) (d : Bytes), s.tag.stage = some (r, d, true) →
      s.tearEnd = (s1.setTagEnt r ((s1.tagEnt r).finish d)).bump 0x3640 3) := by
  subst h1
  constructor
  · intro hstage
    simp only [State.tearEnd, hst, hstage, ne_eq, not_true_eq_false, if_false]
  · intro r d hstage
    simp only [State.tearEnd, hst, hstage, ne_eq, not_true_eq_false, if_false]

/-! ### ISO/IEC 14443-3 -/

section
variable {s : State} (hhears : s.tagHears = true)
include hhears

theorem tagWake_idle (hst : s.tag.st = .idle) (wupa : Bool) :
    s.tagWake wupa = { s with tag.st := .ready, tag.fromHalt := false, tag.casc := 0, tag.reply := [0x44, 0x00] } := by
  simp only [State.tagWake, hhears, hst, Bool.not_true, Bool.false_eq_true, if_false]

theorem tagWake_halt (hst : s.tag.st = .halt) (wupa : Bool) :
    s.tagWake wupa =
      if wupa then { s with tag.st := .ready, tag.fromHalt := true, tag.casc := 0, tag.reply := [0x44, 0x00] } else s := by
  simp only [State.tagWake, hhears, hst, Bool.not_true, Bool.false_eq_true, if_false]

/-- A SELECT of this tag's UID at the cascade level that is next (R422, R423). -/
theorem tagAnticoll_select {level : Nat} (hst : s.tag.st = .ready) (hcasc : level = s.tag.casc + 1) (hlevel : level ≤ 2) :
    s.tagAnticoll level true (s.uidCl level) =
      if level = 1 then { s with tag.casc := 1, tag.reply := [0x04] } else { s with tag.casc := 2, tag.st := .active, tag.reply := [0x20] } := by
  have hnext : (level ≠ s.tag.casc + 1 || 2 < level : Bool) = false := by simp [← hcasc, hlevel]
  simp only [State.tagAnticoll, hhears, hst, hnext, List.take_length, ne_eq, not_true_eq_false, decide_false, Bool.not_true,
    Bool.or_self, Bool.and_false, Bool.false_eq_true, if_false]

/-- An anticollision frame with no octet of the UID is answered with the whole level (R423). -/
theorem tagAnticoll_first (hst : s.tag.st = .ready) (hcasc : s.tag.casc = 0) :
    s.tagAnticoll 1 false [] = { s with tag.reply := s.uidCl 1 } := by
  simp [State.tagAnticoll, hhears, hst, hcasc, State.tagReply]

theorem tagRats_active (hst : s.tag.st = .active) (htxn : s.tag.txn = false) :
    s.tagRats = (({ s with tag.txn := true, tag.reply := [0x05, 0x78, 0x00, 0x40, 0x00] } : State).bump 0x3640 1) :=
  if_pos (by simp [hhears, hst, htxn])

theorem tagHlta_active (hst : s.tag.st = .active) : s.tagHlta = { s.tagEndTxn with tag.st := .halt } := by
  simp only [State.tagHlta, hhears, hst, Bool.not_true, Bool.false_eq_true, if_false]

theorem tagPps_slow (htxn : s.tag.txn = true) : s.tagPps 0 = { s with tag.reply := [0xD0] } :=
  if_pos (by simp [hhears, htxn])

theorem tagDeselect_open (hst : s.tag.st = .active) (htxn : s.tag.txn = true) :
    s.tagDeselect = { s.tagEndTxn with tag.st := .halt, tag.reply := [0xC2] } :=
  if_pos (by simp [hhears, hst, htxn])

/-- The tag takes an APDU of an open transaction while no write is under way. -/
theorem tagApdu_open (hst : s.tag.st = .active) (htxn : s.tag.txn = true) (hwr : s.tag.wr = none) : s.tagApdu = true := by
  simp [State.tagApdu, hhears, hst, htxn, hwr]

end

/-! ### The NDEF application -/

section
variable {s : State} (hapdu : s.tagApdu = true)
include hapdu

theorem tagSelectApp_ndef : s.tagSelectApp [0xD2, 0x76, 0x00, 0x00, 0x85, 0x01, 0x01] =
    { s with tag.app := 1, tag.file := 0, tag.sess := none, tag.auth := none, tag.reply := [0x90, 0x00] } := by
  simp only [State.tagSelectApp, hapdu, Bool.not_true, Bool.false_eq_true, if_false, if_true]

theorem tagSelectApp_hallmark : s.tagSelectApp [0xF0, 0x5A, 0x51, 0x48, 0x4D, 0x01] =
    { s with tag.app := 2, tag.file := 0, tag.sess := none, tag.auth := none, tag.reply := [0x90, 0x00] } := by
  have hother : ([0xF0, 0x5A, 0x51, 0x48, 0x4D, 0x01] : Bytes) ≠ [0xD2, 0x76, 0x00, 0x00, 0x85, 0x01, 0x01] := by decide
  simp only [State.tagSelectApp, hapdu, hother, Bool.not_true, Bool.false_eq_true, if_false, if_true]

section
variable (happ : s.tag.app = 1)
include happ

theorem tagSelectFile_cc : s.tagSelectFile 0xE103 = { s with tag.file := 1, tag.reply := [0x90, 0x00] } := by
  simp [State.tagSelectFile, hapdu, happ]

theorem tagSelectFile_ndef : s.tagSelectFile 0xE104 = { s with tag.file := 2, tag.reply := [0x90, 0x00] } := by
  simp [State.tagSelectFile, hapdu, happ]

/-- A read within the NDEF file (R425). -/
theorem tagReadBinary_ndef (hfile : s.tag.file = 2) {off le : Nat} (hoff : off < 2048) :
    s.tagReadBinary off le = { s with tag.reply := slice off (min le 255) s.ndefFile ++ [0x90, 0x00] } := by
  have hlen : s.ndefFile.length = 2048 := by
    simp only [State.ndefFile, fit, zeros, List.length_take, List.length_append, List.length_replicate]
    omega
  simp [State.tagReadBinary, hapdu, happ, hfile, hlen, Nat.not_le.2 hoff, State.tagReply]

theorem tagUpdateBinary_refused : s.tagUpdateBinary = { s with tag.reply := [0x69, 0x82] } := by
  simp [State.tagUpdateBinary, hapdu, happ, State.tagReply]

end

/-! ### The Hallmark application -/

variable (happ : s.tag.app = 2)
include happ

theorem hallmark_selected : s.hallmark = true := by
  simp [State.hallmark, hapdu, happ]

theorem tagGetInfo_selected :
    s.tagGetInfo = { s with tag.reply := s.fuse.uid ++ [0x01, 24, if s.pwr.vaon then 1 else 0] ++ s.tag.serial ++ [0x90, 0x00] } := by
  simp [State.tagGetInfo, hallmark_selected hapdu happ, State.tagReply]

theorem tagGetRecordInfo_selected {r : Nat} (hr : r < 24) :
    s.tagGetRecordInfo r =
      { s with tag.reply := toLe 2 (s.tagEnt r).inForce.len ++ toLe 3 (s.tagEnt r).inForce.seq ++
          [BitVec.ofNat 8 (s.tagEnt r).inForce.acl, 0x90, 0x00] } := by
  have hrec : ¬ 23 < r := by omega
  simp [State.tagGetRecordInfo, hallmark_selected hapdu happ, hrec, State.tagReply]

section
variable {n : Nat} {k : Bytes} (hn : n ≤ 3) (hk : s.tag.keys.getD n none = some k)
include hn hk

/-- AUTH_BEGIN raises the count and answers RndT (R427, R430). -/
theorem tagAuthBegin_open (hfails : s.tag.fails.getD n 0 < 16) :
    s.tagAuthBegin n =
      { s with tag.count := s.tag.count + 1, tag.auth := some (n, aesEnc s.fuse.tagKey (toBe 16 (s.tag.count + 1))),
               tag.reply := aesEnc s.fuse.tagKey (toBe 16 (s.tag.count + 1)) ++ [0x90, 0x00] } := by
  simp only [State.tagAuthBegin, hallmark_selected hapdu happ, Nat.not_lt.2 hn, hk, Nat.not_le.2 hfails, Option.isNone_some,
    Bool.not_true, Bool.false_eq_true, if_false]

/-- AUTH_FINISH of the key that AUTH_BEGIN named: its MAC decides (R427, R430). -/
theorem tagAuthFinish_begun {rT rR m : Bytes} (hauth : s.tag.auth = some (n, rT)) (hr : rR.length = 16) (hm : m.length = 8) :
    s.tagAuthFinish n (rR ++ m) =
      if cmac64 k ([0x01] ++ rT ++ rR) = m then
        { s with tag.fails := putAt s.tag.fails n 0, tag.auth := none,
                 tag.sess := some ⟨n, kdf k (ascii "HM-SESS") (rT ++ rR ++ s.fuse.uid) 16, 0⟩,
                 tag.reply := cmac64 k ([0x02] ++ rR ++ rT) ++ [0x90, 0x00] }
      else
        { s with tag.fails := modAt s.tag.fails n (fun c => min 255 (c + 1)), tag.auth := none, tag.reply := [0x63, 0x00] } := by
  have hlen : (rR ++ m).length = 24 := by rw [List.length_append, hr, hm]
  have htake : (rR ++ m).take 16 = rR := List.take_left' hr
  have hdrop : (rR ++ m).drop 16 = m := List.drop_left' hr
  simp only [State.tagAuthFinish, hallmark_selected hapdu happ, Nat.not_lt.2 hn, hlen, hk, hauth, htake, hdrop, ne_eq,
    not_true_eq_false, Bool.not_true, Bool.false_eq_true, if_false, decide_true, Bool.true_and, decide_eq_true_eq]

end

section
variable {r : Nat} (hr : r < 24) (hsess : s.tag.sess = none) (hwr : s.tag.wr = none)
include hr hsess hwr

/-- A free record is read without a session (R426, R429). -/
theorem tagRecordCmd_read (hacl : (s.tagEnt r).inForce.acl / 16 = 0) :
    s.tagRecordCmd false r [] = { s with tag.reply := (s.tagEnt r).data ++ [0x90, 0x00] } := by
  have hrec : ¬ 23 < r := by omega
  simp [State.tagRecordCmd, hallmark_selected hapdu happ, hrec, hwr, State.tagDoRead, hsess, State.aclAllows, hacl, State.tagReply]

/-- A write of a free record starts (R426, R429, R433). -/
theorem tagRecordCmd_write (hacl : (s.tagEnt r).inForce.acl % 16 = 0) {d : Bytes} (hd : d.length ≤ 256) :
    s.tagRecordCmd true r d =
      { s with tag.wr := some ⟨none, r, d.length, (s.tagEnt r).inForce.acl, d, false, [0x90, 0x00]⟩, tag.reply := [] } := by
  have hrec : ¬ 23 < r := by omega
  simp [State.tagRecordCmd, hallmark_selected hapdu happ, hrec, hwr, State.tagDoWrite, hsess, State.aclAllows, hacl, Nat.not_lt.2 hd,
    State.tagStartWrite]

end

theorem tagBadApdu_unknownIns : s.tagBadApdu 0x80 0x63 0 = { s with tag.reply := [0x6D, 0x00] } := by
  simp [State.tagBadApdu, hapdu, happ, State.tagReply]

end

/-- Settles O40, command by command. -/
theorem tagFieldCommandsComplete : Obligations.TagFieldCommandsComplete := by
  unfold Obligations.TagFieldCommandsComplete
  intro t s s0 h0
  refine ⟨fun hhas => ⟨fun hst => ⟨?_, fun hiso => ?_⟩, fun hst hiso => ?_⟩, fun hst s1 h1 => ⟨fun hstage => ?_, fun r d hstage => ?_⟩,
    fun step hfield hwr => ends_of_run rfl h0 (fieldLoss_quiet hfield hwr),
    fun hh => ⟨fun hst => ⟨?_, ?_⟩, fun hst => ⟨?_, ?_⟩, fun hst => ⟨fun hc _ => ?_, fun hc _ => ?_, fun hc => ?_⟩,
      fun hst => ⟨fun htxn => ?_, ?_, fun htxn => ⟨?_, ?_, fun hwr => ?_⟩⟩⟩, fun w hw hhost => ?_⟩
  · exact ends_of_run rfl h0 (fieldUp_off hhas hst)
  · refine ends_of_run rfl h0 ((fieldUp_field hhas hiso).trans ?_)
    rw [if_pos hst]
  · refine ends_of_run rfl h0 ((fieldUp_field hhas hiso).trans ?_)
    rw [if_neg hst]
  · exact ends_of_run rfl h0 ((tearEnd_recovering hst h1).1 hstage)
  · exact ends_of_run rfl h0 ((tearEnd_recovering hst h1).2 r d hstage)
  · exact ends_of_run rfl h0 (tagWake_idle hh hst false)
  · exact ends_of_run rfl h0 (tagWake_idle hh hst true)
  · exact ends_of_run rfl h0 (tagWake_halt hh hst false)
  · exact ends_of_run rfl h0 (tagWake_halt hh hst true)
  · exact ends_of_run rfl h0 (tagAnticoll_select hh hst (by rw [hc]) (by decide))
  · exact ends_of_run rfl h0 (tagAnticoll_select hh hst (by rw [hc]) (by decide))
  · exact ends_of_run rfl h0 (tagAnticoll_first hh hst hc)
  · exact ends_of_run rfl h0 (tagRats_active hh hst htxn)
  · exact ends_of_run rfl h0 (tagHlta_active hh hst)
  · exact ends_of_run rfl h0 (tagPps_slow hh htxn)
  · exact ends_of_run rfl h0 (tagDeselect_open hh hst htxn)
  · have ha := tagApdu_open hh hst htxn hwr
    refine ⟨ends_of_run rfl h0 (tagSelectApp_ndef ha), ends_of_run rfl h0 (tagSelectApp_hallmark ha), fun happ => ⟨?_, ?_,
      fun hfile off le hoff => ?_, ?_⟩, fun happ => ⟨?_, fun r hr => ?_, fun n k hn hk => ⟨fun hfails => ?_, fun rT rR hauth hr =>
        ⟨fun m hm hmac => ?_, fun m hm hmac => ?_⟩⟩, fun r hr hsess => ⟨fun hacl => ?_, fun hacl d hd => ?_⟩, ?_⟩⟩
    · exact ends_of_run rfl h0 (tagSelectFile_cc ha happ)
    · exact ends_of_run rfl h0 (tagSelectFile_ndef ha happ)
    · exact ends_of_run rfl h0 (tagReadBinary_ndef ha happ hfile hoff)
    · exact ends_of_run rfl h0 (tagUpdateBinary_refused ha happ)
    · exact ends_of_run rfl h0 (tagGetInfo_selected ha happ)
    · exact ends_of_run rfl h0 (tagGetRecordInfo_selected ha happ hr)
    · exact ends_of_run rfl h0 (tagAuthBegin_open ha happ hn hk hfails)
    · exact ends_of_run rfl h0 ((tagAuthFinish_begun ha happ hn hk hauth hr hm).trans (if_pos hmac))
    · exact ends_of_run rfl h0 ((tagAuthFinish_begun ha happ hn hk hauth hr hm).trans (if_neg hmac))
    · exact ends_of_run rfl h0 (tagRecordCmd_read ha happ hr hsess hwr hacl)
    · exact ends_of_run rfl h0 (tagRecordCmd_write ha happ hr hsess hwr hacl hd)
    · exact ends_of_run rfl h0 (tagBadApdu_unknownIns ha happ)
  · refine ends_of_run rfl h0 ?_
    simp only [State.tagWriteRow, State.tagWriteDone, hw, hhost]

end Sys2Proof.Machine
end

section
/-! The Hallmark tag from the host (R430 to R442, R496). -/
namespace Sys2Proof.Machine

/-- A 16-bit value at the front of an argument. -/
theorem leAt_toLe_two {v : Nat} (l : Bytes) (h : v < 65536) : leAt 0 2 (toLe 2 v ++ l) = v :=
  leAt_toLe_append l (by simpa using h)

/-- TagRecWrite stages its record (R435). -/
theorem tagCmd_recWrite {s : State} {r : Requester} {n : Nat} {d : Bytes} (hn : n < 24) (hd : d.length ≤ 256) :
    s.tagCmd r 0x3612 (BitVec.ofNat 8 n :: toLe 2 d.length ++ d) =
      (none, { s with tag.stage := some (n, d, true),
                      tag.wr := some ⟨some r, n, d.length, (s.tagEnt n).inForce.acl, d, false, []⟩ }) := by
  have hrec : byteAt 0 (BitVec.ofNat 8 n :: toLe 2 d.length ++ d) = n := toNat_ofNat8 (by omega)
  have hlen : leAt 1 2 (BitVec.ofNat 8 n :: toLe 2 d.length ++ d) = d.length := leAt_toLe_two d (by omega)
  have hdata : (BitVec.ofNat 8 n :: toLe 2 d.length ++ d).drop 3 = d := drop_toLe_append 2 d.length d
  have hok : (24 ≤ n || 256 < d.length : Bool) = false := by
    simp only [Bool.or_eq_false_iff, decide_eq_false_iff_not]
    omega
  simp only [State.tagCmd, if_true, hrec, hlen, hdata, hok, Bool.false_eq_true, if_false, State.tagHostWrite]

/-- TagNdefStage puts octets into the shadow of the NDEF body (R439). -/
theorem tagCmd_ndefStage {s : State} {r : Requester} {off : Nat} {d : Bytes} (hfit : off + d.length ≤ 2048) :
    s.tagCmd r 0x3621 (toLe 2 off ++ d) = (some ⟨0, 0, []⟩, s.ndefStage off d) := by
  have hoff : leAt 0 2 (toLe 2 off ++ d) = off := leAt_toLe_two d (by omega)
  have hlen : (toLe 2 off ++ d).length - 2 = d.length := by simp
  have hok : ¬ 2048 < leAt 0 2 (toLe 2 off ++ d) + ((toLe 2 off ++ d).length - 2) := by omega
  refine (if_neg (by decide)).trans ((if_pos rfl).trans ((if_neg hok).trans ?_))
  rw [hoff, drop_toLe_append]

/-- TagNdefCommit of a staged shadow starts its steps (R439). -/
theorem tagCmd_ndefCommit {s : State} {r : Requester} {nlen : Nat} (hfit : nlen + 2 ≤ 2048) (hstaged : s.tag.staged = true) :
    s.tagCmd r 0x3622 (toLe 2 nlen) = (none, s.ndefCommit r nlen) := by
  have hnlen : leAt 0 2 (toLe 2 nlen) = nlen := leAt_toLe (by omega)
  have hok : ¬ 2048 < leAt 0 2 (toLe 2 nlen) + 2 := by omega
  refine (if_neg (by decide)).trans ((if_neg (by decide)).trans ((if_pos rfl).trans ((if_neg hok).trans ?_)))
  rw [hstaged, hnlen]
  rfl

/-- TagKeyUnblock clears the failures of its key (R430). -/
theorem tagCmd_keyUnblock {s : State} {r : Requester} {k : Nat} (hk : k < 4) :
    s.tagCmd r 0x3632 [BitVec.ofNat 8 k] = (some ⟨0, 0, []⟩, { s with tag.fails := putAt s.tag.fails k 0 }) := by
  have hkey : byteAt 0 [BitVec.ofNat 8 k] = k := toNat_ofNat8 (by omega)
  have hok : ¬ 4 ≤ byteAt 0 [BitVec.ofNat 8 k] := by omega
  refine (if_neg (by decide)).trans ((if_neg (by decide)).trans ((if_neg (by decide)).trans ((if_neg hok).trans ?_)))
  rw [hkey]

/-- A TAG blob that unwraps to its own form replaces the tag key (R496). -/
theorem tagKeyWrite_good {s : State} {k : Nat} {b p : Bytes} (hform : blobForm b 0xFFFF = none)
    (hkek : s.kekCheck 4 (leAt 2 2 b) = none) (hp : kwUnwrap ((s.slotKey (leAt 2 2 b)).getD []) (b.drop 8) = some p)
    (hslot : leAt 4 2 p = 0xFFFF) (hkind : bits (leAt 0 4 p) 20 4 = 0xA) (hlen : bits (leAt 0 4 p) 14 2 = 0) :
    s.tagKeyWrite k b = (⟨0, 0, []⟩, { s with tag.keys := putAt s.tag.keys k (some (p.drop 8)) }) := by
  simp [State.tagKeyWrite, hform, hkek, hp, hslot, hkind, hlen]

/-- Settles O41, command by command. -/
theorem tagHostCommandsComplete : Obligations.TagHostCommandsComplete := by
  unfold Obligations.TagHostCommandsComplete
  intro t s s0 r h0
  refine ⟨fun n d hn hd => starts_exec rfl h0 (tagCmd_recWrite hn hd), fun acl hacl => starts_write rfl h0 (by decide) ?_,
    fun off d hfit => answers_exec rfl h0 (tagCmd_ndefStage (r := r) hfit), fun nlen hfit hstaged => starts_exec rfl h0 (tagCmd_ndefCommit hfit hstaged),
    fun k hk => answers_exec rfl h0 (tagCmd_keyUnblock (r := r) hk),
    fun k b p hk hform hkek hp hslot hkind hlen => answers_write rfl h0 (by decide) ?_, fun w who hw hhost hdefer => ?_⟩
  · have hval : leNat [BitVec.ofNat 8 acl] = acl := by simp [leNat, toNat_ofNat8 hacl]
    show (none, s0.tagAclWrite r (s0.g 0x3610 0) (leNat [BitVec.ofNat 8 acl])) = _
    rw [hval]
    rfl
  · show (some (s0.tagKeyWrite (k + 1 - 1) b).1, (s0.tagKeyWrite (k + 1 - 1) b).2) = _
    rw [Nat.add_sub_cancel, tagKeyWrite_good hform hkek hp hslot hkind hlen]
  · refine ends_of_run rfl h0 ?_
    simp only [State.tagWriteRow, State.tagWriteDone, hw, hhost]
    simp [hdefer, State.setTagEnt]

end Sys2Proof.Machine
end

section
/-! The cipher complex (R443 to R479). -/
namespace Sys2Proof.Machine

/-- A descriptor that every check accepts is queued on its page (R459). -/
theorem cxSubmit_queued {s : State} {r : Requester} {d : Bytes} {q : Nat} (hst : s.cxState ≠ 0) (hcheck : s.cxCheck (pageOf r) d = none)
    (hq : ((s.cxPage (pageOf r)).seq + 1) % 65536 = q) :
    s.cxSubmit r d = (⟨0, 0, toLe 2 q⟩,
      ((s.modPage (pageOf r) fun p =>
        { p with reqs := p.reqs ++ [⟨q, d, false, [], [], 0, 0, 0, [], [], false, 0, 0, none, false⟩], seq := q }).cxRun.cxSettle)) := by
  subst hq
  simp only [State.cxSubmit, hst, if_false, hcheck]

/-- The oldest status record of a page is taken (R460). -/
theorem cxTake_oldest {s : State} {r : Requester} {x : Bool × Bytes} {xs : List (Bool × Bytes)}
    (hrecs : (s.cxPage (pageOf r)).recs = x :: xs) :
    s.cxTake r = (⟨0, 0, x.2⟩, (s.modPage (pageOf r) fun p => { p with recs := xs }).cxRun) := by
  simp only [State.cxTake, hrecs]

/-- A block that is due is counted for its request, and what is due of the output is written (R445, R466). -/
theorem cxBlockDone_due {s s1 : State} {c p q : Nat} {k : CxCore} {x : CxReq} (hk : s.cx.cores[c]? = some k) (hcur : k.cur = some (p, q))
    (hdue : k.due ≤ s.now) (hblocks : k.blocks < 32767)
    (h1 : ((({ s with cx.cores := putAt s.cx.cores c { k with cur := none, blocks := k.blocks + 1 } } : State).cxUse
          (if p = 4 then 3 else 4) 1).modReq p q fun r => { r with done := r.done + 1, busy := r.busy - 1 }) = s1)
    (hx : (s1.cxPage p).req q = some x) : s.cxBlockDone c = (s1.cxRelease p x (s1.cxDue p x x.done)).cxRun := by
  have hmask : k.blocks + 1 ≠ 32768 := by omega
  subst h1
  simp only [State.cxBlockDone, hk, hcur, Nat.not_lt.2 hdue, if_false, hmask, hx]

/-- The oldest request of a page, all its blocks done, completes (R460). -/
theorem cxRequestDone_oldest {s : State} {p : Nat} {x : CxReq} {xs : List CxReq} (hreqs : (s.cxPage p).reqs = x :: xs)
    (hovr : x.ovr = true) : s.cxRequestDone p = (s.cxFinish p x).cxSettle := by
  simp only [State.cxRequestDone, hreqs, List.head?_cons, hovr, if_true]

/-- Settles O42, command by command. -/
theorem cipherComplexCommandsComplete : Obligations.CipherComplexCommandsComplete := by
  unfold Obligations.CipherComplexCommandsComplete
  intro t s s0 r h0
  refine ⟨fun d q hst hcheck hq => answers_exec rfl h0 ?_, fun b x xs hrecs => answers_exec rfl h0 ?_,
    fun hlive => ⟨fun c p q k s1 hk hcur hdue hblocks h1 x hx => ?_, fun p x xs hreqs hovr => ?_⟩⟩
  · show (some (s0.cxSubmit r d).1, (s0.cxSubmit r d).2) = _
    rw [cxSubmit_queued hst hcheck hq]
  · show (some (s0.cxTake r).1, (s0.cxTake r).2) = _
    rw [cxTake_oldest hrecs]
  · exact ends_of_run rfl h0 ((whenLive_live hlive).trans (cxBlockDone_due hk hcur hdue hblocks h1 hx))
  · exact ends_of_run rfl h0 ((whenLive_live hlive).trans (cxRequestDone_oldest hreqs hovr))

end Sys2Proof.Machine
end

section
/-! The key store (R485 to R503). -/
namespace Sys2Proof.Machine

/-- A key command on whose slot nothing waits runs at once (R500). -/
theorem keyCmd_free {s : State} {r : Requester} {n h : Nat} {arg : Bytes} (ht : keyTarget n arg = h)
    (hw : ∀ w ∈ s.keys.waits, w.slot ≠ h) (hr : s.rng.waiting = []) : s.keyCmd r n arg = s.keyRun r n arg := by
  have hwaits : (s.keys.waits.any fun w => w.slot = h) = false := by simpa using hw
  simp only [State.keyCmd, ht, hwaits, hr, List.any_nil, Bool.or_self, Bool.false_and, Bool.false_eq_true, if_false]

/-- A zeroize never waits (R491). -/
theorem keyCmd_zeroize {s : State} {r : Requester} {n : Nat} {arg : Bytes} (hn : 0x1525 ≤ n) : s.keyCmd r n arg = s.keyRun r n arg := by
  have hlate : ¬ n ≤ 0x1524 := by omega
  simp only [State.keyCmd, hlate, decide_false, Bool.and_false, Bool.false_eq_true, if_false]

/-- What a change of a slot answers: at once, or once the standby has it (R501). -/
theorem keyDone_alone {s : State} {r : Requester} {h cmd : Nat} {res : Bytes} (hm : (s.logKey h cmd).mirrors h = false) :
    s.keyDone r h cmd res = (some ⟨0, 0, res⟩, s.logKey h cmd) := by
  simp only [State.keyDone, hm, Bool.false_eq_true, if_false]

theorem keyDone_mirrored {s : State} {r : Requester} {h cmd : Nat} {res : Bytes} (hm : (s.logKey h cmd).mirrors h = true) :
    s.keyDone r h cmd res = (none, (s.logKey h cmd).sendKey h (some r) res) := by
  simp only [State.keyDone, hm, if_true]

/-- A blob that unwraps to an ATTR that suits its slot is loaded (R496). -/
theorem keyImport_good {s : State} {r : Requester} {h : Nat} {arg b p : Bytes} (hh : leAt 0 2 arg = h) (hb : arg.drop 2 = b)
    (hslot : h < 128) (hmir : s.mirrorOnly h = false) (hform : blobForm b h = none) (htgt : s.targetCheck r h = none)
    (hkek : s.kekCheck (kekPage r) (leAt 2 2 b) = none) (hp : kwUnwrap ((s.slotKey (leAt 2 2 b)).getD []) (b.drop 8) = some p)
    (hph : leAt 4 2 p = h) (hres : leAt 6 2 p = 0) (hlen : bits (leAt 0 4 p) 14 2 = byteAt 1 b) (hattr : s.attrOk h (leAt 0 4 p) = true)
    (hkind : bits (leAt 0 4 p) 20 4 ≠ 7) (hrole : s.seg.role ≠ .standby) :
    let s1 := (s.loadSlot h (leAt 0 4 p) (p.drop 8)).bump 0x1530 1
    s.keyImport r arg = s1.keyDone r h 0x1520 (toLe 2 (s1.slotVer h)) := by
  have hsuits : (leAt 4 2 p ≠ h || leAt 6 2 p ≠ 0 || bits (leAt 0 4 p) 14 2 ≠ byteAt 1 b || !s.attrOk h (leAt 0 4 p) ||
      (bits (leAt 0 4 p) 20 4 = 7 && !enrolBodyOk (p.drop 8)) : Bool) = false := by
    simp [hph, hres, hlen, hattr, hkind]
  have hhere : (s.seg.role = .standby && alwaysMirror (bits (leAt 0 4 p) 20 4) : Bool) = false := by simp [hrole]
  simp only [State.keyImport, hh, hb, isSlot, hslot, hmir, hform, htgt, hkek, hp, hsuits, hhere, decide_true, Bool.not_true,
    Bool.false_eq_true, if_false]

/-- A slot is filled from the DRBG (R497). -/
theorem keyGenerate_drawn {s : State} {r : Requester} {h : Nat} {arg : Bytes} (hh : leAt 0 2 arg = h) (hlen : arg.length = 6)
    (hcheck : s.genCheck r h (leAt 2 4 arg) = none) (hrng : s.rng.st = .seeded) (hdraw : s.drawOk = true) :
    s.keyGenerate r arg = s.keyFill r h (leAt 2 4 arg) := by
  simp [State.keyGenerate, hh, hlen, hcheck, hrng, hdraw]

/-- A slot takes the octets of the KDF (R498). -/
theorem keyDerive_good {s : State} {r : Requester} {h src attr ll cl : Nat} {arg : Bytes} (hh : leAt 2 2 arg = h)
    (hsrc : leAt 0 2 arg = src) (hattr : leAt 4 4 arg = attr) (hll : byteAt 8 arg = ll) (hcl : byteAt (9 + ll) arg = cl)
    (hlen : arg.length = 10 + ll + cl) (hll0 : 0 < ll) (hll1 : ll ≤ 32) (hcl1 : cl ≤ 64) (hsrc1 : src < 128) (hh1 : h < 128)
    (hmir : s.mirrorOnly h = false) (hst : s.slotSt src = .loaded) (hpage : s.notOwnPage r src = false)
    (howner : s.slotOwner src = s.slotOwner h) (huse : s.slotUse src 3 = true) (hkind : s.slotKind src ≠ 9)
    (htgt : s.targetCheck r h = none) (hnew : bits attr 20 4 = 1 ∨ bits attr 20 4 = 2) (hok : s.attrOk h attr = true) :
    let s1 := (s.loadSlot h attr (kdf ((s.slotKey src).getD []) (slice 9 ll arg) (slice (10 + ll) cl arg) (attrBytes attr))).cxUse
      (keyClass r) ((attrBytes attr + 15) / 16 * 2)
    s.keyDerive r arg = s1.keyDone r h 0x1522 (toLe 2 (s1.slotVer h)) := by
  have hform : (arg.length < 10 || arg.length ≠ 10 + ll + cl : Bool) = false := by
    simp only [hlen, Bool.or_eq_false_iff, decide_eq_false_iff_not]
    omega
  have hrange : (ll = 0 || 32 < ll || 64 < cl || !isSlot src || !isSlot h : Bool) = false := by
    simp only [isSlot, hsrc1, hh1, decide_true, Bool.not_true, Bool.or_false, Bool.or_eq_false_iff, decide_eq_false_iff_not]
    omega
  have hown : (s.notOwnPage r src || s.slotOwner src ≠ s.slotOwner h : Bool) = false := by simp [hpage, howner]
  have hsuse : (!s.slotUse src 3 || s.slotKind src = 9 : Bool) = false := by simp [huse, hkind]
  have hsuits : (!(bits attr 20 4 = 1 || bits attr 20 4 = 2) || !s.attrOk h attr : Bool) = false := by
    rcases hnew with h | h <;> simp [h, hok]
  have hempty : s.slotSt src ≠ .empty := by rw [hst]; decide
  have herasing : s.slotSt src ≠ .erasing := by rw [hst]; decide
  simp only [State.keyDerive, hh, hsrc, hattr, hll, hcl, hform, hrange, hmir, hown, hsuse, htgt, hsuits, hempty, herasing,
    Bool.false_eq_true, if_false]

/-- A slot's wrapped blob leaves (R499). -/
theorem keyExport_good {s : State} {r : Requester} {h kek : Nat} {arg : Bytes} (hh : leAt 0 2 arg = h) (hlen : arg.length = 4)
    (hk : leAt 2 2 arg = kek) (hh1 : h < 128) (hk1 : kek < 128) (hst : s.slotSt h = .loaded) (hpage : s.notOwnPage r h = false)
    (huse : s.slotUse h 8 = true) (hkek : s.kekCheck (kekPage r) kek = none) :
    s.keyExport r arg = (some ⟨0, 0, s.keyBlob h kek ((s.slotKey kek).getD [])⟩, s.logKey h 0x1523) := by
  simp [State.keyExport, hh, hlen, hk, isSlot, hh1, hk1, hst, hpage, huse, hkek]

section
variable {s : State} {r : Requester} {h : Nat} {arg : Bytes} (hh : leAt 0 2 arg = h) (hlen : arg.length = 2) (hpos : 0 < h)
  (hlt : h < 128) (hpage : s.notOwnPage r h = false) (hmir : s.mirrorOnly h = false)
include hh hlen hpos hlt hpage hmir

theorem keyErase_empty (hst : s.slotSt h = .empty) : s.keyErase r arg = (some ⟨0, 0, []⟩, s) := by
  simp [State.keyErase, hh, hlen, isSlot, hlt, Nat.pos_iff_ne_zero.1 hpos, hpage, hmir, hst]

/-- A LOADED slot is erased (R490). -/
theorem keyErase_loaded (hst : s.slotSt h = .loaded) (hkind : s.slotKind h ≠ 3) :
    let s1 := ((s.logKey h 0x1524).bump 0x1530 3).eraseSlot h
    s.keyErase r arg = if s.mirrors h then (none, s1.sendKey h (some r) []) else (some ⟨0, 0, []⟩, s1) := by
  simp [State.keyErase, hh, hlen, isSlot, hlt, Nat.pos_iff_ne_zero.1 hpos, hpage, hmir, hst, hkind]

theorem keyZeroize_slot : s.keyZeroize r arg = (some ⟨0, 0, []⟩, s.zeroizeSlot h 0x1525) := by
  simp [State.keyZeroize, hh, hlen, isSlot, hlt, Nat.pos_iff_ne_zero.1 hpos, hpage, hmir]

end

/-- KeyZeroizeAll runs on once everything but the overwriting is done (R491, R493). -/
theorem keyZeroizeAll_started {s s2 : State} {r : Requester} {arg : Bytes} (hlen : arg.length = 2) (hkey : leAt 0 2 arg = 0x5A5A)
    (h2 : s.zeroSessions.endAll.netDropAll.zeroizeSlots = s2) :
    s.keyZeroizeAll r arg = (none, (List.range 8).foldl (fun s a => s.put (0x2110 + a) 1 0)
      { s2 with acc.toks := s2.acc.toks.map fun (e : TokEntry) => { TokEntry.reset with ctr := e.ctr },
                tag.keys := [none, none, none, none], keys.zeroAll := some r }) := by
  subst h2
  simp only [State.keyZeroizeAll, hlen, hkey, ne_eq, not_true_eq_false, if_false]

/-- A KEY_MIRROR that authenticates is taken by the standby, and an acknowledgement by the manager (R501). -/
theorem keyMirrorIn_good {s s1 : State} {p b : Bytes} (h1 : s.twinIn subKeyMirror p = (some b, s1)) :
    s.keyMirrorIn p = if s.seg.role = .standby then s1.mirrorKey b else if b.length = 4 then s1.mirrorAck b else s1 := by
  simp only [State.keyMirrorIn, h1]

/-- Settles O43, command by command. -/
theorem keyStoreCommandsComplete : Obligations.KeyStoreCommandsComplete := by
  unfold Obligations.KeyStoreCommandsComplete
  intro t s s0 r h0
  refine ⟨fun n h arg ht hw hwait => ⟨fun hn b p hh hb hslot hmir hform htgt hkek hp hph hres hlen hattr hkind hrole s1 h1 =>
      ⟨fun hm => ?_, fun hm => ?_⟩, fun hn hlen hcheck hrng hdraw k s1 s2 hk h2 hm => ?_,
      fun hn src attr ll cl hsrc hattr hll hcl hlen hll0 hll1 hcl1 hsrc1 hh1 hmir hst hpage howner huse hkind htgt hnew hok s1 h1 hm => ?_,
      fun hn kek hlen hk hh1 hk1 hst hpage huse hkek => ?_, fun hn hlen hpos hlt hpage hmir => ⟨fun hst => ?_, fun hst hkind s1 h1 =>
        ⟨fun hm => ?_, fun hm => ?_⟩⟩⟩,
    fun h arg hlen hh hpos hlt hpage hmir => answers_exec rfl h0 ((keyCmd_zeroize (by decide)).trans
      (keyZeroize_slot hh hlen hpos hlt hpage hmir)),
    fun arg s2 hlen hkey h2 => starts_exec rfl h0 ((keyCmd_zeroize (by decide)).trans (keyZeroizeAll_started hlen hkey h2)),
    fun h => ⟨fun hall => ?_, fun hall hlast => ?_⟩, fun p b s1 hsub hw hcore hlive hwl h1 => ⟨fun hrole => ?_, fun hrole hlen => ?_⟩,
    fun hlive => ends_of_run rfl h0 (whenLive_live hlive)⟩
  · subst hn h1
    exact answers_exec rfl h0 ((keyCmd_free ht hw hwait).trans
      ((keyImport_good hh hb hslot hmir hform htgt hkek hp hph hres hlen hattr hkind hrole).trans (keyDone_alone hm)))
  · subst hn h1
    exact starts_exec rfl h0 ((keyCmd_free ht hw hwait).trans
      ((keyImport_good hh hb hslot hmir hform htgt hkek hp hph hres hlen hattr hkind hrole).trans (keyDone_mirrored hm)))
  · subst hn h2
    refine answers_exec rfl h0 ((keyCmd_free ht hw hwait).trans ((keyGenerate_drawn ht hlen hcheck hrng hdraw).trans ?_))
    simp only [State.keyFill, hk]
    exact keyDone_alone hm
  · subst hn h1
    exact answers_exec rfl h0 ((keyCmd_free ht hw hwait).trans ((keyDerive_good ht hsrc hattr hll hcl hlen hll0 hll1 hcl1 hsrc1 hh1 hmir
      hst hpage howner huse hkind htgt hnew hok).trans (keyDone_alone hm)))
  · subst hn
    exact answers_exec rfl h0 ((keyCmd_free ht hw hwait).trans (keyExport_good ht hlen hk hh1 hk1 hst hpage huse hkek))
  · subst hn
    exact answers_exec rfl h0 ((keyCmd_free ht hw hwait).trans (keyErase_empty ht hlen hpos hlt hpage hmir hst))
  · subst hn h1
    exact answers_exec rfl h0 ((keyCmd_free ht hw hwait).trans ((keyErase_loaded ht hlen hpos hlt hpage hmir hst hkind).trans
      (if_neg (Bool.eq_false_iff.1 hm))))
  · subst hn h1
    exact starts_exec rfl h0 ((keyCmd_free ht hw hwait).trans ((keyErase_loaded ht hlen hpos hlt hpage hmir hst hkind).trans (if_pos hm)))
  · refine ends_of_run rfl h0 ?_
    simp only [State.zeroDone, hall]
  · refine ends_of_run rfl h0 ?_
    simp [State.zeroDone, hall, hlast]
  · have hother : s0.seg.role ≠ .manager := by rw [hrole]; decide
    refine ends_of_run rfl h0 ((if_neg hother).trans ((segRow_wl hw hlive hcore hwl hsub (by decide)).trans ?_))
    exact (keyMirrorIn_good h1).trans (if_pos hrole)
  · have hother : s0.seg.role ≠ .standby := by rw [hrole]; decide
    refine ends_of_run rfl h0 ((if_pos hrole).trans ((segRow_wl hw hlive hcore hwl hsub (by decide)).trans ?_))
    exact (keyMirrorIn_good h1).trans ((if_neg hother).trans (if_pos hlen))

end Sys2Proof.Machine
end

section
/-! The entropy sources and the DRBG (R504 to R517). -/
namespace Sys2Proof.Machine

/-- A block of a source in its start-up test, with no sampling of RXN about (R506, R507). -/
theorem assayBlock_startup {s s1 : State} {i : Nat} {x : Source} {blk : Bytes} {ok : Bool} (hi : i < 2) (hx : s.source i = x)
    (hst : x.st = .startup) (hlen : blk.length = 128) (hcks : s.cksOn = true) (hok : assayOk i blk = ok)
    (h1 : (s.modSource i fun y => { y with hist := ((!ok) :: x.hist).take 32 }).bump 0x1307 (if ok then 1 else 2) = s1) :
    (ok = true → s.assayBlock i blk =
      s1.modSource i fun y => { y with passed := y.passed + 1, st := if 4 ≤ y.passed + 1 then .running else .startup }) ∧
    (ok = false → ((((!ok) :: x.hist).take 32).filter id).length < 4 → s.assayBlock i blk =
      (s1.modSource i fun y => { y with st := .restarting, due := s.now + us 100, passed := 0 }).bump 0x1307 3) := by
  have hne : i ≠ 2 := by omega
  have hlt : ¬ 3 ≤ i := by omega
  subst hx hok h1
  constructor
  · intro hok
    simp [State.assayBlock, hst, hlen, hcks, hok, hne, hlt]
  · intro hok hfew
    rw [hok] at hfew
    have hfew1 : ¬ 4 ≤ (((!false) :: (s.source i).hist).take 32 |>.filter id).length := Nat.not_le.2 hfew
    have hgo : (!(((s.source i).st = .startup || (s.source i).st = .running || (i = 2 && s.rxnSampling) : Bool)) || blk.length ≠ 128 ||
        3 ≤ i || !s.cksOn : Bool) = false := by simp [hst, hlen, hcks, hlt]
    simp only [State.assayBlock, hgo, hok, hfew1, Bool.false_eq_true, if_false]

/-- A reseed takes three outputs of the pool that may seed together (R512, R513). -/
theorem tryReseed_due {s : State} {p : List (Nat × Bytes)} (hq : s.gate.quench = false) (hst : s.rng.st = .seeded ∨ s.rng.st = .reseedWait)
    (hdue : s.rng.seedAt + ms (s.g 0x1308 0) ≤ s.now) (hp : pickSeed false s.rng.pool = some p) :
    s.tryReseed =
      (({ s with rng.drbg := drbgReseed s.rng.drbg (p.map (·.2)).flatten, rng.st := .seeded, rng.cold := false, rng.seedAt := s.now,
                 rng.reqs := 0, rng.pool := s.rng.pool.filter fun (x : Nat × Bytes) => !p.contains x } : State).bump 0x1307 4) := by
  have hfatal : (s.gate.quench || s.rng.st = .fatal : Bool) = false := by rcases hst with h | h <;> simp [hq, h]
  have hfirst : s.rng.st ≠ .starting := by rcases hst with h | h <;> simp [h]
  simp only [State.tryReseed, hfatal, hfirst, hdue, hp, decide_true, decide_false, Bool.or_true, Bool.false_and, Bool.not_true, Bool.false_eq_true,
    if_false]

/-- A waiting read of the DRBG is served with 32 octets (R513, R514). -/
theorem serveGen_random {s s1 : State} {w : GenUse × Nat} {who : Requester} {b : Bytes} (hw : nextGen s.rng.waiting = some w)
    (hwho : w.1 = .random who) (hdraw : s.drawOk = true)
    (h1 : ({ s with rng.waiting := s.rng.waiting.erase w } : State).draw 32 = (b, s1)) :
    s.serveGen = s1.answer who 0x1320 ⟨0, 0, b⟩ := by
  simp only [State.serveGen, hw, hdraw, hwho, h1]

/-- Settles O44, command by command. -/
theorem entropyCommandsComplete : Obligations.EntropyCommandsComplete := by
  unfold Obligations.EntropyCommandsComplete
  intro t s s0 r i x h0 hx
  refine ⟨fun hlive hi => ⟨ends_of_run rfl h0 (whenLive_live hlive), ?_, fun blk s1 ok hst hlen hcks hok h1 => ⟨fun hgood => ?_,
      fun hbad hfew => ?_⟩⟩, fun hlive => ⟨fun p hq hst hdue hp => ?_, fun hst hdue => ?_, fun w who b s1 hw hwho hdraw h1 => ?_⟩,
    fun hst hdraw b s1 h1 => answers_read rfl h0 ?_⟩
  · have hne : i ≠ 2 := by omega
    refine ends_of_run rfl h0 ((whenLive_live hlive).trans ?_)
    simp only [State.restarted, hne, if_false]
  · exact ends_of_run rfl h0 ((whenLive_live hlive).trans ((assayBlock_startup hi hx hst hlen hcks hok h1).1 hgood))
  · exact ends_of_run rfl h0 ((whenLive_live hlive).trans ((assayBlock_startup hi hx hst hlen hcks hok h1).2 hbad hfew))
  · exact ends_of_run rfl h0 ((whenLive_live hlive).trans (tryReseed_due hq hst hdue hp))
  · refine ends_of_run rfl h0 ((whenLive_live hlive).trans (if_pos ?_))
    simp only [hst, decide_true, Bool.true_and, Bool.or_eq_true, decide_eq_true_eq]
    exact hdue
  · exact ends_of_run rfl h0 ((whenLive_live hlive).trans (serveGen_random hw hwho hdraw h1))
  · show s0.rngRandom r = _
    simp [State.rngRandom, hst, hdraw, h1]

end Sys2Proof.Machine
end

section
/-! CAN frames and their queues (R562 to R571, R577 to R579). -/
namespace Sys2Proof.Machine

/-- A frame that no unit takes is judged by the filters (R564, R565). -/
theorem canFrameIn_filtered {s s1 : State} {c sof : Nat} {f : CanFrame} (hh : s.canHears c f.fmt = true)
    (h1 : (s.modCan c fun k => { k with rec_ := min (k.rec_ - 1) 127 }.settle).bump (0x4012 + c) 1 = s1) (himmo : s1.immoTakes c f = false)
    (hdict : s1.canDictOn c f.id = false) (hid : f.id ≠ 0x7A0) :
    s.canFrameIn c f sof = s1.canFilter c ⟨0, none, 0, f.fmt, f.flags, f.sdt, f.id, f.af, f.vcid, f.data, 0, 0⟩ (s1.domainAt sof) := by
  simp only [canFrameIn_heard hh h1, himmo, hdict, hid, decide_false, Bool.and_false, Bool.false_and, Bool.false_eq_true, if_false]

/-- A sound immediate frame takes the next SEQ and enters its class (R567 to R569). -/
theorem canTx_queued {s s1 : State} {c q : Nat} {r : Requester} {a : Bytes} {f : CanTx} (hlen : 28 ≤ a.length)
    (hdata : a.length = 28 + leAt 14 2 a) (hparse : canParse a = some (c, f)) (hhas : s.has (5 + c) = true) (hmode : s.canMode c ≠ 0)
    (hfmt : canFmtOk (s.canMode c) f.fmt = true) (hfree : s.idReserved c f.id = false) (htime : f.time = 0)
    (hroom : (s.canCtl c).q.length < 16) (hq : s.nextSeq r = (q, s1)) :
    s.canTx r a = (⟨0, 0, toLe 2 q⟩, s1.modCan c fun k =>
      { k with q := k.q ++ [{ f with cls := (if r = .host then 3 else 4), who := some r, seq := q, at_ := s1.now }] }) := by
  have hform : (a.length < 28 || a.length ≠ 28 + leAt 14 2 a : Bool) = false := by
    simp only [Bool.or_eq_false_iff, decide_eq_false_iff_not]
    omega
  simp only [State.canTx, hform, hparse, hhas, hmode, hfmt, hfree, htime, hq, Nat.not_lt_zero, Nat.not_le.2 hroom, decide_false,
    ne_eq, not_true_eq_false, Bool.not_true, Bool.not_false, Bool.and_false, Bool.false_and, Bool.or_self, Bool.false_eq_true, if_false]
  rfl

/-- A frame completes on the wire with its record (R563, R569, R579). -/
theorem canTxDone_front {s : State} {c sof won : Nat} {f : CanTx} (hst : (s.canCtl c).st = 1 ∨ (s.canCtl c).st = 2)
    (hf : (s.canCtl c).front won = some f) :
    s.canTxDone c sof won =
      (((s.modCan c fun k => { k with q := k.q.erase f, sent := some f, tec := k.tec - 1 }.settle).bump (0x4012 + c) 2).txRecord
        f.who f.seq Rc.ok 0 (s.domainAt sof)) := by
  have hon : decide ((s.canCtl c).st = 1 ∨ (s.canCtl c).st = 2) = true := decide_eq_true hst
  rw [Bool.decide_or] at hon
  simp only [State.canTxDone, hf, hon, decide_true, eraseFirst]

/-- A bus error that leaves the controller below bus-off (R562). -/
theorem busError_below {s s1 : State} {c : Nat} {tx : Bool} (hst : (s.canCtl c).st = 1 ∨ (s.canCtl c).st = 2)
    (h1 : (s.modCan c fun k => (if tx then { k with tec := k.tec + 8 } else { k with rec_ := min (k.rec_ + 1) 65535 }).settle) = s1)
    (hlt : (s1.canCtl c).tec < 256) : s.busError c tx = s1 := by
  subst h1
  have hon : ((s.canCtl c).st = 1 || (s.canCtl c).st = 2 : Bool) = true := by rcases hst with h | h <;> simp [h]
  exact (if_pos hon).trans (if_neg (Nat.not_le.2 hlt))

/-- Settles O50, command by command. -/
theorem canCommandsComplete : Obligations.CanCommandsComplete := by
  unfold Obligations.CanCommandsComplete
  intro t c s s0 r h0
  refine ⟨fun f sof s1 hw hcore hh h1 himmo hdict hid => ends_of_run rfl h0 ((portIn_core hw hcore).trans
      (canFrameIn_filtered hh h1 himmo hdict hid)),
    fun a f q s1 hlen hdata hparse hc hhas hmode hfmt hfree htime hroom hq => answers_exec rfl h0 ?_,
    fun b bs hrx => answers_exec rfl h0 ?_, fun b bs hdone => answers_exec rfl h0 ?_,
    fun hlive hst => ⟨fun f sof won hf => ends_of_run rfl h0 ((whenLive_live hlive).trans (canTxDone_front hst hf)), ?_,
      fun s1 h1 hlt => ?_, fun s1 h1 hlt => ?_⟩,
    fun hlive => ends_of_run rfl h0 (whenLive_live hlive), fun hc hhas => answers_exec rfl h0 ?_,
    fun hlive => ends_of_run rfl h0 (whenLive_live hlive)⟩
  · show (some (s0.canTx r a).1, (s0.canTx r a).2) = _
    rw [canTx_queued hlen hdata hparse hhas hmode hfmt hfree htime hroom hq]
  · show (some (s0.canRx r).1, (s0.canRx r).2) = _
    simp only [State.canRx, hrx]
  · show (some (s0.takeDone r).1, (s0.takeDone r).2) = _
    simp only [State.takeDone, hdone]
  · exact ends_of_run rfl h0 ((whenLive_live hlive).trans (if_pos (by rcases hst with h | h <;> simp [h])))
  · exact ends_of_run rfl h0 ((whenLive_live hlive).trans (busError_below (tx := true) hst h1 hlt))
  · exact ends_of_run rfl h0 ((whenLive_live hlive).trans (busError_below (tx := false) hst h1 hlt))
  · have hoct : byteAt 0 [BitVec.ofNat 8 c] = c := toNat_ofNat8 (by omega)
    show (if 2 ≤ byteAt 0 [BitVec.ofNat 8 c] then s0.no Rc.range 0
      else if !s0.has (5 + byteAt 0 [BitVec.ofNat 8 c]) then s0.no Rc.absent 0
      else (some ⟨Rc.ok, 0, []⟩, s0.canRecover (byteAt 0 [BitVec.ofNat 8 c]))) = _
    rw [hoct, if_neg (Nat.not_le.2 hc), hhas]
    rfl

end Sys2Proof.Machine
end

section
/-! 10BASE-T1S frames, the Wairil link and the log memory (R573 to R583, R683). -/
namespace Sys2Proof.Machine

/-- A frame whose FCS fails is counted apart (R573). -/
theorem t1sFrameIn_badFcs {s : State} {da sa payload : Bytes} {etype sfd : Nat} (hmode : s.net.t1s ≠ 0) (hcks : s.cksOn = true)
    (hheld : s.pwr.held = false) (hvio : s.gate.vio = true) : s.t1sFrameIn da sa etype payload false sfd = s.bump 0x4027 3 := by
  simp only [State.t1sFrameIn, hmode, hcks, hheld, hvio, decide_false, Bool.not_true, Bool.or_self, Bool.false_eq_true, if_false,
    Bool.not_false, if_true]

/-- A good frame for this port of an EtherType that no unit takes is judged by the filters (R573, R575). -/
theorem t1sFrameIn_filtered {s : State} {da sa payload : Bytes} {etype sfd : Nat} (hmode : s.net.t1s ≠ 0) (hcks : s.cksOn = true)
    (hheld : s.pwr.held = false) (hvio : s.gate.vio = true) (hda : s.macTakes da = true) (hptp : etype ≠ 0x88F7) (hown : etype ≠ 0x88B5) :
    s.t1sFrameIn da sa etype payload true sfd =
      (s.bump 0x4027 1).ethFilter da sa etype payload ((s.bump 0x4027 1).domainAt sfd) := by
  simp only [State.t1sFrameIn, hmode, hcks, hheld, hvio, hda, hptp, hown, decide_false, Bool.not_true, Bool.or_self, Bool.false_eq_true,
    if_false]

/-- A sound immediate frame takes the next SEQ and enters its class (R576 to R578). -/
theorem ethTx_queued {s s1 : State} {q : Nat} {r : Requester} {a : Bytes} (hlen : 30 ≤ a.length) (hdata : a.length = 30 + leAt 28 2 a)
    (hsa : slice 6 6 a = zeros 6) (hflags : byteAt 14 a ≤ 1) (hres : byteAt 15 a = 0) (hmax : leAt 28 2 a ≤ 994) (htime : leAt 16 12 a = 0)
    (hptp : leAt 12 2 a ≠ 0x88F7) (hown : leAt 12 2 a ≠ 0x88B5) (hmode : s.net.t1s ≠ 0) (hroom : s.net.eth.length < 16)
    (hq : s.nextSeq r = (q, s1)) :
    s.ethTx r a = (⟨0, 0, toLe 2 q⟩, { s1 with net.eth := s1.net.eth ++
      [⟨if r = .host then 4 else 5, some r, q, a.take 6, leAt 12 2 a, slice 30 (leAt 28 2 a) a, byteAt 14 a, 0⟩] }) := by
  have hform : (a.length < 30 || a.length ≠ 30 + leAt 28 2 a : Bool) = false := by
    simp only [Bool.or_eq_false_iff, decide_eq_false_iff_not]
    omega
  have hsound : (slice 6 6 a ≠ zeros 6 || 1 < byteAt 14 a || byteAt 15 a ≠ 0 || 994 < leAt 28 2 a || !t96Ok 0 : Bool) = false := by
    simp only [Bool.or_eq_false_iff, decide_eq_false_iff_not, ne_eq, Decidable.not_not, Nat.not_lt]
    exact ⟨⟨⟨⟨hsa, hflags⟩, hres⟩, hmax⟩, rfl⟩
  have hfree : (leAt 12 2 a = 0x88F7 || leAt 12 2 a = 0x88B5 : Bool) = false := by
    simp only [hptp, hown, decide_false, Bool.or_self]
  have hzero : ofT96 0 = 0 := rfl
  simp only [State.ethTx, hform, hsound, hfree, htime, hzero, hmode, hq, Nat.not_lt_zero, Nat.not_le.2 hroom, decide_false,
    Bool.not_false, Bool.and_false, Bool.false_and, Bool.or_self, Bool.false_eq_true, if_false]
  simp only [ne_eq, not_true_eq_false, decide_false, Bool.false_and, Bool.false_eq_true, if_false]

/-- The frame of the highest class completes with its record (R576, R579). -/
theorem t1sTxDone_front {s : State} {f : EthTx} {sfd : Nat} (hh : s.t1sHears = true) (hf : s.ethFront = some f) (hptp : f.etype ≠ 0x88F7) :
    s.t1sTxDone sfd false =
      ((({ s with net.eth := s.net.eth.erase f, net.ethSent := s.ethWire f } : State).bump 0x4027 2).txRecord f.who f.seq Rc.ok 0
        (s.domainAt sfd)) := by
  simp only [State.t1sTxDone, hh, hf, hptp, Bool.false_eq_true, if_false, eraseFirst]

/-- A collision in CSMA/CD is counted and the frame stays (R574). -/
theorem t1sTxDone_collision {s : State} {f : EthTx} {sfd : Nat} (hh : s.t1sHears = true) (hf : s.ethFront = some f) (hmode : s.net.t1s = 1) :
    s.t1sTxDone sfd true = s.bump 0x4027 4 := by
  simp only [State.t1sTxDone, hh, hf, hmode, if_true]

/-- A violation while the link trains takes it down (R581). -/
theorem wlDown_training {s : State} (hh : s.wlHere = true) (hwl : s.net.wl = 1) :
    s.wlDown true = { s.bumpBy 0x4041 1 4 with net.wl := 0 } := by
  have hgo : (!s.wlHere || s.net.wl = 0 : Bool) = false := by simp [hh, hwl]
  have hdown : s.net.wl ≠ 2 := by omega
  simp only [State.wlDown, hgo, hdown, if_true, Bool.false_eq_true, if_false]

/-- The loss of a link that was up is counted, and its path is lost (R581, R625). -/
theorem wlDown_up {s : State} (hh : s.wlHere = true) (hwl : s.net.wl = 2) :
    s.wlDown false = (({ s with net.wl := 0 } : State).bump 0x4041 2).wlPathLost := by
  have hgo : (!s.wlHere || s.net.wl = 0 : Bool) = false := by simp [hh, hwl]
  simp only [State.wlDown, hgo, Bool.false_eq_true, if_false]
  rw [if_pos hwl]

/-- A log-memory erase that ends well is followed by the program (R683). -/
theorem qsDone_erased {s : State} {q : Nat} (hsec : s.log.sector = some (q, false)) :
    s.qsDone true = { s with log.sector := some (q, true) } := by
  simp only [State.qsDone, hsec, Bool.not_true, Bool.false_eq_true, if_false, Bool.not_false, if_true]

/-- Settles O51, command by command. -/
theorem ethernetAndLinkCommandsComplete : Obligations.EthernetAndLinkCommandsComplete := by
  unfold Obligations.EthernetAndLinkCommandsComplete
  intro t s s0 r h0
  refine ⟨fun da sa etype payload sfd hw hcore hmode hcks hheld hvio =>
      ⟨ends_of_run rfl h0 ((portIn_core hw hcore).trans (t1sFrameIn_badFcs hmode hcks hheld hvio)),
        fun hda hptp hown => ends_of_run rfl h0 ((portIn_core hw hcore).trans (t1sFrameIn_filtered hmode hcks hheld hvio hda hptp hown))⟩,
    fun a q s1 hlen hdata hsa hflags hres hmax htime hptp hown hmode hroom hq => answers_exec rfl h0 ?_,
    fun b bs hrx => answers_exec rfl h0 ?_,
    fun hlive hh f sfd hf => ⟨fun hptp => ends_of_run rfl h0 ((whenLive_live hlive).trans (t1sTxDone_front hh hf hptp)),
      fun hmode => ends_of_run rfl h0 ((whenLive_live hlive).trans (t1sTxDone_collision hh hf hmode))⟩,
    fun hlive => ⟨fun hmode => ends_of_run rfl h0 ((whenLive_live hlive).trans (if_pos hmode)),
      fun hmode => ends_of_run rfl h0 ((whenLive_live hlive).trans (if_neg hmode))⟩,
    fun fills s1 h1 hh => ?_, fun hh => ⟨fun hwl hw hcore => ?_, fun hwl => ends_of_run rfl h0 (if_pos (by simp [hh, hwl]))⟩,
    fun q hlive hsec => ends_of_run rfl h0 ((whenLive_live hlive).trans (qsDone_erased hsec))⟩
  · show (some (s0.ethTx r a).1, (s0.ethTx r a).2) = _
    rw [ethTx_queued hlen hdata hsa hflags hres hmax htime hptp hown hmode hroom hq]
  · show (some (s0.ethRx r).1, (s0.ethRx r).2) = _
    simp only [State.ethRx, hrx]
  · subst h1
    exact ⟨fun hwl => ends_of_run rfl h0 (wlDown_training hh hwl), fun hwl => ends_of_run rfl h0 (wlDown_up hh hwl)⟩
  · exact ends_of_run rfl h0 ((portIn_core hw hcore).trans (if_pos (by simp [hh, hwl])))

end Sys2Proof.Machine
end

section
/-! Steps, slews, PPS, TS_IN and the timeouts of domain time (R587 to R589, R593 to R595). -/
namespace Sys2Proof.Machine

/-- The argument of a time command is read back, followed by anything. -/
theorem leAt_toLe12_append {v : Nat} (l : Bytes) (h : v < 2 ^ 96) : leAt 0 12 (toLe 12 v ++ l) = v := leAt_toLe_append l h

theorem leAt_toLe12 {v : Nat} (h : v < 2 ^ 96) : leAt 0 12 (toLe 12 v) = v := leAt_toLe h

theorem byteAt_after_toLe (n v : Nat) (b : Byte) : byteAt n (toLe n v ++ [b]) = b.toNat := by
  simp [byteAt, toLe_length]

/-- TimeStep with a sound amount (R588). -/
theorem execCmd_timeStep {s : State} {r : Requester} {amount : Nat} {neg : Bool} (ha : amount < 2 ^ 96) (hok : t96Ok amount = true) :
    s.execCmd r 0x4106 (toLe 12 amount ++ [if neg then 1 else 0]) =
      (some ⟨0, 0, []⟩, s.stepTime (if neg then -(ofT96 amount : Int) else (ofT96 amount : Int))) := by
  show (if !t96Ok (leAt 0 12 (toLe 12 amount ++ [if neg then 1 else 0])) then s.no Rc.range 0
    else if 1 < byteAt 12 (toLe 12 amount ++ [if neg then 1 else 0]) then s.no Rc.range 0
    else (some ⟨Rc.ok, 0, []⟩, s.stepTime (if byteAt 12 (toLe 12 amount ++ [if neg then 1 else 0]) = 1
      then -(ofT96 (leAt 0 12 (toLe 12 amount ++ [if neg then 1 else 0])) : Int)
      else (ofT96 (leAt 0 12 (toLe 12 amount ++ [if neg then 1 else 0])) : Int)))) = _
  rw [leAt_toLe12_append _ ha, byteAt_after_toLe, hok]
  cases neg <;> rfl

/-- TimeSet with a sound time steps by the difference (R588). -/
theorem execCmd_timeSet {s : State} {r : Requester} {time : Nat} (ht : time < 2 ^ 96) (hok : t96Ok time = true) :
    s.execCmd r 0x4107 (toLe 12 time) = (some ⟨0, 0, []⟩, s.stepTime ((ofT96 time : Int) - (s.domain : Int))) := by
  show (if !t96Ok (leAt 0 12 (toLe 12 time)) then s.no Rc.range 0
    else (some ⟨Rc.ok, 0, []⟩, s.stepTime ((ofT96 (leAt 0 12 (toLe 12 time)) : Int) - (s.domain : Int)))) = _
  rw [leAt_toLe12 ht, hok]
  rfl

/-- TimeStepConfirm with a sound ceiling judges the held step (R588). -/
theorem execCmd_timeStepConfirm {s : State} {r : Requester} {ceiling : Nat} (hc : ceiling < 2 ^ 96) (hok : t96Ok ceiling = true) :
    s.execCmd r 0x4109 (toLe 12 ceiling) = ret (s.stepConfirm (ofT96 ceiling)) := by
  show (if !t96Ok (leAt 0 12 (toLe 12 ceiling)) then s.no Rc.range 0 else ret (s.stepConfirm (ofT96 (leAt 0 12 (toLe 12 ceiling))))) = _
  rw [leAt_toLe12 hc, hok]
  rfl

/-- A step forward, or backward within the limit, is applied at once (R588). -/
theorem stepTime_applied {s : State} {amt : Int} (h : 0 ≤ amt ∨ -amt ≤ (s.g 0x4111 0 : Int) * 1000000 * nsU) :
    s.stepTime amt = s.stepApply amt := by
  refine if_neg ?_
  rw [Bool.and_eq_true, decide_eq_true_eq, decide_eq_true_eq]
  omega

/-- A larger backward step is held and domain time goes to HOLDOVER (R588). -/
theorem stepTime_held {s : State} {n : Nat} (h : (s.g 0x4111 0 : Int) * 1000000 * nsU < (n : Int)) :
    s.stepTime (-(n : Int)) =
      ((({ s with time.held := n } : State).setQual 3).bump 0x412A 2).logEv 0x12 0 0 (1 :: stepBytes n) := by
  have hpos : (0 : Int) ≤ (s.g 0x4111 0 : Int) * 1000000 * nsU :=
    Int.mul_nonneg (Int.mul_nonneg (Int.natCast_nonneg _) (by decide)) (Int.natCast_nonneg _)
  have hback : (-(n : Int) < 0 && (s.g 0x4111 0 : Int) * 1000000 * nsU < - -(n : Int) : Bool) = true := by
    rw [Bool.and_eq_true, decide_eq_true_eq, decide_eq_true_eq]
    omega
  simp only [State.stepTime, hback, if_true, Int.natAbs_neg, Int.natAbs_natCast]

/-- An accepted slew (R588). -/
theorem slewTime_accepted {s : State} {ns : Int} (hmode : s.g 0x4104 0 = 1) (hmax : ns.natAbs < s.g 0x4110 0) :
    s.slewTime ns = ((Rc.ok, 0), { s.timeSettle with time.slew := ns * nsU }) := by
  simp only [State.slewTime, hmode, Nat.not_le.2 hmax, ne_eq, not_true_eq_false, decide_false, Bool.or_self, Bool.false_eq_true, if_false]

/-- A confirmed step is applied (R588). -/
theorem stepConfirm_held {s : State} {ceiling : Nat} (hheld : s.time.held ≠ 0) (hle : s.time.held ≤ ceiling) :
    s.stepConfirm ceiling = ((Rc.ok, 0), ({ s with time.held := 0 } : State).stepApply (-(s.time.held : Int))) := by
  simp only [State.stepConfirm, hheld, Nat.not_lt.2 hle, decide_false, Bool.or_self, Bool.false_eq_true, if_false]

/-- TimeAsymmetry takes effect at once. -/
theorem findObj_timeAsymmetry : findObj 0x4128 0 = some ⟨0x4128, 1, 0x00, 0x00, .i32, ⟨.b, .r, .no, .b, .no⟩, .const 0, .imm, .p, .any⟩ := by
  decide +kernel

/-- A write of TimeAsymmetry clears PATH_CHANGED (R593). -/
theorem store_timeAsymmetry (s : State) (v : Nat) : s.store 0x4128 0 v = s.asymmetry v := by
  have h4 : area4Key (okey 0x4128 0) = false := by decide
  have h7 : area7Live (okey 0x4128 0) = false := by decide
  have htok : inR 0x2040 0x207F 0x4128 = false := by decide
  simp [State.store, h4, h7, htok]

/-- A whole second that no step has passed over is the PPS event (R589, R595). -/
theorem ppsTick_second {s s1 s2 : State} (hpps : s.tpins.ppsSec < s.domain / secU) (hstep : s.tpins.stepSec < s.domain / secU)
    (h1 : ({ s with tpins.ppsSec := s.domain / secU } : State).engEvAll 22 = s1) :
    (bit (s1.g 0x4138 0) 0 = false → s.ppsTick = s1) ∧
    (bit (s1.g 0x4138 0) 0 = true → bit (s1.g 0x4138 0) 2 = false ∨ s1.time.qual = 2 → s1.applyPend 0x4139 0 = s2 →
      s.ppsTick = { s2 with tpins.pps := true, tpins.ppsDue := s2.now + ms (s2.g 0x4139 0) }) := by
  have hdue : (s.tpins.ppsSec < s.domain / secU && s.tpins.stepSec < s.domain / secU : Bool) = true := by
    simp only [hpps, hstep, decide_true, Bool.and_self]
  refine ⟨fun hoff => ?_, fun hon hq h2 => ?_⟩
  · simp only [State.ppsTick, hdue, h1, hoff, if_true, Bool.false_and, Bool.false_eq_true, if_false]
  · have hlet : (!bit (s1.g 0x4138 0) 2 || s1.time.qual = 2 : Bool) = true := by
      rcases hq with h | h <;> simp only [h, Bool.not_false, Bool.true_or, decide_true, Bool.or_true]
    simp only [State.ppsTick, hdue, h1, h2, hon, hlet, if_true, Bool.and_self]

/-- A selected edge latches both times and leaves the servo alone (R594). -/
theorem tsEdge_latched {s : State} {ch : Nat} {rising : Bool} (hsel : bit (s.g 0x4130 (ch + 1)) (if rising then 0 else 1) = true)
    (hsrc : bit (s.g 0x4130 (ch + 1)) 2 = false) :
    s.tsEdge ch rising = { s with
      tpins.tsTime := putAt s.tpins.tsTime ch (toT96 s.domain), tpins.tsRcnt := putAt s.tpins.tsRcnt ch (s.rcnt s.now),
      tpins.ovr := if s.tpins.unread.getD ch false then putAt s.tpins.ovr ch true else s.tpins.ovr,
      tpins.unread := putAt s.tpins.unread ch true } := by
  simp only [State.tsEdge, hsel, hsrc, if_true, Bool.false_and, Bool.false_eq_true, if_false]

theorem foldl_put_time (idx : Nat) (l : List (Nat × Nat)) (s : State) :
    (l.foldl (fun (s : State) p => s.put idx (p.2 + 1) p.1) s).time = s.time := by
  induction l generalizing s with
  | nil => rfl
  | cons p l ih => exact ih _

/-- An error entry leaves domain time alone. -/
theorem errBit_time (s : State) (b idx code detail : Nat) : (s.errBit b idx code detail).time = s.time :=
  foldl_put_time 0x1029 _ _

/-- A change of quality does not choose the source. -/
theorem setQual_tsSrc (s : State) (q : Nat) : (s.setQual q).time.tsSrc = s.time.tsSrc := by
  unfold State.setQual
  split
  · rfl
  · simp only []
    split
    · show (State.errBit _ 6 0x4100 0 0).time.tsSrc = _
      rw [errBit_time]
      rfl
    · rfl

theorem sourceLost_tsSrc (s : State) : s.sourceLost.time.tsSrc = s.time.tsSrc := by
  unfold State.sourceLost
  simp only []
  split
  · exact setQual_tsSrc _ _
  · rfl

/-- Three sync intervals without Sync at a SLAVE lose the source (R587). -/
theorem sourceLoss_noSync {s : State} (hport : s.time.port = 3) (hsync : s.time.syncAt.isSome = true) (habs : s.syncPresent = false)
    (hsrc : s.time.tsSrc = false) : s.sourceLoss = s.sourceLost := by
  simp only [State.sourceLoss, hport, hsync, habs, decide_true, Bool.not_false, Bool.and_self, if_true, sourceLost_tsSrc, hsrc,
    Bool.false_and, Bool.false_eq_true, if_false]

/-- Settles O52, command by command. -/
theorem domainTimeCommandsComplete : Obligations.DomainTimeCommandsComplete := by
  unfold Obligations.DomainTimeCommandsComplete
  intro t s s0 r h0
  refine ⟨fun amount neg ha hok => ⟨fun hfit => answers_exec rfl h0 ?_, fun hbig => answers_exec rfl h0 ?_⟩,
    fun time ht hok hle => answers_exec rfl h0 ?_, fun ns hlo hhi hmode hmax => answers_exec rfl h0 ?_,
    fun ceiling hc hok hheld hle => answers_exec rfl h0 ?_, fun v => answers_write rfl h0 (by decide) ?_,
    fun hlive => ⟨fun s1 s2 hpps hstep h1 => ⟨fun hoff => ?_, fun hon hq h2 => ?_⟩,
      fun hpin hdue => ends_of_run rfl h0 ((whenLive_live hlive).trans (if_pos (by simp [hpin, hdue]))),
      fun ch rising hsel hsrc => ends_of_run rfl h0 ((whenLive_live hlive).trans (tsEdge_latched hsel hsrc)),
      fun hport hsync habs hsrc => ends_of_run rfl h0 ((whenLive_live hlive).trans (sourceLoss_noSync hport hsync habs hsrc)),
      fun hq hdue => ends_of_run rfl h0 ((whenLive_live hlive).trans (if_pos (by simp [hq, hdue])))⟩⟩
  · rw [execCmd_timeStep ha hok, stepTime_applied]
    cases neg with
    | false => exact Or.inl (Int.natCast_nonneg _)
    | true => exact Or.inr (by simpa using hfit)
  · have hexec := execCmd_timeStep (s := s0) (r := r) (neg := true) ha hok
    rw [if_pos rfl, if_pos rfl, stepTime_held hbig] at hexec
    exact hexec
  · rw [execCmd_timeSet ht hok, stepTime_applied (Or.inl (by omega))]
  · show ret (s0.slewTime (sext 32 (leAt 0 4 (toLe 4 (toTwos 32 ns))))) = _
    rw [leAt_toLe (toTwos_lt 32 ns), sext_toTwos_32 hlo hhi, slewTime_accepted hmode hmax]
    rfl
  · rw [execCmd_timeStepConfirm hc hok, stepConfirm_held hheld hle]
    rfl
  · rw [applyWrite_imm (by decide) findObj_timeAsymmetry rfl rfl rfl rfl (by decide) (by decide) (by decide), leNat_toLe (toTwos_lt 32 v),
      store_timeAsymmetry]
    rfl
  · exact ends_of_run rfl h0 ((whenLive_live hlive).trans ((ppsTick_second (s2 := s2) hpps hstep h1).1 hoff))
  · exact ends_of_run rfl h0 ((whenLive_live hlive).trans ((ppsTick_second hpps hstep h1).2 hon hq h2))

end Sys2Proof.Machine
end

section
/-! Segment frames, joining, presence, heartbeats and the losses of paths (R603 to R614, R618, R625, R626). -/
namespace Sys2Proof.Machine

/-- A manager's HEARTBEAT at a worker renews it with its epoch (R603, R607). -/
theorem heartbeatIn_worker {s : State} {p : Bytes} {f : SegIn} (hp : segParse p = some f) (hsub : byteAt 0 p = 0x20)
    (hlen : f.body.length = 16) (hrole : s.seg.role = .worker) (hsrc : f.src % 16 < 2) (hdst : f.dst = 0xFFFF) (hkbc : s.seg.kbc ≠ [])
    (hok : s.segJudge f (some s.seg.kbc) (s.mgrLink (f.src % 16)).bc = 0) (hmgr : byteAt 0 f.body = 1) :
    s.heartbeatIn p false = (s.segCount 0).modMgr (f.src % 16) fun m =>
      { m with bc := f.fcnt, beat := some s.now, epoch := leAt 4 4 f.body } := by
  have hfsub : f.sub = 0x20 := (segParse_sub hp).trans hsub
  have hown : (f.src % 16 < 2 && f.dst = 0xFFFF && f.body.length = 16 && s.seg.kbc ≠ [] : Bool) = true := by
    simp only [hsrc, hdst, hlen, hkbc, ne_eq, not_false_eq_true, decide_true, Bool.and_self]
  have hin : s.heartbeatIn p false = s.heartbeatWorker f := by
    simp [State.heartbeatIn, hp, hfsub, hlen, hrole]
  rw [hin, State.heartbeatWorker]
  simp only [hown, hok, hmgr, if_true, ne_eq, not_true_eq_false, if_false]

/-- A PRESENCE that stands is the node's state (R606, R607). -/
theorem presenceIn_good {s s1 : State} {p : Bytes} {f : SegIn} (hp : segParse p = some f) (hsub : byteAt 0 p = 0x21) (htwin : s.isTwin = true)
    (hlen : f.body.length = 16) (h1 : s.fromWorker (s.presenceView f) = some s1) :
    s.presenceIn p = s1.modNode (f.src % 16) fun w =>
      { w with online := true, lost := false, seen := some s.now, mgr := byteAt 0 f.body, locked := bit (byteAt 1 f.body) 0,
               touched := bit (byteAt 1 f.body) 1 } := by
  have hfsub : f.sub = 0x21 := (segParse_sub hp).trans hsub
  have hform : (!s.isTwin || f.sub ≠ 0x21 || f.body.length ≠ 16 : Bool) = false := by simp [htwin, hfsub, hlen]
  simp only [State.presenceIn, hp, hform, h1, Bool.false_eq_true, if_false]

/-- A ROUND_PLAN that stands is taken (R609, R610). -/
theorem planIn_good {s s1 : State} {p k : Bytes} {f : SegIn} (hp : segParse p = some f) (hsub : byteAt 0 p = 0x22)
    (hlen : f.body.length = 128) (hq : s.gate.quench = false) (h1 : s.fromManager f = (k, true, s1)) :
    s.planIn p = s1.takePlan f.body k := by
  have hfsub : f.sub = 0x22 := (segParse_sub hp).trans hsub
  have hform : (f.sub ≠ 0x22 || f.body.length ≠ 128 : Bool) = false := by simp [hfsub, hlen]
  simp only [State.planIn, hp, hform, h1, hq, Bool.not_false, Bool.and_self, Bool.false_eq_true, if_false, if_true]

/-- A REPORT that stands gives its results, time records and events, and closes the node's part of the round (R611, R614). -/
theorem reportIn_good {s s1 s2 s3 s4 : State} {p : Bytes} {f : SegIn} (hp : segParse p = some f) (hsub : byteAt 0 p = 0x23)
    (hrole : s.seg.role = .manager) (hsrc : 2 ≤ f.src % 16) (h1 : s.fromWorker f = some s1)
    (hlen : f.body.length = 6 + 16 * byteAt 2 f.body + 12 * byteAt 3 f.body + 24 * byteAt 4 f.body) (hq : s1.gate.quench = false)
    (h2 : (octetPieces 16 (byteAt 2 f.body) (f.body.drop 6)).foldl (fun s b => s.uwbItem (Item.ofBytes b)) s1 = s2)
    (h3 : (octetPieces 12 (byteAt 3 f.body) (f.body.drop (6 + 16 * byteAt 2 f.body))).foldl
      (fun s b => s.timeRecord (leAt 0 2 f.body) (f.src % 16) b) s2 = s3)
    (h4 : (octetPieces 24 (byteAt 4 f.body) (f.body.drop (6 + 16 * byteAt 2 f.body + 12 * byteAt 3 f.body))).foldl
      (fun s b => s.segEvent (f.src % 16) b) s3 = s4) :
    s.reportIn p = s4.reportedBy (leAt 0 2 f.body) (f.src % 16) := by
  have hfsub : f.sub = 0x23 := (segParse_sub hp).trans hsub
  have hform : (f.sub ≠ 0x23 || s.seg.role ≠ .manager : Bool) = false := by simp [hfsub, hrole]
  have hgo : (f.body.length ≠ 6 + 16 * byteAt 2 f.body + 12 * byteAt 3 f.body + 24 * byteAt 4 f.body || s1.gate.quench : Bool) = false := by
    simp only [← hlen, hq, ne_eq, not_true_eq_false, decide_false, Bool.or_self]
  simp only [State.reportIn, hp, hform, hsrc, h1, hgo, h2, h3, h4, if_true, Bool.false_eq_true, if_false]

/-- An LF_REQUEST that stands is served (R613). -/
theorem lfRequestIn_good {s s1 : State} {p k : Bytes} {f : SegIn} (hp : segParse p = some f) (hsub : byteAt 0 p = 0x24)
    (hlen : f.body.length = 24) (hrole : s.seg.role = .worker) (hq : s.gate.quench = false) (h1 : s.fromManager f = (k, true, s1)) :
    s.lfRequestIn p = s1.lfServe (leAt 0 2 f.body) (byteAt 2 f.body) (byteAt 3 f.body) (leAt 4 4 f.body) (f.body.drop 8) := by
  have hfsub : f.sub = 0x24 := (segParse_sub hp).trans hsub
  have hform : (f.sub ≠ 0x24 || f.body.length ≠ 24 || s.seg.role ≠ .worker : Bool) = false := by simp [hfsub, hlen, hrole]
  simp only [State.lfRequestIn, hp, hform, h1, hq, Bool.not_false, Bool.and_self, Bool.false_eq_true, if_false, if_true]

/-- A JOIN that stands is answered with a fresh nonce and the wrapped K_bc (R605). -/
theorem joinIn_good {s s1 : State} {p l nt : Bytes} {f : SegIn} (hp : segParse p = some f) (hsub : byteAt 0 p = 0x25)
    (htwin : s.isTwin = true) (hsrc : 2 ≤ f.src % 16) (hseg : f.src / 16 = s.seg.segNo) (hdst : f.dst = s.nodeAddr)
    (hlen : f.body.length = 18) (hl : s.linkKey (f.src % 16) = some l) (hmac : cmac64 l f.head = f.mac) (hdraw : s.drawOk = true)
    (hkbc : s.seg.kbc ≠ []) (h1 : (s.segCount 0).draw 16 = (nt, s1)) :
    s.joinIn p = (s1.modNode (f.src % 16) fun w =>
      { w with kNew := some (segSession l (f.body.take 16) nt f.src s.nodeAddr), nonceT := nt }).segSend
        (segSession l (f.body.take 16) nt f.src s.nodeAddr) 0x26 f.src
        (nt ++ toLe 4 (if s.seg.role = .manager then s.seg.tx else s.seg.bcRx) ++
          kwWrap (segSession l (f.body.take 16) nt f.src s.nodeAddr) s.seg.kbc) := by
  have hfsub : f.sub = 0x25 := (segParse_sub hp).trans hsub
  have hform : (!s.isTwin || f.sub ≠ 0x25 || f.src % 16 < 2 || f.src / 16 ≠ s.seg.segNo || f.dst ≠ s.nodeAddr || f.body.length ≠ 18 : Bool) =
      false := by
    simp [htwin, hfsub, Nat.not_lt.2 hsrc, hseg, hdst, hlen]
  have hgo : (!s.drawOk || s.seg.kbc = [] : Bool) = false := by simp [hdraw, hkbc]
  simp only [State.joinIn, hp, hform, hl, hgo, h1, Bool.false_eq_true, if_false]
  simp only [hmac, ne_eq, not_true_eq_false, if_false]

/-- A JOIN_ACK whose K_bc unwraps opens the session; BC_FCNT bounds the broadcasts of the manager in force (R605). -/
theorem joinAck_good {s s1 : State} {p l nw b k : Bytes} {f : SegIn} (hp : segParse p = some f) (hsub : byteAt 0 p = 0x26)
    (hrole : s.seg.role = .worker) (hsrc : f.src % 16 < 2) (hseg : f.src / 16 = s.seg.segNo) (hdst : f.dst = s.nodeAddr)
    (hlen : f.body.length = 44) (hl : s.slotKey (s.g 0x4203 0) = some l) (hnw : (s.mgrLink (f.src % 16)).join = some nw)
    (hk : segSession l nw (f.body.take 16) s.nodeAddr f.src = k) (hmac : cmac64 k f.head = f.mac)
    (hb : kwUnwrap k (f.body.drop 20) = some b)
    (h1 : { (s.segCount 0).modMgr (f.src % 16) fun m => { m with kws := some k, rx := f.fcnt, join := none } with seg.kbc := b } = s1) :
    (s1.mgrNow = none → s.joinAck p = s1) ∧
    (∀ j : Nat, s1.mgrNow = some j → s.joinAck p = s1.modMgr j fun m => { m with bc := max m.bc (leAt 16 4 f.body) }) := by
  have hfsub : f.sub = 0x26 := (segParse_sub hp).trans hsub
  have hform : (s.seg.role ≠ .worker || f.sub ≠ 0x26 || 2 ≤ f.src % 16 || f.src / 16 ≠ s.seg.segNo || f.dst ≠ s.nodeAddr ||
      f.body.length ≠ 44 : Bool) = false := by
    simp [hrole, hfsub, Nat.not_le.2 hsrc, hseg, hdst, hlen]
  refine ⟨fun hnone => ?_, fun j hj => ?_⟩
  · simp only [State.joinAck, hp, hl, hnw, hform, hk, hb, h1, hnone, Bool.false_eq_true, if_false]
    simp only [hmac, ne_eq, not_true_eq_false, if_false]
  · simp only [State.joinAck, hp, hl, hnw, hform, hk, hb, h1, hj, Bool.false_eq_true, if_false]
    simp only [hmac, ne_eq, not_true_eq_false, if_false]

/-- The manager broadcasts HEARTBEAT under K_bc (R603, R618). -/
theorem heartbeatPeriod_manager {s s1 : State} (htwin : s.isTwin = true) (hq : s.gate.quench = false) (hcore : s.pwr.core = true)
    (hdue : s.seg.beatDue ≤ s.now) (h1 : ({ s with seg.beatDue := s.now + s.beat } : State).drawBc = s1) (hrole : s1.seg.role = .manager)
    (hkbc : s1.seg.kbc ≠ []) : s.heartbeatPeriod false = s1.segSend s1.seg.kbc 0x20 0xFFFF s1.beatBody := by
  have hgo : (!s.isTwin || !s.pwr.core || s.gate.quench : Bool) = false := by simp [htwin, hcore, hq]
  simp only [State.heartbeatPeriod, hgo, Nat.not_lt.2 hdue, h1, hrole, hkbc, Bool.false_eq_true, if_false, if_true]

/-- A worker broadcasts PRESENCE with a MAC for either twin (R607). -/
theorem presencePeriod_sent {s : State} {n : Nat} {k0 k1 : Bytes} (hrole : s.seg.role = .worker) (hcore : s.pwr.core = true)
    (hq : s.gate.quench = false) (hdue : s.seg.beatDue ≤ s.now)
    (hheard : s.g 0x1101 0 = 0 → (s.seg.mgrs.all fun m => (m.beat.map fun b => decide (b + 3 * s.beat ≤ s.now)).getD true) = false)
    (hn : s.mgrNow = some n) (h0 : (s.mgrLink 0).kws = some k0) (h1 : (s.mgrLink 1).kws = some k1) {fc : Nat} {head h : Bytes}
    (hfc : (s.seg.tx + 1) % 2 ^ 32 = fc)
    (hhead : [BitVec.ofNat 8 n, BitVec.ofNat 8 (b2n (s.time.qual = 2) + 2 * b2n (s.cap.ch.any (·.touched)))] ++
      toLe 4 (s.mgrLink n).epoch ++ [0, 0] = head)
    (hh : [0x21, 0x02, 0xFF, 0xFF] ++ toLe 2 s.nodeAddr ++ toLe 4 fc ++ toLe 2 16 ++ head = h) :
    s.presencePeriod = ((({ s with seg.tx := fc, seg.beatDue := s.now + s.beat } : State).cxUse 2 (2 * cmacOps 28)).ethSend 2
      (List.replicate 6 0xFF) 0x88B5 (h ++ cmac64 k1 h ++ cmac64 k0 (h ++ cmac64 k1 h))).fcntEnd := by
  have hgo : (s.seg.role ≠ .worker || !s.pwr.core || s.gate.quench || s.now < s.seg.beatDue ||
      (s.g 0x1101 0 = 0 && s.seg.mgrs.all fun m => (m.beat.map fun b => decide (b + 3 * s.beat ≤ s.now)).getD true) : Bool) = false := by
    simp only [hrole, hcore, hq, Nat.not_lt.2 hdue, ne_eq, not_true_eq_false, decide_false, Bool.not_true, Bool.or_self, Bool.false_or,
      Bool.and_eq_false_imp, decide_eq_true_eq]
    exact hheard
  have htx : s.fcntUp.seg.tx = fc := hfc
  simp only [State.presencePeriod, hgo, hn, h0, h1, htx, Option.map_some, Option.getD_some, hhead, hh, Bool.false_eq_true, if_false]
  rw [State.fcntUp, hfc]

/-- JOIN is repeated to the node that has not answered (R605). -/
theorem joinRepeat_first {s s1 : State} (hrole : s.seg.role = .worker) (hcore : s.pwr.core = true) (hq : s.gate.quench = false)
    (hkws : (s.mgrLink 0).kws = none) (hdue : (s.mgrLink 0).due ≤ s.now) (h1 : s.sendJoin 0 = s1) (hother : (s1.mgrLink 1).kws.isSome = true) :
    s.joinRepeat = s1 := by
  have hgo : (s.seg.role ≠ .worker || !s.pwr.core || s.gate.quench : Bool) = false := by simp [hrole, hcore, hq]
  have hnone : (s1.mgrLink 1).kws.isNone = false := Bool.eq_false_iff.2 (isNone_false_of_isSome hother)
  simp only [State.joinRepeat, hgo, List.foldl_cons, List.foldl_nil, hkws, hdue, h1, hnone, Option.isNone_none, decide_true, Bool.and_self,
    Bool.false_and, Bool.false_eq_true, if_false, if_true]

/-- Three periods without PRESENCE make a worker LOST (R606). -/
theorem workerLost_due {s : State} {n seen : Nat} (hon : (s.wnode n).online = true) (hseen : (s.wnode n).seen = some seen)
    (hdue : seen + 3 * s.beat ≤ s.now) : s.workerLost n = s.modNode n fun w => { w with online := false, lost := true } := by
  simp only [State.workerLost, hon, hseen, hdue, Option.map_some, Option.getD_some, decide_true, Bool.and_self, if_true]

/-- Three periods without the peer's HEARTBEAT lose the Wairil path (R625). -/
theorem peerLoss_wl {s : State} {b : Nat} (hcfg : s.twinCfg = true) (hb : s.twin.wlBeat = some b) (hdue : b + ms 3 ≤ s.now) :
    s.peerLoss true = ({ s with twin.wlBeat := none } : State).pathLost := by
  simp only [State.peerLoss, State.wlPathLost, hcfg, hb, hdue, Option.map_some, Option.getD_some, Option.isSome_some, decide_true,
    Bool.not_true, Bool.false_eq_true, if_false, if_true]

/-- Three periods without the peer's HEARTBEAT lose the 10BASE-T1S path (R625). -/
theorem peerLoss_t1s {s : State} {b : Nat} (hcfg : s.twinCfg = true) (hb : s.twin.t1sBeat = some b) (hdue : b + 3 * s.beat ≤ s.now) :
    s.peerLoss false = ({ s with twin.t1sBeat := none, twin.susAt := some s.now } : State).pathLost := by
  simp only [State.peerLoss, hcfg, hb, hdue, Option.map_some, Option.getD_some, decide_true, Bool.not_true, Bool.false_eq_true, if_false,
    if_true]

/-- A command that brings a segment frame by 10BASE-T1S is what the frame does once it is counted. -/
theorem segmentFrame_ends {c : Instr} {t sub : Nat} {p : Bytes} {f : State → State} {s s0 s1 u : State}
    (hc : exec c s = .next (s.run t fun s => s.segRow sub p false f)) (h0 : s.tick t = s0) (hw : s0.wakeHas 8 = true)
    (hcore : s0.pwr.core = true) (ht : s0.t1sHears = true) (hb : byteAt 0 p = sub) (h1 : s0.bump 0x4027 1 = s1) (hf : f s1 = u) :
    Ends c s s0 u :=
  ends_of_run hc h0 ((segRow_t1s hw hcore ht hb h1).trans hf)

/-- Settles O54, command by command. -/
theorem segmentCommandsComplete : Obligations.SegmentCommandsComplete := by
  unfold Obligations.SegmentCommandsComplete
  intro t s s0 s1 h0 h1
  refine ⟨fun hw hcore ht p f hp => ⟨fun hsub hlen hrole hsrc hdst hkbc hok hmgr => ?_, fun s2 hsub htwin hlen h2 => ?_,
      fun k s2 hsub hlen hq h2 => ?_, fun s2 s3 s4 s5 hsub hrole hsrc h2 hlen hq h3 h4 h5 => ?_,
      fun k s2 hsub hlen hrole hq h2 => ?_, fun l nt s2 hsub htwin hsrc hseg hdst hlen hl hmac hdraw hkbc h2 => ?_,
      fun l nw b k s2 hsub hrole hsrc hseg hdst hlen hl hnw hk hmac hb h2 => ?_⟩,
    fun hlive => ⟨fun htwin hq hcore hdue s2 h2 hrole hkbc => ends_of_run rfl h0 ((whenLive_live hlive).trans
        (heartbeatPeriod_manager htwin hq hcore hdue h2 hrole hkbc)),
      fun n k0 k1 hrole hcore hq hdue hheard hn hk0 hk1 => ends_of_run rfl h0 ((whenLive_live hlive).trans
        (presencePeriod_sent hrole hcore hq hdue hheard hn hk0 hk1 rfl rfl rfl)),
      fun s2 hrole hcore hq hkws hdue h2 hother => ends_of_run rfl h0 ((whenLive_live hlive).trans
        (joinRepeat_first hrole hcore hq hkws hdue h2 hother)),
      fun n seen hon hseen hdue => ends_of_run rfl h0 ((whenLive_live hlive).trans
        (congrArg State.twinSettle (workerLost_due hon hseen hdue))),
      ends_of_run rfl h0 (whenLive_live hlive),
      fun b hcfg => ⟨fun hb hdue => ends_of_run rfl h0 ((whenLive_live hlive).trans (peerLoss_wl hcfg hb hdue)),
        fun hb hdue => ends_of_run rfl h0 ((whenLive_live hlive).trans (peerLoss_t1s hcfg hb hdue))⟩⟩⟩
  · exact segmentFrame_ends rfl h0 hw hcore ht hsub h1 (heartbeatIn_worker hp hsub hlen hrole hsrc hdst hkbc hok hmgr)
  · exact segmentFrame_ends rfl h0 hw hcore ht hsub h1 (congrArg State.twinSettle (presenceIn_good hp hsub htwin hlen h2))
  · exact segmentFrame_ends rfl h0 hw hcore ht hsub h1 (planIn_good hp hsub hlen hq h2)
  · exact segmentFrame_ends rfl h0 hw hcore ht hsub h1 (reportIn_good hp hsub hrole hsrc h2 hlen hq h3 h4 h5)
  · exact segmentFrame_ends rfl h0 hw hcore ht hsub h1 (lfRequestIn_good hp hsub hlen hrole hq h2)
  · exact segmentFrame_ends rfl h0 hw hcore ht hsub h1 (joinIn_good hp hsub htwin hsrc hseg hdst hlen hl hmac hdraw hkbc h2)
  · obtain ⟨hfree, hbound⟩ := joinAck_good hp hsub hrole hsrc hseg hdst hlen hl hnw hk hmac hb h2
    exact ⟨fun hnone => segmentFrame_ends rfl h0 hw hcore ht hsub h1 (hfree hnone),
      fun j hj => segmentFrame_ends rfl h0 hw hcore ht hsub h1 (hbound j hj)⟩

end Sys2Proof.Machine
end

section
/-! Twin messages, Tinning, two-sided commit, election and takeover (R620 to R626, R630, R631). -/
namespace Sys2Proof.Machine

/-- An accepted MIRROR is applied by the standby (R622). -/
theorem mirrorIn_good {s s1 : State} {p b : Bytes} (hin : s.twinIn subMirror p = (some b, s1)) (hrole : s.seg.role = .standby)
    (hlen : b.length = 6 + leAt 4 2 b) : s.mirrorIn p = s1.applyMirror (byteAt 0 b) (leAt 2 2 b) (b.drop 6) := by
  simp only [State.mirrorIn, hin, hrole, ← hlen, decide_true, Bool.and_self, if_true]

/-- An accepted TIN_DIGEST pulls the areas that differ and sends those merged both ways (R621). -/
theorem tinDigestIn_good {s s1 s2 : State} {p b k : Bytes} {d : List Nat} (hin : s.twinIn subTinDigest p = (some b, s1))
    (hk : s.ktw = some k) (hrole : s.seg.role = .standby) (hlen : b.length = 76)
    (hd : (List.range 9).filter (fun a => slice (4 + 8 * a) 8 b ≠ s.tinDigest k a) = d)
    (h2 : ({ s1 with twin.diff := d, twin.gen := leAt 0 4 b, twin.rxArea := [] } : State).put 0x4307 0 (d.foldl setBit 0) = s2) :
    s.tinDigestIn p =
      (d.foldl (fun (s : State) a => if tinBoth a then (s.twinSend 0x2D [BitVec.ofNat 8 a, 0]).tinSend a
                                     else s.twinSend 0x2D [BitVec.ofNat 8 a, 0]) s2).tinOver := by
  have hform : (s.seg.role ≠ .standby || b.length ≠ 76 : Bool) = false := by simp [hrole, hlen]
  simp only [State.tinDigestIn, hin, hk, hform, hd, h2, Bool.false_eq_true, if_false, subTinPull]

/-- An accepted TIN_PULL sends the area (R621). -/
theorem tinPullIn_good {s s1 : State} {p b : Bytes} (hin : s.twinIn subTinPull p = (some b, s1)) (hrole : s.seg.role = .manager)
    (hlen : b.length = 2) (harea : byteAt 0 b ≤ 8) :
    s.tinPullIn p = (s1.put 0x4307 0 (setBit (s1.g 0x4307 0) (byteAt 0 b))).tinSend (byteAt 0 b) := by
  simp only [State.tinPullIn, hin, hrole, hlen, harea, decide_true, Bool.and_self, if_true]

/-- An accepted TIN_DATA is gathered, and applied with its last part (R621). -/
theorem tinDataIn_standby {s s1 : State} {p b old : Bytes} (hin : s.twinIn subTinData p = (some b, s1)) (harea : byteAt 0 b ≤ 8)
    (hlen : 8 ≤ b.length) (hrole : s.seg.role = .standby)
    (hold : ((s1.twin.rxArea.find? fun x => x.1 = byteAt 0 b).map (·.2)).getD [] = old) :
    (byteAt 1 b = 0 → s.tinDataIn p = { s1 with
      twin.rxArea := (s1.twin.rxArea.filter fun x => x.1 ≠ byteAt 0 b) ++ [(byteAt 0 b, old.take (leAt 4 4 b) ++ b.drop 8)] }) ∧
    (byteAt 1 b ≠ 0 → s.tinDataIn p =
      ({ ({ s1 with twin.rxArea := s1.twin.rxArea.filter fun x => x.1 ≠ byteAt 0 b } : State).tinApply (byteAt 0 b)
          (old.take (leAt 4 4 b) ++ b.drop 8) with twin.diff := s1.twin.diff.filter (· ≠ byteAt 0 b) } : State).tinOver) := by
  have hgo : (8 < byteAt 0 b || b.length < 8 || (s.seg.role = .manager && !tinBoth (byteAt 0 b)) : Bool) = false := by
    simp [harea, hlen, hrole]
  refine ⟨fun hmore => ?_, fun hlast => ?_⟩
  · simp only [State.tinDataIn, hin, hgo, hold, hmore, Bool.false_eq_true, if_false, if_true]
  · simp only [State.tinDataIn, hin, hgo, hold, hlast, Bool.false_eq_true, if_false]

/-- An accepted COMMIT is judged by the standby (R624). -/
theorem commitIn_good {s s1 : State} {p b : Bytes} (hin : s.twinIn 0x28 p = (some b, s1)) (hrole : s.seg.role = .standby)
    (hlen : b.length = 32) : s.commitIn p = s1.judgeCommit b := by
  simp only [State.commitIn, hin, hrole, hlen, decide_true, Bool.and_self, if_true]

/-- An accepted COMMIT_ACK confirms the advance, or raises its counter on REPLAY (R624). -/
theorem commitAckIn_good {s s1 s2 : State} {p b : Bytes} {a : Advance} (hin : s.twinIn 0x29 p = (some b, s1)) (hrole : s.seg.role = .manager)
    (hlen : b.length = 16) (hout : (s.twin.commits.any fun c => c.cseq = leAt 0 4 b) = true)
    (h2 : ({ s1 with twin.commits := s1.twin.commits.filter fun (c : CommitOut) => c.cseq ≠ leAt 0 4 b } : State) = s2)
    (ha : (s2.acc.adv.find? fun a => a.cseq = leAt 0 4 b) = some a) :
    (byteAt 4 b ≠ Rc.replay → s.commitAckIn p =
      ({ s2 with acc.adv := s2.acc.adv.map fun (x : Advance) =>
          if x.cseq = leAt 0 4 b then { x with twin := true } else x } : State).advSettle) ∧
    (byteAt 4 b = Rc.replay → s.commitAckIn p = s2.commitReplayed a (leAt 8 8 b % 2 ^ 32)) := by
  have hgo : (s.seg.role ≠ .manager || b.length ≠ 16 || !(s.twin.commits.any fun c => c.cseq = leAt 0 4 b) : Bool) = false := by
    rw [hout, hrole, hlen]
    decide
  subst h2
  dsimp only at ha
  refine ⟨fun hcode => ?_, fun hcode => ?_⟩
  · simp only [State.commitAckIn, hin, hgo, ha, hcode, Bool.false_eq_true, if_false]
  · simp only [State.commitAckIn, hin, hgo, ha, hcode, Bool.false_eq_true, if_false, if_true]

/-- TwinTakeover with its key promotes a standby that hears no peer (R630, R631). -/
theorem takeover_promotes {s : State} (hcfg : s.seg.cfg = 2) (hwl : s.wlHeard = false) (ht1s : s.t1sHeard = false)
    (hrole : s.seg.role = .standby) (hst : s.twin.st = .suspect ∨ s.twin.st = .isolated) :
    s.takeover (toLe 2 0x544B) = ((0, 0), s.promote false) := by
  have hkey : leAt 0 2 (toLe 2 0x544B) = 0x544B := leAt_toLe (by decide)
  have hlet : (s.seg.role = .standby && (s.twin.st = .suspect || s.twin.st = .isolated) : Bool) = true := by
    rcases hst with h | h <;> simp [hrole, h]
  simp only [State.takeover, toLe_length, hcfg, hkey, hwl, ht1s, hlet, ne_eq, not_true_eq_false, Bool.or_self, Bool.false_eq_true, if_false,
    if_true]

/-- A majority that names no manager admits this twin at the end of its election (R620). -/
theorem electionTimeout_solo {s s1 : State} {d : Nat} (hst : s.twin.st = .electing) (hd : s.twin.electDue = some d) (hdue : d ≤ s.now)
    (hmaj : s.majority (s.naming 0xFF 0) = true) (hq : s.gate.quench = false) (h1 : s.takeManager = s1) :
    s.electionTimeout = ((({ s1 with twin.st := .solo, twin.wit := true, twin.grace := s.now + 3 * s.beat, twin.electDue := none } :
      State).bump 0x4310 3).twinLog .electing).twinReady := by
  simp only [State.electionTimeout, hst, hd, hdue, hmaj, hq, h1, Option.map_some, Option.getD_some, decide_true, Bool.not_false,
    Bool.and_self, if_true]

/-- A SUSPECT that is not resolved in time becomes ISOLATED with an empty evidence store (R626). -/
theorem twinResolution_isolated {s s1 : State} (h1 : s.twinSettle = s1) (hst : s1.twin.st = .suspect)
    (hdue : s1.twin.since + ms (s1.g 0x4206 0) + 2 * s1.beat ≤ s1.now) :
    s.twinResolution = (({ s1.tsEmpty with twin.st := .isolated } : State).bump 0x4310 4).twinLog .suspect := by
  simp only [State.twinResolution, State.isolate, h1, hst, hdue, decide_true, Bool.and_self, if_true]

/-- The one COMMIT that is overdue is sent again while the peer is heard (R624). -/
theorem commitResend_one {s : State} {b : Nat} {c : CommitOut} (hb : s.twin.t1sBeat = some b) (hc : s.twin.commits = [c])
    (hdue : c.due ≤ s.now) :
    s.commitResend = { s.twinSend 0x28 c.body with twin.commits := [{ c with due := s.now + s.commitWait }] } := by
  simp only [State.commitResend, hb, hc, hdue, Option.isNone_some, Bool.and_false, Bool.false_eq_true, if_false, List.filter_cons_of_pos,
    List.filter_nil, decide_true, List.foldl_cons, List.foldl_nil, List.map_cons, List.map_nil, if_true]

/-- A command that brings a twin message by the Wairil link while it is UP is what the message does. -/
theorem twinFrame_ends {c : Instr} {t sub : Nat} {p : Bytes} {f : State → State} {s s0 u : State}
    (hc : exec c s = .next (s.run t fun s => s.segRow sub p true f)) (h0 : s.tick t = s0) (hw : s0.wakeHas 9 = true)
    (hlive : s0.live = true) (hcore : s0.pwr.core = true) (hwl : s0.net.wl = 2) (hb : byteAt 0 p = sub)
    (hsub : 0x28 ≤ sub ∧ sub ≤ 0x2E) (hf : f s0 = u) : Ends c s s0 u :=
  ends_of_run hc h0 ((segRow_wl hw hlive hcore hwl hb (.inr hsub)).trans hf)

/-- Settles O55, command by command. -/
theorem twinCommandsComplete : Obligations.TwinCommandsComplete := by
  unfold Obligations.TwinCommandsComplete
  intro t s s0 r h0
  refine ⟨fun hw hlive hcore hwl => ⟨fun p b s1 hb hin hrole hlen => ?_, fun p b k s1 s2 d hb hin hk hrole hlen hd h2 => ?_,
      fun p b s1 hb hin hrole hlen harea => ?_, fun p b old s1 hb hin harea hlen hrole hold => ?_,
      fun p b s1 hb hin hrole hlen => ?_, fun p b s1 s2 a hb hin hrole hlen hout h2 ha => ?_⟩,
    fun hcfg => ⟨answers_exec rfl h0 ?_, fun hwl ht1s hrole hst => answers_exec rfl h0 ?_⟩,
    fun hlive => ⟨fun hrole hdue hst hq => ?_, fun d s1 hst hd hdue hmaj hq h1 => ends_of_run rfl h0 ((whenLive_live hlive).trans
        (electionTimeout_solo hst hd hdue hmaj hq h1)),
      fun s1 h1 hst hdue => ends_of_run rfl h0 ((whenLive_live hlive).trans (twinResolution_isolated h1 hst hdue)),
      fun b c hb hc hdue => ends_of_run rfl h0 ((whenLive_live hlive).trans (commitResend_one hb hc hdue))⟩⟩
  · exact twinFrame_ends rfl h0 hw hlive hcore hwl hb (by decide) (mirrorIn_good hin hrole hlen)
  · exact twinFrame_ends rfl h0 hw hlive hcore hwl hb (by decide) (tinDigestIn_good hin hk hrole hlen hd h2)
  · exact twinFrame_ends rfl h0 hw hlive hcore hwl hb (by decide) (tinPullIn_good hin hrole hlen harea)
  · obtain ⟨hmore, hlast⟩ := tinDataIn_standby hin harea hlen hrole hold
    exact ⟨fun h => twinFrame_ends rfl h0 hw hlive hcore hwl hb (by decide) (hmore h),
      fun h => twinFrame_ends rfl h0 hw hlive hcore hwl hb (by decide) (hlast h)⟩
  · exact twinFrame_ends rfl h0 hw hlive hcore hwl hb (by decide) (commitIn_good hin hrole hlen)
  · obtain ⟨hacked, hreplay⟩ := commitAckIn_good hin hrole hlen hout h2 ha
    exact ⟨fun h => twinFrame_ends rfl h0 hw hlive hcore hwl hb (by decide) (hacked h),
      fun h => twinFrame_ends rfl h0 hw hlive hcore hwl hb (by decide) (hreplay h)⟩
  · show ret (if s0.seg.cfg ≠ 2 then ((Rc.range, Dt.notTwin), s0) else ((0, 0), s0.tinStart)) = _
    rw [if_neg (not_not_intro hcfg)]
    rfl
  · show ret (s0.takeover (toLe 2 0x544B)) = _
    rw [takeover_promotes hcfg hwl ht1s hrole hst]
    rfl
  · exact ends_of_run rfl h0 ((whenLive_live hlive).trans (if_pos (by rcases hst with h | h <;> simp [hrole, hdue, h, hq])))

end Sys2Proof.Machine
end

section
/-! Resets, rails, the watchdog and the exit from SHUTDOWN (R634, R640, R647 to R650, R696). -/
namespace Sys2Proof.Machine

/-- What a reset leaves of the units and of the dictionary's port (R648): their reset values. -/
theorem coreReset_units (s : State) (cold : Bool) :
    (s.coreReset cold).uwb = Uwb.reset ∧ (s.coreReset cold).lf = Lf.reset ∧ (s.coreReset cold).ble = Ble.reset ∧
    (s.coreReset cold).seg = Seg.reset ∧ (s.coreReset cold).cx = Cx.reset ∧ (s.coreReset cold).ts = Ts.reset ∧
    (s.coreReset cold).time.qual = 0 ∧ (s.coreReset cold).dict.spi = Dict.reset.spi := by
  cases cold with
  | false => exact ⟨rfl, rfl, rfl, rfl, rfl, rfl, rfl, rfl⟩
  | true => exact ⟨rfl, rfl, rfl, rfl, rfl, rfl, rfl, rfl⟩

/-- A reset taken while the part is not held keeps its own kind and cause (R647). -/
theorem resetTake_released {s : State} (cold : Bool) (cause : Nat) (hheld : s.pwr.held = false) :
    (s.resetTake cold cause).pwr.held = true ∧ (s.resetTake cold cause).pwr.phase = .loading ∧ (s.resetTake cold cause).pwr.cold = cold ∧
    (s.resetTake cold cause).pwr.cause = cause ∧ (s.resetTake cold cause).pwr.pll = false ∧ (s.resetTake cold cause).pwr.refOk = false := by
  have hboth : (s.pwr.held && decide (aonTick s.now = aonTick s.pwr.relAt)) = false := by rw [hheld, Bool.false_and]
  refine ⟨rfl, rfl, ?_, ?_, rfl, rfl⟩
  · simp only [State.resetTake, hboth, Bool.false_and, Bool.or_false]
  · simp only [State.resetTake, hboth, Bool.not_false, if_true]

/-- A loss of VAON ends the tag's transaction unless the tag lives on from the field (R634). -/
theorem vaonLoss_eq {s s1 : State} {step : Nat} (h1 : ({ s.tagPowerLoss step with pwr.vaon := false } : State).resetTake true 0 = s1) :
    (s1.tag.field = true → s.vaonLoss step = s1) ∧
    (s1.tag.field = false → s.vaonLoss step = { s1.tagEndTxn with tag.st := .off, tag.fromHalt := false }) := by
  subst h1
  exact ⟨fun hf => if_pos hf, fun hf => if_neg (Bool.eq_false_iff.1 hf)⟩

/-- An enabled one of the sources that end a SHUTDOWN is a reset of cause 7 (R640, R641). -/
theorem shutdownExit_enabled {s : State} {i : Nat} (hlo : 5 ≤ i) (hhi : i ≤ 7) (hshut : s.pwr.shut = true)
    (hen : bit (s.g 0x1104 0) i = true) : s.shutdownExit i = s.resetTake false 7 := by
  have hsrc : i = 5 ∨ i = 6 ∨ i = 7 := by omega
  exact if_pos (by simp [hshut, hen, or_assoc, hsrc])

/-- Settles O56, command by command. -/
theorem resetAndSupplyCommandsComplete : Obligations.ResetAndSupplyCommandsComplete := by
  unfold Obligations.ResetAndSupplyCommandsComplete
  refine ⟨fun t s s0 h0 => ⟨ends_of_run rfl h0 rfl, fun step s1 h1 => ?_, ends_of_run rfl h0 rfl, ends_of_run rfl h0 rfl,
      ends_of_run rfl h0 rfl, fun hvaon => ends_of_run rfl h0 (if_pos hvaon),
      fun hcore hpll => ends_of_run rfl h0 (if_pos (by simp [hcore, hpll])),
      fun hcore hpll hheld hdue => ends_of_run rfl h0 (if_pos (by simp [hcore, hpll, hheld, hdue])),
      fun hshut => ends_of_run rfl h0 (if_pos (by simp [hshut])),
      fun i hlo hhi hshut hen => ends_of_run rfl h0 (shutdownExit_enabled hlo hhi hshut hen)⟩,
    fun s cold cause hheld => ?_⟩
  · obtain ⟨hfield, hoff⟩ := vaonLoss_eq h1
    exact ⟨fun h => ends_of_run rfl h0 (hfield h), fun h => ends_of_run rfl h0 (hoff h)⟩
  · obtain ⟨hhold, hphase, hcold, hcause, hpll, href⟩ := resetTake_released cold cause hheld
    obtain ⟨huwb, hlf, hble, hseg, hcx, hts, hqual, hspi⟩ := coreReset_units s
      (cold || (s.pwr.held && decide (aonTick s.now = aonTick s.pwr.relAt)) && s.pwr.cold)
    exact ⟨hhold, hphase, hcold, hcause, hpll, href, huwb, hlf, hble, hseg, hcx, hts, hqual, hspi⟩

end Sys2Proof.Machine
end

section
/-! Start-up, SHUTDOWN, power-down and wake (R636 to R643, R651, R652). -/
namespace Sys2Proof.Machine

/-- The release of a reset runs the start-up sequence to the self-test (R651). -/
theorem resetRelease_starts {s s1 s2 : State} {twinId : Bool} {qsType : Nat} {qsId : Bytes} {qsKb : Nat} (hheld : s.pwr.held = true)
    (hvaon : s.pwr.vaon = true) (hcause : s.pwr.cause ≠ 6)
    (h1 : ({ s with
      pwr := { s.pwr with held := false, vsup := true, refOk := false, phase := .loading, relAt := s.now, rcntAt := s.now, wdtAt := s.now },
      seg.twinId := twinId, eng.cyc0 := s.now, bg.passAt := s.now, time.at_ := s.now, rng := .reset, net.qsType := qsType, net.qsId := qsId,
      net.qsKb := qsKb } : State) = s1)
    (h2 : (s1.loadBank.roleStart.journalScan).logDeferred = s2) :
    s.resetRelease twinId qsType qsId qsKb =
      { s2 with pwr.phase := .selftest,
                gate.immo.next := if s2.gate.startEn && s2.g 0x2420 0 = 1 then some (s2.now + ms (s2.g 0x2426 0)) else none } := by
  have hgo : ¬(!s.pwr.held || !s.pwr.vaon || (s.pwr.cause = 6 && !s.pwr.refOk) : Bool) = true := by simp [hheld, hvaon, hcause]
  unfold State.resetRelease
  rw [if_neg hgo, h1]
  dsimp only
  rw [h2]

/-- A passed self-test with no cause of Quench on a node without a twin enables the units and reaches ACCESS_READY (R652). -/
theorem startTestDone_passed {s s1 : State} (hphase : s.pwr.phase = .selftest) (hheld : s.pwr.held = false) (hcore : s.pwr.core = true)
    (hclk : s.clocksOk = true) (hcores : presence s.fuse.variant &&& 0x00F00000 ≠ 0) (hbad : s.keys.bad = [])
    (h1 : (s.put 0x1021 0 0).unitsOn 0 = s1) (hq : s1.gate.quench = false) (hcfg : s1.seg.cfg ≠ 2) :
    s.startTestDone 0 false false = s1.accessReady := by
  have hgo : (s.pwr.phase ≠ .selftest || s.pwr.held || !s.pwr.core || !s.clocksOk : Bool) = false := by simp [hphase, hheld, hcore, hclk]
  have hlive : (false || (0 : Nat) = presence s.fuse.variant &&& 0x00F00000 : Bool) = false := by simpa using Ne.symm hcores
  simp only [State.startTestDone, hgo, Nat.zero_and, Bool.or_self, Bool.false_eq_true, if_false, if_true, hlive, hbad, h1, hq, hcfg]

/-- A fold over slots that passes the free ones by is the fold over what the others hold. -/
theorem foldl_slots {α β : Type} {f : β → Option α → β} {g : β → α → β} (hfree : ∀ b, f b none = b) (hheld : ∀ b x, f b (some x) = g b x)
    (l : List (Option α)) (b : β) : l.foldl f b = (l.filterMap id).foldl g b := by
  induction l generalizing b with
  | nil => rfl
  | cons o l ih =>
    cases o with
    | none => exact (congrArg (fun b => l.foldl f b) (hfree b)).trans (ih b)
    | some x => exact (congrArg (fun b => l.foldl f b) (hheld b x)).trans (ih _)

/-- PwrShutdown with its key ends the sessions and is timed (R639). -/
theorem shutdown_timed {s s1 : State} (hen : s.gate.startEn = false) (hdrive : s.acc.drive = none) (hentry : s.acc.entry = [])
    (hstart : s.acc.start = [])
    (h1 : ((s.acc.ses.filterMap id).foldl (fun (s : State) x => s.endSession x.tsh (some (Rc.notReady, 0))) s).netDropAll = s1) :
    s.shutdown (toLe 2 0x5344) = ((0, 0), { s1.putFloor with pwr.shutDue := some (s.now + ms 1) }) := by
  have hkey : leAt 0 2 (toLe 2 0x5344) = 0x5344 := leAt_toLe (by decide)
  have hgo : (s.gate.startEn || s.acc.drive.isSome || s.acc.entry ≠ [] || s.acc.start ≠ [] : Bool) = false := by
    simp [hen, hdrive, hentry, hstart]
  simp only [State.shutdown, hgo, Bool.false_eq_true, if_false]
  rw [toLe_length, if_neg (not_not_intro rfl), if_neg (not_not_intro hkey),
    foldl_slots (g := fun (s : State) x => s.endSession x.tsh (some (Rc.notReady, 0))), h1]
  · exact fun _ => rfl
  · exact fun _ _ => rfl

/-- CORE powers down for a SHUTDOWN whose time has come (R639). -/
theorem corePowerDown_shutdown {s : State} {d : Nat} (hcore : s.pwr.core = true) (hheld : s.pwr.held = false) (hd : s.pwr.shutDue = some d)
    (hdue : d ≤ s.now) (hcommit : s.dict.commit = none) (huwb : s.rfc.uwb.run = none) (hble : s.rfc.ble.run = none) :
    s.corePowerDown = { s.coreDown with pwr.shut := true, pwr.shutDue := none } := by
  simp only [State.corePowerDown, hcore, hheld, hd, hdue, hcommit, huwb, hble, Bool.not_true, Bool.or_self, Bool.false_eq_true, if_false,
    Option.isNone_none, decide_true, Bool.and_self, if_true]

/-- CORE powers down once nothing has held it up for PwrIdleDelay (R636). -/
theorem corePowerDown_idle {s : State} {i : Nat} (hcore : s.pwr.core = true) (hheld : s.pwr.held = false) (hd : s.pwr.shutDue = none)
    (hi : s.pwr.idleAt = some i) (hdue : i + ms (s.g 0x1103 0) ≤ s.now) (hidle : s.coreIdle = true) : s.corePowerDown = s.coreDown := by
  simp only [State.corePowerDown, hcore, hheld, hd, hi, hdue, hidle, Bool.not_true, Bool.or_self, Bool.false_eq_true, if_false,
    Option.map_some, Option.getD_some, decide_true, Bool.and_self, if_true]

/-- An enabled source wakes CORE (R641, R642). -/
theorem coreWake_enabled {s : State} {src : Nat} (hcore : s.pwr.core = false) (hshut : s.pwr.shut = false) (hheld : s.pwr.held = false)
    (hsrc : s.wakeMask src ≠ 0) : s.coreWake src = s.coreWakeOn (s.wakeMask src) :=
  if_neg (by simp [hcore, hshut, hheld, hsrc])

/-- Settles O57, command by command. -/
theorem startUpAndSleepCommandsComplete : Obligations.StartUpAndSleepCommandsComplete := by
  unfold Obligations.StartUpAndSleepCommandsComplete
  intro t s s0 r h0
  refine ⟨fun twinId qsType qsId qsKb s1 s2 hheld hvaon hcause h1 h2 => ends_of_run rfl h0 (resetRelease_starts hheld hvaon hcause h1 h2),
    fun s1 hphase hheld hcore hclk hcores hbad h1 hq hcfg => ends_of_run rfl h0
      (startTestDone_passed hphase hheld hcore hclk hcores hbad h1 hq hcfg),
    fun s1 hen hdrive hentry hstart h1 => answers_exec rfl h0 ?_,
    fun hcore hheld => ⟨fun d hd hdue hcommit huwb hble => ends_of_run rfl h0 (corePowerDown_shutdown hcore hheld hd hdue hcommit huwb hble),
      fun i hd hi hdue hidle => ends_of_run rfl h0 (corePowerDown_idle hcore hheld hd hi hdue hidle)⟩,
    fun hcore hshut hheld => ⟨fun src hsrc => ends_of_run rfl h0 (coreWake_enabled hcore hshut hheld hsrc),
      fun hdue => ends_of_run rfl h0 ?_⟩⟩
  · show ret (s0.shutdown (toLe 2 0x5344)) = _
    rw [shutdown_timed hen hdrive hentry hstart h1]
    rfl
  · exact if_neg (by simp [hcore, hshut, hheld, hdue])

end Sys2Proof.Machine
end

section
/-! The PLL, the reference monitor, the slow clock and its ratio (R643 to R646). -/
namespace Sys2Proof.Machine

/-- A PLL that locks while the part runs, by what stopped it (R643): a loss of lock, a power-down of CORE, or a start-up. -/
theorem pllLock_running {s : State} (hpll : s.pwr.pll = false) (hheld : s.pwr.held = false) (hcore : s.pwr.core = true)
    (hvsup : s.pwr.vsup = true) :
    (∀ l : Nat, s.pwr.lostAt = some l → s.pllLock =
      ({ s with pwr.pll := true, pwr.lostAt := none, pwr.rcntAt := s.pwr.rcntAt + (s.now - l), pwr.wdtAt := s.pwr.wdtAt + (s.now - l),
                eng.cyc0 := s.eng.cyc0 + (s.now - l), time.at_ := s.time.at_ + (s.now - l) } : State).tmrResume.logClock) ∧
    (∀ dn : Nat, s.pwr.lostAt = none → s.pwr.downAt = some dn → s.pllLock =
      ({ s with pwr.pll := true, pwr.downAt := none, pwr.rcntAt := s.now,
                time.base := s.time.base + ((aonTick s.now - aonTick dn) * s.g 0x1111 0 / 65536) * 2 * s.timeInc, time.at_ := s.now,
                dict.spi.alive := true } : State).tmrResume.sourcesUp) ∧
    (s.pwr.lostAt = none → s.pwr.downAt = none → s.pllLock =
      ({ s with pwr.pll := true, pwr.rcntAt := s.now, eng.cyc0 := s.now, time.at_ := s.now,
                dict.spi.alive := true } : State).tmrResume.sourcesUp.startCal) := by
  have hgo : ¬(s.pwr.pll || s.pwr.held || !s.pwr.core || !s.pwr.vsup) = true := by simp [hpll, hheld, hcore, hvsup]
  unfold State.pllLock
  rw [if_neg hgo]
  refine ⟨fun l hl => ?_, fun dn hl hd => ?_, fun hl hd => ?_⟩
  · simp only [hl]
  · simp only [hl, hd, State.cksOfTicks]
  · simp only [hl, hd]

/-- A loss of lock holds the units (R643). -/
theorem pllLost_locked {s : State} (hpll : s.pwr.pll = true) :
    s.pllLost = ({ (s.tmrDown.timeSettle) with pwr.pll := false, pwr.lostAt := some s.now } : State).errBit 1 0x1100 0 0 := by
  unfold State.pllLost
  rw [hpll, Bool.not_true, if_neg Bool.false_ne_true]

/-- No relock within 1 ms is a reset of cause CLOCK (R643). -/
theorem relockTimeout_over {s : State} {l : Nat} (hl : s.pwr.lostAt = some l) (hdue : l + ms 1 ≤ s.now) :
    s.relockTimeout = s.resetTake false 6 := by
  simp only [State.relockTimeout, hl, hdue, Option.map_some, Option.getD_some, decide_true, if_true]

/-- A reference outside its window (R644). -/
theorem refLoss_running {s : State} (hcore : s.pwr.core = true) :
    (s.mayDecide = true → s.refLoss = s.quench 2) ∧ (s.mayDecide = false → s.refLoss = s.resetTake false 6) := by
  unfold State.refLoss
  rw [hcore, Bool.not_true, if_neg Bool.false_ne_true]
  exact ⟨fun h => if_pos h, fun h => if_neg (Bool.eq_false_iff.1 h)⟩

/-- A crystal that stops gives the slow clock back to the RC (R645). -/
theorem xtalFail_running {s : State} (hrc : s.pwr.slowRc = false) :
    s.xtalFail = (({ s with pwr.slowRc := true, pwr.xtalFail := true, pwr.xtalDone := true } : State).errBit 1 0x1100 0 0).logClock := by
  unfold State.xtalFail
  rw [if_neg (Bool.eq_false_iff.1 hrc)]

/-- A measured ratio is filtered, and a jump of more than 500 ppm is logged (R646). -/
theorem ratioMeasure_filtered {s : State} {cycles : Nat} {v : Int} (hcks : s.cksOn = true)
    (hv : (s.g 0x1111 0 : Int) + ((cycles * 256 : Nat) - (s.g 0x1111 0 : Int)) / 4 = v) :
    s.ratioMeasure cycles =
      if 500 * (s.g 0x1111 0 : Int) < 1000000 * (v - (s.g 0x1111 0 : Int)).natAbs then (s.put 0x1111 0 (toTwos 32 v)).logClock
      else s.put 0x1111 0 (toTwos 32 v) := by
  simp only [State.ratioMeasure, hcks, Bool.not_true, Bool.false_eq_true, if_false, hv]

/-- Settles O58, command by command. -/
theorem clockCommandsComplete : Obligations.ClockCommandsComplete := by
  unfold Obligations.ClockCommandsComplete
  intro t s s0 h0
  refine ⟨fun hpll hheld hcore hvsup => ?_, fun hpll => ends_of_run rfl h0 (pllLost_locked hpll),
    fun l hl hdue => ends_of_run rfl h0 (relockTimeout_over hl hdue),
    fun hcore hvaon => ends_of_run rfl h0 (if_pos (by simp [hcore, hvaon])),
    fun hcore => ⟨fun h => ends_of_run rfl h0 ((refLoss_running hcore).1 h), fun h => ends_of_run rfl h0 ((refLoss_running hcore).2 h)⟩,
    fun hsel hrc hdone hvaon => ends_of_run rfl h0 (if_pos (by simp [hsel, hrc, hdone, hvaon])),
    fun hrc => ends_of_run rfl h0 (xtalFail_running hrc), fun cycles v hlive hv => ?_⟩
  · obtain ⟨hrelock, hwake, hstart⟩ := pllLock_running hpll hheld hcore hvsup
    exact ⟨fun l hl => ends_of_run rfl h0 (hrelock l hl), fun dn hl hd => ends_of_run rfl h0 (hwake dn hl hd),
      fun hl hd => ends_of_run rfl h0 (hstart hl hd)⟩
  · have hcks : s0.cksOn = true := (Bool.and_eq_true_iff.1 hlive).1
    exact ⟨fun hjump => ends_of_run rfl h0 ((whenLive_live hlive).trans ((ratioMeasure_filtered hcks hv).trans (if_pos hjump))),
      fun hcalm => ends_of_run rfl h0 ((whenLive_live hlive).trans ((ratioMeasure_filtered hcks hv).trans (if_neg (Int.not_lt.2 hcalm))))⟩

end Sys2Proof.Machine
end

section
/-! The timer channels (R653 to R660). -/
namespace Sys2Proof.Machine

/-- A timer object written is stored by the unit; the engine GPIO limit follows the pins of a waveform channel (R263, R653). -/
theorem applyWrite_tmr {s s1 : State} {n sub v : Nat} {who : Requester} {data : Bytes} {hold : State → State} (hn : n < 12)
    (h1 : s.tmrSettle n = s1) (hhold : (fun u => if n < 8 then u else s1.gpioHolds u) = hold) (hv : leNat data = v) :
    s.applyWrite who (0x1210 + n) sub data = ((s.storeTmr n sub v).1, hold (s.storeTmr n sub v).2) := by
  subst h1 hhold hv
  have heng : ¬0x8000 ≤ 0x1210 + n := by omega
  by_cases h8 : n < 8
  · have htmr : inR 0x1210 0x1217 (0x1210 + n) = true := by simp only [inR, Bool.and_eq_true, decide_eq_true_eq]; omega
    simp only [State.applyWrite, heng, htmr, h8, Nat.add_sub_cancel_left, if_true, if_false]
  · have htmr : inR 0x1210 0x1217 (0x1210 + n) = false := by
      simp only [inR, Bool.and_eq_false_iff, decide_eq_false_iff_not]; omega
    have hwave : inR 0x1218 0x121B (0x1210 + n) = true := by simp only [inR, Bool.and_eq_true, decide_eq_true_eq]; omega
    simp only [State.applyWrite, heng, htmr, hwave, h8, Nat.add_sub_cancel_left, if_true, if_false, Bool.false_eq_true]

/-- TmrCtrl with RUN starts a stopped channel (R655). -/
theorem tmrCtrl_starts {s s1 : State} {n v : Nat} (h1 : s.tmrSettle n = s1) (hv : bit v 19 = true) (hrun : (s1.tmrOf n).run = false) :
    s.tmrCtrl n v = s1.setTmr n (({ s1.tmrOf n with ctrl := clrBit v 19 } : Tmr).start (8 ≤ n) s1.now) := by
  simp only [State.tmrCtrl, h1, hv, hrun, if_true, Bool.false_eq_true, if_false]

/-- TmrCtrl without RUN stops the channel (R655). -/
theorem tmrCtrl_stops {s s1 : State} {n v : Nat} (h1 : s.tmrSettle n = s1) (hv : bit v 19 = false) :
    s.tmrCtrl n v = s1.setTmr n { s1.tmrOf n with ctrl := clrBit v 19, run := false } := by
  simp only [State.tmrCtrl, h1, hv, Bool.false_eq_true, if_false]

/-- TmrEnd above the count moves the end of a timeout-class channel (R655). -/
theorem tmrEnd_above {s s1 : State} {n v : Nat} (h1 : s.tmrSettle n = s1) (hn : n < 8) (hv : (s1.tmrOf n).base < v) :
    s.tmrEnd n v = s1.setTmr n { s1.tmrOf n with end_ := v } := by
  simp only [State.tmrEnd, h1, hn, Nat.not_le.2 hv, decide_false, Bool.and_false, Bool.false_eq_true, if_true, if_false]

/-- TmrCmp above the count arms the compare of a running timeout-class channel (R656). -/
theorem tmrCmp_above {s s1 : State} {n v : Nat} (h1 : s.tmrSettle n = s1) (hn : n < 8) (hrun : (s1.tmrOf n).run = true)
    (hv : (s1.tmrOf n).base < v) : s.tmrCmp n v = s1.setTmr n { s1.tmrOf n with cmp := v, armed := true } := by
  simp only [State.tmrCmp, h1, Nat.not_le.2 hn, hrun, hv, decide_false, Bool.not_true, Bool.or_self, Bool.false_eq_true, if_true, if_false]

/-- A read of TmrCapture clears CAPTURE, or leaves what stood before a latch of the same cycle (R659). -/
theorem tmrCapRead_eq {s : State} {n st : Nat}
    (hst : (s.tmrOf n).capBefore s.now = none ∧ st = clrBit (s.tmrOf n).stat 7 ∨
      ∃ w, (s.tmrOf n).capBefore s.now = some w ∧ st = putBit (s.tmrOf n).stat 8 (bit w.2 8)) :
    s.tmrCapRead n = { s with tmr := putAt s.tmr n { s.tmrOf n with stat := st } } := by
  rcases hst with ⟨hnone, rfl⟩ | ⟨w, hw, rfl⟩
  · simp only [State.tmrCapRead, hnone]
  · simp only [State.tmrCapRead, hw]

/-- A read of TmrCapture takes its effect on the channel (R659). -/
theorem readEffect_tmrCapture {s : State} {n : Nat} (hn : n < 12) : s.readEffect (0x1210 + n) 6 = s.tmrCapRead n := by
  have hcap : inR 0x1210 0x121B (0x1210 + n) = true := by simp only [inR, Bool.and_eq_true, decide_eq_true_eq]; omega
  simp only [State.readEffect, hcap, decide_true, Bool.and_self, if_true, Nat.add_sub_cancel_left]

/-- A running channel brought to the present where no pending TOP was taken (R654). -/
theorem tmrSettle_keepsPend {s : State} {n : Nat} {c c1 : Tmr} (hcks : s.cksOn = true) (hc : s.tmrOf n = c) (hrun : c.run = true)
    (h1 : c.settle (8 ≤ n) s.now = c1) (hpend : c1.pend = c.pend) : s.tmrSettle n = s.setTmr n c1 := by
  have hhold : s.topHold c c1 = s := if_neg (by cases h : c.pend <;> simp [hpend, h])
  simp only [State.tmrSettle, hcks, hc, hrun, h1, hhold, Bool.and_self, if_true]

/-- A running timeout-class channel that counts `k` further. -/
theorem settle_timeout {c : Tmr} {n k t : Nat} (hn : n < 8) (hrun : c.run = true) (hk : (t - c.at_) / c.unit = k) (hpos : 0 < k) :
    c.settle (8 ≤ n) t = ({ c with at_ := c.at_ + k * c.unit } : Tmr).countTimeout k 0 := by
  simp only [Tmr.settle, hrun, hk, Nat.ne_of_gt hpos, Nat.not_le.2 hn, decide_false, Bool.false_eq_true, if_true, if_false]

/-- A running waveform channel that counts `k` further. -/
theorem settle_wave {c : Tmr} {n k t : Nat} (hn : 8 ≤ n) (hrun : c.run = true) (hk : (t - c.at_) / c.unit = k) (hpos : 0 < k) :
    c.settle (8 ≤ n) t = ({ c with at_ := c.at_ + k * c.unit } : Tmr).countWave k := by
  simp only [Tmr.settle, hrun, hk, Nat.ne_of_gt hpos, hn, decide_true, if_true, if_false]

theorem matchTo_pend (c : Tmr) (b extra : Nat) : (c.matchTo b extra).pend = c.pend := by
  unfold Tmr.matchTo
  split <;> rfl

theorem waveMove_pend (c : Tmr) (n : Nat) : (c.waveMove n).pend = c.pend := by
  unfold Tmr.waveMove
  split
  · split <;> rfl
  · rfl

/-- A timeout-class channel that reaches END stops there with END set (R655). -/
theorem countTimeout_end {c : Tmr} {k : Nat} (hend : c.end_ ≤ c.base + k) :
    c.countTimeout k 0 = ({ c.matchTo c.end_ 0 with base := c.end_, run := false } : Tmr).flag 1 := by
  simp only [Tmr.countTimeout, hend, if_true, Nat.or_zero]

/-- A timeout-class channel that reaches its compare below END sets MATCH (R656). -/
theorem countTimeout_match {c : Tmr} {k : Nat} (hend : c.base + k < c.end_) (harmed : c.armed = true) (hcmp : c.cmp ≤ c.base + k) :
    c.countTimeout k 0 = { ({ c with armed := false } : Tmr).flag 2 with base := c.base + k } := by
  simp only [Tmr.countTimeout, Tmr.matchTo, Nat.not_le.2 hend, harmed, hcmp, decide_true, Bool.and_self, if_true, if_false, Nat.or_zero]

/-- A waveform channel that passes CMPB alone sets MATCH_B (R657). -/
theorem countWave_matchB {c : Tmr} {k : Nat} (hzero : k < c.toZero) (hcmp : waveMeets c.base c.end_ c.up k c.cmp = false)
    (hcmpB : waveMeets c.base c.end_ c.up k c.cmpB = true) : c.countWave k = (c.flag 4).waveMove k := by
  simp only [Tmr.countWave, Tmr.waveFlags, hzero, hcmp, hcmpB, Bool.false_eq_true, if_true, if_false]

/-- A waveform channel at its zero turning point, with a TOP that is not 0 (R657, R658). -/
theorem countWave_zero {c : Tmr} {k : Nat} (hzero : c.toZero = k) (htop : (c.waveFlags k).zeroTurn.end_ ≠ 0) :
    c.countWave k = (((c.waveFlags k).zeroTurn).waveFlags 0).waveMove 0 := by
  have hper : ¬2 * (c.waveFlags k).zeroTurn.end_ = 0 := by omega
  simp only [Tmr.countWave, hzero, Nat.lt_irrefl, Nat.sub_self, hper, Nat.pos_of_ne_zero hper, if_true, if_false]

/-- A selected edge on the channel's source latches the count two CKS cycles later (R659). -/
theorem tmrCapture_latched {s s1 : State} {n src : Nat} {rising : Bool} (h1 : s.tmrSettle n = s1) (hcks : s1.cksOn = true)
    (hrun : (s1.tmrOf n).run = true) (hsrc : src ≠ 0) (hsel : bits (s1.tmrOf n).ctrl 8 4 = src) (hedge : bits (s1.tmrOf n).ctrl 6 2 = 2) :
    s.tmrCapture n src rising = s1.setTmr n (({ s1.tmrOf n with
        cap := ((s1.tmrOf n).settle (8 ≤ n) (s1.now + cks 2)).base,
        capWas := some (s1.now / 10 + 2, (s1.tmrOf n).cap, (s1.tmrOf n).stat) } : Tmr).flag
      (if bit (s1.tmrOf n).stat 7 then 0x100 else 0x80)) := by
  have hgo : (s1.cksOn && (s1.tmrOf n).run && src ≠ 0 && bits (s1.tmrOf n).ctrl 8 4 = src &&
      (bits (s1.tmrOf n).ctrl 6 2 = 2 || (bits (s1.tmrOf n).ctrl 6 2 = 0 && rising) || (bits (s1.tmrOf n).ctrl 6 2 = 1 && !rising)) :
      Bool) = true := by
    simp [hcks, hrun, hsrc, hsel, hedge]
  simp only [State.tmrCapture, h1, hgo, if_true]
  cases bit (s1.tmrOf n).stat 7 <;> rfl

/-- Settles O59, command by command. -/
theorem timerCommandsComplete : Obligations.TimerCommandsComplete := by
  unfold Obligations.TimerCommandsComplete
  intro t n s s0 s1 r h0 hn h1
  have hidx : 0x1210 + n < 0x8000 := by omega
  refine ⟨fun v hold hv hhold => ?_, fun st hst => answers_read rfl h0 ?_, fun c c1 k hlive hc hrun hk hpos hc1 => ?_,
    fun src rising hlive hcks hrun hsrc hsel hedge => ends_of_run rfl h0 ((whenLive_live hlive).trans
      (tmrCapture_latched h1 hcks hrun hsrc hsel hedge))⟩
  · have hword : leNat (toLe 4 v) = v := leNat_toLe hv
    have hplain : n < 8 → ∀ u, hold u = u := fun h8 u => by subst hhold; exact if_pos h8
    refine ⟨fun hgo hstop => answers_write rfl h0 hidx ?_, fun hstop => answers_write rfl h0 hidx ?_,
      fun s2 h8 hbase h2 hpend => answers_write rfl h0 hidx ?_, fun h8 hgo hbase => answers_write rfl h0 hidx ?_,
      fun hv16 => answers_write rfl h0 hidx ?_⟩
    · rw [applyWrite_tmr hn h1 hhold hword, ← tmrCtrl_starts h1 hgo hstop]
      rfl
    · rw [applyWrite_tmr hn h1 hhold hword, ← tmrCtrl_stops h1 hstop]
      rfl
    · rw [applyWrite_tmr hn h1 hhold hword, hplain h8]
      simp only [State.storeTmr, tmrEnd_above h1 h8 hbase, h2, hpend, Option.isSome_none, Bool.false_eq_true, if_false]
    · rw [applyWrite_tmr hn h1 hhold hword, hplain h8, ← tmrCmp_above h1 h8 hgo hbase]
      rfl
    · rw [applyWrite_tmr hn h1 hhold (leNat_toLe hv16)]
      subst h1
      rfl
  · rw [serveRead_value (by omega) (by omega), readEffect_tmrCapture hn, tmrCapRead_eq hst]
  · have hcks : s0.cksOn = true := (Bool.and_eq_true_iff.1 hlive).1
    subst hc1
    refine ⟨fun h8 hend => ?_, fun h8 hend harmed hcmp => ?_, fun h8 hzero hcmp hcmpB => ?_, fun c2 h8 hzero htop h2 => ?_⟩
    · exact ends_of_run rfl h0 ((whenLive_live hlive).trans (tmrSettle_keepsPend hcks hc hrun
        ((settle_timeout h8 hrun hk hpos).trans (countTimeout_end hend)) (matchTo_pend _ _ _)))
    · exact ends_of_run rfl h0 ((whenLive_live hlive).trans (tmrSettle_keepsPend hcks hc hrun
        ((settle_timeout h8 hrun hk hpos).trans (countTimeout_match hend harmed hcmp)) rfl))
    · exact ends_of_run rfl h0 ((whenLive_live hlive).trans (tmrSettle_keepsPend hcks hc hrun
        ((settle_wave h8 hrun hk hpos).trans (countWave_matchB hzero hcmp hcmpB)) (waveMove_pend _ _)))
    · have hsettle : c.settle (8 ≤ n) s0.now = c2 := (settle_wave h8 hrun hk hpos).trans ((countWave_zero hzero htop).trans h2)
      refine ends_of_run rfl h0 ((whenLive_live hlive).trans ?_)
      simp only [State.tmrSettle, hcks, hc, hrun, hsettle, Bool.and_self, if_true]

end Sys2Proof.Machine
end

section
/-! Burnish, the thermal and duty limiter, CAN telemetry and the event log's memories (R665 to R683). -/
namespace Sys2Proof.Machine

/-- A step of Burnish that is behind its target reads one word (R667). -/
theorem burnishStep_behind {s : State} {err part word item : Nat} (hcore : s.pwr.core = true) (hidle : s.envmIdle = true)
    (hpos : s.bg.pos < s.burnishTarget) : s.burnishStep err part word item = (s.scrubWord err part word item).burnishNext :=
  if_pos (by simp [hcore, hidle, hpos])

/-- CAN telemetry that is due sends the state and raises its counter (R674). -/
theorem canTelemetry_due {s : State} (hport : s.g 0x6030 1 ≠ 0xFF) (hcore : s.pwr.core = true) (hdue : s.bg.canDue ≤ s.now) :
    s.canTelemetry = { s.canSend (s.g 0x6030 1) ⟨3, none, 0, 0, 0, 0, s.g 0x6030 2, 0, 0,
        [BitVec.ofNat 8 s.gateSummary, BitVec.ofNat 8 s.bg.stage] ++ toLe 2 (s.g 0x3214 0) ++
          [BitVec.ofNat 8 (twinCode s.twin.st), BitVec.ofNat 8 s.time.qual, BitVec.ofNat 8 (s.g 0x1028 0), BitVec.ofNat 8 s.bg.canCnt],
        0, 0⟩ with
      bg.canCnt := (s.bg.canCnt + 1) % 256, bg.canDue := s.now + ms (s.g 0x6030 3) } := by
  have hgo : (s.g 0x6030 1 = 0xFF || !s.pwr.core || s.now < s.bg.canDue : Bool) = false := by
    simp only [hport, hcore, Nat.not_lt.2 hdue, decide_false, Bool.not_true, Bool.or_self]
  simp only [State.canTelemetry, hgo, Bool.false_eq_true, if_false]

/-- The oldest buffered record enters the head while the memory is free (R679, R680). -/
theorem headWrite_idle {s s1 : State} {e : LogRec} {rest : List LogRec} (hbuf : s.log.buf = e :: rest) (hcore : s.pwr.core = true)
    (hidle : s.envmIdle = true) (h1 : s.headEvict (e.seq % 1024) = s1) :
    s.headWrite = (({ s1 with log.buf := rest, log.head := (e.seq % 1024, e) :: s1.log.head.filter (fun p => p.1 ≠ e.seq % 1024) } :
      State).bump 0x6107 1).reportLost := by
  simp only [State.headWrite, hbuf, hcore, hidle, h1, Bool.not_true, Bool.or_self, Bool.false_eq_true, if_false]

/-- A full sector starts its write to the log memory (R683). -/
theorem sectorWrite_ready {s s1 : State} {first : Bool} {q : Nat} (h1 : s.boundary .bNextSector = s1) (hst : s1.logState = 1)
    (hfree : s1.log.sector = none) (hsectors : s1.logSectors ≠ 0) (hcore : s1.pwr.core = true) (hq : s1.sectorReady = some q) :
    s.sectorWrite first = ({ s1 with log.sector := some (q, !(s1.net.qsType = 1 || first)) } : State).cxUse 3 257 := by
  have hgo : (s1.logState ≠ 1 || s1.log.sector.isSome || s1.logSectors = 0 || !s1.pwr.core : Bool) = false := by
    simp [hst, hfree, hsectors, hcore]
  simp only [State.sectorWrite, h1, hgo, hq, Bool.false_eq_true, if_false]

/-- CORE wakes for Burnish at a lag of 4,096 words (R667). -/
theorem burnishWake_lag {s : State} (hcore : s.pwr.core = false) (hshut : s.pwr.shut = false) (hheld : s.pwr.held = false)
    (hlag : s.bg.pos + 4096 ≤ s.burnishTarget) : s.burnishWake = (s.coreWakeOn 0x400).burnishCatchUp :=
  if_neg (by simp [hcore, hshut, hheld, hlag])

/-- A power sample in CORE, by the stage that its conditions ask for below the cut-off (R672, R673). -/
theorem limiterSample_core {s s1 : State} {power : Nat} (hcore : s.pwr.core = true)
    (h1 : ({ s with bg.power := (power :: s.bg.power).take 10000 } : State).put 0x6013 0 (((power :: s.bg.power).take 10000).sum / 10000) = s1)
    (h4 : s1.stageCond 4 false = false) :
    (s1.stageCond 3 false = true → s1.bg.stage < 3 → s.limiterSample power none = s1.setStage 3) ∧
    (s1.stageCond 3 false = false → s1.stageCond 2 false = true → s1.bg.stage < 2 → s.limiterSample power none = s1.setStage 2) ∧
    (s1.stageCond 3 false = false → s1.stageCond 2 false = false → s1.stageCond 1 false = true → s1.bg.stage = 0 →
      s.limiterSample power none = s1.setStage 1) ∧
    (s1.stageCond 3 false = false → s1.stageCond 2 false = false → s1.stageCond 1 false = false → s1.bg.stage ≠ 0 →
      s1.stageCond s1.bg.stage true = false → s.limiterSample power none = { s1 with bg.calmAt := some (s1.bg.calmAt.getD s1.now) }) := by
  have hon : s.limiterSample power none = s.limiterSampleOn power none := if_pos hcore
  rw [hon]
  unfold State.limiterSampleOn
  refine ⟨fun h3 hst => ?_, fun h3 h2 hst => ?_, fun h3 h2 hone hst => ?_, fun h3 h2 hone hst hcalm => ?_⟩
  · simp only [h1, h4, h3, hst, Bool.false_eq_true, if_true, if_false]
    rfl
  · simp only [h1, h4, h3, h2, hst, Bool.false_eq_true, if_true, if_false]
    rfl
  · simp only [h1, h4, h3, h2, hone, hst, Bool.false_eq_true, if_true, if_false]
    rfl
  · simp only [h1, h4, h3, h2, hone, hst, hcalm, Nat.not_lt_zero, decide_false, Bool.or_self, Bool.false_eq_true, if_false]

/-- With CORE off only the 125 °C limit acts (R665, R672). -/
theorem limiterSample_aon {s : State} {power : Nat} {temp : Int} (hcore : s.pwr.core = false) (hvaon : s.pwr.vaon = true)
    (hst : s.bg.stage < 4) (htemp : 1250 ≤ temp) : s.limiterSample power (some temp) = (s.setStage 4).thermalCut := by
  simp only [State.limiterSample, hcore, hvaon, hst, htemp, Option.map_some, Option.getD_some, decide_true, Bool.and_self, if_true,
    Bool.false_eq_true, if_false]

/-- A second of calm lowers the stage by one (R673). -/
theorem stageFall_calm {s : State} {c : Nat} (hcore : s.pwr.core = true) (hst : 0 < s.bg.stage) (hc : s.bg.calmAt = some c)
    (hdue : c + secs 1 ≤ s.now) : s.stageFall = s.setStage (s.bg.stage - 1) := by
  simp only [State.stageFall, hcore, hst, hc, hdue, Option.map_some, Option.getD_some, decide_true, Bool.and_self, if_true]

/-- Settles O60, command by command. -/
theorem backgroundCommandsComplete : Obligations.BackgroundCommandsComplete := by
  unfold Obligations.BackgroundCommandsComplete
  intro t s s0 h0
  refine ⟨fun hlive hcore => ⟨fun part word item hidle hpos => ⟨fun hmore => ?_, fun hlast => ?_, fun s1 h1 => ?_⟩,
      fun hport hdue => ends_of_run rfl h0 ((whenLive_live hlive).trans (canTelemetry_due hport hcore hdue)),
      fun e rest s1 hbuf hidle h1 => ends_of_run rfl h0 ((whenLive_live hlive).trans (headWrite_idle hbuf hcore hidle h1)),
      fun first q s1 h1 hst hfree hsectors hup hq => ends_of_run rfl h0 ((whenLive_live hlive).trans
        (sectorWrite_ready h1 hst hfree hsectors hup hq))⟩,
    fun hcore hshut hheld hlag => ends_of_run rfl h0 (burnishWake_lag hcore hshut hheld hlag),
    fun power s1 hcore h1 h4 => ?_, fun power temp hcore hvaon hst htemp => ends_of_run rfl h0 (limiterSample_aon hcore hvaon hst htemp),
    fun c hcore hst hc hdue => ends_of_run rfl h0 (stageFall_calm hcore hst hc hdue)⟩
  · exact ends_of_run rfl h0 ((whenLive_live hlive).trans ((burnishStep_behind hcore hidle hpos).trans (if_pos hmore)))
  · exact ends_of_run rfl h0 ((whenLive_live hlive).trans ((burnishStep_behind hcore hidle hpos).trans (if_neg (Nat.not_lt.2 hlast))))
  · exact ends_of_run rfl h0 ((whenLive_live hlive).trans ((burnishStep_behind hcore hidle hpos).trans (congrArg State.burnishNext h1)))
  · obtain ⟨h3, h2, hone, hcalm⟩ := limiterSample_core hcore h1 h4
    exact ⟨fun hc hst => ends_of_run rfl h0 (h3 hc hst), fun hc hc2 hst => ends_of_run rfl h0 (h2 hc hc2 hst),
      fun hc hc2 hc1 hst => ends_of_run rfl h0 (hone hc hc2 hc1 hst),
      fun hc hc2 hc1 hst hlow => ends_of_run rfl h0 (hcalm hc hc2 hc1 hst hlow)⟩

end Sys2Proof.Machine
end
